-- ==== Sys2Proof/Word.lean ====
section
/-! DEFINITION. The word types of the GYX-6400 model (R7: fields are little-endian) and its sparse store type. -/

namespace Sys2Proof

/-- One byte. -/
abbrev Byte := BitVec 8

/-- One 32-bit word: word registers, register fields, long wires. -/
abbrev Word := BitVec 32

/-- One 64-bit memory word (R338: the unit of SECDED, valid bits and poison). -/
abbrev DWord := BitVec 64

/-- A 16-bit status or fault code (R528). -/
abbrev Status := BitVec 16

/-- A store with few listed entries: keys strictly rising, an unlisted key reads as the store's default.
The operations on it are in `Sys2Proof.Machine.Tab`. -/
abbrev Tab (α : Type) := List (Nat × α)

/-- A 16-byte record: fail record (R244), transition record (R275), time stamp (R400). -/
abbrev Rec16 := BitVec 128

end Sys2Proof
end

