-- ==== Sys2Proof/Syntax.lean ====
section
/-! DEFINITION. The commands of the block: one constructor per row of spec/opcode_table.json.
A mailbox command (groups 0x01 to 0x0C of R440) names `src`, the place its request record (R425) waits in: mailbox
channel 0 to 15, or relay slot 16 and up for a command another unit relayed (R430). Every other row is an event at the
block's boundary or inside it; its operands say where it happens and what arrives from outside. -/

namespace Sys2Proof

/-- What a bundle watchdog (R112) times. -/
inductive WatchdogWait where
  /-- a pane's RECV -/
  | recv (sash : Fin 64) (pane : Fin 256)
  /-- a wait at H1 for the named late sash -/
  | late (sash : Fin 64)
  /-- a wait for the cross-unit arrival of the named part -/
  | crossUnit (part : Nat)
  deriving DecidableEq, Repr

/-- How a hinge token reaches the unit: a link-mode lane (R124) or a LINK_HINGE chain frame (R398). -/
inductive TokenPath where
  | lane (lane : Fin 64) (seq : BitVec 8)
  | chain (part : Nat)
  deriving DecidableEq, Repr

/-- A link of a ring, by the stop it leaves (R96, R97). -/
structure RingLink where
  ring : Fin 4
  stop : Fin 82
  deriving DecidableEq, Repr

/-- Vector ALU operations of R289. -/
inductive VecOp where
  | vadd | vsub | vand | vor | vxor | vshl | vsar | vperm
  deriving DecidableEq, Repr

/-- Scalar ALU operations of R289, and CLRF of R288. -/
inductive ScalOp where
  | add | sub | and | or | xor | shl | shr | sar | cmp | mov | muls | clrf
  deriving DecidableEq, Repr

/-- The second operand of a scalar or addressing operation: a scalar or an immediate (R289). -/
inductive ScalArg where
  | reg (r : Fin 16)
  | imm (v : BitVec 32)
  deriving DecidableEq, Repr

/-- The register an addressing operation loads: SETA, SETB or SETL. -/
inductive AddrReg where
  | a | b | l
  deriving DecidableEq, Repr

/-- The flow operations of R289. -/
inductive FlowOp where
  | brZ | brNZ | brN | brNN | br | call | ret
  deriving DecidableEq, Repr

/-- A descriptor of the casement's transfer engine. The spec gives no layout (R289); the fields are those any transfer needs. -/
structure XferDesc where
  toUnit : Bool
  casAddr : BitVec 22
  unitAddr : BitVec 40
  lines : Nat
  task : Nat
  flag : Fin 28
  deriving DecidableEq, Repr

/-- The functions that own an accelerator queue (R310, R314): the mapper serves MODULATE, DEMAP and NMEAS, the rebuilder
REBUILD and SWAP. -/
inductive AccelUnit where
  | fft | encoder | decoder | mapper | rebuilder | burst | psrel | gain
  deriving DecidableEq, Repr

/-- One chain frame (R383, R384) as it is received: header block, payload bytes, CRC32, and its direction. -/
structure ChainFrame where
  hdr : BitVec 64
  payload : List Byte
  crc : BitVec 32
  forward : Bool
  deriving DecidableEq, Repr

/-- The two chain ports of R381. -/
inductive ChainPort where
  | cynIn | cynOut
  deriving DecidableEq, Repr

/-- The fields of an IEEE 1588 Announce message that the default best-master-clock algorithm compares (R408). -/
structure PtpAnnounce where
  priority1 : BitVec 8
  clockClass : BitVec 8
  accuracy : BitVec 8
  variance : BitVec 16
  priority2 : BitVec 8
  identity : BitVec 64
  deriving DecidableEq, Repr

/-- The outcome of reading and authenticating a firmware image (R436). -/
inductive AuthResult where
  | pass (version : BitVec 32)
  | badFormat | badSignature | rollback
  /-- the flash holds no image -/
  | noImage
  deriving DecidableEq, Repr

/-- What is lost or restored in R498. -/
inductive Pll where
  | laneStep | refLane | refSys | system
  deriving DecidableEq, Repr

/-- The commands of the block, in the order of spec/opcode_table.json. -/
inductive Instr where
  /-- IDENTITY (R448): System command that returns SYS_ID, firmware version, serial number, UA and boot state. -/
  | identity (src : Nat)
  /-- BOOT_LOAD (R437): Boot-ROM command on channel 0 that fetches a firmware image from host memory and authenticates it. -/
  | bootLoad (src : Nat)
  /-- TICKET (R429): Returns the state, progress and final status of a long-command ticket. -/
  | ticket (src : Nat)
  /-- CANCEL (R447): Ends a long command at its next slice boundary with ST_ABORTED, or reports it as not cancellable. -/
  | cancel (src : Nat)
  /-- DESCRIPTOR (R166): Returns the unit's read-only latency descriptor entries. -/
  | descriptor (src : Nat)
  /-- INVENTORY (R349): Returns the fused spare columns in use for a range of memories. -/
  | inventory (src : Nat)
  /-- KEYSLOT_INSTALL (R449): KEYSLOT OP 0 installs a P-384 public key in an empty slot. -/
  | keyslotInstall (src : Nat)
  /-- KEYSLOT_REVOKE (R449): KEYSLOT OP 1 revokes the key in a slot. -/
  | keyslotRevoke (src : Nat)
  /-- KEYSLOT_READ (R449): KEYSLOT OP 2 returns the occupancy, the signed-only setting and the hash of a slot's key. -/
  | keyslotRead (src : Nat)
  /-- KEYSLOT_SIGNED_ONLY (R449): KEYSLOT OP 3 sets the signed-only setting permanently until reset. -/
  | keyslotSignedOnly (src : Nat)
  /-- LOUVRE (R114): Writes a stop's louvre word for VC1 or VC2 and posts the change. -/
  | louvre (src : Nat)
  /-- LOAD (R145): Loads an Agsen image onto a site through the check, route, write and verify phases. -/
  | load (src : Nat)
  /-- UNLOAD (R150): Removes a site's image and stop entries and returns the site to EMPTY. -/
  | unload (src : Nat)
  /-- REWIND (R151): Returns a HALTED or FAULTED site to the start state without reading the image again. -/
  | rewind (src : Nat)
  /-- TRANSOM (R154): Checks a transom and stages it in every sash of a site for a named hinge or for NOW. -/
  | transom (src : Nat)
  /-- SITE_STATUS (R452): Returns a site's status record. -/
  | siteStatus (src : Nat)
  /-- SITE_RESET (R150): Per-site reset that stops the site, removes its stop entries and leaves it EMPTY. -/
  | siteReset (src : Nat)
  /-- ARM (R453): Enables a site's pin engines, compare masks, triggers and links, opens its fail set and moves it to ARMED. -/
  | arm (src : Nat)
  /-- DISARM (R150): Returns an ARMED site to LOADED or HALTED. -/
  | disarm (src : Nat)
  /-- START (R454): Moves every named ARMED site to RUNNING at one step. -/
  | start (src : Nat)
  /-- START_AT (R411): Schedules the named ARMED sites to start at the step that contains a given device time. -/
  | startAt (src : Nat)
  /-- STOP (R454): Sets a halt pending on the named RUNNING sites and cancels pending START_ATs. -/
  | stop (src : Nat)
  /-- POLICY (R223): Changes a site's run-ahead policy while it is LOADED or HALTED. -/
  | policy (src : Nat)
  /-- WATCHDOG (R112): Sets a site's bundle watchdog W while the site is not running. -/
  | watchdog (src : Nat)
  /-- RA_STATUS (R243): Returns a site's run-ahead record. -/
  | raStatus (src : Nat)
  /-- CALIBRATE (R200): Measures round trips and pin offsets on a set of free lanes and stores calibration records. -/
  | calibrate (src : Nat)
  /-- MASK (R204): Writes compare-mask rows into the inactive copy and optionally marks it complete. -/
  | mask (src : Nat)
  /-- MASK_SWAP (R204): Requests a mask-table swap at slot 0 of a named cycle on a set of lanes. -/
  | maskSwap (src : Nat)
  /-- PINFIELD (R535): Writes an H-class pin field, applied at the next frame or cycle boundary. -/
  | pinfield (src : Nat)
  /-- PIN_STATUS (R221): Returns a lane's pin-engine status record. -/
  | pinStatus (src : Nat)
  /-- FAIL_CLEAR (R254): Validates and zero-fills a fail set's areas and writes its header as CLEARED. -/
  | failClear (src : Nat)
  /-- FAIL_SUMMARY (R257): Returns part of a fail set's header with live counts. -/
  | failSummary (src : Nat)
  /-- FAIL_READOUT (R269): Copies a CLOSED set's records to host memory by DMA with pads removed. -/
  | failReadout (src : Nat)
  /-- REPAIR (R265): Queues or runs repair analysis of a closed set's bitmap and counters. -/
  | repair (src : Nat)
  /-- FILTER (R264): Writes repair-filter entries into the inactive copy and optionally marks it complete. -/
  | filter (src : Nat)
  /-- FILTER_SWAP (R264): Requests a repair-filter swap at slot 0 of a named cycle. -/
  | filterSwap (src : Nat)
  /-- TRIGFIELD (R282): Writes an H-class trigger field, applied from the next frame. -/
  | trigfield (src : Nat)
  /-- TRIGFORCE (R458): Fires the trigger of a READY trigger unit at the slot being decoded. -/
  | trigforce (src : Nat)
  /-- REARM (R278): Returns a DONE trigger unit to READY and empties its store. -/
  | rearm (src : Nat)
  /-- TRIG_STATUS (R283): Returns a trigger unit's status record. -/
  | trigStatus (src : Nat)
  /-- TRIG_READOUT (R284): Copies a DONE unit's acquisition to host memory. -/
  | trigReadout (src : Nat)
  /-- JOB_LOAD (R293): Loads a casement job image after format, CRC, signature and contract checks. -/
  | jobLoad (src : Nat)
  /-- JOB_UNLOAD (R293): Unloads a job image none of whose jobs lives. -/
  | jobUnload (src : Nat)
  /-- SUBMIT (R294): Host submission of a job, with deadline admission for DEADLINE jobs. -/
  | submit (src : Nat)
  /-- JOB_STOP (R296): Ends a job at its next boundary with ST_ABORTED. -/
  | jobStop (src : Nat)
  /-- SIGNAL (R297): Host command that sets event flags 0 to 27 of a task. -/
  | signal (src : Nat)
  /-- ITEM (R300): Host write of an item into a task's input queue, refused when full. -/
  | item (src : Nat)
  /-- EVMAP_MAP (R459): Binds a chain EVENT identifier to a task flag. -/
  | evmapMap (src : Nat)
  /-- EVMAP_UNMAP (R459): Removes the binding of a chain EVENT identifier to a task flag. -/
  | evmapUnmap (src : Nat)
  /-- CCW (R301): Writes a casement's tick and non-preemptive limit. -/
  | ccw (src : Nat)
  /-- CONTEXT_GEOMETRY (R459): CONTEXT form 1 sets FIRSTBIN and NSC of a loading context. -/
  | contextGeometry (src : Nat)
  /-- CONTEXT_SCALE (R314): CONTEXT form 2 writes the scale table of a loading context. -/
  | contextScale (src : Nat)
  /-- CONTEXT_THRESHOLD (R316): CONTEXT form 3 writes the threshold table of a loading context. -/
  | contextThreshold (src : Nat)
  /-- CONTEXT_BIT_TABLE (R459): CONTEXT form 4 writes bit-table entries into both copies. -/
  | contextBitTable (src : Nat)
  /-- LINK_CFG (R317): Configures or deletes a JESD204C stream link. -/
  | linkCfg (src : Nat)
  /-- STREAM_OPEN (R319): Opens a stream on a link with a ring buffer, control block and start time. -/
  | streamOpen (src : Nat)
  /-- STREAM_CLOSE (R459): Completes the block in progress, closes the stream and posts ST_ABORTED to its task. -/
  | streamClose (src : Nat)
  /-- FIR_COEFFICIENTS (R323): STREAM_CFG form 1 writes FIR coefficients into a bank that is not in use. -/
  | firCoefficients (src : Nat)
  /-- FIR_BANK_SELECT (R323): STREAM_CFG form 2 selects the FIR bank from the next symbol boundary. -/
  | firBankSelect (src : Nat)
  /-- RAMP_UP_TABLE (R324): STREAM_CFG form 3 writes UP ramp-profile entries, subject to the stepping rule of R181. -/
  | rampUpTable (src : Nat)
  /-- RAMP_DOWN_TABLE (R324): STREAM_CFG form 4 writes DOWN ramp-profile entries, subject to the stepping rule of R181. -/
  | rampDownTable (src : Nat)
  /-- MASK_MONITOR_CFG (R325): STREAM_CFG form 5 sets the averaging and the spectral mask of the mask monitor. -/
  | maskMonitorCfg (src : Nat)
  /-- HYPOTHESIS_CFG (R326): STREAM_CFG form 6 sets a packet-search hypothesis. -/
  | hypothesisCfg (src : Nat)
  /-- CAPTURE_POLICY (R328): STREAM_CFG form 7 sets the capture policy, SWM and MAXLEN. -/
  | capturePolicy (src : Nat)
  /-- GAIN (R329): Host order to queue a gain word on a front-end port, optionally at a device time. -/
  | gain (src : Nat)
  /-- TRAIN (R343): Trains the named DDR5 channels from their SPD. -/
  | train (src : Nat)
  /-- MEMCFG (R344): Sets the DDR address map to LINEAR or INTERLEAVE while no region is valid. -/
  | memcfg (src : Nat)
  /-- SWEEP (R348): Fills and validates every invalid DDR region of the named channels. -/
  | sweep (src : Nat)
  /-- INVALIDATE (R341): Clears the valid bits of the named lines or DDR regions. -/
  | invalidate (src : Nat)
  /-- REMAP (R352): REMAP OP 0 remaps a named address into a spare. -/
  | remap (src : Nat)
  /-- REMAP_FREE (R352): REMAP OP 1 writes a spare's contents back and frees its entry. -/
  | remapFree (src : Nat)
  /-- MEMPOLICY (R355): Writes a memory's control word and posts the change. -/
  | mempolicy (src : Nat)
  /-- MEMSTATUS (R356): Returns a memory's status record and remap table, optionally clearing the counters. -/
  | memstatus (src : Nat)
  /-- COPY (R435): DMA copy between host memory and unit address space. -/
  | copy (src : Nat)
  /-- LANE_MODE (R182): Sets the mode and rate of a lane whose sash belongs to no site. -/
  | laneMode (src : Nat)
  /-- LANE_CTL (R363): Writes a lane's control word: transmit settings, polarity, FREEZE and LINK_IDLE. -/
  | laneCtl (src : Nat)
  /-- DESKEW (R462): Writes a lane's calibration record directly. -/
  | deskew (src : Nat)
  /-- REFSPREAD (R361): Declares the reference spread while every lane is idle. -/
  | refspread (src : Nat)
  /-- MARGIN (R367): Sets a lane's eye-margin limits. -/
  | margin (src : Nat)
  /-- LANE_IDLE_ENTER (R368): IDLE OP 0 puts a lane that is not running into electrical idle after EIDLE blocks. -/
  | laneIdleEnter (src : Nat)
  /-- LANE_IDLE_EXIT (R369): IDLE OP 1 starts a lane's exit from electrical idle with a training burst. -/
  | laneIdleExit (src : Nat)
  /-- BITSLIP (R373): Moves a direct-mode lane's RX word boundary by a number of UI. -/
  | bitslip (src : Nat)
  /-- PHY_STATUS (R380): Returns a lane's PHY status record, optionally clearing the counters. -/
  | phyStatus (src : Nat)
  /-- ENUMERATE (R390): Makes the unit head of a segment and sends the ENUM frame that assigns addresses. -/
  | enumerate (src : Nat)
  /-- STICKY_SET (R391): Sets the sticky-address flag so that the unit keeps its UA. -/
  | stickySet (src : Nat)
  /-- STICKY_CLEAR (R391): Clears the sticky-address flag. -/
  | stickyClear (src : Nat)
  /-- GATEWAY_OWN_ADDRESS (R399): GATEWAY OP 0 gives the unit an IPv4 address and UDP port and makes it a gateway. -/
  | gatewayOwnAddress (src : Nat)
  /-- GATEWAY_ADD_PEERS (R399): GATEWAY OP 1 adds peer segment gateways to the table. -/
  | gatewayAddPeers (src : Nat)
  /-- GATEWAY_CLEAR (R399): GATEWAY OP 2 clears the gateway configuration. -/
  | gatewayClear (src : Nat)
  /-- TCTL (R403): Writes the time control word: domain, sync period, role and FREEZE. -/
  | tctl (src : Nat)
  /-- TIME_SET (R404): Steps the time of a ROLE 1 master once. -/
  | timeSet (src : Nat)
  /-- TIME_UNLOCK (R402): Increments EPOCH and returns the servo to UNLOCKED. -/
  | timeUnlock (src : Nat)
  /-- RATE (R401): Writes the time counter RATE while FREEZE is set. -/
  | rate (src : Nat)
  /-- TIMED (R412): Programs a timed-event generator with pin or internal target, width, count, first time and period. -/
  | timed (src : Nat)
  /-- TIMED_CLEAR (R412): Stops a timed-event generator. -/
  | timedClear (src : Nat)
  /-- PTP (R408): Sets the IEEE 1588 transport and IP settings. -/
  | ptp (src : Nat)
  /-- CHAIN_STATUS (R413): Returns the time and chain records, optionally clearing the counters. -/
  | chainStatus (src : Nat)
  /-- ENUM_MAP (R390): Returns the occupancy map of the last enumeration from the head. -/
  | enumMap (src : Nat)
  /-- DOMAIN_SET (R471): Commands a domain into ON, CLOCK_OFF, RETAIN or OFF. -/
  | domainSet (src : Nat)
  /-- DOMAIN_UNLOCK (R478): DOMAIN_LOCK OP 0 unlocks a domain and leaves it OFF. -/
  | domainUnlock (src : Nat)
  /-- DOMAIN_LOCK_OFF (R478): DOMAIN_LOCK OP 1 locks an OFF domain so that accesses are refused. -/
  | domainLockOff (src : Nat)
  /-- DOMAIN_HOLD_ON (R464): DOMAIN_LOCK OP 2 holds a domain on, so that low-power entry is refused with HOST_HOLD. -/
  | domainHoldOn (src : Nat)
  /-- DOMAIN_HOLD_RELEASE (R464): DOMAIN_LOCK OP 3 releases the hold on a domain. -/
  | domainHoldRelease (src : Nat)
  /-- POWER_POLICY (R484): Sets AUTO, TARGET and IDLE_US of a domain's idle policy. -/
  | powerPolicy (src : Nat)
  /-- POWER_STATUS (R485): Returns a domain's power state, flags, refusals and wakes. -/
  | powerStatus (src : Nat)
  /-- THERMAL_READ (R465): THERMAL OP 0 returns the junction temperature, the limits and the thermal state. -/
  | thermalRead (src : Nat)
  /-- THERMAL_SET_ALARM (R465): THERMAL OP 1 sets the thermal alarm limit. -/
  | thermalSetAlarm (src : Nat)
  /-- SASH_STATUS (R71): Returns a sash's counter record, optionally clearing it. -/
  | sashStatus (src : Nat)
  /-- WCELL_STATUS (R95): Returns a sash's word-cell record. -/
  | wcellStatus (src : Nat)
  /-- KEYHOLE_SEL (R503): Selects the probe source of a KEYHOLE pin or of a keyhole-lane tap. -/
  | keyholeSel (src : Nat)
  /-- KEYHOLE_LANE_TAKE (R505): KEYHOLE_LANE OP 1 takes a free lane for keyhole frames and holds its sash on. -/
  | keyholeLaneTake (src : Nat)
  /-- KEYHOLE_LANE_RELEASE (R505): KEYHOLE_LANE OP 0 releases the keyhole lane and ends the hold. -/
  | keyholeLaneRelease (src : Nat)
  /-- PEEK (R466): Returns the net bits, state bits, shadow, word registers or exchange of a pane or cell. -/
  | peek (src : Nat)
  /-- MBX_DOORBELL (R424): Doorbell write with SEQ that accepts, re-presents or rejects a mailbox command. -/
  | mbxDoorbell (ch : Fin 16) (v : BitVec 32)
  /-- MBX_CHANNEL_RESET (R427): Doorbell write with RESET = 1 that returns a channel to IDLE. -/
  | mbxChannelReset (ch : Fin 16)
  /-- HIF_IRQ_STATUS_CLEAR (R417): W1C write to HIF_IRQ_STATUS that clears interrupt flags. -/
  | hifIrqStatusClear (v : BitVec 32)
  /-- HIF_IRQ_MASK_WRITE (R417): Write of HIF_IRQ_MASK; unmasking a set bit sends its MSI-X message at once. -/
  | hifIrqMaskWrite (v : BitVec 32)
  /-- HIF_WIN_BASE_WRITE (R418): Moves the BAR2 window for every later BAR2 request. -/
  | hifWinBaseWrite (v : BitVec 32)
  /-- HIF_EVQ_CTL_WRITE (R432): Writes the event-ring control; setting EN resets PROD to index 0 with PHASE 1. -/
  | hifEvqCtlWrite (v : BitVec 32)
  /-- HIF_EVQ_CONS_WRITE (R434): Host advances the consumer index, freeing room for held events. -/
  | hifEvqConsWrite (v : BitVec 32)
  /-- BAR0_BAD_ACCESS (R416): BAR0 access of the wrong size or alignment reads zero, discards the write and sets ERR. -/
  | bar0BadAccess (off : BitVec 16) (size : Nat) (write : Bool)
  /-- REGISTER_WRITE (R11): Write to a register or field without a row of its own, applied by its access type and field class. -/
  | registerWrite (off : BitVec 16) (size : Nat) (v : BitVec 64)
  /-- COMMIT_GROUP_COMMIT (R159): Commit word ACT 0b01 applies a commit group's shadow at its boundary. -/
  | commitGroupCommit (group : Nat)
  /-- COMMIT_GROUP_DISCARD (R158): Commit word ACT 0b10 reloads a group's shadow from the values in use. -/
  | commitGroupDiscard (group : Nat)
  /-- BAR2_READ (R419): Host read through BAR2, turned into VC1 requests after earlier writes. -/
  | bar2Read (off : BitVec 36) (len : Nat)
  /-- BAR2_WRITE (R419): Host write through BAR2, turned into VC1 requests. -/
  | bar2Write (off : BitVec 36) (data : List (BitVec 8))
  /-- BAR2_TIMEOUT (R421): BAR2 request unanswered for 200 µs completes with zero data and ST_HIF_TIMEOUT. -/
  | bar2Timeout (req : Nat)
  /-- EVENT_POST (R434): Writes a held or new event into the ring when there is room, or holds or discards it. -/
  | eventPost
  /-- TICKET_EXPIRY (R429): An ended ticket's 60 s retention lapses and the ticket may be dropped. -/
  | ticketExpiry (ticket : BitVec 32)
  /-- PANE_NOP (R40): Pane NOP writes 0 to net bit k. -/
  | paneNop (sash : Fin 64) (pane : Fin 256)
  /-- LUT4 (R39): Pane evaluates a 4-input truth table into net bit k. -/
  | lut4 (sash : Fin 64) (pane : Fin 256)
  /-- LUT3S (R40): Pane evaluates a 3-input truth table into net bit k and the next-state shadow. -/
  | lut3s (sash : Fin 64) (pane : Fin 256)
  /-- SEND (R53): Pane writes a bit into an outgoing bundle buffer. -/
  | send (sash : Fin 64) (pane : Fin 256)
  /-- RECV (R53): Pane reads a bit of an incoming bundle, stalling while it has not arrived. -/
  | recv (sash : Fin 64) (pane : Fin 256)
  /-- MEMRD (R47): Pane reads a scratchpad bit that lands three steps later. -/
  | memrd (sash : Fin 64) (pane : Fin 256)
  /-- MEMWR (R47): Pane writes a bit to the sash's scratchpad. -/
  | memwr (sash : Fin 64) (pane : Fin 256)
  /-- PINOUT (R46): Pane writes one bit of a drive code in the outbound queue. -/
  | pinout (sash : Fin 64) (pane : Fin 256)
  /-- PININ (R51): Pane reads a response bit, waits for it with D = 0, or speculates with D ≥ 1. -/
  | pinin (sash : Fin 64) (pane : Fin 256)
  /-- PANE_CMP_PIN (R44): Pin-form CMP posts an expect code to the pin engine. -/
  | paneCmpPin (sash : Fin 64) (pane : Fin 256)
  /-- PANE_CMP_MODEL_CHECK (R45): Model-check CMP posts a record with flags 0b11 when two bits differ. -/
  | paneCmpModelCheck (sash : Fin 64) (pane : Fin 256)
  /-- WPUT (R52): Pane writes one bit of a word cell's input word. -/
  | wput (sash : Fin 64) (pane : Fin 256)
  /-- WGET (R52): Pane reads one bit of a word cell's output word. -/
  | wget (sash : Fin 64) (pane : Fin 256)
  /-- PROBE (R40): Pane copies a bit to a keyhole tap. -/
  | probe (sash : Fin 64) (pane : Fin 256)
  /-- MEMRD_LANDING (R50): The bit read by a MEMRD lands in its net bit at the contracted latency. -/
  | memrdLanding (sash : Fin 64) (pane : Fin 256)
  /-- WC_NOP (R80): Word-cell NOP. -/
  | wcNop (sash : Fin 64) (cell : Fin 64)
  /-- WC_ADD (R80): Word-cell add with flags, optionally driving a long wire. -/
  | wcAdd (sash : Fin 64) (cell : Fin 64)
  /-- WC_SUB (R80): Word-cell subtract with flags. -/
  | wcSub (sash : Fin 64) (cell : Fin 64)
  /-- WC_AND (R80): Word-cell AND. -/
  | wcAnd (sash : Fin 64) (cell : Fin 64)
  /-- WC_OR (R80): Word-cell OR. -/
  | wcOr (sash : Fin 64) (cell : Fin 64)
  /-- WC_XOR (R80): Word-cell XOR. -/
  | wcXor (sash : Fin 64) (cell : Fin 64)
  /-- WC_ANDN (R80): Word-cell AND NOT. -/
  | wcAndn (sash : Fin 64) (cell : Fin 64)
  /-- WC_SHL (R80): Word-cell shift left. -/
  | wcShl (sash : Fin 64) (cell : Fin 64)
  /-- WC_SHR (R80): Word-cell logical shift right. -/
  | wcShr (sash : Fin 64) (cell : Fin 64)
  /-- WC_SAR (R80): Word-cell arithmetic shift right. -/
  | wcSar (sash : Fin 64) (cell : Fin 64)
  /-- WC_ROL (R80): Word-cell rotate left. -/
  | wcRol (sash : Fin 64) (cell : Fin 64)
  /-- WC_MULU (R81): Word-cell unsigned 16x16 multiply with contracted latency. -/
  | wcMulu (sash : Fin 64) (cell : Fin 64)
  /-- WC_MULS (R81): Word-cell signed 16x16 multiply with contracted latency. -/
  | wcMuls (sash : Fin 64) (cell : Fin 64)
  /-- MUL_PRODUCT_LAND (R81): A multiply's product lands in its register and drives its wire, ending any hold. -/
  | mulProductLand (sash : Fin 64) (cell : Fin 64)
  /-- WC_CMP (R80): Word-cell compare that sets flags. -/
  | wcCmp (sash : Fin 64) (cell : Fin 64)
  /-- WC_MOV (R80): Word-cell move of operand B. -/
  | wcMov (sash : Fin 64) (cell : Fin 64)
  /-- WC_BREV (R80): Word-cell bit reversal of the low n bits. -/
  | wcBrev (sash : Fin 64) (cell : Fin 64)
  /-- WC_SCR (R80): Word-cell scramble through the scramble table. -/
  | wcScr (sash : Fin 64) (cell : Fin 64)
  /-- WC_POPC (R80): Word-cell population count of A AND B. -/
  | wcPopc (sash : Fin 64) (cell : Fin 64)
  /-- WC_CLZ (R80): Word-cell count of leading zeros. -/
  | wcClz (sash : Fin 64) (cell : Fin 64)
  /-- WC_IN (R86): Word cell reads its input word. -/
  | wcIn (sash : Fin 64) (cell : Fin 64)
  /-- WC_OUT (R86): Word cell writes its output word. -/
  | wcOut (sash : Fin 64) (cell : Fin 64)
  /-- WC_MAL (R87): Word cell writes a scratchpad address latch. -/
  | wcMal (sash : Fin 64) (cell : Fin 64)
  /-- HINGE (R56): After step S − 1 a sash completes its landings, hands over bundles and raises arrival (H0 to H1). -/
  | hinge (sash : Fin 64)
  /-- HINGE_RELEASE (R60): The root decides fault, halt or continue once every arrival and pacing condition holds, and H3 to H5 follow. -/
  | hingeRelease (site : Fin 16)
  /-- TRANSOM_COMMIT (R155): The transom commit with h reaches the site's root after staging, or the transom is refused late. -/
  | transomCommit (site : Fin 16)
  /-- PATCH_RETIRE (R153): Background retirement writes an applied patch into the instruction store and frees the entry. -/
  | patchRetire (sash : Fin 64) (pane : Fin 256) (addr : BitVec 9)
  /-- BUNDLE_LAUNCH (R105): A bundle is copied into its VC0 injection queue at its launch step, or the sender stalls. -/
  | bundleLaunch (sash : Fin 64) (tag : Fin 64)
  /-- FLIT_HOP (R98): A flit crosses one ring link into the next stop, is CRC-checked and forwarded. -/
  | flitHop (link : RingLink) (errs : BitVec 544)
  /-- BUNDLE_EJECT (R107): A bundle is ejected into its incoming bank and sets the arrival flag, ending a BUNDLE stall. -/
  | bundleEject (flit : Nat)
  /-- BUNDLE_WATCHDOG_EXPIRY (R112): A wait of W steps ends a RECV, H1 or cross-unit wait with a timeout fault. -/
  | bundleWatchdogExpiry (site : Fin 16) (w : WatchdogWait)
  /-- WORM_INJECT (R113): A VC1 or VC2 worm is injected when its louvre and ring buffer allow. -/
  | wormInject (worm : Nat)
  /-- RING_RETRY (R116): A VC1 or VC2 flit failing CRC is replayed from the replay buffer. -/
  | ringRetry (worm : Nat) (ring : Fin 4) (stop : Fin 82)
  /-- RING_READ (R101): VC1 READ request served by its target memory. -/
  | ringRead (worm : Nat)
  /-- RING_WRITE (R101): VC1 WRITE request served by its target memory. -/
  | ringWrite (worm : Nat)
  /-- RING_ADD32 (R334): Atomic 32-bit add at the target. -/
  | ringAdd32 (worm : Nat)
  /-- RING_ADD64 (R334): Atomic 64-bit add at the target. -/
  | ringAdd64 (worm : Nat)
  /-- RING_SWAP (R334): Atomic 64-bit swap at an on-chip memory. -/
  | ringSwap (worm : Nat)
  /-- RING_OR (R334): Atomic OR of a 64-byte block. -/
  | ringOr (worm : Nat)
  /-- RING_RESP_DATA (R101): Data response returned to a requester. -/
  | ringRespData (worm : Nat)
  /-- RING_RESP_ACK (R101): Write acknowledgement returned to a requester. -/
  | ringRespAck (worm : Nat)
  /-- RING_RESP_ERR (R101): Error response returned to a requester. -/
  | ringRespErr (worm : Nat)
  /-- RING_CTRL (R101): Control worm delivered to its destination stop. -/
  | ringCtrl (worm : Nat)
  /-- STOP_DRAIN_DONE (R119): A stop with no VC1 or VC2 worm inside swaps its configuration banks and released worms proceed. -/
  | stopDrainDone (stop : Fin 82)
  /-- STOP_DRAIN_TIMEOUT (R121): A stop not drained within 2 µs keeps its active bank and retries after 50 µs. -/
  | stopDrainTimeout (stop : Fin 82)
  /-- STOP_RECONFIG_RETRY (R121): The 50 µs wait ends and the drain and swap is tried again, up to 8 times. -/
  | stopReconfigRetry (stop : Fin 82)
  /-- BUNDLE_FRAME (R126): A BUNDLE frame received on a link lane is delivered by route, poisoned on a bad CRC. -/
  | bundleFrame (lane : Fin 64) (hdr : BitVec 64) (bits : BitVec 512)
  /-- HINGE_ARRIVE (R125): An ARRIVE token reaches the parent unit. -/
  | hingeArrive (site : Fin 16) (via : TokenPath) (hinge : BitVec 16) (good : Bool)
  /-- HINGE_ARRIVE_FAULT (R125): An ARRIVE_FAULT token reaches the parent unit. -/
  | hingeArriveFault (site : Fin 16) (via : TokenPath) (hinge : BitVec 16) (good : Bool)
  /-- HINGE_RELEASE_CONTINUE (R125): A RELEASE_CONTINUE token releases the hinge in a child unit. -/
  | hingeReleaseContinue (site : Fin 16) (via : TokenPath) (hinge : BitVec 16) (good : Bool)
  /-- HINGE_RELEASE_HALT (R125): A RELEASE_HALT token halts the site's part at the hinge. -/
  | hingeReleaseHalt (site : Fin 16) (via : TokenPath) (hinge : BitVec 16) (good : Bool)
  /-- HINGE_RELEASE_FAULT (R125): A RELEASE_FAULT token faults the site's part at the hinge. -/
  | hingeReleaseFault (site : Fin 16) (via : TokenPath) (hinge : BitVec 16) (good : Bool)
  /-- CODE_ORIGIN (R187): The code origin is set once LEAD has passed and the pattern FIFOs are filled. -/
  | codeOrigin (site : Fin 16)
  /-- FRAME_ASSEMBLY (R188): A pin, direct or link frame is assembled from the released codes and handed to the PCS. -/
  | frameAssembly (lane : Fin 64)
  /-- RX_DATA_FRAME (R197): A DATA frame from the ASIC is decoded, checked and its responses compared. -/
  | rxDataFrame (lane : Fin 64) (hdr : BitVec 64) (payload : BitVec 1024)
  /-- RX_IDLE_FRAME (R196): An IDLE frame from the ASIC is checked for CRC and FCNT. -/
  | rxIdleFrame (lane : Fin 64) (hdr : BitVec 64) (payload : BitVec 1024)
  /-- RX_LOOPBACK_FRAME (R200): A LOOPBACK frame returned during calibration is measured and compared. -/
  | rxLoopbackFrame (lane : Fin 64) (hdr : BitVec 64) (payload : BitVec 1024)
  /-- RX_FRAME_TIMEOUT (R197): An RX frame not begun within RTBUD plus 66 UI faults the site. -/
  | rxFrameTimeout (lane : Fin 64)
  /-- DIRECT_RX_WORD (R213): A raw RX word is counted and compared by PRBS or echo. -/
  | directRxWord (lane : Fin 64) (w : BitVec 32)
  /-- FAIL_BUFFER_WRITE (R247): Records move from the mismatch FIFO into the fail buffer in a free port step. -/
  | failBufferWrite (sash : Fin 64)
  /-- FAIL_CHUNK_SEND (R248): The fail streamer sends a chunk of 32 records to the set's slice. -/
  | failChunkSend (sash : Fin 64)
  /-- FAIL_FLUSH_TIMEOUT (R248): The oldest buffered record reaches FLUSH_US and a padded chunk is sent. -/
  | failFlushTimeout (sash : Fin 64)
  /-- FAIL_CLOSE (R256): After halt or fault the fail path empties, copies counters, writes the header and posts FAIL_CLOSED. -/
  | failClose (site : Fin 16)
  /-- CYCLE_COMMIT (R222): The oldest uncommitted cycle commits once its responses are compared. -/
  | cycleCommit (site : Fin 16)
  /-- DIVERGENCE_DECIDED (R226): A decided divergence is handled by the site's run-ahead policy. -/
  | divergenceDecided (site : Fin 16)
  /-- ROLLBACK (R233): After V steps the site undoes hinges back to cycle c and starts replay. -/
  | rollback (site : Fin 16)
  /-- DELTA_WRITE (R229): The delta writer writes a checkpoint record line in a free port step. -/
  | deltaWrite (sash : Fin 64)
  /-- TRIG_RECORD_STORE (R276): Trigger records move from the FIFO to the trigger buffer in a free port step. -/
  | trigRecordStore (sash : Fin 64)
  /-- TRIG_SPILL_CHUNK (R277): Staged trigger records are sent as a chunk to the DDR acquisition area. -/
  | trigSpillChunk (sash : Fin 64)
  /-- TOUT_PULSE_END (R279): A trigger TIME_OUT pulse ends after TOUT_W steps. -/
  | toutPulseEnd (sash : Fin 64) (pin : Fin 4)
  /-- POST_SLOTS_EXPIRY (R278): POST_SLOTS grid slots after the trigger move the unit to DONE. -/
  | postSlotsExpiry (sash : Fin 64)
  /-- DSP_VLD (R289): Vector load through an address generator. -/
  | dspVld (cas : Fin 12) (core : Fin 8) (v : Fin 8) (g : Fin 8) (d : Int)
  /-- DSP_VST (R289): Vector store through an address generator. -/
  | dspVst (cas : Fin 12) (core : Fin 8) (v : Fin 8) (g : Fin 8) (d : Int)
  /-- DSP_SLD (R289): Scalar load. -/
  | dspSld (cas : Fin 12) (core : Fin 8) (r : Fin 16) (g : Fin 8) (d : Int)
  /-- DSP_SST (R289): Scalar store. -/
  | dspSst (cas : Fin 12) (core : Fin 8) (r : Fin 16) (g : Fin 8) (d : Int)
  /-- DSP_MUL (R289): Lane-wise multiply into the accumulators. -/
  | dspMul (cas : Fin 12) (core : Fin 8) (x : Fin 8) (y : Fin 8)
  /-- DSP_MAC (R290): Lane-wise multiply-accumulate with saturation. -/
  | dspMac (cas : Fin 12) (core : Fin 8) (x : Fin 8) (y : Fin 8)
  /-- DSP_MSU (R290): Lane-wise multiply-subtract with saturation. -/
  | dspMsu (cas : Fin 12) (core : Fin 8) (x : Fin 8) (y : Fin 8)
  /-- DSP_CMAC (R289): Complex multiply-accumulate. -/
  | dspCmac (cas : Fin 12) (core : Fin 8) (x : Fin 8) (y : Fin 8)
  /-- DSP_NARROW (R290): Rounds, shifts and saturates accumulators into a vector. -/
  | dspNarrow (cas : Fin 12) (core : Fin 8) (v : Fin 8) (n : Fin 25)
  /-- DSP_VECTOR_ALU (R289): Lane-wise vector ALU operation. -/
  | dspVectorAlu (cas : Fin 12) (core : Fin 8) (op : VecOp) (vd va vb : Fin 8)
  /-- DSP_SCALAR_ALU (R289): 32-bit scalar ALU operation. -/
  | dspScalarAlu (cas : Fin 12) (core : Fin 8) (op : ScalOp) (rd ra : Fin 16) (b : ScalArg)
  /-- DSP_SET_ADDRESS (R291): SETA, SETB or SETL loads an address generator register. -/
  | dspSetAddress (cas : Fin 12) (core : Fin 8) (which : AddrReg) (g : Fin 8) (b : ScalArg)
  /-- DSP_BRANCH (R289): BR, CALL or RET changes flow within the image's code. -/
  | dspBranch (cas : Fin 12) (core : Fin 8) (k : FlowOp) (target : BitVec 11)
  /-- DSP_REP (R292): Repeats the next instruction n times without preemption. -/
  | dspRep (cas : Fin 12) (core : Fin 8) (n : Nat)
  /-- DSP_TIME (R289): Reads linear device time into two scalars. -/
  | dspTime (cas : Fin 12) (core : Fin 8) (r : Fin 16)
  /-- DSP_WAIT (R297): Waits for a flag mask in AND or OR mode. -/
  | dspWait (cas : Fin 12) (core : Fin 8) (mask : BitVec 32) (andMode keep : Bool)
  /-- DSP_SIGNAL (R297): Sets event flags of a task on the casement. -/
  | dspSignal (cas : Fin 12) (core : Fin 8) (task : Nat) (mask : BitVec 32)
  /-- DSP_ENQ (R300): Enqueues an item, waiting when the queue is full. -/
  | dspEnq (cas : Fin 12) (core : Fin 8) (task : Nat) (item : BitVec 256)
  /-- DSP_ENQN (R300): Enqueues an item or sets Z when the queue is full. -/
  | dspEnqn (cas : Fin 12) (core : Fin 8) (task : Nat) (item : BitVec 256)
  /-- DSP_DEQ (R299): Takes the oldest item whose flow is not in service. -/
  | dspDeq (cas : Fin 12) (core : Fin 8)
  /-- DSP_SLEEP (R301): Delays the task for n tick boundaries. -/
  | dspSleep (cas : Fin 12) (core : Fin 8) (n : Nat)
  /-- DSP_SUBMIT (R294): Submits a job from a record in casement memory. -/
  | dspSubmit (cas : Fin 12) (core : Fin 8) (a : BitVec 22)
  /-- DSP_DONE (R296): Ends the running job and frees its task. -/
  | dspDone (cas : Fin 12) (core : Fin 8)
  /-- DSP_XFER (R289): Posts a descriptor to the casement's transfer engine. -/
  | dspXfer (cas : Fin 12) (core : Fin 8) (x : XferDesc)
  /-- DSP_ACCEL (R308): Posts an accelerator descriptor to its function's queue. -/
  | dspAccel (cas : Fin 12) (core : Fin 8) (a : BitVec 22)
  /-- TICK_BOUNDARY (R301): At a tick boundary expired delays and releases make tasks READY. -/
  | tickBoundary (cas : Fin 12)
  /-- JOB_PREEMPT (R303): A higher-ranked READY job preempts a core at the next boundary. -/
  | jobPreempt (cas : Fin 12) (core : Fin 8) (task : Nat)
  /-- BUDGET_STOP (R305): A DEADLINE job whose budget is spent is stopped with TF_JOB_OVERRUN. -/
  | budgetStop (cas : Fin 12) (core : Fin 8)
  /-- ACCEL_FFT (R311): The FFT serves a forward or inverse transform descriptor. -/
  | accelFft (cas : Fin 12)
  /-- ACCEL_ENCODE (R312): The convolutional encoder serves a descriptor. -/
  | accelEncode (cas : Fin 12)
  /-- ACCEL_DECODE (R313): The trellis decoder serves a descriptor. -/
  | accelDecode (cas : Fin 12)
  /-- ACCEL_MODULATE (R315): The mapper maps bits to constellation points. -/
  | accelModulate (cas : Fin 12)
  /-- ACCEL_DEMAP (R315): The mapper forms soft values from equalised points. -/
  | accelDemap (cas : Fin 12)
  /-- ACCEL_NMEAS (R315): The mapper measures per-subcarrier SNR. -/
  | accelNmeas (cas : Fin 12)
  /-- ACCEL_REBUILD (R316): The rebuilder writes a new bit table into the inactive copy. -/
  | accelRebuild (cas : Fin 12)
  /-- ACCEL_SWAP (R316): Requests a bit-table swap at the next symbol boundary. -/
  | accelSwap (cas : Fin 12)
  /-- ACCEL_BURST (R324): Schedules a ramp-profile burst on a TX stream. -/
  | accelBurst (cas : Fin 12)
  /-- ACCEL_PSREL (R327): Releases a packet-search capture path. -/
  | accelPsrel (cas : Fin 12)
  /-- ACCEL_GAIN (R329): Queues a gain word on a front-end port. -/
  | accelGain (cas : Fin 12)
  /-- ACCEL_COMPLETE (R310): A descriptor completes, writes STATUS and sets its flag or enqueues its item. -/
  | accelComplete (cas : Fin 12) (k : AccelUnit)
  /-- XFER_COMPLETE (R297): A transfer descriptor completes and sets its named flag. -/
  | xferComplete (cas : Fin 12)
  /-- SYSREF_EDGE (R318): A SYSREF rising edge aligns LEMC or is checked against it. -/
  | sysrefEdge (clk : Nat)
  /-- STREAM_RX_MULTIBLOCK (R322): An RX multiblock is received, CRC-12 checked and its samples delivered. -/
  | streamRxMultiblock (link : Fin 16) (crcOk : Bool) (words : List (BitVec 32))
  /-- STREAM_RX_BLOCK (R321): A block of 128 RX samples is written to the ring or dropped when full. -/
  | streamRxBlock (stream : Fin 256)
  /-- STREAM_TX_FETCH (R321): The master reads TX samples ahead of need, or sends zeros for late ones. -/
  | streamTxFetch (stream : Fin 256) (late : Bool)
  /-- STREAM_LOCK_LOSS (R322): A link loses extended-multiblock lock and delivers zeros. -/
  | streamLockLoss (link : Fin 16)
  /-- MASK_MONITOR_AVERAGE (R325): An averaged spectrum is compared with the mask and items are posted. -/
  | maskMonitorAverage (stream : Fin 256) (bins : List Int)
  /-- PACKET_DETECT (R327): A placed detection takes a capture path under the policy and posts a SYNC item. -/
  | packetDetect (stream : Fin 256) (p : BitVec 64) (strength : Int) (cands : List (Nat × BitVec 32))
  /-- CAPTURE_TRUNCATE (R327): A capture path reaches MAXLEN samples and a TRUNCATED item is sent. -/
  | captureTruncate (stream : Fin 256) (path : Fin 2)
  /-- GAIN_WORD_SEND (R329): A queued gain word is shifted out at or after its AT time. -/
  | gainWordSend (port : Fin 4)
  /-- REGION_FILL_DONE (R347): A DDR region fill ends, the map bit is set and held requests proceed. -/
  | regionFillDone (region : BitVec 22)
  /-- AUTO_REMAP (R351): An address reaching REMAP_THR errors is copied into a spare in an unused access. -/
  | autoRemap (mem : BitVec 16) (addr : BitVec 64)
  /-- SCRUB_LINE (R353): The scrubber reads a line's valid words in an unused access and rewrites corrected ones. -/
  | scrubLine (mem : BitVec 16) (line : Nat)
  /-- SCRUB_LAP_END (R354): A scrub lap completes and is checked against LAP_LIMIT. -/
  | scrubLapEnd (mem : BitVec 16)
  /-- BLOCK_LOCK_ACQUIRED (R362): A lane declares block lock after 64 valid sync headers. -/
  | blockLockAcquired (lane : Fin 64)
  /-- BLOCK_LOCK_LOSS (R362): A lane loses block lock, faulting an armed or running site. -/
  | blockLockLoss (lane : Fin 64)
  /-- FAR_END_IDLE (R368): Received EIDLE blocks put the receiver into held idle. -/
  | farEndIdle (lane : Fin 64)
  /-- IDLE_EXIT_BURST_DONE (R369): After the training burst the receiver decodes from the first block, or searches again. -/
  | idleExitBurstDone (lane : Fin 64) (headersValid : Bool)
  /-- LINK_IDLE_ENTRY (R372): A link lane sends EIDLE after its last frame when the gap allows. -/
  | linkIdleEntry (lane : Fin 64)
  /-- LINK_IDLE_EXIT (R372): A link lane starts exit IDLE_LEAD steps before the next LINK_STEP. -/
  | linkIdleExit (lane : Fin 64)
  /-- EYE_SWEEP_DONE (R367): A completed eye sweep updates EYE_H and EYE_V and may post a margin event. -/
  | eyeSweepDone (lane : Fin 64) (eyeH : BitVec 8) (eyeV : BitVec 16)
  /-- KEYHOLE_FRAME (R506): A keyhole frame of 32 tap samples is sent on the keyhole lane. -/
  | keyholeFrame
  /-- ENUM_FRAME (R390): A unit takes its address from the ENUM frame and forwards it. -/
  | enumFrame (f : ChainFrame)
  /-- ENUM_TIMEOUT (R390): The ENUM frame has not returned within 10 ms. -/
  | enumTimeout
  /-- MBX_FRAME (R396): A relayed command or response fragment is received and acknowledged. -/
  | mbxFrame (f : ChainFrame)
  /-- MBX_ACK_FRAME (R396): An acknowledgement of an MBX frame is received. -/
  | mbxAckFrame (f : ChainFrame)
  /-- MBX_RETRANSMIT (R396): An unacknowledged MBX frame is resent after 100 µs, or the relay times out. -/
  | mbxRetransmit (i : Nat)
  /-- TIME_FRAME (R406): A TIME frame is corrected and forwarded, and followers servo to master time. -/
  | timeFrame (f : ChainFrame) (rx : BitVec 128)
  /-- TIME_SYNC_SEND (R406): Each SYNC period the master sends a TIME frame. -/
  | timeSyncSend
  /-- SYNC_LOSS_TIMEOUT (R403): No sync for 4 SYNC periods puts the servo in HOLDOVER. -/
  | syncLossTimeout
  /-- CHAIN_START (R398): EVENT START starts the named ARMED sites on arrival. -/
  | chainStart (f : ChainFrame)
  /-- CHAIN_STOP (R398): EVENT STOP halts the named sites as a STOP command. -/
  | chainStop (f : ChainFrame)
  /-- CHAIN_TRIGGER (R398): EVENT TRIGGER triggers listening trigger units and sets mapped task flags. -/
  | chainTrigger (f : ChainFrame)
  /-- SITE_ROLLBACK (R241): EVENT SITE_ROLLBACK rolls the site back to the named cycle. -/
  | siteRollback (f : ChainFrame)
  /-- LINK_HINGE (R398): A LINK_HINGE frame delivers a hinge token over the chain. -/
  | linkHinge (f : ChainFrame)
  /-- HOPDLY_REQUEST (R405): A hop delay request is answered with receive and send stamps. -/
  | hopdlyRequest (f : ChainFrame) (rx : BitVec 128)
  /-- HOPDLY_RESPONSE (R405): A hop delay response updates the hop delay mean. -/
  | hopdlyResponse (f : ChainFrame) (rx : BitVec 128)
  /-- HOPDLY_MEASURE (R405): Every millisecond, or on regained lock, a hop measurement is started. -/
  | hopdlyMeasure (port : ChainPort)
  /-- BREAK_FRAME (R393): The head receives a break or heal report and posts it. -/
  | breakFrame (f : ChainFrame)
  /-- PORT_BREAK (R393): A port without lock for 2 µs or with 16 CRC failures in 1 ms is declared broken and the unit wraps. -/
  | portBreak (port : ChainPort)
  /-- BREAK_IDLE_END (R395): The 4 µs of electrical idle after a break ends and IDLE blocks resume. -/
  | breakIdleEnd (port : ChainPort)
  /-- PORT_HEAL (R395): A port locked for 1 ms with 16 HOPDLY exchanges unwraps. -/
  | portHeal (port : ChainPort)
  /-- GATEWAY_DATAGRAM (R399): A UDP datagram from a peer gateway is sent into the segment. -/
  | gatewayDatagram (peer : BitVec 8) (f : ChainFrame)
  /-- GATEWAY_CHECK (R399): A gateway sends its once-a-second check to each peer. -/
  | gatewayCheck (peer : BitVec 8)
  /-- GATEWAY_PEER_TIMEOUT (R399): A peer silent for 3 s causes CH_GATEWAY_DOWN. -/
  | gatewayPeerTimeout (peer : BitVec 8)
  /-- PTP_SYNC (R408): An IEEE 1588 Sync or Follow_Up message feeds the servo. -/
  | ptpSync (masterTime : Nat) (rx : Nat)
  /-- PTP_ANNOUNCE (R408): An Announce message feeds the best-master-clock algorithm. -/
  | ptpAnnounce (a : PtpAnnounce)
  /-- PTP_DELAY_RESP (R408): A Delay_Resp message completes a delay measurement. -/
  | ptpDelayResp (t4 : Nat)
  /-- START_AT_FIRE (R411): The step that contains T arrives and the sites enter RUNNING. -/
  | startAtFire (site : Fin 16)
  /-- TIMED_OCCURRENCE (R412): A timed-event generator pulses its pin or posts an internal event. -/
  | timedOccurrence (tev : Fin 8)
  /-- TIMED_PULSE_END (R412): A timed pin pulse ends after WIDTH steps. -/
  | timedPulseEnd (tev : Fin 8)
  /-- IDLE_POLICY_TIMEOUT (R484): A domain idle for IDLE_US starts an entry to its target. -/
  | idlePolicyTimeout (dom : BitVec 8)
  /-- SHUTTER_CLOSING (R471): Entry steps E1 and E2: refuser check and drain of the domain's stop. -/
  | shutterClosing (dom : BitVec 8)
  /-- SHUTTER_DRAIN_DONE (R471): The drained domain stops clocks, isolates and powers down (E3 to E6). -/
  | shutterDrainDone (dom : BitVec 8)
  /-- SHUTTER_DRAIN_TIMEOUT (R471): A stop not drained within 2 µs aborts the entry with RING_BUSY. -/
  | shutterDrainTimeout (dom : BitVec 8)
  /-- DOMAIN_WAKE (R474): An access or command to a domain not ON starts its exit and wake sweep, ending in release. -/
  | domainWake (dom : BitVec 8)
  /-- WAKE_TIMEOUT (R476): An access waiting over 100 µs is answered with PW_WAKE_TIMEOUT. -/
  | wakeTimeout (dom : BitVec 8)
  /-- VREQ_ACK (R483): A regulator acknowledges a voltage request by power-good indication. -/
  | vreqAck (bus : Fin 2)
  /-- VREQ_TIMEOUT (R483): No acknowledgement within 5 ms rolls the request back. -/
  | vreqTimeout (bus : Fin 2)
  /-- THERMAL_SAMPLE (R487): Every 100 µs the sensors are read and the thermal state updated. -/
  | thermalSample (sensors : List Int)
  /-- THERM_TRIP (R487): The AON comparator asserts THERM_TRIP_N at 115 °C. -/
  | thermTrip
  /-- PMB_ALERT (R481): PMB_ALERT_N is read and counted. -/
  | pmbAlert
  /-- POWER_ON_RESET (R488): POR release starts the boot ROM and the start-up sequence. -/
  | powerOnReset (bootSrc : BitVec 2)
  /-- BOOT_AUTH_DONE (R436): The firmware image is authenticated or refused and handover or WAIT_HOST follows. -/
  | bootAuthDone (r : AuthResult)
  /-- AON_PLL_LOCK (R495): The AON PLL locks and the chain ports begin sending IDLE blocks. -/
  | aonPllLock
  /-- SYSTEM_PLL_LOCK (R488): The system PLL locks, clocks are switched and FW_READY is set. -/
  | systemPllLock
  /-- SYS_RST_N (R500): System reset of every domain except AON. -/
  | sysRstN
  /-- PERST_N (R438): PCIe reset, FLR or link loss resets the host interface. -/
  | perstN
  /-- VDD_UNDERVOLTAGE (R517): VDD below 0.60 V for 1 µs resets every domain except AON. -/
  | vddUndervoltage
  /-- PLL_LOSS (R498): A PLL that loses reference or lock is detected and clocks fall back. -/
  | pllLoss (pll : Pll)
  /-- PLL_RESTORE (R498): After 10 ms of lock with no running site the islands return to their sources. -/
  | pllRestore (pll : Pll)
  /-- TAP_RESET (R500): TRST_N low or five TMS-high cycles reset the TAP. -/
  | tapReset
  /-- JTAG_EXTEST (R507): EXTEST drives and captures the boundary-scan register. -/
  | jtagExtest (tdi : List Bool)
  /-- JTAG_IDCODE (R507): IDCODE selects the device identification register. -/
  | jtagIdcode (tdi : List Bool)
  /-- JTAG_SAMPLE_PRELOAD (R507): SAMPLE/PRELOAD captures or preloads boundary cells. -/
  | jtagSamplePreload (tdi : List Bool)
  /-- JTAG_CLAMP (R507): CLAMP holds outputs and selects bypass. -/
  | jtagClamp (tdi : List Bool)
  /-- JTAG_HIGHZ (R507): HIGHZ floats outputs and selects bypass. -/
  | jtagHighz (tdi : List Bool)
  /-- JTAG_EXTEST_PULSE (R379): IEEE 1149.6 EXTEST_PULSE on AC-coupled pairs. -/
  | jtagExtestPulse (tdi : List Bool)
  /-- JTAG_EXTEST_TRAIN (R379): IEEE 1149.6 EXTEST_TRAIN on AC-coupled pairs. -/
  | jtagExtestTrain (tdi : List Bool)
  /-- JTAG_BYPASS (R507): BYPASS selects the one-bit bypass register. -/
  | jtagBypass (tdi : List Bool)
  /-- LONG_COMMAND_SLICE (R428): The firmware runs the next slice of 10 µs or less of an accepted long command, advancing its phase or progress and posting COMPLETE at its end. -/
  | longCommandSlice (ticket : BitVec 32)
  /-- DMA_HOST_COMPLETION (R435): A PCIe completion from the host, or its completion timeout, returns data to a DMA engine or ends its transfer with ST_DMA_HOST_ERROR. -/
  | dmaHostCompletion (ticket : BitVec 32) (ok : Bool)
  /-- EXTENDED_MULTIBLOCK_LOCK_RETURN (R322): A stream link regains extended-multiblock lock and stops delivering zero samples counted as loss. -/
  | extendedMultiblockLockReturn (link : Fin 16)
  /-- CDR_LOCK_ACQUIRED (R371): A direct- or keyhole-mode receiver acquires CDR lock, after which RX words are counted and compared. -/
  | cdrLockAcquired (lane : Fin 64)
  /-- CDR_LOCK_LOSS (R362): A direct- or keyhole-mode receiver loses CDR lock, clearing the lock bit of its status. -/
  | cdrLockLoss (lane : Fin 64)
  /-- QUAD_PLL_LOCK (R358): A quad PLL set to a non-zero QRATE locks and QCTL.LOCK becomes 1, letting its lanes run. -/
  | quadPllLock (quad : Fin 16)
  /-- LAP_COUNTER_SAMPLE (R180): At least once a second the firmware samples each scrubber lap counter, keeps its carry and raises DI_SCRUB_STARVED when a lap exceeds LAP_LIMIT. -/
  | lapCounterSample (mem : BitVec 16)
  /-- SYS_RST_N_RELEASE (R501): The rising edge of SYS_RST_N samples the straps and restarts the boot ROM start-up sequence. -/
  | sysRstNRelease (bootSrc : BitVec 2)
  /-- PERST_N_RELEASE (R415): Deassertion of PERST_N with a stable reference starts link training, after which the endpoint answers configuration requests within 100 ms. -/
  | perstNRelease
  /-- PCIE_CONFIG_ACCESS (R414): The host reads or writes the endpoint's configuration space, setting BARs, MSI-X, power state or FLR. -/
  | pcieConfigAccess (off : BitVec 12) (wr : Option (BitVec 32))
  /-- ARP_REQUEST (R399): A gateway answers an ARP request for its static IPv4 address. -/
  | arpRequest (ip : BitVec 32)
  deriving DecidableEq, Repr

end Sys2Proof
end

