-- ==== Sys2Proof/Config.lean ====
section
/-! DEFINITION. The free values: what the spec leaves open. Each constant is opaque, so no proof can see a value of it. A
constant over Nat alone is applied to the counter State holds, for a fresh value at each use. -/

namespace Sys2Proof.Config

/-- A fresh open 32-bit value (ORIGIN_OFFSET of R187, round trips of R202, adaptation codes of R364 and the like). -/
opaque freeWord : Nat → BitVec 32

/-- A fresh open 128-bit value. -/
opaque freeWide : Nat → BitVec 128

/-- The code of the pending fault when delta writes are late at H4 in a strict load: a fault under R28, of which the spec says only
that TF_LATE_BUNDLE is not involved (R229, R242). -/
opaque lateDeltaFault : Status

/-- Flits that a ring buffer of one virtual channel holds beyond two worms of the largest size: the spec gives no size (R100). -/
opaque ringBuffer : Nat

/-- The LOOPBACK payload of calibration frame `n`: the spec says only that every code value visits every position (R201). -/
opaque loopPattern : Nat → BitVec 1024

/-- The payload of LOOPBACK frame `n` of the pin loopback: the ASIC makes the step itself, and the spec gives no payload (R200). -/
opaque pinloopPattern : Nat → BitVec 1024

/-- The ring a bundle received on a link lane takes when its route entry forwards it: ACT 0b00 names the same ring, and a lane
is none (R104, R123). -/
opaque linkRing : Nat → BitVec 2

/-- A DSP instruction word is reserved or malformed: the spec gives no encodings (R289). -/
opaque dspWordBad : BitVec 64 → Bool

/-- A DSP instruction word is a REP of the instruction in the second word, and one that REP may not repeat (R292). -/
opaque dspRepBad : BitVec 64 → BitVec 64 → Bool

/-- DLOK and LONGREP of a task, read from an image's CODE sections and the task's ENTRY (R293). -/
opaque taskDlok : List (List Byte) → Nat → Bool
opaque taskLongrep : List (List Byte) → Nat → Nat

/-- Output point `k` of the FFT: the spec fixes the stages' width, shifts and rounding, not their radix or twiddle factors
(R311). From the parameters, the input and the point's number: I in the low half, Q in the high half. -/
opaque fftPoint : List Byte → List Byte → Nat → BitVec 32

/-- The saturations the FFT counts for these parameters and input (R308, R311). -/
opaque fftSats : List Byte → List Byte → BitVec 24

/-- The decoded bit of stage `t` where the survivors of the traceback disagree: the spec does not say which state the
traceback starts from (R313). From the parameters and the soft values. -/
opaque decodeTie : List Byte → List Byte → Nat → Bool

/-- KIND of the items of the mask monitor (0), SYNC (1), PREEMPTED (2) and TRUNCATED (3): the spec gives no numbers
(R325, R327, R328). -/
opaque itemKind : Nat → BitVec 8

/-- Length of the boundary-scan register: its description files are not part of the spec (R508). -/
opaque boundaryLen : Nat

end Sys2Proof.Config
end

