-- ==== Sys2Proof/Machine/Bits.lean ====
section
/-! DEFINITION. Bit fields, byte order (R7), saturating counters and the CRCs of R99, R124, R133 and R383. -/

namespace Sys2Proof.Machine

/-- A flag as a number. -/
def b2n (b : Bool) : Nat := if b then 1 else 0

/-- Bits `lo` to `lo + w − 1` of `x`. -/
def bits (x lo w : Nat) : Nat := (x >>> lo) % 2 ^ w

/-- Bit `i` of `x`. -/
def bit (x i : Nat) : Bool := x.testBit i

/-- A counter that saturates at its maximum (R71, R95, R221, R243, R356, R380, R413). -/
def satInc {w : Nat} (x : BitVec w) : BitVec w := if x = BitVec.allOnes w then x else x + 1

/-- Add `n` to a saturating counter. -/
def satAdd {w : Nat} (x : BitVec w) (n : Nat) : BitVec w := BitVec.ofNat w (min (x.toNat + n) (2 ^ w - 1))

/-- Little-endian value of a byte string (R7). -/
def leNat : List Byte → Nat
  | [] => 0
  | b :: bs => b.toNat + 256 * leNat bs

/-- `n` bytes of `x`, lowest first (R7). -/
def leBytes (x : Nat) : Nat → List Byte
  | 0 => []
  | n + 1 => BitVec.ofNat 8 x :: leBytes (x / 256) n

/-- `n` bytes of `l` from offset `o`; bytes beyond the end read zero. -/
def bytesAt (l : List Byte) (o n : Nat) : List Byte :=
  let x := (l.drop o).take n
  x ++ List.replicate (n - x.length) 0

/-- The little-endian field of `n` bytes at offset `o` of `l`. -/
def fld (l : List Byte) (o n : Nat) : Nat := leNat ((l.drop o).take n)

/-- Every byte of `l` from `o` up to and without `e` is zero. -/
def zeroAt (l : List Byte) (o e : Nat) : Bool := ((l.drop o).take (e - o)).all (· == 0)

/-- Two's complement value of the low `w` bits of `x`. -/
def sext (x w : Nat) : Int := let y := x % 2 ^ w; if y < 2 ^ (w - 1) then y else (y : Int) - (2 ^ w : Nat)

/-- The low `w` bits of an integer. -/
def toBits (w : Nat) (x : Int) : BitVec w := BitVec.ofInt w x

/-- Replace bit `i` of `x`. -/
def putBit {w : Nat} (x : BitVec w) (i : Nat) (b : Bool) : BitVec w :=
  if b then x ||| BitVec.ofNat w (2 ^ i) else x &&& ~~~ BitVec.ofNat w (2 ^ i)

/-- Bit `i` of a bit vector. -/
def getBit {w : Nat} (x : BitVec w) (i : Nat) : Bool := x.toNat.testBit i

/-- Round `a / b` half up (R290). -/
def roundHalfUp (a b : Int) : Int := Int.fdiv (2 * a + b) (2 * b)

/-- `⌈a / b⌉`. -/
def ceilDiv (a b : Nat) : Nat := (a + b - 1) / b

/-- Limit `x` to `lo … hi`. -/
def clampInt (lo hi x : Int) : Int := if x < lo then lo else if hi < x then hi else x

/-- `n` bits of `x`, lowest first. -/
def bitsLow (x : Nat) : Nat → List Bool
  | 0 => []
  | n + 1 => x.testBit 0 :: bitsLow (x / 2) n

/-- One bit of a most-significant-first CRC of width `w` and polynomial `p`. -/
def crcStep (w p : Nat) (r : Nat) (b : Bool) : Nat :=
  let t := (r >>> (w - 1)) % 2
  let r' := (r * 2) % 2 ^ w
  if t = b2n b then r' else r' ^^^ p

/-- CRC-8 of R99: polynomial x⁸ + x² + x + 1, initial 0xFF. -/
def crc8 (bs : List Bool) : Nat := bs.foldl (crcStep 8 0x07) 0xFF

/-- CRC-16 of R124 and R194: polynomial x¹⁶ + x¹² + x⁵ + 1, initial 0xFFFF, no reflection, no final XOR. -/
def crc16 (bs : List Bool) : Nat := bs.foldl (crcStep 16 0x1021) 0xFFFF

/-- One bit of a reflected 32-bit CRC with reflected polynomial `p`. -/
def crcRefl (p : Nat) (r : Nat) (b : Bool) : Nat :=
  if (r % 2 == 1) == b then r / 2 else (r / 2) ^^^ p

/-- A reflected 32-bit CRC over bytes, initial and final XOR of all ones. -/
def crcBytes (p : Nat) (bs : List Byte) : Nat :=
  (bs.foldl (fun r b => (bitsLow b.toNat 8).foldl (crcRefl p) r) 0xFFFFFFFF) ^^^ 0xFFFFFFFF

/-- CRC-32C of R133: polynomial 0x1EDC_6F41, reflected. -/
def crc32c (bs : List Byte) : Nat := crcBytes 0x82F63B78 bs

/-- CRC-32 of R383: polynomial 0x04C1_1DB7, reflected. -/
def crc32 (bs : List Byte) : Nat := crcBytes 0xEDB88320 bs

end Sys2Proof.Machine
end

