-- ==== Sys2Proof/Machine/Types.lean ====
section
/-! DEFINITION. The status and fault codes of R528 to R530, by the names and values of chapter 21, and the small
enumerations the block's state uses. -/

namespace Sys2Proof.Code

/-- Done -/
abbrev ST_OK : Status := 0x0000
/-- Long command accepted, ticket issued (R428) -/
abbrev ST_ACCEPTED : Status := 0x0001
/-- Value out of range or not allowed -/
abbrev ST_BAD_PARAM : Status := 0x0002
/-- Address reserved, unmapped or untrained (R344) -/
abbrev ST_ADDR_UNMAPPED : Status := 0x0003
/-- Outside the access list or the host-reachable space (R122, R419) -/
abbrev ST_ACCESS_REFUSED : Status := 0x0004
/-- Queue, pool or ticket limit full -/
abbrev ST_BUSY : Status := 0x0005
/-- Reserved field not zero (R10) -/
abbrev ST_RESERVED_NONZERO : Status := 0x0006
/-- Opcode unknown, or not allowed in this boot state -/
abbrev ST_BAD_OPCODE : Status := 0x0007
/-- Class S field written while its block runs (R11) -/
abbrev ST_FIELD_BUSY : Status := 0x0008
/-- Cancelled, unloaded, closed or reset -/
abbrev ST_ABORTED : Status := 0x0009
/-- No transition exists from the site's state (R150) -/
abbrev ST_SITE_STATE : Status := 0x000A
/-- Site loading, armed or running -/
abbrev ST_SITE_BUSY : Status := 0x000B
/-- Pin, slot, gateway, map or probe source taken -/
abbrev ST_RESOURCE_BUSY : Status := 0x000C
/-- Lane owned, or quad rate in conflict (R359) -/
abbrev ST_LANE_BUSY : Status := 0x000D
/-- Set, acquisition, image or link still in use -/
abbrev ST_SET_BUSY : Status := 0x000E
/-- Wrong doorbell SEQ (R424) -/
abbrev ST_MBX_SEQ : Status := 0x000F
/-- Ticket expired or never issued -/
abbrev ST_TICKET_UNKNOWN : Status := 0x0010
/-- BAR2 request unanswered for 200 µs (R421) -/
abbrev ST_HIF_TIMEOUT : Status := 0x0011
/-- Host completion error (R435) -/
abbrev ST_DMA_HOST_ERROR : Status := 0x0012
/-- Image or configuration rule broken -/
abbrev ST_IMAGE_FORMAT : Status := 0x0013
/-- Placement clashes with loaded sites or stops -/
abbrev ST_LAYOUT_CONFLICT : Status := 0x0014
/-- No free placement (R140) -/
abbrev ST_NO_PLACEMENT : Status := 0x0015
/-- Drain failed 8 times (R121) -/
abbrev ST_RECONFIG_BUSY : Status := 0x0016
/-- Multi-unit parts disagree (R144, R176, R223) -/
abbrev ST_PART_MISMATCH : Status := 0x0017
/-- Rewind not possible (R151) -/
abbrev ST_REWIND_UNAVAILABLE : Status := 0x0018
/-- Hinge h already begun (R155) -/
abbrev ST_TRANSOM_LATE : Status := 0x0019
/-- Base, S or named object differs (R154) -/
abbrev ST_TRANSOM_MISMATCH : Status := 0x001A
/-- Patched content illegal -/
abbrev ST_TRANSOM_INVALID : Status := 0x001B
/-- Another transom still staged -/
abbrev ST_TRANSOM_BUSY : Status := 0x001C
/-- Over 64 live patches in a sash (R153) -/
abbrev ST_TRANSOM_TOO_LARGE : Status := 0x001D
/-- Commit group has PEND = 1 (R159) -/
abbrev ST_COMMIT_PENDING : Status := 0x001E
/-- Step clock not derived from REFCLK_LANE (R84, R499) -/
abbrev ST_PACE_UNLOCKED : Status := 0x001F
/-- Round trip above RTBUD (R202) -/
abbrev ST_ROUND_TRIP : Status := 0x0020
/-- Named set not CLEARED (R254) -/
abbrev ST_FAIL_UNPREPARED : Status := 0x0021
/-- Slice full under HALT; site halting (R258) -/
abbrev ST_FAIL_FULL : Status := 0x0022
/-- Analysis queue full (R268) -/
abbrev ST_REPAIR_BUSY : Status := 0x0023
/-- No core can admit the job (R304) -/
abbrev ST_DEADLINE_REFUSED : Status := 0x0024
/-- Task pool full, or task not living (R296) -/
abbrev ST_NO_TASK : Status := 0x0025
/-- Louvre or sample-rate budget exceeded (R319, R323) -/
abbrev ST_STREAM_RATE : Status := 0x0026
/-- Cycle number at 2^48 − 1; site halted (R60) -/
abbrev ST_CYCLE_LIMIT : Status := 0x0027
/-- Rollback across a transom hinge; handled as STOP (R236) -/
abbrev ST_ROLLBACK_BLOCKED : Status := 0x0028
/-- Step or system clock lost (R498) -/
abbrev TF_CLOCK_LOSS : Status := 0x1001
/-- Critical junction temperature (R487) -/
abbrev TF_THERMAL : Status := 0x1002
/-- VC0 flit failed CRC, or lost (R117) -/
abbrev TF_RING_POISON : Status := 0x1003
/-- Cynak link or LINK_HINGE frame bad or lost (R126) -/
abbrev TF_LINK_POISON : Status := 0x1004
/-- Link lane lock lost or not reached -/
abbrev TF_LINK_DOWN : Status := 0x1005
/-- Pin lane lock lost or not reached -/
abbrev TF_PIN_LANE_DOWN : Status := 0x1006
/-- Pin frame bad, late or skipped (R197) -/
abbrev TF_PIN_FRAME_CRC : Status := 0x1007
/-- Model-check CMP posted (R31) -/
abbrev TF_MODEL_CHECK : Status := 0x1008
/-- Code or word missing at its UI (R26) -/
abbrev TF_TIMING_VOID : Status := 0x1009
/-- Cross-unit arrival missing (R112) -/
abbrev TF_HINGE_TIMEOUT : Status := 0x100A
/-- Interlock stall in a strict load -/
abbrev TF_LATE_BUNDLE : Status := 0x100B
/-- Equal LINK_STEP and PAR on a link (R110) -/
abbrev TF_SLOT_COLLISION : Status := 0x100C
/-- RECV unsatisfied (R112) -/
abbrev TF_RECV_TIMEOUT : Status := 0x100D
/-- Two drivers on a long wire (R89, R90) -/
abbrev TF_WIRE_CONTENTION : Status := 0x100E
/-- Indexed line outside the range (R48) -/
abbrev TF_SCRATCH_BOUNDS : Status := 0x100F
/-- Scratchpad request refused (R122) -/
abbrev TF_SITE_BOUNDS : Status := 0x1010
/-- Pattern FIFO overflow (R85) -/
abbrev TF_PATTERN_OVERRUN : Status := 0x1011
/-- D = 0 image ran ahead (R224) -/
abbrev TF_RUNAHEAD_OVERFLOW : Status := 0x1012
/-- Scoreboard read-order error (R70) -/
abbrev TF_READ_BEFORE_WRITE : Status := 0x1013
/-- Illegal instruction or use -/
abbrev TF_BAD_INSTRUCTION : Status := 0x1014
/-- Too few instructions, or S too large -/
abbrev TF_SCHEDULE_OVERRUN : Status := 0x1015
/-- Job address or ring error (R291, R307) -/
abbrev TF_JOB_FAULT : Status := 0x1016
/-- Budget spent (R305) -/
abbrev TF_JOB_OVERRUN : Status := 0x1017
/-- Another unit of the site faulted (R125) -/
abbrev TF_REMOTE_FAULT : Status := 0x1018
/-- Uncorrectable or poisoned word read; F when a site or job owns the data -/
abbrev DI_POISON_READ : Status := 0x2001
/-- Instruction-store error -/
abbrev DI_ISTORE_UNCORRECTABLE : Status := 0x2002
/-- Bit-store parity error -/
abbrev DI_BITSTORE_PARITY : Status := 0x2003
/-- Instruction-register parity error -/
abbrev DI_WCELL_PARITY : Status := 0x2004
/-- Retention failed (R480) -/
abbrev DI_RETENTION_LOST : Status := 0x2005
/-- Ring link retired (R116) -/
abbrev DI_RING_LINK_FAIL : Status := 0x2006
/-- Image CRC mismatch -/
abbrev DI_IMAGE_CRC : Status := 0x2007
/-- Host/IO buffer parity error (R422) -/
abbrev DI_HIF_PARITY : Status := 0x2008
/-- Compare self-test failed (R201) -/
abbrev DI_PIN_SELFTEST : Status := 0x2009
/-- Lap over LAP_LIMIT -/
abbrev DI_SCRUB_STARVED : Status := 0x200A
/-- Remap table full -/
abbrev DI_REMAP_FULL : Status := 0x200B
/-- Training failed, or organisation unsupported -/
abbrev DI_DDR_TRAIN : Status := 0x200C
/-- Board record rejected (R492) -/
abbrev DI_BOARD_RECORD : Status := 0x200D
/-- Domain locked off (R478) -/
abbrev PW_DOMAIN_LOCKED : Status := 0x3001
/-- Wait over 100 µs (R476) -/
abbrev PW_WAKE_TIMEOUT : Status := 0x3002
/-- Entry refused or aborted (R472) -/
abbrev PW_ENTRY_REFUSED : Status := 0x3003
/-- Regulator not acknowledged (R483) -/
abbrev PW_VREQ_TIMEOUT : Status := 0x3004
/-- Arm during thermal alarm (R465) -/
abbrev PW_THERMAL_ALARM : Status := 0x3005
/-- Contract below the descriptor (R172, R175) -/
abbrev LC_CONTRACT_EXCEEDED : Status := 0x4001
/-- Contract beyond the pad range (R170) -/
abbrev LC_PAD_RANGE : Status := 0x4002
/-- Time already past (R411) -/
abbrev CH_TIME_PAST : Status := 0x5001
/-- Servo UNLOCKED -/
abbrev CH_TIME_UNLOCKED : Status := 0x5002
/-- Master already stepped -/
abbrev CH_TIME_LOCKED : Status := 0x5003
/-- Relay unacknowledged (R396) -/
abbrev CH_RELAY_TIMEOUT : Status := 0x5004
/-- No unit has that UA -/
abbrev CH_UA_UNKNOWN : Status := 0x5005
/-- ENUM lost, or over 1,024 units -/
abbrev CH_ENUM_INCOMPLETE : Status := 0x5006
/-- Sticky position taken -/
abbrev CH_ADDR_CONFLICT : Status := 0x5007
/-- Two enumerations at once -/
abbrev CH_TWO_HEADS : Status := 0x5008
/-- Break or heal (R393) -/
abbrev CH_CHAIN_BREAK : Status := 0x5009
/-- Second break -/
abbrev CH_CHAIN_SPLIT : Status := 0x500A
/-- Peer gateway silent for 3 s -/
abbrev CH_GATEWAY_DOWN : Status := 0x500B
/-- Duplicate segment number -/
abbrev CH_SEGMENT_CONFLICT : Status := 0x500C
/-- Servo entered HOLDOVER -/
abbrev CH_HOLDOVER : Status := 0x500D
/-- Master beyond ±1 µs -/
abbrev CH_TIME_JUMP : Status := 0x500E
/-- Two masters seen -/
abbrev CH_TWO_MASTERS : Status := 0x500F
/-- Image signature failed -/
abbrev SC_IMAGE_SIGNATURE : Status := 0x6001
/-- Named key slot empty -/
abbrev SC_KEY_SLOT_EMPTY : Status := 0x6002
/-- Signed-only unit -/
abbrev SC_IMAGE_UNSIGNED : Status := 0x6003
/-- Firmware layout wrong, or over 3 MiB -/
abbrev SC_FW_FORMAT : Status := 0x6004
/-- Firmware signature failed -/
abbrev SC_FW_SIGNATURE : Status := 0x6005
/-- Firmware version below the fused minimum -/
abbrev SC_FW_ROLLBACK : Status := 0x6006

end Sys2Proof.Code

namespace Sys2Proof.Machine

/-- The seven site states of R15 and R150; the numbering of R452 is `SiteState.code`. -/
inductive SiteState where
  | empty | loading | loaded | armed | running | halted | faulted
  deriving DecidableEq, Repr

/-- Where a sash of a site stands in its model cycle (R56, R63, R94). -/
inductive SashPhase where
  /-- held in reset, or free of any site (R32, R147) -/
  | held
  /-- executes schedule step `k` of the cycle -/
  | step
  /-- link exchange steps E of R63: panes execute nothing -/
  | exchange
  /-- H0 reached: arrival waits for in-flight reads (R56) -/
  | h0
  /-- arrival raised: the sash waits at H1 or H2 for the release (R56, R59) -/
  | arrived
  /-- released: `left` hinge steps of H3 to H5 still to pass (R56) -/
  | resume (left : Nat)
  /-- stopped by a halt or a fault; registers kept for readout (R94) -/
  | stopped
  deriving DecidableEq, Repr

/-- The causes of an interlock stall, R118 and LAST_STALL_CAUSE of R71. -/
inductive StallCause where
  | bundle | port | wake | slot
  deriving DecidableEq, Repr

/-- Lane modes of R182. -/
inductive LaneMode where
  | idle | pin | direct | stream | link | keyhole
  deriving DecidableEq, Repr

/-- The states of a trigger unit, R278. -/
inductive TrigState where
  | disarmed | ready | post | done
  deriving DecidableEq, Repr

/-- The states of a run-ahead engine, R242. -/
inductive RaState where
  | speculate | depthWait | rollback | drain
  deriving DecidableEq, Repr

/-- Fault, halt or continue: what the root decides at H2 (R60). -/
inductive Release where
  | cont | halt | fault
  deriving DecidableEq, Repr

end Sys2Proof.Machine
end

