-- ==== Sys2Proof/Machine/StateArray.lean ====
section
/-! DEFINITION. The state of a sash: its panes, bundles' buffers, word cells, long wires, pace generator and counters
(chapters 02, 03 and the sash's part of 04, 05 and 08). Every field is given its reset value here. -/

namespace Sys2Proof.Machine

/-- A multiply's product in flight (R81). -/
structure MulPend where
  /-- destination register (R80) -/
  rd : BitVec 4
  /-- the 32-bit product (R80) -/
  value : Word
  /-- long wire the landing drives, when DV = 1 (R80) -/
  drive : Option (BitVec 3)
  /-- word-cell steps ended since the multiply executed (R73, R81) -/
  age : Nat
  /-- step clocks of the multiplier since then: word-cell steps and holds of R81 -/
  clk : Nat
  /-- the product has landed in the present step, which a hold of R81 still spends -/
  landed : Bool
  deriving DecidableEq, Repr

/-- One word cell (R72, R92). -/
structure WordCell where
  /-- ENTRY0 to ENTRY7, keyed 0 to 7 (R92); reset 0 -/
  entries : Tab Word := []
  /-- entries whose stored parity disagrees (R30, R91); reset 0: no upset -/
  parityBad : BitVec 8 := 0
  /-- LEN of CTL (R92); reset 0 -/
  len : BitVec 4 := 0
  /-- PDLY of CTL (R92); reset 0 -/
  pdly : BitVec 3 := 0
  /-- PC, the loop counter (R72); START sets 0 (R75) -/
  pc : BitVec 3 := 0
  /-- w0 to w15, keyed 0 to 15 (R72); zero at LOADED (R66) -/
  regs : Tab Word := []
  /-- flag Z (R72); START sets 0 (R75) -/
  z : Bool := false
  /-- flag N (R72); START sets 0 (R75) -/
  n : Bool := false
  /-- flag C (R72); START sets 0 (R75) -/
  c : Bool := false
  /-- the input word, written by WPUT (R72, R86) -/
  inWord : Word := 0
  /-- the output word, written by OUT, read by WGET (R72, R86) -/
  outWord : Word := 0
  /-- scramble entries SCR0 to SCR31, keyed 0 to 31: bit 6 INV, bits 5 to 0 SRC (R92); reset 0 -/
  scr : Tab (BitVec 8) := []
  /-- XPROD: entries that expect a multiply's product (R82, R92); reset 0 -/
  xprod : BitVec 8 := 0
  /-- PRESET0 to PRESET13, keyed 0 to 13 (R92); reset 0 -/
  presets : Tab Word := []
  /-- the sash pace flag of the last 8 word-cell steps as this cell may read it, bit i = i + 1 steps ago (R79, R93) -/
  paceHist : BitVec 8 := 0
  /-- multiplies in flight (R81) -/
  muls : List MulPend := []
  /-- the cell has executed its entry of the present word-cell step (model's own) -/
  done : Bool := false
  /-- registers the present step's instruction has written: a product landing in the step is lost to them (R80) -/
  wrote : BitVec 16 := 0
  /-- wires the present step's instruction has driven: a product's drive in the step is lost to them (R80) -/
  drove : BitVec 8 := 0
  /-- an OUT of the present step, seen from its end (R86) -/
  outPend : Option Word := none
  deriving DecidableEq, Repr

/-- One entry of the instruction patch table (R153). -/
structure PatchEntry where
  /-- pane the patch names -/
  pane : Nat
  /-- address in the instruction store -/
  addr : Nat
  /-- the instruction that takes the store word's place -/
  word : DWord
  /-- SECDED state of the entry: 0 good, 1 correctable, 2 uncorrectable (R153) -/
  err : BitVec 2 := 0
  deriving DecidableEq, Repr

/-- A MEMRD in flight (R50). -/
structure Landing where
  pane : Nat
  /-- net bit the data lands in -/
  k : Nat
  /-- the bit read -/
  bit : Bool
  /-- executed steps left to the contracted landing (R50, R170) -/
  left : Nat
  /-- steps left to the actual landing: executed steps and stall steps of R170 -/
  more : Nat
  deriving DecidableEq, Repr

/-- A pane's scratchpad write of the present step (R49). -/
structure MemwPend where
  pane : Nat
  /-- scratchpad line -/
  line : Nat
  /-- bit in the line -/
  bit : Nat
  val : Bool
  deriving DecidableEq, Repr

/-- A pane's WPUT of the present step (R52, R86). -/
structure WputPend where
  pane : Nat
  cell : Nat
  bit : Nat
  val : Bool
  deriving DecidableEq, Repr

/-- The sash counter record of R71. Counters saturate; they are cleared at load and by the clear form. -/
structure SashCounters where
  /-- ISTORE_CORR (R71); reset 0 -/
  istoreCorr : BitVec 32 := 0
  /-- BITSTORE_PAR (R71); reset 0 -/
  bitstorePar : BitVec 16 := 0
  /-- BAD_EXPECT (R71); reset 0 -/
  badExpect : BitVec 16 := 0
  /-- STALL_STEPS (R71); reset 0 -/
  stallSteps : BitVec 32 := 0
  /-- STALL_EVENTS (R71); reset 0 -/
  stallEvents : BitVec 32 := 0
  /-- LAST_STALL_CYCLE (R71); reset 0 -/
  lastStallCycle : BitVec 48 := 0
  /-- LAST_STALL_STEP (R71); reset 0 -/
  lastStallStep : BitVec 16 := 0
  /-- LAST_STALL_CAUSE (R71); reset 0x00: none -/
  lastStallCause : BitVec 8 := 0
  /-- PACE_STEPS (R71); reset 0 -/
  paceSteps : BitVec 32 := 0
  /-- RBW_COUNT (R70, R71); reset 0 -/
  rbwCount : BitVec 16 := 0
  /-- RBW_FIRST: pane (R71); reset 0 -/
  rbwPane : BitVec 8 := 0
  /-- RBW_STEP (R71); reset 0 -/
  rbwStep : BitVec 16 := 0
  deriving DecidableEq, Repr

/-- The word-cell record of R95, without NUM and DEN, which the pace generator holds. -/
structure WcRecord where
  /-- WSTEP (R95); reset 0 -/
  wstep : BitVec 48 := 0
  /-- BOUND_HOLD_STEPS (R76, R95); reset 0 -/
  boundHold : BitVec 32 := 0
  /-- MUL_HOLD_STEPS (R81, R95); reset 0 -/
  mulHold : BitVec 32 := 0
  /-- PAT_WORDS (R95); reset 0 -/
  patWords : BitVec 48 := 0
  /-- MAL_COLLIDE (R87, R95); reset 0 -/
  malCollide : BitVec 16 := 0
  /-- WPUT_COLLIDE (R86, R95); reset 0 -/
  wputCollide : BitVec 16 := 0
  /-- CONTEND_WIRES: wires disabled by contention until the site is reloaded (R90, R95); reset 0 -/
  contendWires : BitVec 8 := 0
  /-- PARITY_CELL: 0xFF when none (R95); reset 0xFF -/
  parityCell : BitVec 8 := 0xFF
  /-- CONTEND_STEP (R95); reset 0 -/
  contendStep : BitVec 48 := 0
  deriving DecidableEq, Repr

/-- What the image fixes for one sash (R32, R68, R75, R76, R135, R142). -/
structure SashCfg where
  /-- the sash belongs to this site (R32); none: to no site -/
  site : Option (Fin 16) := none
  /-- virtual sash number (R139); an elastic site has 0 everywhere (R152) -/
  vsash : Nat := 0
  /-- SASH_INDEX (R75, R142) -/
  index : Nat := 0
  /-- SASH_COUNT (R75, R142) -/
  count : Nat := 0
  /-- the sash is free, not bound (R76); reset bound, COUPLING 0 -/
  free : Bool := false
  /-- first pane scratchpad line (R48, R135) -/
  lineFirst : Nat := 0
  /-- last pane scratchpad line (R48, R135) -/
  lineLast : Nat := 0
  /-- number of MEMWR instructions at addresses 0 to S − 1 (R230) -/
  nMemwr : Nat := 0
  /-- the sash has a PINCFG (R132) -/
  hasPin : Bool := false
  /-- the sash has a TRIGCFG (R132) -/
  hasTrig : Bool := false
  deriving DecidableEq, Repr

/-- The checkpoint delta writer of a sash (R228, R229). -/
structure DeltaLog where
  /-- records waiting for a free port step, oldest first (R229); reset empty -/
  queue : List Rec16 := []
  /-- entries in the ring: (hinge, records), oldest first (R228); reset empty -/
  entries : List (Nat × List Rec16) := []
  /-- the entry being formed in the present cycle, oldest record first (R228); reset empty -/
  current : List Rec16 := []
  /-- next ring line to write, counted from CKPT_FIRST (R229, R230); reset 0 -/
  wline : Nat := 0
  /-- net bits of each pane at the previous hinge, for net deltas, keyed by pane (R228); reset 0 -/
  netPrev : Tab (BitVec 512) := []
  deriving DecidableEq, Repr

/-- One sash (R17, R32, R34, R47, R53, R54, R72, R88, R153). -/
structure Sash where
  cfg : SashCfg := {}
  /-- where the sash stands in its cycle (R56) -/
  phase : SashPhase := .held
  /-- step number k in the cycle, exchange step, or steps since S − 1 at H0 (R32, R50, R63) -/
  k : Nat := 0
  /-- the instruction store, keyed pane × 512 + address (R34); reset 0, the NOP -/
  istore : Tab DWord := []
  /-- store words with a single-bit (1) or an uncorrectable (2) upset (R30, R34); reset none -/
  istoreErr : Tab (BitVec 2) := []
  /-- net bits, keyed by pane (R34); zero at LOADED (R66) -/
  net : Tab (BitVec 512) := []
  /-- state bits, keyed by pane (R34); zero at LOADED (R66) -/
  st : Tab (BitVec 512) := []
  /-- next-state shadow, keyed by pane (R34); zero at LOADED (R66) -/
  shadow : Tab (BitVec 512) := []
  /-- bit-store words with wrong parity, keyed pane × 16 + word, word 8 and up holding state bits (R30); reset none -/
  bitErr : Tab Bool := []
  /-- scoreboard flags of net bits 0 to 255, keyed by pane (R69); reset 0 -/
  sbFlags : Tab (BitVec 256) := []
  /-- a correction of an instruction-store word has been posted in this run (R30, R467); reset no -/
  corrNoted : Bool := false
  /-- a scoreboard violation has been recorded in the present cycle (R70); reset no -/
  rbwSeen : Bool := false
  /-- the sash exchange: results of step k − 1 (R54); reset 0 -/
  exch : BitVec 256 := 0
  /-- results of the present step, the exchange of the next (R54); reset 0 -/
  results : BitVec 256 := 0
  /-- panes that have executed step k (model's own); reset none -/
  done : BitVec 256 := 0
  /-- panes whose instruction and operands of step k have been checked, and which wait (model's own); reset none -/
  checked : BitVec 256 := 0
  /-- MEMRD data in flight (R50); reset none -/
  landings : List Landing := []
  /-- scratchpad lines named by MEMRD and MEMWR in the present step (R49); reset none -/
  portLines : List Nat := []
  /-- a user other than the panes has taken the port in this step clock (R49, R247, R331); reset no -/
  portUsed : Bool := false
  /-- MEMWR data of the present step, written at its end (R49); reset none -/
  memw : List MemwPend := []
  /-- stall steps of the port still to run (R49); reset 0 -/
  portStall : Nat := 0
  /-- MAL0 to MAL3, keyed 0 to 3 (R47); zero at start -/
  mal : Tab (BitVec 15) := []
  /-- MAL writes of the present step, (cell, latch, value) (R87); reset none -/
  malPend : List (Nat × Nat × BitVec 15) := []
  /-- WPUTs of the present step (R52, R86); reset none -/
  wputs : List WputPend := []
  /-- outgoing bundle buffers, keyed by tag (R53); zero at LOADED (R66) -/
  outBuf : Tab (BitVec 512) := []
  /-- tags launched in the present cycle (R105); reset none -/
  launched : BitVec 64 := 0
  /-- incoming bundle banks, keyed 2 × tag + bank (R53, R107); zero at LOADED (R66) -/
  inBuf : Tab (BitVec 512) := []
  /-- arrival flags, bit 2 × tag + bank (R107); reset 0 -/
  inFlag : BitVec 128 := 0
  /-- banks delivered with a bad ring CRC (R117); reset 0 -/
  inPoison : BitVec 128 := 0
  /-- banks delivered from a bad link frame (R126); reset 0 -/
  inLinkPoison : BitVec 128 := 0
  /-- banks a RECV gave up on (R112); reset 0 -/
  inUnsat : BitVec 128 := 0
  /-- steps a RECV has waited, keyed by pane (R112); reset none -/
  recvWait : Tab Nat := []
  /-- interlock stall in force and its cause (R58, R118); reset none -/
  stall : Option StallCause := none
  /-- a pacing wait is in force in this sash: PININ with D = 0, or a full checkpoint ring (R51, R58, R229); reset no -/
  pacing : Bool := false
  /-- instruction patch table, keyed 0 to 63 (R153); reset empty -/
  patches : Tab (Option PatchEntry) := []
  /-- keyhole taps, the last PROBE values (R40, R502); reset 0 -/
  taps : BitVec 32 := 0
  /-- the 64 word cells, keyed by cell (R72) -/
  cells : Tab WordCell := []
  /-- word cells and pace generator are running (R73, R94); reset stopped -/
  wrun : Bool := false
  /-- long wires as read in the present step, keyed 0 to 7 (R88); undriven reads 0 -/
  wires : Tab Word := []
  /-- drives of the present step: (wire, driver, value), driver 64 the pin engine (R88, R90); reset none -/
  drives : List (Nat × Nat × Word) := []
  /-- wire enable words WEN0 to WEN7, keyed 0 to 7: bit 64 PE, bits 63 to 0 CELL (R89, R92); reset 0 -/
  wen : Tab (BitVec 65) := []
  /-- pace accumulator (R83); START sets 0 -/
  paceAcc : Nat := 0
  /-- NUM of the pace generator (R83, R95); 0 for a sash without pattern words -/
  paceNum : BitVec 32 := 0
  /-- DEN of the pace generator (R83, R95); 1 for a sash without pattern words -/
  paceDen : BitVec 32 := 1
  ctr : SashCounters := {}
  wrec : WcRecord := {}
  delta : DeltaLog := {}
  deriving DecidableEq, Repr

end Sys2Proof.Machine
end

