-- ==== Sys2Proof/Machine/StateCas.lean ====
section
/-! DEFINITION. The state of the casements (chapter 11): cores, images, tasks, dispatcher; and of the accelerators, streams,
packet search and front-end ports (chapter 12). -/

namespace Sys2Proof.Machine

/-- The registers of a DSP core (R288), private to the running job and saved with its task. -/
structure CoreRegs where
  /-- v0 to v7, keyed by number, lane i at bits 16i + 15 to 16i (R288); DESIGN CHOICE 0 before the first job -/
  v : Tab (BitVec 256) := []
  /-- acc0 to acc15, keyed by number (R288); DESIGN CHOICE 0 before the first job -/
  acc : Tab (BitVec 40) := []
  /-- s0 to s15, keyed by number (R288); DESIGN CHOICE 0 before the first job -/
  s : Tab Word := []
  /-- a0 to a7 (R288); DESIGN CHOICE 0 before the first job -/
  a : Tab (BitVec 22) := []
  /-- b0 to b7 (R288); DESIGN CHOICE 0 before the first job -/
  b : Tab (BitVec 22) := []
  /-- l0 to l7 (R288); DESIGN CHOICE 0 before the first job -/
  l : Tab (BitVec 22) := []
  /-- flag Z (R288); DESIGN CHOICE 0 before the first job -/
  z : Bool := false
  /-- flag N (R288); DESIGN CHOICE 0 before the first job -/
  n : Bool := false
  /-- flag OVF, sticky (R288, R290); DESIGN CHOICE 0 before the first job -/
  ovf : Bool := false
  /-- PC, instruction index (R288); a job starts at its task's ENTRY -/
  pc : BitVec 11 := 0
  /-- repetitions the next instruction still has (R292); 1 outside a REP -/
  rep : Nat := 1
  /-- return addresses of CALL (R289): the spec names no register for them; DESIGN CHOICE empty -/
  ret : List (BitVec 11) := []
  /-- the item the latest DEQ took (R299): where the spec leaves it, the model keeps it here; DESIGN CHOICE 0 -/
  item : BitVec 256 := 0
  deriving DecidableEq, Repr

/-- The four task states of R296, with what a WAITING task waits for. -/
inductive TaskState where
  /-- DELAYED until the linear time, in ns (R301) -/
  | delayed (until_ : Nat)
  | ready
  | running (core : Nat)
  /-- WAITING for a flag mask (R297) -/
  | waitFlags (mask : BitVec 32) (andMode keep : Bool)
  /-- WAITING for a slot in a task's queue (R300) -/
  | waitSlot (task : Nat) (item : BitVec 256)
  /-- WAITING for an item that DEQ may take (R299) -/
  | waitItem
  deriving DecidableEq, Repr

/-- One living task: a dispatcher context (R296). -/
structure TaskCtx where
  /-- casement the task lives on -/
  cas : Nat
  /-- job image (R294) -/
  image : BitVec 64
  /-- task index in the image (R294) -/
  index : Nat
  /-- CLASS DEADLINE (R294) -/
  deadlineClass : Bool
  /-- PRIO (R294) -/
  prio : Nat
  /-- allowed cores: CORES of the submission AND of the task record (R294) -/
  cores : BitVec 8
  /-- the core a DEADLINE job is pinned to (R304) -/
  pinned : Option Nat
  /-- FLOW of the job's own execution; 0xFFFF none (R294, R299) -/
  flow : BitVec 16
  /-- WCET + X: the budget in casement cycles (R305) -/
  budget : Nat
  /-- RELEASE, effective, linear ns (R294, R304) -/
  release : Nat
  /-- DEADLINE, linear ns (R294) -/
  deadline : Nat
  /-- order of acceptance (R302) -/
  order : Nat
  /-- the job has started: its own FLOW is in service (R299) -/
  started : Bool
  state : TaskState
  /-- event flags 0 to 27 and TIMER in bit 29 (R297) -/
  flags : BitVec 32
  /-- input queue, oldest first (R299) -/
  queue : List (BitVec 256)
  /-- QDEPTH (R293) -/
  qdepth : Nat
  /-- flow of the item in service, or none (R299) -/
  inService : Option (BitVec 16)
  /-- casement cycles used (R296, R305) -/
  used : Nat
  /-- saved registers while the task does not run (R288) -/
  regs : CoreRegs
  /-- a stop command waits for the end of the REP the job is in (R292); reset no -/
  stopDue : Bool := false
  deriving DecidableEq, Repr

/-- A task record of a loaded job image (R293). -/
structure TaskRec where
  entry : BitVec 16
  cores : BitVec 8
  dlok : Bool
  qdepth : Nat
  qbase : Nat
  longrep : Nat
  deriving DecidableEq, Repr

/-- A loaded job image (R293). -/
structure JobImage where
  id : BitVec 64
  tasks : List TaskRec
  /-- X of R304: the excess of its exceeded contract items, in casement cycles -/
  excess : Nat
  /-- code ranges: (cores, first, count) -/
  code : List (BitVec 8 × Nat × Nat)
  /-- data areas and queue rings: (target, first, length) -/
  data : List (Nat × Nat × Nat)
  deriving DecidableEq, Repr

/-- A posted accelerator descriptor (R308): its address, its 64 bytes and its poster. -/
structure AccelDesc where
  addr : Nat
  bytes : List Byte
  /-- the posting task -/
  task : Nat
  /-- core that posted it, whose address space addr lies in -/
  core : Nat
  /-- STATUS computed by the function, when it has been served; none before -/
  result : Option (BitVec 32)
  /-- a SWAP that has been requested and waits for its boundary (R316) -/
  asked : Bool
  /-- a boundary found the SWAP's copy incomplete (R316) -/
  late : Bool
  deriving DecidableEq, Repr

/-- A transfer descriptor posted by XFER (R289). -/
structure XferPend where
  toUnit : Bool
  casAddr : Nat
  unitAddr : Nat
  lines : Nat
  task : Nat
  flag : Nat
  /-- posting task -/
  poster : Nat
  /-- core that posted it, whose address space casAddr lies in -/
  core : Nat
  /-- its requests have been sent -/
  sent : Bool
  /-- requests not yet answered -/
  left : Nat
  /-- the first error: code and address (R307) -/
  bad : Option (Status × Nat)
  deriving DecidableEq, Repr

/-- A loading context (R314, R316). -/
structure LoadCtx where
  /-- FIRSTBIN (R314, R459); reset 0 -/
  firstbin : BitVec 16 := 0
  /-- NSC, 1 to 4,096; 0 before the first CONTEXT command (R314); reset 0 -/
  nsc : Nat := 0
  /-- SCALE[1..12], keyed by b (R314); DESIGN CHOICE 0 -/
  scale : Tab (BitVec 16) := []
  /-- THR[1..12], keyed by b (R316); DESIGN CHOICE 0 -/
  thr : Tab (BitVec 16) := []
  /-- bit-table copy 0, keyed by subcarrier (R314); DESIGN CHOICE 0 -/
  bits0 : Tab (BitVec 16) := []
  /-- bit-table copy 1, keyed by subcarrier (R314); DESIGN CHOICE 0 -/
  bits1 : Tab (BitVec 16) := []
  /-- the active copy is copy 1 (R160); reset copy 0 -/
  active1 : Bool := false
  /-- the inactive copy is complete (R316); reset complete -/
  complete : Bool := true
  /-- a SWAP is pending (R316); reset no -/
  swap : Bool := false
  /-- LOAD_STALE (R316); reset 0 -/
  stale : BitVec 32 := 0
  deriving DecidableEq, Repr

/-- One casement (R285 to R307). -/
structure Casement where
  /-- CCW (R301); reset 0x0000_A004 -/
  ccw : BitVec 32 := 0x0000A004
  /-- loaded job images, oldest first (R293); reset none -/
  images : List JobImage := []
  /-- instruction memory words, keyed core × 2048 + index (R285, R293); DESIGN CHOICE 0 -/
  imem : Tab DWord := []
  /-- registers of the running jobs, keyed by core (R288) -/
  cores : Tab CoreRegs := []
  /-- the task each core runs, keyed by core (R302); reset none -/
  running : Tab (Option Nat) := []
  /-- READY tasks, oldest first, a preempted one at the head (R302); reset none -/
  ready : List Nat := []
  /-- DELAYED tasks in the order they entered the list (R301); reset none -/
  delays : List Nat := []
  /-- descriptor queues by function number, oldest first (R310); reset empty -/
  accq : Tab (List AccelDesc) := []
  /-- cores stalled on a full descriptor queue: (core, descriptor address) (R310); reset none -/
  accStall : List (Nat × Nat) := []
  /-- completion items held for a full queue: (function, task, item) (R300); reset none -/
  accHeld : List (Nat × Nat × BitVec 256) := []
  /-- transfer engine queue, oldest first (R289); reset empty -/
  xfers : List XferPend := []
  /-- loading contexts, keyed 0 to 7 (R314) -/
  ctx : Tab LoadCtx := []
  /-- EVMAP: chain EVENT identifier ↦ (task, flag), oldest first (R297, R459); reset empty -/
  evmap : List (BitVec 8 × Nat × Nat) := []
  deriving DecidableEq, Repr

/-- A packet-search hypothesis (R326). -/
structure Hypothesis where
  /-- REFLEN; 0 off (R326); reset 0 -/
  reflen : Nat := 0
  /-- TH, 16 fraction bits (R326); reset 0 -/
  th : BitVec 32 := 0
  /-- PW (R326); reset 0 -/
  pw : BitVec 8 := 0
  /-- reference samples, I in the low half (R326); reset empty -/
  ref : List Word := []
  deriving DecidableEq, Repr

/-- A burst scheduled in ramp-profile mode (R324). -/
structure Burst where
  first : Nat
  len : Nat
  deriving DecidableEq, Repr

/-- A capture path that holds a packet (R327, R328). -/
structure Capture where
  /-- placed sample p -/
  p : Nat
  /-- latched strength, 0.25 dB steps -/
  strength : Int
  deriving DecidableEq, Repr

/-- An open stream (R319 to R328). -/
structure Stream where
  cas : Nat
  task : Nat
  flag : Nat
  link : Nat
  /-- stream j of the link -/
  j : Nat
  /-- RX when set -/
  rx : Bool
  /-- ring base, shared-memory address -/
  ring : Nat
  /-- RLEN in samples -/
  rlen : Nat
  /-- control block, shared-memory address (R320) -/
  cb : Nat
  blk : Nat
  /-- start time, linear ns (R319) -/
  start : Nat
  symlen : Nat
  /-- interpolation R (R323) -/
  interp : Nat
  /-- taps (R323) -/
  taps : Nat
  /-- ramp-profile mode is on (R324) -/
  ramp : Bool
  /-- FIR banks, keyed bank × 128 + tap (R323) -/
  fir : Tab (BitVec 16)
  /-- bank in use (R323) -/
  bank : Nat
  /-- bank selected from the next symbol boundary (R323) -/
  bankNext : Option Nat
  /-- UP[0..63] then DOWN[0..63], keyed 0 to 127 (R324) -/
  ramps : Tab (BitVec 16)
  /-- ramp entries staged during an open burst, on B0 (R181) -/
  rampNext : Tab (Option (BitVec 16))
  bursts : List Burst
  /-- AVG of the mask monitor, 0 off (R325) -/
  avg : Nat
  /-- mask entries, keyed by bin, 0.25 dB (R325) -/
  mask : Tab (BitVec 16)
  /-- next output sample of the monitor's average (R325) -/
  monAt : Nat
  /-- MASK_OVER (R325) -/
  maskOver : BitVec 32
  /-- hypotheses, keyed 0 to 7 (R326) -/
  hyp : Tab Hypothesis
  /-- capture paths 0 and 1 (R327) -/
  path0 : Option Capture
  path1 : Option Capture
  /-- capture policy: 0 KEEP, 1 SWITCH, 2 BOTH (R328) -/
  policy : BitVec 8
  /-- SWM, 0.25 dB steps (R328) -/
  swm : BitVec 8
  /-- MAXLEN samples (R327) -/
  maxlen : Nat
  /-- ALIASED (R326) -/
  aliased : BitVec 32
  /-- IGNORED (R328) -/
  ignored : BitVec 32
  /-- MISSED (R328) -/
  missed : BitVec 32
  /-- search items held for a full queue, oldest first (R328) -/
  heldItems : List (BitVec 256)
  /-- RX samples received of the block in progress, oldest first (R321) -/
  rxBuf : List Word
  /-- TX: the output samples of the latest block, as they left for the link (R321, R323, R324) -/
  txOut : List Word
  /-- TX: input samples, newest first, that the FIR still needs (R323) -/
  hist : List Word
  /-- next sample index: RX to be written, TX to leave (R320, R321) -/
  idx : Nat
  /-- the stream has started: sample 0 has passed (R319) -/
  started : Bool
  deriving DecidableEq, Repr

/-- A configured JESD204C link (R317, R318). -/
structure StreamLink where
  /-- first lane l0 -/
  l0 : Nat
  /-- lanes L -/
  lanes : Nat
  /-- converters M -/
  m : Nat
  /-- samples per converter per frame S -/
  s : Nat
  /-- resolution N -/
  n : Nat
  /-- E, multiblocks per extended multiblock -/
  e : Nat
  /-- RBD (R318) -/
  rbd : Nat
  /-- RATE in Mbit/s (R317, R459) -/
  rate : Nat
  /-- multiblocks of the present extended multiblock received (R317, R319) -/
  mb : Nat
  /-- RX when set -/
  rx : Bool
  /-- SYSREF MONITOR mode; ONESHOT otherwise (R318) -/
  monitor : Bool
  /-- LEMC phase: the REFCLK_LANE edge it aligned to (R318) -/
  lemc : Option Nat
  /-- extended-multiblock lock (R322) -/
  lock : Bool
  /-- the first loss of lock has been posted (R322) -/
  lossPosted : Bool
  /-- SYSREF_ERR (R318) -/
  sysrefErr : BitVec 32
  deriving DecidableEq, Repr

/-- A queued gain word (R329). -/
structure GainWord where
  bits : Nat
  /-- DIV of the word (R329, R459) -/
  div : Nat
  word : BitVec 32
  /-- AT, linear ns; none: at once -/
  at_ : Option Nat
  deriving DecidableEq, Repr

/-- A front-end control port (R329). -/
structure FePort where
  /-- DIV of the latest word sent (R329); DESIGN CHOICE 4 -/
  div : Nat := 4
  /-- queued words, oldest first (R329); reset empty -/
  queue : List GainWord := []
  /-- words sent, newest first: (length, word), the port's output (R329); reset none -/
  sent : List (Nat × Word) := []
  /-- FE_CS_N is high (R329); idle high -/
  csn : Bool := true
  deriving DecidableEq, Repr

/-- Casements and the waveform complex together. -/
structure CasState where
  /-- casements, keyed 0 to 11 (R285) -/
  cas : Tab Casement := []
  /-- the task pool, keyed by task number 0 to 4,095 (R296); reset empty -/
  tasks : Tab (Option TaskCtx) := []
  /-- acceptances so far (R302); reset 0 -/
  accepted : Nat := 0
  /-- stream links, keyed 0 to 15 (R317); reset none -/
  links : Tab (Option StreamLink) := []
  /-- streams, keyed 0 to 255 (R319); reset none -/
  streams : Tab (Option Stream) := []
  /-- front-end ports, keyed 0 to 3 (R329) -/
  ports : Tab FePort := []
  deriving DecidableEq, Repr

end Sys2Proof.Machine
end

