-- ==== Sys2Proof/Machine/StateChain.lean ====
section
/-! DEFINITION. The chain, relay, gateway and device time (chapter 15), and the host interface (chapter 16). -/

namespace Sys2Proof.Machine

/-- Servo states of R403, numbered as R400 STATE. -/
inductive Servo where
  | unlocked | tracking | locked | holdover
  deriving DecidableEq, Repr

/-- A chain port (R381, R393). -/
structure Port where
  /-- block lock (R382, R413); reset 0 -/
  lock : Bool := false
  /-- broken (R393, R413); reset 0 -/
  broken : Bool := false
  /-- in the 4 µs electrical idle of R393; reset no -/
  idling : Bool := false
  /-- HOPDLY exchanges completed since lock was regained (R395); reset 0 -/
  healed : Nat := 0
  /-- CRC32 failures (R387, R413); reset 0 -/
  crc : BitVec 16 := 0
  /-- times in ps of the CRC32 failures of the last 1 ms, newest first (R393); reset none -/
  crcAt : List Nat := []
  deriving DecidableEq, Repr

/-- A timed-event generator (R412). -/
structure Tev where
  /-- programmed and running (R412); reset no -/
  on : Bool := false
  /-- TARGET[2:0] (R412); reset 0 -/
  target : Nat := 0
  /-- POL: active low (R412); reset 0 -/
  pol : Bool := false
  /-- WIDTH in steps (R412); reset 0 -/
  width : Nat := 0
  /-- COUNT; 0 no limit (R412); reset 0 -/
  count : Nat := 0
  /-- T_FIRST, linear ns (R412); reset 0 -/
  first : Nat := 0
  /-- PERIOD in 2^-16 ns (R412); reset 0 -/
  period : Nat := 0
  /-- occurrences so far (R412); reset 0 -/
  done : Nat := 0
  /-- the pin pulse is in progress (R412); reset no -/
  pulsing : Bool := false
  /-- step clock from which the pulse is over (R412); reset 0 -/
  until_ : Nat := 0
  deriving DecidableEq, Repr

/-- Who waits for a message's answer (R396, R430, R455). -/
inductive RelayOwner where
  /-- a mailbox channel: the answer is its response -/
  | chan (ch : Nat)
  /-- a relay slot: the answer is handed back to the unit that asked -/
  | slot (n : Nat)
  /-- a gather, for the part it asked -/
  | gather (id part : Nat)
  /-- nobody: the message is a response, or its answer is not waited for -/
  | none
  deriving DecidableEq, Repr

/-- A message under way at its sender: a relayed command, a response, or one of the firmware's own (R396, R430). -/
structure Relay where
  owner : RelayOwner
  ua : BitVec 18
  /-- SEQ of its MBX frames (R396) -/
  seq : BitVec 8
  /-- RESP of its frames: a response is done once acknowledged (R385, R396) -/
  isResp : Bool
  /-- fragments not yet acknowledged (R396) -/
  unacked : List Nat
  /-- sends of the present fragment so far (R396) -/
  tries : Nat
  /-- the bytes sent -/
  cmd : List Byte
  /-- response bytes of fragment 0 received (R396) -/
  resp : List Byte
  deriving DecidableEq, Repr

/-- Answers that part 0, or a unit that passes a command on to it, collects from other units (R144, R411, R455). -/
structure Gather where
  /-- channel or relay slot whose command waits; none for a long command -/
  src : Option Nat
  /-- sites to stop again when a part refuses (R411) -/
  sites : List Nat
  /-- answers still to come -/
  left : Nat
  /-- first refusal among the answers -/
  bad : Option Status
  /-- answers: part and response payload -/
  answers : List (Nat × List Byte)
  deriving DecidableEq, Repr

/-- A command another unit relayed here: a relay slot (R396, R430, R431). -/
structure RelaySlot where
  from_ : BitVec 18
  seq : BitVec 8
  /-- command bytes of fragment 0 -/
  cmd : List Byte
  /-- complete: the command may run -/
  ready : Bool
  /-- broadcast: only a refusal answers (R397) -/
  bcast : Bool
  /-- the domain whose release the command waits for (R475) -/
  waits : Option Nat
  deriving DecidableEq, Repr

/-- A response kept for RETRY (R431): source UA, channel, TAG, response bytes. -/
structure KeptResp where
  ua : BitVec 18
  ch : Nat
  tag : BitVec 16
  resp : List Byte
  deriving DecidableEq, Repr

/-- Chain, gateway and time state of a unit (R381 to R413). -/
structure ChainState where
  /-- UA (R389); reset 0x3_FC00 -/
  ua : BitVec 18 := 0x3FC00
  /-- sticky-address flag (R391); reset 0 -/
  sticky : Bool := false
  /-- sticky address (R391); reset 0x3_FC00 -/
  stickyUa : BitVec 18 := 0x3FC00
  /-- HEAD (R390, R413); reset 0 -/
  head : Bool := false
  /-- PHYS (R413); reset 0 -/
  phys : BitVec 16 := 0
  /-- NUNITS (R413); reset 0 -/
  nunits : BitVec 16 := 0
  /-- occupancy map of the last enumeration (R390); reset 0 -/
  map : BitVec 1024 := 0
  /-- ticket of the enumeration under way and its new UA (R390); reset none -/
  enum : Option (BitVec 32 × BitVec 18) := none
  /-- CYN_IN (R381) -/
  inp : Port := {}
  /-- CYN_OUT (R381) -/
  out : Port := {}
  /-- UNWRAP held back by a chain-hinged site (R395); reset no -/
  unwrapWait : Bool := false
  /-- break reports the head has posted: (UA, port, PHYS) (R393, R394); reset none -/
  breaks : List (BitVec 18 × Nat × Nat) := []
  /-- BREAKS (R413); reset 0 -/
  breakCount : BitVec 16 := 0
  /-- MBX_RETRY (R413); reset 0 -/
  mbxRetry : BitVec 32 := 0
  /-- UA_UNKNOWN (R413); reset 0 -/
  uaUnknown : BitVec 16 := 0
  /-- SEEN_DROPS (R388, R413); reset 0 -/
  seenDrops : BitVec 16 := 0
  /-- frames discarded at this destination, with the reason counted (R385); reset 0 -/
  discards : BitVec 32 := 0
  /-- SEQ of the next MBX frame by destination UA (R396); reset 0 -/
  txSeq : Tab (BitVec 8) := []
  /-- SEQ last accepted by source UA, for duplicates (R396); reset none -/
  rxSeq : Tab (Option (BitVec 8)) := []
  /-- frames sent: (by CYN_OUT, frame), newest first (R383); reset none -/
  sent : List (Bool × ChainFrame) := []
  /-- relays under way (R430); reset none -/
  relays : List Relay := []
  /-- gathers under way, keyed by ticket, or 2^32 + channel or slot (R144, R455); reset none -/
  gathers : Tab (Option Gather) := []
  /-- relay slots, keyed 16 and up (R430); reset none -/
  slots : Tab (Option RelaySlot) := []
  /-- kept responses, newest first (R431); reset none -/
  kept : List KeptResp := []
  /-- broadcasts that wait for their return: (SEQ, ticket, units) (R397); reset none -/
  bcasts : List (BitVec 8 × BitVec 32) := []
  /-- gateway address and port; none: no gateway (R399); reset none -/
  gw : Option (BitVec 32 × BitVec 16) := none
  /-- another unit of the segment is the gateway (R399): learned from it; reset no -/
  otherGw : Bool := false
  /-- peers: segment ↦ IPv4 (R399); reset none -/
  peers : Tab (Option (BitVec 32)) := []
  /-- peers reported down (R399); reset none -/
  peerDown : List Nat := []
  /-- segments in conflict: traffic dropped (R399); reset none -/
  segConflict : List Nat := []
  /-- datagrams sent: (peer, frame), newest first (R399); reset none -/
  datagrams : List (Nat × ChainFrame) := []
  /-- ARP answers sent, newest first (R399); reset none -/
  arp : List (BitVec 32) := []
  deriving DecidableEq, Repr

/-- Device time (R400 to R412). -/
structure TimeState where
  /-- the time counter in units of 2^-40 ns (R401): SEC, NS, FRAC and 24 bits below; zero at power-on -/
  counter : Nat := 0
  /-- EPOCH (R400); zero at power-on -/
  epoch : BitVec 16 := 0
  /-- servo state (R403); UNLOCKED at power-on -/
  servo : Servo := .unlocked
  /-- RATE, signed (R401); DESIGN CHOICE 0 -/
  rate : BitVec 32 := 0
  /-- frequency estimate under the phase term, as a RATE value (R402); DESIGN CHOICE 0 -/
  freq : BitVec 32 := 0
  /-- TCTL (R403); reset 0x0000_0300 -/
  tctl : BitVec 32 := 0x300
  /-- the ROLE 1 master has made its one step (R404); reset no -/
  stepped : Bool := false
  /-- OFFSET in 2^-16 ns, signed (R413); reset 0 -/
  offset : BitVec 32 := 0
  /-- MASTER_UA (R413); 0x3_FC00 when none -/
  master : BitVec 18 := 0x3FC00
  /-- another master seen within 4 SYNC periods: UA and syncs left (R404, R406); reset none -/
  otherMaster : Option (BitVec 18) := none
  /-- consecutive syncs within ±4 ns (R403); reset 0 -/
  goodSyncs : Nat := 0
  /-- HOLD_MS, counted from entry (R409); device time of entry is `holdFrom`; reset 0 -/
  holdMs : BitVec 32 := 0
  /-- counter value at entry to HOLDOVER (R409); reset 0 -/
  holdFrom : Nat := 0
  /-- SYNCS (R413); reset 0 -/
  syncs : BitVec 32 := 0
  /-- JUMPS (R413); reset 0 -/
  jumps : BitVec 16 := 0
  /-- a jump has been posted for this master (R403); reset none -/
  jumpFor : Option (BitVec 18) := none
  /-- MASTER_CHANGES (R413); reset 0 -/
  masterChanges : BitVec 16 := 0
  /-- hop delays of the last 16 exchanges, newest first, in 2^-16 ns (R405); reset none -/
  hops : List Int := []
  /-- t1 stamp of the HOPDLY request under way, with its sequence (R405); reset none -/
  hopReq : Option (Nat × BitVec 11) := none
  /-- next HOPDLY sequence (R385); reset 0 -/
  hopSeq : BitVec 11 := 0
  /-- next TIME sequence (R385); reset 0 -/
  timeSeq : BitVec 12 := 0
  /-- generators, keyed 0 to 7 (R412) -/
  tevs : Tab Tev := []
  /-- idle level of each TIME_OUT pin: high after POL was last 1 (R412); reset low -/
  toutIdle : BitVec 4 := 0
  /-- trigger pulses on TIME_OUT pins: the sash, and the step clocks in which its pulse begins and is over, keyed by pin (R279);
  reset none -/
  toutTrig : Tab (List (Nat × Nat × Nat)) := []
  /-- PTP transport: Annex E when set (R408, R463); DESIGN CHOICE 0, Annex C -/
  ptpAnnexE : Bool := false
  /-- PTP IPv4 (R463); DESIGN CHOICE 0 -/
  ptpIp : BitVec 32 := 0
  /-- PTP NETMASK (R463); DESIGN CHOICE 0 -/
  ptpMask : BitVec 32 := 0
  /-- best Announce seen (R408); reset none -/
  ptpBest : Option PtpAnnounce := none
  /-- last Sync: master time and ingress time, in ns × 2^16 (R408); reset none -/
  ptpSyncAt : Option (Nat × Nat) := none
  /-- transmit stamp of the last Delay_Req (R408); reset none -/
  ptpReqAt : Option Nat := none
  /-- mean path delay measured, in ns × 2^-16 (R408); reset 0 -/
  ptpDelay : Int := 0
  deriving DecidableEq, Repr

/-- The STATE of a mailbox channel (R423). -/
inductive ChState where
  | idle | busy | done | closed
  deriving DecidableEq, Repr

/-- A mailbox channel (R423 to R427). -/
structure Channel where
  /-- the command area, 256 bytes, keyed by offset (R425); reset 0 -/
  cmd : Tab Byte := []
  /-- the copy the firmware works on (R423); DESIGN CHOICE empty -/
  copy : List Byte := []
  /-- the response area, 256 bytes (R426); DESIGN CHOICE zero -/
  resp : List Byte := []
  /-- STATE (R423); reset 4 CLOSED -/
  state : ChState := .closed
  /-- RELAYED (R430); reset 0 -/
  relayed : Bool := false
  /-- DB_IGNORED (R424); reset 0 -/
  dbIgnored : Bool := false
  /-- LAST (R424); reset 0xFFFF -/
  last : BitVec 16 := 0xFFFF
  /-- RESET written while BUSY: the response is to be discarded (R427); reset no -/
  resetPend : Bool := false
  /-- the domain whose release the command waits for (R475); reset none -/
  waits : Option Nat := none
  deriving DecidableEq, Repr

/-- An event-ring entry before its PHASE is set (R433). -/
structure Event where
  kind : BitVec 8
  status : Status
  source : BitVec 18
  ticket : BitVec 32
  subject : BitVec 32
  time : BitVec 128
  data : List Byte
  deriving DecidableEq, Repr

/-- What a BAR2 request is (R419, R420). -/
structure Bar2Req where
  id : Nat
  write : Bool
  addr : Nat
  len : Nat
  /-- data of a write, or bytes of a read gathered so far -/
  data : List Byte
  /-- pieces still unanswered -/
  left : Nat
  /-- EP set on the completion (R339) -/
  ep : Bool
  /-- held behind earlier writes (R420) -/
  held : Bool
  deriving DecidableEq, Repr

/-- A completed BAR2 read: data and EP (R419). -/
structure Bar2Done where
  id : Nat
  data : List Byte
  ep : Bool
  deriving DecidableEq, Repr

/-- The work a ticket stands for (R428). -/
inductive Work where
  | bootLoad (haddr len : Nat)
  | load (site : Nat) (cmd : List Byte)
  | unload (site : Nat)
  | transom (site : Nat) (cmd : List Byte)
  | arm (site : Nat) (cmd : List Byte)
  | calibrate (cmd : List Byte)
  | failClear (site set : Nat)
  | failReadout (cmd : List Byte)
  | repair (cmd : List Byte)
  | trigReadout (cmd : List Byte)
  | jobLoad (cmd : List Byte)
  | train (cmd : List Byte)
  | sweep (cmd : List Byte)
  | copy (cmd : List Byte)
  | enumerate (cmd : List Byte)
  | domainSet (dom st : Nat)
  | bcast (cmd : List Byte)
  deriving DecidableEq, Repr

/-- What phase 1 of a load has settled (R145). -/
structure LoadPlan where
  /-- physical sash of each virtual sash, or of each rank in an elastic site (R139, R142) -/
  sashes : List Nat
  /-- placement alternative; 0 in an elastic image -/
  alt : Nat
  /-- the load is strict (R130, R172) -/
  strict : Bool
  /-- the key named by a signed image, as it stood then (R134) -/
  key : List Byte
  /-- UAs of the parts (R451) -/
  peers : List Nat
  /-- stops whose banks change (R145) -/
  stops : List Nat
  /-- the load has been refused with this code, and its stops return to their earlier banks (R119, R146); none while it goes on -/
  back : Option Status := none
  deriving DecidableEq, Repr

/-- A ticket (R429). -/
structure Ticket where
  opcode : BitVec 16
  work : Work
  /-- QUEUED: not started -/
  queued : Bool
  /-- ENDED, with its final status -/
  final : Option Status
  /-- PROGRESS (R448) -/
  progress : BitVec 64
  /-- TOTAL (R448) -/
  total : BitVec 64
  /-- phase of the work (R145) -/
  phase : Nat
  /-- COMPLETE data -/
  data : List Byte
  /-- a CANCEL has been accepted (R447) -/
  cancel : Bool
  /-- COMPLETE has been written into the ring, or a TICKET command has read the end (R429) -/
  retained : Bool
  /-- host error reported to the work (R435) -/
  hostErr : Bool
  /-- source UA of the command, for relayed work -/
  source : BitVec 18
  /-- bytes of the source that the long work has taken in so far (R145, R435) -/
  buf : List Byte := []
  /-- what phase 1 of a load has settled (R145) -/
  plan : Option LoadPlan := none
  /-- time of the unit in ps when the present wait began: the 1 ms of R127 and R202, and the like -/
  since : Nat := 0
  deriving DecidableEq, Repr

/-- The host interface and firmware-side host state (R414 to R439, R448). -/
structure HostState where
  /-- HIF_STATUS.BOOT_ERR (R436); reset 0 -/
  bootErr : Status := 0
  /-- HIF_STATUS.FW_READY (R423, R488); reset 0 -/
  fwReady : Bool := false
  /-- HIF_STATUS.BOOT_STATE: 0 ROM, 1 WAIT_HOST, 2 AUTH, 3 RUNNING, 4 FAILED; reset 0 -/
  bootState : BitVec 3 := 0
  /-- HIF_IRQ_STATUS (R417); reset 0 -/
  irqStatus : BitVec 32 := 0
  /-- HIF_IRQ_MASK (R417); reset 0x000F_FFFF -/
  irqMask : BitVec 32 := 0x000FFFFF
  /-- HIF_WIN_BASE (R418); reset 0 -/
  winBase : BitVec 32 := 0
  /-- HIF_EVQ_BASE (R432); reset 0 -/
  evqBase : BitVec 64 := 0
  /-- HIF_EVQ_CTL (R432); reset 0 -/
  evqCtl : BitVec 32 := 0
  /-- HIF_EVQ_PROD (R432); reset 0x0001_0000 -/
  evqProd : BitVec 32 := 0x00010000
  /-- HIF_EVQ_CONS (R434); reset 0 -/
  evqCons : BitVec 32 := 0
  /-- LOST of HIF_EVQ_STAT (R434); reset 0 -/
  evqLost : BitVec 16 := 0
  /-- events that wait in the firmware, oldest first (R434); HELD is their number; reset none -/
  held : List Event := []
  /-- events written to the ring, newest first, with the index written (R433); reset none -/
  written : List (Nat × Event) := []
  /-- MSI-X messages sent, newest first, by vector (R417); reset none -/
  msix : List Nat := []
  /-- time of the unit in ps at which vector 0 last sent a message (R432); reset none -/
  msiAt : Option Nat := none
  /-- a message on vector 0 waits for HOLDOFF (R432); reset no -/
  msiHeld : Bool := false
  /-- channels, keyed 0 to 15 (R423) -/
  chans : Tab Channel := []
  /-- tickets, keyed by number (R429); reset none -/
  tickets : Tab (Option Ticket) := []
  /-- next ticket number (R429); reset 1 -/
  nextTicket : BitVec 32 := 1
  /-- the stop's buffers hold a parity error that the next BAR2 access meets (R30, R422); DESIGN CHOICE no -/
  bufBad : Bool := false
  /-- BAR2 requests outstanding, oldest first (R420); reset none -/
  bar2 : List Bar2Req := []
  /-- BAR2 reads completed, newest first (R419); reset none -/
  bar2Done : List Bar2Done := []
  /-- next BAR2 request number (model's own); reset 0 -/
  nextBar2 : Nat := 0
  /-- host memory, the environment's: bytes by bus address; reset none -/
  mem : Tab Byte := []
  /-- PCIe configuration space words, keyed by offset ÷ 4, XOR their reset values (R414); reset 0 -/
  cfg : Tab (BitVec 32) := []
  /-- PERST_N asserted (R415, R438); at power-on asserted until its release -/
  perst : Bool := true
  /-- endpoint trained and answering (R415); reset no -/
  linkUp : Bool := false
  /-- key slots 0 to 3: P-384 public keys, 97 bytes (R449); reset empty -/
  keys : Tab (List Byte) := []
  /-- signed-only setting (R134, R449); reset 0 -/
  signedOnly : Bool := false
  /-- the FW_READY event waits for the ring (R437); reset no -/
  fwEvent : Bool := false
  /-- the DI_BOARD_RECORD event waits for the ring (R492); reset no -/
  boardEvent : Bool := false
  deriving DecidableEq, Repr

end Sys2Proof.Machine
end

