-- ==== Sys2Proof/Machine/StateMem.lean ====
section
/-! DEFINITION. The addressed memories (chapter 13): contents, valid bits, check state, remap tables, control and status,
and the DDR channels with their region map. -/

namespace Sys2Proof.Machine

/-- How a stored 64-bit word decodes (R338, R339): a word not listed is clean. -/
inductive WordCheck where
  /-- one bit is in error -/
  | correctable
  /-- a fresh double error -/
  | uncorrectable
  /-- stored under the poison syndrome 0x03 -/
  | poison
  deriving DecidableEq, Repr

/-- The status record of R356 and the firmware's bookkeeping of one memory, keyed by MEMID. -/
structure MemStatus where
  /-- STARVED in the current lap (R356); reset 0 -/
  starved : Bool := false
  /-- DI_REMAP_FULL raised (R352, R356); reset 0 -/
  remapFull : Bool := false
  /-- time of the unit, in ps, when the present lap began: LAP_RAW counts ms from it (R180, R356); reset 0 -/
  lapFrom : Nat := 0
  /-- the lap time in ms that the firmware's latest sample has carried (R180); reset 0 -/
  lapCarry : Nat := 0
  /-- SPARE_COLS, fused spare columns in use (R349, R356); fused per unit: DESIGN CHOICE 0 -/
  spareCols : BitVec 8 := 0
  /-- CORRECTED (R338, R356); reset 0 -/
  corrected : BitVec 32 := 0
  /-- UNCORRECTABLE (R356); reset 0 -/
  uncorrectable : BitVec 32 := 0
  /-- POISON_READS (R339, R356); reset 0 -/
  poisonReads : BitVec 32 := 0
  /-- POISON_WRITES (R340, R356); reset 0 -/
  poisonWrites : BitVec 32 := 0
  /-- LAST_CE_ADDR (R356); reset 0 -/
  lastCe : BitVec 64 := 0
  /-- LAST_UE_ADDR (R356); reset 0 -/
  lastUe : BitVec 64 := 0
  /-- LAPS (R354, R356); reset 0 -/
  laps : BitVec 32 := 0
  /-- LAST_LAP_MS (R356); reset 0 -/
  lastLapMs : BitVec 32 := 0
  /-- FILLS (R347, R356); reset 0 -/
  fills : BitVec 32 := 0
  /-- the last 32 addresses with a correctable error and their counts, newest first (R352); reset empty -/
  ceHist : List (Nat × Nat) := []
  /-- the remap table: entry number ↦ active entry's word or line index (R350); reset empty -/
  remap : Tab (Option Nat) := []
  /-- words the scrubber found correctable and has still to rewrite, by unit word index (R353); reset none -/
  rewrite : List Nat := []
  /-- the control word, XOR its reset value (R355); reset 0, that is 0xC300_03E8 or 0xC300_7530 -/
  mctlX : BitVec 32 := 0
  deriving DecidableEq, Repr

/-- One DDR channel (R342, R343). -/
structure DdrChan where
  /-- capacity in GiB that the SPD describes: 0, 16, 24 or 32 (R342); board: DESIGN CHOICE 32 -/
  capGiB : Nat := 32
  /-- the SPD describes an organisation of R342 and training passes (R343); board: DESIGN CHOICE yes -/
  trainable : Bool := true
  /-- trained, so mapped (R343); reset unmapped -/
  trained : Bool := false
  /-- data rate in MT/s of the training (R461); reset 0 -/
  rate : Nat := 0
  deriving DecidableEq, Repr

/-- A request held at a controller behind a region fill (R347). -/
structure HeldReq where
  region : Nat
  /-- the worm that waits -/
  worm : Nat
  deriving DecidableEq, Repr

/-- All addressed memory of the unit. -/
structure MemState where
  /-- bytes by unit address, canonical: rising addresses, no zero byte; an unlisted byte reads zero (R341, R347) -/
  bytes : List Host.Cell := []
  /-- valid bits of on-chip words, listed when set, keyed by unit address ÷ 8 (R341); reset clear -/
  valid : Tab Bool := []
  /-- check state of words, keyed by unit address ÷ 8 (R338, R339); reset clean -/
  check : Tab (Option WordCheck) := []
  /-- the region valid map, listed when set, keyed by region (R346); reset clear -/
  regions : Tab Bool := []
  /-- MAP: INTERLEAVE when set (R344); reset LINEAR -/
  interleave : Bool := false
  /-- status and control by MEMID (R355, R356) -/
  status : Tab MemStatus := []
  /-- the channels, keyed 0 to 7 for A to H (R342) -/
  chans : Tab DdrChan := []
  /-- region fills in progress (R347); reset none -/
  fills : List Nat := []
  /-- requests held behind a fill, in arrival order (R347); reset none -/
  held : List HeldReq := []
  deriving DecidableEq, Repr

end Sys2Proof.Machine
end

