-- ==== Sys2Proof/Machine/StatePin.lean ====
section
/-! DEFINITION. The state of a lane: its pin engine, calibration, PHY and fail path (chapters 07, 09 and 14), and of the
sash's trigger unit (chapter 10). -/

namespace Sys2Proof.Machine

/-- The PINCFG fields of R215 in force for a lane. -/
structure PinCfg where
  /-- PLOG, log2 P (R215); reset 0 -/
  plog : Nat := 0
  /-- SOURCE: 0 model, 1 pattern, 2 PRBS (R215); reset 0 -/
  source : BitVec 8 := 0
  /-- PATWIRE (R215); reset 0 -/
  patwire : BitVec 3 := 0
  /-- RATE in Mbit/s (R215, R358); reset 0 -/
  rate : Nat := 0
  /-- KCODES, K (R215); reset 0 -/
  k : Nat := 0
  /-- REPEAT, RPT (R215); reset 0 -/
  rpt : Nat := 0
  /-- LEAD in steps (R187, R215); reset 0 -/
  lead : Nat := 0
  /-- TSETCFG: bit 7 TS_WIRE, bits 2 to 0 TSWIRE (R198, R215); reset 0 -/
  tsetcfg : BitVec 8 := 0
  /-- TSET (R198, R215); reset 0 -/
  tset : BitVec 8 := 0
  /-- CTXCFG: bit 7 CTXEN, bits 2 to 0 CTXWIRE (R211, R215); reset 0 -/
  ctxcfg : BitVec 8 := 0
  /-- RWCFG: bit 7 RWEN, bits 2 to 0 RWIRE (R210, R215); reset 0 -/
  rwcfg : BitVec 8 := 0
  /-- RTBUD in ps (R202, R215); reset 0 -/
  rtbud : Nat := 0
  /-- RAWCMP (R213, R215); reset 0 -/
  rawcmp : BitVec 2 := 0
  /-- PRBSSEL: bits 4 to 0 degree, bit 7 inversion (R212, R215); reset 0 -/
  prbssel : BitVec 8 := 0
  /-- DCMP_OFF (R213, R215); reset 0 -/
  dcmpOff : Nat := 0
  /-- RELSTEP, keyed by code index (R188, R215); reset 0 -/
  relstep : Tab Nat := []
  /-- ACTIVE of each pin (R216); reset 0 -/
  active : BitVec 32 := 0
  /-- PINMASK of each pin as staged or in use for new cycles (R216, R535); reset 0 -/
  pinmask : BitVec 32 := 0
  deriving DecidableEq, Repr

/-- The compare masks in force from a cycle on (R204, R535). -/
structure MaskInForce where
  /-- first cycle the row set governs -/
  fromCycle : Nat
  /-- mask rows, keyed by pin, bit i masking code index i (R204) -/
  rows : Tab (BitVec 256)
  /-- PINMASK (R216) -/
  pinmask : BitVec 32
  deriving DecidableEq, Repr

/-- The double compare-mask table of R204. -/
structure MaskTable where
  /-- copy 0, keyed by pin (R204); reset 0 -/
  rows0 : Tab (BitVec 256) := []
  /-- copy 1, keyed by pin (R204); reset 0 -/
  rows1 : Tab (BitVec 256) := []
  /-- the active copy is copy 1 (R160, R204); reset copy 0 -/
  active1 : Bool := false
  /-- copy 0 is complete (R204); a load leaves both complete -/
  complete0 : Bool := true
  /-- copy 1 is complete (R204); a load leaves both complete -/
  complete1 : Bool := true
  /-- the pending swap request's cycle cs (R204); reset none -/
  swap : Option Nat := none
  /-- masks in force by cycle, newest first (R203, R236); reset none -/
  inForce : List MaskInForce := []
  deriving DecidableEq, Repr

/-- The drive codes of one model cycle in the outbound queue, keyed code × 32 + pin, unlisted keep 0b11 (R46). -/
structure OutCycle where
  cycle : Nat
  codes : Tab (BitVec 2)
  deriving DecidableEq, Repr

/-- A posted expect (R44, R203). -/
structure Expect where
  cycle : Nat
  code : Nat
  pin : Nat
  /-- 0 L, 1 H, 2 M, 4 V (R43); X is never stored -/
  want : BitVec 3
  deriving DecidableEq, Repr

/-- A speculated bit waiting for its check (R225). -/
structure SpecBit where
  cycle : Nat
  code : Nat
  pin : Nat
  sel : Bool
  bit : Bool
  deriving DecidableEq, Repr

/-- A calibration record (R199). -/
structure CalRec where
  /-- TX delay, whole UI, 0 to 1,023 -/
  delayUi : Nat
  /-- TX delay, 1/64 UI, 0 to 63 -/
  delayFrac : Nat
  /-- OFF_p, keyed by pin -/
  off : Tab (BitVec 8)
  /-- bit rate it was measured at, in Mbit/s -/
  rate : Nat
  /-- log2 P it was measured at -/
  plog : Nat
  deriving DecidableEq, Repr

/-- What a calibration in progress has found on a lane (R200, R201). -/
structure CalRun where
  /-- 1 lock and IDLE frames, 2 the LOOPBACK frames, 4 the pin loopback (R200) -/
  stage : Nat := 1
  /-- LOOPBACK frames sent in this step (R200) -/
  sent : Nat := 0
  /-- LOOPBACK frames returned and compared in step 2 (R200) -/
  frames : Nat := 0
  /-- first code position that compared wrong (R201) -/
  bad : Option Nat := none
  /-- slots of the pin loopback received (R200) -/
  slots : Nat := 0
  /-- slot of the first 0b01 on each pin, plus one, keyed by pin; 0 none yet (R200) -/
  step : Tab Nat := []
  /-- lane mode, rate and log2 P before the calibration -/
  was : LaneMode × Nat × Nat := (.idle, 0, 0)
  deriving DecidableEq, Repr

/-- The lane status record of R221; its counters are cleared at load and at each arm. -/
structure PinStatus where
  /-- UNCAL (R202, R221); reset 0 -/
  uncal : Bool := false
  /-- ORIGIN_OFFSET (R187, R221); reset 0 -/
  originOffset : BitVec 32 := 0
  /-- ROUND_TRIP (R202, R221); reset 0 -/
  roundTrip : BitVec 32 := 0
  /-- RX_HOLD (R202, R221); reset 0 -/
  rxHold : BitVec 32 := 0
  /-- TX_FRAMES (R221); reset 0 -/
  txFrames : BitVec 48 := 0
  /-- COMPARES (R221); reset 0 -/
  compares : BitVec 48 := 0
  /-- MISMATCHES (R221); reset 0 -/
  mismatches : BitVec 48 := 0
  /-- BIT_ERRORS (R214, R221); reset 0 -/
  bitErrors : BitVec 48 := 0
  /-- ILLEGAL_RESP (R185, R221); reset 0 -/
  illegal : BitVec 32 := 0
  /-- FAIL_LOST (R206, R221); reset 0 -/
  failLost : BitVec 32 := 0
  /-- FRAME_ERR (R221); reset 0 -/
  frameErr : BitVec 16 := 0
  /-- ASIC_CRC (R221); reset 0 -/
  asicCrc : BitVec 16 := 0
  /-- PE_ALARM (R197, R221); reset 0 -/
  peAlarm : BitVec 16 := 0
  /-- MASK_STALE (R204, R221); reset 0 -/
  maskStale : BitVec 16 := 0
  /-- LOCK_LOSS (R213, R221); reset 0 -/
  lockLoss : BitVec 16 := 0
  /-- LAST_VOID_CODE (R221); reset 0xFF: none -/
  lastVoidCode : BitVec 8 := 0xFF
  /-- LAST_VOID_CYCLE (R221); reset 0 -/
  lastVoidCycle : BitVec 48 := 0
  deriving DecidableEq, Repr

/-- The record with its counters cleared; UNCAL and the measured times are no counters (R221). -/
def PinStatus.cleared (p : PinStatus) : PinStatus :=
  { uncal := p.uncal, originOffset := p.originOffset, roundTrip := p.roundTrip, rxHold := p.rxHold }

/-- The PRBS checker of R213. -/
structure PrbsChk where
  /-- received bits the checker predicts from; reset 0 -/
  reg : BitVec 32 := 0
  /-- bits received since the last seeding; reset 0 -/
  seeded : Nat := 0
  /-- error-free bits in a row before lock; reset 0 -/
  good : Nat := 0
  /-- the checker is locked (R213, R221); reset no -/
  locked : Bool := false
  /-- outcomes of the last 256 bits, true an error, newest first (R213); reset none -/
  window : List Bool := []
  deriving DecidableEq, Repr

/-- The fail path of a sash (R206, R247, R248, R251). -/
structure FailPath where
  /-- the mismatch FIFO, 512 entries and one for a model check, oldest first (R206, R251); reset empty -/
  fifo : List Rec16 := []
  /-- records in the fail buffer, oldest first, each with its buffer line (R247, R263); reset empty -/
  buf : List (Nat × Rec16) := []
  /-- lines written into the fail buffer since arm (R247); reset 0 -/
  wline : Nat := 0
  /-- the slice is full under KEEP_FIRST or HALT: later records are dropped (R258); reset no -/
  sliceFull : Bool := false
  /-- a model-check record of this cycle has been captured (R251); reset no -/
  mcSeen : Bool := false
  /-- model-check mismatches not yet in the FIFO: (cycle, step, pane, record) (R248, R251); reset none -/
  mcPend : List (Nat × Nat × Nat × Rec16) := []
  /-- records taken from the sash, first of the run posted as lost (R206); reset no -/
  lossPosted : Bool := false
  deriving DecidableEq, Repr

/-- The PHY record of a lane (R380) and its margin limits (R367). -/
structure PhyStatus where
  /-- CTLE peaking code (R364, R380); reset 0 -/
  ctle : BitVec 8 := 0
  /-- DFE taps 1 to 10, tap t at bits 8t − 1 to 8t − 8 (R364, R380); reset 0 -/
  dfe : BitVec 80 := 0
  /-- EYE_H, 1/64 UI (R366, R380); reset 0 -/
  eyeH : BitVec 8 := 0
  /-- EYE_V, mV (R366, R380); reset 0 -/
  eyeV : BitVec 16 := 0
  /-- device time, in ps, of the last completed sweep, from which EYE_AGE is counted (R366, R380); reset 0 -/
  eyeAt : Nat := 0
  /-- H_MIN (R367); reset 0, off -/
  hMin : BitVec 8 := 0
  /-- V_MIN (R367); reset 0, off -/
  vMin : BitVec 16 := 0
  /-- LSTATE[5], margin below limit (R367, R380); reset 0 -/
  under : Bool := false
  /-- BLOCK_LOSS (R380); reset 0 -/
  blockLoss : BitVec 16 := 0
  /-- IDLE_EXITS (R380); reset 0 -/
  idleExits : BitVec 16 := 0
  /-- SLOW_EXITS (R370, R380); reset 0 -/
  slowExits : BitVec 16 := 0
  /-- SLIPS (R373, R380); reset 0 -/
  slips : BitVec 16 := 0
  /-- LAST_TX_TS (R374, R380); reset 0 -/
  lastTx : BitVec 128 := 0
  /-- LAST_RX_TS (R374, R380); reset 0 -/
  lastRx : BitVec 128 := 0
  deriving DecidableEq, Repr

/-- The link-mode protocol state of a lane (R124 to R126). -/
structure LinkState where
  /-- SEQ of the next frame sent (R124); reset 0 -/
  txSeq : BitVec 8 := 0
  /-- SEQ expected in the next frame received; none before the first (R126); reset none -/
  rxSeq : Option (BitVec 8) := none
  /-- the last HINGE token acted on: (KIND, hinge) (R125); reset none -/
  lastToken : Option (Nat × BitVec 16) := none
  /-- bad copies of the present HINGE token (R126); reset 0 -/
  badCopies : Nat := 0
  /-- frames handed to the lane, header then bundle, oldest first (R123, R124); reset empty -/
  tx : List (BitVec 64 × BitVec 512) := []
  deriving DecidableEq, Repr

/-- One serial lane and its pin engine (R19, R182 to R221, R359 to R380). -/
structure Lane where
  /-- lane mode (R182); reset idle (R359) -/
  mode : LaneMode := .idle
  /-- bit rate in Mbit/s (R358, R359); reset 0 -/
  rate : Nat := 0
  cfg : PinCfg := {}
  masks : MaskTable := {}
  /-- calibration record, cleared at power-on and SYS_RST_N (R199) -/
  cal : Option CalRec := none
  /-- calibration in progress (R200); reset none -/
  calib : Option CalRun := none
  /-- block lock, or CDR lock in direct and keyhole mode (R221, R362) -/
  lock : Bool := false
  /-- FCNT of the next frame sent (R534); 0 on entry to pin mode -/
  fcnt : BitVec 12 := 0
  /-- FCNT expected next from the ASIC (R197, R534); none before the round-trip measurement -/
  rxFcnt : Option (BitVec 12) := none
  /-- the site's code origin has been set in this run (R187) -/
  origin : Bool := false
  /-- data frames assembled since the origin (R186) -/
  frame : Nat := 0
  /-- words sent since the origin in direct mode (R212) -/
  txWords : Nat := 0
  /-- the outbound queue: codes of the uncommitted cycles (R46, R224); reset keep -/
  outq : List OutCycle := []
  /-- the pattern FIFO, oldest first, with the long wires in the step that took the word, wire w at bit 32w (R85, R189, R198, R211) -/
  patFifo : List (Word × BitVec 256) := []
  /-- the long wires at RELSTEP, keyed cycle × 256 + code index, wire w at bit 32w (R198, R211) -/
  samples : Tab (BitVec 256) := []
  /-- context words of the model codes sent, keyed cycle × 256 + code index (R211) -/
  codeCtx : Tab Word := []
  /-- context words of pattern codes, keyed by pattern word number since the origin (R211) -/
  patCtx : Tab Word := []
  /-- words taken from the pattern FIFO since the origin (R189) -/
  patTaken : Nat := 0
  /-- direct mode: the pattern FIFO has run empty in this run, and zero words leave (R212); reset no -/
  starved : Bool := false
  /-- response codes of the received data frames, keyed by frame number (R193, R203) -/
  resp : Tab (BitVec 1024) := []
  /-- data frames received and checked since the origin (R196) -/
  rxFrames : Nat := 0
  /-- the expect store (R203) -/
  expects : List Expect := []
  /-- speculated bits not yet checked (R225) -/
  specs : List SpecBit := []
  /-- response codes of the most recent slot decoded, for RWIRE: bits 2p + 1 to 2p of pins 0 to 15 (R210); reset 0 -/
  lastResp : Word := 0
  /-- PRBS transmitter register (R212); seeded with all ones -/
  prbsTx : BitVec 32 := 0xFFFFFFFF
  chk : PrbsChk := {}
  /-- TX words of the last 1,024, newest first (R213) -/
  echo : List Word := []
  /-- RX words received since the origin (R213) -/
  rxWords : Nat := 0
  /-- RX word boundary: slips made, in UI, modulo 32 (R179, R373); reset 0 -/
  slip : Nat := 0
  /-- received bits that slips have still to discard (R179); reset 0 -/
  slipDue : Nat := 0
  /-- bits received after the last whole word, below 32, and their number (R179, R373); reset none -/
  rxRest : Nat := 0
  rxRestLen : Nat := 0
  /-- lane-wide fields that wait for a frame: (first cycle of the first frame they govern, 0 for the next frame; FIELD of R217; VALUE),
  in order (R198, R217, R535); reset none -/
  pinLater : List (Nat × Nat × Nat) := []
  /-- the frame last handed to the PCS: header and payload (R190, R191); reset none -/
  txLast : Option (BitVec 64 × BitVec 1024) := none
  /-- the last 58 bits that the scrambler sent, the oldest at bit 0 (R190); the spec gives no start value: reset 0, DESIGN CHOICE -/
  txScr : BitVec 58 := 0
  /-- the blocks of the frame last sent as they leave, each its sync header and 64 bits (R124, R190); reset none -/
  txBlocks : List (BitVec 2 × BitVec 64) := []
  st : PinStatus := {}
  fail : FailPath := {}
  link : LinkState := {}
  /-- LCTL (R363); reset 0x0000_0008 -/
  lctl : BitVec 32 := 8
  /-- transmitter in electrical idle (R368); every lane at reset (R359) -/
  txIdle : Bool := true
  /-- receiver holds idle (R368) -/
  rxIdle : Bool := true
  /-- an idle exit is under way (R369) -/
  exiting : Bool := false
  phy : PhyStatus := {}
  deriving DecidableEq, Repr

/-- One condition engine of a trigger unit: its fields (R281) and its count in progress (R273). -/
structure TrigEngine where
  /-- COND (R273, R281); reset 0, off -/
  cond : BitVec 8 := 0
  /-- PIN (R281); reset 0 -/
  pin : Nat := 0
  /-- OPT: bit 0 POL, bit 1 BOTH, bit 2 INSIDE (R281); reset 0 -/
  opt : BitVec 8 := 0
  /-- MIN (R281); reset 0 -/
  min : Nat := 0
  /-- MAX (R281); reset 0 -/
  max : Nat := 0
  /-- the level before the present run of equal levels, for runts and slews (R273); reset none -/
  before : Option (BitVec 2) := none
  /-- slots in the present run, or without a change (R273); reset 0 -/
  count : Nat := 0
  /-- the present pulse has already hit (R273); reset no -/
  hitDone : Bool := false
  deriving DecidableEq, Repr

/-- TRIGCFG without the engines (R281). -/
structure TrigCfg where
  /-- EN of TRIGCTL; reset 0 -/
  en : Bool := false
  /-- SPILL of TRIGCTL; reset 0 -/
  spill : Bool := false
  /-- SITEX of TRIGCTL, class H; reset 0 -/
  sitex : Bool := false
  /-- EXTEN of TRIGCTL, class H; reset 0 -/
  exten : Bool := false
  /-- ENGMASK, class H; reset 0 -/
  engmask : BitVec 4 := 0
  /-- LISTEN_ID, class H; reset 0 -/
  listen : BitVec 8 := 0
  /-- CAPMASK; reset 0 -/
  capmask : BitVec 32 := 0
  /-- TBUF_FIRST; reset 0 -/
  tbufFirst : Nat := 0
  /-- TBUF_LINES; reset 0 -/
  tbufLines : Nat := 0
  /-- PRE; reset 0 -/
  pre : Nat := 0
  /-- POST; reset 0 -/
  post : Nat := 0
  /-- POST_SLOTS; reset 0 -/
  postSlots : Nat := 0
  /-- HOLDOFF, class H; reset 0 -/
  holdoff : Nat := 0
  /-- ACQ_BASE; reset 0 -/
  acqBase : Nat := 0
  /-- ACQ_LEN; reset 0 -/
  acqLen : Nat := 0
  /-- ACTION, class H (R281); reset 0 -/
  action : BitVec 32 := 0
  /-- XSITES, written with ACTION; reset 0 -/
  xsites : BitVec 16 := 0
  deriving DecidableEq, Repr

/-- A trigger unit (R270 to R284). -/
structure Trig where
  cfg : TrigCfg := {}
  /-- engines 0 to 3, keyed by number (R273) -/
  eng : Tab TrigEngine := []
  /-- state of R278 -/
  state : TrigState := .disarmed
  /-- NOTRIG (R278, R283); reset 0 -/
  notrig : Bool := false
  /-- GAPS present (R276, R283); reset 0 -/
  gaps : Bool := false
  /-- TRIGINFO (R283); reset 0 -/
  info : BitVec 8 := 0
  /-- PRE_STORED (R283); reset 0 -/
  preStored : BitVec 32 := 0
  /-- POST_STORED (R283); reset 0 -/
  postStored : BitVec 32 := 0
  /-- LOST (R276, R283); reset 0 -/
  lost : BitVec 32 := 0
  /-- changes lost since the last record, and the cycle and slot of the first (R276); reset none -/
  gap : Option (Nat × Nat × Nat) := none
  /-- TRIG_CYCLE (R283); reset 0 -/
  trigCycle : BitVec 48 := 0
  /-- TRIG_SLOT (R283); reset 0 -/
  trigSlot : BitVec 20 := 0
  /-- the grid slot of the trigger (R274, R278); reset 0 -/
  trigGrid : Nat := 0
  /-- HITS (R274, R283); reset 0 -/
  hits : BitVec 32 := 0
  /-- TRIG_TS (R283); reset 0 -/
  trigTs : BitVec 128 := 0
  /-- START_PTR (R283); reset 0 -/
  startPtr : BitVec 64 := 0
  /-- previous code of each pin, keyed by pin, unlisted 0b10 (R273, R275) -/
  prev : Tab (BitVec 2) := []
  /-- level of each pin's last legal code, keyed by pin: 0 L, 1 H, 2 M, unlisted none (R272) -/
  level : Tab (Option (BitVec 2)) := []
  /-- an external trigger that waits for its grid slot to be decoded, and its INFO bits (R280); reset none -/
  ext : Option (Nat × Nat) := none
  /-- grid slots decoded so far (R271); reset 0 -/
  slot : Nat := 0
  /-- the 64-record FIFO, oldest first (R276); reset empty -/
  fifo : List Rec16 := []
  /-- records kept in the store, oldest first, each with its place in the buffer, or with SPILL in the DDR area, counted since the store was
  emptied (R277); reset empty -/
  store : List (Nat × Rec16) := []
  /-- with SPILL, records in the buffer that wait for their chunk, oldest first, with their buffer places (R277); reset empty -/
  stage : List (Nat × Rec16) := []
  /-- record places of the buffer written since the store was emptied, pads included (R277); reset 0 -/
  written : Nat := 0
  /-- record places of the DDR area written since the store was emptied, pads included (R277); reset 0 -/
  sent : Nat := 0
  /-- H-class writes that wait: (first cycle of the first frame they govern, 0 for the next frame; FIELD; VALUE), in order
  (R282); reset none -/
  staged : List (Nat × BitVec 8 × BitVec 128) := []
  deriving DecidableEq, Repr

/-- A lane quad (R358, R359). -/
structure Quad where
  /-- QRATE, base rate code in Mbit/s; 0 off (R358); reset 0 -/
  qrate : Nat := 0
  /-- QCTL.LOCK (R358); reset 0 -/
  lock : Bool := false
  deriving DecidableEq, Repr

end Sys2Proof.Machine
end

