-- ==== Sys2Proof/Machine/StatePower.lean ====
section
/-! DEFINITION. Power domains, regulators, thermal state (chapter 18); boot, clocks, keyhole and TAP (chapter 19). -/

namespace Sys2Proof.Machine

/-- Domain states of R468. -/
inductive DomState where
  | on | clockOff | retain | off
  deriving DecidableEq, Repr

/-- Refusers, numbered as R464. -/
inductive Refuser where
  | none | siteRunning | ringBusy | dmaActive | hostHold | thermal | timePending
  deriving DecidableEq, Repr

/-- An entry to a low-power state in progress (R471). -/
structure Entry where
  target : DomState
  /-- ticket of a DOMAIN_SET; none: the idle policy or the thermal policy -/
  ticket : Option (BitVec 32)
  /-- E2 has begun: the stop drains -/
  draining : Bool
  /-- E4 is past: the point of no return (R471) -/
  isolated : Bool := false
  deriving DecidableEq, Repr

/-- A power domain (R468 to R485). -/
structure Domain where
  state : DomState := .on
  /-- LOCKED (R478); reset 0 -/
  locked : Bool := false
  /-- HELD (R464); reset 0 -/
  held : Bool := false
  /-- held by the keyhole lane (R505); reset 0 -/
  keyHeld : Bool := false
  /-- AUTO (R484); reset 0 -/
  auto : Bool := false
  /-- TARGET (R484); reset 1, CLOCK_OFF -/
  target : BitVec 8 := 1
  /-- IDLE_US (R484); reset 1,000 -/
  idleUs : BitVec 32 := 1000
  /-- REFUSALS (R485); reset 0 -/
  refusals : BitVec 16 := 0
  /-- LAST_REFUSER (R485); reset 0 -/
  lastRefuser : Refuser := .none
  /-- WAKES (R475); reset 0 -/
  wakes : BitVec 16 := 0
  /-- entry in progress (R471); reset none -/
  entry : Option Entry := none
  /-- exit in progress (R474); reset no -/
  waking : Bool := false
  /-- ticket of the DOMAIN_SET ON that waits for the release (R475); reset none -/
  wakeTicket : Option (BitVec 32) := none
  deriving DecidableEq, Repr

/-- A regulator request in progress on a bus (R481, R483). -/
structure Vreq where
  /-- rail map entry -/
  rail : Nat
  /-- power is being turned on -/
  on : Bool
  /-- this is the rollback of a request that was not acknowledged -/
  rollback : Bool
  deriving DecidableEq, Repr

/-- Clocks in use (R494 to R499). -/
structure Clocks where
  /-- AON PLL locked (R495); reset no -/
  aon : Bool := false
  /-- system PLL locked (R488); reset no -/
  sys : Bool := false
  /-- lane step PLL in use (R499); reset no -/
  laneStep : Bool := false
  /-- REFCLK_LANE present (R498); board: DESIGN CHOICE yes -/
  refLane : Bool := true
  /-- REFCLK_SYS present (R498); board: DESIGN CHOICE yes -/
  refSys : Bool := true
  /-- STEPSRC of the board record (R491); default 0 -/
  stepSrc : Bool := false
  /-- KDIV of the board record (R491); default 8 -/
  kdiv : Nat := 8
  /-- declared reference spread, ppm (R361); reset 0 -/
  spread : Nat := 0
  /-- control complex and casements fell back to the oscillator (R498); reset: oscillator until handover -/
  oscillator : Bool := true
  deriving DecidableEq, Repr

/-- The keyhole tree and lane (R502 to R506). -/
structure Keyhole where
  /-- SOURCE of each output, keyed by OUT: 0 to 15 pins, 0x20 + t taps (R503); reset 0, off -/
  src : Tab (BitVec 32) := []
  /-- kind-2 sources' latched results, keyed sash × 2^17 + step × 2^8 + pane (R503); reset 0 -/
  pane : Tab Bool := []
  /-- trigger signals stretched for the tree (R502): steps left, keyed sash × 8 + SEL of kind 4; reset none -/
  sig : Tab Nat := []
  /-- KEYHOLE[15:0] as driven, registered on the keyhole clock (R493, R502); reset low -/
  pins : BitVec 16 := 0
  /-- lane taken (R505); reset none -/
  lane : Option Nat := none
  /-- pace accumulator, NUM and DEN of the lane (R506); reset 0 -/
  acc : Nat := 0
  num : Nat := 0
  den : Nat := 1
  /-- steps since the take (R506); reset 0 -/
  step : Nat := 0
  /-- samples waiting for a frame: (step, 32 taps), oldest first (R506); reset none -/
  samples : List (Nat × Word) := []
  /-- frames sent, newest first: header and payload (R506); reset none -/
  frames : List (BitVec 64 × BitVec 1024) := []
  deriving DecidableEq, Repr

/-- The test access port (R507). -/
structure Tap where
  /-- instruction register; 0x01 IDCODE at TAP reset (R507) -/
  ir : BitVec 8 := 0x01
  /-- the one-bit bypass register (R507); DESIGN CHOICE 0 -/
  bypass : Bool := false
  /-- boundary register, driving values, by cell (R508); DESIGN CHOICE empty -/
  boundary : List Bool := []
  /-- bits shifted out on TDO by the latest scan (R507); reset none -/
  tdo : List Bool := []
  deriving DecidableEq, Repr

/-- Power, thermal, clocks, boot board data, keyhole and TAP of the unit. -/
structure PowerState where
  /-- domains, keyed by DOMID (R464) -/
  doms : Tab Domain := []
  /-- rail map entries, keyed by entry (R482); default none -/
  rails : Tab (Option (BitVec 64)) := []
  /-- rail map entries whose rail is off (R482); reset none -/
  railOff : List Nat := []
  /-- request in progress, keyed by bus (R481); reset none -/
  vreq : Tab (Option Vreq) := []
  /-- PMB_ALERT_N count (R481); reset 0 -/
  pmbAlerts : BitVec 32 := 0
  /-- T_J in 0.25 °C, hottest reading (R487); DESIGN CHOICE 0 before the first sample -/
  tj : Int := 0
  /-- ALARM (R465); reset 380 -/
  alarm : BitVec 16 := 380
  /-- thermal STATE: 0 normal, 1 alarm, 2 critical (R465); reset 0 -/
  thermal : Nat := 0
  /-- THERM_TRIP_N asserted (R487); reset released -/
  tripped : Bool := false
  clk : Clocks := {}
  /-- BOOT_SRC as sampled (R489); pulled down: 0 -/
  bootSrc : BitVec 2 := 0
  /-- SYS_RST_N held low (R500); reset high -/
  sysRst : Bool := false
  /-- board record bytes in flash, all ones when erased (R491); board: DESIGN CHOICE none -/
  board : Option (List Byte) := none
  key : Keyhole := {}
  tap : Tap := {}
  /-- step clocks since reset, for slot records and lapses (R110); reset 0 -/
  steps : Nat := 0
  /-- time of the unit in ps since power-on, for EYE_AGE (R380); reset 0 -/
  ps : Nat := 0
  deriving DecidableEq, Repr

end Sys2Proof.Machine
end

