-- ==== Sys2Proof/Machine/StateRing.lean ====
section
/-! DEFINITION. The state of the rings (chapter 04): stops and their configuration banks, louvres, flits, worms, links. -/

namespace Sys2Proof.Machine

/-- One configuration bank of a stop (R103, R104, R119, R122). -/
structure StopBank where
  /-- outgoing tag table, keyed by tag (R103); reset 0x0000_0000 -/
  tags : Tab (BitVec 32) := []
  /-- route table, keyed by route (R104); reset 0x0000_0000 -/
  routes : Tab (BitVec 32) := []
  /-- access list: stops whose VC1 requests may reach the scratchpad (R122); reset none listed -/
  access : List Nat := []
  /-- LVW of VC1, XOR its reset value (R113); reset 0: 0x8020_2000 or 0x0020_2000 -/
  lvw1X : BitVec 32 := 0
  /-- LVW of VC2, XOR its reset value (R113); reset 0: 0x8020_2000 or 0x0020_2000 -/
  lvw2X : BitVec 32 := 0
  deriving DecidableEq, Repr

/-- Drain-and-swap state of a stop (R119, R121). -/
inductive DrainState where
  | idle
  /-- new worms for the stop are held; the attempt number is in force -/
  | draining (attempt : Nat)
  /-- the 50 µs wait after a failed attempt -/
  | waiting (attempt : Nat)
  /-- eight attempts have failed: the load is to be refused -/
  | failed
  deriving DecidableEq, Repr

/-- The slot record of an output link (R110). -/
structure SlotRec where
  linkStep : Nat
  par : Bool
  /-- step clock of the send -/
  at_ : Nat
  deriving DecidableEq, Repr

/-- A ring stop (R96, R113, R119). -/
structure Stop where
  /-- the active bank (R119) -/
  active : StopBank := {}
  /-- the shadow bank (R119) -/
  shadow : StopBank := {}
  drain : DrainState := .idle
  /-- the load or unload that changes the stop: its ticket (R145); reset none -/
  owner : Option (BitVec 32) := none
  /-- VC1 louvre spent, in flits × 65,536 below BURST (R113); reset 0: full -/
  spent1 : Nat := 0
  /-- VC2 louvre spent, in flits × 65,536 below BURST (R113); reset 0: full -/
  spent2 : Nat := 0
  /-- slot records, keyed by output ring (R110); reset none -/
  slots : Tab (Option SlotRec) := []
  deriving DecidableEq, Repr

/-- Where a flit stands at its stop (R100, R110, R111). -/
inductive FlitPlace where
  /-- in the injection queue of the stop for its ring -/
  | queue
  /-- received from the stop's lane, waiting to be injected on its ring -/
  | lane
  /-- arrived on its ring: through traffic -/
  | through
  /-- arrived where it leaves the rings: into a bank, or onto the lane -/
  | eject
  deriving DecidableEq, Repr

/-- A flit between its injection and its ejection: 512 data bits and the sideband of R99. -/
structure Flit where
  id : Nat
  /-- virtual channel it travels on: 0, 1 or 2 (R99) -/
  vc : Nat
  /-- first flit of its worm (R99); true on VC0 -/
  head : Bool
  /-- last flit of its worm (R99); true on VC0 -/
  tail : Bool
  /-- the sideband as received: VC, HEAD, TAIL, PAR, ROUTE and CRC8 (R99) -/
  side : BitVec 32
  /-- the data bits as received (R99) -/
  data : BitVec 512
  /-- the worm it belongs to; none on VC0 -/
  worm : Option Nat
  /-- the site a VC0 flit belongs to (model's own) -/
  site : Option Nat
  ring : Nat
  /-- stop number the flit stands at -/
  stop : Nat
  place : FlitPlace
  /-- step clock from which it may take its next link, or leave the stop (R98, R108) -/
  at_ : Nat
  /-- a bad link frame carried it (R126) -/
  linkBad : Bool
  /-- attempts on the present link that failed in a row (R116) -/
  tries : Nat
  deriving DecidableEq, Repr

/-- Where a worm stands. -/
inductive WormPlace where
  /-- at its source stop, waiting for louvre, room, wake or a released hold (R113, R119, R475) -/
  | source
  /-- injected: its flits are on the rings -/
  | rings
  /-- every flit has arrived at the target stop -/
  | target
  deriving DecidableEq, Repr

/-- Who a worm's answer goes to. -/
inductive WormOwner where
  /-- piece of a BAR2 request, by its offset in the request (R419) -/
  | bar2 (req : Nat) (off : Nat)
  /-- fail chunk of a sash with its record count (R248) -/
  | failChunk (sash : Nat) (records : Nat)
  /-- bitmap OR of a sash, with byte index and bit (R260), and the counters to add -/
  | failOr (sash : Nat) (byte : Nat) (bit : Nat) (rowWord colWord : Nat)
  /-- counter ADD32 (R262) -/
  | failAdd (sash : Nat)
  /-- trigger spill chunk (R277) -/
  | spill (sash : Nat)
  /-- line of a casement's transfer under way, by its offset (R289, R307) -/
  | xfer (cas : Nat) (off : Nat)
  /-- line of a copy, by ticket and offset (R435) -/
  | dma (tk : BitVec 32) (off : Nat)
  /-- the control complex itself -/
  | ctl
  deriving DecidableEq, Repr

/-- A VC1 or VC2 worm (R101). -/
structure Worm where
  id : Nat
  place : WormPlace
  dest : Nat
  src : Nat
  typ : BitVec 4
  /-- payload flits asked or carried, 0 to 8 -/
  len : Nat
  tid : BitVec 12
  addr : BitVec 40
  be : BitVec 64
  /-- STATUS, a status code by its name (R101) -/
  status : Status
  payload : List (BitVec 512)
  /-- the lower half's old value of an OR on chip whose upper half is still to be served (R335) -/
  half : Option (BitVec 256)
  owner : WormOwner
  deriving DecidableEq, Repr

/-- All ring state of the unit. -/
structure RingState where
  /-- stops, keyed 0 to 81 (R96) -/
  stops : Tab Stop := []
  /-- flits in queues and on links, oldest first (R99, R111); reset none -/
  flits : List Flit := []
  /-- worm that holds a virtual channel of a link, keyed (ring × 82 + stop) × 4 + VC (R100); reset none -/
  holds : Tab (Option Nat) := []
  /-- step clock in which a link last carried a flit, plus one, keyed ring × 82 + stop (R97, R100); reset 0: none yet -/
  linkAt : Tab Nat := []
  /-- VC1 and VC2 worms (R101); reset none -/
  worms : List Worm := []
  /-- next flit or worm number (model's own); reset 0 -/
  nextId : Nat := 0
  /-- failed links: (ring, stop it leaves), until POR or SYS_RST_N (R116); reset none -/
  failed : List (Nat × Nat) := []
  deriving DecidableEq, Repr

end Sys2Proof.Machine
end

