-- ==== Sys2Proof/Machine/StateSite.lean ====
section
/-! DEFINITION. The state of a site: what its image fixes, its run, its run-ahead engine and its fail set (chapters 05, 06,
08 and 09), and the commit groups of R158. -/

namespace Sys2Proof.Machine

/-- FAILCFG (R252) of a loaded image. -/
structure FailCfg where
  /-- the image has a FAILCFG section (R253); reset no -/
  present : Bool := false
  /-- CAPCTL (R252); reset 0 -/
  capctl : BitVec 8 := 0
  /-- NSETS (R252); 0 without FAILCFG (R254) -/
  nsets : Nat := 0
  /-- FLUSH_US (R252); reset 0 -/
  flushUs : Nat := 0
  /-- FBUF_FIRST (R252); reset 0 -/
  fbufFirst : Nat := 0
  /-- FBUF_LINES (R252); reset 0 -/
  fbufLines : Nat := 0
  /-- MRC_FIRST (R252); reset 0 -/
  mrcFirst : Nat := 0
  /-- ROWB (R252); reset 0 -/
  rowb : Nat := 0
  /-- COLB (R252); reset 0 -/
  colb : Nat := 0
  /-- IOB (R252); reset 0 -/
  iob : Nat := 0
  /-- ROWSH (R252); reset 0 -/
  rowsh : Nat := 0
  /-- COLSH (R252); reset 0 -/
  colsh : Nat := 0
  /-- BRB (R252); reset 0 -/
  brb : Nat := 0
  /-- BCB (R252); reset 0 -/
  bcb : Nat := 0
  /-- IO_FIRST (R252); reset 0 -/
  ioFirst : Nat := 0
  /-- REC_BASE of sets 0 and 1, keyed by set (R252); reset 0 -/
  recBase : Tab Nat := []
  /-- REC_LEN of sets 0 and 1, keyed by set (R252); reset 0 -/
  recLen : Tab Nat := []
  /-- BM_BASE of sets 0 and 1, keyed by set (R252); reset 0 -/
  bmBase : Tab Nat := []
  /-- MRC_BASE of sets 0 and 1, keyed by set (R252); reset 0 -/
  mrcBase : Tab Nat := []
  deriving DecidableEq, Repr

/-- The live counts of the fail set a site has open or closed last (R254 to R257). -/
structure FailLive where
  /-- set open or last closed; none at reset (R254, R452 SET 0xFF) -/
  set : Option Nat := none
  /-- the set is OPEN (R254); reset no -/
  open_ : Bool := false
  /-- fail close is owed or under way (R256); reset no -/
  closing : Bool := false
  /-- the set was CLOSED before this arm reopened it (R254); reset no -/
  reopened : Bool := false
  /-- FIRST_CYCLE (R257); reset 0 -/
  firstCycle : BitVec 48 := 0
  /-- START_TS (R257); reset 0 -/
  startTs : BitVec 128 := 0
  /-- STORED (R257); reset 0 -/
  stored : BitVec 64 := 0
  /-- DROPPED (R257, R258); reset 0 -/
  dropped : BitVec 64 := 0
  /-- LOST (R257); reset 0 -/
  lost : BitVec 64 := 0
  /-- FILTERED (R257, R264); reset 0 -/
  filtered : BitVec 64 := 0
  /-- BM_ORS (R257); reset 0 -/
  bmOrs : BitVec 64 := 0
  /-- BM_NEW (R257, R260); reset 0 -/
  bmNew : BitVec 64 := 0
  /-- MC_EXTRA (R251, R257); reset 0 -/
  mcExtra : BitVec 32 := 0
  /-- FILTER_STALE (R257, R264); reset 0 -/
  filterStale : BitVec 32 := 0
  /-- FORMED (R257); reset 0 -/
  formed : BitVec 64 := 0
  /-- RUN_FAULTED (R257); reset 0 -/
  runFaulted : Bool := false
  /-- INCOMPLETE (R257); reset 0 -/
  incomplete : Bool := false
  /-- WRAPPED (R257, R258); reset 0 -/
  wrapped : Bool := false
  /-- WPTR_s, keyed by SASH_INDEX (R257); reset 0 -/
  wptr : Tab (BitVec 64) := []
  deriving DecidableEq, Repr

/-- The double repair-filter table of R264. -/
structure FilterTable where
  /-- copy 0, keyed by entry (R264); empty after a load -/
  rows0 : Tab (BitVec 64) := []
  /-- copy 1, keyed by entry (R264); empty after a load -/
  rows1 : Tab (BitVec 64) := []
  /-- the active copy is copy 1 (R160); reset copy 0 -/
  active1 : Bool := false
  /-- copy 0 is complete (R264); complete after a load -/
  complete0 : Bool := true
  /-- copy 1 is complete (R264); complete after a load -/
  complete1 : Bool := true
  /-- the pending swap's cycle cs (R264); reset none -/
  swap : Option Nat := none
  /-- filters in force by cycle, newest first (R264); reset none -/
  inForce : List (Nat × Tab (BitVec 64)) := []
  deriving DecidableEq, Repr

/-- A link record of UNITPART (R138). -/
structure UnitLink where
  vsash : Nat
  peerPart : Nat
  peerVsash : Nat
  /-- 0 toward the parent, 1 toward a child, 2 exchange only -/
  role : Nat
  deriving DecidableEq, Repr

/-- What a site's image fixes (R130, R135, R136, R138, R174, R230). -/
structure SiteImage where
  /-- IMAGE_ID (R130); zero when EMPTY -/
  id : BitVec 64 := 0
  /-- HFLAGS (R130); reset 0 -/
  hflags : BitVec 8 := 0
  /-- S, SCHED (R130); reset 0 -/
  sched : Nat := 0
  /-- E, LINK_EXCH (R130); reset 0 -/
  linkExch : Nat := 0
  /-- N, VSASH (R130); reset 0 -/
  vsash : Nat := 0
  /-- W of R112; default 65,536 -/
  watchdog : Nat := 65536
  /-- CYCLES (R135); reset 0, no count -/
  cycles : Nat := 0
  /-- D, RA_DEPTH (R135); reset 0 -/
  depth : Nat := 0
  /-- RA_POLICY: 0 STOP, 1 LOG, 2 RESYNC (R135, R223); reset 0 -/
  policy : BitVec 8 := 0
  /-- the load is strict (R28, R173); reset no -/
  strict : Bool := false
  /-- OUTCOME word (R174); reset 0 -/
  outcome : BitVec 32 := 0
  /-- contract values, keyed ITEM × 256 + PARAM; unlisted: no entry (R136); reset none -/
  contract : Tab (Option Nat) := []
  /-- the site's sashes by rank: virtual sash number, or SASH_INDEX in an elastic site (R139, R142); reset none -/
  sashes : List Nat := []
  /-- the image has a SCRATCH section (R151); reset no -/
  hasScratch : Bool := false
  /-- NETLOG of RAFLAGS (R230); reset 0 -/
  netlog : Bool := false
  /-- CKPT_FIRST (R230); reset 0 -/
  ckptFirst : Nat := 0
  /-- CKPT_LINES (R230); reset 0 -/
  ckptLines : Nat := 0
  /-- CLOG_FIRST (R230); reset 0 -/
  clogFirst : Nat := 0
  /-- CLOG_LINES (R230); reset 0 -/
  clogLines : Nat := 0
  /-- longest route in steps, at least 16: V of R233; reset 16 -/
  vsteps : Nat := 16
  /-- PART (R138); reset 0 -/
  part : Nat := 0
  /-- NPARTS (R138); 0 in a single-unit site -/
  nparts : Nat := 0
  /-- PARENT (R138); reset 0xFFFF -/
  parent : Nat := 0xFFFF
  /-- link records (R138); reset none -/
  links : List UnitLink := []
  /-- UAs of the parts, keyed by part (R144, R451); reset none -/
  peers : Tab (BitVec 18) := []
  /-- parts whose PARENT is this part, as the arm has found them (R62, R125); reset none -/
  kids : List Nat := []
  /-- the image stays loaded though its load was refused in phase 3 or 4: no runnable image (R146, R151); reset no -/
  loadFailed : Bool := false
  failcfg : FailCfg := {}
  deriving DecidableEq, Repr

/-- A fault pending to the hinge (R60, R530). -/
structure PendFault where
  code : Status
  /-- sash or lane; 0xFF none -/
  sash : Nat
  /-- pane or cell; 0xFF none -/
  pane : Nat
  step : Nat
  detail : BitVec 64
  deriving DecidableEq, Repr

/-- A transom's change of one sash (R152). -/
inductive TransomRec where
  | ipatch (pane addr : Nat) (word : DWord)
  | wpatch (cell : Nat) (mask : BitVec 8) (rec : List Byte)
  | deposit (pane idx : Nat) (val : Bool)
  | pinpatch (pin field : BitVec 8) (value : BitVec 32) (row : BitVec 256)
  | trigpatch (field : BitVec 8) (value : BitVec 128)
  deriving DecidableEq, Repr

/-- A staged transom (R155, R533). -/
structure Transom where
  /-- IMAGE_ID of the transom -/
  id : BitVec 64
  /-- the named hinge -/
  hinge : Nat
  /-- ticket of its TRANSOM command -/
  ticket : BitVec 32
  /-- changes by physical sash, in image order -/
  parts : List (Nat × TransomRec)
  /-- the commit has been written to the root (R155) -/
  committed : Bool
  deriving DecidableEq, Repr

/-- The run-ahead engine and its record (R242, R243). Counters saturate and are cleared at load. -/
structure RunAhead where
  /-- engine state (R242); reset SPECULATE -/
  state : RaState := .speculate
  /-- replay flag (R242); reset 0 -/
  replay : Bool := false
  /-- the cycle that was in computation at the rollback: replay ends at its hinge (R234); reset 0 -/
  replayTo : Nat := 0
  /-- OLDEST uncommitted cycle (R222, R243); reset 0 -/
  oldest : Nat := 0
  /-- rollback target and waiting flag (R233); reset none -/
  target : Option Nat := none
  /-- STOP decided: halt after this cycle (R238); reset none -/
  stopAt : Option Nat := none
  /-- cycles at or after which a transom was applied in this run: the latest hinges (R236); reset none -/
  transomHinges : List Nat := []
  /-- DIVERGENCES (R226, R243); reset 0 -/
  divergences : BitVec 32 := 0
  /-- ROLLBACKS (R243); reset 0 -/
  rollbacks : BitVec 32 := 0
  /-- LAST_DIV_CYCLE (R243); reset 0 -/
  lastDivCycle : BitVec 48 := 0
  /-- LAST_DIV_PIN (R243); reset 0 -/
  lastDivPin : BitVec 16 := 0
  /-- LAST_DIV_CODE (R243); reset 0 -/
  lastDivCode : BitVec 8 := 0
  /-- LAST_DIV_ACT (R243); reset 0 -/
  lastDivAct : BitVec 8 := 0
  /-- REPLAY_STEPS (R233, R243); reset 0 -/
  replaySteps : BitVec 32 := 0
  /-- DEPTH_WAIT_STEPS (R222, R243); reset 0 -/
  depthWait : BitVec 32 := 0
  /-- CKPT_PEAK (R243); reset 0 -/
  ckptPeak : BitVec 32 := 0
  /-- UNDO_LINES_LAST (R243); reset 0 -/
  undoLines : BitVec 32 := 0
  /-- divergences found and not yet decided: (cycle, slot, site pin, code, act byte), (R226); reset none -/
  found : List (Nat × Nat × Nat × Nat × Nat) := []
  deriving DecidableEq, Repr

/-- One site (R15, R32, R150, R452). -/
structure Site where
  /-- site state (R150); EMPTY at reset -/
  state : SiteState := .empty
  img : SiteImage := {}
  /-- FAULT (R452); reset 0 -/
  fault : Status := 0
  /-- FAULT_SASH (R452); reset 0xFF -/
  faultSash : BitVec 8 := 0xFF
  /-- FAULT_PANE (R452); reset 0xFF -/
  faultPane : BitVec 8 := 0xFF
  /-- FAULT_STEP (R452); reset 0 -/
  faultStep : BitVec 16 := 0
  /-- model cycle number (R56, R60); zero at LOADED (R66) -/
  cycle : BitVec 48 := 0
  /-- c0, first cycle of the present run (R186) -/
  c0 : Nat := 0
  /-- steps since START in this run, for LEAD (R187); reset 0 -/
  sinceStart : Nat := 0
  /-- the set last closed, as it stood before the arm in force opened another (R254); reset none -/
  flBefore : FailLive := {}
  /-- device time of the START step (R467); reset 0 -/
  startTs : BitVec 128 := 0
  /-- the run-start event has been posted (R467); reset no -/
  startPosted : Bool := false
  /-- the code origin has been set (R187); reset no -/
  origin : Bool := false
  /-- the site faulted during a run: its IDLE frames carry keep and VOID (R188, R195); reset no -/
  voided : Bool := false
  /-- armed from HALTED (R150); reset no -/
  armedFromHalted : Bool := false
  /-- device time, in ps, at which the site's link and stream lanes left idle for an arm (R127, R147, R202); reset 0 -/
  armAt : Nat := 0
  /-- SET the arm named (R254); reset 0xFF -/
  armedSet : BitVec 8 := 0xFF
  /-- faults pending to the next hinge (R60); reset none -/
  pend : List PendFault := []
  /-- a halt is pending: STOP, trigger action, cycle count, FULLPOL (R60); reset no -/
  haltPend : Bool := false
  /-- the halt pending carries ST_CYCLE_LIMIT (R60); reset no -/
  cycleLimit : Bool := false
  /-- the model has halted at a hinge and HALTED waits for the last compares (R195, R237); reset no -/
  draining : Bool := false
  /-- codes not yet sent leave as keep with HALT: STOP has acted (R238); reset no -/
  cutCodes : Bool := false
  /-- hinge begun: some sash has entered H0 (R57); reset no -/
  hingeBegun : Bool := false
  /-- local arrival passed to the parent (R62); reset no -/
  arriveSent : Bool := false
  /-- child parts whose ARRIVE for this hinge has come, with fault marks (R62, R125); reset none -/
  childArr : List (Nat × Bool) := []
  /-- UA of the other unit in which a fault of this hinge arose, as its firmware reports it (R125); reset none -/
  remoteUa : Option (BitVec 18) := none
  /-- steps waited at H1 or for a cross-unit arrival (R112); reset 0 -/
  hingeWait : Nat := 0
  /-- hinge steps ended since the unit's last sash raised arrival (R56, R62); reset 0 -/
  hingeRun : Nat := 0
  /-- a cross-unit ARRIVE is later than LINK_HINGE: an interlock stall of the top unit is in force (R76, R175); reset no -/
  arriveLate : Bool := false
  /-- a release of this KIND has come from the parent, and H4 still waits for delta writes (R229); reset none -/
  relPend : Option Nat := none
  /-- a load is in this phase, 0 none (R145); reset 0 -/
  loadPhase : Nat := 0
  /-- an UNLOAD is under way (R146); reset no -/
  unloading : Bool := false
  /-- any transom applied since the load (R151); reset no -/
  transomed : Bool := false
  /-- the staged transom (R155, R533); reset none -/
  transom : Option Transom := none
  /-- pending START_AT time, linear ns (R411, R452); reset none -/
  startAt : Option Nat := none
  /-- FLUSH: first-of-run NOTICEs already posted: bit 0 divergence, bit 1 FAIL_LOST (R226, R206); reset 0 -/
  noticed : BitVec 8 := 0
  ra : RunAhead := {}
  fl : FailLive := {}
  filt : FilterTable := {}
  deriving DecidableEq, Repr

/-- Field class of a commit group (R11, R159). -/
inductive GroupClass where
  | s | h | l
  deriving DecidableEq, Repr

/-- A commit group (R158): its registers, its values in use, its shadow, and its commit word. -/
structure CommitGroup where
  cls : GroupClass
  /-- the site whose engines the group's block serves: the block runs while the site does (R11) -/
  site : Nat
  /-- register offset of the commit word -/
  word : Nat
  /-- register offsets of the fields, in order -/
  fields : List Nat
  /-- values in use, by register offset -/
  inUse : Tab Word
  /-- the shadow, by register offset -/
  shadow : Tab Word
  /-- PEND (R158); reset 0 -/
  pend : Bool
  /-- GEN (R158); reset 0 -/
  gen : BitVec 8
  deriving DecidableEq, Repr

end Sys2Proof.Machine
end

