-- ==== Sys2Proof/Machine/State.lean ====
section
/-! DEFINITION. The state of one GYX-6400 unit, its reset, and the reasons a step can stop. -/

namespace Sys2Proof.Machine

/-- What is fused into one unit or set by its production (R1, R4, R436, R448). -/
structure Ident where
  /-- speed grade -12 (R1); a -10 unit when clear; unit identity: DESIGN CHOICE -12 -/
  grade12 : Bool := true
  /-- stepping B0 (R4); an A1 unit when clear; unit identity: DESIGN CHOICE A1 -/
  b0 : Bool := false
  /-- SERIAL (R448); unit identity: DESIGN CHOICE 0 -/
  serial : BitVec 64 := 0
  /-- FW_VERSION of the running firmware (R448); set by authentication: DESIGN CHOICE 0 before it -/
  fwVersion : BitVec 32 := 0
  deriving DecidableEq, Repr

/-- The whole state of one unit: plain data. -/
structure State where
  id : Ident := {}
  /-- sashes, keyed 0 to 63 (R17) -/
  sashes : Tab Sash := []
  /-- lanes, keyed 0 to 63 (R19) -/
  lanes : Tab Lane := []
  /-- trigger units, keyed by lane (R270) -/
  trigs : Tab Trig := []
  /-- lane quads, keyed 0 to 15 (R357) -/
  quads : Tab Quad := []
  /-- sites, keyed 0 to 15 (R15) -/
  sites : Tab Site := []
  /-- commit groups, keyed by group (R158): no field table of the spec names one; DESIGN CHOICE none -/
  groups : Tab (Option CommitGroup) := []
  ring : RingState := {}
  mem : MemState := {}
  cas : CasState := {}
  chain : ChainState := {}
  time : TimeState := {}
  host : HostState := {}
  power : PowerState := {}
  /-- the control complex's 4 MiB SRAM, keyed by byte offset in the firmware-owned space (R5, R17, R22); DESIGN CHOICE 0, log entry 86 -/
  ctlSram : Tab Byte := []
  /-- counter that each use of a free value reads and advances (the model's own); DESIGN CHOICE 0 -/
  freeCtr : Nat := 0
  /-- the commands that wait, first in, first out (the model's own); reset empty -/
  pending : List Instr := []
  deriving DecidableEq, Repr

/-- Reasons a step stops with a fault: none. Every event the spec describes leaves a next state. -/
inductive Fault where
  deriving DecidableEq, Repr

/-- Reasons a step refuses a command. -/
inductive Refusal where
  /-- raised by the dispatcher for a command that has no meaning yet; safe: nothing is claimed of it -/
  | notModelled (mnemonic : String)
  deriving DecidableEq, Repr

/-- The unit right after power-on reset (R488, R493): every field at its reset value, the quads' domains OFF. -/
def State.reset : State :=
  { power := { doms := [(0x70, { state := .off }), (0x71, { state := .off }), (0x72, { state := .off }),
      (0x73, { state := .off }), (0x74, { state := .off }), (0x75, { state := .off }), (0x76, { state := .off }),
      (0x77, { state := .off }), (0x78, { state := .off }), (0x79, { state := .off }), (0x7A, { state := .off }),
      (0x7B, { state := .off }), (0x7C, { state := .off }), (0x7D, { state := .off }), (0x7E, { state := .off }),
      (0x7F, { state := .off })] } }

end Sys2Proof.Machine
end

