-- ==== Sys2Proof/Machine/Tab.lean ====
section
/-! DEFINITION. Operations on the sparse store `Tab` in its canonical form: keys strictly rising, and no entry equal to what
an unlisted key reads as. -/

namespace Sys2Proof.Machine

variable {α : Type}

/-- The entry of key `k`, or `d` where none is listed. -/
def tget (d : α) : Tab α → Nat → α
  | [], _ => d
  | (j, v) :: t, k => if j = k then v else tget d t k

/-- The store without key `k`. -/
def terase : Tab α → Nat → Tab α
  | [], _ => []
  | (j, v) :: t, k => if j = k then terase t k else (j, v) :: terase t k

/-- The store with `v` listed at key `k`. -/
def tinsert : Tab α → Nat → α → Tab α
  | [], k, v => [(k, v)]
  | (j, w) :: t, k, v => if j = k then (k, v) :: t else if k < j then (k, v) :: (j, w) :: t else (j, w) :: tinsert t k v

/-- Write `v` at key `k`; writing the default removes the entry. -/
def tset [DecidableEq α] (d : α) (t : Tab α) (k : Nat) (v : α) : Tab α :=
  if v = d then terase t k else tinsert t k v

/-- Change the entry of key `k` by `f`. -/
def tmod [DecidableEq α] (d : α) (t : Tab α) (k : Nat) (f : α → α) : Tab α :=
  tset d t k (f (tget d t k))

/-- Write a list of values at consecutive keys from `k`. -/
def tfill [DecidableEq α] (d : α) (t : Tab α) (k : Nat) : List α → Tab α
  | [] => t
  | v :: vs => tfill d (tset d t k v) (k + 1) vs

/-- The values at `n` consecutive keys from `k`. -/
def tslice (d : α) (t : Tab α) (k : Nat) : Nat → List α
  | 0 => []
  | n + 1 => tget d t k :: tslice d t (k + 1) n

/-- Apply `f` to every listed entry; `f` keeps the default. -/
def tmapv [DecidableEq α] (d : α) (f : Nat → α → α) : Tab α → Tab α
  | [] => []
  | (j, v) :: t => if f j v = d then tmapv d f t else (j, f j v) :: tmapv d f t

/-- The canonical form: keys strictly rising and no default listed. -/
def tabWf [DecidableEq α] (d : α) : Tab α → Bool
  | [] => true
  | (j, v) :: t => decide (v ≠ d) && t.all (fun e => decide (j < e.1)) && tabWf d t

end Sys2Proof.Machine
end

