-- ==== Sys2Proof/Machine/Ops.lean ====
section
/-! DEFINITION. The named operations over State that every family shares: the numbered blocks, device time stamps, interrupts,
host memory, events and free values. -/

namespace Sys2Proof.Machine

/-- What a meaning answers. -/
abbrev Out := Host.Outcome State Fault Refusal

/-! ### The numbered blocks -/

def State.sash (s : State) (n : Nat) : Sash := tget {} s.sashes n
def State.setSash (s : State) (n : Nat) (x : Sash) : State := { s with sashes := tset {} s.sashes n x }
def State.modSash (s : State) (n : Nat) (f : Sash → Sash) : State := s.setSash n (f (s.sash n))

def State.lane (s : State) (n : Nat) : Lane := tget {} s.lanes n
def State.setLane (s : State) (n : Nat) (x : Lane) : State := { s with lanes := tset {} s.lanes n x }
def State.modLane (s : State) (n : Nat) (f : Lane → Lane) : State := s.setLane n (f (s.lane n))

def State.trig (s : State) (n : Nat) : Trig := tget {} s.trigs n
def State.setTrig (s : State) (n : Nat) (x : Trig) : State := { s with trigs := tset {} s.trigs n x }
def State.modTrig (s : State) (n : Nat) (f : Trig → Trig) : State := s.setTrig n (f (s.trig n))

def State.quad (s : State) (n : Nat) : Quad := tget {} s.quads n
def State.setQuad (s : State) (n : Nat) (x : Quad) : State := { s with quads := tset {} s.quads n x }

def State.site (s : State) (n : Nat) : Site := tget {} s.sites n
def State.setSite (s : State) (n : Nat) (x : Site) : State := { s with sites := tset {} s.sites n x }
def State.modSite (s : State) (n : Nat) (f : Site → Site) : State := s.setSite n (f (s.site n))

def State.stop (s : State) (n : Nat) : Stop := tget {} s.ring.stops n
def State.setStop (s : State) (n : Nat) (x : Stop) : State :=
  { s with ring := { s.ring with stops := tset {} s.ring.stops n x } }
def State.modStop (s : State) (n : Nat) (f : Stop → Stop) : State := s.setStop n (f (s.stop n))

def State.casm (s : State) (n : Nat) : Casement := tget {} s.cas.cas n
def State.setCasm (s : State) (n : Nat) (x : Casement) : State :=
  { s with cas := { s.cas with cas := tset {} s.cas.cas n x } }
def State.modCasm (s : State) (n : Nat) (f : Casement → Casement) : State := s.setCasm n (f (s.casm n))

def State.task (s : State) (n : Nat) : Option TaskCtx := tget none s.cas.tasks n
def State.setTask (s : State) (n : Nat) (x : Option TaskCtx) : State :=
  { s with cas := { s.cas with tasks := tset none s.cas.tasks n x } }

def State.stream (s : State) (n : Nat) : Option Stream := tget none s.cas.streams n
def State.setStream (s : State) (n : Nat) (x : Option Stream) : State :=
  { s with cas := { s.cas with streams := tset none s.cas.streams n x } }

def State.slink (s : State) (n : Nat) : Option StreamLink := tget none s.cas.links n
def State.setSlink (s : State) (n : Nat) (x : Option StreamLink) : State :=
  { s with cas := { s.cas with links := tset none s.cas.links n x } }

def State.fePort (s : State) (n : Nat) : FePort := tget {} s.cas.ports n
def State.setFePort (s : State) (n : Nat) (x : FePort) : State :=
  { s with cas := { s.cas with ports := tset {} s.cas.ports n x } }

def State.chan (s : State) (n : Nat) : Channel := tget {} s.host.chans n
def State.setChan (s : State) (n : Nat) (x : Channel) : State :=
  { s with host := { s.host with chans := tset {} s.host.chans n x } }
def State.modChan (s : State) (n : Nat) (f : Channel → Channel) : State := s.setChan n (f (s.chan n))

def State.ticket (s : State) (n : BitVec 32) : Option Ticket := tget none s.host.tickets n.toNat
def State.setTicket (s : State) (n : BitVec 32) (x : Option Ticket) : State :=
  { s with host := { s.host with tickets := tset none s.host.tickets n.toNat x } }

def State.dom (s : State) (n : Nat) : Domain := tget {} s.power.doms n
def State.setDom (s : State) (n : Nat) (x : Domain) : State :=
  { s with power := { s.power with doms := tset {} s.power.doms n x } }
def State.modDom (s : State) (n : Nat) (f : Domain → Domain) : State := s.setDom n (f (s.dom n))

def State.tev (s : State) (n : Nat) : Tev := tget {} s.time.tevs n
def State.setTev (s : State) (n : Nat) (x : Tev) : State :=
  { s with time := { s.time with tevs := tset {} s.time.tevs n x } }

def State.memSt (s : State) (n : Nat) : MemStatus := tget {} s.mem.status n
def State.setMemSt (s : State) (n : Nat) (x : MemStatus) : State :=
  { s with mem := { s.mem with status := tset {} s.mem.status n x } }
def State.modMemSt (s : State) (n : Nat) (f : MemStatus → MemStatus) : State := s.setMemSt n (f (s.memSt n))

def State.ddr (s : State) (n : Nat) : DdrChan := tget {} s.mem.chans n
def State.setDdr (s : State) (n : Nat) (x : DdrChan) : State :=
  { s with mem := { s.mem with chans := tset {} s.mem.chans n x } }

/-- Change the lanes of a list. -/
def State.modLanes (s : State) (l : List Nat) (f : Lane → Lane) : State := l.foldl (fun s n => s.modLane n f) s
/-- Change the sashes of a list. -/
def State.modSashes (s : State) (l : List Nat) (f : Sash → Sash) : State := l.foldl (fun s n => s.modSash n f) s
/-- Change the trigger units of a list. -/
def State.modTrigs (s : State) (l : List Nat) (f : Trig → Trig) : State := l.foldl (fun s n => s.modTrig n f) s

/-! ### Free values -/

/-- Draw a fresh open value: the counter it is drawn at, and the state with the counter advanced. -/
def State.drawFree (s : State) : Nat × State := (s.freeCtr, { s with freeCtr := s.freeCtr + 1 })

/-! ### Device time (R400, R401) -/

/-- Linear device time in ns (R295). -/
def TimeState.ns (t : TimeState) : Nat := (t.counter >>> 40) % 2 ^ 64

/-- Device time in 2^-16 ns. -/
def TimeState.fine (t : TimeState) : Nat := t.counter >>> 24

def Servo.code : Servo → Nat
  | .unlocked => 0 | .tracking => 1 | .locked => 2 | .holdover => 3

/-- The unit's time path crosses a wrap (R394, R407). -/
def ChainState.wrapped (c : ChainState) : Bool := c.inp.broken || c.out.broken

/-- ROLE of TCTL (R403). -/
def TimeState.role (t : TimeState) : Nat := bits t.tctl.toNat 4 2

/-- The stamp of a moment given in 2^-16 ns, with the unit's epoch and state (R400). While SYS_RST_N is low, a TRACKING or
LOCKED unit stamps HOLDOVER (R501). -/
def State.stampAt (s : State) (fine : Nat) : BitVec 128 :=
  let ns := fine / 65536
  let sv := if s.power.sysRst && (s.time.servo == .tracking || s.time.servo == .locked) then 3 else s.time.servo.code
  BitVec.ofNat 128 (fine % 65536 + (ns % 1000000000) * 2 ^ 16 + (ns / 1000000000 % 2 ^ 48) * 2 ^ 48 +
    s.time.epoch.toNat * 2 ^ 96 + sv * 2 ^ 112 + b2n s.chain.wrapped * 2 ^ 114 + b2n (s.time.role != 0) * 2 ^ 115)

/-- The stamp of now. -/
def State.stamp (s : State) : BitVec 128 := s.stampAt s.time.fine

/-! ### Interrupts (R417) -/

/-- The MSI-X vector of a bit of HIF_IRQ_STATUS. -/
def irqVector (i : Nat) : Nat := if i < 16 then 1 + i else if i < 18 then 0 else 17

/-- HOLDOFF keeps vector 0 from sending at time `now`, in ps (R432). -/
def HostState.heldOff (h : HostState) (now : Nat) : Bool :=
  match h.msiAt with
  | some t => decide (now < t + bits h.evqCtl.toNat 0 8 * 1000000)
  | none => false

/-- Send an MSI-X message; one on vector 0 waits for HOLDOFF (R417, R432). -/
def HostState.sendMsix (h : HostState) (now v : Nat) : HostState :=
  if v ≠ 0 then { h with msix := v :: h.msix }
  else if h.heldOff now then { h with msiHeld := true }
  else { h with msix := 0 :: h.msix, msiAt := some now, msiHeld := false }

/-- Set bit `i` of HIF_IRQ_STATUS; going from 0 to 1 unmasked, it sends one message. -/
def HostState.setIrq (h : HostState) (now i : Nat) : HostState :=
  if getBit h.irqStatus i then h
  else
    let u : HostState := { h with irqStatus := putBit h.irqStatus i true }
    if getBit h.irqMask i then u else u.sendMsix now (irqVector i)

/-- The interrupt of the unit at the present time. -/
def State.setIrq (s : State) (i : Nat) : State := { s with host := s.host.setIrq s.power.ps i }

/-! ### Host memory -/

/-- Write bytes into host memory. -/
def HostState.write (h : HostState) (a : Nat) (bs : List Byte) : HostState := { h with mem := tfill 0 h.mem a bs }

/-- Read `n` bytes of host memory. -/
def HostState.read (h : HostState) (a n : Nat) : List Byte := tslice 0 h.mem a n

/-! ### The event ring (R432 to R434) -/

/-- EN of HIF_EVQ_CTL. -/
def HostState.evqOn (h : HostState) : Bool := getBit h.evqCtl 31

/-- Number of ring entries. -/
def HostState.evqSize (h : HostState) : Nat := 2 ^ bits h.evqCtl.toNat 16 5

/-- The next entry would not overwrite an unconsumed one. -/
def HostState.evqRoom (h : HostState) : Bool :=
  h.evqOn && (bits h.evqProd.toNat 0 16 + 1) % h.evqSize != bits h.evqCons.toNat 0 16

/-- The 64 bytes of an entry (R433). -/
def Event.bytes (e : Event) (phase : Bool) : List Byte :=
  [BitVec.ofNat 8 (b2n phase), e.kind] ++ leBytes e.status.toNat 2 ++ leBytes e.source.toNat 4 ++ leBytes e.ticket.toNat 4 ++
    leBytes e.subject.toNat 4 ++ leBytes e.time.toNat 16 ++ bytesAt e.data 0 32

/-- Write one entry and advance PROD; the first pass carries PHASE 1 (R432). -/
def HostState.writeEvent (h : HostState) (now : Nat) (e : Event) : HostState :=
  let idx := bits h.evqProd.toNat 0 16
  let ph := getBit h.evqProd 16
  let nx := idx + 1
  let prod := if nx = h.evqSize then b2n (!ph) * 65536 else nx + b2n ph * 65536
  let h := h.write ((h.evqBase.toNat / 4096) * 4096 + 64 * idx) (e.bytes ph)
  HostState.setIrq { h with evqProd := BitVec.ofNat 32 prod, written := (idx, e) :: h.written } now 16

/-- The ticket whose COMPLETE has been written is retained from now on for its 60 s (R429). -/
def State.retain (s : State) (n : BitVec 32) : State :=
  match s.ticket n with
  | some t => s.setTicket n (some { t with retained := true })
  | none => s

/-- Post an event: into the ring when nothing waits and there is room, else held up to 1,024, else lost (R434). -/
def State.postEvent (s : State) (e : Event) : State :=
  if s.host.held.isEmpty && s.host.evqRoom then
    let s := { s with host := s.host.writeEvent s.power.ps e }
    if e.kind = 0x01 then s.retain e.ticket else s
  else if s.host.held.length < 1024 then
    let t : State := { s with host := { s.host with held := s.host.held ++ [e] } }
    if s.host.held.isEmpty then t.setIrq 17 else t
  else { s with host := { s.host with evqLost := satInc s.host.evqLost } }

/-- Build SUBJECT and post: site, object byte, upper half (R433, R467). -/
def State.post (s : State) (kind : Nat) (st : Status) (site obj hi : Nat) (data : List Byte) : State :=
  s.postEvent
    { kind := BitVec.ofNat 8 kind
      status := st
      source := s.chain.ua
      ticket := 0
      subject := BitVec.ofNat 32 (site % 256 + obj % 256 * 256 + hi % 65536 * 65536)
      time := s.stamp
      data := data }

/-- A FAULT entry (R467). -/
def State.postFault (s : State) (st : Status) (site obj : Nat) (cycle step pane detail : Nat) : State :=
  s.post 0x03 st site obj 0 (leBytes cycle 8 ++ leBytes step 2 ++ leBytes pane 1 ++ List.replicate 5 0 ++ leBytes detail 8)

/-- A POLICY entry (R467); its object is the one that DATA names (log entry 72). -/
def State.postPolicy (s : State) (action what value : Nat) : State :=
  s.post 0x04 Code.ST_OK 0xFF what action (leBytes what 2 ++ List.replicate 6 0 ++ leBytes value 8)

/-- A NOTICE entry (R467). -/
def State.postNotice (s : State) (st : Status) (site obj action cycle detail : Nat) : State :=
  s.post 0x05 st site obj action (leBytes cycle 8 ++ leBytes detail 8)

/-- A MEMORY entry (R467). -/
def State.postMemory (s : State) (st : Status) (memid addr : Nat) (marker : Bool) : State :=
  s.post 0x0A st 0xFF 0 memid (leBytes addr 8 ++ leBytes (b2n marker) 1)

/-- A CHAIN entry (R467). -/
def State.postChain (s : State) (st : Status) (port : Nat) (ua : BitVec 18) (phys : Nat) : State :=
  s.post 0x09 st 0xFF port 0 (leBytes ua.toNat 4 ++ leBytes phys 2)

/-- A LANE entry (R467). -/
def State.postLane (s : State) (st : Status) (site lane action : Nat) (eyeH : BitVec 8) (eyeV : BitVec 16) : State :=
  s.post 0x0B st site lane action ([eyeH, 0] ++ leBytes eyeV.toNat 2)

/-- A host-interface error: posted with the address, and ERR set (R416, R421, R422). -/
def State.hifErr (s : State) : State := s.setIrq 18

end Sys2Proof.Machine
end

