-- ==== Sys2Proof/Machine/ChainOps.lean ====
section
/-! DEFINITION. Chain frames (R383 to R385): their fields, their check, how a unit sends them (R394, R399), and the MBX
fragments of a relayed command or response (R396). -/

namespace Sys2Proof.Machine

/-- The broadcast address (R389). -/
abbrev uaBroadcast : BitVec 18 := 0x3FFFF
/-- The address a unit without one reads (R389). -/
abbrev uaNone : BitVec 18 := 0x3FC00

/-- Segment of a UA (R389). -/
def uaSegment (u : BitVec 18) : Nat := u.toNat / 1024
/-- Position of a UA (R389). -/
def uaPosition (u : BitVec 18) : Nat := u.toNat % 1024

def ftEnum : Nat := 0x31
def ftMbx : Nat := 0x32
def ftMbxAck : Nat := 0x33
def ftTime : Nat := 0x34
def ftEvent : Nat := 0x35
def ftLinkHinge : Nat := 0x36
def ftHopdly : Nat := 0x37
def ftBreak : Nat := 0x38

/-- An EVENT frame's payload (R398). -/
def eventPayload (kind id sites image cycle : Nat) : List Byte :=
  leBytes (kind % 256 + id % 256 * 256 + sites % 65536 * 65536) 8 ++ leBytes image 8 ++ leBytes (cycle % 2 ^ 48) 8

end Sys2Proof.Machine

namespace Sys2Proof

open Sys2Proof.Machine

/-- Header fields of R384. -/
def ChainFrame.typ (f : ChainFrame) : Nat := bits f.hdr.toNat 0 8
def ChainFrame.len (f : ChainFrame) : Nat := bits f.hdr.toNat 8 5
def ChainFrame.seen (f : ChainFrame) : Bool := getBit f.hdr 15
def ChainFrame.dst (f : ChainFrame) : BitVec 18 := BitVec.ofNat 18 (bits f.hdr.toNat 16 18)
def ChainFrame.src (f : ChainFrame) : BitVec 18 := BitVec.ofNat 18 (bits f.hdr.toNat 34 18)
def ChainFrame.aux (f : ChainFrame) : Nat := bits f.hdr.toNat 52 12

/-- CRC32 of a frame: header bytes, then payload (R383). -/
def frameCrc (hdr : BitVec 64) (pay : List Byte) : BitVec 32 := BitVec.ofNat 32 (crc32 (leBytes hdr.toNat 8 ++ pay))

/-- The frame's CRC32 is right. -/
def ChainFrame.crcOk (f : ChainFrame) : Bool := f.crc == frameCrc f.hdr f.payload

/-- LEN range of a type (R385). -/
def lenOk (typ len : Nat) : Bool :=
  match typ with
  | 0x31 => len == 16
  | 0x32 => decide (1 ≤ len ∧ len ≤ 16)
  | 0x33 => len == 0
  | 0x34 => len == 4
  | 0x35 => len == 3
  | 0x36 => len == 2
  | 0x37 => len == 2
  | 0x38 => len == 1
  | _ => false

/-- TYPE known, LEN in range and carried, CRC32 good (R385). -/
def ChainFrame.valid (f : ChainFrame) : Bool :=
  lenOk f.typ f.len && decide (f.payload.length = 8 * f.len) && f.crcOk

end Sys2Proof

namespace Sys2Proof.Machine

/-- A header (R384). -/
def frameHdr (typ len : Nat) (dst src : BitVec 18) (aux : Nat) : BitVec 64 :=
  BitVec.ofNat 64 (typ % 256 + len % 32 * 2 ^ 8 + dst.toNat * 2 ^ 16 + src.toNat * 2 ^ 34 + aux % 4096 * 2 ^ 52)

/-- A frame of this unit, its payload padded to whole blocks. -/
def State.frame (s : State) (typ : Nat) (dst : BitVec 18) (aux : Nat) (pay : List Byte) : ChainFrame :=
  let len := (pay.length + 7) / 8
  let p := bytesAt pay 0 (8 * len)
  let h := frameHdr typ len dst s.chain.ua aux
  { hdr := h, payload := p, crc := frameCrc h p, forward := true }

/-- Frame types a gateway carries (R399). -/
def gatewayType (t : Nat) : Bool := t == ftMbx || t == ftMbxAck || t == ftEvent

/-- EVENT kinds that leave the segment: START and STOP (R398). -/
def eventLeaves (f : ChainFrame) : Bool := f.typ != ftEvent || decide (fld f.payload 0 1 ≤ 2)

/-- Peers a frame goes to from a gateway: its segment's, or every peer's for a broadcast (R399). -/
def ChainState.gwPeers (c : ChainState) (f : ChainFrame) : List Nat :=
  if c.gw.isNone || !gatewayType f.typ || !eventLeaves f then []
  else
    (c.peers.filter fun e =>
      e.2.isSome && !c.segConflict.contains e.1 && (f.dst == uaBroadcast || (e.1 == uaSegment f.dst && e.1 != uaSegment c.ua))).map (·.1)

/-- Send a frame forward: by CYN_OUT, or turned out of CYN_IN in the reverse direction while CYN_OUT is broken (R394). -/
def ChainState.emit (c : ChainState) (f : ChainFrame) : ChainState :=
  if c.out.broken then { c with sent := (false, { f with forward := false }) :: c.sent }
  else { c with sent := (true, { f with forward := true }) :: c.sent }

/-- Retime a frame received in the reverse direction: out of CYN_IN, or turned forward while CYN_IN is broken (R386, R394). -/
def ChainState.emitBack (c : ChainState) (f : ChainFrame) : ChainState :=
  if c.inp.broken then { c with sent := (true, { f with forward := true }) :: c.sent }
  else { c with sent := (false, { f with forward := false }) :: c.sent }

/-- Send a frame of this unit; a gateway also sends it to the peers it is meant for. -/
def State.send (s : State) (f : ChainFrame) : State :=
  let c := s.chain.emit f
  { s with chain := { c with datagrams := (s.chain.gwPeers f).map (fun p => (p, f)) ++ c.datagrams } }

/-- Bytes of MBX fragment `i` of a command or response (R396). -/
def mbxFragment (bs : List Byte) (i : Nat) : List Byte := (bs.drop (128 * i)).take 128

/-- Number of MBX fragments of a byte string. -/
def mbxCount (bs : List Byte) : Nat := if bs.length ≤ 128 then 1 else 2

/-- AUX of an MBX frame: SEQ, FRAG, LAST, RESP (R385). -/
def mbxAux (seq : BitVec 8) (i n : Nat) (resp : Bool) : Nat :=
  seq.toNat + i % 2 * 2 ^ 8 + b2n (decide (i + 1 = n)) * 2 ^ 9 + b2n resp * 2 ^ 10

/-- Send fragment `i` of a message. -/
def State.sendFragment (s : State) (ua : BitVec 18) (seq : BitVec 8) (resp : Bool) (bs : List Byte) (i : Nat) : State :=
  s.send (s.frame ftMbx ua (mbxAux seq i (mbxCount bs) resp) (mbxFragment bs i))

/-- Send every fragment of a message. -/
def State.sendMbx (s : State) (ua : BitVec 18) (seq : BitVec 8) (resp : Bool) (bs : List Byte) : State :=
  if mbxCount bs = 1 then s.sendFragment ua seq resp bs 0
  else (s.sendFragment ua seq resp bs 0).sendFragment ua seq resp bs 1

/-- Send a message and keep it until it is acknowledged, and a command's until it is answered (R396). -/
def State.message (s : State) (owner : RelayOwner) (ua : BitVec 18) (seq : BitVec 8) (isResp : Bool) (bs : List Byte) : State :=
  let r : Relay :=
    { owner := owner
      ua := ua
      seq := seq
      isResp := isResp
      unacked := List.range (mbxCount bs)
      tries := 1
      cmd := bs
      resp := [] }
  ({ s with chain := { s.chain with relays := s.chain.relays ++ [r] } } : State).sendMbx ua seq isResp bs

/-- Take the next SEQ toward a unit (R396). -/
def State.nextSeq (s : State) (ua : BitVec 18) : BitVec 8 × State :=
  let q := tget 0 s.chain.txSeq ua.toNat
  (q, { s with chain := { s.chain with txSeq := tset 0 s.chain.txSeq ua.toNat (q + 1) } })


/-- Bytes 0x0C of a message that one firmware instance sends another for itself: no channel has this number. -/
def ownMessage : Nat := 0xFF

/-- Send a command of the firmware's own to another unit: its record with `ownMessage` in byte 0x0C (R396). -/
def State.ownCommand (s : State) (owner : RelayOwner) (ua : BitVec 18) (op : Nat) (pay : List Byte) : State :=
  let bs := leBytes op 2 ++ leBytes 0 2 ++ leBytes ua.toNat 4 ++ leBytes pay.length 2 ++ leBytes 0 2 ++ leBytes ownMessage 4 ++ pay
  let q := tget 0 s.chain.txSeq ua.toNat
  let s : State := { s with chain := { s.chain with txSeq := tset 0 s.chain.txSeq ua.toNat (q + 1) } }
  s.message owner ua q false bs

/-- Pass a COMPLETE on to the unit whose command it ends (R430): the entry's 64 bytes as a message. -/
def State.passComplete (s : State) (ua : BitVec 18) (e : Event) : State :=
  let q := tget 0 s.chain.txSeq ua.toNat
  let s : State := { s with chain := { s.chain with txSeq := tset 0 s.chain.txSeq ua.toNat (q + 1) } }
  s.message .none ua q true (e.bytes false)

end Sys2Proof.Machine
end

