-- ==== Sys2Proof/Machine/Mem.lean ====
section
/-! DEFINITION. The addressed memories (chapter 13): where a unit address lies, reads with SECDED and valid bits, whole and
partial writes, atomics, DDR regions and their fills. Every requester's access goes through these operations. -/

namespace Sys2Proof.Machine

/-- First unit address of the scratchpad windows (R330). -/
abbrev sashBase : Nat := 0x4000000000
/-- First unit address of the casement windows (R286). -/
abbrev casBase : Nat := 0x4100000000
/-- First unit address of the firmware-owned space (R22). -/
abbrev fwBase : Nat := 0x4200000000

/-- Unit address of byte `x` of sash `n`'s scratchpad (R330). -/
def padAddr (n x : Nat) : Nat := sashBase + n * 0x1000000 + x
/-- Unit address of offset `x` in casement `k`'s window (R286). -/
def casAddr (k x : Nat) : Nat := casBase + k * 0x1000000 + x

/-- KIND of a MEMID (R355): 0 scratchpad, 1 core local memory, 2 shared bank, 3 DDR channel. -/
def memKind (m : Nat) : Nat := bits m 12 4
/-- Index of a MEMID (R355). -/
def memIndex (m : Nat) : Nat := bits m 0 12

/-- The MEMID names a memory of the unit (R355). -/
def memIdOk (m : Nat) : Bool :=
  match memKind m with
  | 0 => memIndex m < 64
  | 1 => memIndex m < 96
  | 2 => memIndex m < 96
  | 3 => memIndex m < 8
  | _ => false

/-- Control word reset value by kind (R355). -/
def mctlReset (m : Nat) : BitVec 32 := if memKind m = 3 then 0xC3007530 else 0xC30003E8

/-- MCTL of a memory (R355). -/
def State.mctl (s : State) (m : Nat) : BitVec 32 := (s.memSt m).mctlX ^^^ mctlReset m

/-- Capacity of a channel in bytes (R342). -/
def DdrChan.cap (c : DdrChan) : Nat := c.capGiB * 2 ^ 30

/-- Every channel is trained and they have equal capacity: the condition of INTERLEAVE (R344). -/
def State.ddrEqual (s : State) : Bool :=
  (List.range 8).all fun c => (s.ddr c).trained && (s.ddr c).capGiB == (s.ddr 0).capGiB

/-- Channel and address within it of a DDR unit address (R344). -/
def State.ddrMap (s : State) (a : Nat) : Nat × Nat :=
  if s.mem.interleave then (bits a 12 3, bits a 15 23 * 4096 + bits a 0 12) else (bits a 35 3, bits a 0 35)

/-- The DDR channel that serves unit address `a`; none when it is unmapped, reserved or untrained (R344). -/
def State.ddrChan (s : State) (a : Nat) : Option Nat :=
  let (c, x) := s.ddrMap a
  let ok := if s.mem.interleave then s.ddrEqual else (s.ddr c).trained
  if a < 2 ^ 38 ∧ ok = true ∧ x + 65536 < (s.ddr c).cap ∧ (s.ddr c).capGiB ≠ 0 then some c else none

/-- The memory that holds unit address `a`, by MEMID; none where no memory is (R286, R330, R344). -/
def State.memAt (s : State) (a : Nat) : Option Nat :=
  if a < sashBase then (s.ddrChan a).map (· + 0x3000)
  else if a < casBase then
    let n := (a - sashBase) / 0x1000000
    if n < 64 ∧ (a - sashBase) % 0x1000000 < 0x100000 then some n else none
  else if a < fwBase then
    let k := (a - casBase) / 0x1000000
    let x := (a - casBase) % 0x1000000
    if k < 12 ∧ x < 0x200000 then some (0x1000 + 8 * k + x / 0x40000)
    else if k < 12 ∧ x < 0x400000 then some (0x2000 + 8 * k + bits x 5 3)
    else none
  else none

/-- The unit address lies in DDR space (R344). -/
def isDdr (a : Nat) : Bool := decide (a < sashBase)

/-- A power domain's number for a memory (R464, R468): the sash's, the casement's or the DDR channel's. -/
def memDomain (m : Nat) : Nat :=
  match memKind m with
  | 0 => 0x10 + memIndex m
  | 1 => 0x50 + memIndex m / 8
  | 2 => 0x50 + memIndex m / 8
  | _ => 0x60 + memIndex m

/-! ### Raw bytes -/

def MemState.getByte (m : MemState) (a : Nat) : Byte := tget 0 m.bytes a
def MemState.setBytes (m : MemState) (a : Nat) (bs : List Byte) : MemState := { m with bytes := tfill 0 m.bytes a bs }
/-- The eight bytes of 64-bit word `w`. -/
def MemState.raw (m : MemState) (w : Nat) : List Byte := tslice 0 m.bytes (8 * w) 8

/-- Remove every listed key from `lo` up to and without `hi`. -/
def tcut {α : Type} (t : Tab α) (lo hi : Nat) : Tab α := t.filter fun e => !(decide (lo ≤ e.1) && decide (e.1 < hi))

/-- The word is valid: its bit on chip, its region in DDR (R341, R346). -/
def MemState.wordValid (m : MemState) (w : Nat) : Bool :=
  if isDdr (8 * w) then tget false m.regions (8 * w / 65536) else tget false m.valid w

def MemState.wordCheck (m : MemState) (w : Nat) : Option WordCheck := tget none m.check w

/-- Store a whole word with fresh check bits and set its valid bit (R340, R341). -/
def MemState.storeWord (m : MemState) (w : Nat) (bs : List Byte) (chk : Option WordCheck) : MemState :=
  { m with
    bytes := tfill 0 m.bytes (8 * w) (bytesAt bs 0 8)
    check := tset none m.check w chk
    valid := if isDdr (8 * w) then m.valid else tset false m.valid w true }

/-- Clear valid bits, contents and check state of the on-chip words of bytes `lo` up to and without `hi` (R341). -/
def MemState.clearRange (m : MemState) (lo hi : Nat) : MemState :=
  { m with
    bytes := tcut m.bytes lo hi
    valid := tcut m.valid (lo / 8) (hi / 8)
    check := tcut m.check (lo / 8) (hi / 8) }

/-- Zero-fill region `r` and set its map bit (R347). -/
def MemState.fillRegion (m : MemState) (r : Nat) : MemState :=
  { m with
    bytes := tcut m.bytes (r * 65536) ((r + 1) * 65536)
    check := tcut m.check (r * 8192) ((r + 1) * 8192)
    regions := tset false m.regions r true }

/-! ### Counting errors (R338, R339, R352, R356) -/

/-- Enter an address into the history of the 32 latest correctable addresses (R352). -/
def ceNote (h : List (Nat × Nat)) (a : Nat) : List (Nat × Nat) :=
  let n := match h.find? (·.1 == a) with | some e => e.2 | none => 0
  ((a, n + 1) :: h.filter (·.1 != a)).take 32

/-- A correctable error at byte address `a` of memory `m` (R338, R352). -/
def State.noteCe (s : State) (m a : Nat) : State :=
  let auto := getBit (s.mctl m) 30
  s.modMemSt m fun t =>
    { t with
      corrected := satInc t.corrected
      lastCe := BitVec.ofNat 64 a
      ceHist := if auto then ceNote t.ceHist a else t.ceHist }

/-- A read that finds an uncorrectable or poisoned word (R339). -/
def State.notePoison (s : State) (m a : Nat) (marker : Bool) : State :=
  let s := s.modMemSt m fun t =>
    { t with
      uncorrectable := if marker then t.uncorrectable else satInc t.uncorrectable
      poisonReads := satInc t.poisonReads
      lastUe := BitVec.ofNat 64 a }
  s.postMemory Code.DI_POISON_READ m a marker

/-! ### Reads -/

/-- Read 64-bit word `w`: its eight bytes, whether it is uncorrectable or poisoned, and the state with the report made
(R338, R339, R341, R347). -/
def State.readWord (s : State) (w : Nat) : List Byte × Bool × State :=
  let m := (s.memAt (8 * w)).getD 0
  if s.mem.wordValid w then
    match s.mem.wordCheck w with
    | none => (s.mem.raw w, false, s)
    | some .correctable => (s.mem.raw w, false, s.noteCe m (8 * w))
    | some .uncorrectable => (List.replicate 8 0, true, s.notePoison m (8 * w) false)
    | some .poison => (List.replicate 8 0, true, s.notePoison m (8 * w) true)
  else (List.replicate 8 0, false, s)

/-- Read `n` words from word `w`. -/
def State.readWords (s : State) (w : Nat) : Nat → List Byte × Bool × State
  | 0 => ([], false, s)
  | n + 1 =>
    let (b, e, s) := s.readWord w
    let (bs, es, s) := s.readWords (w + 1) n
    (b ++ bs, e || es, s)

/-- Read `n` bytes at unit address `a`. -/
def State.memRead (s : State) (a n : Nat) : List Byte × Bool × State :=
  let (b, e, s) := s.readWords (a / 8) ((a % 8 + n + 7) / 8)
  ((b.drop (a % 8)).take n, e, s)

/-- The bytes a read would return, without its report: what an observer of the memory sees. -/
def State.peekByte (s : State) (a : Nat) : Byte := if s.mem.wordValid (a / 8) then s.mem.getByte a else 0

/-! ### Writes (R340) -/

/-- Merge into word `w` by `f`, a read, merge and write (R340). -/
def State.mergeWord (s : State) (w : Nat) (f : List Byte → List Byte) : State :=
  let m := (s.memAt (8 * w)).getD 0
  if s.mem.wordValid w then
    match s.mem.wordCheck w with
    | none => { s with mem := s.mem.storeWord w (f (s.mem.raw w)) none }
    | some .correctable =>
      let s := s.noteCe m (8 * w)
      { s with mem := s.mem.storeWord w (f (s.mem.raw w)) none }
    | some _ =>
      let s := s.modMemSt m fun t => { t with poisonWrites := satInc t.poisonWrites }
      let s := { s with mem := s.mem.storeWord w (f (s.mem.raw w)) (some .poison) }
      s.postMemory Code.DI_POISON_READ m (8 * w) true
  else { s with mem := s.mem.storeWord w (f (List.replicate 8 0)) none }

/-- Replace the enabled bytes. -/
def mergeBytes : List (Option Byte) → List Byte → List Byte
  | some b :: bs, _ :: os => b :: mergeBytes bs os
  | none :: bs, o :: os => o :: mergeBytes bs os
  | [], os => os
  | _ :: _, [] => []

/-- Write word `w`: whole when every byte is enabled, a merge otherwise; nothing when no byte is (R340). -/
def State.writeWord (s : State) (w : Nat) (bs : List (Option Byte)) : State :=
  if bs.all Option.isSome then { s with mem := s.mem.storeWord w (bs.map (·.getD 0)) none }
  else if bs.all Option.isNone then s
  else s.mergeWord w (mergeBytes bs)

/-- Write words from word `w`, eight enabled bytes each. -/
def State.writeWords (s : State) (w : Nat) (bs : List (Option Byte)) : Nat → State
  | 0 => s
  | n + 1 => (s.writeWord w (bs.take 8)).writeWords (w + 1) (bs.drop 8) n

/-- Fill the DDR region of address `a` unless it is valid (R347). -/
def State.ensureRegion (s : State) (a : Nat) : State :=
  if isDdr a && !tget false s.mem.regions (a / 65536) then
    let m := (s.memAt a).getD 0x3000
    let s := { s with mem := s.mem.fillRegion (a / 65536) }
    s.modMemSt m fun t => { t with fills := satInc t.fills }
  else s

/-- Fill every invalid region that `n` regions from region `r` hold. -/
def State.ensureRegions (s : State) (r : Nat) : Nat → State
  | 0 => s
  | n + 1 => (s.ensureRegion (r * 65536)).ensureRegions (r + 1) n

/-- Write enabled bytes at unit address `a`; invalid DDR regions are filled first (R340, R347). -/
def State.memWriteBE (s : State) (a : Nat) (bs : List (Option Byte)) : State :=
  let s := if isDdr a then s.ensureRegions (a / 65536) ((a % 65536 + bs.length + 65535) / 65536) else s
  let pre := List.replicate (a % 8) none ++ bs
  let n := (pre.length + 7) / 8
  s.writeWords (a / 8) (pre ++ List.replicate (8 * n - pre.length) none) n

/-- Write bytes at unit address `a`. -/
def State.memWrite (s : State) (a : Nat) (bs : List Byte) : State := s.memWriteBE a (bs.map some)

/-- Write bit `i` of the 64-bit word at `w`, a partial write (R340). -/
def State.writeBitAt (s : State) (w i : Nat) (v : Bool) : State :=
  s.mergeWord w fun bs => leBytes (putBit (BitVec.ofNat 64 (leNat bs)) i v).toNat 8

/-! ### Atomics (R333 to R336) -/

/-- Atomic kinds of R334, by TYPE of R101. -/
inductive AtomicOp where
  | add32 | add64 | swap | or
  deriving DecidableEq, Repr

/-- Sum, saturating at `w` ones with SAT, wrapping without (R334). -/
def atomicAdd (w : Nat) (sat : Bool) (x y : Nat) : Nat :=
  if sat then min (x + y) (2 ^ w - 1) else (x + y) % 2 ^ w

/-- Alignment of ADDR by operation (R334). -/
def AtomicOp.align : AtomicOp → Nat
  | .add32 => 4 | .add64 => 8 | .swap => 8 | .or => 64

/-- Bytes the operation reads. -/
def AtomicOp.size : AtomicOp → Nat
  | .add32 => 4 | .add64 => 8 | .swap => 8 | .or => 64

/-- New bytes of the target from its old bytes and the payload flit (R334, R335). -/
def AtomicOp.apply (op : AtomicOp) (old : List Byte) (pay : BitVec 512) (be : BitVec 64) : List (Option Byte) :=
  let sat := getBit pay 64
  match op with
  | .add32 => (leBytes (atomicAdd 32 sat (leNat old) (bits pay.toNat 0 32)) 4).map some
  | .add64 => (leBytes (atomicAdd 64 sat (leNat old) (bits pay.toNat 0 64)) 8).map some
  | .swap => (leBytes (bits pay.toNat 0 64) 8).map some
  | .or => (List.range 64).map fun i =>
      if getBit be i then some ((old.getD i 0) ||| BitVec.ofNat 8 (bits pay.toNat (8 * i) 8)) else none

/-- Word `w` reads as uncorrectable or poisoned (R339). -/
def MemState.wordBad (m : MemState) (w : Nat) : Bool :=
  m.wordValid w && (m.wordCheck w == some .uncorrectable || m.wordCheck w == some .poison)

/-- One half of an OR on chip, the lower or the upper line of its block: its old bytes, whether it is bad, and the new state (R335). -/
def State.orHalf (s : State) (upper : Bool) (a : Nat) (pay : BitVec 512) (be : BitVec 64) : BitVec 256 × Bool × State :=
  let o := if upper then 32 else 0
  let (old, bad, s) := s.memRead (a + o) 32
  let m : BitVec 64 := BitVec.ofNat 64 (0xFFFFFFFF * 2 ^ o)
  (BitVec.ofNat 256 (leNat old), bad,
    if bad then s else s.memWriteBE a (AtomicOp.or.apply (List.replicate o 0 ++ old) pay (be &&& m)))

/-- Perform an atomic at unit address `a`: status, the old value as a payload flit, and the new state (R334 to R336). -/
def State.atomic (s : State) (op : AtomicOp) (a : Nat) (pay : BitVec 512) (be : BitVec 64) : Status × BitVec 512 × State :=
  if a % op.align ≠ 0 ∨ (op = .swap ∧ isDdr a = true) then (Code.ST_BAD_PARAM, 0, s)
  else
    let (old, bad, s1) := s.memRead a op.size
    if bad then (Code.DI_POISON_READ, 0, s1)
    else (Code.ST_OK, BitVec.ofNat 512 (leNat old), s1.memWriteBE a (op.apply old pay be))

/-! ### Scratchpad lines and whole memories -/

/-- First 64-bit word index of scratchpad line `l` of sash `n` (R330). -/
def padWord (n l : Nat) : Nat := padAddr n (32 * l) / 8

/-- Bit `i` of line `l` of sash `n`'s scratchpad, with the report of its word's read (R47). -/
def State.padBit (s : State) (n l i : Nat) : Bool × Bool × State :=
  let (b, e, s) := s.readWord (padWord n l + i / 64)
  (!e && (leNat b).testBit (i % 64), e, s)

/-- Write bit `i` of line `l` (R47, R340). -/
def State.setPadBit (s : State) (n l i : Nat) (v : Bool) : State := s.writeBitAt (padWord n l + i / 64) (i % 64) v

/-- Write a 32-byte line of a scratchpad. -/
def State.setPadLine (s : State) (n l : Nat) (bs : List Byte) : State := s.memWrite (padAddr n (32 * l)) (bytesAt bs 0 32)

/-- Byte range of an on-chip memory's words that belong to MEMID `m`; a shared bank's lines interleave (R286, R330). -/
def memLine (m i : Nat) : Nat :=
  match memKind m with
  | 0 => padAddr (memIndex m) (32 * i)
  | 1 => casAddr (memIndex m / 8) (memIndex m % 8 * 0x40000 + 32 * i)
  | 2 => casAddr (memIndex m / 8) (0x200000 + 256 * i + 32 * (memIndex m % 8))
  | _ => 64 * i

/-- The line holds a byte range the invalidate or scrub commands name: clear the words of one line (R341). -/
def State.clearLine (s : State) (m i : Nat) : State :=
  { s with mem := s.mem.clearRange (memLine m i) (memLine m i + 32) }

/-- Clear every valid bit of a memory (R341): wake from OFF, load, rewind, reset. -/
def State.clearMemory (s : State) (m : Nat) : State :=
  match memKind m with
  | 0 => { s with mem := s.mem.clearRange (padAddr (memIndex m) 0) (padAddr (memIndex m) 0x100000) }
  | 1 =>
    let lo := casAddr (memIndex m / 8) (memIndex m % 8 * 0x40000)
    { s with mem := s.mem.clearRange lo (lo + 0x40000) }
  | 2 =>
    let out (a : Nat) : Bool := s.memAt a == some m
    { s with
      mem :=
        { s.mem with
          bytes := s.mem.bytes.filter fun e => !out e.1
          valid := s.mem.valid.filter fun e => !out (8 * e.1)
          check := s.mem.check.filter fun e => !out (8 * e.1) } }
  | _ => s

/-- The DDR channels that hold part of region `r` (R344, R346). -/
def MemState.regionOn (m : MemState) (r c : Nat) : Bool := m.interleave || r / 2 ^ 19 == c

/-- Clear the map bits of channel `c`'s regions (R346). -/
def State.dropChannel (s : State) (c : Nat) : State :=
  { s with mem := { s.mem with regions := s.mem.regions.filter fun e => !s.mem.regionOn e.1 c } }

/-- Valid regions on channel `c` (R356). -/
def MemState.validRegions (m : MemState) (c : Nat) : Nat := (m.regions.filter fun e => m.regionOn e.1 c).length

/-! ### Worms (R96, R101) -/

/-- The stop that serves a unit address (R22, R96): memory stop of the channel, sash, casement or control complex. -/
def State.stopOf (s : State) (a : Nat) : Nat :=
  if isDdr a then 76 + (s.ddrMap a).1 / 2
  else if a < casBase then (a - sashBase) / 0x1000000 % 64
  else if a < fwBase then 64 + (a - casBase) / 0x1000000 % 12
  else 80

/-- A new VC1 worm waits at its source stop (R101). -/
def State.newWorm (s : State) (src typ len addr : Nat) (be : BitVec 64) (pay : List (BitVec 512)) (owner : WormOwner) : State :=
  let w : Worm :=
    { id := s.ring.nextId
      place := .source
      dest := s.stopOf addr
      src := src
      typ := BitVec.ofNat 4 typ
      len := len
      tid := BitVec.ofNat 12 s.ring.nextId
      addr := BitVec.ofNat 40 addr
      be := be
      status := Code.ST_OK
      payload := pay
      half := none
      owner := owner }
  { s with ring := { s.ring with worms := s.ring.worms ++ [w], nextId := s.ring.nextId + 1 } }

/-- Post a status with an address (R263, R419, R536): a MEMORY event. -/
def State.postAddr (s : State) (st : Status) (a : Nat) : State := s.postMemory st ((s.memAt a).getD 0xFFFF) a false

end Sys2Proof.Machine
end

