-- ==== Sys2Proof/Machine/SiteOps.lean ====
section
/-! DEFINITION. The operations the site-owning families share: tickets and their end (R428, R429), site events (R467), site
state moves (R150), faults at once and faults pending (R60, R61, R530), halts, and the clearing of a sash (R66, R147). -/

namespace Sys2Proof.Machine

/-! ### Tickets (R428, R429) -/

/-- The site a piece of long work names; 0xFF when none (R433). -/
def Work.site : Work → Nat
  | .load n _ | .unload n | .transom n _ | .arm n _ | .failClear n _ => n
  | _ => 0xFF

/-- Ended tickets kept (R429). -/
def HostState.endedTickets (h : HostState) : Nat :=
  (h.tickets.filter fun e => match e.2 with | some t => t.final.isSome | none => false).length

/-- The oldest ended ticket whose COMPLETE has been written or whose end has been read (R429). -/
def HostState.dropable (h : HostState) : Option Nat :=
  (h.tickets.find? fun e => match e.2 with | some t => t.final.isSome && t.retained | none => false).map (·.1)

/-- With 4,096 ended tickets kept, drop the oldest that may go (R429). -/
def State.dropOldest (s : State) : State :=
  if s.host.endedTickets < 4096 then s
  else match s.host.dropable with | some k => s.setTicket (BitVec.ofNat 32 k) none | none => s

/-- End a ticket: post COMPLETE with its final status and data (R429, R443). -/
def State.finish (s : State) (tk : BitVec 32) (st : Status) (data : List Byte) : State :=
  match s.ticket tk with
  | none => s
  | some t =>
    if t.final.isSome then s
    else
      let s := s.dropOldest.setTicket tk (some { t with final := some st, queued := false, data := data })
      let e : Event :=
        { kind := 0x01
          status := st
          source := s.chain.ua
          ticket := tk
          subject := BitVec.ofNat 32 (t.work.site % 256 + t.opcode.toNat * 65536)
          time := s.stamp
          data := data }
      let s := s.postEvent e
      if t.source = s.chain.ua then s else s.passComplete t.source e

/-- Live tickets: issued and not ended (R429). -/
def HostState.liveTickets (h : HostState) : Nat :=
  (h.tickets.filter fun e => match e.2 with | some t => t.final.isNone | none => false).length

/-- Change a live ticket. -/
def State.modTicket (s : State) (tk : BitVec 32) (f : Ticket → Ticket) : State :=
  match s.ticket tk with
  | some t => s.setTicket tk (some (f t))
  | none => s

/-! ### Site states -/

/-- The numbering of R452. -/
def SiteState.code : SiteState → Nat
  | .empty => 0 | .loading => 1 | .loaded => 2 | .armed => 3 | .running => 4 | .halted => 5 | .faulted => 6

/-- The site's sashes by rank. -/
def State.siteSashes (s : State) (n : Nat) : List Nat := (s.site n).img.sashes

/-- The site a sash belongs to (R32). -/
def State.siteOf (s : State) (sash : Nat) : Option Nat := (s.sash sash).cfg.site.map (·.val)

/-- A lane runs in pin or direct mode: it has the code origin of R187. -/
def Lane.coded (l : Lane) : Bool := l.mode == .pin || l.mode == .direct

/-- The site's pin- and direct-mode lanes. -/
def State.codedLanes (s : State) (n : Nat) : List Nat := (s.siteSashes n).filter fun i => (s.lane i).coded

/-- ORIGIN_OFFSET of the site: that of its first pin- or direct-mode lane (R187). -/
def State.originOffset (s : State) (n : Nat) : Nat :=
  match s.codedLanes n with
  | l :: _ => (s.lane l).st.originOffset.toNat
  | [] => 0

/-- SET of SITE_STATUS and SITE_STATE: the set open or last closed (R452). -/
def Site.setByte (x : Site) : Nat := x.fl.set.getD 0xFF

/-- Post a SITE_STATE entry from `old` to `new` (R467). -/
def State.postSite (s : State) (n : Nat) (old new : SiteState) (st : Status) : State :=
  let x := s.site n
  s.post 0x02 st n 0 (new.code + 16 * old.code)
    (leBytes x.cycle.toNat 8 ++ leBytes x.img.id.toNat 8 ++ leBytes (if new = .running then s.originOffset n else 0) 4 ++
      leBytes x.setByte 1)

/-- Move a site and post it. The entry to RUNNING is posted with the code origin instead (R467). -/
def State.moveSite (s : State) (n : Nat) (new : SiteState) (st : Status) : State :=
  let old := (s.site n).state
  let s := s.modSite n fun x => { x with state := new }
  if new = .running then s else s.postSite n old new st

/-! ### What the end of a run does -/

/-- HALTED or FAULTED reached: an acquisition ends (R278). -/
def Trig.endRun (t : Trig) : Trig :=
  match t.state with
  | .ready => { t with state := .done, notrig := true }
  | .post => { t with state := .done }
  | _ => t

/-- DISARMED by load, rewind, unload or reset (R278). -/
def Trig.disarm (t : Trig) : Trig := { t with state := .disarmed }

/-- An open set owes its fail close (R254, R256). -/
def FailLive.owe (f : FailLive) (faulted : Bool) : FailLive :=
  if f.open_ then { f with closing := true, runFaulted := f.runFaulted || faulted } else f

/-- The sash stops and keeps its registers (R60, R61, R94). -/
def Sash.halt (x : Sash) : Sash := { x with phase := .stopped, wrun := false, stall := none, pacing := false, portLines := [], portStall := 0 }

/-- A direct-mode lane of a site that no longer runs is in electrical idle, but for one whose FIFO ran empty: it sends zero words
(R195, R212). -/
def Lane.runOver (l : Lane) : Lane := if l.mode = .direct ∧ l.starved = false then { l with txIdle := true } else l

/-- Stop every sash of the site and end its acquisitions (R60, R61, R278). -/
def State.stopRun (s : State) (n : Nat) : State :=
  let l := s.siteSashes n
  ((s.modSashes l Sash.halt).modTrigs l Trig.endRun).modLanes l Lane.runOver

/-- Discard a staged transom: its command ends with ST_ABORTED (R533). -/
def State.dropTransom (s : State) (n : Nat) : State :=
  match (s.site n).transom with
  | none => s
  | some t => (s.modSite n fun x => { x with transom := none }).finish t.ticket Code.ST_ABORTED []

/-- Cancel a pending START_AT: NOTICE 0x06 with the cancelled time (R151, R411, R467). -/
def State.cancelStartAt (s : State) (n : Nat) : State :=
  match (s.site n).startAt with
  | none => s
  | some t =>
    (s.modSite n fun x => { x with startAt := none }).postNotice Code.ST_ABORTED n 0 0x06 (s.site n).cycle.toNat t

/-! ### Faults (R60, R61, R530) -/

/-- A DI_ code comes before any other; within one prefix the lowest value (R530). -/
def faultRank (c : Status) : Nat := (if c.toNat / 4096 = 2 then 0 else 65536) + c.toNat

/-- The pending fault a site reports. -/
def worstFault : List PendFault → Option PendFault
  | [] => none
  | p :: ps =>
    match worstFault ps with
    | none => some p
    | some q => if faultRank p.code ≤ faultRank q.code then some p else some q

/-- Post the pending faults that are not reported (R530). -/
def State.postUnreported (s : State) (n : Nat) (ps : List PendFault) : State :=
  ps.foldl (fun s p => s.postNotice p.code n p.sash 0x07 (s.site n).cycle.toNat (p.step % 65536 + p.pane % 256 * 65536)) s

/-- The states from which a fault leads to FAULTED (R150). -/
def SiteState.canFault : SiteState → Bool
  | .running | .armed | .loaded | .halted => true
  | _ => false

/-- Enter FAULTED with fault `p`; the other pending faults are posted unreported (R60, R61, R530). -/
def State.enterFaulted (s : State) (n : Nat) (p : PendFault) (others : List PendFault) : State :=
  let s := s.stopRun n
  let s := (s.cancelStartAt n).dropTransom n
  let s := s.modSite n fun x =>
    { x with
      fault := p.code
      faultSash := BitVec.ofNat 8 p.sash
      faultPane := BitVec.ofNat 8 p.pane
      faultStep := BitVec.ofNat 16 p.step
      pend := []
      haltPend := false
      draining := false
      voided := x.voided || x.state == .running || x.state == .halted
      fl := x.fl.owe true }
  let s := s.postFault p.code n p.sash (s.site n).cycle.toNat p.step p.pane p.detail.toNat
  (s.postUnreported n others).moveSite n .faulted p.code

/-- Fault a site at once (R61). Later faults replace nothing. -/
def State.faultNow (s : State) (n : Nat) (p : PendFault) : State :=
  if (s.site n).state.canFault then s.enterFaulted n p ((s.site n).pend.filter (·.code ≠ p.code)) else s

/-- Set a fault pending to the next hinge, the first of each code (R60, R530). -/
def State.pendFault (s : State) (n : Nat) (p : PendFault) : State :=
  s.modSite n fun x => if x.pend.any (·.code == p.code) then x else { x with pend := x.pend ++ [p] }

/-- Fault description without a pane. -/
def faultOf (code : Status) (sash pane step detail : Nat) : PendFault :=
  { code := code, sash := sash, pane := pane, step := step, detail := BitVec.ofNat 64 detail }

/-- Fault the site that owns sash or lane `i`, if any. -/
def State.faultSashNow (s : State) (i : Nat) (code : Status) (pane detail : Nat) : State :=
  match s.siteOf i with
  | some n => s.faultNow n (faultOf code i pane (s.sash i).k detail)
  | none => s

/-- Set a fault pending on the site that owns sash `i`, if any. -/
def State.pendSash (s : State) (i : Nat) (code : Status) (pane detail : Nat) : State :=
  match s.siteOf i with
  | some n => s.pendFault n (faultOf code i pane (s.sash i).k detail)
  | none => s

/-! ### Halts -/

/-- A part other than the top unit's. -/
def SiteImage.farPart (g : SiteImage) : Bool := g.nparts != 0 && g.part != 0

/-- A halt of a RUNNING site is pending (R60, R454); a part other than part 0 asks part 0 for it with a chain STOP event (R279, R455). -/
def State.askHalt (s : State) (n : Nat) : State :=
  let g := (s.site n).img
  if (s.site n).state ≠ .running then s
  else if g.farPart then s.send (s.frame ftEvent (tget 0 g.peers 0) 0 (eventPayload 2 0 0xFFFF g.id.toNat 0))
  else s.modSite n fun x => { x with haltPend := true }

/-- Enter HALTED: the last codes have been compared (R195, R237). -/
def State.enterHalted (s : State) (n : Nat) : State :=
  let st := if (s.site n).cycleLimit then Code.ST_CYCLE_LIMIT else Code.ST_OK
  let s := s.stopRun n
  let s := s.modSite n fun x =>
    { x with haltPend := false, draining := false, cycleLimit := false, fl := x.fl.owe false }
  s.moveSite n .halted st

/-! ### Clearing a sash -/

/-- A word cell at the state of R66: registers, flags, input and output words zero. -/
def WordCell.clearUser (c : WordCell) : WordCell :=
  { c with
    pc := 0
    regs := []
    z := false
    n := false
    c := false
    inWord := 0
    outWord := 0
    paceHist := 0
    muls := []
    done := false
    wrote := 0
    drove := 0
    outPend := none }

/-- A sash at the state of R66. Stores, cell records, wire enables and counters stay. -/
def Sash.clearUser (x : Sash) : Sash :=
  { x with
    phase := .held
    k := 0
    net := []
    st := []
    shadow := []
    bitErr := []
    sbFlags := []
    corrNoted := false
    rbwSeen := false
    exch := 0
    results := 0
    done := 0
    checked := 0
    taps := 0
    landings := []
    portLines := []
    memw := []
    portStall := 0
    portUsed := false
    mal := []
    malPend := []
    wputs := []
    outBuf := []
    launched := 0
    inBuf := []
    inFlag := 0
    inPoison := 0
    inLinkPoison := 0
    inUnsat := 0
    recvWait := []
    stall := none
    pacing := false
    cells := tmapv {} (fun _ c => c.clearUser) x.cells
    wrun := false
    wires := []
    drives := []
    paceAcc := 0
    delta := {} }

/-- A word cell as START loads it: presets, SASH_INDEX and SASH_COUNT (R75). -/
def WordCell.start (c : WordCell) (index count : Nat) : WordCell :=
  { c with
    regs := tset 0 (tset 0 ((c.presets.filter (·.1 < 14))) 14 (BitVec.ofNat 32 index)) 15 (BitVec.ofNat 32 count)
    pc := 0
    z := false
    n := false
    c := false
    paceHist := 0
    muls := []
    done := false }

/-- Load the registers of cells `c` up to 63 (R75). -/
def startCells (index count : Nat) (t : Tab WordCell) : Nat → Tab WordCell
  | 0 => t
  | c + 1 => startCells index count (tset {} t c ((tget {} t c).start index count)) c

/-- The sash as a run from LOADED begins (R75, R83). -/
def Sash.startFresh (x : Sash) : Sash :=
  { x with cells := startCells x.cfg.index x.cfg.count x.cells 64, paceAcc := 0, wires := [] }

/-- Step 0 of a cycle begins (R56, R66). -/
def Sash.begin (x : Sash) : Sash :=
  { x with
    phase := .step
    k := 0
    exch := 0
    results := 0
    done := 0
    checked := 0
    launched := 0
    wrun := true
    stall := none
    pacing := false }

/-- A lane of a site that is not running: no queue, no expects (R66). -/
def Lane.clearRun (l : Lane) : Lane :=
  { l with
    origin := false
    frame := 0
    txWords := 0
    outq := []
    patFifo := []
    samples := []
    codeCtx := []
    patCtx := []
    patTaken := 0
    starved := false
    resp := []
    rxFrames := 0
    expects := []
    specs := []
    lastResp := 0
    pinLater := []
    echo := []
    rxWords := 0 }

/-- Remove the sash from its site and clear it (R150). -/
def Sash.free (x : Sash) : Sash :=
  { x.clearUser with
    cfg := {}
    istore := []
    istoreErr := []
    patches := []
    cells := []
    wen := []
    paceNum := 0
    paceDen := 1 }

/-! ### Stop entries (R119, R150) -/

/-- The route entry belongs to site `n` (R104). -/
def routeOf (n : Nat) (e : BitVec 32) : Bool := getBit e 31 && bits e.toNat 27 4 == n

/-- A bank without the entries of site `n`; `own` says the stop is a sash of the site (R103, R104, R122). -/
def StopBank.without (b : StopBank) (n : Nat) (own : Bool) : StopBank :=
  { b with
    tags := if own then [] else b.tags
    routes := b.routes.filter fun e => !routeOf n e.2
    access := if own then [] else b.access }

/-- Remove the site's entries from every stop, in both banks. -/
def State.dropStops (s : State) (n : Nat) : State :=
  let l := s.siteSashes n
  { s with
    ring :=
      { s.ring with
        stops := tmapv {}
          (fun i x => { x with active := x.active.without n (l.contains i), shadow := x.shadow.without n (l.contains i) })
          s.ring.stops } }

/-- No bundle of the site is left on the rings: none of an earlier run reaches a newly loaded site (R67). -/
def State.dropFlits (s : State) (n : Nat) : State :=
  { s with ring := { s.ring with flits := s.ring.flits.filter fun f => f.site != some n } }

/-- Lanes of quad `q` (R357). -/
def quadLanes (q : Nat) : List Nat := [4 * q, 4 * q + 1, 4 * q + 2, 4 * q + 3]

/-- A quad whose last lane has returned to idle mode has QRATE 0 (R359). -/
def State.settleQuads (s : State) : State :=
  { s with
    quads := tmapv {} (fun q x => if (quadLanes q).all (fun i => (s.lane i).mode == .idle) then {} else x) s.quads }

/-- A lane whose site goes: a pin-mode lane sends idle frames of Z codes, every other lane is idle (R147, R151, R195). -/
def Lane.leave (l : Lane) : Lane :=
  if l.mode = .pin then { l.clearRun with cfg := {}, masks := {} }
  else { l.clearRun with mode := .idle, cfg := {}, masks := {}, txIdle := true, exiting := false }

/-- Link and stream lanes are in electrical idle while the site is LOADED and not ARMED (R147). -/
def State.restLanes (s : State) (n : Nat) : State :=
  s.modLanes (s.siteSashes n) fun l => if l.mode = .link ∨ l.mode = .stream then { l with txIdle := true, exiting := false } else l

/-- The site becomes EMPTY: entries removed, sashes free, lanes idle, units disarmed (R147, R150). -/
def State.emptySite (s : State) (n : Nat) : State :=
  let l := s.siteSashes n
  let s := (s.dropStops n).dropFlits n
  let s := s.modSashes l Sash.free
  let s := s.modTrigs l Trig.disarm
  let s := s.modLanes l Lane.leave
  s.settleQuads.setSite n { fl := (s.site n).fl }

end Sys2Proof.Machine
end

