-- ==== Sys2Proof/Machine/PowerOps.lean ====
section
/-! DEFINITION. Access to a power domain (R472, R475, R478), refusals of an entry (R469, R485) and domain numbers (R464). -/

namespace Sys2Proof.Machine

/-- DOMID of sash `n` (R464). -/
def domSash (n : Nat) : Nat := 0x10 + n
/-- DOMID of casement `k`. -/
def domCas (k : Nat) : Nat := 0x50 + k
/-- DOMID of DDR channel `x`. -/
def domDdr (x : Nat) : Nat := 0x60 + x
/-- DOMID of quad `q`. -/
def domQuad (q : Nat) : Nat := 0x70 + q

/-- The DOMID names a domain (R464). -/
def domIdOk (d : Nat) : Bool := decide (d < 3) || decide (0x10 ≤ d ∧ d < 0x5C) || decide (0x60 ≤ d ∧ d < 0x68) || decide (0x70 ≤ d ∧ d < 0x80)

/-- Numbering of R464. -/
def Refuser.code : Refuser → Nat
  | .none => 0 | .siteRunning => 1 | .ringBusy => 2 | .dmaActive => 3 | .hostHold => 4 | .thermal => 5 | .timePending => 6

/-- Numbering of R464. -/
def DomState.code : DomState → Nat
  | .on => 0 | .clockOff => 1 | .retain => 2 | .off => 3

/-- Count a refused or aborted entry; a commanded one is posted and ends its DOMAIN_SET, an autonomous one is posted when
its refuser differs from the last (R472, R485). -/
def State.refuseEntry (s : State) (d : Nat) (r : Refuser) (ticket : Option (BitVec 32)) : State :=
  let x := s.dom d
  let y := { x with refusals := satInc x.refusals, lastRefuser := r, entry := none }
  let s := s.setDom d y
  let say := ticket.isSome || x.lastRefuser != r
  let s := if say then s.post 0x0C Code.PW_ENTRY_REFUSED 0xFF d r.code (leBytes y.refusals.toNat 2) else s
  match ticket with
  | some tk => s.finish tk Code.PW_ENTRY_REFUSED (leBytes r.code 1)
  | none => s

/-- What an access to a domain finds (R472, R475, R478). -/
inductive Access where
  /-- the domain is ON: the access proceeds -/
  | go
  /-- locked off: answered PW_DOMAIN_LOCKED -/
  | locked
  /-- an exit has been started or is under way: the access waits -/
  | wait
  deriving DecidableEq, Repr

/-- A DDR channel's domain, which no access wakes from OFF (R474, R477). -/
def ddrDomain (d : Nat) : Bool := decide (0x60 ≤ d ∧ d < 0x68)

/-- An access to domain `d`: it aborts an entry before the point of no return, starts an exit, or is refused (R472, R475,
R477, R478). -/
def State.access (s : State) (d : Nat) (dma : Bool) : Access × State :=
  let x := s.dom d
  if x.locked then (.locked, s)
  else if x.state = .on then
    match x.entry with
    | some e =>
      if e.isolated then (.wait, s.setDom d { x with waking := true })
      else (.go, s.refuseEntry d (if dma then .dmaActive else .ringBusy) e.ticket)
    | none => (.go, s)
  else if ddrDomain d && x.state == .off then (.go, s)
  else (.wait, s.setDom d { x with waking := true })

/-- Access to several domains: locked when any is, else waiting when any must wake. -/
def State.accessAll (s : State) (ds : List Nat) : Access × State :=
  ds.foldl
    (fun (a, s) d =>
      match a with
      | .locked => (.locked, s)
      | _ =>
        let (b, s) := s.access d false
        (if b = .go then a else b, s))
    (.go, s)

end Sys2Proof.Machine
end

