-- ==== Sys2Proof/Machine/CasOps.lean ====
section
/-! DEFINITION. The dispatcher (chapter 11): tasks and their flags, items and flows, ranking and dispatch (R302, R303), the end of
a job (R296, R307), submission with its admission test (R294, R304), and the closing of a stream (R322, R459). -/

namespace Sys2Proof.Machine

/-! ### Tasks -/

/-- Living tasks of casement `k` (R296). -/
def State.tasksOf (s : State) (k : Nat) : List (Nat × TaskCtx) :=
  s.cas.tasks.filterMap fun e => match e.2 with | some t => if t.cas = k then some (e.1, t) else none | none => none

/-- Change a living task. -/
def State.modTask (s : State) (n : Nat) (f : TaskCtx → TaskCtx) : State :=
  match s.task n with
  | some t => s.setTask n (some (f t))
  | none => s

/-- The 32 event flags: ITEM while the input queue holds an item, 30 and 31 zero (R297). -/
def TaskCtx.flagWord (t : TaskCtx) : BitVec 32 := if t.queue.isEmpty then t.flags else t.flags ||| 0x10000000

/-- A WAIT is satisfied: every masked flag, or any (R297). -/
def waitOk (mask : BitVec 32) (andMode : Bool) (w : BitVec 32) : Bool := if andMode then w &&& mask == mask else w &&& mask != 0

/-- Satisfaction clears the masked flags 0 to 27 observed, unless KEEP (R297). -/
def TaskCtx.observe (t : TaskCtx) (mask : BitVec 32) (keep : Bool) : TaskCtx :=
  if keep then t else { t with flags := t.flags &&& ~~~(mask &&& t.flags &&& 0x0FFFFFFF) }

/-- The task enters READY, at the head of its level when it was preempted (R302). -/
def State.makeReady (s : State) (n : Nat) (head : Bool) : State :=
  match s.task n with
  | none => s
  | some t =>
    (s.setTask n (some { t with state := .ready })).modCasm t.cas fun c =>
      { c with
        ready := if head then n :: c.ready.filter (· != n) else c.ready.filter (· != n) ++ [n]
        delays := c.delays.filter (· != n) }

/-- Set flags 0 to 27 of a task; a flag already set stays (R297). -/
def State.setFlags (s : State) (n : Nat) (mask : BitVec 32) : State :=
  s.modTask n fun t => { t with flags := t.flags ||| (mask &&& 0x0FFFFFFF) }

/-! ### Registers (R288) -/

/-- Registers of a core. -/
def State.core (s : State) (k c : Nat) : CoreRegs := tget {} (s.casm k).cores c
def State.setCore (s : State) (k c : Nat) (r : CoreRegs) : State := s.modCasm k fun x => { x with cores := tset {} x.cores c r }

/-- Change a task's registers, in its core while it runs. -/
def State.modRegs (s : State) (n : Nat) (f : CoreRegs → CoreRegs) : State :=
  match s.task n with
  | none => s
  | some t =>
    match t.state with
    | .running c => s.setCore t.cas c (f (s.core t.cas c))
    | _ => s.setTask n (some { t with regs := f t.regs })

/-- A 256-bit open value drawn at counter `f`. -/
def free256 (f : Nat) : BitVec 256 := Config.freeWide f ++ Config.freeWide (f + 1)

/-- Registers of a job that has not run: the spec gives only s0 to s7, the others are open (R288). -/
def freshRegs (f : Nat) (args : List Byte) (entry : Nat) : CoreRegs :=
  { v := tfill 0 [] 0 ((List.range 8).map fun i => free256 (f + 2 * i))
    acc := tfill 0 [] 0 ((List.range 16).map fun i => (Config.freeWide (f + 16 + i)).setWidth 40)
    s := tfill 0 [] 0 ((List.range 16).map fun i => if i < 8 then BitVec.ofNat 32 (fld args (4 * i) 4) else Config.freeWord (f + 32 + i))
    a := tfill 0 [] 0 ((List.range 8).map fun i => (Config.freeWord (f + 48 + i)).setWidth 22)
    b := tfill 0 [] 0 ((List.range 8).map fun i => (Config.freeWord (f + 56 + i)).setWidth 22)
    l := tfill 0 [] 0 ((List.range 8).map fun i => (Config.freeWord (f + 64 + i)).setWidth 22)
    z := getBit (Config.freeWord (f + 72)) 0
    n := getBit (Config.freeWord (f + 72)) 1
    ovf := getBit (Config.freeWord (f + 72)) 2
    pc := BitVec.ofNat 11 entry }

/-! ### Items and flows (R299, R300) -/

/-- FLOW of an item. -/
def itemFlow (i : BitVec 256) : Nat := bits i.toNat 0 16

/-- The flow is in service on casement `k` (R299). -/
def State.flowBusy (s : State) (k f : Nat) : Bool :=
  f != 0xFFFF && (s.tasksOf k).any fun e => e.2.inService == some (BitVec.ofNat 16 f) || (e.2.started && e.2.flow.toNat == f)

/-- The oldest item of a queue whose flow is not in service (R299). -/
def State.nextItem (s : State) (k : Nat) (q : List (BitVec 256)) : Option (BitVec 256) := q.find? fun i => !s.flowBusy k (itemFlow i)

/-- Task `n` takes an item: it is in service from now on (R299). -/
def State.takeItem (s : State) (n : Nat) (i : BitVec 256) : State :=
  let s := s.modTask n fun t =>
    { t with queue := t.queue.erase i, inService := if itemFlow i = 0xFFFF then none else some (BitVec.ofNat 16 (itemFlow i)) }
  s.modRegs n fun r => { r with item := i }

/-- The queue of a living task has room. -/
def TaskCtx.room (t : TaskCtx) : Bool := decide (t.queue.length < t.qdepth)

/-- Put an item at the end of a queue. -/
def State.enqueue (s : State) (n : Nat) (i : BitVec 256) : State := s.modTask n fun t => { t with queue := t.queue ++ [i] }

/-- An item of R299. -/
def itemOf (flow kind tag addr len : Nat) (user : List Byte) : BitVec 256 :=
  BitVec.ofNat 256 (leNat (leBytes flow 2 ++ leBytes kind 1 ++ [0] ++ leBytes tag 4 ++ leBytes addr 4 ++ leBytes len 4 ++ bytesAt user 0 16))

/-! ### Rank and dispatch (R302, R303) -/

/-- Task `t` outranks `u` whatever their age: DEADLINE before PRIORITY, earlier deadline, higher level (R302). -/
def TaskCtx.outranks (t u : TaskCtx) : Bool :=
  match t.deadlineClass, u.deadlineClass with
  | true, false => true
  | false, true => false
  | true, true => decide (t.deadline < u.deadline) || (t.deadline == u.deadline && decide (t.order < u.order))
  | false, false => decide (u.prio < t.prio)

/-- READY task `n` may run on core `c` of its casement (R299, R302, R304). -/
def State.mayRun (s : State) (c : Nat) (t : TaskCtx) : Bool :=
  t.state == .ready && (t.started || !s.flowBusy t.cas t.flow.toNat) &&
    (if t.deadlineClass then t.pinned == some c else getBit t.cores c)

/-- The READY task that core `c` of casement `k` would run: the first of the highest rank (R302). -/
def State.candidate (s : State) (k c : Nat) : Option Nat :=
  ((s.casm k).ready.foldl
    (fun best n =>
      match s.task n with
      | none => best
      | some t =>
        if s.mayRun c t then
          match best with
          | some (_, u) => if t.outranks u then some (n, t) else best
          | none => some (n, t)
        else best)
    (none : Option (Nat × TaskCtx))).map (·.1)

/-- Core `c` of casement `k` begins task `n` (R288, R302). -/
def State.runTask (s : State) (k c n : Nat) : State :=
  match s.task n with
  | none => s
  | some t =>
    (s.setTask n (some { t with state := .running c, started := true })).modCasm k fun x =>
      { x with
        cores := tset {} x.cores c t.regs
        running := tset none x.running c (some n)
        ready := x.ready.filter (· != n) }

/-- Core `c` of casement `k` leaves its task: its registers are saved (R288). -/
def State.leaveCore (s : State) (k c n : Nat) : State :=
  let r := s.core k c
  (s.modTask n fun t => { t with regs := r }).modCasm k fun x => { x with running := tset none x.running c none }

/-- One thing the dispatcher of casement `k` can do now: wake a task, place a held item, or start a task on an idle core. -/
def State.casStep (s : State) (k : Nat) : Option State :=
  let ts := s.tasksOf k
  let c := s.casm k
  match ts.find? fun e => match e.2.state with | .waitFlags m a _ => waitOk m a e.2.flagWord | _ => false with
  | some (n, t) =>
    (match t.state with | .waitFlags m _ keep => some ((s.setTask n (some (t.observe m keep))).makeReady n false) | _ => none)
  | none =>
    match ts.find? fun e => e.2.state == .waitItem && (s.nextItem k e.2.queue).isSome with
    | some (n, t) => (s.nextItem k t.queue).map fun i => (s.takeItem n i).makeReady n false
    | none =>
      match c.accHeld.find? fun h => match s.task h.2.1 with | some t => t.cas != k || t.room | none => true with
      | some h => some ((if (s.task h.2.1).any (·.cas == k) then s.enqueue h.2.1 h.2.2 else s).modCasm k fun x => { x with accHeld := x.accHeld.erase h })
      | none =>
        match s.cas.streams.find? fun e => match e.2 with
            | some st => st.cas == k && !st.heldItems.isEmpty && (match s.task st.task with | some t => t.room | none => true)
            | none => false with
        | some (j, some st) =>
          some ((match st.heldItems with | i :: _ => s.enqueue st.task i | [] => s).setStream j (some { st with heldItems := st.heldItems.tail }))
        | _ =>
          match ts.find? fun e => match e.2.state with
              | .waitSlot m _ => (match s.task m with | some t => t.room | none => true)
              | _ => false with
          | some (n, t) => (match t.state with | .waitSlot m i => some ((s.enqueue m i).makeReady n false) | _ => none)
          | none =>
            match (List.range 8).find? fun q => (tget none c.running q).isNone && (s.candidate k q).isSome with
            | some q => (s.candidate k q).map fun n => s.runTask k q n
            | none => none

/-- Let the dispatcher of casement `k` act until nothing is left, at most `fuel` times. -/
def State.casRun (s : State) (k : Nat) : Nat → State
  | 0 => s
  | f + 1 => match s.casStep k with | some s' => s'.casRun k f | none => s

/-- The dispatcher settles: each living task is woken, fed and started as far as it can be. -/
def State.settleCas (s : State) (k : Nat) : State := s.casRun k (4 * (s.tasksOf k).length + 2 * (s.casm k).accHeld.length + 64)

/-! ### The end of a job (R296, R307) -/

/-- The number of no task: the poster of a descriptor once its job has ended. -/
abbrev noTask : Nat := 4096

/-- End a task: its flows are released, its context returns to the pool, and JOB_END is posted (R296, R307, R467). -/
def State.endTask (s : State) (n : Nat) (st : Status) : State :=
  match s.task n with
  | none => s
  | some t =>
    let s := s.setTask n none
    let s := s.modCasm t.cas fun c =>
      { c with
        running := tmapv none (fun _ r => if r = some n then none else r) c.running
        ready := c.ready.filter (· != n)
        delays := c.delays.filter (· != n)
        evmap := c.evmap.filter (fun e => e.2.1 != n)
        accq := tmapv [] (fun _ l => l.map fun d => if d.task = n then { d with task := noTask } else d) c.accq
        xfers := c.xfers.map fun x => if x.poster = n then { x with poster := noTask } else x
        accStall := match t.state with | .running q => c.accStall.filter (·.1 != q) | _ => c.accStall }
    s.post 0x07 st 0xFF t.cas n (leBytes t.used 8 ++ leBytes t.image.toNat 8 ++ leBytes t.index 2)

/-- A job faults at its PC with an address (R291, R307). -/
def State.faultTask (s : State) (n : Nat) (code : Status) (pc addr : Nat) : State :=
  match s.task n with
  | none => s
  | some t =>
    let core := match t.state with | .running c => c | _ => 0xFF
    ((s.postFault code 0xFF t.cas 0 pc core addr).endTask n code).settleCas t.cas

/-- Every job of every casement ends (R306). -/
def State.endAllJobs (s : State) (st : Status) : State :=
  let ns := s.cas.tasks.map (·.1)
  ns.foldl (fun s n => s.endTask n st) s

/-! ### Ticks (R301) -/

/-- TICK in ns, and NPL in casement cycles (R301). -/
def Casement.tickNs (c : Casement) : Nat := 100 * bits c.ccw.toNat 12 10
def Casement.npl (c : Casement) : Nat := 1024 * bits c.ccw.toNat 0 8

/-- The first tick boundary at or after `t`. -/
def Casement.tickFrom (c : Casement) (t : Nat) : Nat := ceilDiv t (max 1 c.tickNs) * c.tickNs

/-- The `n`-th tick boundary after `t`. -/
def Casement.tickAfter (c : Casement) (t n : Nat) : Nat := (t / max 1 c.tickNs + n) * c.tickNs

/-! ### Submission (R294, R304) -/

/-- `⌈x × 1.0001⌉`: casement cycles as ns with the clock's tolerance (R304). -/
def tol (x : Nat) : Nat := ceilDiv (x * 10001) 10000

/-- Charge, effective release and deadline of an admitted job at time `t` (R304). -/
def TaskCtx.charge (t : TaskCtx) (now : Nat) : Nat × Nat × Nat := (tol (t.budget + 128 - t.used), max now t.release, t.deadline)

/-- The test of R304 for jobs (c, r, e) at time `t`. -/
def admits (b t : Nat) (js : List (Nat × Nat × Nat)) : Bool :=
  (t :: (js.map (·.2.1)).filter (decide <| t < ·)).all fun a =>
    (js.map (·.2.2)).all fun e =>
      decide (e ≤ a) || decide (b + ((js.filter fun j => decide (a ≤ j.2.1) && decide (j.2.2 ≤ e)).map (·.1)).sum ≤ e - a)

/-- Admitted DEADLINE jobs of core `q`. -/
def State.admitted (s : State) (k q : Nat) : List TaskCtx := ((s.tasksOf k).map (·.2)).filter fun t => t.deadlineClass && t.pinned == some q

/-- The first core of `cores` that admits a DEADLINE job with charge, release and deadline `j` (R304). -/
def State.admitCore (s : State) (k : Nat) (cores : BitVec 8) (now : Nat) (j : Nat × Nat × Nat) : Option Nat :=
  (List.range 8).find? fun q =>
    let l := s.admitted k q
    getBit cores q && decide (l.length < 32) && admits (tol (s.casm k).npl) now (j :: l.map (·.charge now))

/-- The lowest free task number (R296). -/
def State.freeTask (s : State) : Option Nat := (List.range 4096).find? fun n => (s.task n).isNone

/-- A task record of a loaded job image. -/
def Casement.taskRec (c : Casement) (image index : Nat) : Option (JobImage × TaskRec) :=
  match c.images.find? (·.id.toNat == image) with
  | some g => (g.tasks[index]?).map fun r => (g, r)
  | none => none

/-- Submit the 72-byte record `r` to casement `k`; `off` says CASEk is off. Status, task number, core, state (R294, R304). -/
def State.submit (s : State) (k : Nat) (r : List Byte) (off : Bool) : Status × Nat × Nat × State :=
  let no (st : Status) : Status × Nat × Nat × State := (st, 0, 0, s)
  let now := s.time.ns
  let c := s.casm k
  let dl := fld r 0x0A 1 == 1
  let rel := fld r 0x18 8
  if fld r 0x0D 1 ≠ 0 ∨ fld r 0x14 4 ≠ 0 then no Code.ST_RESERVED_NONZERO
  else
    match c.taskRec (fld r 0 8) (fld r 8 2) with
    | none => no Code.ST_BAD_PARAM
    | some (g, tr) =>
      let cores := BitVec.ofNat 8 (fld r 0x0C 1) &&& tr.cores
      let flow := fld r 0x0E 2
      if 1 < fld r 0x0A 1 ∨ cores = 0 ∨ (1024 ≤ flow ∧ flow ≠ 0xFFFF) ∨ c.npl < tr.longrep + 1 then no Code.ST_BAD_PARAM
      else if (dl = true ∧ (tr.dlok = false ∨ fld r 0x10 4 = 0 ∨ fld r 0x0B 1 ≠ 0)) ∨
          (dl = false ∧ (15 < fld r 0x0B 1 ∨ fld r 0x10 4 ≠ 0 ∨ fld r 0x20 8 ≠ 0)) then no Code.ST_BAD_PARAM
      else if dl = true ∧ fld r 0x20 8 ≤ now then no Code.CH_TIME_PAST
      else
        match s.freeTask with
        | none => no Code.ST_NO_TASK
        | some n =>
          if 1024 ≤ (s.tasksOf k).length then no Code.ST_NO_TASK
          else
            let start := max (if off then now + 8000 else now) (if rel = 0 then 0 else c.tickFrom rel)
            let budget := fld r 0x10 4 + g.excess
            let core := if dl then s.admitCore k cores now (tol (budget + 128), start, fld r 0x20 8) else some 0xFF
            match core with
            | none => no Code.ST_DEADLINE_REFUSED
            | some q =>
              let wait := off || decide (now < rel)
              let t : TaskCtx :=
                { cas := k
                  image := g.id
                  index := fld r 8 2
                  deadlineClass := dl
                  prio := fld r 0x0B 1
                  cores := cores
                  pinned := if dl then some q else none
                  flow := BitVec.ofNat 16 flow
                  budget := budget
                  release := start
                  deadline := fld r 0x20 8
                  order := s.cas.accepted
                  started := false
                  state := .delayed start
                  flags := 0
                  queue := []
                  qdepth := tr.qdepth
                  inService := none
                  used := 0
                  regs := freshRegs s.freeCtr (bytesAt r 0x28 32) tr.entry.toNat }
              let s := { s with freeCtr := s.freeCtr + 80, cas := { s.cas with accepted := s.cas.accepted + 1 } }
              let s := (s.setTask n (some t)).modCasm k fun c => { c with delays := c.delays ++ [n] }
              (Code.ST_OK, n, q, if wait then s else s.makeReady n false)

/-! ### Closing a stream (R322, R459) -/

/-- Tell a stream's task: its flag, and a notice with the code that names the casement and the task. -/
def State.tellStream (s : State) (st : Stream) (code : Status) : State :=
  ((s.setFlags st.task (BitVec.ofNat 32 (2 ^ st.flag))).postNotice code 0xFF st.cas 0 0 st.task).settleCas st.cas

/-- Close stream `j`: ST_ABORTED is posted to its task. -/
def State.closeStream (s : State) (j : Nat) : State :=
  match s.stream j with
  | none => s
  | some st => (s.setStream j none).tellStream st Code.ST_ABORTED

/-- Lanes of a stream link (R317). -/
def StreamLink.laneList (l : StreamLink) : List Nat := (List.range l.lanes).map (l.l0 + ·)

/-- Close every stream whose link has a lane among `ls`, because the lanes go idle (R322). -/
def State.closeStreams (s : State) (ls : List Nat) : State :=
  s.cas.streams.foldl
    (fun s e =>
      match e.2 with
      | some st => if (s.slink st.link).any fun l => l.laneList.any ls.contains then s.closeStream e.1 else s
      | none => s)
    s

/-- `n` bytes at core address `a` lie in the core's local memory or in the shared memory (R286). -/
def coreRange (a n : Nat) : Bool := decide (a + n ≤ 0x40000) || (decide (0x200000 ≤ a) && decide (a + n ≤ 0x400000))

/-- Unit address of core address `a` of core `c` (R286). -/
def coreAddr (k c a : Nat) : Nat := casAddr k (if a < 0x40000 then c * 0x40000 + a else a)

end Sys2Proof.Machine
end

