-- ==== Sys2Proof/Machine/Mbx.lean ====
section
/-! DEFINITION. The mailbox protocol every command shares: requests and responses (R425, R426), refusals (R440, R441, R444),
relay and broadcast (R396, R397, R430), tickets of long commands (R428, R429, R445), and the opcode table. -/

namespace Sys2Proof.Machine

/-- A request record as the firmware reads it (R425). -/
structure Req where
  /-- channel 0 to 15, or relay slot 16 and up -/
  src : Nat
  opcode : Nat
  tag : Nat
  /-- TARGET, 32 bits -/
  target : Nat
  len : Nat
  flags : Nat
  /-- bytes 0x0C to 0x0F -/
  rsv : Nat
  /-- PAYLOAD, LEN bytes of it -/
  pay : List Byte
  /-- UA of the unit the command came from -/
  ua : BitVec 18

/-- Read a request from a command record. -/
def parseReq (src : Nat) (ua : BitVec 18) (c : List Byte) : Req :=
  { src := src
    opcode := fld c 0 2
    tag := fld c 2 2
    target := fld c 4 4
    len := fld c 8 2
    flags := fld c 10 2
    rsv := fld c 12 4
    pay := bytesAt c 16 (min (fld c 8 2) 240)
    ua := ua }

/-- The field of `n` bytes at payload offset `o` (R441). -/
def Req.n (q : Req) (o n : Nat) : Nat := fld q.pay o n

/-- The command in progress at `src`, if its row may fire. -/
def State.request (s : State) (src : Nat) : Option Req :=
  if src < 16 then
    let c := s.chan src
    if c.state = .busy ∧ c.relayed = false then some (parseReq src s.chain.ua c.copy) else none
  else
    match tget none s.chain.slots src with
    | some r => if r.ready then some (parseReq src r.from_ r.cmd) else none
    | none => none

/-- What the table of a command says of its record (R440 to R444). -/
structure CmdSpec where
  /-- opcode -/
  op : Nat
  /-- offset and value of the OP, FORM or SET byte that tells this row from others of its opcode -/
  form : Option (Nat × Nat) := none
  /-- smallest LEN: the end of the last field needed (R441) -/
  need : Nat
  /-- payload ranges that entries cover: offset and length (R441) -/
  cov : List (Nat × Nat) := []
  /-- class B: may carry TARGET 0x3_FFFF (R444) -/
  bcast : Bool := false
  /-- domains the command acts on (R475) -/
  doms : State → Req → List Nat := fun _ _ => []

/-- The request is for this row. -/
def CmdSpec.fits (sp : CmdSpec) (q : Req) : Bool :=
  q.opcode == sp.op && (match sp.form with | some (o, v) => q.n o 1 == v | none => true)

/-- Payload byte `i` belongs to an entry. -/
def covered (cov : List (Nat × Nat)) (i : Nat) : Bool := cov.any fun e => decide (e.1 ≤ i) && decide (i < e.1 + e.2)

/-- Every payload byte that no entry covers is zero (R441). -/
def Req.clean (q : Req) (cov : List (Nat × Nat)) : Bool :=
  (List.range q.pay.length).all fun i => covered cov i || q.pay.getD i 0 == 0

/-- The boot states allow this opcode (R437, R440, R448). -/
def HostState.opcodeAllowed (h : HostState) (op : Nat) : Bool :=
  if h.bootState = 3 then op != 0x0102
  else if h.bootState = 1 then op == 0x0101 || op == 0x0102
  else if h.bootState = 4 then op == 0x0102
  else false

/-- A message that another unit's firmware sent for itself (R396). -/
def Req.own (q : Req) : Bool := decide (16 ≤ q.src) && q.rsv == ownMessage

/-- LOCAL of FLAGS (R425). -/
def Req.local_ (q : Req) : Bool := bit q.flags 2

/-- The command is for this unit (R425, R430). -/
def Req.here (q : Req) (ua : BitVec 18) : Bool := decide (16 ≤ q.src) || q.local_ || q.target == ua.toNat

/-- TARGET is the broadcast address. -/
def Req.everywhere (q : Req) : Bool := q.target == 0x3FFFF

/-- The refusals that come before routing (R10, R389, R425, R440, R444). -/
def Req.early (q : Req) (s : State) (bcast : Bool) : Option Status :=
  if s.host.opcodeAllowed q.opcode = false then some Code.ST_BAD_OPCODE
  else if 240 < q.len then some Code.ST_BAD_PARAM
  else if q.src < 16 ∧ (q.rsv ≠ 0 ∨ 2 ^ 18 ≤ q.target ∨ 8 ≤ q.flags) then some Code.ST_RESERVED_NONZERO
  else if q.src < 16 ∧ q.local_ = true ∧ q.target ≠ 0 then some Code.ST_BAD_PARAM
  else if q.src < 16 ∧ q.target / 1024 = 255 ∧ q.target ≠ 0x3FFFF ∧ q.target ≠ 0x3FC00 then some Code.ST_BAD_PARAM
  else if q.src < 16 ∧ q.local_ = false ∧ q.everywhere = true ∧ bcast = false then some Code.ST_BAD_PARAM
  else none

/-! ### Responses (R426) -/

/-- The response record: header and payload, without trailing zeros. -/
def respBytes (op tag : Nat) (st : Status) (pay : List Byte) (tk : BitVec 32) (ua : BitVec 18) : List Byte :=
  leBytes op 2 ++ leBytes tag 2 ++ leBytes st.toNat 2 ++ leBytes (min pay.length 240) 2 ++ leBytes tk.toNat 4 ++
    leBytes ua.toNat 4 ++ pay.take 240

/-- Write a response into channel `ch`: DONE with its interrupt, or IDLE after a reset (R424, R425, R427). -/
def State.channelDone (s : State) (ch : Nat) (resp : List Byte) (irq : Bool) : State :=
  let c := s.chan ch
  let c' : Channel :=
    if c.resetPend then { c with state := .idle, relayed := false, resetPend := false, waits := none }
    else { c with state := .done, relayed := false, waits := none, resp := bytesAt resp 0 256 }
  let s := s.setChan ch c'
  if irq && !c.resetPend then s.setIrq ch else s

/-- Keep a relayed command's response: the last 4 of a source channel (R431). -/
def keepResp (l : List KeptResp) (k : KeptResp) : List KeptResp :=
  let same := (k :: l.filter fun x => x.ua == k.ua && x.ch == k.ch && x.tag != k.tag).take 4
  same ++ l.filter fun x => !(x.ua == k.ua && x.ch == k.ch)

/-- Answer a request: in its channel, or over the chain (R426, R396, R397). -/
def State.reply (s : State) (q : Req) (st : Status) (pay : List Byte) (tk : BitVec 32) : State :=
  let bs := respBytes q.opcode q.tag st pay tk s.chain.ua
  if q.src < 16 then s.channelDone q.src bs (bit q.flags 0)
  else
    match tget none s.chain.slots q.src with
    | none => s
    | some r =>
      let k : KeptResp := { ua := r.from_, ch := q.rsv % 256, tag := BitVec.ofNat 16 q.tag, resp := bs }
      let c := { s.chain with slots := tset none s.chain.slots q.src none, kept := if q.own then s.chain.kept else keepResp s.chain.kept k }
      let s := { s with chain := c }
      if r.bcast && (st == Code.ST_OK || st == Code.ST_ACCEPTED) then s else s.message .none r.from_ r.seq true bs

/-- What a command's body answers. -/
structure Reply where
  st : Status
  pay : List Byte := []
  tk : BitVec 32 := 0
  s : State
  /-- the answer waits for other units (R455) -/
  hold : Bool := false

/-- A refusal that changes nothing. -/
def refuse (s : State) (st : Status) : Reply := { st := st, s := s }
/-- Done, with a response payload. -/
def done (s : State) (pay : List Byte) : Reply := { st := Code.ST_OK, pay := pay, s := s }

/-! ### Tickets (R428, R429, R445) -/

/-- Objects that the long work names, for R445: kind and number. A TRANSOM has its own rule, ST_TRANSOM_BUSY of R154. -/
def Work.objs : Work → List (Nat × Nat)
  | .unload n => [(1, n)]
  | .arm n _ => [(3, n)]
  | .failClear n k => [(4, 2 * n + k)]
  | .failReadout c => [(5, fld c 0 8)]
  | .repair c => [(6, fld c 0 8)]
  | .trigReadout c => [(7, fld c 0 1)]
  | .jobLoad c => [(8, fld c 0 1)]
  | .train c => ((List.range 8).filter (bit (fld c 0 1))).map fun i => (9, i)
  | .sweep c => ((List.range 8).filter (bit (fld c 0 1))).map fun i => (10, i)
  | .calibrate c => ((List.range 64).filter (bit (fld c 0 8))).map fun i => (11, i)
  | .enumerate _ => [(12, 0)]
  | .domainSet d _ => [(13, d)]
  | .bootLoad _ _ | .load _ _ | .transom _ _ | .copy _ | .bcast _ => []

/-- A live ticket works on one of the objects. -/
def HostState.objBusy (h : HostState) (objs : List (Nat × Nat)) : Bool :=
  h.tickets.any fun e =>
    match e.2 with
    | some t => t.final.isNone && t.work.objs.any objs.contains
    | none => false

/-- No new long command: 256 live tickets, or 4,096 kept that none may drop (R429). -/
def HostState.ticketsFull (h : HostState) : Bool :=
  decide (256 ≤ h.liveTickets) || (decide (4096 ≤ h.endedTickets) && h.dropable.isNone)

/-- The ticket number after `n`: never zero (R429). -/
def ticketAfter (n : BitVec 32) : BitVec 32 := if n + 1 = 0 then 1 else n + 1

/-- Accept a long command: issue its ticket, or ST_BUSY (R428, R429, R445). -/
def State.accept (s : State) (q : Req) (w : Work) (queued : Bool) (total : Nat) : Reply :=
  if s.host.ticketsFull || s.host.objBusy w.objs then refuse s Code.ST_BUSY
  else
    let tk := s.host.nextTicket
    let t : Ticket :=
      { opcode := BitVec.ofNat 16 q.opcode
        work := w
        queued := queued
        final := none
        progress := 0
        total := BitVec.ofNat 64 total
        phase := 0
        data := []
        cancel := false
        retained := false
        hostErr := false
        source := q.ua }
    let s := { s with host := { s.host with nextTicket := ticketAfter tk } }
    { st := Code.ST_ACCEPTED, tk := tk, s := s.setTicket tk (some t) }

/-! ### Routing -/

/-- Note the domain a command waits for (R475). -/
def State.setWaits (s : State) (src : Nat) (d : Nat) : State :=
  if src < 16 then s.modChan src fun c => { c with waits := some d }
  else
    match tget none s.chain.slots src with
    | some r => { s with chain := { s.chain with slots := tset none s.chain.slots src (some { r with waits := some d }) } }
    | none => s

/-- Execute a command on this unit: payload checks, domain access, body (R441, R475, R478). -/
def State.runLocal (s : State) (q : Req) (sp : CmdSpec) (body : State → Req → Reply) : State :=
  if q.pay.length < sp.need then s.reply q Code.ST_BAD_PARAM [] 0
  else if q.clean sp.cov = false then s.reply q Code.ST_RESERVED_NONZERO [] 0
  else
    let ds := sp.doms s q
    match s.accessAll ds with
    | (.locked, s) => s.reply q Code.PW_DOMAIN_LOCKED [] 0
    | (.wait, s) => s.setWaits q.src ((ds.find? fun d => (s.dom d).state != .on).getD 0)
    | (.go, s) =>
      let r := body s q
      if r.hold then r.s else r.s.reply q r.st r.pay r.tk

/-- The bytes of a command as it is relayed: its channel in the reserved byte 0x0C. -/
def relayBytes (c : List Byte) (ch : Nat) : List Byte :=
  bytesAt c 0 12 ++ leBytes ch 4 ++ bytesAt c 16 (min (fld c 8 2) 240)

/-- Relay a command to another unit (R396, R430). -/
def State.relay (s : State) (q : Req) : State :=
  let bs := relayBytes (s.chan q.src).copy q.src
  let ua := BitVec.ofNat 18 q.target
  let (seq, s) := s.nextSeq ua
  (s.modChan q.src fun c => { c with relayed := true }).message (.chan q.src) ua seq false bs

/-- The source of a command's effect that answers nobody: the issuing unit's own share of a broadcast (R397). -/
def noSource : Nat := 2 ^ 31

/-- Broadcast a class B command: a ticket, the frames, and its effect on this unit too (R397). -/
def State.broadcast (s : State) (q : Req) (body : State → Req → Reply) : State :=
  let r := s.accept q (.bcast q.pay) false 0
  if r.st = Code.ST_ACCEPTED then
    let bs := relayBytes (s.chan q.src).copy q.src
    let (seq, s) := r.s.nextSeq uaBroadcast
    let s := { s with chain := { s.chain with bcasts := s.chain.bcasts ++ [(seq, r.tk)] } }
    let s := (body (s.sendMbx uaBroadcast seq false bs) { q with src := noSource }).s
    s.reply q r.st [] r.tk
  else s.reply q r.st [] 0

/-- The meaning of a command row: nothing unless its command waits at `src`; else its refusal, relay, broadcast or effect. -/
def State.command (s : State) (src : Nat) (sp : CmdSpec) (body : State → Req → Reply) : State :=
  match s.request src with
  | none => s
  | some q =>
    if sp.fits q then
      match q.early s sp.bcast with
      | some st => s.reply q st [] 0
      | none =>
        if q.here s.chain.ua then s.runLocal q sp body
        else if q.everywhere then
          (if q.pay.length < sp.need then s.reply q Code.ST_BAD_PARAM [] 0
           else if q.clean sp.cov = false then s.reply q Code.ST_RESERVED_NONZERO [] 0
           else s.broadcast q body)
        else s.relay q
    else s

/-! ### The opcode table (R440, R448 to R466) -/

/-- Opcode, and offset, lowest and highest value of the byte that selects a row. -/
def opTable : List (Nat × Option (Nat × Nat × Nat)) :=
  [(0x0101, none), (0x0102, none), (0x0103, none), (0x0104, none), (0x0105, none), (0x0106, none), (0x0107, some (1, 0, 3)),
    (0x0108, none), (0x0201, none), (0x0202, none), (0x0203, none), (0x0204, none), (0x0205, none), (0x0206, none)] ++
  [(0x0301, none), (0x0302, none), (0x0303, none), (0x0304, none), (0x0305, none), (0x0306, none), (0x0307, none),
    (0x0308, none), (0x0401, none), (0x0402, none), (0x0403, none), (0x0404, none), (0x0405, none)] ++
  [(0x0501, none), (0x0502, none), (0x0503, none), (0x0504, none), (0x0505, none), (0x0506, none), (0x0601, none),
    (0x0602, none), (0x0603, none), (0x0604, none), (0x0605, none)] ++
  [(0x0701, none), (0x0702, none), (0x0703, none), (0x0704, none), (0x0705, none), (0x0706, none), (0x0707, some (1, 0, 1)),
    (0x0708, none), (0x0709, some (2, 1, 4)), (0x070A, none), (0x070B, none), (0x070C, none), (0x070D, some (1, 1, 7)),
    (0x070E, none)] ++
  [(0x0801, none), (0x0802, none), (0x0803, none), (0x0804, none), (0x0805, some (2, 0, 1)), (0x0806, none), (0x0807, none),
    (0x0808, none), (0x0901, none), (0x0902, none), (0x0903, none), (0x0904, none), (0x0905, none), (0x0906, some (1, 0, 1)),
    (0x0907, none), (0x0908, none)] ++
  [(0x0A01, none), (0x0A02, some (0, 0, 1)), (0x0A03, some (0, 0, 2)), (0x0A04, none), (0x0A05, none), (0x0A06, none),
    (0x0A07, none), (0x0A08, none), (0x0A09, none), (0x0A0A, none), (0x0A0B, none), (0x0A0C, none)] ++
  [(0x0B01, none), (0x0B02, some (1, 0, 3)), (0x0B03, none), (0x0B04, none), (0x0B05, some (0, 0, 1)), (0x0C01, none),
    (0x0C02, none), (0x0C03, none), (0x0C04, some (1, 0, 1)), (0x0C05, none)]

/-- Why no row serves a request: an opcode not listed, or a row byte out of range (R440, R441). -/
def Req.noRow (q : Req) : Option Status :=
  match opTable.find? (·.1 == q.opcode) with
  | none => some Code.ST_BAD_OPCODE
  | some (_, none) => none
  | some (_, some (o, lo, hi)) => if lo ≤ q.n o 1 ∧ q.n o 1 ≤ hi then none else some Code.ST_BAD_PARAM

/-- Answer at once a request that no row serves. -/
def State.screen (s : State) (src : Nat) : State :=
  match s.request src with
  | none => s
  | some q =>
    match q.noRow with
    | some st => s.reply q st [] 0
    | none => s

end Sys2Proof.Machine
end

