-- ==== Sys2Proof/Machine/PinOps.lean ====
section
/-! DEFINITION. The code grid (R186, R193), compares and fail records (R185, R203 to R209, R211, R244, R264), speculation
checks (R225) and what a cycle still waits for (R208). -/

namespace Sys2Proof.Machine

/-! ### The grid -/

/-- P, pins per lane (R193). -/
def Lane.pins (l : Lane) : Nat := 2 ^ l.cfg.plog

/-- Slots of each pin in a frame: 512 / P (R186). -/
def Lane.spf (l : Lane) : Nat := 512 / l.pins

/-- First grid slot of code `i` of cycle `c` in a run from `c0` (R186). -/
def Lane.slotOf (l : Lane) (c0 c i : Nat) : Nat := ((c - c0) * l.cfg.k + i) * l.cfg.rpt

/-- OFF_p in force: the record's, or zero when it does not match the lane (R199, R202). -/
def Lane.offset (l : Lane) (p : Nat) : Nat :=
  if l.st.uncal then 0 else match l.cal with | some c => (tget 0 c.off p).toNat | none => 0

/-- The code of slot `m` of pin `p` in the received data frames, when decoded (R193). -/
def Lane.respAt (l : Lane) (m p : Nat) : Option (BitVec 2) :=
  let f := m / l.spf
  if f < l.rxFrames then
    some (BitVec.ofNat 2 (bits (tget 0 l.resp f).toNat (2 * (m % l.spf * l.pins + p)) 2))
  else none

/-- The response that belongs to (c, i) on pin `p`: RX slot n + RPT − 1 + OFF_p (R186). -/
def Lane.respOf (l : Lane) (c0 c i p : Nat) : Option (BitVec 2) :=
  l.respAt (l.slotOf c0 c i + l.cfg.rpt - 1 + l.offset p) p

/-- Assembly has taken the first slot of (c, i) (R188, R232). -/
def Lane.sent (l : Lane) (c0 c i : Nat) : Bool := decide (l.slotOf c0 c i / l.spf < l.frame)

/-- ACTIVE of pin `p` (R216). -/
def Lane.active (l : Lane) (p : Nat) : Bool := getBit l.cfg.active p

/-- The masks in force for a cycle (R204, R535). -/
def MaskTable.forCycle (m : MaskTable) (c : Nat) : Option MaskInForce := m.inForce.find? fun e => decide (e.fromCycle ≤ c)

/-- Rows of the active copy (R160). -/
def MaskTable.activeRows (m : MaskTable) : Tab (BitVec 256) := if m.active1 then m.rows1 else m.rows0

/-- The compare of (p, i) in cycle `c` is masked (R203). -/
def Lane.masked (l : Lane) (c i p : Nat) : Bool :=
  match l.masks.forCycle c with
  | some e => getBit e.pinmask p || getBit (tget 0 e.rows p) i
  | none => getBit l.cfg.pinmask p || getBit (tget 0 l.masks.activeRows p) i

/-! ### Drive codes -/

/-- Drive code of (i, p) in the queue entry of cycle `c`; keep when unwritten (R46). -/
def Lane.driveCode (l : Lane) (c i p : Nat) : BitVec 2 :=
  match l.outq.find? (·.cycle == c) with
  | some e => tget 3 e.codes (i * 32 + p)
  | none => 3

/-- Replace one bit of a drive code (R46). -/
def outPut (q : List OutCycle) (c i p sel : Nat) (v : Bool) : List OutCycle :=
  match q with
  | [] => [{ cycle := c, codes := tmod 3 [] (i * 32 + p) fun x => putBit x sel v }]
  | e :: es => if e.cycle = c then { e with codes := tmod 3 e.codes (i * 32 + p) fun x => putBit x sel v } :: es else e :: outPut es c i p sel v

/-- Lines of a commit-log block (R232). -/
def Lane.clogLines (l : Lane) : Nat := ceilDiv (l.cfg.k * l.pins) 128

/-- Scratchpad byte address of sash `i`'s commit-log block of cycle `c` (R230, R232). -/
def State.clogAddr (s : State) (n i c : Nat) : Nat :=
  let g := (s.site n).img
  padAddr i (32 * (g.clogFirst + c % (g.depth + 1) * (s.lane i).clogLines))

/-! ### Fail records -/

/-- The 16 bytes of a fail record (R244). -/
def failRec (cycle code site pin exp act flags ctx : Nat) : Rec16 :=
  BitVec.ofNat 128 (ctx % 2 ^ 48 + flags % 4 * 2 ^ 48 + act % 4 * 2 ^ 50 + exp % 4 * 2 ^ 52 + pin % 1024 * 2 ^ 54 +
    site % 256 * 2 ^ 64 + code % 256 * 2 ^ 72 + cycle % 2 ^ 48 * 2 ^ 80)

/-- FLAGS of a fail record. -/
def recFlags (r : Rec16) : Nat := bits r.toNat 48 2
/-- CYCLE of a fail record. -/
def recCycle (r : Rec16) : Nat := bits r.toNat 80 48
/-- PIN of a fail record. -/
def recPin (r : Rec16) : Nat := bits r.toNat 54 10
/-- CONTEXT of a fail record. -/
def recCtx (r : Rec16) : Nat := bits r.toNat 0 48

/-- REC, BITMAP, MRC, FILTER and FULLPOL of CAPCTL (R252). -/
def FailCfg.rec_ (f : FailCfg) : Bool := getBit f.capctl 0
def FailCfg.bitmap (f : FailCfg) : Bool := getBit f.capctl 1
def FailCfg.mrc (f : FailCfg) : Bool := getBit f.capctl 2
def FailCfg.filter (f : FailCfg) : Bool := getBit f.capctl 3
def FailCfg.fullpol (f : FailCfg) : Nat := bits f.capctl.toNat 4 2

/-- Row, column and IO number of a record's cell; none outside the IO range or for other kinds (R259). -/
def FailCfg.cell (f : FailCfg) (r : Rec16) : Option (Nat × Nat × Nat) :=
  let io := recPin r - f.ioFirst
  if recFlags r ≤ 1 ∧ f.ioFirst ≤ recPin r ∧ io < 2 ^ f.iob then
    some (bits (recCtx r) f.rowsh f.rowb, bits (recCtx r) f.colsh f.colb, io)
  else none

/-- Repair column of a cell (R261). -/
def FailCfg.repCol (f : FailCfg) (col io : Nat) : Nat := col * 2 ^ f.iob + io
/-- CB, bits of a repair column. -/
def FailCfg.cb (f : FailCfg) : Nat := f.colb + f.iob
/-- NCB, block columns. -/
def FailCfg.ncb (f : FailCfg) : Nat := 2 ^ (f.cb - f.bcb)

/-- The filter entries in force for a cycle (R264). -/
def FilterTable.forCycle (t : FilterTable) (c : Nat) : Tab (BitVec 64) :=
  match t.inForce.find? fun e => decide (e.1 ≤ c) with
  | some e => e.2
  | none => if t.active1 then t.rows1 else t.rows0

/-- The cell lies in a valid filter entry: same block, and its row or repair column within the block (R264). -/
def FailCfg.inFilter (f : FailCfg) (t : Tab (BitVec 64)) (row col io : Nat) : Bool :=
  let rc := f.repCol col io
  let b := row / 2 ^ f.brb * f.ncb + rc / 2 ^ f.bcb
  t.any fun e =>
    getBit e.2 63 && bits e.2.toNat 32 30 == b &&
      (if getBit e.2 62 then bits e.2.toNat 0 32 == rc % 2 ^ f.bcb else bits e.2.toNat 0 32 == row % 2 ^ f.brb)

/-- The record is suppressed by the site's filter (R264). -/
def Site.filtered (x : Site) (r : Rec16) : Bool :=
  x.img.failcfg.filter &&
    (match x.img.failcfg.cell r with
     | some (row, col, io) => x.img.failcfg.inFilter (x.filt.forCycle (recCycle r)) row col io
     | none => false)

/-- Compare and direct-mode records in the FIFO: 512 places beside the model-check one (R251). -/
def FailPath.plain (f : FailPath) : Nat := (f.fifo.filter fun r => recFlags r != 3).length

/-- Form a compare or direct-mode record: filtered, lost on a full FIFO, or entered (R206, R251, R257, R264). -/
def State.formRecord (s : State) (n i : Nat) (r : Rec16) : State :=
  let x := s.site n
  if x.filtered r then s.setSite n { x with fl := { x.fl with filtered := satInc x.fl.filtered } }
  else if 512 ≤ (s.lane i).fail.plain then
    let s := s.modLane i fun l => { l with st := { l.st with failLost := satInc l.st.failLost } }
    let s := s.setSite n
      { x with
        noticed := putBit x.noticed 1 true
        fl := { x.fl with lost := satInc x.fl.lost, incomplete := true } }
    if getBit x.noticed 1 then s else s.postNotice Code.ST_OK n i 0x02 (recCycle r) 0
  else
    let s := s.modLane i fun l => { l with fail := { l.fail with fifo := l.fail.fifo ++ [r] } }
    s.setSite n { x with fl := { x.fl with formed := satInc x.fl.formed } }

/-- A model check has failed: (cycle, step, pane, record) waits until its step ends, or with D ≥ 1 until its cycle commits
(R225, R248, R251). -/
def State.noteModelCheck (s : State) (i : Nat) (m : Nat × Nat × Nat × Rec16) : State :=
  s.modLane i fun l => { l with fail := { l.fail with mcPend := l.fail.mcPend ++ [m] } }

/-- The mismatch that comes first in step order and then pane order (R251). -/
def firstCheck : List (Nat × Nat × Nat × Rec16) → Option (Nat × Nat × Nat × Rec16)
  | [] => none
  | m :: ms =>
    match firstCheck ms with
    | none => some m
    | some k => if m.2.1 < k.2.1 ∨ (m.2.1 = k.2.1 ∧ m.2.2.1 ≤ k.2.2.1) then some m else some k

/-- Capture the model-check mismatches of cycle `c` that wait in sash `i`: the first of the cycle enters the FIFO and sets
TF_MODEL_CHECK pending, the others count in MC_EXTRA (R31, R251). `fresh`: none of the cycle has been captured before. -/
def State.captureChecks (s : State) (n i c : Nat) (fresh : Bool) : State :=
  let ms := (s.lane i).fail.mcPend.filter fun m => m.1 == c
  match firstCheck ms with
  | none => s
  | some m =>
    let first := fresh || !(s.lane i).fail.mcSeen
    let more := if first then ms.length - 1 else ms.length
    let s := s.modLane i fun l =>
      { l with
        fail := { l.fail with
          mcSeen := true
          mcPend := l.fail.mcPend.filter fun m => m.1 != c
          fifo := if first then l.fail.fifo ++ [m.2.2.2] else l.fail.fifo } }
    let s := s.modSite n fun x =>
      { x with
        fl := { x.fl with
          mcExtra := satAdd x.fl.mcExtra more
          formed := if first then satInc x.fl.formed else x.fl.formed } }
    if first then s.pendFault n (faultOf Code.TF_MODEL_CHECK i m.2.2.1 m.2.1 0) else s

/-! ### Compares -/

/-- The compare matches (R185): 0 L, 1 H, 2 M, 4 V. -/
def expectMatches (want : BitVec 3) (r : BitVec 2) : Bool :=
  if want = 4 then r == 0 || r == 1 else r.toNat == want.toNat

/-- The recorded expect field (R185). -/
def expectField (want : BitVec 3) : Nat := if want = 4 then 3 else want.toNat % 4

/-- CTXWIRE among sampled long wires; zero with CTXEN = 0 (R211). -/
def PinCfg.contextOf (g : PinCfg) (wires : BitVec 256) : Word :=
  if getBit g.ctxcfg 7 then BitVec.ofNat 32 (bits wires.toNat (32 * bits g.ctxcfg.toNat 0 3) 32) else 0

/-- Context word of (c, i) on pin `p`, as the frame that carried the code found it (R211). -/
def Lane.context (l : Lane) (c0 c i p : Nat) : Nat :=
  if l.cfg.source = 1 then
    let m := l.slotOf c0 c i
    (tget 0 l.patCtx (m / l.spf * 32 + (m % l.spf * l.pins + p) / 16)).toNat
  else (tget 0 l.codeCtx (c * 256 + i)).toNat

/-- STOP is decided for cycle `c` and the model has not passed its hinge: the engine enters DRAIN (R238, R242). -/
def State.decideStop (s : State) (n c : Nat) : State :=
  s.modSite n fun x =>
    { x with
      ra := { x.ra with
              state := if x.ra.state = .rollback then x.ra.state else .drain
              stopAt := some (match x.ra.stopAt with | some k => min k c | none => c) } }

/-- A failing compare asks for the STOP policy's halt (R227). -/
def State.mismatchPolicy (s : State) (n c : Nat) : State :=
  let x := s.site n
  if x.img.policy = 0 then (if x.img.depth = 0 then s.askHalt n else s.decideStop n c) else s

/-- Perform or discard one compare whose response is `r` (R185, R203, R205, R209). -/
def State.compare (s : State) (n i : Nat) (e : Expect) (r : BitVec 2) : State :=
  let l := s.lane i
  let x := s.site n
  if l.active e.pin = false ∨ l.masked e.cycle e.code e.pin = true then s
  else
    let ok := expectMatches e.want r
    let st := { l.st with compares := satInc l.st.compares, mismatches := if ok then l.st.mismatches else satInc l.st.mismatches }
    let s := s.setLane i { l with st := st }
    if ok then s
    else
      let pin := (s.sash i).cfg.index * l.pins + e.pin
      let rec_ := failRec e.cycle e.code n pin (expectField e.want) r.toNat (b2n (r == 3)) (l.context x.c0 e.cycle e.code e.pin)
      (s.formRecord n i rec_).mismatchPolicy n e.cycle

/-- Run every stored compare of lane `i` that `due` selects and whose response is decoded (R203, R225). -/
def State.runCompares (s : State) (n i : Nat) (due : Expect → Bool) : State :=
  let l := s.lane i
  let c0 := (s.site n).c0
  let rdy (e : Expect) : Bool := due e && (l.respOf c0 e.cycle e.code e.pin).isSome
  let s := s.setLane i { l with expects := l.expects.filter fun e => !rdy e }
  (l.expects.filter rdy).foldl
    (fun s e => match l.respOf c0 e.cycle e.code e.pin with | some r => s.compare n i e r | none => s) s

/-! ### Speculation -/

/-- A checked speculated bit that differs from the response: (cycle, slot, site pin, code, act byte) (R225, R243). -/
def Lane.specBad (l : Lane) (index c0 : Nat) (b : SpecBit) : Option (Nat × Nat × Nat × Nat × Nat) :=
  match l.respOf c0 b.cycle b.code b.pin with
  | none => none
  | some r =>
    if getBit r (b2n b.sel) = b.bit then none
    else
      some (b.cycle, l.slotOf c0 b.cycle b.code, index * l.pins + b.pin, b.code,
        r.toNat + b2n b.bit * 4 + b2n b.sel * 8)

/-- Check every speculated bit of lane `i` whose response is decoded; note the disagreements (R225). -/
def State.checkSpecs (s : State) (n i : Nat) : State :=
  let l := s.lane i
  let c0 := (s.site n).c0
  let rdy (b : SpecBit) : Bool := (l.respOf c0 b.cycle b.code b.pin).isSome
  let bad := (l.specs.filter rdy).filterMap (l.specBad (s.sash i).cfg.index c0)
  let s := s.setLane i { l with specs := l.specs.filter fun b => !rdy b }
  if bad.isEmpty then s else s.modSite n fun x => { x with ra := { x.ra with found := x.ra.found ++ bad } }

/-- Nothing of cycle `c` is still to be compared or checked on any lane (R208). -/
def State.cycleCompared (s : State) (n c : Nat) : Bool :=
  (s.siteSashes n).all fun i =>
    (s.lane i).expects.all (fun e => e.cycle != c) && (s.lane i).specs.all (fun b => b.cycle != c)

/-- No check of cycle `c` is outstanding, and no divergence of it found and undecided (R222, R225). -/
def State.cycleChecked (s : State) (n c : Nat) : Bool :=
  (s.siteSashes n).all (fun i => (s.lane i).specs.all fun b => b.cycle != c) && (s.site n).ra.found.all (fun d => d.1 != c)

/-- Every expect of cycle `c` has its response decoded (R222). -/
def State.cycleDecoded (s : State) (n c : Nat) : Bool :=
  let c0 := (s.site n).c0
  (s.siteSashes n).all fun i =>
    (s.lane i).expects.all fun e => e.cycle != c || ((s.lane i).respOf c0 e.cycle e.code e.pin).isSome

end Sys2Proof.Machine
end

