-- ==== Sys2Proof/Machine/Operands.lean ====
section
/-! DEFINITION. Operand forms: the pane operands of R38 and R54, the word-cell operand B of R78, the DSP scalar operand. -/

namespace Sys2Proof.Machine

/-! ### Panes (R37, R38, R54) -/

/-- OP of a pane instruction (R37). -/
def pOp (w : DWord) : Nat := bits w.toNat 60 4
/-- TT. -/
def pTT (w : DWord) : Nat := bits w.toNat 44 16
/-- Operand fields A, B, C and D. -/
def pA (w : DWord) : Nat := bits w.toNat 33 11
def pB (w : DWord) : Nat := bits w.toNat 22 11
def pC (w : DWord) : Nat := bits w.toNat 11 11
def pD (w : DWord) : Nat := bits w.toNat 0 11

/-- SRC of an operand: the sash exchange (R38). -/
def opExch (f : Nat) : Bool := f.testBit 10
/-- INDEX of an operand (R38). -/
def opIndex (f : Nat) : Nat := f % 1024

/-- The value an operand of pane `p` returns: exchange, net bit or state bit (R38, R54). -/
def Sash.operand (x : Sash) (p f : Nat) : Bool :=
  if opExch f then getBit x.exch (opIndex f)
  else if opIndex f < 512 then getBit (tget 0 x.net p) (opIndex f)
  else getBit (tget 0 x.st p) (opIndex f - 512)

/-- The bit-store word of an operand has wrong parity (R30, R35). -/
def Sash.operandBad (x : Sash) (p f : Nat) : Bool := !opExch f && tget false x.bitErr (p * 16 + opIndex f / 64)

/-- In scoreboard mode: a net bit not yet written in this cycle (R70). -/
def Sash.operandEarly (x : Sash) (p f : Nat) : Bool :=
  !opExch f && decide (opIndex f < 256) && !getBit (tget 0 x.sbFlags p) (opIndex f)

/-- The instruction pane `p` executes at step `k`: an active patch in place of the store's word (R32, R153). -/
def Sash.fetch (x : Sash) (p k : Nat) : DWord :=
  match x.patches.find? fun e => match e.2 with | some q => q.pane == p && q.addr == k | none => false with
  | some (_, some q) => q.word
  | _ => tget 0 x.istore (p * 512 + k)

/-- The word comes from the patch table (R153). -/
def Sash.patched (x : Sash) (p k : Nat) : Bool :=
  x.patches.any fun e => match e.2 with | some q => q.pane == p && q.addr == k | none => false

/-- SECDED state of the word pane `p` executes at step `k`: its patch entry's, else the store word's (R30, R153). -/
def Sash.wordErr (x : Sash) (p k : Nat) : BitVec 2 :=
  match x.patches.find? fun e => match e.2 with | some q => q.pane == p && q.addr == k | none => false with
  | some (_, some q) => q.err
  | _ => tget 0 x.istoreErr (p * 512 + k)

/-- The operands an instruction uses for their value (R35, R40, R41). -/
def pUsed (w : DWord) : List Nat :=
  match pOp w with
  | 0x1 => [pA w, pB w, pC w, pD w]
  | 0x2 => [pA w, pB w, pC w]
  | 0x9 => if (pTT w).testBit 13 then [pA w, pB w, pD w] else [pA w, pB w, pC w, pD w]
  | 0x3 | 0x6 | 0x7 | 0x8 | 0xA | 0xC => [pA w]
  | _ => []

/-- Address latch MALn (R47). -/
def Sash.malAt (x : Sash) (n : Nat) : Nat := (tget 0 x.mal n).toNat

/-- Scratchpad line of a MEMRD or MEMWR (R47). -/
def Sash.memLine (x : Sash) (w : DWord) : Nat :=
  if (pTT w).testBit 15 then (pTT w % 32768 + x.malAt (pD w % 4)) % 32768 else pTT w % 32768

/-! ### Word cells (R78) -/

def wOpc (w : Word) : Nat := bits w.toNat 27 5
def wPred (w : Word) : Nat := bits w.toNat 24 3
def wDV (w : Word) : Bool := getBit w 23
def wWS (w : Word) : Nat := bits w.toNat 20 3
def wRD (w : Word) : Nat := bits w.toNat 16 4
def wRA (w : Word) : Nat := bits w.toNat 12 4
def wI (w : Word) : Bool := getBit w 11
def wRB (w : Word) : Nat := bits w.toNat 7 4
def wBW (w : Word) : Bool := getBit w 6
def wBWS (w : Word) : Nat := bits w.toNat 3 3

/-- Word register of a cell. -/
def WordCell.reg (c : WordCell) (r : Nat) : Word := tget 0 c.regs r

/-- Long wire as read in this step (R88). -/
def Sash.wire (x : Sash) (n : Nat) : Word := tget 0 x.wires n

/-- Operand B: IMM11 sign-extended, a wire, or a register (R78). -/
def Sash.wB (x : Sash) (c : WordCell) (w : Word) : Word :=
  if wI w then BitVec.ofInt 32 (sext w.toNat 11)
  else if wBW w then x.wire (wBWS w)
  else c.reg (wRB w)

/-- The predicate is true (R79). -/
def WordCell.pred (c : WordCell) (p : Nat) (pace : Bool) : Bool :=
  match p with
  | 0 => true
  | 1 => c.z
  | 2 => !c.z
  | 3 => c.c
  | 4 => !c.c
  | 5 => pace
  | 6 => c.n
  | _ => !pace

/-- The pace flag of step `d` steps ago, as the cell may read it; `now` is the flag of this step (R79, R93). -/
def WordCell.pace (c : WordCell) (now : Bool) : Bool :=
  if c.pdly = 0 then now else getBit c.paceHist (c.pdly.toNat - 1)

/-- The pace flag of the present word-cell step (R83). -/
def Sash.paceFlag (x : Sash) : Bool := decide (x.paceDen.toNat ≤ x.paceAcc + x.paceNum.toNat)

/-! ### DSP cores (R289) -/

/-- Scalar or immediate operand. -/
def CoreRegs.arg (r : CoreRegs) : ScalArg → Word
  | .reg n => tget 0 r.s n.val
  | .imm v => v

end Sys2Proof.Machine
end

