-- ==== Sys2Proof/Machine/Flags.lean ====
section
/-! DEFINITION. Flag computations: Z, N and C of the word cells (R80); Z, N and the sticky OVF of the DSP cores (R289, R290). -/

namespace Sys2Proof.Machine

/-- Flags of ADD: Z, N of the result, C carry out (R80). -/
def WordCell.addFlags (c : WordCell) (a b : Word) : WordCell :=
  { c with z := a + b == 0, n := (a + b).msb, c := decide (2 ^ 32 ≤ a.toNat + b.toNat) }

/-- Flags of SUB and CMP: Z, N signed A < B, C unsigned A < B (R80). -/
def WordCell.subFlags (c : WordCell) (a b : Word) : WordCell :=
  { c with z := a - b == 0, n := a.slt b, c := a.ult b }

/-- Z of POPC and CLZ (R80). -/
def WordCell.zFlag (c : WordCell) (r : Word) : WordCell := { c with z := r == 0 }

/-- Z and N of the scalar ADD, SUB and CMP (R289). -/
def CoreRegs.zn (r : CoreRegs) (v : Word) : CoreRegs := { r with z := v == 0, n := v.msb }

/-- Saturate to `w` signed bits (R290). -/
def satTo (w : Nat) (x : Int) : Int := clampInt (-(2 ^ (w - 1) : Int)) (2 ^ (w - 1) - 1) x

/-- OVF is set when a saturation changed the value, and stays set (R288, R290). -/
def CoreRegs.ovfIf (r : CoreRegs) (b : Bool) : CoreRegs := { r with ovf := r.ovf || b }

end Sys2Proof.Machine
end

