-- ==== Sys2Proof/Machine/Pane.lean ====
section
/-! DEFINITION. The pane instructions (chapter 02): one meaning per row, over one shared step that fetches, checks and stores. -/

namespace Sys2Proof.Machine

/-- What a pane row works on: sash, pane, step, the instruction word and the site. -/
structure PaneAt where
  sash : Nat
  pane : Nat
  k : Nat
  w : DWord
  site : Nat

/-- Contract value of an item, or `d` where the image has no entry (R136). -/
def SiteImage.contractOr (g : SiteImage) (item param d : Nat) : Nat := (tget none g.contract (item * 256 + param)).getD d

/-- SCRATCH_READ of the contract, 3 without an entry (R50, R170). -/
def SiteImage.scratchRead (g : SiteImage) : Nat := g.contractOr 4 0 3

/-- Descriptor value of SCRATCH_READ on both steppings (R50, R167). -/
def scratchActual : Nat := 3

/-- Scoreboard mode (R68, R130). -/
def SiteImage.scoreboard (g : SiteImage) : Bool := getBit g.hflags 1

/-- An interlock stall begins in sash `i`: counted, and in a strict load a pending fault `f` (R28, R58, R71, R118). -/
def State.beginStallAs (s : State) (n i : Nat) (c : StallCause) (f : Status) : State :=
  let x := s.sash i
  if x.stall.isSome then s
  else
    let code : BitVec 8 := match c with | .bundle => 1 | .port => 2 | .wake => 3 | .slot => 4
    let r := { x.ctr with
      stallEvents := satInc x.ctr.stallEvents
      lastStallCycle := (s.site n).cycle
      lastStallStep := BitVec.ofNat 16 x.k
      lastStallCause := code }
    let s := s.setSash i { x with stall := some c, ctr := r }
    if (s.site n).img.strict then s.pendSash i f 0xFF 0 else s

/-- An interlock stall of the rings, the port or a wake: TF_LATE_BUNDLE in a strict load (R28, R118). -/
def State.beginStall (s : State) (n i : Nat) (c : StallCause) : State := s.beginStallAs n i c Code.TF_LATE_BUNDLE

/-- A value operand of a pane: parity and scoreboard checks (R30, R35, R70). -/
def State.useOperand (s : State) (c : PaneAt) (f : Nat) : State :=
  let x := s.sash c.sash
  let s :=
    if x.operandBad c.pane f then
      (s.setSash c.sash { x with ctr := { x.ctr with bitstorePar := satInc x.ctr.bitstorePar } }).pendSash c.sash
        Code.DI_BITSTORE_PARITY c.pane (opIndex f)
    else s
  let x := s.sash c.sash
  if (s.site c.site).img.scoreboard && x.operandEarly c.pane f then
    let r := { x.ctr with
      rbwCount := satInc x.ctr.rbwCount
      rbwPane := if x.rbwSeen then x.ctr.rbwPane else BitVec.ofNat 8 c.pane
      rbwStep := if x.rbwSeen then x.ctr.rbwStep else BitVec.ofNat 16 c.k }
    (s.setSash c.sash { x with rbwSeen := true, ctr := r }).pendSash c.sash Code.TF_READ_BEFORE_WRITE c.pane (opIndex f)
  else s

/-- The checks of every value operand. -/
def State.useOperands (s : State) (c : PaneAt) (fs : List Nat) : State := fs.foldl (fun s f => s.useOperand c f) s

/-- The data of a MEMRD lands now: at its contracted step, or when it has come where that is later (R50, R170). -/
def Landing.due (l : Landing) : Bool := l.left == 0 && l.more == 0

/-- An operand names a net bit between its contracted and its actual landing (R170). -/
def Sash.awaits (x : Sash) (p f : Nat) : Bool :=
  !opExch f && decide (opIndex f < 512) && x.landings.any fun l => l.pane == p && l.k == opIndex f && l.left == 0 && l.more != 0

/-- The keyhole's kind-2 source word of a pane's result (R503). -/
def paneSource (sash k pane : Nat) : BitVec 32 := BitVec.ofNat 32 (2 * 2 ^ 28 + sash * 2 ^ 20 + k * 2 ^ 8 + pane)

/-- Latch a pane's result for the keyhole when some output selects it (R503). -/
def State.latchPane (s : State) (sash k pane : Nat) (v : Bool) : State :=
  let key := s.power.key
  if key.src.any fun e => e.2 == paneSource sash k pane then
    { s with power := { s.power with key := { key with pane := tset false key.pane (sash * 2 ^ 17 + k * 2 ^ 8 + pane) v } } }
  else s

/-- The pane has executed its step without a result of its own yet (R50). -/
def Sash.markDone (x : Sash) (p : Nat) : Sash := { x with done := putBit x.done p true }

/-- Write net bit `k`, the pane's result (R36, R54, R69). -/
def Sash.writeNet (x : Sash) (p k : Nat) (v : Bool) : Sash :=
  { x with
    net := tmod 0 x.net p fun w => putBit w k v
    sbFlags := if k < 256 then tmod 0 x.sbFlags p fun w => putBit w k true else x.sbFlags }

/-- The pane's result of step `k`: net bit, exchange of the next step, done (R36, R54). -/
def State.paneResult (s : State) (c : PaneAt) (v : Bool) : State :=
  let x := (s.sash c.sash).writeNet c.pane c.k v
  (s.setSash c.sash { x.markDone c.pane with results := putBit x.results c.pane v }).latchPane c.sash c.k c.pane v

/-- The instruction-store word's check: false when the site has faulted (R30). -/
def State.fetchCheck (s : State) (c : PaneAt) : Bool × State :=
  let x := s.sash c.sash
  let e := x.wordErr c.pane c.k
  if e = 2 then (false, s.faultSashNow c.sash Code.DI_ISTORE_UNCORRECTABLE c.pane c.k)
  else if e = 1 then
    let s' := s.setSash c.sash { x with corrNoted := true, ctr := { x.ctr with istoreCorr := satInc x.ctr.istoreCorr } }
    (true, if x.corrNoted then s' else s'.postNotice Code.ST_OK c.site c.sash 0x03 (s.site c.site).cycle.toNat c.pane)
  else (true, s)

/-- Panes that have something to execute in the present step, or a word to check, and have not executed it. -/
def Sash.todo (x : Sash) : List Nat :=
  let ps := ((x.istore.filter fun e => e.1 % 512 == x.k).map fun e => e.1 / 512) ++
    (x.patches.filterMap fun e => match e.2 with | some q => if q.addr = x.k then some q.pane else none | none => none)
  let bad := (x.istoreErr.filter fun e => e.1 % 512 == x.k).map fun e => e.1 / 512
  (ps ++ bad.filter fun p => !x.patched p x.k).filter fun p => (pOp (x.fetch p x.k) != 0 || x.wordErr p x.k != 0) && !getBit x.done p

/-- Pane `p` of sash `i` is due at its step with an instruction of OP `op`. -/
def Sash.paneDue (x : Sash) (p op : Nat) : Bool :=
  x.phase == .step && x.portStall == 0 && !getBit x.done p && pOp (x.fetch p x.k) == op &&
    x.landings.all fun l => l.pane != p || !l.due

/-- The first execution of a step checks the store word and the value operands; an instruction that waited is not checked again
(R30, R35, R70). -/
def State.checkOnce (s : State) (c : PaneAt) : Bool × State :=
  if getBit (s.sash c.sash).checked c.pane then (true, s)
  else
    match s.fetchCheck c with
    | (false, s) => (false, s)
    | (true, s) => (true, (s.modSash c.sash fun x => { x with checked := putBit x.checked c.pane true }).useOperands c (pUsed c.w))

/-- The step every pane row shares: fetch, stall on a late landing, store and operand checks, then `act`. -/
def State.pane (s : State) (i p op : Nat) (act : State → PaneAt → State) : State :=
  let x := s.sash i
  match x.cfg.site with
  | none => s
  | some n =>
    if x.paneDue p op then
      let c : PaneAt := { sash := i, pane := p, k := x.k, w := x.fetch p x.k, site := n.val }
      if (pUsed c.w).any (x.awaits p) then s.beginStall n.val i .port
      else
        match s.checkOnce c with
        | (false, s) => s
        | (true, s) => act s c
    else s

/-- The value of operand field `f` for the pane. -/
def State.opv (s : State) (c : PaneAt) (f : Nat) : Bool := (s.sash c.sash).operand c.pane f

/-! ### NOP, LUT4, LUT3S, PROBE (R39, R40) -/

/-- PANE_NOP (R40). -/
def execPaneNop (sash : Fin 64) (pane : Fin 256) (s : State) : Out :=
  .next (s.pane sash.val pane.val 0 fun s c => s.paneResult c false)

/-- LUT4 (R39). -/
def execLut4 (sash : Fin 64) (pane : Fin 256) (s : State) : Out :=
  .next (s.pane sash.val pane.val 1 fun s c =>
    let i := b2n (s.opv c (pA c.w)) + 2 * b2n (s.opv c (pB c.w)) + 4 * b2n (s.opv c (pC c.w)) + 8 * b2n (s.opv c (pD c.w))
    s.paneResult c ((pTT c.w).testBit i))

/-- LUT3S (R39, R40, R55). -/
def execLut3s (sash : Fin 64) (pane : Fin 256) (s : State) : Out :=
  .next (s.pane sash.val pane.val 2 fun s c =>
    let i := b2n (s.opv c (pA c.w)) + 2 * b2n (s.opv c (pB c.w)) + 4 * b2n (s.opv c (pC c.w))
    let v := (pTT c.w).testBit i
    let s := s.modSash c.sash fun x => { x with shadow := tmod 0 x.shadow c.pane fun w => putBit w (pD c.w % 512) v }
    s.paneResult c v)

/-- PROBE (R40). -/
def execProbe (sash : Fin 64) (pane : Fin 256) (s : State) : Out :=
  .next (s.pane sash.val pane.val 0xC fun s c =>
    let v := s.opv c (pA c.w)
    (s.modSash c.sash fun x => { x with taps := putBit x.taps (pTT c.w % 32) v }).paneResult c v)

/-! ### Bundles (R53, R105, R107, R112, R117) -/

/-- SEND (R53, R105). -/
def execSend (sash : Fin 64) (pane : Fin 256) (s : State) : Out :=
  .next (s.pane sash.val pane.val 3 fun s c =>
    let v := s.opv c (pA c.w)
    let s := s.modSash c.sash fun x =>
      { x with outBuf := tmod 0 x.outBuf (pTT c.w % 64) fun b => putBit b (pB c.w % 512) v }
    s.paneResult c v)

/-- The bank a RECV of tag `t` reads in cycle `cyc` (R107). -/
def bankOf (t cyc : Nat) : Nat := 2 * t + cyc % 2

/-- A RECV takes its bit: poison is noted (R53, R117, R126). -/
def State.recvTake (s : State) (c : PaneAt) : State :=
  let t := pTT c.w % 64
  let x := s.sash c.sash
  let b := bankOf t (s.site c.site).cycle.toNat
  let v := getBit (tget 0 x.inBuf b) (pB c.w % 512)
  let rest := terase x.recvWait c.pane
  let s := s.setSash c.sash { x with recvWait := rest, stall := if rest.isEmpty && x.stall == some .bundle then none else x.stall }
  let s := if getBit x.inPoison b then s.pendSash c.sash Code.TF_RING_POISON c.pane t else s
  let s := if getBit x.inLinkPoison b then s.pendSash c.sash Code.TF_LINK_POISON c.pane t else s
  s.paneResult c v

/-- RECV (R53, R107): the arrived bit, or a BUNDLE stall. -/
def execRecv (sash : Fin 64) (pane : Fin 256) (s : State) : Out :=
  .next (s.pane sash.val pane.val 4 fun s c =>
    let x := s.sash c.sash
    let b := bankOf (pTT c.w % 64) (s.site c.site).cycle.toNat
    if getBit x.inFlag b || getBit x.inUnsat b then s.recvTake c
    else
      let s := s.beginStall c.site c.sash .bundle
      s.modSash c.sash fun x => { x with recvWait := tset 0 x.recvWait c.pane (max 1 (tget 0 x.recvWait c.pane)) })

/-! ### Scratchpad (R47 to R50) -/

/-- The indexed line lies outside the declared range (R48). -/
def Sash.outOfLines (x : Sash) (w : DWord) : Bool :=
  (pTT w).testBit 15 && (decide (x.memLine w < x.cfg.lineFirst) || decide (x.cfg.lineLast < x.memLine w))

/-- Note a line named in this step (R49). -/
def Sash.nameLine (x : Sash) (l : Nat) : Sash := if x.portLines.contains l then x else { x with portLines := x.portLines ++ [l] }

/-- The panes leave the port free in this step clock: no line of the step is being written or read, and every pane that could still name
one has executed or waits; and no other user has taken it (R49, R247). -/
def Sash.portFree (x : Sash) : Bool :=
  !x.portUsed && x.portStall == 0 && x.portLines.isEmpty && (x.phase != .step || x.todo.isEmpty || x.stall.isSome || x.pacing)

/-- MEMRD (R47, R48, R50): the bit lands later. -/
def execMemrd (sash : Fin 64) (pane : Fin 256) (s : State) : Out :=
  .next (s.pane sash.val pane.val 5 fun s c =>
    let x := s.sash c.sash
    let l := x.memLine c.w
    if x.outOfLines c.w then s.faultSashNow c.sash Code.TF_SCRATCH_BOUNDS c.pane l
    else
      let b := pC c.w % 256
      let v := getBit (BitVec.ofNat 256 (leNat (tslice 0 s.mem.bytes (padAddr c.sash (32 * l)) 32))) b &&
        s.mem.wordValid (padWord c.sash l + b / 64)
      let (_, bad, s) := s.padBit c.sash l b
      let s := if bad then s.pendSash c.sash Code.DI_POISON_READ c.pane (padAddr c.sash (32 * l)) else s
      let land : Landing :=
        { pane := c.pane, k := c.k, bit := v, left := (s.site c.site).img.scratchRead + 1, more := scratchActual + 1 }
      s.modSash c.sash fun x =>
        let x := (x.nameLine l).markDone c.pane
        { x with landings := x.landings ++ [land], results := putBit x.results c.pane false })

/-- MEMWR (R47 to R49): the bit is written at the end of the step. -/
def execMemwr (sash : Fin 64) (pane : Fin 256) (s : State) : Out :=
  .next (s.pane sash.val pane.val 6 fun s c =>
    let x := s.sash c.sash
    let l := x.memLine c.w
    if x.outOfLines c.w then s.faultSashNow c.sash Code.TF_SCRATCH_BOUNDS c.pane l
    else
      let v := s.opv c (pA c.w)
      let m : MemwPend := { pane := c.pane, line := l, bit := pC c.w % 256, val := v }
      let s := s.modSash c.sash fun x => { x.nameLine l with memw := x.memw ++ [m] }
      s.paneResult c v)

/-- MEMRD_LANDING (R50, R69): the bit lands in its net bit. -/
def execMemrdLanding (sash : Fin 64) (pane : Fin 256) (s : State) : Out :=
  .next
    (let x := s.sash sash.val
     match x.landings.find? fun l => l.pane == pane.val && l.due with
     | none => s
     | some l =>
       let y := x.writeNet l.pane l.k l.bit
       (s.setSash sash.val { y with landings := x.landings.erase l }).latchPane sash.val l.k l.pane l.bit)

/-! ### Pins (R43 to R46, R51, R224, R225, R234) -/

/-- Pin, code index and bit select of a PINOUT, PININ or pin-form CMP (R41). -/
def ttPin (w : DWord) : Nat := pTT w % 32
def ttCode (w : DWord) : Nat := bits (pTT w) 5 8
def ttSel (w : DWord) : Nat := bits (pTT w) 13 1

/-- SOURCE is the model (R215). -/
def Lane.source0 (l : Lane) : Bool := l.cfg.source == 0

/-- PINOUT (R46): one bit of a drive code; a sent code keeps its value and gives its logged bit (R234). -/
def execPinout (sash : Fin 64) (pane : Fin 256) (s : State) : Out :=
  .next (s.pane sash.val pane.val 7 fun s c =>
    let x := s.site c.site
    let l := s.lane c.sash
    let cyc := x.cycle.toNat
    let i := ttCode c.w
    let p := ttPin c.w
    let v := s.opv c (pA c.w)
    if 1 ≤ x.img.depth ∧ l.source0 = true ∧ l.sent x.c0 cyc i = true then
      let a := s.clogAddr c.site c.sash cyc
      let pos := 2 * (i * l.pins + p)
      let (bs, bad, s) := s.memRead (a + pos / 64 * 8) 8
      if bad then s.faultSashNow c.sash Code.DI_POISON_READ c.pane (x.img.clogFirst + cyc % (x.img.depth + 1) * l.clogLines + pos / 256)
      else s.paneResult c ((leNat bs).testBit (pos % 64 + ttSel c.w))
    else
      let ahead := x.img.depth == 0 && l.outq.any fun e => decide (e.cycle < cyc)
      let s := s.setLane c.sash { l with outq := outPut l.outq cyc i p (ttSel c.w) v }
      let s := if ahead then s.pendSash c.sash Code.TF_RUNAHEAD_OVERFLOW c.pane i else s
      s.paneResult c v)

/-- PININ (R51, R225, R234): the response's bit, a wait, or the speculated bit. -/
def execPinin (sash : Fin 64) (pane : Fin 256) (s : State) : Out :=
  .next (s.pane sash.val pane.val 8 fun s c =>
    let x := s.site c.site
    let l := s.lane c.sash
    let cyc := x.cycle.toNat
    let r := l.respOf x.c0 cyc (ttCode c.w) (ttPin c.w)
    let bitOf (r : BitVec 2) : Bool := getBit r (ttSel c.w)
    if x.img.depth = 0 then
      match r with
      | some r => s.paneResult c (bitOf r)
      | none => s.modSash c.sash fun x => { x with pacing := true }
    else
      match (if x.ra.replay then r else none) with
      | some r => s.paneResult c (bitOf r)
      | none =>
        let v := s.opv c (pA c.w)
        let sp : SpecBit := { cycle := cyc, code := ttCode c.w, pin := ttPin c.w, sel := ttSel c.w == 1, bit := v }
        let s := s.setLane c.sash { l with specs := l.specs ++ [sp] }
        (s.checkSpecs c.site c.sash).paneResult c v)

/-- Expect code of {C, B, A}; none for X and for the bad values 5 to 7 (R43). -/
def expectOf (v : Nat) : Option (BitVec 3) := if v ≤ 2 ∨ v = 4 then some (BitVec.ofNat 3 v) else none

/-- PANE_CMP_PIN (R43, R44): posts an expect. A word with TT[13] = 1 is the other form's. -/
def execPaneCmpPin (sash : Fin 64) (pane : Fin 256) (s : State) : Out :=
  .next
    (if ttSel ((s.sash sash.val).fetch pane.val (s.sash sash.val).k) = 1 then s
     else s.pane sash.val pane.val 9 fun s c =>
      let v := b2n (s.opv c (pA c.w)) + 2 * b2n (s.opv c (pB c.w)) + 4 * b2n (s.opv c (pC c.w))
      let s :=
        if 5 ≤ v then s.modSash c.sash fun x => { x with ctr := { x.ctr with badExpect := satInc x.ctr.badExpect } } else s
      if s.opv c (pD c.w) = false then s.paneResult c false
      else
        match expectOf v with
        | none => s.paneResult c false
        | some e =>
          let cyc := (s.site c.site).cycle.toNat
          let ex : Expect := { cycle := cyc, code := ttCode c.w, pin := ttPin c.w, want := e }
          let s := s.modLane c.sash fun l => { l with expects := l.expects ++ [ex] }
          let s := if (s.site c.site).img.depth = 0 then s.runCompares c.site c.sash (fun _ => true) else s
          s.paneResult c false)

/-- PANE_CMP_MODEL_CHECK (R31, R45, R251). -/
def execPaneCmpModelCheck (sash : Fin 64) (pane : Fin 256) (s : State) : Out :=
  .next
    (if ttSel ((s.sash sash.val).fetch pane.val (s.sash sash.val).k) = 0 then s
     else s.pane sash.val pane.val 9 fun s c =>
      let a := s.opv c (pA c.w)
      let b := s.opv c (pB c.w)
      let x := s.site c.site
      let r := failRec x.cycle.toNat (pTT c.w % 256) c.site (s.sash c.sash).cfg.index (b2n a) (b2n b) 3 0
      let s := if s.opv c (pD c.w) && a != b then s.noteModelCheck c.sash (x.cycle.toNat, c.k, c.pane, r) else s
      s.paneResult c (a != b))

/-! ### Word cells (R52, R86) -/

/-- WPUT (R52): the bit is set at the end of the step. -/
def execWput (sash : Fin 64) (pane : Fin 256) (s : State) : Out :=
  .next (s.pane sash.val pane.val 0xA fun s c =>
    let v := s.opv c (pA c.w)
    let q : WputPend := { pane := c.pane, cell := pTT c.w % 64, bit := bits (pTT c.w) 6 5, val := v }
    (s.modSash c.sash fun x => { x with wputs := x.wputs ++ [q] }).paneResult c v)

/-- WGET (R52): the output word's bit at the start of the step. -/
def execWget (sash : Fin 64) (pane : Fin 256) (s : State) : Out :=
  .next (s.pane sash.val pane.val 0xB fun s c =>
    let cell := tget {} (s.sash c.sash).cells (pTT c.w % 64)
    s.paneResult c (getBit cell.outWord (bits (pTT c.w) 6 5)))

end Sys2Proof.Machine
end

