-- ==== Sys2Proof/Machine/WordCells.lean ====
section
/-! DEFINITION. The word-cell instructions (chapter 03): one meaning per row, over one shared step of a cell. -/

namespace Sys2Proof.Machine

/-- What a word-cell row works on: sash, cell, site, the entry, the cell as it entered the step, and operands A and B. -/
structure CellAt where
  sash : Nat
  cell : Nat
  site : Nat
  w : Word
  a : Word
  b : Word

def Sash.cell (x : Sash) (c : Nat) : WordCell := tget {} x.cells c
def Sash.setCell (x : Sash) (c : Nat) (v : WordCell) : Sash := { x with cells := tset {} x.cells c v }
def State.modCell (s : State) (i c : Nat) (f : WordCell → WordCell) : State :=
  s.modSash i fun x => x.setCell c (f (x.cell c))

/-- The entry the cell executes next (R73). -/
def WordCell.entry (c : WordCell) : Word := tget 0 c.entries c.pc.toNat

/-- LEN from 1 to 8: the cell executes (R73). -/
def WordCell.live (c : WordCell) : Bool := decide (1 ≤ c.len.toNat) && decide (c.len.toNat ≤ 8)

/-- Descriptor value of WCELL_MUL (R167). -/
def State.mulActual (s : State) : Nat := if s.id.b0 then 2 else 3
/-- Contract value of WCELL_MUL; the descriptor's where the image has no entry (R81, R136). -/
def State.mulContract (s : State) (n : Nat) : Nat := (s.site n).img.contractOr 5 0 s.mulActual

/-- The operation reads operand A, register RA (R80). -/
def opReadsA (op : Nat) : Bool := decide (1 ≤ op ∧ op ≤ 13) || op == 0x0F || op == 0x11
/-- The operation reads operand B (R80). -/
def opReadsB (op : Nat) : Bool := decide (1 ≤ op ∧ op ≤ 0x12) || op == 0x14 || op == 0x15

/-- The entry takes register `r` as operand A or B (R81). -/
def readsReg (w : Word) (r : Nat) : Bool :=
  (opReadsA (wOpc w) && wRA w == r) || (opReadsB (wOpc w) && !wI w && !wBW w && wRB w == r)

/-- The cell's entry reads a product at or after the contracted latency and before the landing (R81). -/
def Sash.cellAwaits (x : Sash) (contract c : Nat) : Bool :=
  let v := x.cell c
  v.live && !v.done && v.pred (wPred v.entry) (v.pace x.paceFlag) &&
    v.muls.any fun m => decide (contract ≤ m.age) && readsReg v.entry m.rd.toNat

/-- The word cells of the sash hold until a product lands (R81). -/
def Sash.mulHold (x : Sash) (contract : Nat) : Bool := (List.range 64).any (x.cellAwaits contract)

/-- The word cells and the pace generator hold with the sash's panes (R76). -/
def Sash.boundHold (x : Sash) : Bool := x.stall.isSome && !x.cfg.free

/-- A bound sash at H1 waits for a late sash of its site, of this unit or of another, and its word cells hold with it
(R59, R76, R175). -/
def State.lateWait (s : State) (n i : Nat) : Bool :=
  (s.sash i).phase == .arrived && !(s.sash i).cfg.free &&
    ((s.site n).arriveLate || !(s.siteSashes n).all fun j => (s.sash j).phase == .arrived)

/-- Word cells take steps. -/
def State.cellsRun (s : State) (n i : Nat) : Bool := (s.sash i).wrun && !(s.sash i).boundHold && !s.lateWait n i

/-- Drive wire `n` of sash `i`: gated by its enable and by contention; a second driver disables the wire (R88 to R90). -/
def State.driveWire (s : State) (i n driver : Nat) (v : Word) : State :=
  let x := s.sash i
  let en := if driver = 64 then getBit (tget 0 x.wen n) 64 else getBit (tget 0 x.wen n) driver
  if !en || getBit x.wrec.contendWires n then s
  else if x.drives.any fun d => d.1 == n && d.2.1 != driver then
    let r := { x.wrec with
      contendWires := putBit x.wrec.contendWires n true
      contendStep := if x.wrec.contendWires = 0 then x.wrec.wstep else x.wrec.contendStep }
    (s.setSash i { x with drives := x.drives.filter (·.1 != n), wrec := r }).pendSash i Code.TF_WIRE_CONTENTION 0xFF n
  else s.setSash i { x with drives := x.drives.filter (·.1 != n) ++ [(n, driver, v)] }

/-- The result of an executed entry: RD, and wire WS with DV (R78, R80). -/
def State.cellResult (s : State) (c : CellAt) (r : Word) (flags : WordCell → WordCell) : State :=
  let s := s.modCell c.sash c.cell fun v =>
    let v := flags v
    { v with
      regs := tset 0 v.regs (wRD c.w) r
      wrote := putBit v.wrote (wRD c.w) true
      drove := if wDV c.w then putBit v.drove (wWS c.w) true else v.drove }
  if wDV c.w then s.driveWire c.sash (wWS c.w) c.cell r else s

/-- A parity error in an entry read for execution: the site faults at once (R91). -/
def State.cellParity (s : State) (i c : Nat) : State :=
  let s := s.modSash i fun x =>
    { x with wrec := { x.wrec with parityCell := if x.wrec.parityCell = 0xFF then BitVec.ofNat 8 c else x.wrec.parityCell } }
  s.faultSashNow i Code.DI_WCELL_PARITY c 0

/-- The step every word-cell row shares: the entry at PC, its parity, PC's advance, the predicate, then `act` (R73, R74). -/
def State.wcell (s : State) (i c op : Nat) (act : State → CellAt → State) : State :=
  let x := s.sash i
  let v := x.cell c
  let w := v.entry
  match x.cfg.site with
  | none => s
  | some n =>
    if s.cellsRun n.val i && v.live && !v.done && wOpc w == op && !x.mulHold (s.mulContract n.val) then
      if getBit v.parityBad v.pc.toNat then s.cellParity i c
      else
        let s := s.setSash i
          (x.setCell c { v with done := true, pc := BitVec.ofNat 3 ((v.pc.toNat + 1) % v.len.toNat), wrote := 0, drove := 0 })
        if v.pred (wPred w) (v.pace x.paceFlag) then
          act s { sash := i, cell := c, site := n.val, w := w, a := v.reg (wRA w), b := x.wB v w }
        else s
    else s

/-- A row with a single-step result and the flags `fl` sets. -/
def State.wcellAlu (s : State) (i c op : Nat) (f : Word → Word → Word) (fl : Word → Word → WordCell → WordCell) : State :=
  s.wcell i c op fun s a => s.cellResult a (f a.a a.b) (fl a.a a.b)

/-- WC_NOP (R80). -/
def execWcNop (sash cell : Fin 64) (s : State) : Out := .next (s.wcell sash.val cell.val 0x00 fun s _ => s)

/-- WC_ADD (R80). -/
def execWcAdd (sash cell : Fin 64) (s : State) : Out :=
  .next (s.wcellAlu sash.val cell.val 0x01 (fun a b => a + b) fun a b v => v.addFlags a b)

/-- WC_SUB (R80). -/
def execWcSub (sash cell : Fin 64) (s : State) : Out :=
  .next (s.wcellAlu sash.val cell.val 0x02 (fun a b => a - b) fun a b v => v.subFlags a b)

/-- WC_AND (R80). -/
def execWcAnd (sash cell : Fin 64) (s : State) : Out :=
  .next (s.wcellAlu sash.val cell.val 0x03 (fun a b => a &&& b) fun _ _ v => v)

/-- WC_OR (R80). -/
def execWcOr (sash cell : Fin 64) (s : State) : Out :=
  .next (s.wcellAlu sash.val cell.val 0x04 (fun a b => a ||| b) fun _ _ v => v)

/-- WC_XOR (R80). -/
def execWcXor (sash cell : Fin 64) (s : State) : Out :=
  .next (s.wcellAlu sash.val cell.val 0x05 (fun a b => a ^^^ b) fun _ _ v => v)

/-- WC_ANDN (R80). -/
def execWcAndn (sash cell : Fin 64) (s : State) : Out :=
  .next (s.wcellAlu sash.val cell.val 0x06 (fun a b => a &&& ~~~ b) fun _ _ v => v)

/-- Shift amount B[4:0]. -/
def shAmt (b : Word) : Nat := b.toNat % 32

/-- WC_SHL (R80). -/
def execWcShl (sash cell : Fin 64) (s : State) : Out :=
  .next (s.wcellAlu sash.val cell.val 0x07 (fun a b => a <<< shAmt b) fun _ _ v => v)

/-- WC_SHR (R80). -/
def execWcShr (sash cell : Fin 64) (s : State) : Out :=
  .next (s.wcellAlu sash.val cell.val 0x08 (fun a b => a >>> shAmt b) fun _ _ v => v)

/-- WC_SAR (R80). -/
def execWcSar (sash cell : Fin 64) (s : State) : Out :=
  .next (s.wcellAlu sash.val cell.val 0x09 (fun a b => a.sshiftRight (shAmt b)) fun _ _ v => v)

/-- WC_ROL (R80). -/
def execWcRol (sash cell : Fin 64) (s : State) : Out :=
  .next (s.wcellAlu sash.val cell.val 0x0A (fun a b => a.rotateLeft (shAmt b)) fun _ _ v => v)

/-- A multiply leaves with its product in flight (R80, R81). -/
def State.startMul (s : State) (c : CellAt) (p : Word) : State :=
  s.modCell c.sash c.cell fun v =>
    { v with
      muls := v.muls ++ [{ rd := BitVec.ofNat 4 (wRD c.w), value := p, drive := if wDV c.w then some (BitVec.ofNat 3 (wWS c.w)) else none,
                           age := 0, clk := 0, landed := false }] }

/-- WC_MULU (R80, R81). -/
def execWcMulu (sash cell : Fin 64) (s : State) : Out :=
  .next (s.wcell sash.val cell.val 0x0B fun s a => s.startMul a (BitVec.ofNat 32 (a.a.toNat % 65536 * (a.b.toNat % 65536))))

/-- WC_MULS (R80, R81). -/
def execWcMuls (sash cell : Fin 64) (s : State) : Out :=
  .next (s.wcell sash.val cell.val 0x0C fun s a => s.startMul a (BitVec.ofInt 32 (sext a.a.toNat 16 * sext a.b.toNat 16)))

/-- A product is in its last latency step, and what the cell executes in that step, if anything, has been executed. A product
lands no earlier than the contracted number of word-cell steps, and no earlier than the multiplier has it; a hold of R81 ends no
word-cell step (R81, R170). -/
def State.mulDue (s : State) (n i c : Nat) : Option MulPend :=
  let v := (s.sash i).cell c
  let hold := (s.sash i).mulHold (s.mulContract n)
  if s.cellsRun n i && (v.done || !v.live || hold) then
    v.muls.find? fun m =>
      !m.landed && decide (s.mulContract n ≤ if hold then m.age else m.age + 1) && decide (s.mulActual ≤ m.clk + 1)
  else none

/-- MUL_PRODUCT_LAND (R80, R81): the product lands and drives its wire, unless a later instruction of the step wrote the
register; a wire the later instruction drove keeps its value. -/
def execMulProductLand (sash cell : Fin 64) (s : State) : Out :=
  .next
    (let x := s.sash sash.val
     match x.cfg.site with
     | none => s
     | some n =>
       match s.mulDue n.val sash.val cell.val with
       | none => s
       | some m =>
         let v := x.cell cell.val
         let rest := v.muls.map fun k => if k = m then { k with landed := true } else k
         if v.done && getBit v.wrote m.rd.toNat then s.modCell sash.val cell.val fun v => { v with muls := rest }
         else
           let s := s.modCell sash.val cell.val fun v => { v with muls := rest, regs := tset 0 v.regs m.rd.toNat m.value }
           match m.drive with
           | some n => if v.done && getBit v.drove n.toNat then s else s.driveWire sash.val n.toNat cell.val m.value
           | none => s)

/-- WC_CMP (R80). -/
def execWcCmp (sash cell : Fin 64) (s : State) : Out :=
  .next (s.wcell sash.val cell.val 0x0D fun s a => s.modCell a.sash a.cell fun v => v.subFlags a.a a.b)

/-- WC_MOV (R80). -/
def execWcMov (sash cell : Fin 64) (s : State) : Out :=
  .next (s.wcellAlu sash.val cell.val 0x0E (fun _ b => b) fun _ _ v => v)

/-- The low `n` bits of `b` in reversed order (R80). -/
def brev (n : Nat) (b : Word) : Word :=
  BitVec.ofNat 32 ((List.range n).foldl (fun r i => r + b2n (getBit b i) * 2 ^ (n - 1 - i)) 0)

/-- n of BREV: A[5:0], with 0 and more than 32 counting as 32 (R80). -/
def brevLen (a : Word) : Nat := let n := a.toNat % 64; if n = 0 ∨ 32 < n then 32 else n

/-- WC_BREV (R80). -/
def execWcBrev (sash cell : Fin 64) (s : State) : Out :=
  .next (s.wcellAlu sash.val cell.val 0x0F (fun a b => brev (brevLen a) b) fun _ _ v => v)

/-- Bit `i` of SCR: B[SRC_i] XOR INV_i, or INV_i when SRC_i is 0x20 (R80, R92). -/
def scrBit (t : Tab (BitVec 8)) (b : Word) (i : Nat) : Bool :=
  let e := tget 0 t i
  xor (decide (bits e.toNat 0 6 < 32) && getBit b (bits e.toNat 0 6)) (getBit e 6)

/-- WC_SCR (R80). -/
def execWcScr (sash cell : Fin 64) (s : State) : Out :=
  .next (s.wcell sash.val cell.val 0x10 fun s a =>
    let t := ((s.sash a.sash).cell a.cell).scr
    s.cellResult a (BitVec.ofNat 32 ((List.range 32).foldl (fun r i => r + b2n (scrBit t a.b i) * 2 ^ i) 0)) id)

/-- Number of ones (R80). -/
def popc (x : Word) : Word := BitVec.ofNat 32 ((List.range 32).foldl (fun r i => r + b2n (getBit x i)) 0)

/-- WC_POPC (R80). -/
def execWcPopc (sash cell : Fin 64) (s : State) : Out :=
  .next (s.wcellAlu sash.val cell.val 0x11 (fun a b => popc (a &&& b)) fun a b v => v.zFlag (popc (a &&& b)))

/-- Number of leading zeros, 0 to 32 (R80). -/
def clzOf (x : Word) : Word := BitVec.ofNat 32 (if x = 0 then 32 else 31 - Nat.log2 x.toNat)

/-- WC_CLZ (R80). -/
def execWcClz (sash cell : Fin 64) (s : State) : Out :=
  .next (s.wcellAlu sash.val cell.val 0x12 (fun _ b => clzOf b) fun _ b v => v.zFlag (clzOf b))

/-- WC_IN (R80, R86). -/
def execWcIn (sash cell : Fin 64) (s : State) : Out :=
  .next (s.wcell sash.val cell.val 0x13 fun s a => s.cellResult a ((s.sash a.sash).cell a.cell).inWord id)

/-- WC_OUT (R80, R86): the output word takes B at the end of the step. -/
def execWcOut (sash cell : Fin 64) (s : State) : Out :=
  .next (s.wcell sash.val cell.val 0x14 fun s a => s.modCell a.sash a.cell fun v => { v with outPend := some a.b })

/-- WC_MAL (R80, R87): MALn takes B[14:0] at the end of the step. -/
def execWcMal (sash cell : Fin 64) (s : State) : Out :=
  .next (s.wcell sash.val cell.val 0x15 fun s a =>
    s.modSash a.sash fun x => { x with malPend := x.malPend ++ [(a.cell, wRD a.w % 4, BitVec.ofNat 15 a.b.toNat)] })

end Sys2Proof.Machine
end

