-- ==== Sys2Proof/Machine/TrigOps.lean ====
section
/-! DEFINITION. The trigger unit (chapter 10): conditions, records, triggering and its actions. -/

namespace Sys2Proof.Machine

/-- STATE numbering of R283. -/
def TrigState.code : TrigState → Nat
  | .disarmed => 0 | .ready => 1 | .post => 2 | .done => 3

/-! ### Conditions (R272, R273) -/

/-- The window of an engine: a count inside, or outside without INSIDE (R273). -/
def TrigEngine.window (e : TrigEngine) (n : Nat) : Bool :=
  if getBit e.opt 2 then decide (e.min ≤ n) && decide (n ≤ e.max) else decide (n < e.min) || decide (e.max < n)

/-- The positive or rising form is selected; the negative form (R273). -/
def TrigEngine.positive (e : TrigEngine) : Bool := getBit e.opt 1 || !getBit e.opt 0
def TrigEngine.negative (e : TrigEngine) : Bool := getBit e.opt 1 || getBit e.opt 0

/-- The form a pulse or an arrival at level `v` belongs to is selected: H positive, L negative (R273). -/
def TrigEngine.form (e : TrigEngine) (v : BitVec 2) : Bool := (v == 1 && e.positive) || (v == 0 && e.negative)

/-- A PWIDTH count hits at once when it reaches MAX + 1 with INSIDE = 0 (R273). -/
def TrigEngine.over (e : TrigEngine) (v : BitVec 2) (n : Nat) : Bool := !getBit e.opt 2 && e.form v && n == e.max + 1

/-- One slot of a level condition, from the pin's kept level `lv` to level `v`, and whether the engine hits (R272, R273). -/
def TrigEngine.level1 (e : TrigEngine) (lv : Option (BitVec 2)) (v : BitVec 2) : TrigEngine × Bool :=
  match lv with
  | none => ({ e with before := none, count := 1, hitDone := e.cond == 1 && e.over v 1 }, e.cond == 1 && e.over v 1)
  | some u =>
    if u = v then
      let n := e.count + 1
      let h := e.cond == 1 && !e.hitDone && e.over v n
      ({ e with count := n, hitDone := e.hitDone || h }, h)
    else
      let ended := e.cond == 1 && !e.hitDone && e.form u && e.window e.count
      let runt := e.cond == 2 && u == 2 && e.before == some v && ((v == 0 && e.positive) || (v == 1 && e.negative))
      let far := v != 2 && e.form v
      let slew := e.cond == 4 && far &&
        ((u != 2 && e.window 0) || (u == 2 && e.before.isSome && e.before != some v && e.window e.count))
      let now := e.cond == 1 && e.over v 1
      ({ e with before := some u, count := 1, hitDone := now }, ended || runt || slew || now)

/-- One slot of an engine's pin: `lv` the pin's kept level, `prev` its code in the slot before; a code 0b11 gives no level (R272, R273). -/
def TrigEngine.step (e : TrigEngine) (lv : Option (BitVec 2)) (prev r : BitVec 2) : TrigEngine × Bool :=
  match e.cond.toNat with
  | 3 =>
    let n := if prev = r then e.count + 1 else 0
    let hit := prev == r && (lv.isSome || r != 3) && decide (e.min ≤ n)
    ({ e with count := if hit then 0 else n }, hit)
  | 5 => (e, r == 3 && lv.isSome)
  | 0 => (e, false)
  | _ => if r = 3 then (match lv with | some v => e.level1 lv v | none => (e, false)) else e.level1 lv r

/-- A count in progress is discarded (R282). -/
def TrigEngine.restart (e : TrigEngine) : TrigEngine := { e with count := 0, hitDone := false, before := none }

/-! ### Fields (R281, R282, R458) -/

/-- An engine record as at TRIGCFG offset 0x040 + 16e (R281). -/
def engineOf (v : Nat) : TrigEngine :=
  { cond := BitVec.ofNat 8 v, pin := bits v 8 5, opt := BitVec.ofNat 8 (bits v 16 8), min := bits v 32 32, max := bits v 64 32 }

/-- Write one H-class field (R282, R458). -/
def Trig.setField (t : Trig) (field v : Nat) : Trig :=
  let c := t.cfg
  match field with
  | 0x01 => { t with cfg := { c with engmask := BitVec.ofNat 4 v } }
  | 0x02 => { t with cfg := { c with sitex := bit v 2, exten := bit v 3 } }
  | 0x03 => { t with cfg := { c with listen := BitVec.ofNat 8 v } }
  | 0x04 => { t with cfg := { c with holdoff := v % 2 ^ 48 } }
  | 0x05 => { t with cfg := { c with action := BitVec.ofNat 32 v } }
  | _ => { t with eng := tset {} t.eng (field % 4) (engineOf v) }

/-- Apply the staged fields that govern a frame whose slot 0 belongs to cycle `c` (R282). -/
def Trig.applyStaged (t : Trig) (c : Nat) : Trig :=
  let t' := (t.staged.filter fun e => decide (e.1 ≤ c)).foldl (fun t e => t.setField e.2.1.toNat e.2.2.toNat) t
  { t' with staged := t.staged.filter fun e => !decide (e.1 ≤ c) }

/-! ### Records (R275, R276) -/

/-- A trigger record (R275). -/
def trigRec (cycle slot pin new old kind lane info count : Nat) : Rec16 :=
  BitVec.ofNat 128 (count % 2 ^ 32 + info % 256 * 2 ^ 32 + lane % 64 * 2 ^ 42 + kind % 8 * 2 ^ 48 + old % 4 * 2 ^ 51 +
    new % 4 * 2 ^ 53 + pin % 32 * 2 ^ 55 + slot % 2 ^ 20 * 2 ^ 60 + cycle % 2 ^ 48 * 2 ^ 80)

/-- KIND of a trigger record. -/
def trKind (r : Rec16) : Nat := bits r.toNat 48 3
/-- CYCLE and SLOT of a trigger record as one number. -/
def trPlace (r : Rec16) : Nat := bits r.toNat 60 68

/-- The gap record that losses before the next record owe (R275, R276). -/
def Trig.gapRec (t : Trig) (lane : Nat) : List Rec16 :=
  match t.gap with
  | some (n, gc, gs) => [trigRec gc gs 0 0 0 3 lane 0 (min n (2 ^ 32 - 1))]
  | none => []

/-- The gap record has been formed. -/
def Trig.gapDone (t : Trig) : Trig := { t with gap := none, gaps := t.gaps || t.gap.isSome }

/-- Enter a transition into the 64-record FIFO, behind a gap record after losses, or count its loss on a full FIFO (R276). The gap record
takes no place of the 64 (DESIGN CHOICE, log entry 91). -/
def Trig.enter (t : Trig) (lane cycle slot : Nat) (r : Rec16) : Trig :=
  if t.fifo.length < 64 then { t.gapDone with fifo := t.fifo ++ t.gapRec lane ++ [r] }
  else
    { t with
      lost := satInc t.lost
      gap := some (match t.gap with | none => (1, cycle, slot) | some (n, gc, gs) => (n + 1, gc, gs)) }

/-- Insert a record after the records of its slot (R275, R280). -/
def insertMark (m : Rec16) : List Rec16 → List Rec16
  | [] => [m]
  | r :: rs => if trPlace r ≤ trPlace m then r :: insertMark m rs else m :: r :: rs

/-- The records formed and kept, in formation order: stored, staged, in the FIFO. -/
def Trig.formed (t : Trig) : List Rec16 := t.store.map (·.2) ++ t.stage.map (·.2) ++ t.fifo

/-- Insert a record behind those of its slot: later ones each move up one place, and the last stored one goes back to the FIFO's front
(R275, R280). -/
def Trig.insert (t : Trig) (m : Rec16) : Trig :=
  let rs := insertMark m t.formed
  let k := t.store.length
  let j := t.stage.length
  { t with
    store := (t.store.map (·.1)).zip (rs.take k)
    stage := (t.stage.map (·.1)).zip ((rs.drop k).take j)
    fifo := rs.drop (k + j) }

/-- The mark takes its place, behind the gap record of losses before it; it is never lost (R275, R276; DESIGN CHOICE, log entry 91). -/
def Trig.mark (t : Trig) (lane : Nat) (m : Rec16) : Trig :=
  let due := match t.gap with | some (_, gc, gs) => decide (gc * 2 ^ 20 + gs ≤ trPlace m) | none => false
  ((if due then (t.gapRec lane).foldl Trig.insert t.gapDone else t)).insert m

/-- Records before and after the mark. -/
def beforeMark (l : List Rec16) : Nat := (l.takeWhile fun r => trKind r != 2).length
def afterMark (l : List Rec16) : Nat := l.length - beforeMark l - 1

/-- Capacity in records (R277). -/
def Trig.capacity (t : Trig) : Nat := max 1 (if t.cfg.spill then t.cfg.acqLen / 16 else 2 * t.cfg.tbufLines)

/-- The place that the next record of the store takes. -/
def Trig.next (t : Trig) : Nat := if t.cfg.spill then t.sent else t.written

/-- Records that the circular store still holds: none that a later line has overwritten (R277). -/
def Trig.held (t : Trig) : List (Nat × Rec16) := t.store.filter fun e => decide (t.next ≤ e.1 + t.capacity)

/-- Keep PRE records before the mark and POST after it, and set the counts and the pointer; with POST stored the acquisition is DONE
(R277, R278, R283). -/
def Trig.trim (t : Trig) : Trig :=
  let st := t.held
  let all := st.map (·.2) ++ t.stage.map (·.2)
  let pre := beforeMark all
  let cut := pre - t.cfg.pre
  let rest := pre - min cut st.length + 1 + t.cfg.post
  let st := st.drop cut
  let marked := all.any fun r => trKind r == 2
  let full := marked && decide (t.cfg.post ≤ afterMark all)
  { t with
    store := st.take rest
    stage := t.stage.take (rest - st.length)
    fifo := if full then [] else t.fifo
    preStored := BitVec.ofNat 32 (min pre t.cfg.pre)
    postStored := BitVec.ofNat 32 (if marked then min (afterMark all) t.cfg.post else 0)
    startPtr := BitVec.ofNat 64 ((match st with | (p, _) :: _ => p | [] => t.next) % t.capacity * 16)
    state := if full && t.state == .post then .done else t.state }

/-- A run begins at a new origin: the slot grid, the levels and the counts start again (R271, R272, R273). -/
def Trig.newRun (t : Trig) : Trig := { t with slot := 0, prev := [], level := [], ext := none, eng := tmapv {} (fun _ e => e.restart) t.eng }

/-! ### Firing (R274, R278, R279, R280) -/

/-- Bytes 0x00 to 0x3F of the status record (R283). -/
def Trig.record (t : Trig) (lane : Nat) : List Byte :=
  leBytes lane 1 ++ leBytes (t.state.code + b2n t.notrig * 8 + b2n t.gaps * 16) 1 ++ [t.info, 0] ++ leBytes t.preStored.toNat 4 ++
    leBytes t.postStored.toNat 4 ++ leBytes t.lost.toNat 4 ++ leBytes t.trigCycle.toNat 8 ++ leBytes t.trigSlot.toNat 4 ++
    leBytes t.hits.toNat 4 ++ leBytes t.trigTs.toNat 16 ++ leBytes t.startPtr.toNat 8 ++ List.replicate 8 0

/-- A trigger pulse of `w` steps on the TIME_OUT pins of a mask; it rises 16 steps after the decision (R279). -/
def State.toutPulse (s : State) (i mask w : Nat) : State :=
  let at_ := s.power.steps + 16
  (List.range 4).foldl
    (fun s p =>
      if bit mask p then
        { s with
          time :=
            { s.time with toutTrig := tmod [] s.time.toutTrig p fun l => l ++ [(i, at_, at_ + w)] } }
      else s) s

/-- A trigger's HALT acts as a STOP command to its site, which also cancels a pending START_AT (R279, R454). -/
def State.triggerHalt (s : State) (n : Nat) : State := (s.askHalt n).cancelStartAt n

/-- The actions of unit `i` of site `n` (R279). -/
def State.triggerActions (s : State) (n i : Nat) : State :=
  let t := s.trig i
  let a := t.cfg.action.toNat
  let s := if bit a 0 then s.triggerHalt n else s
  let s :=
    if bit a 2 then (List.range 16).foldl (fun s m => if getBit t.cfg.xsites m && m != n then s.askHalt m else s) s else s
  let s := if bit a 1 then s.post 0x06 Code.ST_OK n i 0 ((t.record i).take 32) else s
  let s := s.toutPulse i (bits a 20 4) (bits a 8 12)
  if bit a 3 then s.send (s.frame ftEvent uaBroadcast 0 (eventPayload 3 (bits a 24 8) 0 0 0)) else s

/-- A trigger signal of unit `i` enters the keyhole tree, stretched to KDIV steps: 0 fired, 1 + e a hit of engine e (R502, R503). -/
def State.keySignal (s : State) (i sel : Nat) : State :=
  let key := s.power.key
  { s with power := { s.power with key := { key with sig := tset 0 key.sig (i * 8 + sel) s.power.clk.kdiv } } }

/-- Unit address of a place of the trigger buffer, and of a place of unit `i`'s store (R277). -/
def State.bufPlace (s : State) (i p : Nat) : Nat :=
  let c := (s.trig i).cfg
  padAddr i (32 * c.tbufFirst + p % max 1 (2 * c.tbufLines) * 16)
def State.storePlace (s : State) (i p : Nat) : Nat :=
  let t := s.trig i
  if t.cfg.spill then t.cfg.acqBase + p % t.capacity * 16 else s.bufPlace i p

/-- Records of `l` that differ from those of `old` are written at their places. -/
def State.rewrite (s : State) (at_ : Nat → Nat) (old l : List (Nat × Rec16)) : State :=
  (l.filter fun e => !old.contains e).foldl (fun s e => s.memWrite (at_ e.1) (leBytes e.2.toNat 16)) s

/-- Unit `i` takes the records of `t`: a mark put before stored records rewrites their places (R280; DESIGN CHOICE, log entry 92). -/
def State.takeRecs (s : State) (i : Nat) (t : Trig) : State :=
  let u := s.trig i
  ((s.setTrig i t).rewrite (s.storePlace i) u.store t.store).rewrite (s.bufPlace i) u.stage t.stage

/-- The code of pin `p` in grid slot `g`, and in the slot before; before the first, 0b10 (R271, R275). -/
def Lane.gridCode (l : Lane) (g p : Nat) : BitVec 2 := (l.respAt (g + l.offset p) p).getD 2
def Lane.codeBefore (l : Lane) (g p : Nat) : BitVec 2 := if g = 0 then 2 else l.gridCode (g - 1) p

/-- The mark record of unit `i` at a grid slot, with the codes of pin `p` (R275). -/
def State.markRec (s : State) (n i grid info p : Nat) : Rec16 :=
  let l := s.lane i
  let per := l.cfg.k * l.cfg.rpt
  trigRec ((s.site n).c0 + grid / per) (grid % per) p (l.gridCode grid p).toNat (l.codeBefore grid p).toNat 2 i info 0

/-- Unit `i` triggers at grid slot `grid`: POST, its mark behind that slot's records, its actions (R274, R275, R278, R279). -/
def State.fireUnit (s : State) (n i grid info p : Nat) : State :=
  let per := (s.lane i).cfg.k * (s.lane i).cfg.rpt
  let t := (s.trig i).mark i (s.markRec n i grid info p)
  let t := { t with
    state := .post
    info := BitVec.ofNat 8 info
    trigGrid := grid
    trigCycle := BitVec.ofNat 48 ((s.site n).c0 + grid / per)
    trigSlot := BitVec.ofNat 20 (grid % per)
    trigTs := s.stamp
    ext := none }
  (((s.takeRecs i t).modTrig i Trig.trim).keySignal i 0).triggerActions n i

/-- External triggers of one unit: the earliest slot stands, and those of one slot join (R274, R284). -/
def joinExt (e : Option (Nat × Nat)) (grid info : Nat) : Nat × Nat :=
  match e with
  | none => (grid, info)
  | some (g, k) => if grid < g then (grid, info) else if grid = g then (g, k ||| info) else (g, k)

/-- An external trigger of unit `i` at a grid slot (R280, R458): at a slot already decoded the unit fires at once; otherwise when the slot
has been decoded, together with hits in it. Only a READY unit takes it. -/
def State.fireExternal (s : State) (n i grid info : Nat) : State :=
  let t := s.trig i
  if t.state ≠ .ready then s
  else if grid < t.slot then s.fireUnit n i grid info 0
  else s.setTrig i { t with ext := some (joinExt t.ext grid info) }

/-- A unit's trigger with SITEX triggers every other READY unit of the site with EXTEN (R280). -/
def State.fireSite (s : State) (n i grid : Nat) : State :=
  if (s.trig i).cfg.sitex then
    (s.siteSashes n).foldl
      (fun s j => if j != i && (s.trig j).cfg.exten then s.fireExternal n j grid 0x10 else s) s
  else s

/-! ### One grid slot (R271, R275) -/

/-- The lowest hitting engine's pin. -/
def Trig.hitPin (t : Trig) (hits : Nat) : Nat :=
  match (List.range 4).find? (bit hits) with
  | some e => (tget {} t.eng e).pin
  | none => 0

/-- Step every engine of pin `p` by code `r`: the unit and the mask of hits of enabled engines. -/
def Trig.engines (t : Trig) (p : Nat) (r : BitVec 2) : Trig × Nat :=
  (List.range 4).foldl
    (fun (t, h) e =>
      let g := tget {} t.eng e
      if g.pin = p ∧ g.cond ≠ 0 then
        let (g, hit) := g.step (tget none t.level p) (tget 2 t.prev p) r
        ({ t with eng := tset {} t.eng e g }, if hit && getBit t.cfg.engmask e then h + 2 ^ e else h)
      else (t, h)) (t, 0)

/-- Pin `p` holds code `r` in a slot: its engines, its transition record and its kept level (R272, R275). -/
def Trig.pinSlot (t : Trig) (lane cycle slot p : Nat) (r : BitVec 2) : Trig × Nat :=
  let (t, h) := t.engines p r
  let old := tget 2 t.prev p
  let rec_ := t.state == .ready || t.state == .post
  let t :=
    if rec_ && getBit t.cfg.capmask p && old != r then t.enter lane cycle slot (trigRec cycle slot p r.toNat old.toNat 1 lane 0 0)
    else t
  ({ t with prev := tset 2 t.prev p r, level := if r = 3 then t.level else tset none t.level p (some r) }, h)

/-- POST_SLOTS grid slots after the trigger slot have passed before slot `g` (R278; that the last of them is recorded is DEDUCED, log
entry 93). -/
def Trig.postOver (t : Trig) (g : Nat) : Bool := t.state == .post && t.cfg.postSlots != 0 && decide (t.trigGrid + t.cfg.postSlots < g)

/-- Decode grid slot `g` of unit `i`: every pin's code, then the trigger, local or external, or the count of later hits (R274, R275, R278,
R280). -/
def State.trigSlot (s : State) (n i g : Nat) : State :=
  let l := s.lane i
  let per := l.cfg.k * l.cfg.rpt
  let c := (s.site n).c0 + g / per
  let t0 := s.trig i
  let t0 := if t0.postOver g then { t0 with state := .done } else t0
  let t0 := if g % l.spf = 0 then t0.applyStaged c else t0
  let (t, hits) := (List.range l.pins).foldl
    (fun (t, h) p => let (t, k) := t.pinSlot i c (g % per) p (l.gridCode g p); (t, h + k)) (t0, 0)
  let t := { t with slot := g + 1 }
  let s := (List.range 4).foldl (fun s e => if bit hits e then s.keySignal i (1 + e) else s) (s.setTrig i t)
  let own := if t.cfg.holdoff ≤ g then hits else 0
  let ext := match t.ext with | some (k, info) => if k ≤ g then info else 0 | none => 0
  if t.state = .ready then
    (if own + ext = 0 then s else (s.fireUnit n i g (own ||| ext) (if own = 0 then 0 else t.hitPin own)).fireSite n i g)
  else if t.state = .post ∨ (t.state = .done ∧ t.notrig = false) then
    s.setTrig i { t with hits := satAdd t.hits ((List.range 4).countP (bit hits)) }
  else s

/-- Every pin's response of grid slot `g` is decoded (R271). -/
def Lane.slotReady (l : Lane) (g : Nat) : Bool := (List.range l.pins).all fun p => (l.respAt (g + l.offset p) p).isSome

/-- Decode the grid slots whose responses are all there, at most `fuel` of them. -/
def State.trigRun (s : State) (n i : Nat) : Nat → State
  | 0 => s
  | f + 1 => if (s.lane i).slotReady (s.trig i).slot then (s.trigSlot n i (s.trig i).slot).trigRun n i f else s

/-- Decode every grid slot of unit `i` whose responses have been received. -/
def State.trigAll (s : State) (n i : Nat) : State :=
  if (s.trig i).state = .disarmed then s else s.trigRun n i ((s.lane i).rxFrames * (s.lane i).spf)

end Sys2Proof.Machine
end

