-- ==== Sys2Proof/Machine/PinEngine.lean ====
section
/-! DEFINITION. The pin engine (chapter 07): code origin, frame assembly, received frames, direct mode, and the pin fields
that change during a run. -/

namespace Sys2Proof.Machine

/-! ### Fields in force by cycle (R198, R204, R217, R535) -/

/-- From cycle `c` on, the masks in force are those of `f` applied to what was in force; earlier cycles keep theirs (R160, R204, R535). -/
def MaskTable.enforce (m : MaskTable) (c : Nat) (pm : BitVec 32) (f : MaskInForce → MaskInForce) : MaskTable :=
  let base := (m.forCycle c).getD { fromCycle := 0, rows := m.activeRows, pinmask := pm }
  let later := m.inForce.filter fun e => decide (c < e.fromCycle)
  let earlier := m.inForce.filter fun e => decide (e.fromCycle < c)
  { m with inForce := later.map f ++ [f { base with fromCycle := c }] ++ (if earlier.isEmpty then [{ base with fromCycle := 0 }] else earlier) }

/-- Write a lane-wide field of R217 into the configuration. -/
def PinCfg.setField (c : PinCfg) (field v : Nat) : PinCfg :=
  match field with
  | 0x03 => { c with tset := BitVec.ofNat 8 v }
  | 0x04 => { c with tsetcfg := BitVec.ofNat 8 v }
  | 0x05 => { c with ctxcfg := BitVec.ofNat 8 v }
  | 0x06 => { c with rwcfg := BitVec.ofNat 8 v }
  | _ => c

/-- The waiting fields that a frame whose slot 0 belongs to cycle `c` takes come into force, in order (R198, R535). -/
def Lane.applyLater (l : Lane) (c : Nat) : Lane :=
  { l with
    cfg := (l.pinLater.filter fun e => decide (e.1 ≤ c)).foldl (fun g e => g.setField e.2.1 e.2.2) l.cfg
    pinLater := l.pinLater.filter fun e => decide (c < e.1) }

/-- Apply a PINPATCH record from cycle `c` on (R198, R204, R217). -/
def Lane.patchPin (l : Lane) (c pin field v : Nat) (row : BitVec 256) : Lane :=
  match field with
  | 0x01 =>
    { l with
      masks := l.masks.enforce c l.cfg.pinmask fun e => { e with pinmask := putBit e.pinmask pin (bit v 0) }
      cfg := { l.cfg with pinmask := putBit l.cfg.pinmask pin (bit v 0) } }
  | 0x02 =>
    let m := l.masks.enforce c l.cfg.pinmask fun e => { e with rows := tset 0 e.rows pin row }
    { l with masks := { m with rows0 := tset 0 m.rows0 pin row, rows1 := tset 0 m.rows1 pin row } }
  | _ => { l with pinLater := l.pinLater ++ [(c, field, v)] }

/-- The first cycle whose first slot lies in a frame not yet assembled (R535). -/
def Lane.nextCycle (l : Lane) (c0 : Nat) : Nat := c0 + ceilDiv (l.frame * l.spf) (max 1 (l.cfg.k * l.cfg.rpt))

/-- A PINFIELD command's write: in a run a PINMASK from the next cycle not begun, other fields from the next frame (R11, R12, R535). -/
def Lane.commandField (l : Lane) (running : Bool) (c0 pin field v : Nat) : Lane :=
  match field, running with
  | 0x01, true =>
    { l with
      masks := l.masks.enforce (l.nextCycle c0) l.cfg.pinmask fun e => { e with pinmask := putBit e.pinmask pin (bit v 0) }
      cfg := { l.cfg with pinmask := putBit l.cfg.pinmask pin (bit v 0) } }
  | 0x01, false => { l with cfg := { l.cfg with pinmask := putBit l.cfg.pinmask pin (bit v 0) } }
  | _, true => { l with pinLater := l.pinLater ++ [(0, field, v)] }
  | _, false => { l with cfg := l.cfg.setField field v }

/-- The boundary of cycle `c` for a pending mask swap (R160, R204). -/
def Lane.swapAt (l : Lane) (c : Nat) : Lane :=
  match l.masks.swap with
  | none => l
  | some cs =>
    if c < cs then l
    else
      let m := l.masks
      let ready := if m.active1 then m.complete0 else m.complete1
      if ready then
        let rows := if m.active1 then m.rows0 else m.rows1
        let m' := m.enforce c l.cfg.pinmask fun e => { e with rows := rows }
        { l with masks := { m' with active1 := !m.active1, swap := none } }
      else { l with masks := { m with swap := some (c + 1) }, st := { l.st with maskStale := satInc l.st.maskStale } }

/-- Rows of the active filter copy (R160). -/
def FilterTable.activeRows (f : FilterTable) : Tab (BitVec 64) := if f.active1 then f.rows1 else f.rows0

/-- The boundary of cycle `c` for a pending filter swap (R160, R264). -/
def Site.filterSwapAt (x : Site) (c : Nat) : Site :=
  match x.filt.swap with
  | none => x
  | some cs =>
    if c < cs then x
    else
      let f := x.filt
      let ready := if f.active1 then f.complete0 else f.complete1
      if ready then
        let rows := if f.active1 then f.rows0 else f.rows1
        { x with filt := { f with active1 := !f.active1, swap := none, inForce := (c, rows) :: (if f.inForce.isEmpty then [(0, f.activeRows)] else f.inForce) } }
      else { x with filt := { f with swap := some (c + 1) }, fl := { x.fl with filterStale := satInc x.fl.filterStale } }

/-! ### The code origin (R187) -/

/-- A pattern-sourced lane's FIFO holds the 48 words the origin waits for (R187). -/
def Lane.filled (l : Lane) : Bool := l.cfg.source != 1 || decide (48 ≤ l.patFifo.length)

/-- Post the run-start event: TIME is the device time of the START step (R467). -/
def State.postRunStart (s : State) (n off : Nat) : State :=
  let x := s.site n
  let s := s.modSite n fun x => { x with startPosted := true }
  s.postEvent
    { kind := 0x02
      status := Code.ST_OK
      source := s.chain.ua
      ticket := 0
      subject := BitVec.ofNat 32 (n + (4 + 16 * 3) * 65536)
      time := x.startTs
      data := leBytes x.cycle.toNat 8 ++ leBytes x.img.id.toNat 8 ++ leBytes off 4 ++ leBytes x.setByte 1 }

/-- CODE_ORIGIN (R187). -/
def execCodeOrigin (site : Fin 16) (s : State) : Out :=
  .next
    (let n := site.val
     let x := s.site n
     let ls := s.codedLanes n
     let lead := ls.foldl (fun m i => max m (s.lane i).cfg.lead) 0
     if x.state = .running ∧ x.origin = false ∧ ls ≠ [] ∧ lead ≤ x.sinceStart ∧ ls.all (fun i => (s.lane i).filled) = true then
       let (f, s) := s.drawFree
       let off := Config.freeWord f
       let s := s.modLanes ls fun l => { l with origin := true, frame := 0, st := { l.st with originOffset := off } }
       let s := s.modSite n fun x => { x with origin := true }
       s.postRunStart n off.toNat
     else s)

/-! ### Frame assembly (R188 to R195) -/

/-- CRC16 of a pin frame (R194). -/
def pinCrc (hdr pay : Nat) : Nat := crc16 (bitsLow hdr 48 ++ bitsLow pay 1024)

/-- A pin frame's header (R191). -/
def pinHeader (typ fcnt cyc tset flags pay : Nat) : BitVec 64 :=
  let h := typ % 16 + fcnt % 4096 * 2 ^ 4 + cyc % 65536 * 2 ^ 16 + tset % 256 * 2 ^ 32 + flags % 256 * 2 ^ 40
  BitVec.ofNat 64 (h + pinCrc h pay * 2 ^ 48)

/-- Payload bits of 512 codes, position 0 lowest (R193). -/
def payloadOf (codes : List (BitVec 2)) : Nat := codes.foldr (fun c a => c.toNat + 4 * a) 0

/-- The codes of index `i` of cycle `c` are final in sash `x`: its hinge has passed, or step RELSTEP[i] has ended (R188). -/
def Sash.released (x : Sash) (cycle sched rel c : Nat) : Bool :=
  decide (c < cycle) ||
    (c == cycle &&
      (match x.phase with
       | .arrived => true
       | .step | .exchange | .h0 => if sched ≤ rel then false else decide (rel < x.k)
       | _ => false))

/-- First cycle whose codes no longer leave: the one after the halting hinge (R195). -/
def Site.limit (x : Site) : Option Nat := if x.draining then some x.cycle.toNat else none

/-- Cycle and code index of grid slot `m` (R186). -/
def Lane.cycleOf (l : Lane) (c0 m : Nat) : Nat := c0 + m / (l.cfg.k * l.cfg.rpt)
def Lane.indexOf (l : Lane) (m : Nat) : Nat := m / l.cfg.rpt % l.cfg.k

/-- The code that owns grid slot `m` has been sent before data frame `f`: its value is fixed (R232). -/
def Lane.goesOn (l : Lane) (f m : Nat) : Bool := decide (m / l.cfg.rpt * l.cfg.rpt < f * l.spf)

/-- The code of position `j` of data frame `f`; none when it is missing (R188, R189, R193, R195, R216, R232). -/
def State.codeAt (s : State) (n i f j : Nat) : Option (BitVec 2) :=
  let l := s.lane i
  let x := s.site n
  let m := f * l.spf + j / l.pins
  let c := l.cycleOf x.c0 m
  let ci := l.indexOf m
  let p := j % l.pins
  let past := match x.limit with | some k => decide (k ≤ c) | none => false
  if l.active p = false then some 2
  else if l.cfg.source = 0 ∧ l.goesOn f m = true then some (l.driveCode c ci p)
  else if past || x.cutCodes then some 3
  else if l.cfg.source = 1 then (l.patFifo[j / 16]?).map fun w => BitVec.ofNat 2 (bits w.1.toNat (2 * (j % 16)) 2)
  else if (s.sash i).released x.cycle.toNat x.img.sched (tget 0 l.cfg.relstep ci) c then some (l.driveCode c ci p)
  else none

/-- Codes of a frame with keep from the first missing one on, and that position (R188). -/
def frameFill (l : List (Option (BitVec 2))) : List (BitVec 2) × Option Nat :=
  match l.findIdx? Option.isNone with
  | some k => ((l.take k).map (·.getD 3) ++ List.replicate (l.length - k) 3, some k)
  | none => (l.map (·.getD 3), none)

/-- Replace `w` bits from bit `o` of a word (`o` below 64). -/
def spliceBits (x o w v : Nat) : Nat := x - bits x o w * 2 ^ o + v % 2 ^ w * 2 ^ o

/-- Write the codes whose first slot this frame takes into the commit log (R232). -/
def State.logCodes (s : State) (n i f : Nat) (codes : List (BitVec 2)) : State :=
  let l := s.lane i
  let x := s.site n
  if x.img.depth = 0 ∨ l.cfg.source ≠ 0 then s
  else
    (List.range l.spf).foldl
      (fun s sl =>
        let m := f * l.spf + sl
        let c := l.cycleOf x.c0 m
        let past := match x.limit with | some k => decide (k ≤ c) | none => false
        if m % l.cfg.rpt = 0 ∧ past = false ∧ x.cutCodes = false then
          let pos := 2 * l.indexOf m * l.pins
          let v := payloadOf ((codes.drop (sl * l.pins)).take l.pins)
          s.mergeWord (s.clogAddr n i c / 8 + pos / 64) fun bs => leBytes (spliceBits (leNat bs) (pos % 64) (2 * l.pins) v) 8
        else s) s

/-- The run's code origin is still to come: every pattern FIFO can supply it (R187). -/
def State.originAhead (s : State) (n : Nat) : Bool :=
  !(s.site n).origin && !(s.codedLanes n).isEmpty && (s.codedLanes n).all fun i => (s.lane i).filled

/-- Everything a halted run still owes has left and been compared (R195, R237, R238). -/
def State.drained (s : State) (n : Nat) : Bool :=
  let x := s.site n
  (x.img.depth == 0 || decide (x.cycle.toNat ≤ x.ra.oldest)) &&
    (s.siteSashes n).all fun i =>
      let l := s.lane i
      l.mode != .pin || (!l.origin && !s.originAhead n) ||
        (l.origin && l.expects.isEmpty && l.specs.isEmpty &&
          (if x.cutCodes then l.cfg.source != 0 || !l.goesOn l.frame (l.frame * l.spf)
           else decide ((x.cycle.toNat - x.c0) * l.cfg.k * l.cfg.rpt ≤ l.frame * l.spf)))

/-- A site that has halted at its hinge enters HALTED when it is drained; its trigger units have then read every slot received (R195, R237,
R278). -/
def State.settle (s : State) (n : Nat) : State :=
  if (s.site n).state = .running ∧ (s.site n).draining = true ∧ s.drained n = true then ((s.siteSashes n).foldl (fun s i => s.trigAll n i) s).enterHalted n
  else s

/-- TSET of a data frame whose slot 0 is (c, i) (R198). -/
def Lane.frameTset (l : Lane) (c i : Nat) : Nat :=
  if getBit l.cfg.tsetcfg 7 then
    let ws := if l.cfg.source = 1 then (match l.patFifo with | w :: _ => w.2 | [] => 0) else tget 0 l.samples (c * 256 + i)
    bits ws.toNat (32 * bits l.cfg.tsetcfg.toNat 0 3) 8
  else l.cfg.tset.toNat

/-- The context words of the codes whose first slot data frame `f` carries, as its configuration selects them (R211). -/
def Lane.takeContext (l : Lane) (c0 f : Nat) : Lane :=
  if l.cfg.source = 1 then l
  else
    { l with
      codeCtx := (List.range l.spf).foldl
        (fun t sl =>
          let m := f * l.spf + sl
          let k := l.cycleOf c0 m * 256 + l.indexOf m
          if m % l.cfg.rpt = 0 then tset 0 t k (l.cfg.contextOf (tget 0 l.samples k)) else t) l.codeCtx }

/-- 32 bits through the scrambler x^58 + x^39 + 1, first bit lowest: the bits as sent, and the 58 bits last sent (R190). -/
def scramble32 (h : BitVec 58) (v : Nat) : Nat × BitVec 58 :=
  let out := (v % 2 ^ 32) ^^^ bits h.toNat 0 32 ^^^ bits h.toNat 19 32
  (out, h >>> 32 ||| BitVec.ofNat 58 (out * 2 ^ 26))

/-- A block's 64 bits through the scrambler. -/
def scramble64 (h : BitVec 58) (v : Nat) : Nat × BitVec 58 :=
  let (a, h) := scramble32 h (bits v 0 32)
  let (b, h) := scramble32 h (bits v 32 32)
  (a + b * 2 ^ 32, h)

/-- Blocks as they leave, sync headers unscrambled, and the scrambler after them (R190). -/
def scrambleBlocks (h : BitVec 58) : List (BitVec 2 × Nat) → List (BitVec 2 × BitVec 64) × BitVec 58
  | [] => ([], h)
  | (y, v) :: bs =>
    let (o, h) := scramble64 h v
    let (os, h) := scrambleBlocks h bs
    ((y, BitVec.ofNat 64 o) :: os, h)

/-- The blocks of a frame: its header with sync header 0b10, then `n` blocks of the payload with 0b01 (R124, R190). -/
def frameBlocks (hdr : BitVec 64) (pay n : Nat) : List (BitVec 2 × Nat) :=
  (2, hdr.toNat) :: (List.range n).map fun b => (1, bits pay (64 * b) 64)

/-- Hand a frame to the PCS: scrambled, counted, stamped, FCNT advanced (R190, R191, R221, R374, R534). -/
def Lane.handOver (l : Lane) (hdr : BitVec 64) (pay : Nat) (stamp : BitVec 128) : Lane :=
  let (bs, h) := scrambleBlocks l.txScr (frameBlocks hdr pay 16)
  { l with
    fcnt := l.fcnt + 1
    txLast := some (hdr, BitVec.ofNat 1024 pay)
    txScr := h
    txBlocks := bs
    st := { l.st with txFrames := satInc l.st.txFrames }
    phy := { l.phy with lastTx := stamp } }

/-- Context words of the pattern words a frame takes, and the FIFO without them (R189, R211). -/
def Lane.takeWords (l : Lane) : Lane :=
  if l.cfg.source = 1 then
    let ws := l.patFifo.take 32
    { l with
      patFifo := l.patFifo.drop 32
      patCtx := tfill 0 l.patCtx (l.frame * 32) (ws.map fun w => l.cfg.contextOf w.2)
      patTaken := l.patTaken + ws.length }
  else l

/-- Queue entries of cycles whose every slot has been assembled are freed. -/
def Lane.freeCodes (l : Lane) (c0 : Nat) : Lane :=
  { l with outq := l.outq.filter fun e => decide (l.frame * l.spf < (e.cycle + 1 - c0) * l.cfg.k * l.cfg.rpt) }

/-- Cycles whose slot 0 lies in data frame `f` meet their boundaries: the lane's masks, and on the site's first pin-mode lane the filter
(R204, R264). -/
def State.cycleBoundaries (s : State) (n i f : Nat) : State :=
  let l := s.lane i
  let per := l.cfg.k * l.cfg.rpt
  let c0 := (s.site n).c0
  (List.range l.spf).foldl
    (fun s sl =>
      let m := f * l.spf + sl
      if m % per = 0 then
        let s := s.modLane i fun l => l.swapAt (c0 + m / per)
        if (s.siteSashes n).find? (fun k => (s.lane k).mode == .pin) = some i then s.modSite n fun x => x.filterSwapAt (c0 + m / per) else s
      else s) s

/-- A DATA frame of lane `i` of site `n` (R188, R193, R198). -/
def State.dataFrame (s : State) (n i : Nat) : State :=
  let f := (s.lane i).frame
  let c0 := (s.site n).c0
  let s := s.cycleBoundaries n i f
  let m := f * (s.lane i).spf
  let c := (s.lane i).cycleOf c0 m
  let s := s.modLane i fun l => (l.applyLater c).takeContext c0 f
  let l := s.lane i
  let (codes, miss) := frameFill ((List.range 512).map (s.codeAt n i f))
  let pay := payloadOf codes
  let flags := b2n (f == 0) + b2n miss.isSome * 4
  let hdr := pinHeader 1 l.fcnt.toNat c (l.frameTset c (l.indexOf m)) flags pay
  let s := s.logCodes n i f (match miss with | some k => codes.take (k / l.pins * l.pins) | none => codes)
  let st := s.stamp
  let s := s.modLane i fun l => ({ (l.takeWords).handOver hdr pay st with frame := f + 1 }).freeCodes c0
  match miss with
  | none => s
  | some j =>
    let mm := f * l.spf + j / l.pins
    let cy := l.cycleOf c0 mm
    let ci := l.indexOf mm
    let s := s.modLane i fun l =>
      { l with st := { l.st with lastVoidCode := BitVec.ofNat 8 ci, lastVoidCycle := BitVec.ofNat 48 cy } }
    s.faultSashNow i Code.TF_TIMING_VOID 0xFF (cy * 256 + ci)

/-- Drive code and FLAGS of an IDLE frame by the state of the lane's site; a site that faulted outside a run sends Z (R195). -/
def State.idleFrame (s : State) (i : Nat) : Nat × Nat :=
  match s.siteOf i with
  | none => (2, 0)
  | some n =>
    match (s.site n).state with
    | .running => if (s.lane i).origin then (3, 2) else (2, 0)
    | .halted => (3, 2)
    | .faulted => if (s.site n).voided then (3, 4) else (2, 0)
    | _ => (2, 0)

/-- The lane's next frame is a DATA frame: the site runs, the origin has been set, and slots up to the halting cycle, or slots of a code
already sent, are left (R192, R195, R232, R238). -/
def State.dataDue (s : State) (n i : Nat) : Bool :=
  let x := s.site n
  let l := s.lane i
  x.state == .running && l.origin &&
    (if x.cutCodes then l.cfg.source == 0 && l.goesOn l.frame (l.frame * l.spf)
     else match x.limit with | some k => decide (l.cycleOf x.c0 (l.frame * l.spf) < k) | none => true)

/-- PRBS polynomial's second tap by degree (R212). -/
def prbsTap (n : Nat) : Nat :=
  match n with
  | 7 => 6 | 9 => 5 | 15 => 14 | 23 => 18 | _ => 28

/-- Next bit of a PRBS of degree `n`: the sum of the bits `n` and its second tap places back; bit 0 is the newest (R212). -/
def prbsNext (n : Nat) (r : BitVec 32) : Bool := xor (getBit r (n - 1)) (getBit r (prbsTap n - 1))
/-- Shift a bit in. -/
def shiftIn (r : BitVec 32) (b : Bool) : BitVec 32 := r <<< 1 ||| BitVec.ofNat 32 (b2n b)

/-- Degree and inversion of PRBSSEL (R215). -/
def PinCfg.degree (c : PinCfg) : Nat := bits c.prbssel.toNat 0 5
def PinCfg.invert (c : PinCfg) : Bool := getBit c.prbssel 7

/-- `k` bits of the PRBS from register `r`, first bit lowest, and the register after them. -/
def prbsBits (n : Nat) (inv : Bool) (r : BitVec 32) : Nat → Nat × BitVec 32
  | 0 => (0, r)
  | k + 1 =>
    let b := prbsNext n r
    let (x, r') := prbsBits n inv (shiftIn r b) k
    (b2n (xor b inv) + 2 * x, r')

/-- A direct-mode word leaves: kept for the echo compare, counted, the first one stamped (R212, R213, R221, R374). -/
def Lane.sendWord (l : Lane) (w : Word) (stamp : BitVec 128) : Lane :=
  { l with
    txIdle := false
    echo := (w :: l.echo).take 1024
    txWords := l.txWords + 1
    st := { l.st with txFrames := satInc l.st.txFrames }
    phy := if l.txWords = 0 then { l.phy with lastTx := stamp } else l.phy }

/-- A direct-mode word (R212): pattern or PRBS; a missing word is zero and faults the site. -/
def State.directWord (s : State) (i : Nat) : State :=
  let l := s.lane i
  let sent (w : Word) (l : Lane) : Lane := l.sendWord w s.stamp
  if l.cfg.source = 2 then
    let (x, r) := prbsBits l.cfg.degree l.cfg.invert l.prbsTx 32
    s.setLane i (sent (BitVec.ofNat 32 x) { l with prbsTx := r })
  else
    match l.patFifo with
    | w :: rest => s.setLane i (sent w.1 { l with patFifo := rest, patTaken := l.patTaken + 1 })
    | [] =>
      let s := s.setLane i
        { sent 0 l with
          starved := true
          st := { l.st with txFrames := satInc l.st.txFrames, lastVoidCycle := BitVec.ofNat 48 l.txWords } }
      s.faultSashNow i Code.TF_TIMING_VOID 0xFF l.txWords

/-- A link-mode lane sends its oldest frame, or between frames an IDLE block: TYPE 0x1E and zeros (R123, R124). -/
def State.linkFrame (s : State) (i : Nat) : State :=
  let l := s.lane i
  match l.link.tx with
  | [] => s.setLane i { l with txLast := some (0x1E, 0), txBlocks := [(2, 0x1E)] }
  | f :: rest =>
    s.setLane i
      { l with
        link := { l.link with tx := rest }
        txLast := some (f.1, f.2.setWidth 1024)
        txBlocks := (frameBlocks f.1 f.2.toNat (if f.1.toNat % 256 = 0xE1 then 8 else 0)).map fun b => (b.1, BitVec.ofNat 64 b.2)
        st := { l.st with txFrames := satInc l.st.txFrames }
        phy := { l.phy with lastTx := s.stamp } }

/-- The payload of LOOPBACK frame `k` of step 2: over frames 0 to 3 every code position takes every code value; which it takes first, and the
frames after, are open (R200, R201). -/
def loopPayload (k : Nat) : Nat :=
  if k < 4 then
    payloadOf ((List.range 512).map fun j => BitVec.ofNat 2 (bits (Config.loopPattern 0).toNat (2 * j) 2 + k))
  else (Config.loopPattern k).toNat

/-- The LOOPBACK frame that a calibration has to send: its payload and FLAGS (R192, R200). -/
def CalRun.frameDue (c : CalRun) (spf : Nat) : Option (Nat × Nat) :=
  if c.stage = 2 ∧ c.sent < 256 then some (loopPayload c.sent, 0)
  else if c.stage = 4 ∧ c.sent * spf < 256 then some ((Config.pinloopPattern c.sent).toNat, 8)
  else none

/-- A frame other than DATA: LOOPBACK in a calibration, else IDLE (R192, R195, R200). -/
def State.restFrame (s : State) (i : Nat) : State :=
  let l := (s.lane i).applyLater 0
  match l.calib.bind fun c => c.frameDue l.spf with
  | some (pay, flags) =>
    s.setLane i
      { l.handOver (pinHeader 3 l.fcnt.toNat 0 0 flags pay) pay s.stamp with
        calib := l.calib.map fun c => { c with sent := c.sent + 1 } }
  | none =>
    let (code, flags) := s.idleFrame i
    let pay := payloadOf (List.replicate 512 (BitVec.ofNat 2 code))
    s.setLane i (l.handOver (pinHeader 2 l.fcnt.toNat 0 0 flags pay) pay s.stamp)

/-- FRAME_ASSEMBLY (R188, R190, R195, R200, R212): the lane's next pin frame, direct word or link frame. -/
def execFrameAssembly (lane : Fin 64) (s : State) : Out :=
  .next
    (let i := lane.val
     let l := s.lane i
     let data := match s.siteOf i with | some n => s.dataDue n i | none => false
     match l.mode with
     | .pin =>
       if l.txIdle then s
       else if data then (match s.siteOf i with | some n => (s.dataFrame n i).settle n | none => s)
       else s.restFrame i
     | .direct => if data then s.directWord i else if l.starved then s.setLane i (l.sendWord 0 s.stamp) else s
     | .link => if l.txIdle then s else s.linkFrame i
     | _ => s)

/-! ### Received frames (R196, R197) -/

/-- The lane's site is ARMED or RUNNING: its frame errors fault it (R197). -/
def State.laneLive (s : State) (i : Nat) : Bool :=
  match s.siteOf i with
  | some n => (s.site n).state == .armed || (s.site n).state == .running
  | none => false

/-- A bad, late or skipped RX frame (`err`), or one with TX_CRC_ERR (`asic`): counted, and one fault or event (R197, R221). -/
def State.pinFrameError (s : State) (i fcnt : Nat) (err asic : Bool) : State :=
  let s := s.modLane i fun l =>
    { l with
      st := { l.st with
        asicCrc := if asic then satInc l.st.asicCrc else l.st.asicCrc
        frameErr := if err then satInc l.st.frameErr else l.st.frameErr } }
  if s.laneLive i then s.faultSashNow i Code.TF_PIN_FRAME_CRC 0xFF fcnt
  else s.postLane Code.TF_PIN_FRAME_CRC ((s.siteOf i).getD 0xFF) i 0 0 0

/-- PE_ALARM: counted and posted (R192, R197). -/
def State.peAlarm (s : State) (i : Nat) : State :=
  (s.modLane i fun l => { l with st := { l.st with peAlarm := satInc l.st.peAlarm } }).postNotice Code.ST_OK
    ((s.siteOf i).getD 0xFF) i 0x05 (match s.siteOf i with | some n => (s.site n).cycle.toNat | none => 0) 0

/-- Checks every received pin frame meets; `next` takes a good one. A frame whose CRC fails tells nothing more; PE_ALARM of any other
counts, and so does TX_CRC_ERR beside a skipped FCNT (R192, R196, R197, R534). -/
def State.rxFrame (s : State) (i : Nat) (hdr : BitVec 64) (pay : BitVec 1024) (typ : Nat) (next : State → State) : State :=
  let l := s.lane i
  let h := hdr.toNat
  let t := bits h 0 4
  let fc := bits h 4 12
  if l.mode ≠ .pin ∨ l.lock = false then s
  else
    let crcBad := pinCrc h pay.toNat != bits h 48 16
    let unknown := !(t == 1 || t == 2 || t == 3)
    let skip := match l.rxFcnt with | some e => decide (e.toNat ≠ fc) | none => false
    let s := s.modLane i fun l => { l with rxFcnt := some (BitVec.ofNat 12 (fc + 1)), phy := { l.phy with lastRx := s.stamp } }
    if crcBad || unknown then s.pinFrameError i fc true false
    else
      let s := if bit h 44 then s.peAlarm i else s
      if skip || bit h 43 then s.pinFrameError i fc skip (bit h 43) else if t = typ then next s else s

/-- Response codes 0b11 of a frame (R185). -/
def illegalCount (pay : Nat) : Nat := (List.range 512).countP fun j => bits pay (2 * j) 2 == 3

/-- Decode the responses of a frame: stored, compared and checked (R193, R203, R225); a PININ that waits looks again (R51). The trigger unit
reads the slots in the step clocks that follow (R271, R276). -/
def State.decodeFrame (s : State) (n i : Nat) (pay : BitVec 1024) : State :=
  let s := s.modLane i fun l =>
    { l with
      resp := tset 0 l.resp l.rxFrames pay
      rxFrames := l.rxFrames + 1
      lastResp := BitVec.ofNat 32 (bits pay.toNat (2 * (512 - l.pins)) (2 * min l.pins 16))
      st := { l.st with illegal := satAdd l.st.illegal (illegalCount pay.toNat) } }
  let s := s.modSash i fun x => { x with pacing := false }
  let s := if (s.site n).img.depth = 0 then s.runCompares n i (fun _ => true) else s.checkSpecs n i
  s.settle n

/-- RX_DATA_FRAME (R196, R197). -/
def execRxDataFrame (lane : Fin 64) (hdr : BitVec 64) (payload : BitVec 1024) (s : State) : Out :=
  .next (s.rxFrame lane.val hdr payload 1 fun s =>
    match s.siteOf lane.val with
    | some n => if (s.site n).state = .running ∧ (s.lane lane.val).origin = true then s.decodeFrame n lane.val payload else s
    | none => s)

/-- A returned IDLE frame that answers a frame sent after the run's last DATA frame: frames follow with no gap, so its response codes
belong to the slots that go on from the grid's (R186, R190, R192, R195). -/
def State.afterData (s : State) (n i : Nat) : Bool :=
  (s.site n).state == .running && (s.lane i).origin && !s.dataDue n i && decide ((s.lane i).frame ≤ (s.lane i).rxFrames)

/-- RX_IDLE_FRAME (R192, R196, R197): checked; after the last DATA frame its codes are decoded as the slots that go on (R195, R237, R238). -/
def execRxIdleFrame (lane : Fin 64) (hdr : BitVec 64) (payload : BitVec 1024) (s : State) : Out :=
  .next (s.rxFrame lane.val hdr payload 2 fun s =>
    match s.siteOf lane.val with
    | some n => if s.afterData n lane.val then s.decodeFrame n lane.val payload else s
    | none => s)

/-- The self-test of one position: each expect of R185 must match, or fail, the returned code as it does the code sent (R201). -/
def loopWrong (sent got : BitVec 2) : Bool := [0, 1, 2, 4].any fun (w : BitVec 3) => expectMatches w got != expectMatches w sent

/-- First code position of a returned LOOPBACK payload whose compares come out wrong (R201). -/
def firstWrong (sent got : Nat) : Option Nat :=
  (List.range 512).find? fun j => loopWrong (BitVec.ofNat 2 (bits sent (2 * j) 2)) (BitVec.ofNat 2 (bits got (2 * j) 2))

/-- A LOOPBACK frame of step 2: compared with what was sent (R200, R201). -/
def CalRun.loop (c : CalRun) (pay : Nat) : CalRun :=
  if c.frames < c.sent then { c with frames := c.frames + 1, bad := if c.bad.isSome then c.bad else firstWrong (loopPayload c.frames) pay } else c

/-- A LOOPBACK frame of step 4: the slot of the first 0b01 on each pin, within 255 slots (R200). -/
def CalRun.pins (c : CalRun) (p : Nat) (pay : Nat) : CalRun :=
  let spf := 512 / p
  let step := (List.range 512).foldl
    (fun t j =>
      let sl := c.slots + j / p
      if bits pay (2 * j) 2 = 1 ∧ tget 0 t (j % p) = 0 ∧ sl ≤ 255 then tset 0 t (j % p) (sl + 1) else t) c.step
  { c with step := step, slots := c.slots + spf }

/-- RX_LOOPBACK_FRAME (R200, R201). -/
def execRxLoopbackFrame (lane : Fin 64) (hdr : BitVec 64) (payload : BitVec 1024) (s : State) : Out :=
  .next (s.rxFrame lane.val hdr payload 3 fun s =>
    s.modLane lane.val fun l =>
      { l with
        calib := l.calib.map fun c =>
          if c.stage = 2 then c.loop payload.toNat else if c.stage = 4 then c.pins l.pins payload.toNat else c })

/-- RX_FRAME_TIMEOUT (R197). -/
def execRxFrameTimeout (lane : Fin 64) (s : State) : Out :=
  .next
    (let l := s.lane lane.val
     if l.mode = .pin then s.pinFrameError lane.val (match l.rxFcnt with | some f => f.toNat | none => 0) true false else s)

/-! ### Direct mode (R213, R214) -/

/-- One received bit of the PRBS checker: predicted from received bits until locked, from its own after (R213). -/
def PrbsChk.rxBit (c : PrbsChk) (n : Nat) (inv b : Bool) : PrbsChk × Bool × Bool :=
  let want := prbsNext n c.reg
  let got := xor b inv
  let err := got != want
  if c.locked then
    let w := (err :: c.window).take 256
    let drop := decide (64 ≤ w.countP (· = true))
    if drop then ({ reg := 0, seeded := 0, good := 0, locked := false, window := [] }, err, true)
    else ({ c with reg := shiftIn c.reg want, window := w }, err, false)
  else if c.seeded < n then ({ c with reg := shiftIn c.reg got, seeded := c.seeded + 1 }, false, false)
  else
    let g := if err then 0 else c.good + 1
    ({ c with reg := shiftIn c.reg got, good := g, locked := decide (256 ≤ g), window := [] }, false, false)

/-- The bits of a received word through the checker: the checker, the XOR word of errors, the drops of lock. -/
def PrbsChk.rxWord (c : PrbsChk) (n : Nat) (inv : Bool) (w i : Nat) : Nat → PrbsChk × Nat × Nat
  | 0 => (c, 0, 0)
  | k + 1 =>
    let (c1, e, d) := c.rxBit n inv (bit w i)
    let (c2, x, ds) := c1.rxWord n inv w (i + 1) k
    (c2, b2n e * 2 ^ i + x, b2n d + ds)

/-- A mismatched word: its bit errors and its record (R214). -/
def State.wordMismatch (s : State) (n i word : Nat) (x : Word) : State :=
  let e := (popc x).toNat
  let s := s.modLane i fun l =>
    { l with st := { l.st with bitErrors := satAdd l.st.bitErrors e, mismatches := satInc l.st.mismatches } }
  s.formRecord n i (failRec word e n (s.sash i).cfg.index 0 0 2 x.toNat)

/-- 32 received bits, first bit lowest, join the bits since the last whole word; slips discard theirs; a word is complete at 32 bits
(R179, R373). -/
def Lane.rxBits (l : Lane) (w : Nat) : Lane × Option Word :=
  let v := l.rxRest + w * 2 ^ l.rxRestLen
  let n := l.rxRestLen + 32
  let d := min l.slipDue n
  let v := v / 2 ^ d
  let n := n - d
  let l := { l with slipDue := l.slipDue - d }
  if 32 ≤ n then ({ l with rxRest := v / 2 ^ 32, rxRestLen := n - 32 }, some (BitVec.ofNat 32 v)) else ({ l with rxRest := v, rxRestLen := n }, none)

/-- An RX word of a direct-mode lane: counted, and compared as RAWCMP selects (R213, R214). -/
def State.directRx (s : State) (n i : Nat) (w : Word) : State :=
  let l := s.lane i
  let k := l.rxWords
  let l := { l with rxWords := k + 1, phy := if k = 0 then { l.phy with lastRx := s.stamp } else l.phy }
  match l.cfg.rawcmp.toNat with
  | 1 =>
    let (c, x, d) := l.chk.rxWord l.cfg.degree l.cfg.invert w.toNat 0 32
    let st := { l.st with
      lockLoss := satAdd l.st.lockLoss d
      compares := if l.chk.locked then satInc l.st.compares else l.st.compares }
    let s := s.setLane i { l with chk := c, st := st }
    if l.chk.locked && x != 0 then s.wordMismatch n i k (BitVec.ofNat 32 x) else s
  | 2 =>
    let j := k - l.cfg.dcmpOff
    let pos := l.txWords - 1 - j
    if l.cfg.dcmpOff ≤ k ∧ j < l.txWords then
      match l.echo[pos]? with
      | some t =>
        let s := s.setLane i { l with st := { l.st with compares := satInc l.st.compares } }
        if t = w then s else s.wordMismatch n i k (t ^^^ w)
      | none => s.setLane i l
    else s.setLane i l
  | _ => s.setLane i l

/-- DIRECT_RX_WORD (R179, R213, R214): 32 bits of a direct-mode lane that holds lock; compared from the origin of a run. -/
def execDirectRxWord (lane : Fin 64) (w : BitVec 32) (s : State) : Out :=
  .next
    (let i := lane.val
     let l := s.lane i
     if l.mode ≠ .direct ∨ l.lock = false then s
     else
       match l.rxBits w.toNat, s.siteOf i with
       | (l, some v), some n =>
         let s := s.setLane i l
         if l.origin = false ∨ (s.site n).state ≠ .running then s else s.directRx n i v
       | (l, _), _ => s.setLane i l)

end Sys2Proof.Machine
end

