-- ==== Sys2Proof/Machine/RunAhead.lean ====
section
/-! DEFINITION. Run-ahead (chapter 08): the checkpoint ring, undo, commit, divergence and rollback. -/

namespace Sys2Proof.Machine

/-! ### Records (R228) -/

/-- A checkpoint record (R228): KIND 0 header, 1 state delta, 2 net delta, 3 memory undo. -/
def deltaRec (h kind pane whr data : Nat) : Rec16 :=
  BitVec.ofNat 128 (data % 2 ^ 64 + whr % 2 ^ 16 * 2 ^ 64 + pane % 256 * 2 ^ 80 + kind % 4 * 2 ^ 94 + h % 2 ^ 32 * 2 ^ 96)

def drData (r : Rec16) : Nat := bits r.toNat 0 64
def drWhere (r : Rec16) : Nat := bits r.toNat 64 16
def drPane (r : Rec16) : Nat := bits r.toNat 80 8
def drKind (r : Rec16) : Nat := bits r.toNat 94 2
def drHinge (r : Rec16) : Nat := bits r.toNat 96 32

/-- Records of the words in which two bit blocks of a pane differ (R228). -/
def wordDeltas (h kind pane : Nat) (a b : BitVec 512) : List Rec16 :=
  if a = b then []
  else
    (List.range 8).filterMap fun w =>
      let d := bits (a ^^^ b).toNat (64 * w) 64
      if d = 0 then none else some (deltaRec h kind pane w d)

/-- Records of every pane whose block differs. -/
def blockDeltas (h kind : Nat) (a b : Tab (BitVec 512)) : List Rec16 :=
  (List.range 256).flatMap fun p => wordDeltas h kind p (tget 0 a p) (tget 0 b p)

/-- Lines of a record list, two to a line (R228). -/
def deltaLines (l : List Rec16) : Nat := (l.length + 1) / 2

/-- Lines of the ring that entries and the entry in formation take. -/
def DeltaLog.used (d : DeltaLog) : Nat := d.entries.foldl (fun n e => n + deltaLines e.2) (deltaLines d.current)

/-- A new record of the present entry, waiting for the delta writer. -/
def DeltaLog.add (d : DeltaLog) (rs : List Rec16) : DeltaLog := { d with queue := d.queue ++ rs, current := d.current ++ rs }

/-- The entry of hinge `h` is complete: header last (R228). -/
def DeltaLog.close (d : DeltaLog) (h : Nat) : DeltaLog :=
  let hd := deltaRec h 0 0 0 (d.current.length + 1)
  { d with queue := d.queue ++ [hd], entries := d.entries ++ [(h, d.current ++ [hd])], current := [] }

/-- The ring has no free line for a waiting record (R229). -/
def DeltaLog.full (d : DeltaLog) (lines : Nat) : Bool :=
  !d.queue.isEmpty && decide (lines ≤ d.used - deltaLines d.queue)

/-- Records of the next line: two of one entry, or a lone header; with `all`, whatever is left (R228, R229). -/
def DeltaLog.next (d : DeltaLog) (all : Bool) : Nat :=
  match d.queue with
  | [] => 0
  | [r] => if drKind r = 0 ∨ all = true then 1 else 0
  | r :: q :: _ => if drHinge r = drHinge q then 2 else 1

/-- The delta writer writes one line (R229). -/
def State.deltaLine (s : State) (n i : Nat) (all : Bool) : State :=
  let g := (s.site n).img
  let d := (s.sash i).delta
  let k := d.next all
  if k = 0 ∨ d.full g.ckptLines = true then s
  else
    let line := g.ckptFirst + d.wline % max 1 g.ckptLines
    let s := s.setPadLine i line ((d.queue.take k).flatMap fun r => leBytes r.toNat 16)
    s.modSash i fun x => { x with delta := { d with queue := d.queue.drop k, wline := d.wline + 1 } }

/-- Every pending line is written (R233). -/
def State.deltaFlush (s : State) (n i : Nat) : Nat → State
  | 0 => s
  | f + 1 => (s.deltaLine n i true).deltaFlush n i f

/-- The fail path has a record and a free buffer line for it: it takes the port before the delta writer (R247). -/
def State.failPortDue (s : State) (n i : Nat) : Bool :=
  let f := (s.site n).img.failcfg
  let p := (s.lane i).fail
  f.present && !p.fifo.isEmpty && decide (((p.buf.map (·.1)).dedup).length < f.fbufLines)

/-- The panes, the fail path and the delta writer leave the port free for the trigger unit (R276, R331). -/
def State.trigPort (s : State) (i : Nat) : Bool :=
  (s.sash i).portFree &&
    (match s.siteOf i with
     | some n => !s.failPortDue n i && ((s.sash i).delta.next false == 0 || (s.sash i).delta.full (s.site n).img.ckptLines)
     | none => true)

/-- Every user of the sash leaves the port free for the ring (R331). -/
def State.ringPort (s : State) (i : Nat) : Bool := s.trigPort i && (s.trig i).fifo.isEmpty

/-- DELTA_WRITE (R229): one line, in a port step that no other user of the sash takes (R49, R247). -/
def execDeltaWrite (sash : Fin 64) (s : State) : Out :=
  .next
    (let i := sash.val
     match s.siteOf i with
     | some n =>
       if (s.sash i).portFree = false ∨ s.failPortDue n i = true ∨ (s.sash i).delta.next false = 0 ∨
           (s.sash i).delta.full (s.site n).img.ckptLines = true then s
       else (s.deltaLine n i false).modSash i fun x => { x with portUsed := true }
     | none => s)

/-! ### Undo (R231, R239) -/

/-- XOR `data` into word `w` of a bit block. -/
def xorWord (b : BitVec 512) (w data : Nat) : BitVec 512 := b ^^^ BitVec.ofNat 512 (data * 2 ^ (64 * (w % 8)))

/-- Apply one record backwards (R231). -/
def State.undoRec (s : State) (i : Nat) (r : Rec16) : State :=
  match drKind r with
  | 1 => s.modSash i fun x => { x with st := tmod 0 x.st (drPane r) fun b => xorWord b (drWhere r) (drData r) }
  | 2 => s.modSash i fun x => { x with net := tmod 0 x.net (drPane r) fun b => xorWord b (drWhere r) (drData r) }
  | 3 => s.setPadBit i (drWhere r % 32768) (drData r % 256) (bit (drData r) 8)
  | _ => s

/-- Apply records from the newest to the oldest. -/
def State.undoRecs (s : State) (i : Nat) (rs : List Rec16) : State := rs.foldr (fun r s => s.undoRec i r) s

/-- A line of the ring that the undo reads is poisoned or uncorrectable (R239). -/
def State.padLineBad (s : State) (i line : Nat) : Bool :=
  (List.range 4).any fun j =>
    match s.mem.wordCheck (padWord i line + j) with
    | some .poison | some .uncorrectable => true
    | _ => false

/-- Ring lines that undoing `rs` records back from the writer's place reads. -/
def State.undoLinesOf (s : State) (n i rs : Nat) : List Nat :=
  let g := (s.site n).img
  let d := (s.sash i).delta
  (List.range rs).map fun j => g.ckptFirst + (d.wline - 1 - j) % max 1 g.ckptLines

/-- The lines of an entry, newest first: two records to a line from the oldest on (R228). -/
def undoLines : List Rec16 → List (List Rec16)
  | a :: b :: rs => undoLines rs ++ [[a, b]]
  | [a] => [[a]]
  | [] => []

/-- The lines that undoing back to hinge `c` reads, newest first: the cycle in computation, then each entry (R231). -/
def DeltaLog.linesBack (d : DeltaLog) (c : Nat) : List (List Rec16) :=
  undoLines d.current ++ ((d.entries.filter fun e => decide (c ≤ e.1)).reverse.flatMap fun e => undoLines e.2)

/-- Undo, in sash `i`, the first `k` lines read: the cycle in computation, with its net writes under NETLOG, then hinges from the
latest back (R231, R239). -/
def State.undoPart (s : State) (n i c k : Nat) : State :=
  let ls := ((s.sash i).delta.linesBack c).take k
  let s := if (s.site n).img.netlog then s.modSash i fun x => { x with net := x.delta.netPrev } else s
  ls.foldl (fun s rs => s.undoRecs i rs) s

/-- Undo, in sash `i`, the cycle in computation and every hinge from the latest back to `c` (R231). -/
def State.undoSash (s : State) (n i c : Nat) : State :=
  let s := s.undoPart n i c ((s.sash i).delta.linesBack c).length
  s.modSash i fun x =>
    { x with
      shadow := x.st
      checked := 0
      landings := []
      memw := []
      portLines := []
      portStall := 0
      wputs := []
      recvWait := []
      delta := { x.delta with current := [], queue := [], entries := x.delta.entries.filter (fun e => decide (e.1 < c)), netPrev := x.net } }

/-- Undo the site back to cycle `c`, each sash one line a step from the newest; the first damaged line that any sash reads faults
the site and ends the undo (R231, R233, R239). -/
def State.undoSite (s : State) (n c : Nat) : State :=
  let ls := s.siteSashes n
  let s := ls.foldl (fun s i => s.deltaFlush n i ((s.sash i).delta.queue.length + 1)) s
  let lines (i : Nat) : Nat := ((s.sash i).delta.linesBack c).length
  let most := ls.foldl (fun m i => max m (lines i)) 0
  let bad := (List.range most).findSome? fun k =>
    ls.findSome? fun i =>
      if k < lines i then
        match (s.undoLinesOf n i (lines i))[k]? with
        | some l => if s.padLineBad i l then some (k, i, l) else none
        | none => none
      else none
  match bad with
  | some (k, i, l) => (ls.foldl (fun s j => s.undoPart n j c k) s).faultNow n (faultOf Code.DI_POISON_READ i 0xFF (s.sash i).k l)
  | none =>
    let s := ls.foldl (fun s i => s.undoSash n i c) s
    s.modSite n fun x => { x with ra := { x.ra with undoLines := BitVec.ofNat 32 most } }

/-! ### STOP (R227, R238) -/

/-- Codes of the lane not yet sent leave as keep; expects of such slots, and of cycles from `c` on, are dropped (R238). -/
def Lane.cut (l : Lane) (c0 c : Nat) : Lane :=
  { l with
    expects := l.expects.filter fun e => decide (e.cycle < c) && l.sent c0 e.cycle e.code
    specs := l.specs.filter fun b => decide (b.cycle < c) && l.sent c0 b.cycle b.code }

/-- STOP applies to cycle `c`: halt with the state that follows hinge `c` (R238, R242). -/
def State.stopAfter (s : State) (n c : Nat) : State :=
  let x := s.site n
  if x.cycle.toNat ≤ c then s.decideStop n c
  else
    let s := s.undoSite n (c + 1)
    if (s.site n).state ≠ .running then s
    else
      let ls := s.siteSashes n
      let s := s.modSashes ls Sash.halt
      let s := s.modLanes ls fun l => l.cut x.c0 (c + 1)
      let s := s.modSite n fun x =>
        { x with
          cycle := BitVec.ofNat 48 (c + 1)
          draining := true
          cutCodes := true
          ra := { x.ra with
                  state := .drain
                  stopAt := none
                  target := none
                  found := x.ra.found.filter fun d => decide (d.1 < c) } }
      s.settle n

/-! ### Commit (R222, R225) -/

/-- Every sash of the site has raised its arrival. -/
def State.allArrived (s : State) (n : Nat) : Bool := (s.siteSashes n).all fun i => (s.sash i).phase == .arrived

/-- The computation of cycle `c` has ended. -/
def State.cycleDone (s : State) (n c : Nat) : Bool :=
  decide (c < (s.site n).cycle.toNat) || (c == (s.site n).cycle.toNat && s.allArrived n)

/-- Tell every other part of a multi-unit site of a decision on cycle `c`: the SITE_ROLLBACK event, on which each part acts by the
site's policy (R241). -/
def State.sendRollback (s : State) (n c : Nat) : State :=
  let g := (s.site n).img
  (List.range g.nparts).foldl
    (fun s p => if p = g.part then s else s.send (s.frame ftEvent (tget 0 g.peers p) 0 (eventPayload 4 0 0 g.id.toNat c))) s

/-- CYCLE_COMMIT (R222, R225, R228, R241, R242): the oldest uncommitted cycle's compares run and it commits; the STOP that a mismatch
decides goes to every part. -/
def execCycleCommit (site : Fin 16) (s : State) : Out :=
  .next
    (let n := site.val
     let x := s.site n
     let c := x.ra.oldest
     if x.img.depth = 0 ∨ x.state ≠ .running ∨ x.ra.state = .rollback then s
     else if s.cycleDone n c && s.cycleChecked n c && s.cycleDecoded n c then
       let ls := s.siteSashes n
       let s := ls.foldl (fun s i => (s.runCompares n i fun e => e.cycle == c).captureChecks n i c true) s
       let s := s.modSashes ls fun y =>
         { y with delta := { y.delta with entries := y.delta.entries.filter fun e => decide (c < e.1) } }
       let s := s.modSite n fun x =>
         { x with ra := { x.ra with oldest := c + 1, state := if x.ra.state = .depthWait then .speculate else x.ra.state } }
       let s :=
         match x.ra.stopAt, (s.site n).ra.stopAt with
         | none, some k => s.sendRollback n k
         | _, _ => s
       match (s.site n).ra.stopAt with
       | some k => if k < (s.site n).cycle.toNat then s.stopAfter n k else s
       | none => s.settle n
     else s)

/-! ### Divergence (R226, R227, R236) -/

/-- The found divergence with the lowest cycle and slot. -/
def lowestDiv : List (Nat × Nat × Nat × Nat × Nat) → Option (Nat × Nat × Nat × Nat × Nat)
  | [] => none
  | d :: ds =>
    match lowestDiv ds with
    | none => some d
    | some e => if d.2.1 ≤ e.2.1 then some d else some e

/-- Every PININ check of a slot before `slot` has completed (R226). -/
def State.checksBefore (s : State) (n slot : Nat) : Bool :=
  (s.siteSashes n).all fun i =>
    let l := s.lane i
    l.specs.all fun b => decide (slot ≤ l.slotOf (s.site n).c0 b.cycle b.code)

/-- A rollback to cycle `c` begins: every sash stops at its step (R233). -/
def State.startRollback (s : State) (n c : Nat) : State :=
  let s := s.modSashes (s.siteSashes n) fun x => { x with phase := .stopped, stall := none, pacing := false }
  s.modSite n fun x =>
    { x with
      ra := { x.ra with
              state := .rollback
              target := some (match x.ra.target with | some k => min k c | none => c)
              found := x.ra.found.filter fun d => decide (d.1 < c) } }

/-- A decided divergence of cycle `c` acts on this unit: halt after `c` under STOP, in a drain and where a transom's hinge blocks
the rollback, else the rollback (R227, R236, R237). -/
def State.actOnDiv (s : State) (n c pin : Nat) : State :=
  let x := s.site n
  if x.img.policy ≠ 2 ∨ x.draining = true then s.stopAfter n c
  else if x.ra.transomHinges.any fun h => decide (c ≤ h) then
    (s.postNotice Code.ST_ROLLBACK_BLOCKED n 0 0x01 c pin).stopAfter n c
  else s.startRollback n c

/-- DIVERGENCE_DECIDED (R226, R227, R236, R237, R241). -/
def execDivergenceDecided (site : Fin 16) (s : State) : Out :=
  .next
    (let n := site.val
     let x := s.site n
     match lowestDiv x.ra.found with
     | none => s
     | some d =>
       if x.state ≠ .running ∨ s.checksBefore n d.2.1 = false then s
       else
         let c := d.1
         let first := getBit x.noticed 0
         let s := s.setSite n
           { x with
             noticed := putBit x.noticed 0 true
             ra := { x.ra with
                     divergences := satInc x.ra.divergences
                     lastDivCycle := BitVec.ofNat 48 c
                     lastDivPin := BitVec.ofNat 16 d.2.2.1
                     lastDivCode := BitVec.ofNat 8 d.2.2.2.1
                     lastDivAct := BitVec.ofNat 8 d.2.2.2.2
                     found := x.ra.found.erase d } }
         let s := if first then s else s.postNotice Code.ST_OK n 0 0x01 c d.2.2.1
         if x.img.policy = 1 ∧ x.draining = false then s else (s.actOnDiv n c d.2.2.1).sendRollback n c)

/-! ### Rollback (R233, R234, R242) -/

/-- A VC0 flit of the site is on the rings. -/
def State.flitsOf (s : State) (n : Nat) : Bool := s.ring.flits.any fun f => f.site == some n

/-- Codes of cycles from `c` on that are not yet sent become keep; their expects and checks are discarded (R233). -/
def Lane.rollback (l : Lane) (c0 c : Nat) : Lane :=
  { l with
    outq := l.outq.map fun e =>
      if c ≤ e.cycle then { e with codes := e.codes.filter fun k => l.sent c0 e.cycle (k.1 / 32) } else e
    expects := l.expects.filter fun e => decide (e.cycle < c)
    specs := l.specs.filter fun b => decide (b.cycle < c)
    fail := { l.fail with mcPend := l.fail.mcPend.filter fun m => decide (m.1 < c) } }

/-- The sash begins cycle c again (R233). -/
def Sash.replay (x : Sash) : Sash :=
  { x.begin with
    outBuf := []
    inBuf := []
    inFlag := 0
    inPoison := 0
    inLinkPoison := 0
    inUnsat := 0
    sbFlags := [] }

/-- ROLLBACK (R233, R234, R242): the site undoes back to its target and replays from step 0 of that cycle. -/
def execRollback (site : Fin 16) (s : State) : Out :=
  .next
    (let n := site.val
     match (s.site n).ra.target with
     | none => s
     | some c =>
       if (s.site n).state ≠ .running ∨ (s.site n).ra.state ≠ .rollback ∨ s.flitsOf n = true then s
       else
         let m := (s.site n).cycle.toNat
         let s := s.undoSite n c
         if (s.site n).state ≠ .running then s
         else
           let ls := s.siteSashes n
           let c0 := (s.site n).c0
           let s := s.modSashes ls Sash.replay
           let s := s.modLanes ls fun l => l.rollback c0 c
           s.modSite n fun x =>
             { x with
               cycle := BitVec.ofNat 48 c
               hingeBegun := false
               arriveSent := false
               childArr := []
               remoteUa := none
               hingeWait := 0
               hingeRun := 0
               arriveLate := false
               relPend := none
               ra := { x.ra with
                       found := x.ra.found.filter fun d => decide (d.1 < c)
                       state := .speculate
                       replay := true
                       replayTo := m
                       target := none
                       rollbacks := satInc x.ra.rollbacks } })

end Sys2Proof.Machine
end

