-- ==== Sys2Proof/Machine/Hinge.lean ====
section
/-! DEFINITION. The hinge (R56 to R63), the tokens that join units (R124 to R127), and transoms (R152 to R157, R533). -/

namespace Sys2Proof.Machine

/-! ### Transoms at H4 (R152, R156) -/

/-- Slot of a patch entry for (pane, address), else the first free one (R153). -/
def patchSlot (t : Tab (Option PatchEntry)) (p a : Nat) : Nat :=
  match (List.range 64).find? fun k => match tget none t k with | some e => e.pane == p && e.addr == a | none => false with
  | some k => k
  | none => ((List.range 64).find? fun k => (tget none t k).isNone).getD 63

/-- Entries 0 to 7 of a cell record (R92). -/
def recEntries (r : List Byte) : Tab Word :=
  tfill 0 [] 0 ((List.range 8).map fun e => BitVec.ofNat 32 (fld r (4 * e) 4))

/-- Scramble entries of a cell record (R92). -/
def recScr (r : List Byte) : Tab (BitVec 8) := tfill 0 [] 0 (bytesAt r 0x5C 32)

/-- Replace the masked parts of a cell; a new loop starts at entry 0 (R93, R152). -/
def WordCell.patch (c : WordCell) (mask : BitVec 8) (r : List Byte) : WordCell :=
  let c := if getBit mask 0 then { c with entries := recEntries r, parityBad := 0, xprod := r.getD 0x7C 0 } else c
  let c :=
    if getBit mask 1 then { c with len := BitVec.ofNat 4 (fld r 0x20 1), pdly := BitVec.ofNat 3 (bits (fld r 0x20 1) 4 3) } else c
  let c := if getBit mask 2 then { c with scr := recScr r } else c
  if getBit mask 0 || getBit mask 1 then { c with pc := 0, paceHist := 0 } else c

/-- Apply one change of a transom at hinge `h` (R152, R156). -/
def State.applyRec (s : State) (h : Nat) (i : Nat) (r : TransomRec) : State :=
  match r with
  | .ipatch p a w =>
    s.modSash i fun x => { x with patches := tset none x.patches (patchSlot x.patches p a) (some { pane := p, addr := a, word := w }) }
  | .wpatch c m b =>
    if c < 64 then s.modCell i c fun v => v.patch m b
    else s.modSash i fun x => { x with wen := tset 0 x.wen (c - 64) (BitVec.ofNat 65 (fld b 0 9)) }
  | .deposit p k v =>
    s.modSash i fun x =>
      { x with
        st := tmod 0 x.st p fun b => putBit b (k % 512) v
        shadow := tmod 0 x.shadow p fun b => putBit b (k % 512) v }
  | .pinpatch p f v row => s.modLane i fun l => l.patchPin (h + 1) p.toNat f.toNat v.toNat row
  | .trigpatch f v => s.modTrig i fun t => { t with staged := t.staged ++ [(h + 1, f, v)] }

/-- Deposits come last (R156). -/
def TransomRec.isDeposit : TransomRec → Bool
  | .deposit _ _ _ => true
  | _ => false

/-- Apply the staged transom as of hinge `h`, and end its command with that hinge and the transom's IMAGE_ID (R155, R156, R533; the place
of the IMAGE_ID is a DESIGN CHOICE, log entry 85). -/
def State.applyTransom (s : State) (n h : Nat) : State :=
  match (s.site n).transom with
  | none => s
  | some t =>
    let rs := t.parts.filter (fun r => !r.2.isDeposit) ++ t.parts.filter fun r => r.2.isDeposit
    let s := rs.foldl (fun s r => s.applyRec h r.1 r.2) s
    let s := s.modSite n fun x =>
      { x with transom := none, transomed := true, ra := { x.ra with transomHinges := x.ra.transomHinges ++ [h] } }
    s.finish t.ticket Code.ST_OK (leBytes h 8 ++ leBytes t.id.toNat 8)

/-- The site's transom is committed for hinge `h`. -/
def Site.transomDue (x : Site) (h : Nat) : Bool :=
  match x.transom with
  | some t => t.committed && t.hinge == h
  | none => false

/-- TRANSOM_COMMIT (R155): the commit reaches the root before the hinge's first arrival, or the transom is late. -/
def execTransomCommit (site : Fin 16) (s : State) : Out :=
  .next
    (let n := site.val
     let x := s.site n
     match x.transom with
     | none => s
     | some t =>
       if t.committed then s
       else if t.hinge < x.cycle.toNat ∨ (t.hinge = x.cycle.toNat ∧ x.hingeBegun = true) then
         (s.modSite n fun x => { x with transom := none }).finish t.ticket Code.ST_TRANSOM_LATE []
       else s.modSite n fun x => { x with transom := some { t with committed := true } })

/-- PATCH_RETIRE (R153): the store takes the patch's word and the entry is freed. -/
def execPatchRetire (sash : Fin 64) (pane : Fin 256) (addr : BitVec 9) (s : State) : Out :=
  .next
    (let x := s.sash sash.val
     let k := patchSlot x.patches pane.val addr.toNat
     match tget none x.patches k with
     | some e =>
       if e.pane = pane.val ∧ e.addr = addr.toNat then
         s.setSash sash.val
           { x with
             istore := tset 0 x.istore (e.pane * 512 + e.addr) e.word
             istoreErr := terase x.istoreErr (e.pane * 512 + e.addr)
             patches := tset none x.patches k none }
       else s
     | none => s)

/-! ### Commit groups (R156, R158, R159) -/

/-- The group's shadow comes into use (R158). -/
def CommitGroup.apply (g : CommitGroup) : CommitGroup := { g with inUse := g.shadow, pend := false, gen := g.gen + 1 }

/-- The commit word as it reads (R158). -/
def CommitGroup.commitWord (g : CommitGroup) : Word := BitVec.ofNat 32 (b2n g.pend * 2 ^ 31 + g.gen.toNat * 2 ^ 16)

/-- The shadow takes the values in use (R158, R159). -/
def CommitGroup.discard (g : CommitGroup) : CommitGroup := { g with shadow := g.inUse }

/-- A field write goes to the shadow; refused while a commit is pending (R158, R159). -/
def CommitGroup.write (g : CommitGroup) (off : Nat) (v : Word) : Option Status × CommitGroup :=
  if g.pend then (some Code.ST_COMMIT_PENDING, g) else (none, { g with shadow := tset 0 g.shadow off v })

/-- A commit: an L group and a group of an idle block apply at once, a running H group at its boundary; a running S group and a group
with a commit pending refuse (R159). -/
def CommitGroup.commit (g : CommitGroup) (running : Bool) : Option Status × CommitGroup :=
  if g.pend then (some Code.ST_COMMIT_PENDING, g)
  else
    match g.cls, running with
    | .s, true => (some Code.ST_FIELD_BUSY, g)
    | .h, true => (none, { g with pend := true })
    | _, _ => (none, g.apply)

/-- Change the commit groups of site `n`. -/
def State.modGroups (s : State) (n : Nat) (f : CommitGroup → CommitGroup) : State :=
  { s with groups := tmapv none (fun _ g => g.map fun g => if g.site = n then f g else g) s.groups }

/-- Apply every H-class group of site `n` whose commit waits (R156, R159). -/
def State.applyGroups (s : State) (n : Nat) : State := s.modGroups n fun g => if g.pend && g.cls == .h then g.apply else g

/-- A load or rewind of site `n`: every shadow of its groups holds the values in use (R159). -/
def State.resetGroups (s : State) (n : Nat) : State := s.modGroups n fun g => { g.discard with pend := false }

/-! ### H0 (R56) -/

/-- Bits of a flag word that belong to the bank of parity `p`: bit 2t + p of every tag t (R107). -/
def bankMask (p : Nat) : BitVec 128 :=
  BitVec.ofNat 128 ((if p = 0 then 1 else 2) * 0x55555555555555555555555555555555)

/-- Tags of the sash's stop with HL = 1 that this cycle has not launched (R105). -/
def State.hingeLaunchLeft (s : State) (i : Nat) : Bool :=
  (s.stop i).active.tags.any fun e => getBit e.2 31 && getBit e.2 24 && !getBit (s.sash i).launched e.1

/-- Sash `i` at H0 can raise arrival: its reads have landed and its bundles are handed over (R56). -/
def State.hingeReady (s : State) (i : Nat) : Bool :=
  (s.sash i).phase == .h0 && (s.sash i).landings.isEmpty && !s.hingeLaunchLeft i

/-- HINGE (R56, R57): the sash at H0, its reads landed and its bundles handed over, checks its RECVs and raises arrival. The
step clocks that H0 waits for in-flight reads count neither as a stall nor as a pacing wait (DESIGN CHOICE, log entry 73). -/
def execHinge (sash : Fin 64) (s : State) : Out :=
  .next
    (let i := sash.val
     let x := s.sash i
     match s.siteOf i with
     | none => s
     | some n =>
       if s.hingeReady i = false then s
       else
         let bad := x.inUnsat &&& bankMask ((s.site n).cycle.toNat % 2)
         let s := s.setSash i { x with phase := .arrived, stall := none }
         let s := s.modSite n fun y => { y with hingeBegun := true }
         if bad = 0 then s else s.pendSash i Code.TF_RECV_TIMEOUT 0xFF (((List.range 128).find? (getBit bad) |>.getD 0) / 2) )

/-! ### The decision (R60, R222) -/

/-- Parts whose arrivals the unit waits for: those its link records name, and those whose PARENT it is by the chain (R62, R125,
R138). -/
def SiteImage.children (g : SiteImage) : List Nat :=
  if g.nparts = 0 then []
  else
    let named := (g.links.filter (·.role == 1)).map (·.peerPart)
    named ++ g.kids.filter fun p => !named.contains p

/-- The pacing condition of H2 holds: every response compared with D = 0, fewer than D cycles uncommitted with D ≥ 1 (R56, R222). -/
def State.paced (s : State) (n : Nat) : Bool :=
  let x := s.site n
  if x.img.depth = 0 then s.cycleCompared n x.cycle.toNat
  else decide (x.cycle.toNat + 1 - x.ra.oldest < x.img.depth)

/-- Checkpoint writes of the hinge before are still pending in sash `i` (R229). -/
def State.deltaLate (s : State) (n i : Nat) : Bool :=
  (s.sash i).delta.queue.any fun r => drHinge r != (s.site n).cycle.toNat % 2 ^ 32

/-- Steps of the hinge: 6, or LINK_HINGE of the contract in a site of several units, 6 without an entry (R56, R62, R175). -/
def SiteImage.hingeSteps (g : SiteImage) : Nat := if g.nparts = 0 then 6 else g.contractOr 6 0 6

/-- Hinge steps after which the root's decision takes effect: H0 to H3, or the part of LINK_HINGE before H4 (R56, R175). -/
def SiteImage.releaseStep (g : SiteImage) : Nat := max 2 (g.hingeSteps - 2)

/-- Every child part's ARRIVE has come (R62). -/
def Site.kidsIn (x : Site) : Bool := x.img.children.all fun p => x.childArr.any (·.1 == p)

/-- A fault is pending in the unit, or has come with an arrival (R60, R125). -/
def Site.faultDue (x : Site) : Bool := !x.pend.isEmpty || x.childArr.any (·.2)

/-- H4 waits for the delta writes of the hinge before in some sash (R229). -/
def State.hingeLate (s : State) (n : Nat) : Bool := (s.siteSashes n).any fun i => s.deltaLate n i

/-- The site is at its hinge, every sash of it arrived. -/
def State.atHinge (s : State) (n : Nat) : Bool :=
  let x := s.site n
  x.state == .running && !x.draining && x.ra.state != .rollback && !(s.siteSashes n).isEmpty && s.allArrived n

/-- The site waits at H2 for responses or for a commit: a pacing wait (R56, R58, R222). -/
def State.hingePacing (s : State) (n : Nat) : Bool :=
  s.atHinge n && (s.site n).hingeRun == 2 && !(s.site n).arriveSent && !s.paced n

/-- HINGE_RELEASE has something to do in the present step: the root's decision takes effect, a far part passes its arrival at H2, or
a release that has come takes effect once H4 may pass (R56, R60, R62, R229). -/
def State.releaseDue (s : State) (n : Nat) : Bool :=
  let x := s.site n
  s.atHinge n &&
    (match x.relPend with
     | some _ => !s.hingeLate n
     | none =>
       x.kidsIn && s.paced n &&
         (if x.img.farPart then !x.arriveSent && decide (2 ≤ x.hingeRun)
          else decide (x.img.releaseStep ≤ x.hingeRun) && (x.faultDue || !s.hingeLate n)))

/-- A halt is due at this hinge (R60, R135, R238). -/
def Site.haltDue (x : Site) : Bool :=
  x.haltPend || (x.img.cycles != 0 && x.cycle.toNat + 1 == x.img.cycles) || x.cycle == BitVec.allOnes 48 ||
    (match x.ra.stopAt with | some c => decide (c ≤ x.cycle.toNat) | none => false)

/-! ### Tokens (R124, R125, R398) -/

/-- KIND values of R124. -/
def tkArrive : Nat := 0
def tkArriveFault : Nat := 1
def tkContinue : Nat := 2
def tkHalt : Nat := 3
def tkFault : Nat := 4

/-- A HINGE frame's header block (R124). -/
def hingeHeader (kind seq hinge : Nat) : BitVec 64 :=
  let h := 0xE2 + kind % 8 * 2 ^ 8 + seq % 256 * 2 ^ 24 + hinge % 65536 * 2 ^ 32
  BitVec.ofNat 64 (h + crc16 (bitsLow h 48) * 2 ^ 48)

/-- The lane of the site that links to part `p` in the hinge tree, toward the parent (role 0) or a child (role 1). -/
def State.hingeLane (s : State) (n p role : Nat) : Option Nat :=
  let g := (s.site n).img
  (g.links.find? fun l => l.peerPart == p && l.role == role).bind fun l => g.sashes[l.vsash]?

/-- Send a hinge token to part `p`: three copies over the link lane, or one LINK_HINGE frame (R125, R398). -/
def State.sendToken (s : State) (n p role kind : Nat) : State :=
  let x := s.site n
  match s.hingeLane n p role with
  | some i =>
    s.modLane i fun l =>
      let f := (hingeHeader kind l.link.txSeq.toNat x.cycle.toNat, (0 : BitVec 512))
      { l with link := { l.link with txSeq := l.link.txSeq + 1, tx := l.link.tx ++ [f, f, f] } }
  | none =>
    s.send (s.frame ftLinkHinge (tget 0 x.img.peers p) x.img.part
      (leBytes (kind + x.cycle.toNat * 2 ^ 16) 8 ++ leBytes x.img.id.toNat 8))

/-- Pass a release down the tree. -/
def State.releaseDown (s : State) (n kind : Nat) : State :=
  (s.site n).img.children.foldl (fun s p => s.sendToken n p 1 kind) s

/-! ### H3 to H5 (R56) -/

/-- Log the hinge of sash `i` into its checkpoint ring; the entry of a cycle that has committed before its H4 is free (R228). -/
def Sash.logHinge (x : Sash) (h oldest : Nat) (netlog : Bool) : Sash :=
  let d := x.delta.add (blockDeltas h 1 x.st x.shadow)
  let d := if netlog then d.add (blockDeltas h 2 x.delta.netPrev x.net) else d
  let d := d.close h
  { x with delta := { d with netPrev := x.net, entries := d.entries.filter fun e => decide (oldest ≤ e.1) } }

/-- H3 and H4 of one sash for the hinge of cycle `c` (R56, R107). -/
def Sash.hinge34 (x : Sash) (c : Nat) : Sash :=
  let m := bankMask (c % 2)
  { x with
    st := x.shadow
    exch := 0
    sbFlags := []
    rbwSeen := false
    inBuf := x.inBuf.filter fun e => e.1 % 2 != c % 2
    inFlag := x.inFlag &&& ~~~m
    inPoison := x.inPoison &&& ~~~m
    inLinkPoison := x.inLinkPoison &&& ~~~m
    inUnsat := x.inUnsat &&& ~~~m }

/-- Engine state after a hinge that continues (R242). -/
def RunAhead.passHinge (r : RunAhead) (h : Nat) : RunAhead :=
  { r with
    state := if r.state = .depthWait then .speculate else r.state
    replay := r.replay && decide (h < r.replayTo) }

/-- H3 and H4 of the site (R56, R156, R228). -/
def State.hingeApply (s : State) (n : Nat) : State :=
  let x := s.site n
  let h := x.cycle.toNat
  let ls := s.siteSashes n
  let s := if x.img.depth = 0 then s else s.modSashes ls fun y => y.logHinge h x.ra.oldest x.img.netlog
  let s := if x.img.depth = 0 then s else
    s.modSite n fun x =>
      { x with ra := { x.ra with ckptPeak := BitVec.ofNat 32 (ls.foldl (fun m i => max m (s.sash i).delta.used) x.ra.ckptPeak.toNat) } }
  let s := s.modSashes ls fun y => y.hinge34 h
  let s := s.modLanes ls fun l => { l with fail := { l.fail with mcSeen := false } }
  let s := s.modSite n fun x =>
    { x with
      cycle := if x.cycle = BitVec.allOnes 48 then x.cycle else x.cycle + 1
      cycleLimit := x.cycleLimit || x.cycle == BitVec.allOnes 48
      hingeBegun := false
      arriveSent := false
      childArr := []
      remoteUa := none
      hingeWait := 0
      hingeRun := 0
      arriveLate := false
      relPend := none
      ra := x.ra.passHinge h }
  let s := s.applyGroups n
  if (s.site n).transomDue h then s.applyTransom n h else s

/-- The sash's release: `left` hinge steps of H3 to H5 are still to pass (R56). -/
def Sash.resume (left : Nat) (x : Sash) : Sash := { x with phase := .resume left, stall := none, pacing := false }

/-- The hinge continues: H3 and H4 take effect, and `left` steps later step 0 of the next cycle begins (R56). -/
def State.releaseContinue (s : State) (n left : Nat) : State :=
  let s := s.releaseDown n tkContinue
  let s := s.hingeApply n
  s.modSashes (s.siteSashes n) (Sash.resume left)

/-- The hinge halts the site: H3 and H4, then the drain (R60, R195, R237, R238). -/
def State.releaseHalt (s : State) (n : Nat) : State :=
  let stop := (s.site n).ra.stopAt.isSome
  let s := s.releaseDown n tkHalt
  let s := s.hingeApply n
  let ls := s.siteSashes n
  let s := s.modSashes ls Sash.halt
  let x := s.site n
  let s := if stop then s.modLanes ls fun l => l.cut x.c0 x.cycle.toNat else s
  let s := s.modSite n fun x =>
    { x with draining := true, cutCodes := stop, ra := { x.ra with state := .drain, stopAt := none } }
  s.settle n

/-- The hinge finds a fault: FAULTED, with the unit's own code, or TF_REMOTE_FAULT with the UA of the unit where the fault arose (R60,
R125, R530). -/
def State.releaseFault (s : State) (n : Nat) : State :=
  let s := s.releaseDown n tkFault
  let x := s.site n
  match worstFault x.pend with
  | some p => s.enterFaulted n p (x.pend.erase p)
  | none => s.enterFaulted n (faultOf Code.TF_REMOTE_FAULT 0xFF 0xFF 0 (x.remoteUa.getD 0).toNat) []

/-- HINGE_RELEASE (R56, R60, R62): the root decides, a part's local root passes its arrival to its parent, or a release that waited
for delta writes takes effect (R229). -/
def execHingeRelease (site : Fin 16) (s : State) : Out :=
  .next
    (let n := site.val
     let x := s.site n
     if s.releaseDue n = false then s
     else
       match x.relPend with
       | some k => if k = tkHalt then s.releaseHalt n else s.releaseContinue n 2
       | none =>
         if x.img.farPart then
           (s.modSite n fun x => { x with arriveSent := true, hingeWait := 0 }).sendToken n x.img.parent 0
             (if x.faultDue then tkArriveFault else tkArrive)
         else if x.faultDue then s.releaseFault n
         else if x.haltDue then s.releaseHalt n
         else s.releaseContinue n 2)

/-! ### Tokens received (R125, R126, R398) -/

/-- The frame's SEQ on a link lane: the expected value or a copy's; anything else is a gap (R126). -/
def State.linkSeq (s : State) (i : Nat) (seq : BitVec 8) : State :=
  let l := s.lane i
  let gap := match l.link.rxSeq with | some e => decide (seq ≠ e ∧ seq + 1 ≠ e) | none => false
  let s := s.setLane i { l with link := { l.link with rxSeq := some (seq + 1) } }
  if gap then s.pendSash i Code.TF_LINK_POISON 0xFF seq.toNat else s

/-- A frame of which only the place in the sequence is known (R126). -/
def State.skipSeq (s : State) (i : Nat) : State :=
  s.modLane i fun l => { l with link := { l.link with rxSeq := l.link.rxSeq.map (· + 1) } }

/-- The part a token on a path comes from. -/
def State.tokenPart (s : State) (n : Nat) (via : TokenPath) : Nat :=
  match via with
  | .chain p => p
  | .lane l _ =>
    let g := (s.site n).img
    match g.links.find? fun k => g.sashes[k.vsash]? == some l.val with
    | some k => k.peerPart
    | none => 0

/-- A token of KIND `kind` arrives; `act` is what a good first copy does, `lost` what all copies bad do (R125, R126, R398). -/
def State.token (s : State) (n : Nat) (via : TokenPath) (kind : Nat) (hinge : BitVec 16) (good : Bool)
    (act : State → Nat → State) (lost : State → Nat → State) : State :=
  let x := s.site n
  if x.state ≠ .running ∨ x.img.nparts = 0 ∨ hinge.toNat ≠ x.cycle.toNat % 65536 then s
  else
    let part := s.tokenPart n via
    match via with
    | .chain _ =>
      if good then act s part else lost (s.pendFault n (faultOf Code.TF_LINK_POISON 0xFF 0xFF 0 part)) part
    | .lane l seq =>
      let s := if good then s.linkSeq l.val seq else s
      let k := (s.lane l.val).link
      if k.lastToken = some (kind, hinge) then s
      else if good then
        act (s.modLane l.val fun y => { y with link := { y.link with lastToken := some (kind, hinge), badCopies := 0 } }) part
      else if k.badCopies < 2 then s.modLane l.val fun y => { y with link := { y.link with badCopies := y.link.badCopies + 1 } }
      else
        let s := (s.skipSeq l.val).modLane l.val fun y =>
          { y with link := { y.link with lastToken := some (kind, hinge), badCopies := 0 } }
        lost (s.pendFault n (faultOf Code.TF_LINK_POISON l.val 0xFF 0 part)) part

/-- Note a child's arrival. -/
def State.childArrives (s : State) (n part : Nat) (fault : Bool) : State :=
  s.modSite n fun x => { x with childArr := x.childArr.filter (·.1 != part) ++ [(part, fault)] }

/-- A release of KIND `k` comes to a part that has passed its arrival: H3 and H4 take effect, H4 first waiting for the delta writes of the
hinge before (R56, R62, R229). -/
def State.releaseTaken (s : State) (n k : Nat) : State :=
  if s.hingeLate n then s.modSite n fun x => { x with relPend := some k }
  else if k = tkHalt then s.releaseHalt n
  else s.releaseContinue n 3

/-- A release acts on a part that has passed its arrival. -/
def State.released (s : State) (n : Nat) (f : State → State) : State := if (s.site n).arriveSent && (s.site n).relPend.isNone then f s else s

/-- The other parts of a multi-unit site, with their UAs. -/
def SiteImage.others (g : SiteImage) : List (Nat × BitVec 18) :=
  ((List.range g.nparts).filter (· ≠ g.part)).map fun p => (p, tget 0 g.peers p)

/-- A token of a fault comes: which of the site's other units the fault arose in no token says, so the UA that TF_REMOTE_FAULT names is a
free one of theirs (R125; DESIGN CHOICE, log entry 106). -/
def State.noteRemote (s : State) (n : Nat) : State :=
  let (f, s) := s.drawFree
  s.modSite n fun x =>
    let l := x.img.others
    { x with remoteUa := x.remoteUa.or (some ((l.map (·.2)).getD ((Config.freeWord f).toNat % l.length) 0)) }

/-- What a hinge token of KIND `kind` does to site `n` (R62, R125, R126, R398). -/
def State.hingeToken (s : State) (n : Nat) (via : TokenPath) (kind : Nat) (hinge : BitVec 16) (good : Bool) : State :=
  let lost (s : State) (_ : Nat) : State := s.released n (·.releaseFault n)
  match kind with
  | 0 => s.token n via tkArrive hinge good (fun s p => s.childArrives n p false) fun s p => s.childArrives n p true
  | 1 => s.token n via tkArriveFault hinge good (fun s p => (s.noteRemote n).childArrives n p true) fun s p => s.childArrives n p true
  | 2 => s.token n via tkContinue hinge good (fun s _ => s.released n (·.releaseTaken n tkContinue)) lost
  | 3 => s.token n via tkHalt hinge good (fun s _ => s.released n (·.releaseTaken n tkHalt)) lost
  | 4 => s.token n via tkFault hinge good (fun s _ => s.released n fun s => (s.noteRemote n).releaseFault n) lost
  | _ => s

/-- HINGE_ARRIVE (R62, R125). -/
def execHingeArrive (site : Fin 16) (via : TokenPath) (hinge : BitVec 16) (good : Bool) (s : State) : Out :=
  .next (s.hingeToken site.val via tkArrive hinge good)

/-- HINGE_ARRIVE_FAULT (R125). -/
def execHingeArriveFault (site : Fin 16) (via : TokenPath) (hinge : BitVec 16) (good : Bool) (s : State) : Out :=
  .next (s.hingeToken site.val via tkArriveFault hinge good)

/-- HINGE_RELEASE_CONTINUE (R62, R125). -/
def execHingeReleaseContinue (site : Fin 16) (via : TokenPath) (hinge : BitVec 16) (good : Bool) (s : State) : Out :=
  .next (s.hingeToken site.val via tkContinue hinge good)

/-- HINGE_RELEASE_HALT (R125, R455). -/
def execHingeReleaseHalt (site : Fin 16) (via : TokenPath) (hinge : BitVec 16) (good : Bool) (s : State) : Out :=
  .next (s.hingeToken site.val via tkHalt hinge good)

/-- HINGE_RELEASE_FAULT (R125). -/
def execHingeReleaseFault (site : Fin 16) (via : TokenPath) (hinge : BitVec 16) (good : Bool) (s : State) : Out :=
  .next (s.hingeToken site.val via tkFault hinge good)

end Sys2Proof.Machine
end

