-- ==== Sys2Proof/Machine/Fail.lean ====
section
/-! DEFINITION. The fail path from the mismatch FIFO to a closed fail set (chapter 09, R244
to R263, R536). -/

namespace Sys2Proof.Machine

/-! ### Sets and slices (R249, R257) -/

/-- The set a site has open or closed last. -/
def Site.setNo (x : Site) : Nat := x.fl.set.getD 0

/-- REC_BASE, BM_BASE and MRC_BASE of the site's set (R252). -/
def Site.recBase (x : Site) : Nat := tget 0 x.img.failcfg.recBase x.setNo
def Site.bmBase (x : Site) : Nat := tget 0 x.img.failcfg.bmBase x.setNo
def Site.mrcBase (x : Site) : Nat := tget 0 x.img.failcfg.mrcBase x.setNo

/-- SLICE_LEN for `n` sashes; no slices with REC = 0 (R249, R252). -/
def FailCfg.sliceLen (f : FailCfg) (set n : Nat) : Nat :=
  if f.rec_ then (tget 0 f.recLen set - 0x400) / (512 * n) * 512 else 0

def Site.sliceLen (x : Site) : Nat := x.img.failcfg.sliceLen x.setNo x.img.sashes.length

/-- Number of must-repair counters (R261). -/
def FailCfg.counters (f : FailCfg) : Nat := if f.mrc then 2 ^ f.rowb * f.ncb + 2 ^ (f.rowb - f.brb + f.cb) else 0

/-- Lines that hold the counters. -/
def FailCfg.counterLines (f : FailCfg) : Nat := (f.counters + 7) / 8

/-- Word indices of the row and column counters of a cell (R261). -/
def FailCfg.counterWords (f : FailCfg) (row rc : Nat) : Nat × Nat :=
  (row * f.ncb + rc / 2 ^ f.bcb, 2 ^ f.rowb * f.ncb + row / 2 ^ f.brb * 2 ^ f.cb + rc)

/-- Bit index of a cell in the bitmap (R259). -/
def FailCfg.bitIndex (f : FailCfg) (row col io : Nat) : Nat := (row * 2 ^ f.colb + col) * 2 ^ f.iob + io

/-- The sash with SASH_INDEX 0, which holds the counters (R261). -/
def State.counterSash (s : State) (n : Nat) : Nat :=
  ((s.siteSashes n).find? fun i => (s.sash i).cfg.index == 0).getD 0

/-- STATE of the set header (R257): `st` is 1 CLEARED, 2 OPEN or 4 CLOSED. -/
def FailLive.stateByte (f : FailLive) (st : Nat) : Nat :=
  st + 8 * b2n f.runFaulted + 16 * b2n f.incomplete + 32 * b2n f.wrapped

/-- The set header of R257 with the site's present counts. -/
def Site.failHeader (x : Site) (n st : Nat) : List Byte :=
  let f := x.img.failcfg
  let c := x.fl
  leBytes 0x4C494146 4 ++ leBytes (c.stateByte st) 1 ++ leBytes n 1 ++ leBytes x.setNo 1 ++ leBytes x.img.sashes.length 1 ++
    leBytes x.img.id.toNat 8 ++ leBytes c.firstCycle.toNat 8 ++ leBytes x.cycle.toNat 8 ++ leBytes c.startTs.toNat 16 ++
    leBytes c.stored.toNat 8 ++ leBytes c.dropped.toNat 8 ++ leBytes c.lost.toNat 8 ++ leBytes c.filtered.toNat 8 ++
    leBytes c.bmOrs.toNat 8 ++ leBytes c.bmNew.toNat 8 ++ leBytes c.mcExtra.toNat 4 ++ leBytes c.filterStale.toNat 4 ++
    leBytes x.sliceLen 8 ++ leBytes x.bmBase 8 ++ leBytes x.mrcBase 8 ++
    [f.rowb, f.colb, f.iob, f.rowsh, f.colsh, f.brb, f.bcb, f.capctl.toNat].map (BitVec.ofNat 8) ++ leBytes f.ioFirst 2 ++
    List.replicate 6 0 ++ leBytes c.formed.toNat 8 ++ List.replicate 0x168 0 ++
    (List.range 64).flatMap fun i => leBytes (tget 0 c.wptr i).toNat 8

/-- Change the site's fail counts. -/
def State.modFl (s : State) (n : Nat) (f : FailLive → FailLive) : State := s.modSite n fun x => { x with fl := f x.fl }

/-- Records lost: LOST and INCOMPLETE (R263, R536). -/
def FailLive.lose (f : FailLive) (k : Nat) : FailLive := { f with lost := satAdd f.lost k, incomplete := true }

/-- A FAILSET event (R467). -/
def State.postFailSet (s : State) (n : Nat) (st : Status) (action stb : Nat) : State :=
  let x := s.site n
  s.post 0x0F st n x.setNo action
    (leBytes x.cycle.toNat 8 ++ leBytes x.fl.formed.toNat 8 ++ leBytes x.fl.lost.toNat 8 ++ leBytes (x.fl.stateByte stb) 1)

/-- An uncorrectable error in a buffer or counter line of sash `i`: the site faults at once while ARMED or RUNNING (R263). -/
def State.failPoison (s : State) (n i a : Nat) : State :=
  if (s.site n).state = .armed ∨ (s.site n).state = .running then s.faultSashNow i Code.DI_POISON_READ 0xFF a else s

/-! ### The streamer (R248, R258 to R262) -/

/-- Store a chunk of records into the sash's slice, or drop it (R248, R249, R258). -/
def State.failStore (s : State) (n i : Nat) (recs : List Rec16) : State :=
  let x := s.site n
  let f := x.img.failcfg
  let idx := (s.sash i).cfg.index
  let len := x.sliceLen
  let w := (tget 0 x.fl.wptr idx).toNat
  if recs.isEmpty then s
  else if (s.lane i).fail.sliceFull || (f.fullpol != 1 && decide (len < w + 512)) then
    let first := f.fullpol == 2 && !(s.lane i).fail.sliceFull
    let s := s.modLane i fun l => { l with fail := { l.fail with sliceFull := true } }
    let s := s.modFl n fun c => { c with dropped := satAdd c.dropped recs.length, incomplete := true }
    if first then (s.askHalt n).postFailSet n Code.ST_FAIL_FULL 2 2 else s
  else
    let a := x.recBase + 0x400 + idx * len + w % max 512 len
    let bytes := bytesAt (recs.flatMap fun r => leBytes r.toNat 16) 0 512
    let pay := (List.range 8).map fun j => BitVec.ofNat 512 (fld bytes (64 * j) 64)
    let s := s.newWorm i 1 8 a (BitVec.allOnes 64) pay (.failChunk i recs.length)
    s.modFl n fun c =>
      { c with wptr := tset 0 c.wptr idx (BitVec.ofNat 64 (w + 512)), wrapped := c.wrapped || decide (len ≤ w) }

/-- Send the bitmap OR of a record that has a cell (R259, R260). -/
def State.failBit (s : State) (n i : Nat) (r : Rec16) : State :=
  let x := s.site n
  let f := x.img.failcfg
  match f.cell r with
  | none => s
  | some (row, col, io) =>
    let k := f.bitIndex row col io
    let a := x.bmBase + k / 8
    let (rw, cw) := f.counterWords row (f.repCol col io)
    s.newWorm i 5 1 (a / 64 * 64) (BitVec.ofNat 64 (2 ^ (a % 64))) [BitVec.ofNat 512 (2 ^ (8 * (a % 64) + k % 8))]
      (.failOr i (a % 64) (k % 8) rw cw)

/-- Read up to 32 records from the fail buffer and send them (R248, R260, R263). -/
def State.failSend (s : State) (n i : Nat) : State :=
  let take := (s.lane i).fail.buf.take 32
  let good := (take.filter fun e => !s.padLineBad i e.1).map (·.2)
  let lines := ((take.filter fun e => s.padLineBad i e.1).map (·.1)).dedup
  let f := (s.site n).img.failcfg
  let s := s.modLane i fun l => { l with fail := { l.fail with buf := l.fail.buf.drop 32 } }
  let s := if good.length = take.length then s else s.modFl n fun c => c.lose (take.length - good.length)
  let s := lines.foldl (fun s l => ((s.memRead (padAddr i (32 * l)) 32).2.2).failPoison n i (padAddr i (32 * l))) s
  let s := if f.rec_ then s.failStore n i good else s
  if f.bitmap then good.foldl (fun s r => s.failBit n i r) s else s

/-! ### Answers (R260, R262, R536) -/

/-- The site of a fail worm's sash. -/
def State.failSite (s : State) (i : Nat) : Nat := (s.siteOf i).getD 0

/-- A chunk's WRITE is answered (R257, R536). -/
def State.failChunkDone (s : State) (i k : Nat) (st : Status) (a : Nat) : State :=
  let n := s.failSite i
  if st = Code.ST_OK then s.modFl n fun c => { c with stored := satAdd c.stored k }
  else (s.modFl n fun c => c.lose k).postAddr st a

/-- A bitmap OR is answered; a first fail counts and asks for its two counter updates (R257, R260, R262, R536). -/
def State.failOrDone (s : State) (i byte bit rw cw : Nat) (st : Status) (a : Nat) (pay : BitVec 512) : State :=
  let n := s.failSite i
  if st = Code.ST_OK then
    let new := !getBit pay (8 * byte + bit)
    let s := s.modFl n fun c => { c with bmOrs := satInc c.bmOrs, bmNew := if new then satInc c.bmNew else c.bmNew }
    let f := (s.site n).img.failcfg
    if new && f.mrc then
      let at_ (w : Nat) : Nat := padAddr (s.counterSash n) (32 * f.mrcFirst + 4 * w)
      let one : List (BitVec 512) := [BitVec.ofNat 512 (1 + 2 ^ 64)]
      (s.newWorm i 2 1 (at_ rw) (BitVec.allOnes 64) one (.failAdd i)).newWorm i 2 1 (at_ cw) (BitVec.allOnes 64) one (.failAdd i)
    else s
  else (s.modFl n fun c => { c with incomplete := true }).postAddr st a

/-- A counter update is answered; a poisoned counter line faults the site (R257, R263). -/
def State.failAddDone (s : State) (i : Nat) (st : Status) (a : Nat) : State :=
  let n := s.failSite i
  if st = Code.ST_OK then s
  else
    let s := s.modFl n fun c => { c with incomplete := true }
    if st = Code.DI_POISON_READ then s.failPoison n i a else s.postAddr st a

/-! ### The rows -/

/-- Lines of the fail buffer in use (R247). -/
def FailPath.lines (f : FailPath) : Nat := ((f.buf.map (·.1)).dedup).length

/-- FAIL_BUFFER_WRITE (R247): up to two records leave the FIFO for one buffer line in a port step the panes leave free. Without
FAILCFG nothing is stored (R253). -/
def execFailBufferWrite (sash : Fin 64) (s : State) : Out :=
  .next
    (let i := sash.val
     match s.siteOf i with
     | none => s
     | some n =>
       let f := (s.site n).img.failcfg
       let p := (s.lane i).fail
       if p.fifo = [] ∨ (s.sash i).portFree = false then s
       else if f.present = false then s.modLane i fun l => { l with fail := { l.fail with fifo := l.fail.fifo.drop 2 } }
       else if f.fbufLines ≤ p.lines then s
       else
         let line := f.fbufFirst + p.wline % max 1 f.fbufLines
         let recs := p.fifo.take 2
         let s := s.setPadLine i line (recs.flatMap fun r => leBytes r.toNat 16)
         (s.modSash i fun x => { x with portUsed := true }).modLane i fun l =>
           { l with
             fail := { l.fail with fifo := l.fail.fifo.drop 2, buf := l.fail.buf ++ recs.map (fun r => (line, r)), wline := l.fail.wline + 1 } })

/-- The streamer reads the buffer in a port step the panes leave free (R247). -/
def State.streamTakes (s : State) (n i : Nat) : State :=
  if (s.sash i).portFree then (s.failSend n i).modSash i fun x => { x with portUsed := true } else s

/-- FAIL_CHUNK_SEND (R248): a chunk of 32 records leaves; at fail close the last partial one. -/
def execFailChunkSend (sash : Fin 64) (s : State) : Out :=
  .next
    (let i := sash.val
     match s.siteOf i with
     | none => s
     | some n =>
       let p := (s.lane i).fail
       if 32 ≤ p.buf.length ∨ ((s.site n).fl.closing = true ∧ p.fifo = [] ∧ p.buf ≠ []) then s.streamTakes n i else s)

/-- FAIL_FLUSH_TIMEOUT (R248): the oldest record in the buffer is FLUSH_US old and a padded chunk is sent. -/
def execFailFlushTimeout (sash : Fin 64) (s : State) : Out :=
  .next
    (let i := sash.val
     match s.siteOf i with
     | none => s
     | some n => if (s.lane i).fail.buf = [] then s else s.streamTakes n i)

/-- A fail request of one of the sashes is still unanswered. -/
def State.failWorms (s : State) (l : List Nat) : Bool :=
  s.ring.worms.any fun w =>
    match w.owner with
    | .failChunk i _ | .failOr i _ _ _ _ | .failAdd i => l.contains i
    | _ => false

/-- Copy counter line `j` to MRC_BASE, with its poison if it has one (R256, R263, R536). -/
def State.copyCounterLine (s : State) (n j : Nat) : State :=
  let x := s.site n
  let i := s.counterSash n
  let from_ := padAddr i (32 * (x.img.failcfg.mrcFirst + j))
  let dst := x.mrcBase + 32 * j
  if (s.memAt dst).isNone then (s.modFl n fun c => { c with incomplete := true }).postAddr Code.ST_ADDR_UNMAPPED dst
  else
    let bad := s.padLineBad i (x.img.failcfg.mrcFirst + j)
    let (bs, _, s) := s.memRead from_ 32
    let s := s.memWrite dst bs
    if bad then
      let s := s.modFl n fun c => { c with incomplete := true }
      { s with mem := { s.mem with check := tfill none s.mem.check (dst / 8) (List.replicate 4 (some .poison)) } }
    else s

/-- Copy the counters to DDR (R256). -/
def State.copyCounters (s : State) (n : Nat) : State :=
  (List.range (s.site n).img.failcfg.counterLines).foldl (fun s j => s.copyCounterLine n j) s

/-- The end of fail close: the counters are copied, the header is written CLOSED and FAIL_CLOSED posted (R256). -/
def State.failCloseEnd (s : State) (n : Nat) : State :=
  let s := s.copyCounters n
  let s := s.modFl n fun c => { c with open_ := false, closing := false, reopened := false }
  let hdr := (s.site n).failHeader n 4
  let s := if (s.memAt (s.site n).recBase).isSome then s.memWrite (s.site n).recBase (bytesAt hdr 0 0x400) else s
  s.postFailSet n Code.ST_OK 1 4

/-- FAIL_CLOSE (R256): every record has left, and the set closes. -/
def execFailClose (site : Fin 16) (s : State) : Out :=
  .next
    (let n := site.val
     let x := s.site n
     let ls := x.img.sashes
     if x.fl.closing = false ∨ s.failWorms ls = true ∨ ls.any (fun i => (s.lane i).fail.fifo != [] || (s.lane i).fail.buf != []) = true
     then s
     else s.failCloseEnd n)

/-- Records of the FIFO and the buffer leave in chunks, at most `fuel` of them. -/
def State.failDrain (s : State) (n i : Nat) : Nat → State
  | 0 => s
  | fuel + 1 =>
    let p := (s.lane i).fail
    if p.fifo = [] ∧ p.buf = [] then s
    else
      let line := (s.site n).img.failcfg.fbufFirst
      let s := s.modLane i fun l =>
        { l with fail := { l.fail with fifo := [], buf := l.fail.buf ++ l.fail.fifo.map (fun r => (line, r)) } }
      (s.failSend n i).failDrain n i fuel

end Sys2Proof.Machine
end

