-- ==== Sys2Proof/Machine/Ring.lean ====
section
/-! DEFINITION. The ring exchange (chapter 04): bundles and their flits, the bundle watchdog, worms with their louvres, retries,
targets and answers, the BAR2 requests that travel as worms (R419, R420), and drain and swap. -/

namespace Sys2Proof.Machine

/-! ### Stops, rings and paths (R96, R97, R102) -/

/-- Ring position of a stop (R96). -/
def ringPos (n : Nat) : Nat :=
  if n < 16 then n + 1 else if n < 32 then n + 5 else if n < 48 then n + 10 else if n < 64 then n + 15
  else if n < 67 then n - 47 else if n < 70 then n - 30 else if n < 73 then n - 12 else if n < 76 then n + 6
  else if n = 76 then 0 else if n = 77 then 20 else if n = 78 then 41 else if n = 79 then 62 else if n = 80 then 40 else 61

/-- The stop at a ring position. -/
def stopAtPos (p : Nat) : Nat := ((List.range 82).find? fun n => ringPos n == p).getD 0

/-- The stop after `n` on ring `r`: clockwise for CW0 and CW1, else counter-clockwise (R97). -/
def nextStop (r n : Nat) : Nat := stopAtPos ((ringPos n + if r < 2 then 1 else 81) % 82)

/-- A worm from `src` to `dst` goes clockwise: the direction with fewer links, clockwise on a tie (R102). -/
def wormCw (src dst : Nat) : Bool := decide ((ringPos dst + 82 - ringPos src) % 82 ≤ 41)

/-- The first ring of the direction. -/
def wormBase (src dst : Nat) : Nat := if wormCw src dst then 0 else 2

/-- The ring of a worm: by DEST, or the twin of a ring with a failed link (R102, R116). -/
def RingState.wormRing (r : RingState) (src dst : Nat) : Nat :=
  let a := wormBase src dst + dst % 2
  let b := wormBase src dst + (1 - dst % 2)
  if r.failed.any (·.1 == a) && !r.failed.any (·.1 == b) then b else a

/-- The stops of a path of at most `fuel` links on ring `r`, from `a` to `b`, both included. -/
def pathStops (r a b : Nat) : Nat → List Nat
  | 0 => [a]
  | f + 1 => if a = b then [a] else a :: pathStops r (nextStop r a) b f

/-- The stops a worm passes. -/
def wormPath (src dst : Nat) : List Nat := pathStops (wormBase src dst) src dst 82

/-! ### The sideband (R99, R115) -/

/-- The sideband of a flit as it is sent: its CRC8 covers the data bits and bits [31:8], each from bit 0 (R99; the order of the bits is
DEDUCED from R124). -/
def flitSide (vc : Nat) (head tail par : Bool) (route : Nat) (data : BitVec 512) : BitVec 32 :=
  let top := route % 4096 * 2 ^ 7 + b2n par * 2 ^ 19 + b2n tail * 2 ^ 20 + b2n head * 2 ^ 21 + vc % 4 * 2 ^ 22
  BitVec.ofNat 32 (top * 256 + crc8 (bitsLow data.toNat 512 ++ bitsLow top 24))

/-- PAR of the sideband (R99). -/
def Flit.par (f : Flit) : Bool := getBit f.side 27
/-- ROUTE of the sideband (R99). -/
def Flit.route (f : Flit) : Nat := bits f.side.toNat 15 12
/-- The flit fails its CRC8 (R99, R115). -/
def Flit.bad (f : Flit) : Bool := crc8 (bitsLow f.data.toNat 512 ++ bitsLow (f.side.toNat / 256) 24) != f.side.toNat % 256

/-! ### Route tables (R103, R104, R109) -/

/-- Route table entry of a stop's active bank. -/
def State.route (s : State) (stop r : Nat) : BitVec 32 := tget 0 (s.stop stop).active.routes r

def rtValid (e : BitVec 32) : Bool := getBit e 31
def rtSite (e : BitVec 32) : Nat := bits e.toNat 27 4
def rtAct (e : BitVec 32) : Nat := bits e.toNat 25 2
def rtTag (e : BitVec 32) : Nat := bits e.toNat 19 6
def rtStep (e : BitVec 32) : Nat := bits e.toNat 0 11

def tgValid (e : BitVec 32) : Bool := getBit e 31
def tgRing (e : BitVec 32) : Nat := bits e.toNat 26 2
def tgLnk (e : BitVec 32) : Bool := getBit e 25
def tgHl (e : BitVec 32) : Bool := getBit e 24
def tgRoute (e : BitVec 32) : Nat := bits e.toNat 12 12
def tgLaunch (e : BitVec 32) : Nat := bits e.toNat 0 11

/-- A bundle of route `q` that leaves stop `a` on ring `r` uses the link that leaves stop `b`. -/
def State.routeUses (s : State) (r q b : Nat) : Nat → Nat → Bool
  | 0, _ => false
  | f + 1, a =>
    let e := s.route a q
    rtValid e && rtAct e == 0 && (a == b || s.routeUses r q b f (nextStop r a))

/-- The stops a bundle of route `q` comes to from stop `a` on ring `r`, `a` included. -/
def State.routeStops (s : State) (r q : Nat) : Nat → Nat → List Nat
  | 0, a => [a]
  | f + 1, a =>
    let e := s.route a q
    if rtValid e && rtAct e == 0 then a :: s.routeStops r q f (nextStop r a) else [a]

/-- (stop, route) pairs that bundles launched by the site's own tags come to. -/
def State.ownStops (s : State) (n : Nat) : List (Nat × Nat) :=
  (s.siteSashes n).flatMap fun i =>
    ((s.stop i).active.tags.filter fun e => tgValid e.2 && !tgLnk e.2).flatMap fun e =>
      (s.routeStops (tgRing e.2) (tgRoute e.2) 82 i).map fun a => (a, tgRoute e.2)

/-- Routes that the stop of sash `i` forwards on a ring and no tag of the site launches: they come in from the lane (R104, R123). -/
def State.laneRoutes (s : State) (n i : Nat) : List Nat :=
  if (s.lane i).mode = .link then
    (((s.stop i).active.routes.filter fun e => rtValid e.2 && rtSite e.2 == n && rtAct e.2 == 0).map (·.1)).filter fun q =>
      !(s.ownStops n).contains (i, q)
  else []

/-- The site has a VC0 route over the link of ring `r` that leaves stop `b` (R109, R116). -/
def State.siteUses (s : State) (n r b : Nat) : Bool :=
  (s.siteSashes n).any fun i =>
    ((s.stop i).active.tags.any fun e => tgValid e.2 && !tgLnk e.2 && tgRing e.2 == r && s.routeUses r (tgRoute e.2) b 82 i) ||
      (s.laneRoutes n i).any fun q => (Config.linkRing q).toNat == r && s.routeUses r q b 82 i

/-- The site that owns a link (R109). -/
def State.linkOwner (s : State) (r b : Nat) : Option Nat := (List.range 16).find? fun n => s.siteUses n r b

/-- N of R110: the nominal cycle length S + 6, or S + E + 6 (R106). -/
def SiteImage.nominal (g : SiteImage) : Nat := g.sched + g.linkExch + 6

/-! ### Bundles (R105, R111, R124) -/

/-- Tag `t` with entry `e` reaches its launch now: at the end of step L, at exchange step L, or at H0 (R56, R105). -/
def Sash.launchNow (x : Sash) (t : Nat) (e : BitVec 32) : Bool :=
  tgValid e && !getBit x.launched t &&
    (if tgHl e then x.phase == .h0
     else tgLaunch e == x.k && ((x.phase == .step && x.todo.isEmpty) || x.phase == .exchange))

/-- Header of a BUNDLE frame (R124). -/
def bundleHeader (route par seq : Nat) (data : BitVec 512) : BitVec 64 :=
  let h := 0xE1 + route % 4096 * 2 ^ 8 + par % 2 * 2 ^ 20 + seq % 256 * 2 ^ 24
  BitVec.ofNat 64 (h + crc16 (bitsLow h 48 ++ bitsLow data.toNat 512) * 2 ^ 48)

/-- TYPE of a link frame. -/
def isBundleFrame (h : BitVec 64) : Bool := bits h.toNat 0 8 == 0xE1

/-- The lane sends a bundle as a BUNDLE frame (R123, R124); one that carries poison leaves with its CRC-16 inverted, so that the far unit
finds it poisoned too (DEDUCED from R115 and R126, log entry 76). -/
def Lane.sendBundle (l : Lane) (route : Nat) (par bad : Bool) (data : BitVec 512) : Lane :=
  let h := bundleHeader route (b2n par) l.link.txSeq.toNat data
  { l with
    link :=
      { l.link with
        txSeq := l.link.txSeq + 1
        tx := l.link.tx ++ [(if bad then h ^^^ 0xFFFF000000000000 else h, data)] } }

/-- The lane's queue holds its 4 bundles (R111). -/
def Lane.bundlesFull (l : Lane) : Bool := decide (4 ≤ (l.link.tx.filter fun f => isBundleFrame f.1).length)

/-- A SLOT or WAKE stall ends when the launch succeeds (R111). -/
def Sash.launchDone (x : Sash) (t : Nat) : Sash :=
  { x with
    launched := putBit x.launched t true
    stall := if x.stall = some .slot ∨ x.stall = some .wake then none else x.stall }

/-- BUNDLE_LAUNCH (R105, R111): the bundle is copied into its injection queue, or the sender stalls. A hinge-launched bundle is read in
the next cycle, so it carries that cycle's PAR (DEDUCED from R106 and R107). -/
def execBundleLaunch (sash : Fin 64) (tag : Fin 64) (s : State) : Out :=
  .next
    (let i := sash.val
     let x := s.sash i
     let e := tget 0 (s.stop i).active.tags tag.val
     match s.siteOf i with
     | none => s
     | some n =>
       if x.launchNow tag.val e = false then s
       else
         let data := tget 0 x.outBuf tag.val
         let par := getBit (s.site n).cycle 0 != tgHl e
         if tgLnk e then
           let l := s.lane i
           if l.mode = .link ∧ l.txIdle = true then
             (s.beginStall n i .wake).setLane i { l with exiting := true }
           else if l.bundlesFull then s.beginStall n i .slot
           else (s.modSash i fun x => x.launchDone tag.val).setLane i (l.sendBundle (tgRoute e) par false data)
         else if 4 ≤ (s.ring.flits.filter fun f => f.vc == 0 && f.place == .queue && f.stop == i && f.ring == tgRing e).length then
           s.beginStall n i .slot
         else
           let f : Flit :=
             { id := s.ring.nextId
               vc := 0
               head := true
               tail := true
               side := flitSide 0 true true par (tgRoute e) data
               data := data
               worm := none
               site := some n
               ring := tgRing e
               stop := i
               place := .queue
               at_ := s.power.steps + 1
               linkBad := false
               tries := 0 }
           let s := s.modSash i fun x => x.launchDone tag.val
           { s with ring := { s.ring with flits := s.ring.flits ++ [f], nextId := s.ring.nextId + 1 } })

/-! ### Flits on the links (R97 to R100, R108, R110, R115, R117) -/

def State.flit (s : State) (id : Nat) : Option Flit := s.ring.flits.find? (·.id == id)
def State.setFlit (s : State) (f : Flit) : State :=
  { s with ring := { s.ring with flits := s.ring.flits.map fun g => if g.id = f.id then f else g } }
def State.dropFlit (s : State) (id : Nat) : State :=
  { s with ring := { s.ring with flits := s.ring.flits.filter fun g => g.id != id } }

/-- Descriptor value of RING_HOP (R98, R167). -/
def State.hopActual (s : State) : Nat := if s.id.b0 then 3 else 4

/-- Steps of a hop of the site's bundles: the contract's RING_HOP where it is longer (R108, R170). -/
def State.hopOf (s : State) (site : Option Nat) : Nat :=
  match site with | some n => max s.hopActual ((s.site n).img.contractOr 1 0 0) | none => s.hopActual

/-- LINK_STEP of the flit's route at its stop (R104). -/
def State.linkStep (s : State) (f : Flit) : Nat := rtStep (s.route f.stop f.route)

/-- Key of a link in `linkAt`. -/
def linkKey (r a : Nat) : Nat := r * 82 + a

/-- The link of ring `r` that leaves stop `a` has carried no flit in this step clock (R97). -/
def State.linkFree (s : State) (r a : Nat) : Bool := decide (tget 0 s.ring.linkAt (linkKey r a) ≤ s.power.steps)

/-- The link carries a flit in this step clock. -/
def State.useLink (s : State) (r a : Nat) : State :=
  { s with ring := { s.ring with linkAt := tset 0 s.ring.linkAt (linkKey r a) (s.power.steps + 1) } }

/-- Flits of virtual channel `vc` that may leave stop `a` on ring `r` now, oldest first. -/
def State.waiting (s : State) (r a vc : Nat) : List Flit :=
  s.ring.flits.filter fun f => f.vc == vc && f.ring == r && f.stop == a && f.place != .eject && decide (f.at_ ≤ s.power.steps)

/-- The VC0 flit that goes: the one arriving on the ring, else of the heads of the injection queue and of the lane the one with the
lower LINK_STEP (R100, R110). -/
def State.pickBundle (s : State) (r a : Nat) : Option Flit :=
  let l := s.waiting r a 0
  match l.find? (·.place == .through) with
  | some f => some f
  | none =>
    match l.find? (·.place == .queue), l.find? (·.place == .lane) with
    | some f, some g => if s.linkStep g < s.linkStep f then some g else some f
    | some f, none => some f
    | none, g => g

/-- Flits of VC `vc` that the ring buffer of stop `a` on ring `r` holds (R100). -/
def State.buffered (s : State) (r a vc : Nat) : Nat :=
  (s.ring.flits.filter fun f => f.vc == vc && f.ring == r && f.stop == a).length

/-- The ring buffer can take `k` more flits: it holds two worms of the largest size and what the unit adds (R100). -/
def State.ringRoom (s : State) (r a vc k : Nat) : Bool := decide (s.buffered r a vc + k ≤ 18 + Config.ringBuffer)

/-- Worm that holds VC `vc` of a link (R100). -/
def RingState.holder (x : RingState) (r a vc : Nat) : Option Nat := tget none x.holds (linkKey r a * 4 + vc)

/-- The channel of a request queues 64 already: its memory stop withholds VC1 credits (R345). -/
def State.channelFull (s : State) (w : Worm) : Bool :=
  let on (v : Worm) : Bool := isDdr v.addr.toNat && decide (v.typ.toNat < 8) && (s.ddrMap v.addr.toNat).1 == (s.ddrMap w.addr.toNat).1
  on w && decide (64 ≤ s.ring.worms.countP fun v => v.place == .target && on v)

/-- The VC1 or VC2 flit that goes: of the worm that holds the channel, else through traffic before injection, where there is room for
it (R100, R345). -/
def State.pickWorm (s : State) (r a vc : Nat) : Option Flit :=
  let n := nextStop r a
  let ends (f : Flit) : Option Worm := s.ring.worms.find? fun w => f.worm == some w.id && w.dest == n
  let l := (s.waiting r a vc).filter fun f => match ends f with | some w => !s.channelFull w | none => s.ringRoom r n vc 1
  let l : List Flit := match s.ring.holder r a vc with | some w => l.filter (·.worm == some w) | none => l
  match l.find? (·.place == .through) with
  | some f => some f
  | none => l.head?

/-- What the link of ring `r` that leaves stop `a` carries next: VC0, then VC2, then VC1 (R100). -/
def State.pickFlit (s : State) (r a : Nat) : Option Flit :=
  match s.pickBundle r a with
  | some f => some f
  | none => match s.pickWorm r a 2 with | some f => some f | none => s.pickWorm r a 1

/-- A bundle stands at a stop that acts on it by its ROUTE as received: discard, forward, eject or send on the lane (R104, R117, R123).
`owner` is the site the firmware marks when no valid entry is found. -/
def State.atStop (s : State) (f : Flit) (owner : Option Nat) : State :=
  let e := s.route f.stop f.route
  if rtValid e = false then
    let s := s.dropFlit f.id
    match owner with
    | some n => s.pendFault n (faultOf Code.TF_RING_POISON 0xFF 0xFF 0 f.stop)
    | none => s
  else if rtAct e = 0 then s.setFlit f
  else s.setFlit { f with place := .eject, at_ := f.at_ + 1 }

/-- The slot record of an output link (R110): a collision marks the owning site. The second flit goes in the step in which the link
is free for it. -/
def State.slotCheck (s : State) (f : Flit) : State :=
  let e := s.route f.stop f.route
  let st := s.stop f.stop
  let n := rtSite e
  let hit :=
    match tget none st.slots f.ring with
    | some r => r.linkStep == rtStep e && r.par == f.par && decide (s.power.steps < r.at_ + (s.site n).img.nominal / 2)
    | none => false
  let rec_ : SlotRec := { linkStep := rtStep e, par := f.par, at_ := s.power.steps }
  let s := s.setStop f.stop { st with slots := tset none st.slots f.ring (some rec_) }
  if hit then s.pendFault n (faultOf Code.TF_SLOT_COLLISION 0xFF 0xFF (rtStep e) f.stop) else s

/-- A bundle crosses its link, with `errs` flipped, and the next stop acts on it (R98, R108, R115, R117). -/
def State.crossBundle (s : State) (f : Flit) (errs : BitVec 544) : State :=
  let s := s.slotCheck f
  s.atStop
    { f with
      stop := nextStop f.ring f.stop
      place := .through
      data := f.data ^^^ BitVec.setWidth 512 errs
      side := f.side ^^^ BitVec.setWidth 32 (errs >>> 512)
      at_ := s.power.steps + s.hopOf f.site }
    (s.linkOwner f.ring f.stop)

/-- Worm `id` has wholly arrived: it stands at its target, behind those that came before (R102). -/
def State.wormArrives (s : State) (id : Nat) : State :=
  let (a, b) := s.ring.worms.partition fun w => w.id != id
  { s with ring := { s.ring with worms := a ++ b.map fun w => { w with place := .target } } }

/-- A VC1 or VC2 flit crosses its link and holds its channel from head to tail (R100). -/
def State.crossWorm (s : State) (f : Flit) : State :=
  let n := nextStop f.ring f.stop
  let k := linkKey f.ring f.stop * 4 + f.vc
  let s : State := { s with ring := { s.ring with holds := tset none s.ring.holds k (if f.tail then none else f.worm) } }
  match s.ring.worms.find? fun w => f.worm == some w.id with
  | none => s.dropFlit f.id
  | some w =>
    if w.dest = n then
      (let s := s.dropFlit f.id
       if f.tail then s.wormArrives w.id else s)
    else s.setFlit { f with stop := n, place := .through, at_ := s.power.steps + s.hopActual, tries := 0 }

/-- The twin of a ring: the other one of its direction (R116). -/
def twinRing (r : Nat) : Nat := if r % 2 = 0 then r + 1 else r - 1

/-- VC1 and VC2 traffic moves off ring `r` onto its twin (R116). -/
def RingState.moveOff (x : RingState) (r : Nat) : RingState :=
  let u := twinRing r
  if x.failed.any (·.1 == u) then x
  else
    let on (k : Nat) : Bool := k / 4 / 82 == r
    let key (k : Nat) : Nat := linkKey u (k / 4 % 82) * 4 + k % 4
    { x with
      flits := x.flits.map fun f => if f.ring = r ∧ f.vc ≠ 0 then { f with ring := u, tries := 0 } else f
      holds :=
        (x.holds.filter fun e => on e.1).foldl (fun t e => if (tget none t (key e.1)).isNone then tset none t (key e.1) e.2 else t)
          (x.holds.filter fun e => !on e.1) }

/-- The link of ring `r` that leaves stop `a` is declared failed (R116). -/
def State.linkFails (s : State) (r a : Nat) : State :=
  let s := { s with ring := { s.ring with failed := s.ring.failed ++ [(r, a)] } }
  let s := { s with ring := s.ring.moveOff r }
  let s := s.postNotice Code.DI_RING_LINK_FAIL 0xFF a 0 0 r
  (List.range 16).foldl
    (fun s n => if s.siteUses n r a then s.faultNow n (faultOf Code.DI_RING_LINK_FAIL 0xFF 0xFF 0 (a + 256 * r)) else s) s

/-- A VC1 or VC2 flit fails its CRC and is replayed after two hops and two steps; the 16th failure in a row fails the link (R116). -/
def State.flitFails (s : State) (f : Flit) : State :=
  if f.tries + 1 < 16 then s.setFlit { f with tries := f.tries + 1, at_ := s.power.steps + 2 * s.hopActual + 2 }
  else (s.setFlit { f with tries := 0 }).linkFails f.ring f.stop

/-- FLIT_HOP (R97 to R100, R108, R110, R115 to R117): a link that is free in this step clock carries one flit, with `errs` flipped on
its way. A bundle goes on as received; a VC1 or VC2 flit that `errs` touches fails its CRC (DESIGN CHOICE, log entry 77). -/
def execFlitHop (link : RingLink) (errs : BitVec 544) (s : State) : Out :=
  .next
    (let r := link.ring.val
     let a := link.stop.val
     if s.linkFree r a = false then s
     else
       match s.pickFlit r a with
       | none => s
       | some f =>
         let s := s.useLink r a
         if f.vc = 0 then s.crossBundle f errs
         else if errs ≠ 0 then s.flitFails f
         else s.crossWorm f)

/-- RING_RETRY (R116): the VC1 or VC2 flit of the worm that the link carries next fails its CRC. -/
def execRingRetry (worm : Nat) (ring : Fin 4) (stop : Fin 82) (s : State) : Out :=
  .next
    (let r := ring.val
     let a := stop.val
     match s.pickFlit r a with
     | some f => if s.linkFree r a && f.vc != 0 && f.worm == some worm then (s.useLink r a).flitFails f else s
     | none => s)

/-- Every pane that waits for a bundle finds it now (R118). -/
def Sash.recvReady (x : Sash) (cyc : Nat) : Bool :=
  x.recvWait.all fun e =>
    let b := bankOf (pTT (x.fetch e.1 x.k) % 64) cyc
    getBit x.inFlag b || getBit x.inUnsat b

/-- A BUNDLE stall ends when every wait is satisfied. -/
def Sash.endBundleStall (x : Sash) (cyc : Nat) : Sash :=
  if x.stall = some .bundle ∧ x.recvReady cyc = true then { x with stall := none } else x

/-- The bundle enters its bank and sets the arrival flag (R107, R117, R126). -/
def State.ejectBundle (s : State) (f : Flit) (tag : Nat) : State :=
  let b := 2 * tag + b2n f.par
  let cyc := match s.siteOf f.stop with | some n => (s.site n).cycle.toNat | none => 0
  let x := s.sash f.stop
  let x : Sash :=
    { x with
      inBuf := tset 0 x.inBuf b f.data
      inFlag := putBit x.inFlag b true
      inPoison := if f.bad then putBit x.inPoison b true else x.inPoison
      inLinkPoison := if f.linkBad then putBit x.inLinkPoison b true else x.inLinkPoison }
  (s.dropFlit f.id).setSash f.stop (x.endBundleStall cyc)

/-- The flit leaves the rings now: its time has come, and the lane it leaves by, if any, has room (R111). -/
def State.ejectDue (s : State) (f : Flit) : Bool :=
  f.place == .eject && decide (f.at_ ≤ s.power.steps) &&
    (rtAct (s.route f.stop f.route) != 2 || !(s.lane f.stop).bundlesFull)

/-- BUNDLE_EJECT (R104, R107, R117, R123, R126): the bundle enters its bank, or leaves on the stop's lane. -/
def execBundleEject (flit : Nat) (s : State) : Out :=
  .next
    (match s.flit flit with
     | none => s
     | some f =>
       if s.ejectDue f = false then s
       else
         let e := s.route f.stop f.route
         if rtValid e = false then s.dropFlit f.id
         else if rtAct e = 2 then
           (s.dropFlit f.id).modLane f.stop fun l => l.sendBundle f.route f.par (f.bad || f.linkBad) f.data
         else s.ejectBundle f (rtTag e))

/-- A flit of site `n` on VC0 can move in the present step clock: a link is free for it, or it can leave the rings. -/
def State.flitDue (s : State) (n : Nat) : Bool :=
  s.ring.flits.any fun f =>
    f.vc == 0 && f.site == some n &&
      (if f.place = .eject then s.ejectDue f else decide (f.at_ ≤ s.power.steps) && s.linkFree f.ring f.stop)

/-- BUNDLE_FRAME (R123, R124, R126): the lane passes a received bundle to its own stop, poisoned on a bad CRC. A frame whose CRC is bad
has its place in the count of SEQ all the same (DEDUCED from R126: its own SEQ cannot be trusted, and it is not a missing one). -/
def execBundleFrame (lane : Fin 64) (hdr : BitVec 64) (bits : BitVec 512) (s : State) : Out :=
  .next
    (let i := lane.val
     let l := s.lane i
     if l.mode ≠ .link ∨ l.lock = false ∨ isBundleFrame hdr = false then s
     else
       let h := hdr.toNat
       let good := crc16 (bitsLow h 48 ++ bitsLow bits.toNat 512) == Sys2Proof.Machine.bits h 48 16
       let s := s.modLane i fun l => { l with phy := { l.phy with lastRx := s.stamp } }
       let s := if good then s.linkSeq i (BitVec.ofNat 8 (Sys2Proof.Machine.bits h 24 8)) else s.skipSeq i
       let route := Sys2Proof.Machine.bits h 8 12
       let f : Flit :=
         { id := s.ring.nextId
           vc := 0
           head := true
           tail := true
           side := flitSide 0 true true (h.testBit 20) route bits
           data := bits
           worm := none
           site := s.siteOf i
           ring := (Config.linkRing route).toNat
           stop := i
           place := .lane
           at_ := s.power.steps
           linkBad := !good
           tries := 0 }
       let s := { s with ring := { s.ring with flits := s.ring.flits ++ [f], nextId := s.ring.nextId + 1 } }
       s.atStop f (s.siteOf i))

/-! ### The bundle watchdog (R112) -/

/-- BUNDLE_WATCHDOG_EXPIRY (R112): a RECV, a wait at H1 or a wait for cross-unit arrival ends after W steps. -/
def execBundleWatchdogExpiry (site : Fin 16) (w : WatchdogWait) (s : State) : Out :=
  .next
    (let n := site.val
     let x := s.site n
     match w with
     | .recv sash pane =>
       let y := s.sash sash.val
       if s.siteOf sash.val ≠ some n ∨ tget 0 y.recvWait pane.val < x.img.watchdog then s
       else
         let c : PaneAt := { sash := sash.val, pane := pane.val, k := y.k, w := y.fetch pane.val y.k, site := n }
         (s.setSash sash.val { y with inUnsat := putBit y.inUnsat (bankOf (pTT c.w % 64) x.cycle.toNat) true }).recvTake c
     | .late sash =>
       if x.state ≠ .running ∨ x.hingeWait < x.img.watchdog ∨ s.siteOf sash.val ≠ some n ∨ (s.sash sash.val).phase = .arrived then s
       else s.faultNow n (faultOf Code.TF_RECV_TIMEOUT sash.val 0xFF (s.sash sash.val).k sash.val)
     | .crossUnit part =>
       if x.state ≠ .running ∨ x.hingeWait < x.img.watchdog ∨ s.allArrived n = false ∨
          x.img.children.contains part = false ∨ x.childArr.any (·.1 == part) = true then s
       else
         (s.releaseDown n tkFault).faultNow n
           (faultOf Code.TF_HINGE_TIMEOUT 0xFF 0xFF 0 (tget (0 : BitVec 18) x.img.peers part).toNat))

/-! ### Louvres (R113, R114) -/

/-- Reset value of LVW at a stop (R113). -/
def lvwReset (n : Nat) : BitVec 32 := if n < 76 then 0x80202000 else 0x00202000

/-- LVW in force at stop `n` for VC2 or VC1. -/
def Stop.lvw (x : Stop) (n : Nat) (vc2 : Bool) : BitVec 32 := (if vc2 then x.active.lvw2X else x.active.lvw1X) ^^^ lvwReset n

/-- BURST and RATE of a louvre word. -/
def lvwBurst (v : BitVec 32) : Nat := bits v.toNat 16 9
def lvwRate (v : BitVec 32) : Nat := bits v.toNat 0 16

/-- What has been taken from a louvre since it was last full, × 65,536. -/
def Stop.spent (x : Stop) (vc2 : Bool) : Nat := if vc2 then x.spent2 else x.spent1

/-- Content of a louvre, × 65,536 flits. -/
def Stop.content (x : Stop) (n : Nat) (vc2 : Bool) : Nat := lvwBurst (x.lvw n vc2) * 65536 - x.spent vc2

/-- Record what has been taken. -/
def Stop.setSpent (x : Stop) (vc2 : Bool) (v : Nat) : Stop := if vc2 then { x with spent2 := v } else { x with spent1 := v }

/-- Take `n` flits from a louvre; none while it regulates and holds too little (R113, R319). -/
def State.louvreTake (s : State) (d : Nat) (vc2 : Bool) (n : Nat) : Option State :=
  let x := s.stop d
  if getBit (x.lvw d vc2) 31 then
    if n * 65536 ≤ x.content d vc2 then some (s.setStop d (x.setSpent vc2 (x.spent vc2 + n * 65536))) else none
  else some s

/-! ### Worms (R100 to R102) -/

def State.worm (s : State) (id : Nat) : Option Worm := s.ring.worms.find? (·.id == id)
def State.setWorm (s : State) (w : Worm) : State :=
  { s with ring := { s.ring with worms := s.ring.worms.map fun v => if v.id = w.id then w else v } }

/-- A worm is gone, with its flits and the channels it held. -/
def State.dropWorm (s : State) (id : Nat) : State :=
  { s with
    ring := { s.ring with
      worms := s.ring.worms.filter fun v => v.id != id
      flits := s.ring.flits.filter fun f => f.worm != some id
      holds := s.ring.holds.filter fun e => e.2 != some id } }

/-- The worm's answer waits at the target's stop, behind the worms that wait already. -/
def State.putWorm (s : State) (w : Worm) : State :=
  { s with ring := { s.ring with worms := s.ring.worms.filter (fun v => v.id != w.id) ++ [w] } }

/-- A response: TYPE 0x8 to 0xA (R101). -/
def Worm.resp (w : Worm) : Bool := decide (8 ≤ w.typ.toNat ∧ w.typ.toNat ≤ 10)

/-- VC1 for requests and control worms, VC2 for responses (R99, R101). -/
def Worm.vc (w : Worm) : Nat := if w.resp then 2 else 1

/-- The data bits of the head flit (R101); STATUS holds the low byte of the model's code (DESIGN CHOICE, log entry 78). -/
def Worm.headData (w : Worm) : BitVec 512 :=
  BitVec.ofNat 512
    (w.dest % 128 + w.src % 128 * 2 ^ 7 + w.typ.toNat * 2 ^ 14 + w.len % 16 * 2 ^ 18 + w.tid.toNat * 2 ^ 22 + w.addr.toNat * 2 ^ 34 +
      w.be.toNat * 2 ^ 74 + w.status.toNat % 256 * 2 ^ 138)

/-- The worm becomes its own answer, at its target's stop (R101). -/
def Worm.answer (w : Worm) (typ : Nat) (st : Status) (pay : List (BitVec 512)) : Worm :=
  { w with
    place := .source
    dest := w.src
    src := w.dest
    typ := BitVec.ofNat 4 typ
    len := pay.length
    be := BitVec.allOnes 64
    status := st
    payload := pay
    half := none }

/-- The worm is a DMA engine's (R472). -/
def Worm.dma (w : Worm) : Bool := match w.owner with | .dma _ _ => true | _ => false

/-- The domain a request's target belongs to; none for the control complex, the host/IO stop and untrained DDR (R475, R477). -/
def State.wormDomain (s : State) (w : Worm) : Option Nat :=
  if w.resp || w.typ == 15 then none
  else if w.dest < 64 then some (domSash w.dest)
  else if w.dest < 76 then some (domCas (w.dest - 64))
  else if w.dest < 80 then (s.memAt w.addr.toNat).map memDomain
  else none

/-- A stop on the path is being drained: what would cross it is held at its source (R119). -/
def State.heldPath (s : State) (src dest : Nat) : Bool :=
  (wormPath src dest).any fun n => match (s.stop n).drain with | .draining _ => true | _ => false

/-- The worm is held at its source (R119). -/
def State.held (s : State) (w : Worm) : Bool := s.heldPath w.src w.dest

/-- No worm of the same source, destination and channel that stands where this one stands comes before it (R102, R121). A request that
waits for a region fill keeps nobody waiting. -/
def State.turn (s : State) (w : Worm) : Bool :=
  (s.ring.worms.find? fun v =>
      v.place == w.place && v.src == w.src && v.dest == w.dest && v.resp == w.resp && !(s.mem.held.any fun h => h.worm == v.id)).any
    (·.id == w.id)

/-- The flits of a worm, head first, from number `id` on (R101). -/
def Worm.flits (w : Worm) (id ring now : Nat) : List Flit :=
  (w.headData :: w.payload).zipIdx.map fun e =>
    { id := id + e.2
      vc := w.vc
      head := e.2 == 0
      tail := e.2 == w.payload.length
      side := flitSide w.vc (e.2 == 0) (e.2 == w.payload.length) false 0 e.1
      data := e.1
      worm := some w.id
      site := none
      ring := ring
      stop := w.src
      place := .queue
      at_ := now
      linkBad := false
      tries := 0 }

/-- The worm enters its ring at its source; one that crosses no link has arrived (R100, R102). -/
def State.enterRing (s : State) (w : Worm) : State :=
  if w.src = w.dest then s.wormArrives w.id
  else
    let s := s.setWorm { w with place := .rings }
    { s with
      ring := { s.ring with
        flits := s.ring.flits ++ w.flits s.ring.nextId (s.ring.wormRing w.src w.dest) s.power.steps
        nextId := s.ring.nextId + 1 + w.payload.length } }

/-- The ring buffer at the source can take the worm and then still one of the largest size (R100). -/
def State.wormRoom (s : State) (w : Worm) : Bool :=
  w.src == w.dest || s.ringRoom (s.ring.wormRing w.src w.dest) w.src w.vc (1 + w.payload.length + 9)

/-- WORM_INJECT (R100, R113, R119, R475, R478): the worm leaves its source stop when no hold, closed domain, louvre or full ring buffer
keeps it. -/
def execWormInject (worm : Nat) (s : State) : Out :=
  .next
    (match s.worm worm with
     | none => s
     | some w =>
       if w.place ≠ .source ∨ s.held w = true ∨ s.turn w = false ∨ s.wormRoom w = false then s
       else
         let go (s : State) : State :=
           match s.louvreTake w.src w.resp (1 + w.len) with
           | some s => s.enterRing w
           | none => s
         match s.wormDomain w with
         | none => go s
         | some d =>
           match s.access d w.dma with
           | (.go, s) => go s
           | (.wait, s) => s
           | (.locked, s) => s.putWorm { w.answer 10 Code.PW_DOMAIN_LOCKED [] with place := .target })

/-! ### BAR2 requests (R419, R420) -/

/-- Pieces of `len` bytes at `a` that cross no 64-byte line: offset and length, from offset `o`. -/
def bar2Pieces (a : Nat) : Nat → Nat → Nat → List (Nat × Nat)
  | 0, _, _ => []
  | f + 1, o, left =>
    if left = 0 then []
    else
      let n := min left (64 - (a + o) % 64)
      (o, n) :: bar2Pieces a f (o + n) (left - n)

/-- The pieces of a request. -/
def Bar2Req.pieces (r : Bar2Req) : List (Nat × Nat) := bar2Pieces r.addr (r.len / 64 + 2) 0 r.len

/-- Send a request's VC1 worms from the host/IO stop (R419). -/
def State.bar2Issue (s : State) (r : Bar2Req) : State :=
  r.pieces.foldl
    (fun s p =>
      let a := r.addr + p.1
      let be := BitVec.ofNat 64 ((2 ^ p.2 - 1) * 2 ^ (a % 64))
      if r.write then
        s.newWorm 81 1 1 (a / 64 * 64) be [BitVec.ofNat 512 (fld r.data p.1 p.2 * 2 ^ (8 * (a % 64)))] (.bar2 r.id p.1)
      else s.newWorm 81 0 1 (a / 64 * 64) (BitVec.allOnes 64) [] (.bar2 r.id p.1)) s

/-- Send the reads that no earlier write holds any more (R420). -/
def State.bar2Release (s : State) : State :=
  let free := s.host.bar2.takeWhile fun r => !r.write
  let ids := (free.filter (·.held)).map (·.id)
  let s := { s with host := { s.host with bar2 := s.host.bar2.map fun r => if ids.contains r.id then { r with held := false } else r } }
  (free.filter (·.held)).foldl (fun s r => s.bar2Issue r) s

/-- A request is complete: a read returns its data, a write is no longer waited for (R419, R420). -/
def State.bar2Finish (s : State) (r : Bar2Req) : State :=
  let h := { s.host with
    bar2 := s.host.bar2.filter (·.id != r.id)
    bar2Done := if r.write then s.host.bar2Done else { id := r.id, data := r.data, ep := r.ep } :: s.host.bar2Done }
  ({ s with host := h } : State).bar2Release

/-- One piece of a request is answered (R419). -/
def State.bar2Answer (s : State) (id off : Nat) (typ : Nat) (st : Status) (a : Nat) (pay : BitVec 512) : State :=
  match s.host.bar2.find? (·.id == id) with
  | none => s
  | some r =>
    let s := if typ = 10 then s.postAddr st a else s
    let n := match r.pieces.find? (·.1 == off) with | some p => p.2 | none => 0
    let bs := leBytes (pay.toNat / 2 ^ (8 * ((r.addr + off) % 64))) n
    let ok := typ == 8 && st == Code.ST_OK
    let r := { r with
      left := r.left - 1
      data := if ok && !r.write then r.data.take off ++ bs ++ r.data.drop (off + n) else r.data
      ep := r.ep || (typ == 8 && st == Code.DI_POISON_READ) }
    if r.left = 0 then s.bar2Finish r
    else { s with host := { s.host with bar2 := s.host.bar2.map fun q => if q.id = r.id then r else q } }

/-! ### Targets (R122, R333 to R336, R344, R347) -/

/-- Byte enables of a WRITE's flits: BE for one flit, all bytes otherwise (R101). -/
def Worm.enabled (w : Worm) : List (Option Byte) :=
  w.payload.flatMap fun f => (List.range 64).map fun i =>
    if 1 < w.payload.length || getBit w.be i then some (BitVec.ofNat 8 (bits f.toNat (8 * i) 8)) else none

/-- Atomic operation of a TYPE (R334). -/
def atomicOf (typ : Nat) : AtomicOp :=
  match typ with
  | 2 => .add32 | 3 => .add64 | 4 => .swap | _ => .or

/-- An OR: in DDR in one; on chip its lower line first, and its upper line in a later access. Of a block with a bad word nothing changes
(R335, R336). -/
def State.performOr (s : State) (w : Worm) : State :=
  let a := w.addr.toNat
  let pay := w.payload.headD 0
  let fail (s : State) : State := s.putWorm (w.answer 10 Code.DI_POISON_READ [])
  if isDdr a ∨ (w.half.isNone = true ∧ (List.range 8).any (fun i => s.mem.wordBad (a / 8 + i)) = true) then
    let (st, old, s) := s.atomic .or a pay w.be
    s.putWorm (if st = Code.ST_OK then w.answer 8 st [old] else w.answer 10 st [])
  else
    let (old, bad, s) := s.orHalf w.half.isSome a pay w.be
    if bad then fail s
    else
      match w.half with
      | none => s.putWorm { w with half := some old }
      | some lo => s.putWorm (w.answer 8 Code.ST_OK [old ++ lo])

/-- The request's target performs it and answers (R101, R335, R336, R339, R340). -/
def State.perform (s : State) (w : Worm) : State :=
  let a := w.addr.toNat
  match w.typ.toNat with
  | 0 =>
    let n := max 1 w.len
    let (bs, bad, s) := s.memRead a (64 * n)
    s.putWorm (w.answer 8 (if bad then Code.DI_POISON_READ else Code.ST_OK)
      ((List.range n).map fun j => BitVec.ofNat 512 (fld bs (64 * j) 64)))
  | 1 => (s.memWriteBE a w.enabled).putWorm (w.answer 9 Code.ST_OK [])
  | 5 => s.performOr w
  | t =>
    let (st, old, s) := s.atomic (atomicOf t) a (w.payload.headD 0) w.be
    s.putWorm (if st = Code.ST_OK then w.answer 8 st [old] else w.answer 10 st [])

/-- Bytes a request touches. -/
def Worm.size (w : Worm) : Nat :=
  match w.typ.toNat with
  | 0 => 64 * max 1 w.len
  | 1 => 64 * max 1 w.payload.length
  | t => (atomicOf t).size

/-- The requester may reach the scratchpad (R122): the control complex, the host/IO stop, or a stop of the access list. -/
def State.mayReach (s : State) (w : Worm) : Bool :=
  decide (64 ≤ w.dest) || decide (80 ≤ w.src) || (s.stop w.dest).active.access.contains w.src

/-- The request's target is unmapped (R330, R344). -/
def State.unmapped (s : State) (w : Worm) : Bool :=
  (s.memAt w.addr.toNat).isNone || (s.memAt (w.addr.toNat + w.size - 1)).isNone

/-- A misaligned atomic, or a SWAP to DDR (R334, R335). -/
def Worm.badAtomic (w : Worm) : Bool :=
  decide (2 ≤ w.typ.toNat) && (w.addr.toNat % (atomicOf w.typ.toNat).align != 0 || (w.typ == 4 && isDdr w.addr.toNat))

/-- A request waits behind a region fill: any during a fill, a write or atomic to an invalid region (R347). -/
def State.waitsFill (s : State) (w : Worm) : Bool :=
  let r := w.addr.toNat / 65536
  isDdr w.addr.toNat && (s.mem.fills.contains r || (w.typ != 0 && !tget false s.mem.regions r))

/-- The fill queue of the request's channel is full: one runs and 8 wait (R347). -/
def State.fillsFull (s : State) (w : Worm) : Bool :=
  let c := (s.ddrMap w.addr.toNat).1
  !s.mem.fills.contains (w.addr.toNat / 65536) && decide (9 ≤ (s.mem.fills.filter fun r => s.mem.regionOn r c).length)

/-- A request at a scratchpad waits for its port: the sash uses it or a user of the sash is due, unless the sash names the very line of a
request of one line, and does not write it while the request does (R331, R332). -/
def State.padWaits (s : State) (w : Worm) : Bool :=
  decide (w.dest < 64) && !s.ringPort w.dest &&
    (let x := s.sash w.dest
     let l := w.addr.toNat % 0x1000000 / 32
     x.portUsed || x.portLines != [l] || (w.addr.toNat % 0x1000000 + w.size - 1) / 32 != l || (w.typ != 0 && x.memw.any (·.line == l)))

/-- The request takes the scratchpad's port in this step clock (R330). -/
def State.padTakes (s : State) (w : Worm) : State := if w.dest < 64 then s.modSash w.dest fun x => { x with portUsed := true } else s

/-- A request row: the target checks, holds or performs the request of TYPE `typ`, or the request waits (R122, R331, R335, R344, R347). -/
def State.serve (s : State) (id typ : Nat) : State :=
  match s.worm id with
  | none => s
  | some w =>
    let r := w.addr.toNat / 65536
    if w.place ≠ .target ∨ w.typ.toNat ≠ typ ∨ s.turn w = false ∨ s.mem.held.any (fun h => h.worm == id) = true then s
    else if s.mayReach w = false then
      let s := s.putWorm (w.answer 10 Code.ST_ACCESS_REFUSED [])
      match (if w.src < 64 then s.siteOf w.src else none) with
      | some n =>
        if (s.site n).state = .running then s.faultNow n (faultOf Code.TF_SITE_BOUNDS w.src 0xFF 0 w.addr.toNat) else s
      | none => s
    else if s.unmapped w then s.putWorm (w.answer 10 Code.ST_ADDR_UNMAPPED [])
    else if w.badAtomic then s.putWorm (w.answer 10 Code.ST_BAD_PARAM [])
    else if s.padWaits w then s
    else if s.waitsFill w then
      if s.fillsFull w then s
      else
      { s with
        mem :=
          { s.mem with
            fills := if s.mem.fills.contains r then s.mem.fills else s.mem.fills ++ [r]
            held := s.mem.held ++ [{ region := r, worm := id }] } }
    else (s.perform w).padTakes w

def execRingRead (worm : Nat) (s : State) : Out := .next (s.serve worm 0)
def execRingWrite (worm : Nat) (s : State) : Out := .next (s.serve worm 1)
def execRingAdd32 (worm : Nat) (s : State) : Out := .next (s.serve worm 2)
def execRingAdd64 (worm : Nat) (s : State) : Out := .next (s.serve worm 3)
def execRingSwap (worm : Nat) (s : State) : Out := .next (s.serve worm 4)
def execRingOr (worm : Nat) (s : State) : Out := .next (s.serve worm 5)

/-- REGION_FILL_DONE (R347): the oldest fill of its channel ends: the map bit is set, and the held requests of the region are performed
in arrival order. -/
def execRegionFillDone (region : BitVec 22) (s : State) : Out :=
  .next
    (let r := region.toNat
     let c := (s.ddrMap (r * 65536)).1
     if s.mem.fills.find? (s.mem.regionOn · c) ≠ some r then s
     else
       let ids := (s.mem.held.filter fun h => h.region == r).map (·.worm)
       let s := { s with mem := { s.mem with fills := s.mem.fills.erase r, held := s.mem.held.filter fun h => h.region != r } }
       let s := s.ensureRegion (r * 65536)
       ids.foldl (fun s id => match s.worm id with | some w => s.perform w | none => s) s)

/-! ### Answers -/

/-- One line of a casement's oldest transfer is answered: read data enters casement memory; an error or poison is kept for the posting
job (R289, R307). -/
def State.xferAnswer (s : State) (k off typ : Nat) (st : Status) (a : Nat) (pay : BitVec 512) : State :=
  match (s.casm k).xfers with
  | [] => s
  | x :: rest =>
    let bad := if typ = 10 then some (Code.TF_JOB_FAULT, a) else if st = Code.DI_POISON_READ then some (st, a) else none
    let s := if typ = 8 ∧ bad.isNone then s.memWrite (coreAddr k x.core x.casAddr + off) (leBytes pay.toNat 64) else s
    s.modCasm k fun c => { c with xfers := { x with left := x.left - 1, bad := x.bad.or bad } :: rest }

/-- COMPLETE data of a copy: the byte offset and the poisoned lines. -/
def Ticket.copyData (t : Ticket) : List Byte := leBytes t.progress.toNat 8 ++ leBytes t.phase 4

/-- One line of a copy is answered (R435): the last ends the copy, an error ends it at once. -/
def State.copyAnswer (s : State) (tk : BitVec 32) (off typ : Nat) (st : Status) (pay : BitVec 512) : State :=
  match s.ticket tk with
  | none => s
  | some t =>
    match t.work with
    | .copy cmd =>
      if t.final.isSome then s
      else if typ = 10 then s.finish tk st t.copyData
      else
        let bad := typ == 8 && st == Code.DI_POISON_READ
        let s :=
          if typ = 8 then
            { s with host := s.host.write (fld cmd 0 8 + off) (if bad then List.replicate 64 0 else leBytes pay.toNat 64) }
          else s
        let u := { t with progress := t.progress + 64, phase := if bad then t.phase + 1 else t.phase }
        let s := s.modTicket tk fun _ => u
        if fld cmd 0x10 4 ≤ off + 64 then s.finish tk Code.ST_OK u.copyData else s
    | _ => s

/-- An answer reaches its requester (R101, R122, R260, R419, R536). -/
def State.deliver (s : State) (w : Worm) : State :=
  let s := s.dropWorm w.id
  let a := w.addr.toNat
  let st := w.status
  match w.owner with
  | .bar2 id off => s.bar2Answer id off w.typ.toNat st a (w.payload.headD 0)
  | .failChunk i k => s.failChunkDone i k st a
  | .failOr i byte bit rw cw => s.failOrDone i byte bit rw cw st (a + byte) (w.payload.headD 0)
  | .failAdd i => s.failAddDone i st a
  | .spill _ => if w.typ = 10 then s.postAddr st a else s
  | .xfer k off => s.xferAnswer k off w.typ.toNat st a (w.payload.headD 0)
  | .dma tk off => s.copyAnswer tk off w.typ.toNat st (w.payload.headD 0)
  | .ctl => s

/-- An answer row: a worm of TYPE `typ` at its destination is delivered. -/
def State.deliverRow (s : State) (id typ : Nat) : State :=
  match s.worm id with
  | none => s
  | some w => if w.place ≠ .target ∨ w.typ.toNat ≠ typ ∨ s.turn w = false then s else s.deliver w

def execRingRespData (worm : Nat) (s : State) : Out := .next (s.deliverRow worm 8)
def execRingRespAck (worm : Nat) (s : State) : Out := .next (s.deliverRow worm 9)
def execRingRespErr (worm : Nat) (s : State) : Out := .next (s.deliverRow worm 10)
/-- RING_CTRL (R101): a control worm is taken at its destination stop; the spec gives it no further effect. -/
def execRingCtrl (worm : Nat) (s : State) : Out := .next (s.deliverRow worm 15)

/-- Serve and deliver every fail request of the sashes at once, in order: a fail close that cannot leave the work to rows. -/
def State.flushFailWorms (s : State) (l : List Nat) : Nat → State
  | 0 => s
  | f + 1 =>
    match s.ring.worms.find? fun w => match w.owner with | .failChunk i _ | .failOr i _ _ _ _ | .failAdd i => l.contains i | _ => false with
    | none => s
    | some w =>
      let s := if w.resp then s else if s.unmapped w then s.putWorm (w.answer 10 Code.ST_ADDR_UNMAPPED []) else s.perform w
      let s := match s.worm w.id with | some w => s.deliver w | none => s
      s.flushFailWorms l f

/-! ### Drain and swap (R119 to R121) -/

/-- No VC1 or VC2 worm is inside the stop (R119). -/
def State.stopEmpty (s : State) (n : Nat) : Bool :=
  s.ring.worms.all fun w => w.place == .source || !(wormPath w.src w.dest).contains n

/-- STOP_DRAIN_DONE (R119): the stop swaps its banks and the held worms are released. -/
def execStopDrainDone (stop : Fin 82) (s : State) : Out :=
  .next
    (let x := s.stop stop.val
     match x.drain with
     | .draining _ =>
       if s.stopEmpty stop.val then s.setStop stop.val { x with active := x.shadow, shadow := x.active, drain := .idle, owner := none }
       else s
     | _ => s)

/-- STOP_DRAIN_TIMEOUT (R121): the hold ends, the active bank stays, and the drain is tried again, up to 8 times. -/
def execStopDrainTimeout (stop : Fin 82) (s : State) : Out :=
  .next
    (let x := s.stop stop.val
     match x.drain with
     | .draining k => s.setStop stop.val { x with drain := if k < 8 then .waiting k else .failed }
     | _ => s)

/-- STOP_RECONFIG_RETRY (R121): the 50 µs have passed and the drain begins again. -/
def execStopReconfigRetry (stop : Fin 82) (s : State) : Out :=
  .next
    (let x := s.stop stop.val
     match x.drain with
     | .waiting k => s.setStop stop.val { x with drain := .draining (k + 1) }
     | _ => s)

end Sys2Proof.Machine
end

