-- ==== Sys2Proof/Machine/Tick.lean ====
section
/-! DEFINITION. What one step clock does by itself: the end of a word-cell step and of a pane step, stalls and waits, louvres,
device time and the keyhole lane. A step on an empty queue is one such tick. -/

namespace Sys2Proof.Machine

/-! ### Readiness: rows of the present step still to fire keep the sash in it -/

/-- The word cells of sash `i` hold in this step clock with its panes (R76). -/
def State.cellsHold (s : State) (n i : Nat) : Bool := (s.sash i).boundHold || s.lateWait n i

/-- Every cell has executed, or holds, and no product waits to land. -/
def State.cellsReady (s : State) (n i : Nat) : Bool :=
  let x := s.sash i
  !x.wrun || s.cellsHold n i ||
    ((List.range 64).all (fun c => (s.mulDue n i c).isNone) &&
      (x.mulHold (s.mulContract n) || x.cells.all fun e => !e.2.live || e.2.done))

/-- A bundle waits for its launch. -/
def State.launchWaits (s : State) (i : Nat) : Bool :=
  (s.stop i).active.tags.any fun e => (s.sash i).launchNow e.1 e.2

/-- The panes have nothing left to do in this step clock, or are delayed. -/
def State.panesReady (s : State) (i : Nat) : Bool :=
  let x := s.sash i
  match x.phase with
  | .step =>
    x.stall.isSome || x.pacing || decide (0 < x.portStall) ||
      (x.todo.isEmpty && x.landings.all (fun l => !l.due) && !s.launchWaits i)
  | .exchange => x.landings.all (fun l => !l.due) && (x.stall.isSome || !s.launchWaits i)
  | .h0 => x.landings.all (fun l => !l.due) && (x.stall.isSome || !s.launchWaits i) && !s.hingeReady i
  | _ => true

/-! ### Long wires and word cells (R73, R83 to R88) -/

/-- The wires as the next step clock reads them (R88). While the cells hold, a wire that nothing drives keeps its word, so that a reader
that holds still finds it (DEDUCED, log entry 74). -/
def Sash.shiftWires (x : Sash) (hold : Bool) : Sash :=
  { x with
    wires := x.drives.foldl (fun t d => tset 0 t d.1 d.2.2) (if hold then x.wires else [])
    drives := [] }

/-- The value driven on wire `n` in this step. -/
def Sash.driven (x : Sash) (n : Nat) : Option Word := (x.drives.find? (·.1 == n)).map (·.2.2)

/-- One cell at the end of a word-cell step: its OUT, its products, its pace history (R79, R81, R86). -/
def WordCell.endStep (c : WordCell) (flag : Bool) : WordCell :=
  { c with
    outWord := c.outPend.getD c.outWord
    outPend := none
    muls := (c.muls.filter fun m => !m.landed).map fun m => { m with age := m.age + 1, clk := m.clk + 1 }
    paceHist := if c.live then c.paceHist <<< 1 ||| BitVec.ofNat 8 (b2n flag) else c.paceHist
    done := false
    wrote := 0
    drove := 0 }

/-- The latch's value after the step's MAL writes: the highest cell's (R87). -/
def malWinner (l : List (Nat × Nat × BitVec 15)) (n : Nat) : Option (BitVec 15) :=
  ((l.filter fun m => m.2.1 == n).foldl
    (fun (a : Option (Nat × BitVec 15)) m => match a with | some b => if b.1 ≤ m.1 then some (m.1, m.2.2) else a | none => some (m.1, m.2.2))
    none).map (·.2)

/-- Latch writes beyond the first of each latch. -/
def malCollisions (l : List (Nat × Nat × BitVec 15)) : Nat := (List.range 4).foldl (fun a n => a + ((l.filter fun m => m.2.1 == n).length - 1)) 0

/-- A word-cell step ends (R73, R83, R86, R87). -/
def Sash.endCells (x : Sash) : Sash :=
  let flag := x.paceFlag
  let sum := x.paceAcc + x.paceNum.toNat
  { x with
    cells := tmapv {} (fun _ c => c.endStep flag) x.cells
    mal := (List.range 4).foldl (fun t n => match malWinner x.malPend n with | some v => tset 0 t n v | none => t) x.mal
    malPend := []
    paceAcc := if flag then sum - x.paceDen.toNat else sum
    wrec :=
      { x.wrec with
        wstep := satInc x.wrec.wstep
        malCollide := satAdd x.wrec.malCollide (malCollisions x.malPend) } }

/-- The eight long wires as one word, wire w at bit 32w. -/
def allWires (f : Nat → Word) : BitVec 256 := BitVec.ofNat 256 ((List.range 8).foldl (fun a k => a + (f k).toNat * 2 ^ (32 * k)) 0)

/-- The pin engine takes the pattern word driven in this step (R85, R198, R211). -/
def State.takePattern (s : State) (i : Nat) : State :=
  let x := s.sash i
  let l := s.lane i
  if l.coded = false ∨ l.cfg.source ≠ 1 then s
  else
    match x.driven l.cfg.patwire.toNat with
    | none => s
    | some w =>
      let ws := allWires fun k => (x.driven k).getD 0
      if 64 ≤ l.patFifo.length then s.faultSashNow i Code.TF_PATTERN_OVERRUN 0xFF 0
      else
        (s.setSash i { x with wrec := { x.wrec with patWords := satInc x.wrec.patWords } }).setLane i
          { l with patFifo := l.patFifo ++ [(w, ws)] }

/-- The multipliers work on while every cell waits for a product: no word-cell step ends (R81). -/
def Sash.holdMuls (x : Sash) : Sash :=
  { x with
    cells := tmapv {} (fun _ c => { c with muls := (c.muls.filter fun m => !m.landed).map fun m => { m with clk := m.clk + 1 } }) x.cells
    wrec := { x.wrec with mulHold := satInc x.wrec.mulHold } }

/-- The pin engine drives RWIRE in every step clock (R210). -/
def State.driveResp (s : State) (i : Nat) : State :=
  let l := s.lane i
  if l.coded && getBit l.cfg.rwcfg 7 then s.driveWire i (bits l.cfg.rwcfg.toNat 0 3) 64 l.lastResp else s

/-- Word cells, wires and pattern of sash `i` at the end of the step clock. -/
def State.tickCells (s : State) (n i : Nat) : State :=
  let x := s.sash i
  if x.wrun = false then s
  else if s.cellsHold n i then
    s.setSash i { x.shiftWires true with wrec := { x.wrec with boundHold := satInc x.wrec.boundHold } }
  else if x.mulHold (s.mulContract n) then s.setSash i (x.holdMuls.shiftWires true)
  else (s.takePattern i).modSash i fun x => x.endCells.shiftWires false

/-! ### Panes (R36, R49, R50, R52, R54, R56) -/

/-- Unlisted instruction words are NOPs: their net bit takes 0 (R34, R40, R69). -/
def Sash.idlePanes (x : Sash) (sb : Bool) : Sash :=
  { x with
    net := tmapv 0 (fun p w => if getBit x.done p then w else putBit w x.k false) x.net
    sbFlags :=
      if sb && decide (x.k < 256) then
        (List.range 256).foldl (fun t p => if getBit x.done p then t else tmod 0 t p fun w => putBit w x.k true) x.sbFlags
      else x.sbFlags }

/-- WPUTs of the step, lower panes first; a bit written twice counts (R52, R86). -/
def Sash.applyWputs (x : Sash) : Sash :=
  let ws := (List.range 256).flatMap fun p => x.wputs.filter (·.pane == p)
  let twice := ws.countP fun w => ws.any fun v => v.cell == w.cell && v.bit == w.bit && decide (v.pane < w.pane)
  let x := ws.foldl (fun x w => x.setCell w.cell { x.cell w.cell with inWord := putBit (x.cell w.cell).inWord w.bit w.val }) x
  { x with wputs := [], wrec := { x.wrec with wputCollide := satAdd x.wrec.wputCollide twice } }

/-- Write the step's MEMWR bits at its end, with undo records under run-ahead; a poisoned word faults at the hinge (R30, R49, R228). -/
def State.applyMemw (s : State) (n i : Nat) : State :=
  let ws := (s.sash i).memw
  let s := s.modSash i fun x => { x with memw := [] }
  ws.foldl
    (fun s m =>
      let (old, bad, s) := s.padBit i m.line m.bit
      let s := if bad then s.pendSash i Code.DI_POISON_READ m.pane (padAddr i (32 * m.line)) else s
      let s := s.setPadBit i m.line m.bit m.val
      if (s.site n).img.depth = 0 then s
      else
        s.modSash i fun x =>
          { x with delta := x.delta.add [deltaRec (s.site n).cycle.toNat 3 m.pane m.line (m.bit + 256 * b2n old)] }) s

/-- One executed step nearer to every landing (R50). -/
def Sash.landSoon (x : Sash) : Sash :=
  { x with landings := x.landings.map fun l => { l with left := l.left - 1, more := l.more - 1 } }

/-- A stall step of R170: data nearer, no schedule step passed. -/
def Sash.dataSoon (x : Sash) : Sash := { x with landings := x.landings.map fun l => { l with more := l.more - 1 } }

/-- The phase and number after a step (R56, R63). -/
def Sash.stepOn (x : Sash) (sched exch : Nat) : Sash :=
  let k := x.k + 1
  { x with k := k, phase := if k < sched then .step else if k < sched + exch then .exchange else .h0 }

/-- The long wires as the code indices whose RELSTEP is `k` find them (R188, R198, R211). -/
def State.sampleWires (s : State) (n i k : Nat) : State :=
  let l := s.lane i
  let c := (s.site n).cycle.toNat
  if l.coded && l.cfg.source == 0 then
    let v := allWires (s.sash i).wire
    s.setLane i
      { l with
        samples := (List.range l.cfg.k).foldl (fun t j => if tget 0 l.cfg.relstep j = k then tset 0 t (c * 256 + j) v else t) l.samples }
  else s

/-- Step `k` of the panes ends (R36, R49, R52, R54). -/
def State.endPanes (s : State) (n i : Nat) : State :=
  let g := (s.site n).img
  let s := s.applyMemw n i
  let x := s.sash i
  let key := s.power.key
  let old := key.pane.filter fun e => !(decide (e.1 / 2 ^ 8 = i * 2 ^ 9 + x.k) && !getBit x.done (e.1 % 256))
  let s := { s with power := { s.power with key := { key with pane := old } } }
  let s := s.sampleWires n i x.k
  let s := if g.depth = 0 then s.captureChecks n i (s.site n).cycle.toNat false else s
  s.modSash i fun x =>
    let y := ((x.idlePanes g.scoreboard).applyWputs).landSoon
    ({ y with
        exch := y.results
        results := 0
        done := 0
        checked := 0
        portLines := []
        portStall := 0
        recvWait := []
        stall := none
        pacing := false } : Sash).stepOn g.sched g.linkExch

/-- A pane of the step still waits for data that is later than its contracted landing (R170). -/
def Sash.portLate (x : Sash) : Bool := x.todo.any fun p => (pUsed (x.fetch p x.k)).any (x.awaits p)

/-- A PORT stall that no line of R49 counts down goes on: for data of R170 in a step, for delta writes of R229 at the hinge. -/
def State.portWait (s : State) (n i : Nat) : Bool :=
  if (s.sash i).phase = .arrived then s.deltaLate n i else (s.sash i).portLate

/-- A stall or a pacing wait takes one more step clock (R49, R58, R71, R112). -/
def State.stallStep (s : State) (n i : Nat) : State :=
  let late := (s.sash i).stall == some .port && (s.sash i).portStall == 0
  let s := if late then s.modSash i Sash.dataSoon else s
  let x := s.sash i
  let done := late && !s.portWait n i
  s.setSash i
    { x with
      recvWait := x.recvWait.map fun e => (e.1, e.2 + 1)
      portStall := x.portStall - 1
      stall := if done then none else x.stall
      ctr :=
        if x.stall.isSome then { x.ctr with stallSteps := satInc x.ctr.stallSteps }
        else { x.ctr with paceSteps := satInc x.ctr.paceSteps } }

/-- The panes of sash `i` at the end of the step clock. -/
def State.tickPanes (s : State) (n i : Nat) : State :=
  let x := s.sash i
  let g := (s.site n).img
  match x.phase with
  | .step =>
    if 0 < x.portStall then
      let s := s.stallStep n i
      if (s.sash i).portStall = 0 then s.endPanes n i else s
    else if x.stall.isSome || x.pacing then s.stallStep n i
    else if g.depth != 0 && x.delta.full g.ckptLines then
      s.setSash i { x with ctr := { x.ctr with paceSteps := satInc x.ctr.paceSteps } }
    else if 1 < x.portLines.length then
      let s := s.beginStall n i .port
      s.modSash i fun y => { y with portStall := x.portLines.length - 1, portLines := [] }
    else s.endPanes n i
  | .exchange =>
    if x.stall.isSome then (s.modSash i Sash.landSoon).stallStep n i
    else s.modSash i fun y => y.landSoon.stepOn g.sched g.linkExch
  | .h0 | .arrived =>
    let s := if x.k = g.sched + g.linkExch then s.sampleWires n i g.sched else s
    let s := s.modSash i fun y => { y.landSoon with k := y.k + 1 }
    if x.stall.isSome then s.stallStep n i else s
  | .resume left => s.modSash i fun y => if left ≤ 1 then y.begin else { y with phase := .resume (left - 1) }
  | _ => s

/-- One step clock of sash `i` of site `n`. -/
def State.tickSash (s : State) (n i : Nat) : State :=
  if s.cellsReady n i && s.panesReady i then ((s.driveResp i).tickCells n i).tickPanes n i else s

/-! ### The site's own counts (R112, R187, R222, R233, R243) -/

/-- A pacing wait of the hinge takes one step clock in every sash (R58, R71). -/
def State.paceStep (s : State) (n : Nat) : State :=
  s.modSashes (s.siteSashes n) fun y => { y with ctr := { y.ctr with paceSteps := satInc y.ctr.paceSteps } }

/-- H4 waits for the delta writes of the hinge before (R229): a pacing wait where they wait for a free line, else a stall with cause
PORT, in a strict load with a pending fault of a code the spec leaves open (R28, R242). -/
def State.waitDeltas (s : State) (n : Nat) : State :=
  (s.siteSashes n).foldl
    (fun s i =>
      if s.deltaLate n i then
        (if (s.sash i).delta.full (s.site n).img.ckptLines then
          s.modSash i fun y => { y with ctr := { y.ctr with paceSteps := satInc y.ctr.paceSteps } }
         else s.beginStallAs n i .port Config.lateDeltaFault)
      else s) s

/-- The last ARRIVE comes to the top unit later than LINK_HINGE allows: a stall with cause BUNDLE of the top unit, a fault in a strict
load (R175). The record of the site's first sash counts it (DESIGN CHOICE, log entry 75). -/
def State.lateTokens (s : State) (n : Nat) : State :=
  let x := s.site n
  let i := (s.siteSashes n).headD 0
  let s := if x.arriveLate then s else
    let s := s.modSash i fun y =>
      { y with ctr := { y.ctr with
          stallEvents := satInc y.ctr.stallEvents
          lastStallCycle := x.cycle
          lastStallStep := BitVec.ofNat 16 y.k
          lastStallCause := 1 } }
    let s := s.modSite n fun x => { x with arriveLate := true }
    if x.img.strict then s.pendSash i Code.TF_LATE_BUNDLE 0xFF 0 else s
  s.modSash i fun y => { y with ctr := { y.ctr with stallSteps := satInc y.ctr.stallSteps } }

/-- The top unit, past the time LINK_HINGE gives the hinge, still waits for an ARRIVE (R175). -/
def State.tokenLate (s : State) (n : Nat) : Bool :=
  let x := s.site n
  s.atHinge n && x.img.nparts != 0 && x.img.part == 0 && (tget none x.img.contract (6 * 256)).isSome &&
    decide (x.img.releaseStep ≤ x.hingeRun) && !x.kidsIn

/-- The root's part of the hinge in a step clock: its waits and its count of hinge steps (R56, R58, R175, R222, R229). -/
def State.tickHinge (s : State) (n : Nat) : State :=
  if s.atHinge n = false then s
  else
    let x := s.site n
    if s.hingePacing n then
      (s.paceStep n).modSite n fun x =>
        { x with
          ra :=
            { x.ra with
              state := if x.img.depth ≠ 0 ∧ x.ra.state = .speculate then .depthWait else x.ra.state
              depthWait := if x.img.depth = 0 then x.ra.depthWait else satInc x.ra.depthWait } }
    else
      let s :=
        if s.tokenLate n then s.lateTokens n
        else if (decide (x.img.releaseStep ≤ x.hingeRun) || x.relPend.isSome) && !x.faultDue && s.hingeLate n then s.waitDeltas n
        else s
      s.modSite n fun x => { x with hingeRun := x.hingeRun + 1, arriveLate := x.arriveLate && !x.kidsIn }

/-- CKPT_PEAK follows the lines in use (R243). -/
def State.tickPeak (s : State) (n : Nat) : State :=
  if (s.site n).img.depth = 0 then s
  else
    s.modSite n fun x =>
      { x with
        ra := { x.ra with
          ckptPeak := BitVec.ofNat 32 ((s.siteSashes n).foldl (fun m i => max m (s.sash i).delta.used) x.ra.ckptPeak.toNat) } }

/-- Waits and counts of site `n` in a step clock; while its release is due, or a bundle of it can
move, the site stays in its step. -/
def State.tickSite (s : State) (n : Nat) : State :=
  let x := s.site n
  if x.state ≠ .running ∨ s.releaseDue n = true ∨ s.flitDue n = true then s
  else
    let ls := s.siteSashes n
    let some_ := ls.any fun i => (s.sash i).phase == .arrived
    let s := s.tickHinge n
    let s := (ls.foldl (fun s i => s.tickSash n i) s).tickPeak n
    s.modSite n fun x =>
      { x with
        sinceStart := x.sinceStart + 1
        hingeWait := if some_ then x.hingeWait + 1 else x.hingeWait
        ra := { x.ra with replaySteps := if x.ra.state = .rollback then satInc x.ra.replaySteps else x.ra.replaySteps } }

/-! ### Louvres (R113) -/

/-- The louvres of a stop fill for one step. -/
def Stop.refill (n : Nat) (x : Stop) : Stop :=
  { x with
    spent1 := x.spent1 - lvwRate (x.lvw n false)
    spent2 := x.spent2 - lvwRate (x.lvw n true) }

/-! ### The keyhole (R503, R506) -/

/-- Periods of an island's clock since power-on; none while it is stopped (R495, R503). -/
def State.islandPeriods (s : State) (u : Nat) : Option Nat :=
  let ps := s.power.ps
  let shut := if u < 64 then (s.dom (domSash u)).state != .on else decide (u < 76) && (s.dom (domCas (u - 64))).state != .on
  let chan := s.ddr (2 * (u - 79))
  if shut then none
  else if u < 64 then some s.power.steps
  else if u = 77 then some (ps / 4000)
  else if u < 79 then some (ps / (if s.power.clk.oscillator then 2500 else 1000))
  else if chan.trained then some (ps * chan.rate / 4000000)
  else none

/-- Value of a keyhole source (R503). -/
def State.keySource (s : State) (w : BitVec 32) : Bool :=
  let v := w.toNat
  let u := bits v 20 7
  let sel := bits v 0 20
  let kind := bits v 28 4
  let x := s.sash u
  if 1 ≤ kind ∧ kind ≤ 4 ∧ (s.dom (domSash u)).state ≠ .on then false
  else
    match kind with
    | 1 => getBit x.taps (bits sel 0 5)
    | 2 => tget false s.power.key.pane (u * 2 ^ 17 + bits sel 8 9 * 2 ^ 8 + bits sel 0 8)
    | 3 =>
      let c := x.cell (bits sel 14 6)
      let r := bits sel 9 5
      getBit (if r < 16 then c.reg r else if r = 16 then c.inWord else c.outWord) (bits sel 0 5)
    | 4 => tget 0 s.power.key.sig (u * 8 + bits sel 0 3) != 0
    | 5 => match s.islandPeriods u with | some n => bit n 5 | none => false
    | _ => false

/-- The 32 taps of the keyhole lane. -/
def State.keySample (s : State) : Word :=
  BitVec.ofNat 32 ((List.range 32).foldl (fun a t => a + b2n (s.keySource (tget 0 s.power.key.src (0x20 + t))) * 2 ^ t) 0)

/-- What the 16 pins show at an edge of the keyhole clock (R502). -/
def State.keyPins (s : State) : BitVec 16 :=
  BitVec.ofNat 16 ((List.range 16).foldl (fun a o => a + b2n (s.keySource (tget 0 s.power.key.src o)) * 2 ^ o) 0)

/-- The keyhole tree, its pins and its lane in one step clock (R502, R506). -/
def State.tickKeyhole (s : State) : State :=
  let key := s.power.key
  let key := { key with sig := tmapv 0 (fun _ v => v - 1) key.sig }
  let key := if s.power.steps % max 1 s.power.clk.kdiv = 0 then { key with pins := s.keyPins } else key
  let key :=
    match key.lane with
    | none => key
    | some _ =>
      let sum := key.acc + key.num
      let flag := decide (key.den ≤ sum)
      { key with
        acc := if flag then sum - key.den else sum
        step := key.step + 1
        samples := if flag then key.samples ++ [(key.step, s.keySample)] else key.samples }
  { s with power := { s.power with key := key } }

/-! ### Time (R2, R401) -/

/-- Picoseconds of a step clock: 800 at -12, 1,000 at -10 (R2). -/
def State.stepPs (s : State) : Nat := if s.id.grade12 then 800 else 1000

/-- The AON ticks of 4 ns that fall into the step advance the time counter (R401). -/
def State.tickTime (s : State) : State :=
  let ps := s.power.ps + s.stepPs
  let n := ps / 4000 - s.power.ps / 4000
  let adv : Int := (n : Int) * (4 * 2 ^ 40 + s.time.rate.toInt)
  { s with
    power := { s.power with steps := s.power.steps + 1, ps := ps }
    time := { s.time with counter := (s.time.counter + adv).toNat } }

/-- Grid slots that a lane receives in a step clock, at most: the trigger unit reads that many (R186, R190, R276). -/
def State.trigRate (s : State) (i : Nat) : Nat := ceilDiv ((s.lane i).spf * s.stepPs * (s.lane i).rate) 1122000000

/-- The trigger units of a RUNNING site read response slots (R271). -/
def State.tickTrigs (s : State) (n : Nat) : State :=
  if (s.site n).state ≠ .running then s
  else (s.siteSashes n).foldl (fun s i => if (s.trig i).state = .disarmed then s else s.trigRun n i (s.trigRate i)) s

/-- One step clock of the whole unit. -/
def State.tick (s : State) : State :=
  let s := (List.range 16).foldl (fun s n => (s.tickSite n).tickTrigs n) s
  let s := { s with sashes := tmapv {} (fun _ x => { x with portUsed := false }) s.sashes }
  let s := { s with ring := { s.ring with stops := tmapv {} Stop.refill s.ring.stops } }
  let s := s.tickKeyhole.tickTime
  if s.host.msiHeld && !s.host.heldOff s.power.ps then { s with host := s.host.sendMsix s.power.ps 0 } else s

end Sys2Proof.Machine
end

