-- ==== Sys2Proof/Machine/Host.lean ====
section
/-! DEFINITION. The host interface's register rows (chapter 16): doorbells and channels, interrupts, the BAR2 window, the event
ring, and the commit words of R158. -/

namespace Sys2Proof.Machine

/-! ### Mailbox channels (R423 to R427) -/

/-- The 256 bytes of a channel's command area. -/
def Channel.area (c : Channel) : List Byte := tslice 0 c.cmd 0 256

/-- A response that refuses a doorbell's SEQ, with the expected one (R424). -/
def State.wrongSeq (s : State) (ch : Nat) : State :=
  let c := s.chan ch
  let a := c.area
  let resp := respBytes (fld a 0 2) (fld a 2 2) Code.ST_MBX_SEQ (leBytes (c.last + 1).toNat 2) 0 s.chain.ua
  s.channelDone ch resp (bit (fld a 10 2) 0)

/-- A doorbell with RESET = 1 (R427). -/
def State.channelReset (s : State) (ch : Nat) : State :=
  let c := s.chan ch
  match c.state with
  | .closed => s
  | .busy =>
    if c.relayed then
      ({ s with chain := { s.chain with relays := s.chain.relays.filter fun r => r.owner != RelayOwner.chan ch } }).setChan ch
        { c with state := .idle, relayed := false, waits := none }
    else s.setChan ch { c with resetPend := true }
  | _ => s.setChan ch { c with state := .idle }

/-- A doorbell write (R424): by the channel's state and by SEQ. -/
def State.doorbell (s : State) (ch : Nat) (v : Nat) : State :=
  let c := s.chan ch
  let seq : BitVec 16 := BitVec.ofNat 16 v
  if v.testBit 31 then s.channelReset ch
  else
    match c.state with
    | .closed => s
    | .busy => s.setChan ch { c with dbIgnored := true }
    | .idle | .done =>
      if seq = c.last + 1 then
        (s.setChan ch
          { c with
            last := seq
            state := .busy
            copy := c.area
            dbIgnored := false
            relayed := false
            resetPend := false
            waits := none }).screen ch
      else if c.state = .done ∧ seq = c.last then s.setIrq ch
      else s.wrongSeq ch

/-- MBX_DOORBELL (R424). -/
def execMbxDoorbell (ch : Fin 16) (v : BitVec 32) (s : State) : Out :=
  .next (if s.host.linkUp then s.doorbell ch.val v.toNat else s)

/-- MBX_CHANNEL_RESET (R427). -/
def execMbxChannelReset (ch : Fin 16) (s : State) : Out :=
  .next (if s.host.linkUp then s.channelReset ch.val else s)

/-! ### Interrupts (R417) -/

/-- W1C write of HIF_IRQ_STATUS. -/
def HostState.irqClear (h : HostState) (v : BitVec 32) : HostState := { h with irqStatus := h.irqStatus &&& ~~~v }

/-- Write of HIF_IRQ_MASK: a set bit that is unmasked sends its message at once (R417). -/
def HostState.irqMaskWrite (h : HostState) (now : Nat) (v : BitVec 32) : HostState :=
  let m := v &&& 0x000FFFFF
  let send := (List.range 20).filter fun i => getBit h.irqStatus i && getBit h.irqMask i && !getBit m i
  send.foldl (fun h i => h.sendMsix now (irqVector i)) { h with irqMask := m }

/-- HIF_IRQ_STATUS_CLEAR (R417). -/
def execHifIrqStatusClear (v : BitVec 32) (s : State) : Out :=
  .next (if s.host.linkUp then { s with host := s.host.irqClear v } else s)

/-- HIF_IRQ_MASK_WRITE (R417). -/
def execHifIrqMaskWrite (v : BitVec 32) (s : State) : Out :=
  .next (if s.host.linkUp then { s with host := s.host.irqMaskWrite s.power.ps v } else s)

/-- HIF_WIN_BASE_WRITE (R418): WIN; the reserved bits are ignored (R10). -/
def execHifWinBaseWrite (v : BitVec 32) (s : State) : Out :=
  .next (if s.host.linkUp then { s with host := { s.host with winBase := v &&& 0xF } } else s)

/-! ### The event ring (R432 to R434) -/

/-- Post the events that wait for the ring to be enabled: FW_READY and the board record's refusal (R437, R492). -/
def State.ringEnabled (s : State) : State :=
  let s :=
    if s.host.fwEvent && s.host.evqOn then
      ({ s with host := { s.host with fwEvent := false } } : State).post 0x0E Code.ST_OK 0xFF 0 0 (leBytes s.id.fwVersion.toNat 4)
    else s
  if s.host.boardEvent && s.host.evqOn then
    ({ s with host := { s.host with boardEvent := false } } : State).postFault Code.DI_BOARD_RECORD 0xFF 0xFF 0 0 0xFF 0
  else s

/-- A write of HIF_EVQ_CTL (R432): LOG2SIZE is held while EN = 1; a LOG2SIZE out of 6 to 16 leaves EN at 0. -/
def State.evqCtlWrite (s : State) (v : Nat) : State :=
  let h := s.host
  let size := if h.evqOn then bits h.evqCtl.toNat 16 5 else bits v 16 5
  let en := v.testBit 31 && decide (6 ≤ size ∧ size ≤ 16)
  let ctl := BitVec.ofNat 32 (b2n en * 2 ^ 31 + size * 2 ^ 16 + v % 256)
  ({ s with host := { h with evqCtl := ctl, evqProd := if en && !h.evqOn then 0x00010000 else h.evqProd } } : State).ringEnabled

/-- HIF_EVQ_CTL_WRITE (R432). -/
def execHifEvqCtlWrite (v : BitVec 32) (s : State) : Out := .next (if s.host.linkUp then s.evqCtlWrite v.toNat else s)

/-- HIF_EVQ_CONS_WRITE (R434). -/
def execHifEvqConsWrite (v : BitVec 32) (s : State) : Out :=
  .next (if s.host.linkUp then { s with host := { s.host with evqCons := v &&& 0xFFFF } } else s)

/-- EVENT_POST (R434): the oldest held event is written when there is room. -/
def execEventPost (s : State) : Out :=
  .next
    (match s.host.held with
     | [] => s
     | e :: rest =>
       if s.host.evqRoom then
         let s : State := { s with host := { s.host.writeEvent s.power.ps e with held := rest } }
         if e.kind = 0x01 then s.retain e.ticket else s
       else s)

/-- TICKET_EXPIRY (R429): an ended ticket whose 60 s have passed is dropped. -/
def execTicketExpiry (ticket : BitVec 32) (s : State) : Out :=
  .next
    (match s.ticket ticket with
     | some t => if t.final.isSome ∧ t.retained = true then s.setTicket ticket none else s
     | none => s)

/-! ### BAR0 (R10, R11, R416) -/

/-- 4 bytes at a 4-byte-aligned offset, or 8 at an 8-byte-aligned one (R416). -/
def bar0Ok (off size : Nat) : Bool := (size == 4 && off % 4 == 0) || (size == 8 && off % 8 == 0)

/-- BAR0_BAD_ACCESS (R416): reads zero or is discarded; the wrong size or alignment sets ERR. -/
def execBar0BadAccess (off : BitVec 16) (size : Nat) (_write : Bool) (s : State) : Out :=
  .next (if s.host.linkUp && !bar0Ok off.toNat size then s.hifErr else s)

/-! ### Commit groups (R158, R159) -/

/-- Change group `k` and say what refuses the change. -/
def State.groupOp (s : State) (k : Nat) (f : CommitGroup → Option Status × CommitGroup) : Option Status × State :=
  match tget none s.groups k with
  | none => (none, s)
  | some g => let (st, g) := f g; (st, { s with groups := tset none s.groups k (some g) })

/-- Commit group `k` (R159). -/
def State.commitGroup (s : State) (k : Nat) : Option Status × State :=
  s.groupOp k fun g => g.commit ((s.site g.site).state == .running)

/-- Discard the shadow of group `k`; refused while a commit is pending (R158, R159). -/
def State.discardGroup (s : State) (k : Nat) : Option Status × State :=
  s.groupOp k fun g => if g.pend then (some Code.ST_COMMIT_PENDING, g) else (none, g.discard)

/-- The commit group with a register at `off`. -/
def State.groupAt (s : State) (off : Nat) : Option (Nat × CommitGroup) :=
  s.groups.findSome? fun e => e.2.bind fun g => if g.word = off ∨ g.fields.contains off = true then some (e.1, g) else none

/-- A register write that names a field or the commit word of a group (R158): ACT 0b01 commits, 0b10 discards. -/
def State.groupWrite (s : State) (k off v : Nat) (g : CommitGroup) : Option Status × State :=
  if off ≠ g.word then s.groupOp k fun g => g.write off (BitVec.ofNat 32 v)
  else if v % 4 = 1 then s.commitGroup k
  else if v % 4 = 2 then s.discardGroup k
  else (none, s)

/-- A register read of a group: the commit word, or a field's shadow (R12, R158). -/
def CommitGroup.read (g : CommitGroup) (off : Nat) : Word := if off = g.word then g.commitWord else tget 0 g.shadow off

/-- A 4-byte write of BAR0 at an aligned offset; offsets without a writable register discard it (R11, R416, R432). -/
def State.write32 (s : State) (off v : Nat) : State :=
  let h := s.host
  let v32 : BitVec 32 := BitVec.ofNat 32 v
  if off = 0x0020 then { s with host := h.irqClear v32 }
  else if off = 0x0024 then { s with host := h.irqMaskWrite s.power.ps v32 }
  else if off = 0x0108 then { s with host := { h with winBase := v32 &&& 0xF } }
  else if off = 0x5000 then
    (if h.evqOn then s
     else { s with host := { h with evqBase := BitVec.ofNat 64 (h.evqBase.toNat / 2 ^ 32 * 2 ^ 32 + v % 2 ^ 32 / 4096 * 4096) } })
  else if off = 0x5004 then
    (if h.evqOn then s else { s with host := { h with evqBase := BitVec.ofNat 64 (h.evqBase.toNat % 2 ^ 32 + v % 2 ^ 32 * 2 ^ 32) } })
  else if off = 0x5008 then s.evqCtlWrite v
  else if off = 0x5014 then { s with host := { h with evqCons := v32 &&& 0xFFFF } }
  else if 0x1000 ≤ off ∧ off < 0x5000 then
    (let ch := (off - 0x1000) / 0x400
     let o := (off - 0x1000) % 0x400
     if o < 0x100 then s.modChan ch fun c => { c with cmd := tfill 0 c.cmd o (leBytes v 4) }
     else if o = 0x200 then s.doorbell ch v
     else s)
  else match s.groupAt off with | some (k, g) => (s.groupWrite k off v g).2 | none => s

/-- REGISTER_WRITE (R11, R416): one or two 4-byte writes, the lower first. -/
def execRegisterWrite (off : BitVec 16) (size : Nat) (v : BitVec 64) (s : State) : Out :=
  .next
    (if s.host.linkUp = false then s
     else if bar0Ok off.toNat size = false then s.hifErr
     else if size = 8 then (s.write32 off.toNat (v.toNat % 2 ^ 32)).write32 (off.toNat + 4) (v.toNat / 2 ^ 32)
     else s.write32 off.toNat (v.toNat % 2 ^ 32))

/-- What a 4-byte read of BAR0 returns: every assigned register; zero elsewhere and for a write-only field (R10, R416). -/
def State.read32 (s : State) (off : Nat) : BitVec 32 :=
  let h := s.host
  let held := h.held.length
  if off = 0x0000 then 0x64004E56
  else if off = 0x0004 then (if s.id.b0 then 0xB0 else 0xA1)
  else if off = 0x0010 then
    BitVec.ofNat 32 (h.bootErr.toNat * 2 ^ 16 + b2n (held != 0) * 2 ^ 7 + b2n h.evqOn * 2 ^ 6 + b2n s.chain.head * 2 ^ 5 +
      b2n h.fwReady * 2 ^ 4 + h.bootState.toNat)
  else if off = 0x0020 then h.irqStatus
  else if off = 0x0024 then h.irqMask
  else if off = 0x0100 then s.chain.ua.setWidth 32
  else if off = 0x0108 then h.winBase
  else if off = 0x5000 then h.evqBase.setWidth 32
  else if off = 0x5004 then (h.evqBase >>> 32).setWidth 32
  else if off = 0x5008 then h.evqCtl
  else if off = 0x5010 then h.evqProd
  else if off = 0x5014 then h.evqCons
  else if off = 0x5018 then BitVec.ofNat 32 (h.evqLost.toNat * 2 ^ 16 + held)
  else if 0x1000 ≤ off ∧ off < 0x5000 then
    (let c := s.chan ((off - 0x1000) / 0x400)
     let o := (off - 0x1000) % 0x400
     if o < 0x100 then BitVec.ofNat 32 (leNat (tslice 0 c.cmd o 4))
     else if o < 0x200 then BitVec.ofNat 32 (fld c.resp (o - 0x100) 4)
     else if o = 0x204 then
       BitVec.ofNat 32 (b2n c.dbIgnored * 2 ^ 9 + b2n c.relayed * 2 ^ 8 +
         (match c.state with | .idle => 0 | .busy => 1 | .done => 2 | .closed => 4))
     else if o = 0x208 then c.last.setWidth 32
     else 0)
  else match s.groupAt off with | some (_, g) => g.read off | none => 0

/-! ### Rows of a commit group (R158, R159) -/

/-- COMMIT_GROUP_COMMIT (R159): a refused commit changes nothing. -/
def execCommitGroupCommit (group : Nat) (s : State) : Out := .next (s.commitGroup group).2

/-- COMMIT_GROUP_DISCARD (R158): the shadow is reloaded from the values in use. -/
def execCommitGroupDiscard (group : Nat) (s : State) : Out := .next (s.discardGroup group).2

/-! ### BAR2 (R418 to R422) -/

/-- A block of the unit owns the address (R22, R419). -/
def hasOwner (a : Nat) : Bool :=
  decide (a < 2 ^ 38) || (decide (sashBase ≤ a) && decide (a < sashBase + 64 * 0x1000000)) ||
    (decide (casBase ≤ a) && decide (a < casBase + 12 * 0x1000000))

/-- Unit address of a BAR2 offset (R418). -/
def State.bar2Addr (s : State) (off : Nat) : Nat := s.host.winBase.toNat % 16 * 0x1000000000 + off

/-- Take the number of a new BAR2 request. -/
def State.bar2New (s : State) (r : Bar2Req) : State :=
  { s with host := { s.host with nextBar2 := s.host.nextBar2 + 1, bar2 := s.host.bar2 ++ [r] } }

/-- The read `r` completes with zero data and goes to no stop (R419). -/
def State.bar2Zero (s : State) (r : Bar2Req) : State :=
  { s with host := { s.host with nextBar2 := s.host.nextBar2 + 1, bar2Done := { id := r.id, data := r.data, ep := false } :: s.host.bar2Done } }

/-- The buffer entry with the parity error has been read (R422). -/
def State.bufRead (s : State) : State := { s with host := { s.host with bufBad := false } }

/-- BAR2_READ (R418 to R420, R422): VC1 reads once every earlier write is acknowledged; zero data where nothing owns the address, and on a
parity error of the request in the stop's buffers. -/
def execBar2Read (off : BitVec 36) (len : Nat) (s : State) : Out :=
  .next
    (if s.host.linkUp = false ∨ len = 0 then s
     else
       let a := s.bar2Addr off.toNat
       let r : Bar2Req :=
         { id := s.host.nextBar2
           write := false
           addr := a
           len := len
           data := List.replicate len 0
           left := (bar2Pieces a (len / 64 + 2) 0 len).length
           ep := false
           held := true }
       if s.host.bufBad then ((s.bufRead.bar2Zero r).postAddr Code.DI_HIF_PARITY a).hifErr
       else if hasOwner a = false ∨ hasOwner (a + len - 1) = false then (s.bar2Zero r).postAddr Code.ST_ACCESS_REFUSED a
       else (s.bar2New r).bar2Release)

/-- BAR2_WRITE (R418 to R420, R422): VC1 writes; at most 64 await acknowledgement, and more are not accepted; a write with a parity
error in the stop's buffers is not performed. -/
def execBar2Write (off : BitVec 36) (data : List (BitVec 8)) (s : State) : Out :=
  .next
    (if s.host.linkUp = false ∨ data = [] ∨ 64 ≤ (s.host.bar2.filter (·.write)).length then s
     else
       let a := s.bar2Addr off.toNat
       let r : Bar2Req :=
         { id := s.host.nextBar2
           write := true
           addr := a
           len := data.length
           data := data
           left := (bar2Pieces a (data.length / 64 + 2) 0 data.length).length
           ep := false
           held := false }
       if s.host.bufBad then (s.bufRead.postAddr Code.DI_HIF_PARITY a).hifErr
       else if hasOwner a = false ∨ hasOwner (a + data.length - 1) = false then s.postAddr Code.ST_ACCESS_REFUSED a
       else (s.bar2New r).bar2Issue r)

/-- BAR2_TIMEOUT (R421): 200 µs without an answer: a read completes with zeros, a write is no longer waited for. -/
def execBar2Timeout (req : Nat) (s : State) : Out :=
  .next
    (match s.host.bar2.find? (·.id == req) with
     | none => s
     | some r =>
       ((s.bar2Finish { r with data := List.replicate r.len 0, ep := false }).postAddr Code.ST_HIF_TIMEOUT r.addr).hifErr)

end Sys2Proof.Machine
end

