-- ==== Sys2Proof/Machine/Crypto.lean ====
section
/-! DEFINITION. SHA-384 (FIPS 180-4) and ECDSA verification over NIST P-384 (FIPS 186-4), the algorithm of R134 and R436. -/

namespace Sys2Proof.Machine

/-- The round constants of SHA-384. -/
def shaK : List (BitVec 64) :=
  [0x428a2f98d728ae22, 0x7137449123ef65cd, 0xb5c0fbcfec4d3b2f, 0xe9b5dba58189dbbc, 0x3956c25bf348b538, 0x59f111f1b605d019, 0x923f82a4af194f9b, 0xab1c5ed5da6d8118] ++
  [0xd807aa98a3030242, 0x12835b0145706fbe, 0x243185be4ee4b28c, 0x550c7dc3d5ffb4e2, 0x72be5d74f27b896f, 0x80deb1fe3b1696b1, 0x9bdc06a725c71235, 0xc19bf174cf692694] ++
  [0xe49b69c19ef14ad2, 0xefbe4786384f25e3, 0x0fc19dc68b8cd5b5, 0x240ca1cc77ac9c65, 0x2de92c6f592b0275, 0x4a7484aa6ea6e483, 0x5cb0a9dcbd41fbd4, 0x76f988da831153b5] ++
  [0x983e5152ee66dfab, 0xa831c66d2db43210, 0xb00327c898fb213f, 0xbf597fc7beef0ee4, 0xc6e00bf33da88fc2, 0xd5a79147930aa725, 0x06ca6351e003826f, 0x142929670a0e6e70] ++
  [0x27b70a8546d22ffc, 0x2e1b21385c26c926, 0x4d2c6dfc5ac42aed, 0x53380d139d95b3df, 0x650a73548baf63de, 0x766a0abb3c77b2a8, 0x81c2c92e47edaee6, 0x92722c851482353b] ++
  [0xa2bfe8a14cf10364, 0xa81a664bbc423001, 0xc24b8b70d0f89791, 0xc76c51a30654be30, 0xd192e819d6ef5218, 0xd69906245565a910, 0xf40e35855771202a, 0x106aa07032bbd1b8] ++
  [0x19a4c116b8d2d0c8, 0x1e376c085141ab53, 0x2748774cdf8eeb99, 0x34b0bcb5e19b48a8, 0x391c0cb3c5c95a63, 0x4ed8aa4ae3418acb, 0x5b9cca4f7763e373, 0x682e6ff3d6b2b8a3] ++
  [0x748f82ee5defb2fc, 0x78a5636f43172f60, 0x84c87814a1f0ab72, 0x8cc702081a6439ec, 0x90befffa23631e28, 0xa4506cebde82bde9, 0xbef9a3f7b2c67915, 0xc67178f2e372532b] ++
  [0xca273eceea26619c, 0xd186b8c721c0c207, 0xeada7dd6cde0eb1e, 0xf57d4f7fee6ed178, 0x06f067aa72176fba, 0x0a637dc5a2c898a6, 0x113f9804bef90dae, 0x1b710b35131c471b] ++
  [0x28db77f523047d84, 0x32caab7b40c72493, 0x3c9ebe0a15c9bebc, 0x431d67c49c100d4c, 0x4cc5d4becb3e42b6, 0x597f299cfc657e2a, 0x5fcb6fab3ad6faec, 0x6c44198c4a475817]

/-- The initial hash value of SHA-384. -/
def shaIV : List (BitVec 64) :=
  [0xcbbb9d5dc1059ed8, 0x629a292a367cd507, 0x9159015a3070dd17, 0x152fecd8f70e5939, 0x67332667ffc00b31, 0x8eb44a8768581511, 0xdb0c2e0d64f98fa7, 0x47b5481dbefa4fa4]

/-- A 64-bit word of a big-endian byte string at word index `i`. -/
def beWord (l : List Byte) (i : Nat) : BitVec 64 :=
  BitVec.ofNat 64 (((l.drop (8 * i)).take 8).foldl (fun a b => a * 256 + b.toNat) 0)

/-- The message with its padding: a whole number of 128-byte blocks. -/
def shaPad (l : List Byte) : List Byte :=
  let z := (111 + 128 - l.length % 128) % 128
  l ++ [0x80] ++ List.replicate z 0 ++ (leBytes (8 * l.length) 16).reverse

/-- Extend the message schedule, newest word first, by `n` words. -/
def shaExtend (w : List (BitVec 64)) : Nat → List (BitVec 64)
  | 0 => w
  | n + 1 =>
    let a := w.getD 14 0
    let b := w.getD 1 0
    let s0 := a.rotateRight 1 ^^^ a.rotateRight 8 ^^^ a >>> 7
    let s1 := b.rotateRight 19 ^^^ b.rotateRight 61 ^^^ b >>> 6
    shaExtend ((w.getD 15 0 + s0 + w.getD 6 0 + s1) :: w) n

/-- One round on the eight working words. -/
def shaRound (v : List (BitVec 64)) (kw : BitVec 64) : List (BitVec 64) :=
  match v with
  | [a, b, c, d, e, f, g, h] =>
    let s1 := e.rotateRight 14 ^^^ e.rotateRight 18 ^^^ e.rotateRight 41
    let t1 := h + s1 + (e &&& f ^^^ ~~~e &&& g) + kw
    let s0 := a.rotateRight 28 ^^^ a.rotateRight 34 ^^^ a.rotateRight 39
    let t2 := s0 + (a &&& b ^^^ a &&& c ^^^ b &&& c)
    [t1 + t2, a, b, c, d + t1, e, f, g]
  | v => v

/-- The hash value after one block. -/
def shaBlock (h : List (BitVec 64)) (blk : List Byte) : List (BitVec 64) :=
  let w := (shaExtend ((List.range 16).map (beWord blk)).reverse 64).reverse
  let v := (List.zipWith (· + ·) shaK w).foldl shaRound h
  List.zipWith (· + ·) h v

/-- The hash value after `n` blocks. -/
def shaBlocks (h : List (BitVec 64)) (l : List Byte) : Nat → List (BitVec 64)
  | 0 => h
  | n + 1 => shaBlocks (shaBlock h (l.take 128)) (l.drop 128) n

/-- The 48 bytes of SHA-384. -/
def sha384 (l : List Byte) : List Byte :=
  let p := shaPad l
  ((shaBlocks shaIV p (p.length / 128)).take 6).flatMap fun w => (leBytes w.toNat 8).reverse

/-- Big-endian value of a byte string. -/
def beNat (l : List Byte) : Nat := l.foldl (fun a b => a * 256 + b.toNat) 0

/-- The field prime, the group order, the curve constant b and the base point of P-384. -/
def ecP : Nat := 2 ^ 384 - 2 ^ 128 - 2 ^ 96 + 2 ^ 32 - 1
def ecN : Nat := 0xffffffffffffffffffffffffffffffffffffffffffffffffc7634d81f4372ddf581a0db248b0a77aecec196accc52973
def ecB : Nat := 0xb3312fa7e23ee7e4988e056be3f82d19181d9c6efe8141120314088f5013875ac656398d8a2ed19d2a85c8edd3ec2aef
def ecGx : Nat := 0xaa87ca22be8b05378eb1c71ef320ad746e1d3b628ba79b9859f741e082542a385502f25dbf55296c3a545e3872760ab7
def ecGy : Nat := 0x3617de4a96262c6f5d9e98bf9292dc29f8f41dbd289a147ce9da3113b5f0b8c00a60b1ce1d7e819d7a431d7c90ea0e5f

/-- A point in Jacobian coordinates; `z = 0` is the point at infinity. -/
structure EcPoint where
  x : Nat
  y : Nat
  z : Nat
  deriving DecidableEq, Repr

/-- `a − b` modulo the field prime. -/
def fSub (a b : Nat) : Nat := (a + ecP - b % ecP) % ecP

/-- Twice a point. -/
def EcPoint.double (q : EcPoint) : EcPoint :=
  let zz := q.z * q.z % ecP
  let yy := q.y * q.y % ecP
  let b := 4 * (q.x * yy) % ecP
  let m := 3 * (fSub q.x zz * (q.x + zz)) % ecP
  let x := fSub (m * m) (2 * b)
  { x := x, y := fSub (m * fSub b x) (8 * (yy * yy)), z := 2 * (q.y * q.z) % ecP }

/-- The sum of two points. -/
def EcPoint.add (q r : EcPoint) : EcPoint :=
  if q.z = 0 then r
  else if r.z = 0 then q
  else
    let zq := q.z * q.z % ecP
    let zr := r.z * r.z % ecP
    let u1 := q.x * zr % ecP
    let u2 := r.x * zq % ecP
    let s1 := q.y * (r.z * zr) % ecP
    let s2 := r.y * (q.z * zq) % ecP
    let h := fSub u2 u1
    let d := fSub s2 s1
    if h = 0 then (if d = 0 then q.double else { x := 1, y := 1, z := 0 })
    else
      let hh := h * h % ecP
      let hhh := h * hh % ecP
      let v := u1 * hh % ecP
      let x := fSub (fSub (d * d) hhh) (2 * v)
      { x := x, y := fSub (d * fSub v x) (s1 * hhh), z := h * (q.z * r.z) % ecP }

/-- A multiple of a point: the low `n` bits of `k`, highest first. -/
def EcPoint.mul (q : EcPoint) (k : Nat) (acc : EcPoint) : Nat → EcPoint
  | 0 => acc
  | n + 1 =>
    let d := acc.double
    q.mul k (if k.testBit n then d.add q else d) n

/-- The inverse modulo a prime of 384 bits, by repeated squaring. -/
def powSq (b e m : Nat) : Nat → Nat → Nat
  | 0, acc => acc
  | n + 1, acc =>
    let a := acc * acc % m
    powSq b e m n (if e.testBit n then a * b % m else a)

/-- Inverse modulo prime `m`. -/
def invMod (a m : Nat) : Nat := powSq (a % m) (m - 2) m 384 1

/-- The key is a point of the curve in uncompressed form: 0x04, X, Y, big-endian (R448). -/
def keyPoint (k : List Byte) : Option EcPoint :=
  let x := beNat ((k.drop 1).take 48)
  let y := beNat ((k.drop 49).take 48)
  if k.length = 97 ∧ k.getD 0 0 = 0x04 ∧ x < ecP ∧ y < ecP ∧ fSub (y * y) (x * x * x + ecB) = fSub 0 (3 * x) then
    some { x := x, y := y, z := 1 }
  else none

/-- ECDSA over P-384 with SHA-384: the signature (r, s) of a message verifies under a key (R134). -/
def ecdsaVerify (key : List Byte) (msg : List Byte) (r s : Nat) : Bool :=
  match keyPoint key with
  | none => false
  | some q =>
    if r = 0 ∨ s = 0 ∨ ecN ≤ r ∨ ecN ≤ s then false
    else
      let w := invMod s ecN
      let o : EcPoint := { x := 1, y := 1, z := 0 }
      let g : EcPoint := { x := ecGx, y := ecGy, z := 1 }
      let a := (g.mul (beNat (sha384 msg) * w % ecN) o 384).add (q.mul (r * w % ecN) o 384)
      if a.z = 0 then false
      else
        let zi := invMod a.z ecP
        a.x * (zi * zi % ecP) % ecP % ecN == r

end Sys2Proof.Machine
end

