-- ==== Sys2Proof/Machine/Image.lean ====
section
/-! DEFINITION. The image file (R129 to R138, R141, R293): header, directory, sections, and the checks that need no more than
the image. -/

namespace Sys2Proof.Machine

/-! ### Header and directory (R130, R131) -/

/-- The header fields the firmware uses (R130). -/
structure ImgHdr where
  kind : Nat
  hflags : Nat
  len : Nat
  nsect : Nat
  sched : Nat
  linkExch : Nat
  vsash : Nat
  nalt : Nat
  elMin : Nat
  elMax : Nat
  elStep : Nat
  id : Nat
  baseId : Nat
  dirOff : Nat
  sigOff : Nat
  deriving DecidableEq, Repr

/-- Read a header. -/
def readHdr (b : List Byte) : ImgHdr :=
  { kind := fld b 0x06 1
    hflags := fld b 0x07 1
    len := fld b 0x08 4
    nsect := fld b 0x0C 2
    sched := fld b 0x0E 2
    linkExch := fld b 0x10 2
    vsash := fld b 0x12 1
    nalt := fld b 0x13 1
    elMin := fld b 0x14 1
    elMax := fld b 0x15 1
    elStep := fld b 0x16 1
    id := fld b 0x18 8
    baseId := fld b 0x20 8
    dirOff := fld b 0x28 4
    sigOff := fld b 0x2C 4 }

def ImgHdr.elastic (h : ImgHdr) : Bool := bit h.hflags 0
def ImgHdr.scoreboard (h : ImgHdr) : Bool := bit h.hflags 1
def ImgHdr.signed (h : ImgHdr) : Bool := bit h.hflags 2
def ImgHdr.multi (h : ImgHdr) : Bool := bit h.hflags 3
def ImgHdr.strictOnly (h : ImgHdr) : Bool := bit h.hflags 4

/-- A schedule length is legal (R130). -/
def schedOk (n : Nat) : Bool := n % 16 == 0 && decide (16 ≤ n ∧ n ≤ 512)

/-- EL_MIN, EL_MAX and EL_STEP of an elastic image (R130). -/
def ImgHdr.elSizesOk (h : ImgHdr) : Bool :=
  decide (1 ≤ h.elMin ∧ h.elMin ≤ 64 ∧ h.elMin ≤ h.elMax ∧ h.elMax ≤ 64) && decide (1 ≤ h.elStep ∧ h.elStep ≤ 64)

/-- The rules of R130 (and R293 for a job image) that depend on KIND. -/
def ImgHdr.kindOk (h : ImgHdr) : Bool :=
  match h.kind with
  | 0x01 =>
    schedOk h.sched && (h.multi || h.linkExch == 0) && decide (h.sched + h.linkExch ≤ 1536) && h.baseId == 0 &&
      (if h.elastic then
        h.vsash == 1 && h.nalt == 0 && h.elSizesOk
       else
        decide (1 ≤ h.vsash ∧ h.vsash ≤ 64) && decide (1 ≤ h.nalt ∧ h.nalt ≤ 4) && h.elMin == 0 && h.elMax == 0 && h.elStep == 0)
  | 0x02 =>
    schedOk h.sched && (h.multi || h.linkExch == 0) && decide (1 ≤ h.vsash ∧ h.vsash ≤ 64) && h.nalt == 0 &&
      (if h.elastic then h.elSizesOk else h.elMin == 0 && h.elMax == 0 && h.elStep == 0)
  | _ =>
    h.sched == 0 && h.linkExch == 0 && h.vsash == 0 && h.nalt == 0 && h.elMin == 0 && h.elMax == 0 && h.elStep == 0 &&
      h.baseId == 0 && (h.hflags == 0 || h.hflags == 4)

/-- A header of the given KIND and command LEN breaks no rule of R130. -/
def ImgHdr.ok (h : ImgHdr) (b : List Byte) (kind len : Nat) : Bool :=
  h.kind == kind && fld b 0 4 == 0x4E534741 && fld b 4 2 / 256 == 1 && decide (h.hflags < 32) && h.len == len &&
    h.len % 4 == 0 && decide (0x104 ≤ h.len ∧ h.len ≤ 0x10000000) && decide (1 ≤ h.nsect ∧ h.nsect ≤ 1024) && h.kindOk &&
    zeroAt b 0x17 0x18 && h.dirOff % 64 == 0 && decide (0x100 ≤ h.dirOff) && (h.signed || h.sigOff == 0) &&
    (!h.signed || h.sigOff + 128 + 4 == h.len) && zeroAt b 0x34 0x100

/-- A directory entry (R131). -/
structure Sect where
  typ : Nat
  vs : Nat
  alt : Nat
  flags : Nat
  off : Nat
  len : Nat
  deriving DecidableEq, Repr

/-- Read the directory. -/
def readDir (b : List Byte) (h : ImgHdr) : List Sect :=
  (List.range h.nsect).map fun i =>
    let d := b.drop (h.dirOff + 16 * i)
    { typ := fld d 0 1, vs := fld d 1 1, alt := fld d 2 1, flags := fld d 3 1, off := fld d 4 4, len := fld d 8 4 }

/-- The bytes of a section. -/
def Sect.data (s : Sect) (b : List Byte) : List Byte := (b.drop s.off).take s.len

/-- Byte ranges (offset, length) that do not overlap. -/
def disjoint : List (Nat × Nat) → Bool
  | [] => true
  | (o, l) :: t => t.all (fun e => decide (o + l ≤ e.1) || decide (e.1 + e.2 ≤ o)) && disjoint t

/-- Bytes from position `i` on that no range covers are zero. -/
def gapsZero (cov : List (Nat × Nat)) (i : Nat) : List Byte → Bool
  | [] => true
  | b :: bs => (b == 0 || covered cov i) && gapsZero cov (i + 1) bs

/-- End of the sections: the signature block, or the CRC (R129). -/
def ImgHdr.limit (h : ImgHdr) : Nat := if h.signed then h.sigOff else h.len - 4

/-- Sections are aligned, inside the image and disjoint, the reserved directory bytes and every gap are zero (R129, R131). -/
def layoutOk (b : List Byte) (h : ImgHdr) (ds : List Sect) : Bool :=
  let e := h.dirOff + 16 * h.nsect
  let cov := (h.dirOff, 16 * h.nsect) :: ds.map fun s => (s.off, s.len)
  decide (e ≤ h.limit) && (List.range h.nsect).all (fun i => zeroAt b (h.dirOff + 16 * i + 12) (h.dirOff + 16 * i + 16)) &&
    ds.all (fun s => s.off % 64 == 0 && decide (e ≤ s.off ∧ s.off + s.len ≤ h.limit)) && disjoint (cov.filter (·.2 ≠ 0)) &&
    gapsZero cov 0x100 ((b.take h.limit).drop 0x100)

/-- The signature block's fixed fields (R134). -/
def sigOk (b : List Byte) (h : ImgHdr) : Bool :=
  !h.signed || (fld b h.sigOff 1 == 1 && decide (fld b (h.sigOff + 1) 1 < 4) && zeroAt b (h.sigOff + 2) (h.sigOff + 4) &&
    zeroAt b (h.sigOff + 0x64) (h.sigOff + 0x80))

/-! ### Sections (R132, R293) -/

/-- The length of a section keeps the rule of its type (R132, R152, R281, R293). -/
def Sect.lenOk (s : Sect) (b : List Byte) : Bool :=
  let d := s.data b
  match s.typ with
  | 0x01 => s.len == 512
  | 0x02 => s.len % 2048 == 0 && decide (s.len ≤ 512 * 2048)
  | 0x03 => s.len == 0x2080
  | 0x04 =>
    decide (16 ≤ s.len) && s.len == 16 + 32 * fld d 4 4 && decide (fld d 0 4 ≤ 32767 ∧ fld d 0 4 + fld d 4 4 ≤ 32768) && zeroAt d 8 16
  | 0x05 => s.len == 0x6C0
  | 0x06 => s.len == 256
  | 0x07 => s.len == 64
  | 0x08 => decide (16 ≤ s.len) && s.len == 16 + 264 * fld d 0 4 + 8 * fld d 4 4 && zeroAt d 8 16
  | 0x09 => decide (8 ≤ s.len) && s.len == 8 + 8 * fld d 0 4 && zeroAt d 4 8
  | 0x0A => decide (16 ≤ s.len) && s.len == 16 + 8 * fld d 8 1
  | 0x0B => s.len == 64
  | 0x0C => s.len == 256
  | 0x20 => s.len % 12 == 0
  | 0x21 => s.len % 132 == 0
  | 0x22 => s.len % 4 == 0
  | 0x23 => s.len % 40 == 0
  | 0x24 => s.len % 20 == 0
  | 0x30 => decide (16 ≤ s.len) && (s.len - 16) % 8 == 0
  | 0x31 => decide (16 ≤ s.len)
  | 0x32 => decide (16 ≤ s.len) && s.len == 16 + 32 * fld d 0 4 && decide (1 ≤ fld d 0 4 ∧ fld d 0 4 ≤ 64)
  | _ => false

/-- The types a KIND allows (R132, R152, R293). -/
def kindHas (kind typ : Nat) : Bool :=
  match kind with
  | 0x01 => decide (1 ≤ typ ∧ typ ≤ 0x0C)
  | 0x02 => decide (0x20 ≤ typ ∧ typ ≤ 0x24)
  | _ => typ == 0x09 || decide (0x30 ≤ typ ∧ typ ≤ 0x32)

/-- VSASH, ALT and SFLAGS of an entry (R131). -/
def Sect.scopeOk (s : Sect) (h : ImgHdr) : Bool :=
  if s.typ = 0x07 ∨ s.typ = 0x08 then
    s.vs == 0xFF && decide (s.alt < h.nalt) && (s.flags == 0 || (s.flags == 1 && s.typ == 0x07))
  else
    s.alt == 0xFF && s.flags == 0 &&
      (if (2 ≤ s.typ ∧ s.typ ≤ 6) ∨ (0x20 ≤ s.typ ∧ s.typ ≤ 0x24) then decide (s.vs < h.vsash) else s.vs == 0xFF)

/-- Sections of a type. -/
def ofType (ds : List Sect) (t : Nat) : List Sect := ds.filter (·.typ == t)
/-- Sections of a type for a virtual sash. -/
def ofSash (ds : List Sect) (t v : Nat) : List Sect := ds.filter fun s => s.typ == t && s.vs == v
/-- Sections of a type for a placement alternative. -/
def ofAlt (ds : List Sect) (t a : Nat) : List Sect := ds.filter fun s => s.typ == t && s.alt == a

/-- Data of the section of a type; empty when there is none. -/
def siteData (b : List Byte) (ds : List Sect) (t : Nat) : List Byte :=
  match ofType ds t with | s :: _ => s.data b | [] => []
/-- Data of a virtual sash's section of a type; none when there is none. -/
def sashData (b : List Byte) (ds : List Sect) (t v : Nat) : Option (List Byte) := (ofSash ds t v).head?.map fun s => s.data b
/-- Data of an alternative's section of a type. -/
def altData (b : List Byte) (ds : List Sect) (t a : Nat) : List Byte :=
  match ofAlt ds t a with | s :: _ => s.data b | [] => []

/-- How many sections of each type an image may hold (R132, R141, R293). -/
def countsOk (b : List Byte) (h : ImgHdr) (ds : List Sect) : Bool :=
  let n (t : Nat) := (ofType ds t).length
  match h.kind with
  | 0x01 =>
    n 1 == 1 && n 9 == 1 && n 0xA == b2n h.multi && decide (n 0xB ≤ 1 ∧ n 0xC ≤ 1) &&
      (if h.elastic then n 7 == 0 && n 8 == 0 && n 0xA == 0
       else (List.range h.nalt).all fun a => (ofAlt ds 7 a).length == 1 && (ofAlt ds 8 a).length == 1) &&
      (List.range h.vsash).all fun v =>
        [2, 3, 5, 6].all (fun t => decide ((ofSash ds t v).length ≤ 1)) &&
          disjoint (((ofSash ds 4 v).map fun s => (fld (s.data b) 0 4, fld (s.data b) 4 4)).filter (·.2 ≠ 0))
  | 0x02 => true
  | _ => decide (n 9 ≤ 1 ∧ n 0x30 ≤ 8) && n 0x32 == 1

/-- Header, directory and section rules: ST_IMAGE_FORMAT unless all hold (R129 to R132). -/
def imageOk (b : List Byte) (kind len : Nat) : Bool :=
  let h := readHdr b
  let ds := readDir b h
  h.ok b kind len && layoutOk b h ds && sigOk b h && ds.all (fun s => kindHas kind s.typ && s.scopeOk h && s.lenOk b) &&
    countsOk b h ds

/-- The stored CRC is right (R133). -/
def crcOk (b : List Byte) (h : ImgHdr) : Bool := crc32c (b.take (h.len - 4)) == fld b (h.len - 4) 4

/-- The signature verifies under a key; r and s are little-endian (R7, R129, R134). -/
def sigVerifies (b : List Byte) (h : ImgHdr) (key : List Byte) : Bool :=
  ecdsaVerify key (b.take h.sigOff) (fld b (h.sigOff + 4) 48) (fld b (h.sigOff + 0x34) 48)

/-! ### Contracts (R136, R166 to R170) -/

/-- A contract or descriptor entry. -/
structure ContractEntry where
  item : Nat
  param : Nat
  value : Nat
  deriving DecidableEq, Repr

/-- The unit code of an item with a legal parameter (R136). -/
def itemUnit (item param : Nat) : Option Nat :=
  match item with
  | 1 | 4 | 5 | 6 => if param = 0 then some 0 else none
  | 2 | 3 => if param = 0 then some 1 else none
  | 0x10 => if param = 0 then some 2 else none
  | 0x11 => if 6 ≤ param ∧ param ≤ 13 then some 2 else none
  | _ => none

/-- Entries of a CONTRACT section. -/
def readContract (d : List Byte) : List ContractEntry :=
  (List.range (fld d 0 4)).map fun i => { item := fld d (8 + 8 * i) 2, param := fld d (10 + 8 * i) 1, value := fld d (12 + 8 * i) 4 }

/-- Known items, right units, legal parameters, no repetition (R136). -/
def contractOk (d : List Byte) : Bool :=
  let es := readContract d
  (List.range es.length).all (fun i => itemUnit (fld d (8 + 8 * i) 2) (fld d (10 + 8 * i) 1) == some (fld d (11 + 8 * i) 1)) &&
    decide ((es.map fun e => e.item * 256 + e.param).Nodup)

/-- FFT latency by log2 of points (R168). -/
def fftDesc (b0 : Bool) (p : Nat) : Nat :=
  if b0 then [76, 92, 128, 208, 384, 768, 1600, 3392].getD (p - 6) 0 else [108, 124, 160, 240, 416, 800, 1632, 3424].getD (p - 6) 0

/-- The unit's latency descriptor, sorted by ITEM and PARAM (R166 to R168). -/
def descriptor (b0 : Bool) : List ContractEntry :=
  [{ item := 1, param := 0, value := if b0 then 3 else 4 }, { item := 2, param := 0, value := if b0 then 19000 else 22000 },
    { item := 3, param := 0, value := if b0 then 29000 else 34000 }, { item := 4, param := 0, value := 3 },
    { item := 5, param := 0, value := if b0 then 2 else 3 }, { item := 0x10, param := 0, value := if b0 then 24 else 40 }] ++
    (List.range 8).map fun i => { item := 0x11, param := 6 + i, value := fftDesc b0 (6 + i) }

/-- The descriptor's value for an item. -/
def descValue (b0 : Bool) (item param : Nat) : Option Nat :=
  ((descriptor b0).find? fun e => e.item == item && e.param == param).map (·.value)

/-- Largest contract value accepted (R170). -/
def ContractEntry.limit (e : ContractEntry) (b0 : Bool) : Nat :=
  match e.item with
  | 1 | 4 => 8
  | 5 => 6
  | 6 => 65535
  | 2 | 3 => (descValue b0 e.item e.param).getD 0 + 50000
  | _ => (descValue b0 e.item e.param).getD 0 + 65535

/-- The comparison of R169: 1 exact, 2 padded, 3 exceeded; none for an item without descriptor entry. -/
def ContractEntry.compare (e : ContractEntry) (b0 : Bool) : Option Nat :=
  (descValue b0 e.item e.param).map fun d => if e.value = d then 1 else if d < e.value then 2 else 3

/-- The outcome field of an item: the worst over its entries (R174). -/
def outcomeField (b0 : Bool) (es : List ContractEntry) (item : Nat) : Nat :=
  (es.filter (·.item == item)).foldl (fun m e => max m ((e.compare b0).getD 0)) 0

/-- The outcome word of R174; LINK_HINGE is set at arm. -/
def outcomeWord (b0 strict : Bool) (es : List ContractEntry) : BitVec 32 :=
  BitVec.ofNat 32
    (outcomeField b0 es 1 + outcomeField b0 es 2 * 2 ^ 2 + outcomeField b0 es 3 * 2 ^ 4 + outcomeField b0 es 4 * 2 ^ 6 +
      outcomeField b0 es 5 * 2 ^ 8 + outcomeField b0 es 0x10 * 2 ^ 12 + outcomeField b0 es 0x11 * 2 ^ 14 + b2n strict * 2 ^ 16)

/-- A contract held against a descriptor: LC_PAD_RANGE, or LC_CONTRACT_EXCEEDED in a strict load (R170, R172). -/
def contractRefusal (b0 strict : Bool) (es : List ContractEntry) : Option Status :=
  if es.any fun e => decide (e.limit b0 < e.value) then some Code.LC_PAD_RANGE
  else if strict && es.any fun e => e.compare b0 == some 3 then some Code.LC_CONTRACT_EXCEEDED
  else none

/-- The first exceeded entry among those `sel` takes, in ascending order of ITEM and PARAM (R172). -/
def firstExceeded (b0 : Bool) (es : List ContractEntry) (sel : ContractEntry → Bool) : Option ContractEntry :=
  (es.filter fun e => sel e && e.compare b0 == some 3).foldl
    (fun a e =>
      match a with
      | some m => if e.item * 256 + e.param < m.item * 256 + m.param then some e else a
      | none => some e)
    none

/-- How a refusal names a contract entry: ITEM (16 bits) and PARAM (8 bits) (R172, DESIGN CHOICE of the place, log entry 83). -/
def entryData (e : Option ContractEntry) : List Byte :=
  match e with
  | some e => leBytes e.item 2 ++ leBytes e.param 1
  | none => []

/-! ### Instruction words -/

/-- Little-endian words of `w` bytes, at most `n` of them. -/
def wordsOf (w : Nat) : Nat → List Byte → List Nat
  | 0, _ => []
  | n + 1, l => if l.length < w then [] else leNat (l.take w) :: wordsOf w n (l.drop w)

/-- The words of an ISTORE section at addresses 0 to S − 1: (pane, address, word). -/
def istoreWords (d : List Byte) (n : Nat) : List (Nat × Nat × DWord) :=
  (wordsOf 8 (256 * n) d).zipIdx.map fun e => (e.2 % 256, e.2 / 256, BitVec.ofNat 64 e.1)

/-- The sash holds a pane instruction of one of the opcodes at addresses 0 to S − 1. -/
def istoreHas (d : List Byte) (n : Nat) (ops : List Nat) : Bool := (istoreWords d n).any fun e => ops.contains (pOp e.2.2)

/-- MEMWR instructions at addresses 0 to S − 1 (R230). -/
def istoreMemwr (d : List Byte) (n : Nat) : Nat := (istoreWords d n).countP fun e => pOp e.2.2 == 6

/-- The record of cell `c` in a WCELL section (R92). -/
def cellRec (d : List Byte) (c : Nat) : List Byte := bytesAt d (128 * c) 128

/-- Entries 0 to LEN − 1 of a cell record. -/
def cellLoop (r : List Byte) : List Word := (List.range (fld r 0x20 1 % 16)).map fun e => BitVec.ofNat 32 (fld r (4 * e) 4)

/-- Some cell of the section executes one of the operations. -/
def cellsHave (d : List Byte) (ops : List Nat) : Bool :=
  (List.range 64).any fun c => (cellLoop (cellRec d c)).any fun w => ops.contains (wOpc w)

/-! ### SITECFG, UNITPART, RUNAHEAD (R135, R138, R223, R230) -/

/-- First and last pane scratchpad line of a virtual sash (R135). -/
def siteLines (d : List Byte) (v : Nat) : Nat × Nat := (bits (fld d (0x80 + 4 * v) 4) 0 15, bits (fld d (0x80 + 4 * v) 4) 16 15)

/-- SITECFG breaks no rule (R135, R223). -/
def sitecfgOk (d : List Byte) (n : Nat) (ra : Bool) : Bool :=
  let w := fld d 0 4
  let dep := fld d 0x10 1
  let pol := fld d 0x11 1
  decide (1024 ≤ w ∧ w ≤ 1048576) && zeroAt d 4 8 && zeroAt d 0x0E 0x10 && decide (dep ≤ 64 ∧ pol ≤ 2) && (dep != 0) == ra &&
    !(pol == 2 && dep == 0) && zeroAt d 0x12 0x40 && (List.range n).all (fun v => decide (fld d (0x40 + v) 1 ≤ 1)) &&
    zeroAt d (0x40 + n) 0x80 &&
    (List.range n).all (fun v => !bit (fld d (0x80 + 4 * v) 4) 31 && !bit (fld d (0x80 + 4 * v) 4) 15) &&
    zeroAt d (0x80 + 4 * n) 0x180 && zeroAt d 0x180 0x200

/-- Link records of a UNITPART section (R138). -/
def readLinks (d : List Byte) : List UnitLink :=
  (List.range (fld d 8 1)).map fun i =>
    { vsash := fld d (16 + 8 * i) 1, peerPart := fld d (17 + 8 * i) 2, peerVsash := fld d (19 + 8 * i) 1, role := fld d (20 + 8 * i) 1 }

/-- UNITPART breaks no rule (R138). -/
def unitpartOk (d : List Byte) (n : Nat) : Bool :=
  let part := fld d 0 2
  let np := fld d 2 2
  let par := fld d 4 2
  decide (2 ≤ np ∧ np ≤ 1024 ∧ part < np) && (if part = 0 then par == 0xFFFF else decide (par < np)) && zeroAt d 6 8 &&
    decide (fld d 8 1 ≤ 64) && zeroAt d 9 16 &&
    (readLinks d).all (fun l => decide (l.vsash < n ∧ l.peerPart < np ∧ l.role ≤ 2)) &&
    (List.range (fld d 8 1)).all fun i => zeroAt d (21 + 8 * i) (24 + 8 * i)

/-- Two line ranges (first, count) share a line. -/
def linesMeet (a b : Nat × Nat) : Bool := decide (0 < a.2 ∧ 0 < b.2 ∧ a.1 < b.1 + b.2 ∧ b.1 < a.1 + a.2)

/-- A pane line range as (first, count). -/
def asRange (l : Nat × Nat) : Nat × Nat := (l.1, l.2 + 1 - l.1)

/-! ### PINCFG (R183, R186, R203, R215) -/

/-- The lane mode of a MODE value (R182). -/
def laneModeOf : Nat → Option LaneMode
  | 0 => some .idle | 1 => some .pin | 2 => some .direct | 3 => some .stream | 4 => some .link | 5 => some .keyhole | _ => none

/-- Numbering of R182. -/
def LaneMode.code : LaneMode → Nat
  | .idle => 0 | .pin => 1 | .direct => 2 | .stream => 3 | .link => 4 | .keyhole => 5

/-- Read the fields of a PINCFG section. -/
def readPinCfg (d : List Byte) : PinCfg :=
  let ctl (i : Nat) : Nat := fld d (0x240 + 4 * i) 4
  { plog := fld d 1 1
    source := BitVec.ofNat 8 (fld d 2 1)
    patwire := BitVec.ofNat 3 (fld d 3 1)
    rate := fld d 4 2
    k := fld d 6 2
    rpt := fld d 8 2
    lead := fld d 0xA 2
    tsetcfg := BitVec.ofNat 8 (fld d 0xC 1)
    tset := BitVec.ofNat 8 (fld d 0xD 1)
    ctxcfg := BitVec.ofNat 8 (fld d 0xE 1)
    rwcfg := BitVec.ofNat 8 (fld d 0xF 1)
    rtbud := fld d 0x10 4
    rawcmp := BitVec.ofNat 2 (fld d 0x14 1)
    prbssel := BitVec.ofNat 8 (fld d 0x15 1)
    dcmpOff := fld d 0x16 2
    relstep := tfill 0 [] 0 ((List.range 256).map fun i => fld d (0x40 + 2 * i) 2)
    active := (List.range 32).foldl (fun a i => putBit a i (bit (ctl i) 15)) 0
    pinmask := (List.range 32).foldl (fun a i => putBit a i (bit (ctl i) 14)) 0 }

/-- The mask rows of a PINCFG section, keyed by pin. -/
def readMaskRows (d : List Byte) : Tab (BitVec 256) :=
  tfill 0 [] 0 ((List.range 32).map fun p => BitVec.ofNat 256 (fld d (0x2C0 + 32 * p) 32))

/-- A supported lane rate (R358). -/
def rateOk (f : Nat) : Bool := decide (1250 ≤ f ∧ f ≤ 32000)

/-- A PRBS degree (R215). -/
def degreeOk (n : Nat) : Bool := [7, 9, 15, 23, 31].contains n

/-- A wire-select byte: bit 7 and bits 2 to 0 only (R215). -/
def wireByteOk (v : Nat) : Bool := bits v 3 4 == 0

/-- PINCFG breaks no rule of R186 or R215, for schedule length `n`; RTBUD runs from 1 ps to 32 frame times (log entry 70). -/
def pincfgOk (d : List Byte) (n : Nat) : Bool :=
  let c := readPinCfg d
  match fld d 0 1 with
  | 1 =>
    decide (c.plog ≤ 5) && decide (c.source.toNat ≤ 1) && decide (fld d 3 1 < 8) && rateOk c.rate && decide (1 ≤ c.k ∧ c.k ≤ 256) &&
      decide (1 ≤ c.rpt ∧ c.rpt ≤ 4096) && (c.source == 0 || c.rpt == 1) && wireByteOk (fld d 0xC 1) && wireByteOk (fld d 0xE 1) &&
      wireByteOk (fld d 0xF 1) && decide (1122000000 ≤ c.rtbud * c.rate ∧ c.rtbud * c.rate ≤ 32 * 1122000000) && zeroAt d 0x14 0x40 &&
      (List.range 256).all (fun i => if i < c.k then decide (fld d (0x40 + 2 * i) 2 ≤ n) else fld d (0x40 + 2 * i) 2 == 0) &&
      (List.range 32).all fun p => fld d (0x240 + 4 * p) 4 % 2 ^ 14 == 0 && decide (fld d (0x240 + 4 * p) 4 < 2 ^ 16) &&
        (decide (p < 2 ^ c.plog) || !getBit c.active p)
  | 2 =>
    c.plog == 0 && (c.source == 1 || c.source == 2) && decide (fld d 3 1 < 8) && rateOk c.rate && zeroAt d 6 0xA && zeroAt d 0xC 0x14 &&
      decide (fld d 0x14 1 ≤ 2) && bits c.prbssel.toNat 5 2 == 0 &&
      degreeOk c.degree && decide (c.dcmpOff ≤ 1023) && zeroAt d 0x18 0x6C0
  | m => decide (m ≤ 5) && zeroAt d 1 0x6C0

/-! ### TRIGCFG (R273, R277, R281) -/

/-- One engine record is legal: `act` says which pins are ACTIVE (R273, R281). -/
def engineOk (v : Nat) (act : Nat → Bool) : Bool :=
  let cond := bits v 0 8
  let opt := bits v 16 8
  let mn := bits v 32 32
  let mx := bits v 64 32
  bits v 13 3 == 0 && decide (opt < 8) && bits v 24 8 == 0 && bits v 96 32 == 0 &&
    (match cond with
     | 0 => true
     | 1 | 4 => act (bits v 8 5) && decide (mn ≤ mx)
     | 2 => act (bits v 8 5) && mn == 0 && mx == 0
     | 3 => act (bits v 8 5) && mn != 0 && mx == 0 && opt == 0
     | 5 => act (bits v 8 5) && mn == 0 && mx == 0 && opt == 0
     | _ => false)

/-- An ACTION word is legal (R281). -/
def actionOk (a : Nat) : Bool :=
  bits a 4 4 == 0 && (!bit a 3 || bits a 24 8 != 0) && (bits a 20 4 == 0 || bits a 8 12 != 0)

/-- Read a TRIGCFG section. -/
def readTrigCfg (d : List Byte) : TrigCfg :=
  let c := fld d 0 1
  { en := bit c 0
    spill := bit c 1
    sitex := bit c 2
    exten := bit c 3
    engmask := BitVec.ofNat 4 (fld d 1 1)
    listen := BitVec.ofNat 8 (fld d 2 1)
    capmask := BitVec.ofNat 32 (fld d 4 4)
    tbufFirst := fld d 8 4
    tbufLines := fld d 0xC 4
    pre := fld d 0x10 4
    post := fld d 0x14 4
    postSlots := fld d 0x18 6
    holdoff := fld d 0x20 6
    acqBase := fld d 0x28 8
    acqLen := fld d 0x30 8
    action := BitVec.ofNat 32 (fld d 0x38 4)
    xsites := BitVec.ofNat 16 (fld d 0x3C 2) }

/-- Engines of a TRIGCFG section. -/
def readEngines (d : List Byte) : Tab TrigEngine := tfill {} [] 0 ((List.range 4).map fun e => engineOf (fld d (0x40 + 16 * e) 16))

/-- TRIGCFG breaks no rule that the section alone can break (R273, R277, R281). -/
def trigcfgOk (d : List Byte) (p : PinCfg) : Bool :=
  let c := readTrigCfg d
  let cap := if c.spill then c.acqLen / 16 else 2 * c.tbufLines
  decide (fld d 0 1 < 16 ∧ fld d 1 1 < 16) && zeroAt d 3 4 && decide (c.capmask.toNat < 2 ^ 2 ^ p.plog) && zeroAt d 0x1E 0x20 &&
    zeroAt d 0x26 0x28 && (c.spill || (c.acqBase == 0 && c.acqLen == 0)) && actionOk c.action.toNat && zeroAt d 0x3E 0x40 &&
    (List.range 4).all (fun e => engineOk (fld d (0x40 + 16 * e) 16) (getBit p.active)) && zeroAt d 0x80 0x100 &&
    decide (c.pre + c.post + 64 ≤ cap) && decide (64 ≤ c.tbufLines ∧ c.tbufLines ≤ 16384) &&
    (!c.spill || (c.acqBase % 65536 == 0 && c.acqLen % 65536 == 0 && decide (c.acqBase < 2 ^ 38)))

/-! ### FAILCFG (R252, R253) -/

/-- Read a FAILCFG section. -/
def readFailCfg (d : List Byte) : FailCfg :=
  let set (o k : Nat) : Nat := fld d (0x20 + 0x40 * k + o) 8
  { present := true
    capctl := BitVec.ofNat 8 (fld d 0 1)
    nsets := fld d 1 1
    flushUs := fld d 2 2
    fbufFirst := fld d 4 4
    fbufLines := fld d 8 4
    mrcFirst := fld d 0xC 4
    rowb := fld d 0x10 1
    colb := fld d 0x11 1
    iob := fld d 0x12 1
    rowsh := fld d 0x13 1
    colsh := fld d 0x14 1
    brb := fld d 0x15 1
    bcb := fld d 0x16 1
    ioFirst := fld d 0x18 2
    recBase := tfill 0 [] 0 [set 0 0, set 0 1]
    recLen := tfill 0 [] 0 [set 8 0, set 8 1]
    bmBase := tfill 0 [] 0 [set 16 0, set 16 1]
    mrcBase := tfill 0 [] 0 [set 24 0, set 24 1] }

/-- The geometry of R252 is in range, or zero without BITMAP. -/
def FailCfg.geomOk (c : FailCfg) : Bool :=
  if c.bitmap then
    decide (1 ≤ c.rowb ∧ c.rowb ≤ 24 ∧ 1 ≤ c.colb ∧ c.colb ≤ 16 ∧ c.iob ≤ 5 ∧ c.rowsh + c.rowb ≤ 32 ∧ c.colsh + c.colb ≤ 32) &&
      decide (1 ≤ c.brb ∧ c.brb ≤ min c.rowb 16 ∧ 1 ≤ c.bcb ∧ c.bcb ≤ min (c.colb + c.iob) 16) && decide (c.rowb + c.colb + c.iob ≤ 38)
  else
    c.rowb == 0 && c.colb == 0 && c.iob == 0 && c.rowsh == 0 && c.colsh == 0 && c.brb == 0 && c.bcb == 0 && c.ioFirst == 0

/-- A base is a DDR address aligned to 64 KiB (R253). -/
def ddrBase (a : Nat) : Bool := a % 65536 == 0 && decide (a < 2 ^ 38)

/-- FAILCFG breaks no rule of R252 and R253 that needs only the section and the sash count `n`. -/
def failcfgOk (d : List Byte) (n : Nat) : Bool :=
  let c := readFailCfg d
  let k := c.capctl.toNat
  decide (k < 64) && decide (c.fullpol ≠ 3) && (c.bitmap || (!c.mrc && !c.filter)) && decide (1 ≤ c.nsets ∧ c.nsets ≤ 2) &&
    decide (1 ≤ c.flushUs ∧ c.flushUs ≤ 1000) && decide (64 ≤ c.fbufLines ∧ c.fbufLines ≤ 16384) && (c.mrc || c.mrcFirst == 0) && c.geomOk &&
    zeroAt d 0x17 0x18 && zeroAt d 0x1A 0x20 && decide (c.counters ≤ 65536) && zeroAt d 0x40 0x60 && zeroAt d 0x80 0xA0 &&
    (c.nsets == 2 || zeroAt d 0x60 0x80) && zeroAt d 0xA0 0x100 &&
    (List.range c.nsets).all fun s =>
      ddrBase (tget 0 c.recBase s) && (if c.rec_ then decide (8192 ≤ c.sliceLen s n) else decide (65536 ≤ tget 0 c.recLen s)) &&
        (if c.bitmap then ddrBase (tget 0 c.bmBase s) else tget 0 c.bmBase s == 0) &&
        (if c.mrc then ddrBase (tget 0 c.mrcBase s) else tget 0 c.mrcBase s == 0)

/-- Bytes of a bitmap (R259) and of the counters (R261). -/
def FailCfg.bmBytes (c : FailCfg) : Nat := if c.bitmap then (2 ^ (c.rowb + c.colb + c.iob) + 7) / 8 else 0
def FailCfg.mrcBytes (c : FailCfg) : Nat := 4 * c.counters

/-- DDR areas of set `s`: (base, length) of records, bitmap and counters. -/
def FailCfg.setAreas (c : FailCfg) (s : Nat) : List (Nat × Nat) :=
  [(tget 0 c.recBase s, tget 0 c.recLen s), (tget 0 c.bmBase s, c.bmBytes), (tget 0 c.mrcBase s, c.mrcBytes)].filter (·.2 ≠ 0)

/-- DDR areas of every set. -/
def FailCfg.areas (c : FailCfg) : List (Nat × Nat) := (List.range c.nsets).flatMap c.setAreas

/-- The acquisition area of a trigger unit (R277). -/
def TrigCfg.areas (c : TrigCfg) : List (Nat × Nat) := if c.spill then [(c.acqBase, c.acqLen)] else []

/-! ### PLACEMENT and STOPCFG (R137, R139) -/

/-- Physical sashes of virtual sashes 0 to N − 1. -/
def readPlacement (d : List Byte) (n : Nat) : List Nat := (List.range n).map fun v => fld d v 1

/-- A placement names distinct sashes, and 0xFF beyond N (R132). -/
def placementOk (d : List Byte) (n : Nat) : Bool :=
  let p := readPlacement d n
  p.all (fun x => decide (x < 64)) && decide p.Nodup && ((d.take 64).drop n).all (· == 0xFF)

/-- Tag tables of a STOPCFG section: (virtual sash, 64 words). -/
def readTags (d : List Byte) : List (Nat × List (BitVec 32)) :=
  (List.range (fld d 0 4)).map fun i =>
    let t := d.drop (16 + 264 * i)
    (fld t 0 1, (wordsOf 4 64 (t.drop 8)).map (BitVec.ofNat 32))

/-- A route record (R137). -/
structure RouteRec where
  ref : Nat
  route : Nat
  entry : BitVec 32
  deriving DecidableEq, Repr

/-- Route records of a STOPCFG section. -/
def readRoutes (d : List Byte) : List RouteRec :=
  let r := d.drop (16 + 264 * fld d 0 4)
  (List.range (fld d 4 4)).map fun i => { ref := fld r (8 * i) 1, route := fld r (8 * i + 2) 2, entry := BitVec.ofNat 32 (fld r (8 * i + 4) 4) }

/-- A tag word: reserved bits zero, LAUNCH below S + E (R103). -/
def tagOk (se : Nat) (w : BitVec 32) : Bool := bits w.toNat 28 3 == 0 && bits w.toNat 11 1 == 0 && (tgHl w || !tgValid w || decide (tgLaunch w < se))

/-- A route record: reserved bits and SITE zero, ACT not 0b11, TAG zero unless it ejects (R104, R137). -/
def RouteRec.ok (r : RouteRec) (n : Nat) : Bool :=
  (if r.ref < 128 then decide (r.ref < n) else decide (r.ref - 128 < 82)) && decide (r.route < 4096) && bits r.entry.toNat 27 4 == 0 &&
    rtAct r.entry != 3 && bits r.entry.toNat 11 8 == 0 && (rtAct r.entry == 1 || rtTag r.entry == 0)

/-- STOPCFG breaks no rule (R103, R104, R137). -/
def stopcfgOk (d : List Byte) (h : ImgHdr) : Bool :=
  let r := d.drop (16 + 264 * fld d 0 4)
  (List.range (fld d 0 4)).all (fun i => decide (fld d (16 + 264 * i) 1 < h.vsash) && zeroAt d (17 + 264 * i) (24 + 264 * i)) &&
    decide (((readTags d).map (·.1)).Nodup) && (readTags d).all (fun t => t.2.all (tagOk (h.sched + h.linkExch))) &&
    (List.range (fld d 4 4)).all (fun i => fld r (8 * i + 1) 1 == 0) && (readRoutes d).all fun x => x.ok h.vsash

end Sys2Proof.Machine
end

