-- ==== Sys2Proof/Machine/Check.lean ====
section
/-! DEFINITION. The checks of instructions and cells against what a site's configuration declares (R42, R77, R82, R89, R105,
R141, R188, R203, R212, R223), which the loader and the transom checks share. -/

namespace Sys2Proof.Machine

/-- What a sash's configuration declares to its instructions. -/
structure SashDecl where
  sched : Nat
  scoreboard : Bool
  elastic : Bool
  /-- RA_POLICY is RESYNC (R223) -/
  resync : Bool
  free : Bool
  /-- pane line range, first and last (R48) -/
  first : Nat
  last : Nat
  /-- outgoing tag table (R103) -/
  tags : Tab (BitVec 32)
  /-- incoming tags some route ejects into (R105) -/
  inTags : List Nat
  mode : LaneMode
  pin : PinCfg
  /-- SASH_INDEX (R203) -/
  index : Nat
  /-- WCELL_MUL contract value (R82) -/
  mul : Nat
  wen : Tab (BitVec 65)

/-- The declaration of sash `i` of site `n` as it is loaded. -/
def State.declOf (s : State) (n i : Nat) : SashDecl :=
  let g := (s.site n).img
  let x := s.sash i
  let b := (s.stop i).active
  let l := s.lane i
  { sched := g.sched
    scoreboard := g.scoreboard
    elastic := bit g.hflags.toNat 0
    resync := g.policy == 2
    free := x.cfg.free
    first := x.cfg.lineFirst
    last := x.cfg.lineLast
    tags := b.tags
    inTags := (b.routes.filter fun e => rtValid e.2 && rtAct e.2 == 1).map fun e => rtTag e.2
    mode := if x.cfg.hasPin then l.mode else .idle
    pin := l.cfg
    index := x.cfg.index
    mul := s.mulContract n
    wen := x.wen }

/-! ### Pane instructions (R37 to R42) -/

/-- A source operand names something that exists (R38, R42). -/
def SashDecl.src (c : SashDecl) (f : Nat) : Bool :=
  if opExch f then decide (opIndex f < 256) else !(c.scoreboard && decide (256 ≤ opIndex f ∧ opIndex f < 512))

/-- A bundle bit position: SRC and INDEX[9] zero (R41). -/
def posOk (f : Nat) : Bool := decide (f < 512)

/-- Address form of MEMRD and MEMWR: bit, latch and, without index, a declared line (R41, R42, R48). -/
def SashDecl.memOk (c : SashDecl) (w : DWord) : Bool :=
  decide (pC w < 256) && (if pTT w < 32768 then pD w == 0 && decide (c.first ≤ pTT w ∧ pTT w ≤ c.last) else decide (pD w < 4))

/-- The lane is in pin mode and declares the pin and the code index (R42). -/
def SashDecl.pinOk (c : SashDecl) (w : DWord) : Bool :=
  decide (pTT w < 2 ^ 14) && c.mode == .pin && decide (ttPin w < 2 ^ c.pin.plog ∧ ttCode w < c.pin.k)

/-- The instruction at step `k` is legal (R41, R42, R77, R105, R141, R188, R189, R203, R212, R223). -/
def SashDecl.paneOk (c : SashDecl) (k : Nat) (w : DWord) : Bool :=
  let a := pA w
  let b := pB w
  let d := pD w
  let zeroBCD := b == 0 && pC w == 0 && d == 0
  let tag := tget 0 c.tags (pTT w)
  match pOp w with
  | 0x0 => w == 0
  | 0x1 => c.src a && c.src b && c.src (pC w) && c.src d
  | 0x2 => decide (pTT w < 256) && c.src a && c.src b && c.src (pC w) && decide (d < 512)
  | 0x3 =>
    decide (pTT w < 64) && c.src a && posOk b && pC w == 0 && d == 0 && !c.elastic && tgValid tag && (tgHl tag || decide (k ≤ tgLaunch tag))
  | 0x4 => decide (pTT w < 64) && a == 0 && posOk b && pC w == 0 && d == 0 && !c.elastic && c.inTags.contains (pTT w)
  | 0x5 => a == 0 && b == 0 && c.memOk w
  | 0x6 => c.src a && b == 0 && c.memOk w
  | 0x7 => c.src a && zeroBCD && c.pinOk w && c.pin.source == 0 && decide (k ≤ tget 0 c.pin.relstep (ttCode w))
  | 0x8 => c.src a && zeroBCD && c.pinOk w
  | 0x9 =>
    if bit (pTT w) 13 then decide (pTT w < 2 ^ 14) && bits (pTT w) 8 5 == 0 && c.src a && c.src b && pC w == 0 && c.src d
    else c.pinOk w && c.src a && c.src b && c.src (pC w) && c.src d && decide (c.index * 2 ^ c.pin.plog + ttPin w ≤ 1023)
  | 0xA => decide (pTT w < 2 ^ 11) && c.src a && zeroBCD && !c.free && !c.resync
  | 0xB => decide (pTT w < 2 ^ 11) && a == 0 && zeroBCD && !c.free && !c.resync
  | 0xC => decide (pTT w < 32) && c.src a && zeroBCD
  | _ => false

/-! ### Word cells (R78 to R82, R92) -/

/-- Cell `k` is enabled for wire `n` (R82, R89). -/
def SashDecl.wireOf (c : SashDecl) (k n : Nat) : Bool := getBit (tget 0 c.wen n) k

/-- An entry without its product marking (R82). -/
def SashDecl.entryOk (c : SashDecl) (k : Nat) (w : Word) : Bool :=
  decide (wOpc w ≤ 0x15) && (wI w || bits w.toNat 0 3 == 0) &&
    (!wDV w || (!([0x00, 0x0D, 0x14, 0x15] : List Nat).contains (wOpc w) && c.wireOf k (wWS w))) &&
    (wOpc w != 0x15 || (decide (wRD w < 4) && !c.free && !c.resync))

/-- Word-cell steps from the latest multiply before entry `e`, in loop order, that writes a register the entry reads (R82). -/
def mulDistance (loop : List Word) (e : Nat) : Option Nat :=
  let w := loop.getD e 0
  ((List.range loop.length).map (· + 1)).find? fun d =>
    let m := loop.getD ((e + loop.length - d) % loop.length) 0
    (wOpc m == 0x0B || wOpc m == 0x0C) && readsReg w (wRD m)

/-- A marked entry expects a product that the contract delivers in time (R82). -/
def SashDecl.markOk (c : SashDecl) (loop : List Word) (e : Nat) : Bool :=
  match mulDistance loop e with
  | none => false
  | some d => decide (c.mul ≤ d)

/-- First bad entry of a cell, 8 for its other fields; none for a legal cell (R82, R92). -/
def SashDecl.cellBad (c : SashDecl) (k : Nat) (v : WordCell) : Option Nat :=
  let len := v.len.toNat
  if 8 < len then some 8
  else
    let loop := (List.range len).map fun e => tget 0 v.entries e
    match (List.range len).find? fun e => !c.entryOk k (loop.getD e 0) || (getBit v.xprod e && !c.markOk loop e) with
    | some e => some e
    | none =>
      if v.scr.any (fun e => bits e.2.toNat 7 1 != 0 || decide (0x20 < e.2.toNat % 64)) || (List.range 8).any (fun e => decide (len ≤ e) && getBit v.xprod e) then
        some 8
      else none

/-- Number of drivers an enable word names (R89). -/
def drivers (w : BitVec 65) : Nat := (List.range 65).countP (getBit w)

/-- A wire with two drivers: those its enable word names, and the pin engine where RWCFG drives it (R89, R210). -/
def wireBad (wen : Tab (BitVec 65)) (rwcfg : BitVec 8) : Option Nat :=
  (List.range 8).find? fun n =>
    let w := tget 0 wen n
    decide (1 < drivers (if getBit rwcfg 7 && bits rwcfg.toNat 0 3 == n then putBit w 64 true else w))

/-! ### A whole sash -/

/-- A refusal with the place it names: code, sash, pane or cell, address or entry. -/
abbrev Refused := Status × Nat × Nat × Nat

/-- Check the instructions of sash `i` at addresses 0 to S − 1 (R42). -/
def State.panesBad (s : State) (n i : Nat) : Option Refused :=
  let c := s.declOf n i
  match (s.sash i).istore.find? fun e => decide (e.1 % 512 < c.sched) && !c.paneOk (e.1 % 512) e.2 with
  | some e => some (Code.TF_BAD_INSTRUCTION, i, e.1 / 512, e.1 % 512)
  | none => none

/-- Check the cells and wires of sash `i` (R82, R89). -/
def State.cellsBad (s : State) (n i : Nat) : Option Refused :=
  let c := s.declOf n i
  match (s.sash i).cells.find? fun e => (c.cellBad e.1 e.2).isSome with
  | some e => some (Code.TF_BAD_INSTRUCTION, i, e.1, (c.cellBad e.1 e.2).getD 0)
  | none => (wireBad c.wen c.pin.rwcfg).map fun w => (Code.TF_WIRE_CONTENTION, i, w, 0)

/-- First refusal of the site's sashes in ascending SASH_INDEX (R141). -/
def State.sashesBad (s : State) (n : Nat) (l : List Nat) : Option Refused :=
  l.findSome? fun i => (s.panesBad n i).or (s.cellsBad n i)

end Sys2Proof.Machine
end

