-- ==== Sys2Proof/Machine/Loader.lean ====
section
/-! DEFINITION. Loading a site (R139 to R149, R451): placement, phase 1, the stops' banks, writing and verifying; unloading
(R150), rewind (R151) and the site reset. -/

namespace Sys2Proof.Machine

/-! ### Sources (R451, R435) -/

/-- Read `n` bytes of an image at `a`, in DDR when `unit` is set, else in host memory: the bytes, what went wrong, and the
state with any poison reported (R145). -/
def State.fetchImage (s : State) (unit : Bool) (a n : Nat) : List Byte × Option Status × State :=
  if unit then
    if (s.memAt a).isNone ∨ isDdr a = false ∨ (s.memAt (a + n - 1)).isNone then ([], some Code.ST_ADDR_UNMAPPED, s)
    else
      let (b, e, s) := s.memRead a n
      (b, if e then some Code.DI_POISON_READ else none, s)
  else (s.host.read a n, none, s)

/-- A section that a load streams in phase 3 and does not read before: ISTORE, WCELL and SCRATCH (R135, R145). -/
def Sect.streamed (d : Sect) : Bool := decide (2 ≤ d.typ ∧ d.typ ≤ 4)

/-- Read the parts `l` (offset and length) of an image in DDR: whether one is poisoned, and the state with the reports made. -/
def State.readParts (s : State) (a : Nat) (l : List (Nat × Nat)) : Bool × State :=
  l.foldl (fun r p => let (_, e, s) := r.2.memRead (a + p.1) p.2; (r.1 || e, s)) (false, s)

/-- Read an image for the checks of phases 1 and 2: poison in a streamed section is left to phase 3 (R145). -/
def State.fetchChecked (s : State) (unit : Bool) (a n : Nat) : List Byte × Option Status × State :=
  match s.fetchImage unit a n with
  | (b, some st, s') =>
    if st ≠ Code.DI_POISON_READ then (b, some st, s')
    else
      let b := (s.memRead a n).1
      let h := readHdr b
      let (e, s) := s.readParts a [(0, min n (h.dirOff + 16 * h.nsect))]
      if e then (b, some Code.DI_POISON_READ, s)
      else
        let (e, s) := s.readParts a (((readDir b h).filter fun d => !d.streamed).map fun d => (d.off, min n d.len))
        (b, if e then some Code.DI_POISON_READ else none, s)
  | r => r

/-- Address of the first uncorrectable or poisoned word of a range (R145, R339). -/
def State.poisonAddr (s : State) (a n : Nat) : Nat :=
  match (List.range (n / 8 + 1)).find? fun i => (s.readWord (a / 8 + i)).2.1 with
  | some i => 8 * (a / 8 + i)
  | none => a

/-- Fields of a LOAD or TRANSOM request (R450, R451). -/
def cmdUnit (c : List Byte) : Bool := bit (fld c 3 1) 0
def cmdLen (c : List Byte) : Nat := fld c 4 4
def cmdAddr (c : List Byte) : Nat := fld c 8 8

/-! ### Quads (R358, R359) -/

/-- Candidate base rates of a lane rate (R358). -/
def quadCands (f : Nat) : List Nat := ([f, f * 2, f * 4, f * 8, f * 16]).filter fun q => decide (16000 ≤ q ∧ q ≤ 32000)

/-- The base rate a quad takes for lanes of these rates: the one in force when other lanes keep it running, else a common
candidate, 32,000 when that is one (R359). -/
def State.quadRate (s : State) (q : Nat) (rates : List Nat) (keep : Nat → Bool) : Option Nat :=
  let common := (quadCands (rates.headD 0)).filter fun c => rates.all fun f => (quadCands f).contains c
  if (quadLanes q).any fun i => (s.lane i).mode != .idle && keep i then
    if common.contains (s.quad q).qrate then some (s.quad q).qrate else none
  else if common.contains 32000 then some 32000 else common.head?

/-- The rates of a lane list that lie in quad `q`. -/
def ratesIn (l : List (Nat × Nat)) (q : Nat) : List Nat := (l.filter fun e => e.1 / 4 == q && e.2 != 0).map (·.2)

/-- Every quad of the lanes has a base rate; `keep` says which lanes stay as they are. -/
def State.quadsFit (s : State) (l : List (Nat × Nat)) (keep : Nat → Bool) : Bool :=
  (List.range 16).all fun q => (ratesIn l q).isEmpty || (s.quadRate q (ratesIn l q) keep).isSome

/-- Set QRATE of the quads of the lanes (R359). -/
def State.setQuadRates (s : State) (l : List (Nat × Nat)) (keep : Nat → Bool) : State :=
  (List.range 16).foldl
    (fun s q =>
      match ratesIn l q with
      | [] => s
      | rs =>
        match s.quadRate q rs keep with
        | some r => if (s.quad q).qrate = r then s else s.setQuad q { qrate := r, lock := false }
        | none => s)
    s

/-! ### Placement (R139 to R141) -/

/-- The sash is free for site `n`: in no site or in this one (R140). -/
def State.sashFree (s : State) (n i : Nat) : Bool := match s.siteOf i with | none => true | some m => m == n

/-- A stream or the keyhole uses the lane (R363). -/
def State.laneTaken (s : State) (i : Nat) : Bool :=
  s.power.key.lane == some i ||
    s.cas.streams.any fun e =>
      match e.2 with
      | some st => (s.slink st.link).any fun l => l.laneList.contains i
      | none => false

/-- The lane is free for site `n`: its own, or one of a free sash that no stream, keyhole or calibration uses, whatever its mode (R19,
R140; DESIGN CHOICE, log entry 82). -/
def State.laneFree (s : State) (n i : Nat) : Bool :=
  s.siteOf i == some n || ((s.siteOf i).isNone && !s.laneTaken i && (s.lane i).calib.isNone)

/-- Lane mode and rate that virtual sash `v` asks for; none without PINCFG (R132). -/
def laneAsk (b : List Byte) (ds : List Sect) (v : Nat) : Option (LaneMode × Nat) :=
  (sashData b ds 5 v).bind fun d => (laneModeOf (fld d 0 1)).map fun m => (m, fld d 4 2)

/-- Lanes and rates of a placement: virtual sash `v` of the image at position `v`, or the template everywhere. -/
def lanesOf (b : List Byte) (ds : List Sect) (elastic : Bool) (l : List Nat) : List (Nat × Nat) :=
  l.zipIdx.filterMap fun e =>
    match laneAsk b ds (if elastic then 0 else e.2) with
    | some (.idle, _) | none => none
    | some (_, f) => some (e.1, f)

/-- Route entries of an alternative on its physical stops: (stop, route, entry with SITE). -/
def placedRoutes (b : List Byte) (ds : List Sect) (alt : Nat) (l : List Nat) (n : Nat) : List (Nat × Nat × BitVec 32) :=
  (readRoutes (altData b ds 8 alt)).map fun r =>
    (if r.ref < 128 then l.getD r.ref 0 else r.ref - 128, r.route, r.entry ||| BitVec.ofNat 32 (n * 2 ^ 27))

/-- Tag tables of an alternative on its physical sashes. -/
def placedTags (b : List Byte) (ds : List Sect) (alt : Nat) (l : List Nat) : List (Nat × List (BitVec 32)) :=
  (readTags (altData b ds 8 alt)).map fun t => (l.getD t.1 0, t.2)

/-- The links (stops left) a bundle of route `q` crosses from stop `a` on ring `r`, and the stop it ends at; none when an entry
is missing (R105). -/
def walkRoute (entry : Nat → Nat → BitVec 32) (r q : Nat) : Nat → Nat → Option (List Nat × Nat)
  | 0, _ => none
  | f + 1, a =>
    let e := entry a q
    if !rtValid e then none
    else if rtAct e = 0 then (walkRoute entry r q f (nextStop r a)).map fun p => (a :: p.1, p.2)
    else some ([], a)

/-- The entry a placed image gives a stop. -/
def entryIn (rs : List (Nat × Nat × BitVec 32)) (a q : Nat) : BitVec 32 :=
  match rs.reverse.find? fun e => e.1 == a && e.2.1 == q with | some e => e.2.2 | none => 0

/-- Paths of every ring bundle that a tag of a placed image launches: ring, route and result. -/
def tagPaths (ts : List (Nat × List (BitVec 32))) (rs : List (Nat × Nat × BitVec 32)) : List (Nat × Nat × Option (List Nat × Nat)) :=
  ts.flatMap fun t =>
    (t.2.filter fun w => tgValid w && !tgLnk w).map fun w => (tgRing w, tgRoute w, walkRoute (entryIn rs) (tgRing w) (tgRoute w) 82 t.1)

/-- Routes that a stop with a link lane, one of `lk`, forwards on a ring and no tag launches: they come in from the lane (R104, R123). -/
def laneStarts (ts : List (Nat × List (BitVec 32))) (rs : List (Nat × Nat × BitVec 32)) (lk : List Nat) : List (Nat × Nat) :=
  let own := (tagPaths ts rs).flatMap fun p => match p.2.2 with | some (l, e) => (e :: l).map fun a => (a, p.2.1) | none => []
  ((rs.filter fun e => lk.contains e.1 && rtValid e.2.2 && rtAct e.2.2 == 0).map fun e => (e.1, e.2.1)).filter fun k => !own.contains k

/-- Paths of every ring bundle of a placed image, launched by a tag or come in from a lane: ring and result. -/
def bundlePaths (ts : List (Nat × List (BitVec 32))) (rs : List (Nat × Nat × BitVec 32)) (lk : List Nat) :
    List (Nat × Option (List Nat × Nat)) :=
  (tagPaths ts rs).map (fun p => (p.1, p.2.2)) ++
    (laneStarts ts rs lk).map fun k => ((Config.linkRing k.2).toNat, walkRoute (entryIn rs) (Config.linkRing k.2).toNat k.2 82 k.1)

/-- Every bundle that a tag sends on its own lane has its route's entry at the stop it leaves (R104, R105). -/
def laneTagsOk (ts : List (Nat × List (BitVec 32))) (rs : List (Nat × Nat × BitVec 32)) : Bool :=
  ts.all fun t => (t.2.filter fun w => tgValid w && tgLnk w).all fun w => rtValid (entryIn rs t.1 (tgRoute w))

/-- Stops of a placement whose lane the image puts in link mode. -/
def linkStops (b : List Byte) (ds : List Sect) (l : List Nat) : List Nat :=
  (l.zipIdx.filter fun e => match laneAsk b ds e.2 with | some (.link, _) => true | _ => false).map (·.1)

/-- Links (ring, stop left) with one entry for each bundle that crosses them. -/
def linkLoad (ps : List (Nat × Option (List Nat × Nat))) : List (Nat × Nat) :=
  ps.flatMap fun p => match p.2 with | some (l, _) => l.map fun a => (p.1, a) | none => []

/-- R109, R116 and R120 hold against the unit and the other sites: no entry of another site is replaced, no link is shared, none is a
failed one. -/
def State.routesFit (s : State) (n : Nat) (ts : List (Nat × List (BitVec 32))) (rs : List (Nat × Nat × BitVec 32)) (lk : List Nat) : Bool :=
  rs.all (fun e => let o := s.route e.1 e.2.1; !rtValid o || rtSite o == n) &&
    (linkLoad (bundlePaths ts rs lk)).all fun k =>
      !s.ring.failed.contains k && (match s.linkOwner k.1 k.2 with | some m => m == n | none => true)

/-- The image itself keeps R105 and R109: every path has its entries and ends at a sash of the site or a lane, one route to
an incoming tag, at most 75 % of the nominal steps on a link. -/
def routesOk (ts : List (Nat × List (BitVec 32))) (rs : List (Nat × Nat × BitVec 32)) (lk : List Nat) (nominal : Nat) : Bool :=
  let ps := bundlePaths ts rs lk
  let ll := linkLoad ps
  let ej := (rs.filter fun e => rtValid e.2.2 && rtAct e.2.2 == 1).map fun e => (e.1, rtTag e.2.2, e.2.1)
  ps.all (fun p => p.2.isSome) && laneTagsOk ts rs && ll.all (fun k => decide (4 * ll.count k ≤ 3 * nominal)) &&
    ej.all fun e => ej.all fun f => !(e.1 == f.1 && e.2.1 == f.2.1) || e.2.2 == f.2.2

/-- A placement meets R140. -/
def State.placeFits (s : State) (n : Nat) (b : List Byte) (h : ImgHdr) (ds : List Sect) (alt : Nat) (l : List Nat) : Bool :=
  let lanes := lanesOf b ds h.elastic l
  l.all (s.sashFree n) && lanes.all (fun e => s.laneFree n e.1) && s.quadsFit lanes (fun i => s.siteOf i != some n && !l.contains i) &&
    (h.elastic || s.routesFit n (placedTags b ds alt l) (placedRoutes b ds alt l n) (linkStops b ds l))

/-- Translations of an alternative, groups 0 to 3 and amounts from smallest to largest (R139, R140). -/
def placements (b : List Byte) (h : ImgHdr) (ds : List Sect) : List (Nat × List Nat) :=
  (List.range h.nalt).flatMap fun a =>
    let p := readPlacement (altData b ds 7 a) h.vsash
    let lo := p.foldl min 63
    let hi := p.foldl max 0
    if (ofAlt ds 7 a).all (fun e => e.flags == 0) then [(a, p)]
    else
      (List.range 4).flatMap fun g =>
        (List.range 16).filterMap fun k => if k + (hi - lo) < 16 then some (a, p.map fun x => x - lo + 16 * g + k) else none

/-- Sashes of an elastic load that qualify one after another (R141). -/
def State.elasticPick (s : State) (n : Nat) (b : List Byte) (h : ImgHdr) (ds : List Sect) (want : Nat) : List Nat → List Nat → List Nat
  | [], acc => acc
  | i :: is, acc =>
    if acc.length < want ∧ s.placeFits n b h ds 0 (acc ++ [i]) = true then s.elasticPick n b h ds want is (acc ++ [i])
    else s.elasticPick n b h ds want is acc

/-- Choose the placement: alternative and sashes by virtual sash or rank (R140, R141, R451). -/
def State.choosePlace (s : State) (n : Nat) (b : List Byte) (h : ImgHdr) (ds : List Sect) (cmd : List Byte) : Except Status (Nat × List Nat) :=
  let mask := fld cmd 0x10 8
  let named := (List.range 64).filter (bit mask)
  let cnt := fld cmd 2 1
  if h.elastic then
    if cnt < h.elMin ∨ h.elMax < cnt ∨ (cnt - h.elMin) % h.elStep ≠ 0 ∨ (named ≠ [] ∧ named.length ≠ cnt) then .error Code.ST_BAD_PARAM
    else if named ≠ [] then (if s.placeFits n b h ds 0 named then .ok (0, named) else .error Code.ST_LAYOUT_CONFLICT)
    else
      let l := s.elasticPick n b h ds cnt (List.range 64) []
      if l.length = cnt then .ok (0, l) else .error Code.ST_NO_PLACEMENT
  else if cnt ≠ 0 ∨ 1 < named.length then .error Code.ST_BAD_PARAM
  else
    match (placements b h ds).find? fun p => (named = [] ∨ p.2.head? = named.head?) ∧ s.placeFits n b h ds p.1 p.2 = true with
    | some p => .ok p
    | none => .error (if named = [] then Code.ST_NO_PLACEMENT else Code.ST_LAYOUT_CONFLICT)

/-! ### Phase 1 (R145) -/

/-- RUNAHEAD, FAILCFG and TRIGCFG line areas against each other and against LINES (R230, R253, R277). -/
def linesOk (b : List Byte) (h : ImgHdr) (ds : List Sect) : Bool :=
  let sc := siteData b ds 1
  let ra := siteData b ds 0xB
  let f := readFailCfg (siteData b ds 0xC)
  let raAreas := if ra = [] then [] else [(fld ra 0 4, fld ra 4 4), (fld ra 8 4, fld ra 12 4)]
  let fAreas := if (ofType ds 0xC).isEmpty then [] else [(f.fbufFirst, f.fbufLines), (f.mrcFirst, f.counterLines)]
  let panes := (List.range h.vsash).map fun v => asRange (siteLines sc v)
  let own := (raAreas ++ fAreas).filter (·.2 ≠ 0)
  disjoint own && own.all (fun a => decide (a.1 + a.2 ≤ 32768)) && own.all (fun a => panes.all fun p => !linesMeet a p) &&
    (List.range h.vsash).all fun v =>
      match sashData b ds 6 v with
      | none => true
      | some d =>
        let t := readTrigCfg d
        let a := (t.tbufFirst, t.tbufLines)
        decide (a.1 + a.2 ≤ 32768) && own.all (fun o => !linesMeet a o) && !linesMeet a (panes.getD v (0, 0))

/-- RUNAHEAD against R230. -/
def runaheadOk (b : List Byte) (h : ImgHdr) (ds : List Sect) : Bool :=
  let ra := siteData b ds 0xB
  let sc := siteData b ds 1
  if ra = [] then true
  else
    decide (fld ra 0x10 1 < 2) && zeroAt ra 0x11 64 &&
      (List.range h.vsash).all (fun v =>
        decide (ceilDiv (2049 + 2048 * fld ra 0x10 1 + istoreMemwr ((sashData b ds 2 v).getD []) h.sched) 2 ≤ fld ra 4 4)) &&
      (List.range h.vsash).all fun v =>
        match sashData b ds 5 v with
        | some d => fld d 0 1 != 1 || fld d 2 1 != 0 || decide ((fld sc 0x10 1 + 1) * ceilDiv (fld d 6 2 * 2 ^ fld d 1 1) 128 ≤ fld ra 12 4)
        | none => true

/-- PINCFG and TRIGCFG sections, one by one and together (R183, R187, R203, R215, R253, R270). -/
def pinsOk (b : List Byte) (h : ImgHdr) (ds : List Sect) : Bool :=
  let cs := (List.range h.vsash).filterMap fun v => sashData b ds 5 v
  let pin := (cs.filter fun d => fld d 0 1 == 1).map readPinCfg
  let dir := (cs.filter fun d => fld d 0 1 == 2).map readPinCfg
  let depth := fld (siteData b ds 1) 0x10 1
  let bm := (readFailCfg (siteData b ds 0xC)).bitmap
  cs.all (fun d => pincfgOk d h.sched) &&
    (match pin with
     | [] => (dir.map (·.rate)).dedup.length ≤ 1
     | p :: _ => pin.all (fun c => c.rate == p.rate && c.plog == p.plog && c.k == p.k && c.rpt == p.rpt) && dir.all fun c => c.rate == p.rate) &&
    (!(pin ++ dir).any (fun c => c.source == 1) || (pin ++ dir).all fun c => c.lead == 0) &&
    pin.all (fun c => decide ((depth + 2) * c.k * 2 ^ c.plog ≤ 32768)) && (!bm || pin.all fun c => getBit c.ctxcfg 7) &&
    (List.range h.vsash).all fun v =>
      match sashData b ds 6 v with
      | none => true
      | some t =>
        match sashData b ds 5 v with
        | some d => fld d 0 1 == 1 && trigcfgOk t (readPinCfg d)
        | none => false

/-- The image has VC0 routes, multiplies or pin and link lanes only with the contract entries for them (R136). -/
def contractHas (b : List Byte) (h : ImgHdr) (ds : List Sect) : Bool :=
  let es := readContract (siteData b ds 9)
  let has (i : Nat) := es.any fun e => e.item == i
  let vc0 := (List.range h.nalt).any fun a =>
    fld (altData b ds 8 a) 4 4 != 0 || (readTags (altData b ds 8 a)).any fun t => t.2.any fun w => tgValid w && !tgLnk w
  let mul := (List.range h.vsash).any fun v => match sashData b ds 3 v with | some d => cellsHave d [0x0B, 0x0C] | none => false
  let lanes := (List.range h.vsash).any fun v => match sashData b ds 5 v with | some d => fld d 0 1 == 1 || fld d 0 1 == 4 | none => false
  (!vc0 || has 1) && (!mul || has 5) && (!lanes || (has 2 && has 3))

/-- WCELL_MUL is exceeded while a bound sash multiplies and couples panes with cells (R173). -/
def mulCoupled (b0 : Bool) (b : List Byte) (h : ImgHdr) (ds : List Sect) : Bool :=
  (readContract (siteData b ds 9)).any (fun e => e.item == 5 && e.compare b0 == some 3) &&
    (List.range h.vsash).any fun v =>
      fld (siteData b ds 1) (0x40 + v) 1 == 0 &&
        (match sashData b ds 3 v with
         | some d => cellsHave d [0x0B, 0x0C] && (cellsHave d [0x15] || istoreHas ((sashData b ds 2 v).getD []) h.sched [0xA, 0xB])
         | none => false)

/-- Placement sections and their stop configurations (R137, R139, R144). -/
def altsOk (b : List Byte) (h : ImgHdr) (ds : List Sect) : Bool :=
  (List.range h.nalt).all (fun a =>
    let p := readPlacement (altData b ds 7 a) h.vsash
    let d := altData b ds 8 a
    let reloc := (ofAlt ds 7 a).any fun e => e.flags == 1
    placementOk (altData b ds 7 a) h.vsash && stopcfgOk d h &&
      (!reloc || ((p.map (· / 16)).dedup.length ≤ 1 && (readRoutes d).all fun r => decide (r.ref < 128)))) &&
    (!h.multi || (readLinks (siteData b ds 0xA)).isEmpty || (h.nalt == 1 && (ofType ds 7).all fun e => e.flags == 0))

/-- The sections of a base image hold against every rule that needs only the image; `n` is the sash count (R135 to R138). -/
def baseOk (b : List Byte) (h : ImgHdr) (ds : List Sect) (n : Nat) : Bool :=
  sitecfgOk (siteData b ds 1) h.vsash (!(ofType ds 0xB).isEmpty) && contractOk (siteData b ds 9) && (!h.multi || unitpartOk (siteData b ds 0xA) h.vsash) &&
    altsOk b h ds && pinsOk b h ds && runaheadOk b h ds && ((ofType ds 0xC).isEmpty || failcfgOk (siteData b ds 0xC) n) && linesOk b h ds &&
    contractHas b h ds

/-- DDR areas an image asks for: fail sets and acquisitions. -/
def imageAreas (b : List Byte) (h : ImgHdr) (ds : List Sect) : List (Nat × Nat) :=
  (if (ofType ds 0xC).isEmpty then [] else (readFailCfg (siteData b ds 0xC)).areas) ++
    (List.range h.vsash).flatMap fun v => match sashData b ds 6 v with | some d => (readTrigCfg d).areas | none => []

/-- DDR areas of site `n` as loaded. -/
def State.siteAreas (s : State) (n : Nat) : List (Nat × Nat) :=
  (s.site n).img.failcfg.areas ++ (s.siteSashes n).flatMap fun i => (s.trig i).cfg.areas

/-- The areas overlap neither each other nor another site's (R253, R277). -/
def State.areasOk (s : State) (n : Nat) (as : List (Nat × Nat)) : Bool :=
  disjoint as &&
    (List.range 16).all fun m => m == n || (s.siteAreas m).all fun o => as.all fun a => decide (a.1 + a.2 ≤ o.1) || decide (o.1 + o.2 ≤ a.1)

/-- What a load's mode is: strict when asked for, or when the image allows nothing else (R130, R451). -/
def loadStrict (h : ImgHdr) (cmd : List Byte) : Bool := fld cmd 1 1 == 1 || h.strictOnly

/-- Refusals about keys (R134). -/
def State.keyRefusal (s : State) (b : List Byte) (h : ImgHdr) : Option Status :=
  if h.signed then
    (if tget [] s.host.keys (fld b (h.sigOff + 1) 1) = [] then some Code.SC_KEY_SLOT_EMPTY else none)
  else if s.host.signedOnly then some Code.SC_IMAGE_UNSIGNED
  else none

/-- Phase 1: check the image and choose its placement (R145). -/
def State.loadCheck (s : State) (n : Nat) (cmd b : List Byte) : Except Status LoadPlan :=
  let h := readHdr b
  let ds := readDir b h
  let strict := loadStrict h cmd
  let es := readContract (siteData b ds 9)
  if imageOk b 0x01 (cmdLen cmd) = false then .error Code.ST_IMAGE_FORMAT
  else if baseOk b h ds (if h.elastic then fld cmd 2 1 else h.vsash) = false then .error Code.ST_IMAGE_FORMAT
  else if h.scoreboard = true ∧ 256 < h.sched then .error Code.TF_SCHEDULE_OVERRUN
  else
    match (contractRefusal s.id.b0 strict es).or (s.keyRefusal b h) with
    | some st => .error st
    | none =>
      if mulCoupled s.id.b0 b h ds then .error Code.LC_CONTRACT_EXCEEDED
      else if h.multi = false ∧ fld cmd 0x18 8 ≠ 0 then .error Code.ST_BAD_PARAM
      else
        match s.choosePlace n b h ds cmd with
        | .error st => .error st
        | .ok (alt, l) =>
          let ts := placedTags b ds alt l
          let rs := placedRoutes b ds alt l n
          if h.elastic = false ∧ routesOk ts rs (linkStops b ds l) (h.sched + h.linkExch + 6) = false then .error Code.ST_LAYOUT_CONFLICT
          else if s.areasOk n (imageAreas b h ds) = false then .error Code.ST_LAYOUT_CONFLICT
          else if l.any fun i => (s.dom (domSash i)).locked then .error Code.PW_DOMAIN_LOCKED
          else
            let old := (s.ring.stops.filter fun e => e.2.active.routes.any fun r => routeOf n r.2).map (·.1)
            .ok
              { sashes := l
                alt := alt
                strict := strict
                key := if h.signed then tget [] s.host.keys (fld b (h.sigOff + 1) 1) else []
                peers := []
                stops := (l ++ (if h.elastic then [] else rs.map (·.1)) ++ s.siteSashes n ++ old).dedup }

/-! ### Phase 2 (R119 to R121, R145) -/

/-- The new bank of a stop: the active one without the site's earlier entries, with the new ones (R104, R120, R122). -/
def State.newBank (s : State) (n a : Nat) (b : List Byte) (h : ImgHdr) (ds : List Sect) (p : LoadPlan) : StopBank :=
  let bank := (s.stop a).active.without n ((s.siteSashes n).contains a)
  let ts := if h.elastic then [] else placedTags b ds p.alt p.sashes
  let rs := if h.elastic then [] else (placedRoutes b ds p.alt p.sashes n).filter (·.1 == a)
  { bank with
    tags := if p.sashes.contains a then tfill 0 [] 0 ((ts.find? (·.1 == a)).map (·.2) |>.getD []) else bank.tags
    routes := rs.foldl (fun t e => tset 0 t e.2.1 e.2.2) bank.routes
    access := if p.sashes.contains a then p.sashes else bank.access }

/-- Write a shadow bank and begin the stop's drain (R119). -/
def State.beginDrain (s : State) (tk : BitVec 32) (a : Nat) (bank : StopBank) : State :=
  s.modStop a fun x => { x with shadow := bank, drain := .draining 1, owner := some tk }

/-- The stops of a load or unload that have not swapped yet. -/
def State.owned (s : State) (tk : BitVec 32) : List Nat := (s.ring.stops.filter fun e => e.2.owner == some tk).map (·.1)

/-- Give up a change of stops: one that has not swapped keeps its active bank; one that has drains again, to swap back (R119, R146). -/
def State.giveBack (s : State) (tk : BitVec 32) (l : List Nat) : State :=
  l.foldl
    (fun s a =>
      s.modStop a fun x =>
        if x.owner = some tk then { x with drain := .idle, owner := none } else { x with drain := .draining 1, owner := some tk })
    s

/-- Some stop is being changed by a load or an unload (R119, R148). -/
def State.stopsHeld (s : State) : Bool := s.ring.stops.any fun e => e.2.owner.isSome

/-! ### A fail close that must end before its sashes go (R254, R256) -/

/-- Run an owed fail close to its end: every record leaves, every request is answered, the set closes. -/
def State.closeSet (s : State) (n : Nat) : State :=
  if (s.site n).fl.closing then
    let l := s.siteSashes n
    let s := l.foldl (fun s i => s.failDrain n i ((s.lane i).fail.fifo.length + (s.lane i).fail.buf.length + 1)) s
    (s.flushFailWorms l (3 * s.ring.worms.length + 3)).failCloseEnd n
  else s

/-! ### Phase 3 (R145, R147) -/

/-- The site's image record from its sections (R130, R135, R138, R142, R174, R230). -/
def imageOf (b0 : Bool) (b : List Byte) (h : ImgHdr) (ds : List Sect) (p : LoadPlan) : SiteImage :=
  let sc := siteData b ds 1
  let ra := siteData b ds 0xB
  let up := siteData b ds 0xA
  let es := readContract (siteData b ds 9)
  let hop := max ((es.find? (·.item == 1)).map (·.value) |>.getD 0) ((descValue b0 1 0).getD 0)
  let links := if h.elastic then [] else (bundlePaths (placedTags b ds p.alt p.sashes) (placedRoutes b ds p.alt p.sashes 0) (linkStops b ds p.sashes)).map fun q =>
    match q.2 with | some (l, _) => l.length | none => 0
  { id := BitVec.ofNat 64 h.id
    hflags := BitVec.ofNat 8 h.hflags
    sched := h.sched
    linkExch := h.linkExch
    vsash := h.vsash
    watchdog := fld sc 0 4
    cycles := fld sc 8 6
    depth := fld sc 0x10 1
    policy := BitVec.ofNat 8 (fld sc 0x11 1)
    strict := p.strict
    outcome := outcomeWord b0 p.strict es
    contract := es.foldl (fun t e => tset none t (e.item * 256 + e.param) (some e.value)) []
    sashes := p.sashes
    hasScratch := !(ofType ds 4).isEmpty
    netlog := fld ra 0x10 1 == 1
    ckptFirst := fld ra 0 4
    ckptLines := fld ra 4 4
    clogFirst := fld ra 8 4
    clogLines := fld ra 12 4
    vsteps := max 16 (links.foldl max 0 * hop)
    part := if h.multi then fld up 0 2 else 0
    nparts := if h.multi then fld up 2 2 else 0
    parent := if h.multi then fld up 4 2 else 0xFFFF
    links := if h.multi then readLinks up else []
    peers := tfill 0 [] 0 (p.peers.map (BitVec.ofNat 18))
    failcfg := if (ofType ds 0xC).isEmpty then {} else readFailCfg (siteData b ds 0xC) }

/-- The configuration of the sash of virtual sash `v` and rank `r` (R75, R76, R135, R142). -/
def sashCfgOf (b : List Byte) (h : ImgHdr) (ds : List Sect) (p : LoadPlan) (site : Fin 16) (v r : Nat) : SashCfg :=
  let sc := siteData b ds 1
  { site := some site
    vsash := v
    index := r
    count := p.sashes.length
    free := fld sc (0x40 + v) 1 == 1
    lineFirst := (siteLines sc v).1
    lineLast := (siteLines sc v).2
    nMemwr := istoreMemwr ((sashData b ds 2 v).getD []) h.sched
    hasPin := (ofSash ds 5 v).length == 1
    hasTrig := (ofSash ds 6 v).length == 1 }

/-- A lane as a load leaves it: idle frames in pin mode, else electrical idle; its fields, both mask copies; its counters cleared; FCNT
runs on where the lane stays in pin mode (R147, R204, R221, R534). -/
def Lane.configure (l : Lane) (d : Option (List Byte)) : Lane :=
  let m := match d with | some d => (laneModeOf (fld d 0 1)).getD .idle | none => .idle
  let c := match d with | some d => readPinCfg d | none => {}
  let rows := match d with | some d => readMaskRows d | none => []
  { l.clearRun with
    mode := m
    rate := if m = .pin ∨ m = .direct then c.rate else l.rate
    cfg := c
    masks := { rows0 := rows, rows1 := rows }
    lock := if l.mode = m then l.lock else false
    fcnt := if l.mode = .pin ∧ m = .pin then l.fcnt else 0
    rxFcnt := if l.mode = .pin ∧ m = .pin then l.rxFcnt else none
    prbsTx := 0xFFFFFFFF
    chk := {}
    slip := 0
    slipDue := 0
    rxRest := 0
    rxRestLen := 0
    st := l.st.cleared
    fail := {}
    link := {}
    txIdle := m != .pin
    exiting := false }

/-- A trigger unit as a load leaves it (R278, R281). -/
def trigConfigured (d : Option (List Byte)) : Trig :=
  match d with
  | some d => { cfg := readTrigCfg d, eng := readEngines d }
  | none => {}

/-- Sash, lane and trigger unit `i` take the configuration of virtual sash `v` and rank `r`. -/
def State.configureSash (s : State) (b : List Byte) (h : ImgHdr) (ds : List Sect) (p : LoadPlan) (site : Fin 16) (i v r : Nat) : State :=
  let s := s.modSash i fun x =>
    { x.free with cfg := sashCfgOf b h ds p site v r, ctr := {}, wrec := {}, corrNoted := false }
  let s := s.modLane i fun l => l.configure (sashData b ds 5 v)
  (s.setTrig i (trigConfigured (sashData b ds 6 v))).clearMemory i

/-- Enter LOADING: the earlier image goes, the sashes are held and configured (R145, R147). -/
def State.beginWrite (s : State) (n : Nat) (site : Fin 16) (b : List Byte) (p : LoadPlan) : State :=
  let h := readHdr b
  let ds := readDir b h
  let old := s.siteSashes n
  let s := ((((s.closeSet n).dropTransom n).closeStreams (old ++ p.sashes)).dropFlits n).resetGroups n
  let s := s.modSashes old Sash.free
  let s := s.modTrigs old Trig.disarm
  let s := s.modLanes (old.filter fun i => !p.sashes.contains i) Lane.leave
  let s := p.sashes.zipIdx.foldl (fun s e => s.configureSash b h ds p site e.1 (if h.elastic then 0 else e.2) e.2) s
  let s := (s.setQuadRates (lanesOf b ds h.elastic p.sashes) (fun i => !p.sashes.contains i)).settleQuads
  let was := (s.site n).state
  let s := s.setSite n { state := was, img := imageOf s.id.b0 b h ds p, loadPhase := 3 }
  s.moveSite n .loading Code.ST_OK

/-- A cell as its record sets it (R92). -/
def cellOf (r : List Byte) : WordCell :=
  { entries := recEntries r
    len := BitVec.ofNat 4 (fld r 0x20 1)
    pdly := BitVec.ofNat 3 (bits (fld r 0x20 1) 4 3)
    scr := recScr r
    xprod := BitVec.ofNat 8 (fld r 0x7C 1)
    presets := tfill 0 [] 0 ((List.range 14).map fun i => BitVec.ofNat 32 (fld r (0x24 + 4 * i) 4)) }

/-- Reserved bits of a cell record are zero (R92). -/
def cellRecOk (r : List Byte) : Bool := decide (fld r 0x20 4 < 128) && zeroAt r 0x7D 0x80

/-- The instruction store of an ISTORE section, keyed pane × 512 + address. -/
def istoreTab (d : List Byte) : Tab DWord :=
  let n := d.length / 2048
  let ws := (wordsOf 8 (256 * n) d).toArray
  (List.range 256).flatMap fun p =>
    (List.range n).filterMap fun k =>
      let w := ws.getD (256 * k + p) 0
      if w = 0 then none else some (p * 512 + k, BitVec.ofNat 64 w)

/-- Write the stores of sash `i` from virtual sash `v`'s sections (R132, R145). -/
def State.writeSash (s : State) (b : List Byte) (ds : List Sect) (i v : Nat) : State :=
  let s := s.modSash i fun x =>
    { x with
      istore := istoreTab ((sashData b ds 2 v).getD [])
      cells := match sashData b ds 3 v with
        | some d => tfill {} [] 0 ((List.range 64).map fun c => cellOf (cellRec d c))
        | none => []
      wen := match sashData b ds 3 v with
        | some d => tfill 0 [] 0 ((List.range 8).map fun n => BitVec.ofNat 65 (fld d (0x2000 + 16 * n) 16))
        | none => [] }
  (ofSash ds 4 v).foldl (fun s e => s.memWrite (padAddr i (32 * fld (e.data b) 0 4)) ((e.data b).drop 16)) s

/-- What the stream of phase 3 finds wrong with virtual sash `v`, placed on sash `i`, before its instructions are checked. -/
def streamBad (b : List Byte) (h : ImgHdr) (ds : List Sect) (i v : Nat) : Option Refused :=
  match sashData b ds 2 v with
  | none => some (Code.TF_SCHEDULE_OVERRUN, i, 0xFF, 0)
  | some d =>
    if d.length < 2048 * h.sched then some (Code.TF_SCHEDULE_OVERRUN, i, 0xFF, 0)
    else
      match sashData b ds 3 v with
      | none => none
      | some c =>
        match (List.range 64).find? fun k => !cellRecOk (cellRec c k) with
        | some k => some (Code.TF_BAD_INSTRUCTION, i, k, 8)
        | none => if (List.range 8).any fun n => 2 ^ 65 ≤ fld c (0x2000 + 16 * n) 16 then some (Code.ST_IMAGE_FORMAT, i, 0xFF, 0) else none

/-- Write every store and check it: the state, and the refusal found (R42, R82, R145). -/
def State.writeStores (s : State) (n : Nat) (b : List Byte) (p : LoadPlan) : State × Option Refused :=
  let h := readHdr b
  let ds := readDir b h
  let vs (r : Nat) : Nat := if h.elastic then 0 else r
  let s := p.sashes.zipIdx.foldl (fun s e => s.writeSash b ds e.1 (vs e.2)) s
  match p.sashes.zipIdx.findSome? fun e => streamBad b h ds e.1 (vs e.2) with
  | some r => (s, some r)
  | none => (s, s.sashesBad n p.sashes)

/-! ### The load's slices -/

/-- A load is in phases 2 to 4, other than the one of ticket `tk` (R148). -/
def HostState.loadActive (h : HostState) (tk : BitVec 32) : Bool :=
  h.tickets.any fun e =>
    match e.2 with
    | some t => t.final.isNone && decide (2 ≤ t.phase) && e.1 != tk.toNat && (match t.work with | .load _ _ => true | _ => false)
    | none => false

/-- A load ends in phase 1 or 2: the site keeps its state and image (R146). -/
def State.loadKeep (s : State) (tk : BitVec 32) (n : Nat) (st : Status) (data : List Byte := []) : State :=
  (s.modSite n fun x => { x with loadPhase := 0 }).finish tk st data

/-- A load is refused in phase 2: it ends when the stops that have swapped have swapped back (R119, R146). -/
def State.loadBack (s : State) (tk : BitVec 32) (n : Nat) (st : Status) (p : LoadPlan) : State :=
  let s := s.giveBack tk p.stops
  if s.owned tk = [] then s.loadKeep tk n st else s.modTicket tk fun t => { t with plan := some { p with back := some st } }

/-- Drains that have failed for good begin again. -/
def State.drainAgain (s : State) (l : List Nat) : State :=
  l.foldl (fun s a => if (s.stop a).drain = .failed then s.modStop a fun x => { x with drain := .draining 1 } else s) s

/-- A load ends in phase 3 or 4: the site is FAULTED and holds no runnable image (R146). -/
def State.loadFault (s : State) (tk : BitVec 32) (n : Nat) (r : Refused) (detail : Nat := 0) : State :=
  let s := s.modSite n fun x =>
    { x with
      loadPhase := 0
      img := { x.img with loadFailed := true }
      fault := r.1
      faultSash := BitVec.ofNat 8 r.2.1
      faultPane := BitVec.ofNat 8 r.2.2.1
      faultStep := BitVec.ofNat 16 r.2.2.2 }
  let s := s.postFault r.1 n r.2.1 0 r.2.2.2 r.2.2.1 detail
  (s.moveSite n .faulted r.1).finish tk r.1 []

/-- PROGRESS of a load: phase and bytes written (R451). -/
def loadProgress (phase n : Nat) : BitVec 64 := BitVec.ofNat 64 (phase * 2 ^ 56 + n % 2 ^ 48)

/-- Mask of a sash list. -/
def sashMask (l : List Nat) : Nat := l.foldl (fun m i => m ||| 2 ^ i) 0

/-- COMPLETE data of a load (R450). -/
def SiteImage.loadData (g : SiteImage) : List Byte := leBytes g.outcome.toNat 4 ++ leBytes 0 4 ++ leBytes (sashMask g.sashes) 8 ++ leBytes g.id.toNat 8

/-- Phase 1 slice. -/
def State.loadPhase1 (s : State) (tk : BitVec 32) (n : Nat) (cmd : List Byte) : State :=
  if s.host.loadActive tk || s.stopsHeld then s.modTicket tk fun t => { t with phase := 1, queued := false, progress := loadProgress 1 0 }
  else
    match s.fetchChecked (cmdUnit cmd) (cmdAddr cmd) (cmdLen cmd) with
    | (_, some st, s) => s.loadKeep tk n st
    | (b, none, s) =>
      match s.loadCheck n cmd b with
      | .error st =>
        let es := readContract (siteData b (readDir b (readHdr b)) 9)
        let named := firstExceeded s.id.b0 es fun e => loadStrict (readHdr b) cmd || e.item == 5
        s.loadKeep tk n st (if st = Code.LC_CONTRACT_EXCEEDED then entryData named else [])
      | .ok p =>
        let h := readHdr b
        let ds := readDir b h
        let np := fld (siteData b ds 0xA) 2 2
        match (if h.multi then s.fetchImage (cmdUnit cmd) (fld cmd 0x18 8) (4 * np) else ([], none, s)) with
        | (_, some st, s) => s.loadKeep tk n st
        | (ps, none, s) =>
          let p := { p with peers := (wordsOf 4 np ps).map (· % 2 ^ 18) }
          if 1 < ((p.peers.map (· / 1024)).dedup).length then s.loadKeep tk n Code.ST_BAD_PARAM else
          let s := s.modTicket tk fun t => { t with phase := 2, queued := false, plan := some p, progress := loadProgress 2 0 }
          p.stops.foldl (fun s' a => s'.beginDrain tk a (s.newBank n a b h ds p)) s

/-- Phase 2 slice: when every stop has swapped the site enters LOADING; a refused load waits for its stops to swap back (R121, R145). -/
def State.loadPhase2 (s : State) (tk : BitVec 32) (n : Nat) (site : Fin 16) (cmd : List Byte) (p : LoadPlan) : State :=
  let l := s.owned tk
  match p.back with
  | some st => if l = [] then s.loadKeep tk n st else s.drainAgain l
  | none =>
    if l.any fun a => (s.stop a).drain == .failed then s.loadBack tk n Code.ST_RECONFIG_BUSY p
    else if l ≠ [] then s
    else
      match s.fetchChecked (cmdUnit cmd) (cmdAddr cmd) (cmdLen cmd) with
      | (_, some st, s) => s.loadBack tk n st p
      | (b, none, s) =>
        (s.beginWrite n site b p).modTicket tk fun t => { t with phase := 3, buf := [], progress := loadProgress 3 0 }

/-- 64 KiB of the image arrive; with the last of them every store is written and checked (R145). -/
def State.loadStream (s : State) (tk : BitVec 32) (n : Nat) (cmd buf : List Byte) (p : LoadPlan) : State :=
  let o := buf.length
  let size := min 65536 (cmdLen cmd - o)
  match s.fetchImage (cmdUnit cmd) (cmdAddr cmd + o) size with
  | (_, some st, s') =>
    s'.loadFault tk n (st, 0xFF, 0xFF, 0) (if st = Code.DI_POISON_READ then s.poisonAddr (cmdAddr cmd + o) size else 0)
  | (c, none, s) =>
    let b := buf ++ c
    if b.length < cmdLen cmd then s.modTicket tk fun t => { t with buf := b, progress := loadProgress 3 b.length }
    else
      match s.writeStores n b p with
      | (s, some r) => s.loadFault tk n r
      | (s, none) =>
        (s.modSite n fun x => { x with loadPhase := 4 }).modTicket tk fun t =>
          { t with buf := b, phase := 4, progress := loadProgress 4 b.length }

/-- Phase 3 slice: the stream stalls while a domain of the site's sashes and lanes wakes (R145, R151). -/
def State.loadPhase3 (s : State) (tk : BitVec 32) (n : Nat) (cmd buf : List Byte) (p : LoadPlan) : State :=
  let l := p.sashes
  match s.accessAll (l.map domSash ++ ((l.filter fun i => (s.lane i).mode != .idle).map fun i => domQuad (i / 4)).dedup) with
  | (.locked, s) => s.loadFault tk n (Code.PW_DOMAIN_LOCKED, 0xFF, 0xFF, 0)
  | (.wait, s) => s
  | (.go, s) => s.loadStream tk n cmd buf p

/-- A load ends with `st` in phase 3 or 4; under an UNLOAD the site stays LOADING until that empties it (R146, R151). -/
def State.loadStop (s : State) (tk : BitVec 32) (n : Nat) (st : Status) : State :=
  if (s.site n).unloading then (s.modSite n fun x => { x with loadPhase := 0, img := { x.img with loadFailed := true } }).finish tk st []
  else s.loadFault tk n (st, 0xFF, 0xFF, 0)

/-- Phase 4 slice: CRC, then signature; the site enters LOADED (R133, R134, R145). -/
def State.loadPhase4 (s : State) (tk : BitVec 32) (n : Nat) (b : List Byte) (p : LoadPlan) : State :=
  let h := readHdr b
  if crcOk b h = false then s.loadFault tk n (Code.DI_IMAGE_CRC, 0xFF, 0xFF, 0)
  else if h.signed = true ∧ sigVerifies b h p.key = false then s.loadFault tk n (Code.SC_IMAGE_SIGNATURE, 0xFF, 0xFF, 0)
  else
    let s := s.modSite n fun x => { x with loadPhase := 0 }
    (s.moveSite n .loaded Code.ST_OK).finish tk Code.ST_OK (s.site n).img.loadData

/-- A slice of a LOAD (R145 to R148, R447). -/
def State.loadSlice (s : State) (tk : BitVec 32) (t : Ticket) (site : Fin 16) (cmd : List Byte) : State :=
  let n := site.val
  let stop : Option Status := if t.cancel then some Code.ST_ABORTED else if t.hostErr then some Code.ST_DMA_HOST_ERROR else none
  match t.phase, t.plan, stop with
  | 3, _, some st | 4, _, some st => s.loadStop tk n st
  | _, some p, some st => if p.back.isSome then s.loadPhase2 tk n site cmd p else s.loadBack tk n st p
  | _, none, some st => s.loadKeep tk n st
  | 2, some p, none => s.loadPhase2 tk n site cmd p
  | 3, some p, none => s.loadPhase3 tk n cmd t.buf p
  | 4, some p, none => s.loadPhase4 tk n t.buf p
  | _, _, none => s.loadPhase1 tk n cmd

/-! ### Leaving ARMED without a run (R150, R254) -/

/-- The set an arm opened returns to the state it had before the arm, and the site's counts to the set it last closed (R254). -/
def Site.unarm (x : Site) : Site :=
  if x.fl.open_ = false then x
  else if x.fl.reopened then { x with fl := { x.fl with open_ := false, reopened := false } }
  else { x with fl := x.flBefore }

/-- Header bytes at REC_BASE (R257). -/
def State.writeHeader (s : State) (n st : Nat) : State := s.memWrite (s.site n).recBase ((s.site n).failHeader n st)

/-- Write the STATE byte of the site's fail set header (R257). -/
def State.writeSetState (s : State) (n st : Nat) : State :=
  s.memWriteBE ((s.site n).recBase + 4) [some (BitVec.ofNat 8 ((s.site n).fl.stateByte st))]

/-- The fail set of a site that leaves ARMED without having run: CLEARED again, or CLOSED with its header as it stood (R254). -/
def State.unarmSet (s : State) (n : Nat) : State :=
  let f := (s.site n).fl
  if f.open_ = false then s else (s.writeSetState n (if f.reopened then 4 else 1)).modSite n Site.unarm

/-! ### Unload (R150, R151) -/

/-- Stops that hold anything of a site. -/
def State.siteStops (s : State) (n : Nat) : List Nat :=
  (s.siteSashes n ++ (s.ring.stops.filter fun e => e.2.active.routes.any fun r => routeOf n r.2).map (·.1)).dedup

/-- An UNLOAD is cancelled before its drains: a site whose load it has stopped is FAULTED, as a cancelled load leaves it (R447). -/
def State.unloadCancel (s : State) (tk : BitVec 32) (n : Nat) : State :=
  let s := (s.modSite n fun x => { x with unloading := false }).finish tk Code.ST_ABORTED []
  if (s.site n).state = .loading ∧ (s.site n).loadPhase = 0 then
    ((s.modSite n fun x => { x with fault := Code.ST_ABORTED }).postFault Code.ST_ABORTED n 0xFF 0 0 0xFF 0).moveSite n .faulted Code.ST_ABORTED
  else s

/-- A slice of an UNLOAD: the first, once no load holds the site or any stop, begins the drains; later ones retry failed ones, the last
empties the site (R119, R148, R151). -/
def State.unloadSlice (s : State) (tk : BitVec 32) (t : Ticket) (n : Nat) : State :=
  if t.cancel ∧ t.phase = 0 then s.unloadCancel tk n
  else if t.phase = 0 ∧ ((s.site n).loadPhase ≠ 0 ∨ s.stopsHeld = true) then s.modTicket tk fun t => { t with queued := false }
  else if t.phase = 0 then
    let l := s.siteStops n
    let s := s.modTicket tk fun t => { t with phase := 1, queued := false, total := BitVec.ofNat 64 l.length }
    l.foldl (fun s a => s.beginDrain tk a ((s.stop a).active.without n ((s.siteSashes n).contains a))) s
  else
    let l := s.owned tk
    if l ≠ [] then
      (s.drainAgain l).modTicket tk fun t => { t with progress := BitVec.ofNat 64 (t.total.toNat - l.length) }
    else
      let s := (s.dropTransom n).closeSet n
      let s := (if (s.site n).state = .armed then s.unarmSet n else s).closeStreams (s.siteSashes n)
      let old := (s.site n).state
      let s := if old = .empty then s else s.postSite n old .empty Code.ST_OK
      (s.emptySite n).finish tk Code.ST_OK []

/-- Live loads of a site stop at their next slice (R151). -/
def State.stopLoads (s : State) (n : Nat) : State :=
  s.host.tickets.foldl
    (fun s e =>
      match e.2 with
      | some t =>
        (match t.work with
         | .load m _ => if m = n ∧ t.final.isNone then s.modTicket (BitVec.ofNat 32 e.1) fun t => { t with cancel := true } else s
         | _ => s)
      | none => s)
    s

/-- The stops of a load are as before it, at once: a site reset (R150, R151; DESIGN CHOICE, log entry 84). -/
def State.revertStops (s : State) (tk : BitVec 32) (p : LoadPlan) : State :=
  p.stops.foldl
    (fun s a =>
      s.modStop a fun x =>
        let mine := x.owner == some tk
        let x' := if mine == p.back.isSome then { x with active := x.shadow, shadow := x.active } else x
        if mine then { x' with drain := .idle, owner := none } else x')
    s

/-- Live loads of a site end with ST_ABORTED when the site is reset (R151). -/
def State.endLoads (s : State) (n : Nat) : State :=
  s.host.tickets.foldl
    (fun s e =>
      match e.2 with
      | some t =>
        (match t.work with
         | .load m _ =>
           if m = n ∧ t.final.isNone then
             let s := match t.plan with | some p => if t.phase = 2 then s.revertStops (BitVec.ofNat 32 e.1) p else s | none => s
             (s.modSite n fun x => { x with loadPhase := 0 }).finish (BitVec.ofNat 32 e.1) Code.ST_ABORTED []
           else s
         | _ => s)
      | none => s)
    s

/-- UNLOAD (R150, R446): accepted for any state but RUNNING. -/
def unloadBody (s : State) (q : Req) : Reply :=
  let n := q.n 0 1
  if 16 ≤ n then refuse s Code.ST_BAD_PARAM
  else if (s.site n).state = .running then refuse s Code.ST_SITE_STATE
  else
    let r := s.accept q (.unload n) false 0
    if r.st = Code.ST_ACCEPTED then { r with s := ((r.s.stopLoads n).cancelStartAt n).modSite n fun x => { x with unloading := true } } else r

/-- UNLOAD (R150, R450). -/
def execUnload (src : Nat) (s : State) : Out := .next (s.command src { op := 0x0202, need := 1, cov := [(0, 1)] } unloadBody)

/-! ### LOAD (R146, R451) -/

/-- A load of this site is refused: in use, or a load, unload or arm of it under way (R146). -/
def State.siteBusy (s : State) (n : Nat) : Bool :=
  let x := s.site n
  x.state == .loading || x.state == .armed || x.state == .running || x.loadPhase != 0 || x.unloading || s.host.objBusy [(3, n)]

/-- LOAD (R145, R451): accepted with a ticket; a busy site refuses in COMPLETE. -/
def loadBody (s : State) (q : Req) : Reply :=
  let n := q.n 0 1
  if 16 ≤ n ∨ 2 ≤ q.n 1 1 ∨ q.n 8 8 % 64 ≠ 0 then refuse s Code.ST_BAD_PARAM
  else if 2 ≤ q.n 3 1 then refuse s Code.ST_RESERVED_NONZERO
  else
    let busy := s.siteBusy n
    let r := s.accept q (.load n (bytesAt q.pay 0 32)) true (q.n 4 4)
    if r.st ≠ Code.ST_ACCEPTED then r
    else if busy then { r with s := r.s.finish r.tk Code.ST_SITE_BUSY [] }
    else { r with s := r.s.modSite n fun x => { x with loadPhase := 1 } }

/-- LOAD (R145, R450). -/
def execLoad (src : Nat) (s : State) : Out := .next (s.command src { op := 0x0201, need := 0x18, cov := [(0, 0x20)] } loadBody)

/-! ### REWIND (R151) -/

/-- The sash at the state of R66 again, its stores and presets kept. -/
def Sash.rewind (x : Sash) : Sash := x.clearUser

/-- Rewind a HALTED or FAULTED site to the state of R66. -/
def State.rewindSite (s : State) (n : Nat) : State :=
  let l := s.siteSashes n
  let s := (((s.closeSet n).dropTransom n).dropFlits n).resetGroups n
  let s := s.modSashes l Sash.rewind
  let s := l.foldl (fun s i => s.clearMemory i) s
  let s := s.modLanes l fun x => (x.clearRun).runOver
  let s := s.modTrigs l Trig.disarm
  let s := s.modSite n fun x =>
    { x with
      fault := 0
      faultSash := 0xFF
      faultPane := 0xFF
      faultStep := 0
      cycle := 0
      c0 := 0
      pend := []
      haltPend := false
      cycleLimit := false
      draining := false
      cutCodes := false
      hingeBegun := false
      arriveSent := false
      childArr := []
      remoteUa := none
      hingeWait := 0
      hingeRun := 0
      arriveLate := false
      relPend := none
      origin := false
      voided := false
      armedFromHalted := false }
  (s.restLanes n).moveSite n .loaded Code.ST_OK

/-- REWIND: refused while the image cannot give back its state without being read again (R151). -/
def rewindBody (s : State) (q : Req) : Reply :=
  let n := q.n 0 1
  let x := s.site n
  if 16 ≤ n then refuse s Code.ST_BAD_PARAM
  else if (x.state ≠ .halted ∧ x.state ≠ .faulted) ∨ x.loadPhase ≠ 0 ∨ x.unloading = true then refuse s Code.ST_SITE_STATE
  else if x.img.hasScratch ∨ x.transomed ∨ x.img.loadFailed then refuse s Code.ST_REWIND_UNAVAILABLE
  else done (s.rewindSite n) []

/-- REWIND (R151, R450). -/
def execRewind (src : Nat) (s : State) : Out := .next (s.command src { op := 0x0203, need := 1, cov := [(0, 1)] } rewindBody)

end Sys2Proof.Machine
end

