-- ==== Sys2Proof/Machine/SystemCmds.lean ====
section
/-! DEFINITION. The system commands (R448, R449, R429, R447, R166, R349, R113, R114). -/

namespace Sys2Proof.Machine

/-! ### IDENTITY and BOOT_LOAD -/

/-- SYS_ID (R448). -/
def Ident.sysId (x : Ident) : Nat := 0x6400 * 2 ^ 16 + (if x.grade12 then 0x0C else 0x0A) * 2 ^ 8 + (if x.b0 then 0xB0 else 0xA1)

/-- IDENTITY: the unit's identity, UA and boot state. -/
def identityBody (s : State) (_ : Req) : Reply :=
  done s
    (leBytes s.id.sysId 4 ++ leBytes s.id.fwVersion.toNat 4 ++ leBytes s.id.serial.toNat 8 ++ leBytes s.chain.ua.toNat 4 ++
      leBytes s.host.bootState.toNat 1)

/-- IDENTITY (R448). -/
def execIdentity (src : Nat) (s : State) : Out := .next (s.command src { op := 0x0101, need := 0 } identityBody)

/-- BOOT_LOAD: ticket 1, and BOOT_STATE reads AUTH (R437). -/
def bootLoadBody (s : State) (q : Req) : Reply :=
  if 0x300000 < q.n 8 4 then refuse s Code.ST_BAD_PARAM
  else
    let h := { s.host with nextTicket := 1 }
    let r := ({ s with host := h } : State).accept q (.bootLoad (q.n 0 8) (q.n 8 4)) false (q.n 8 4)
    if r.st = Code.ST_ACCEPTED then { r with s := { r.s with host := { r.s.host with bootState := 2 } } } else refuse s r.st

/-- BOOT_LOAD (R437, R448). -/
def execBootLoad (src : Nat) (s : State) : Out :=
  .next (s.command src { op := 0x0102, need := 12, cov := [(0, 12)] } bootLoadBody)

/-! ### TICKET and CANCEL (R429, R447) -/

/-- STATE, OPCODE, FINAL, PROGRESS and TOTAL of a ticket (R448). -/
def Ticket.record (t : Ticket) : List Byte :=
  let st := if t.final.isSome then 2 else if t.queued then 0 else 1
  leBytes st 2 ++ leBytes t.opcode.toNat 2 ++ leBytes (t.final.getD 0).toNat 2 ++ leBytes 0 2 ++ leBytes t.progress.toNat 8 ++
    leBytes t.total.toNat 8

/-- TICKET: the record; reading an end starts the ticket's 60 s (R429). -/
def ticketBody (s : State) (q : Req) : Reply :=
  let tk : BitVec 32 := BitVec.ofNat 32 (q.n 0 4)
  match s.ticket tk with
  | none => refuse s Code.ST_TICKET_UNKNOWN
  | some t => done (if t.final.isSome then s.setTicket tk (some { t with retained := true }) else s) t.record

/-- TICKET (R429, R448). -/
def execTicket (src : Nat) (s : State) : Out := .next (s.command src { op := 0x0103, need := 4, cov := [(0, 4)] } ticketBody)

/-- The work runs to its own end whatever is cancelled (R447). -/
def State.cancelExempt (s : State) (tk : BitVec 32) (w : Work) : Bool :=
  match w with
  | .bootLoad _ _ | .failClear _ _ | .enumerate _ | .train _ | .domainSet _ _ => true
  | .transom n _ => match (s.site n).transom with | some t => t.ticket == tk && t.committed | none => false
  | _ => false

/-- CANCEL: the work ends at its next slice boundary, unless R447 exempts it or it has ended; the answer is the ticket's record. -/
def cancelBody (s : State) (q : Req) : Reply :=
  let tk : BitVec 32 := BitVec.ofNat 32 (q.n 0 4)
  match s.ticket tk with
  | none => refuse s Code.ST_TICKET_UNKNOWN
  | some t =>
    if t.final.isSome ∨ s.cancelExempt tk t.work = true then done s t.record
    else done (s.setTicket tk (some { t with cancel := true })) t.record

/-- CANCEL (R447, R448). -/
def execCancel (src : Nat) (s : State) : Out := .next (s.command src { op := 0x0104, need := 4, cov := [(0, 4)] } cancelBody)

/-! ### DESCRIPTOR and INVENTORY -/

/-- The unit code of an entry (R136, R166). -/
def ContractEntry.bytes (e : ContractEntry) : List Byte :=
  leBytes e.item 2 ++ leBytes e.param 1 ++ leBytes ((itemUnit e.item e.param).getD 0) 1 ++ leBytes e.value 4

/-- DESCRIPTOR (R166, R167, R448). -/
def descriptorBody (s : State) (_ : Req) : Reply :=
  let es := descriptor s.id.b0
  done s (leBytes es.length 4 ++ es.flatMap ContractEntry.bytes)

/-- DESCRIPTOR (R166, R448). -/
def execDescriptor (src : Nat) (s : State) : Out := .next (s.command src { op := 0x0105, need := 0 } descriptorBody)

/-- The unit's memories in MEMID order (R355). -/
def memIds : List Nat :=
  List.range 64 ++ (List.range 96).map (0x1000 + ·) ++ (List.range 96).map (0x2000 + ·) ++ (List.range 8).map (0x3000 + ·)

/-- Fused spare columns in use; a DDR channel reads 0 (R349, R448). -/
def State.spareOf (s : State) (m : Nat) : Byte := if memKind m = 3 then 0 else (s.memSt m).spareCols

/-- INVENTORY: one byte a memory from FIRST on, up to the last memory. -/
def inventoryBody (s : State) (q : Req) : Reply :=
  let first := q.n 0 2
  let cnt := q.n 2 1
  if memIdOk first = false ∨ cnt = 0 ∨ 224 < cnt then refuse s Code.ST_BAD_PARAM
  else done s (((memIds.dropWhile (· ≠ first)).take cnt).map s.spareOf)

/-- INVENTORY (R349, R448). -/
def execInventory (src : Nat) (s : State) : Out :=
  .next (s.command src { op := 0x0106, need := 3, cov := [(0, 3)] } inventoryBody)

/-! ### KEYSLOT (R134, R449) -/

/-- SIGNED_ONLY and FULL (R448). -/
def HostState.keyRecord (h : HostState) : List Byte :=
  [BitVec.ofNat 8 (b2n h.signedOnly),
    BitVec.ofNat 8 ((List.range 4).foldl (fun m i => m + (if tget [] h.keys i = [] then 0 else 2 ^ i)) 0)]

/-- Put a key, or none, into a slot. -/
def HostState.setKey (h : HostState) (slot : Nat) (k : List Byte) : HostState := { h with keys := tset [] h.keys slot k }

/-- KEYSLOT OP 0: an empty slot takes KEY. -/
def keyslotInstallBody (s : State) (q : Req) : Reply :=
  let k := q.n 0 1
  if 4 ≤ k then refuse s Code.ST_BAD_PARAM
  else if tget [] s.host.keys k ≠ [] then refuse s Code.ST_RESOURCE_BUSY
  else
    let h := s.host.setKey k (bytesAt q.pay 4 97)
    done { s with host := h } h.keyRecord

/-- KEYSLOT_INSTALL (R449). -/
def execKeyslotInstall (src : Nat) (s : State) : Out :=
  .next (s.command src { op := 0x0107, form := some (1, 0), need := 101, cov := [(0, 2), (4, 97)] } keyslotInstallBody)

/-- KEYSLOT OP 1: the slot becomes empty. -/
def keyslotRevokeBody (s : State) (q : Req) : Reply :=
  let k := q.n 0 1
  if 4 ≤ k then refuse s Code.ST_BAD_PARAM
  else if tget [] s.host.keys k = [] then refuse s Code.SC_KEY_SLOT_EMPTY
  else
    let h := s.host.setKey k []
    done { s with host := h } h.keyRecord

/-- KEYSLOT_REVOKE (R449). -/
def execKeyslotRevoke (src : Nat) (s : State) : Out :=
  .next (s.command src { op := 0x0107, form := some (1, 1), need := 2, cov := [(0, 2)] } keyslotRevokeBody)

/-- KEYSLOT OP 2: the settings and the hash of the slot's key. -/
def keyslotReadBody (s : State) (q : Req) : Reply :=
  let k := q.n 0 1
  if 4 ≤ k then refuse s Code.ST_BAD_PARAM
  else if tget [] s.host.keys k = [] then refuse s Code.SC_KEY_SLOT_EMPTY
  else done s (s.host.keyRecord ++ leBytes 0 2 ++ sha384 (tget [] s.host.keys k))

/-- KEYSLOT_READ (R449). -/
def execKeyslotRead (src : Nat) (s : State) : Out :=
  .next (s.command src { op := 0x0107, form := some (1, 2), need := 2, cov := [(0, 2)] } keyslotReadBody)

/-- KEYSLOT OP 3: the signed-only setting. -/
def keyslotSignedOnlyBody (s : State) (q : Req) : Reply :=
  if 4 ≤ q.n 0 1 then refuse s Code.ST_BAD_PARAM
  else
    let h := { s.host with signedOnly := true }
    done { s with host := h } h.keyRecord

/-- KEYSLOT_SIGNED_ONLY (R449). -/
def execKeyslotSignedOnly (src : Nat) (s : State) : Out :=
  .next (s.command src { op := 0x0107, form := some (1, 3), need := 2, cov := [(0, 2)] } keyslotSignedOnlyBody)

/-! ### LOUVRE (R113, R114) -/

/-- The bank with a louvre word for VC1 or VC2. -/
def StopBank.setLvw (b : StopBank) (n : Nat) (vc2 : Bool) (v : BitVec 32) : StopBank :=
  if vc2 then { b with lvw2X := v ^^^ lvwReset n } else { b with lvw1X := v ^^^ lvwReset n }

/-- A louvre word is written: the bucket keeps its content, cut down to the new BURST (R114). -/
def Stop.writeLvw (x : Stop) (n : Nat) (vc2 : Bool) (v : BitVec 32) : Stop :=
  let content := min (x.content n vc2) (lvwBurst v * 65536)
  let y := { x with active := x.active.setLvw n vc2 v, shadow := x.shadow.setLvw n vc2 v }
  y.setSpent vc2 (lvwBurst v * 65536 - content)

/-- LOUVRE: the new word is posted as a change of policy when it differs. -/
def louvreBody (s : State) (q : Req) : Reply :=
  let n := q.n 0 1
  let v : BitVec 32 := BitVec.ofNat 32 (q.n 4 4)
  let vc2 := q.n 1 1 == 2
  if 82 ≤ n ∨ (q.n 1 1 ≠ 1 ∧ q.n 1 1 ≠ 2) then refuse s Code.ST_BAD_PARAM
  else if bits v.toNat 25 6 ≠ 0 then refuse s Code.ST_RESERVED_NONZERO
  else if lvwBurst v < 9 ∨ 256 < lvwBurst v then refuse s Code.ST_BAD_PARAM
  else
    let old := (s.stop n).lvw n vc2
    let s := s.modStop n fun x => x.writeLvw n vc2 v
    done (if old = v then s else s.postPolicy 0x02 n v.toNat) (leBytes v.toNat 4)

/-- LOUVRE (R113, R114, R448). -/
def execLouvre (src : Nat) (s : State) : Out :=
  .next (s.command src { op := 0x0108, need := 8, cov := [(0, 2), (4, 4)] } louvreBody)

end Sys2Proof.Machine
end

