-- ==== Sys2Proof/Machine/SiteCmds.lean ====
section
/-! DEFINITION. The site commands that do not load (R450): TRANSOM with its checks (R152 to R157, R217, R282, R533),
SITE_STATUS (R452) and SITE_RESET (R150). -/

namespace Sys2Proof.Machine

/-! ### Transom records (R152, R217) -/

/-- The records of a section: `w` bytes each. -/
def recordsOf (w : Nat) (d : List Byte) : List (List Byte) := (List.range (d.length / w)).map fun i => (d.drop (w * i)).take w

/-- Bytes of a record by section type; 0 for other types. -/
def recordSize (typ : Nat) : Nat :=
  match typ with | 0x20 => 12 | 0x21 => 132 | 0x22 => 4 | 0x23 => 40 | 0x24 => 20 | _ => 0

/-- Reserved parts of a record are zero and its address is below S (R152, R217). -/
def recordOk (typ sched : Nat) (r : List Byte) : Bool :=
  match typ with
  | 0x20 => fld r 1 1 == 0 && decide (fld r 2 2 < sched)
  | 0x21 =>
    decide (fld r 1 1 < 8) && fld r 2 2 == 0 && (decide (fld r 0 1 < 64) || decide (fld r 4 16 < 2 ^ 65)) &&
      (64 ≤ fld r 0 1 ||
        ((!bit (fld r 1 1) 1 || decide (fld r 0x24 4 < 128)) && (!bit (fld r 1 1) 2 || (bytesAt r 0x60 32).all fun v => !getBit v 7) &&
          zeroAt r 0x81 0x84))
  | 0x22 => decide (fld r 0 4 < 2 ^ 18)
  | 0x23 => fld r 2 2 == 0 && (fld r 1 1 == 2 || zeroAt r 8 40)
  | 0x24 => zeroAt r 1 4
  | _ => false

/-- Records a section type may hold for one virtual sash; patches have their own limit (R152, R153, R217). -/
def recordLimit (typ : Nat) : Nat :=
  match typ with | 0x21 => 72 | 0x22 => 64 | 0x23 => 32 | 0x24 => 8 | _ => 65536

/-- Every record of a transom keeps R152. -/
def transomRecsOk (b : List Byte) (h : ImgHdr) (ds : List Sect) : Bool :=
  ds.all (fun d => (recordsOf (recordSize d.typ) (d.data b)).all (recordOk d.typ h.sched)) &&
    (List.range h.vsash).all fun v =>
      ([0x21, 0x22, 0x23, 0x24] : List Nat).all fun t =>
        decide (((ofSash ds t v).map fun d => d.len / recordSize t).sum ≤ recordLimit t)

/-- A record as the change it makes. -/
def recordChange (typ : Nat) (r : List Byte) : TransomRec :=
  match typ with
  | 0x20 => .ipatch (fld r 0 1) (fld r 2 2) (BitVec.ofNat 64 (fld r 4 8))
  | 0x21 => .wpatch (fld r 0 1) (BitVec.ofNat 8 (fld r 1 1)) (r.drop 4)
  | 0x22 => .deposit (fld r 0 1) (bits (fld r 0 4) 8 9) (bit (fld r 0 4) 17)
  | 0x23 => .pinpatch (BitVec.ofNat 8 (fld r 0 1)) (BitVec.ofNat 8 (fld r 1 1)) (BitVec.ofNat 32 (fld r 4 4)) (BitVec.ofNat 256 (fld r 8 32))
  | _ => .trigpatch (BitVec.ofNat 8 (fld r 0 1)) (BitVec.ofNat 128 (fld r 4 16))

/-- The changes of a transom by physical sash, in image order; an elastic site's every sash takes them all (R152). -/
def transomParts (b : List Byte) (ds : List Sect) (g : SiteImage) : List (Nat × TransomRec) :=
  ds.flatMap fun d =>
    let rs := (recordsOf (recordSize d.typ) (d.data b)).map (recordChange d.typ)
    let sashes := if bit g.hflags.toNat 0 then g.sashes else [g.sashes.getD d.vs 0]
    sashes.flatMap fun i => rs.map fun r => (i, r)

/-- Cells a change names exist: 0 to 63, or 0x40 to 0x47 for a wire enable word (R152, R154). -/
def TransomRec.exists_ : TransomRec → Bool
  | .wpatch c m _ => decide (c < 64) || (decide (c < 72) && m == 1)
  | _ => true

/-! ### Values of pin and trigger fields (R215, R217, R281, R282) -/

/-- A pin field write is legal for a lane (R215, R217): `rw` admits RWCFG, the PINFIELD command's own. -/
def pinFieldOk (c : PinCfg) (pin field v : Nat) (rw : Bool) : Bool :=
  match field with
  | 0x01 => decide (pin < 2 ^ c.plog ∧ v < 2)
  | 0x02 => !rw && decide (pin < 2 ^ c.plog)
  | 0x03 => pin == 0xFF && decide (v < 256)
  | 0x04 | 0x05 => pin == 0xFF && decide (v < 256) && wireByteOk v
  | 0x06 => rw && pin == 0xFF && decide (v < 256) && wireByteOk v
  | _ => false

/-- A trigger field value has a reserved bit set (R281, R458): EN and SPILL of TRIGCTL are not. -/
def trigRsv (field v : Nat) : Bool :=
  match field with
  | 0x01 => v / 16 != 0
  | 0x02 => v / 16 != 0
  | 0x03 => v / 2 ^ 8 != 0
  | 0x04 => v / 2 ^ 48 != 0
  | 0x05 => bits v 4 4 != 0 || v / 2 ^ 32 != 0
  | _ => decide (0x10 ≤ field ∧ field < 0x14) && (bits v 13 3 != 0 || bits v 19 5 != 0 || bits v 24 8 != 0 || bits v 96 32 != 0)

/-- A trigger field write is legal: an H-class field with a value R273 and R281 allow (R282). -/
def trigFieldOk (p : PinCfg) (field v : Nat) : Bool :=
  !trigRsv field v &&
    (match field with
     | 0x01 | 0x02 | 0x03 | 0x04 => true
     | 0x05 => actionOk v
     | _ => decide (0x10 ≤ field ∧ field < 0x14) && engineOk v (getBit p.active))

/-- A TRIGPATCH record is legal: as a TRIGFIELD write, and of TRIGCTL only SITEX and EXTEN (R282). -/
def trigPatchOk (p : PinCfg) (field v : Nat) : Bool := trigFieldOk p field v && !(field == 0x02 && bits v 0 2 != 0)

/-- TIME_OUT pins that timed-event generators hold, as a mask (R279, R412). -/
def State.tevPins (s : State) : Nat :=
  (List.range 8).foldl (fun m t => let e := s.tev t; if e.on && decide (e.target < 4) then m ||| 2 ^ e.target else m) 0

/-- The field write names a TIME_OUT pin that R279 does not allow. -/
def State.toutBusy (s : State) (field v : Nat) : Bool := field == 0x05 && bits v 20 4 &&& s.tevPins != 0

/-! ### The checks of R154 -/

/-- The configuration of sash `i` with the wire words a transom gives it. -/
def wenAfter (wen : Tab (BitVec 65)) (rs : List TransomRec) : Tab (BitVec 65) :=
  rs.foldl (fun t r => match r with | .wpatch c _ b => if 64 ≤ c then tset 0 t (c - 64) (BitVec.ofNat 65 (fld b 0 9)) else t | _ => t) wen

/-- The cells with the records a transom gives them. -/
def cellsAfter (cells : Tab WordCell) (rs : List TransomRec) : Tab WordCell :=
  rs.foldl (fun t r => match r with | .wpatch c m b => if c < 64 then tmod {} t c fun v => v.patch m b else t | _ => t) cells

/-- Cells to check: the patched ones, or all when a wire enable word changes (R154). -/
def cellsTouched (rs : List TransomRec) : List Nat :=
  if rs.any fun r => match r with | .wpatch c _ _ => decide (64 ≤ c) | _ => false then List.range 64
  else rs.filterMap fun r => match r with | .wpatch c _ _ => some c | _ => none

/-- First entry of a cell's loop that multiplies. -/
def WordCell.firstMul (v : WordCell) : Option Nat :=
  (List.range v.len.toNat).find? fun e => wOpc (tget 0 v.entries e) == 0x0B || wOpc (tget 0 v.entries e) == 0x0C

/-- What a change leaves illegal in the panes, cells and fields of sash `i` (R154, R217, R282), a multiply without a WCELL_MUL entry
among it: code, sash, pane or cell, address. -/
def State.changeBad (s : State) (n i : Nat) (rs : List TransomRec) : Option Refused :=
  let c := { s.declOf n i with wen := wenAfter (s.sash i).wen rs }
  let cells := cellsAfter (s.sash i).cells rs
  let pane := rs.findSome? fun r =>
    match r with
    | .ipatch p a w => if c.paneOk a w then none else some (Code.ST_TRANSOM_INVALID, i, p, a)
    | .pinpatch p f v _ => if c.mode == .pin && pinFieldOk c.pin p.toNat f.toNat v.toNat false then none else some (Code.ST_TRANSOM_INVALID, i, p.toNat, f.toNat)
    | .trigpatch f v =>
      if !(s.sash i).cfg.hasTrig || !trigPatchOk c.pin f.toNat v.toNat then some (Code.ST_TRANSOM_INVALID, i, 0xFF, f.toNat)
      else if s.toutBusy f.toNat v.toNat then some (Code.ST_RESOURCE_BUSY, i, 0xFF, f.toNat)
      else none
    | _ => none
  let noMul := (tget none (s.site n).img.contract (5 * 256)).isNone
  let cell := (cellsTouched rs).findSome? fun k =>
    let v := tget {} cells k
    ((c.cellBad k v).or (if noMul then v.firstMul else none)).map fun e => (Code.ST_TRANSOM_INVALID, i, k, e)
  pane.or cell

/-- A wire that a change leaves with two drivers in sash `i` (R89, R154). -/
def State.wiresBad (s : State) (i : Nat) (rs : List TransomRec) : Option Refused :=
  (wireBad (wenAfter (s.sash i).wen rs) (s.lane i).cfg.rwcfg).map fun w => (Code.TF_WIRE_CONTENTION, i, w, 0)

/-- Live patch entries of sash `i` with the new ones of a transom (R153). -/
def State.livePatches (s : State) (i : Nat) (rs : List TransomRec) : Nat :=
  let old := (s.sash i).patches.filterMap fun e => e.2.map fun p => (p.pane, p.addr)
  let new := rs.filterMap fun r => match r with | .ipatch p a _ => some (p, a) | _ => none
  ((old ++ new).dedup).length

/-- Changes of one sash. -/
def partOf (ps : List (Nat × TransomRec)) (i : Nat) : List TransomRec := (ps.filter (·.1 == i)).map (·.2)

/-- The sites whose state takes a transom (R154). -/
def SiteState.takesTransom : SiteState → Bool
  | .loaded | .armed | .running | .halted => true
  | _ => false

/-- HINGE of a TRANSOM request: all ones is NOW (R157, R450). -/
def hingeNow (c : List Byte) : Bool := fld c 0x10 8 == 2 ^ 64 - 1

/-- Check a transom in the order of R154; the changes when it passes, the refusal with its place otherwise. -/
def State.transomCheck (s : State) (n : Nat) (cmd b : List Byte) : Except Refused (ImgHdr × List (Nat × TransomRec)) :=
  let x := s.site n
  let h := readHdr b
  let ds := readDir b h
  let plain (st : Status) : Except Refused (ImgHdr × List (Nat × TransomRec)) := .error (st, 0xFF, 0xFF, 0)
  let ps := transomParts b ds x.img
  if imageOk b 0x02 (cmdLen cmd) = false ∨ transomRecsOk b h ds = false then plain Code.ST_IMAGE_FORMAT
  else if crcOk b h = false then plain Code.DI_IMAGE_CRC
  else
    match s.keyRefusal b h with
    | some st => plain st
    | none =>
      if h.signed = true ∧ sigVerifies b h (tget [] s.host.keys (fld b (h.sigOff + 1) 1)) = false then plain Code.SC_IMAGE_SIGNATURE
      else if h.baseId ≠ x.img.id.toNat ∨ x.img.sashes = [] ∨ h.sched ≠ x.img.sched ∨ h.vsash ≠ x.img.vsash ∨ ps.any (fun p => !p.2.exists_) = true then
        plain Code.ST_TRANSOM_MISMATCH
      else
        match (x.img.sashes.findSome? fun i => s.changeBad n i (partOf ps i)).or (x.img.sashes.findSome? fun i => s.wiresBad i (partOf ps i)) with
        | some r => .error r
        | none =>
          if x.transom.isSome then plain Code.ST_TRANSOM_BUSY
          else if x.state.takesTransom = false ∨ x.loadPhase ≠ 0 ∨ x.unloading = true then plain Code.ST_SITE_STATE
          else if (hingeNow cmd ∨ x.img.nparts ≠ 0) ∧ (x.state ≠ .halted ∨ hingeNow cmd = false) then plain Code.ST_SITE_STATE
          else if x.img.sashes.any fun i => decide (64 < s.livePatches i (partOf ps i)) then plain Code.ST_TRANSOM_TOO_LARGE
          else .ok (h, ps)

/-! ### The TRANSOM command's slices (R154 to R157) -/

/-- COMPLETE of a refusal names the sash, the pane or cell and the address (R154). -/
def refusedData (r : Refused) : List Byte := leBytes r.2.1 1 ++ leBytes r.2.2.1 1 ++ leBytes r.2.2.2 2

/-- The hinge that closed last: where NOW applies a transom (R533). -/
def Site.lastHinge (x : Site) : Nat := x.cycle.toNat - 1

/-- FORM byte of the messages part 0 sends for a transom: commit what is staged, or drop it. -/
def ownCommit : Nat := 1
def ownDrop : Nat := 2
/-- Opcode of a firmware's own messages: no command has it (R440). -/
def ownOpcode : Nat := 0x0000

/-- Open a gather and send one of the firmware's own commands to every other part of a site. -/
def State.askParts (s : State) (id : Nat) (src : Option Nat) (n op : Nat) (pay : List Byte) : State :=
  let l := (s.site n).img.others
  let g : Gather := { src := src, sites := [n], left := l.length, bad := none, answers := [] }
  let s : State := { s with chain := { s.chain with gathers := tset none s.chain.gathers id (some g) } }
  l.foldl (fun s p => s.ownCommand (.gather id p.1) p.2 op pay) s

/-- Send a message of the firmware's own to every other part, without waiting for an answer. -/
def State.tellParts (s : State) (n op : Nat) (pay : List Byte) : State :=
  (s.site n).img.others.foldl (fun s p => s.ownCommand .none p.2 op pay) s

/-- The gather of an identifier. -/
def State.gather (s : State) (id : Nat) : Option Gather := tget none s.chain.gathers id
/-- A gather is over. -/
def State.endGather (s : State) (id : Nat) : State := { s with chain := { s.chain with gathers := tset none s.chain.gathers id none } }

/-- Stage a transom that has passed its checks (R155). -/
def State.stageTransom (s : State) (n : Nat) (tk : BitVec 32) (hinge : Nat) (h : ImgHdr) (ps : List (Nat × TransomRec)) : State :=
  s.modSite n fun x =>
    { x with transom := some { id := BitVec.ofNat 64 h.id, hinge := hinge, ticket := tk, parts := ps, committed := false } }

/-- First slice: read, check and stage; NOW applies at once, in a multi-unit site when every other part has staged too (R154
to R157). -/
def State.transomStart (s : State) (tk : BitVec 32) (n : Nat) (cmd : List Byte) : State :=
  match s.fetchImage (cmdUnit cmd) (cmdAddr cmd) (cmdLen cmd) with
  | (_, some st, s) => s.finish tk st []
  | (b, none, s) =>
    match s.transomCheck n cmd b with
    | .error r => s.finish tk r.1 (refusedData r)
    | .ok (h, ps) =>
      let x := s.site n
      let now := hingeNow cmd
      let s := s.stageTransom n tk (if now then x.lastHinge else fld cmd 0x10 6) h ps
      let s := s.modTicket tk fun t => { t with phase := 1, queued := false, progress := BitVec.ofNat 64 (cmdLen cmd) }
      if now = false then s
      else if x.img.nparts ≠ 0 ∧ x.img.part = 0 then s.askParts tk.toNat none n 0x0204 (bytesAt cmd 0 24 ++ leBytes x.img.id.toNat 8)
      else if x.img.nparts ≠ 0 then s
      else s.applyTransom n x.lastHinge

/-- Later slices: a cancel before the commit, and a multi-unit site's parts: all stage, then all apply, then part 0 answers (R157,
R447). -/
def State.transomWait (s : State) (tk : BitVec 32) (t : Ticket) (n : Nat) : State :=
  let mine := match (s.site n).transom with | some x => x.ticket == tk && !x.committed | none => false
  if mine = false then s
  else if t.cancel ∧ t.phase = 1 then ((s.tellParts n ownOpcode (leBytes ownDrop 8 ++ leBytes (s.site n).img.id.toNat 8)).endGather tk.toNat).dropTransom n
  else
    match s.gather tk.toNat with
    | none => s
    | some g =>
      if g.left ≠ 0 then s
      else
        let s := s.endGather tk.toNat
        let form (k : Nat) : List Byte := leBytes k 8 ++ leBytes (s.site n).img.id.toNat 8
        match g.bad with
        | some st =>
          if t.phase = 1 then ((s.tellParts n ownOpcode (form ownDrop)).modSite n fun x => { x with transom := none }).finish tk st []
          else (s.finish tk st []).applyTransom n (s.site n).lastHinge
        | none =>
          if t.phase = 1 then (s.askParts tk.toNat none n ownOpcode (form ownCommit)).modTicket tk fun t => { t with phase := 2 }
          else s.applyTransom n (s.site n).lastHinge

/-- A slice of a TRANSOM. -/
def State.transomSlice (s : State) (tk : BitVec 32) (t : Ticket) (n : Nat) (cmd : List Byte) : State :=
  if t.phase = 0 then
    if t.cancel then s.finish tk Code.ST_ABORTED []
    else if t.hostErr then s.finish tk Code.ST_DMA_HOST_ERROR []
    else s.transomStart tk n cmd
  else s.transomWait tk t n

/-- The TRANSOM that part 0 passes on to another part: checked and staged there, answered with the outcome (R157). -/
def transomPart (s : State) (q : Req) : Reply :=
  let n := ((List.range 16).find? fun n => (s.site n).img.id.toNat == fld q.pay 0x18 8 && (s.site n).img.nparts != 0).getD (q.n 0 1 % 16)
  match s.fetchImage (cmdUnit q.pay) (cmdAddr q.pay) (cmdLen q.pay) with
  | (_, some st, s) => refuse s st
  | (b, none, s) =>
    match s.transomCheck n q.pay b with
    | .error r => refuse s r.1
    | .ok (h, ps) => done (s.stageTransom n 0 (s.site n).lastHinge h ps) []

/-- TRANSOM (R154, R450): accepted; every check is reported in COMPLETE. -/
def transomBody (s : State) (q : Req) : Reply :=
  let hinge := q.n 0x10 8
  if 16 ≤ q.n 0 1 ∨ q.n 8 8 % 64 ≠ 0 ∨ (2 ^ 48 ≤ hinge ∧ hinge ≠ 2 ^ 64 - 1) then refuse s Code.ST_BAD_PARAM
  else if q.own then transomPart s q
  else if 2 ≤ q.n 3 1 ∨ q.n 0x18 8 ≠ 0 then refuse s Code.ST_RESERVED_NONZERO
  else s.accept q (.transom (q.n 0 1) (bytesAt q.pay 0 24)) true (q.n 4 4)

/-- TRANSOM (R154, R450). -/
def execTransom (src : Nat) (s : State) : Out :=
  .next (s.command src { op := 0x0204, need := 0x18, cov := [(0, 1), (3, 21), (0x18, 8)] } transomBody)

/-! ### SITE_STATUS (R452) -/

/-- The record of R452. -/
def State.siteRecord (s : State) (n : Nat) : List Byte :=
  let x := s.site n
  let l := x.img.sashes
  leBytes n 1 ++ leBytes x.state.code 1 ++ leBytes x.fault.toNat 2 ++ leBytes x.img.outcome.toNat 4 ++
    leBytes (if x.state = .empty then 0 else x.img.id.toNat) 8 ++ leBytes (sashMask l) 8 ++ leBytes x.cycle.toNat 8 ++
    leBytes x.faultSash.toNat 1 ++ leBytes x.faultPane.toNat 1 ++ leBytes x.faultStep.toNat 2 ++
    leBytes (min (l.map fun i => (s.sash i).ctr.stallSteps.toNat).sum (2 ^ 32 - 1)) 4 ++
    leBytes (l.foldl (fun m i => max m (s.sash i).ctr.paceSteps.toNat) 0) 4 ++ leBytes x.setByte 1 ++ leBytes (b2n x.startAt.isSome) 1 ++
    leBytes 0 2 ++ leBytes (x.startAt.getD 0) 8

/-- SITE_STATUS: the record. -/
def siteStatusBody (s : State) (q : Req) : Reply :=
  if 16 ≤ q.n 0 1 then refuse s Code.ST_BAD_PARAM else done s (s.siteRecord (q.n 0 1))

/-- SITE_STATUS (R452). -/
def execSiteStatus (src : Nat) (s : State) : Out := .next (s.command src { op := 0x0205, need := 1, cov := [(0, 1)] } siteStatusBody)

/-! ### SITE_RESET (R150) -/

/-- A live ARM of the site ends (R151). -/
def State.endArms (s : State) (n : Nat) : State :=
  s.host.tickets.foldl
    (fun s e =>
      match e.2 with
      | some t =>
        (match t.work with
         | .arm m _ => if m = n ∧ t.final.isNone then s.finish (BitVec.ofNat 32 e.1) Code.ST_ABORTED [] else s
         | _ => s)
      | none => s)
    s

/-- Live unloads of a site whose reset has emptied it end with ST_OK. -/
def State.endUnloads (s : State) (n : Nat) : State :=
  s.host.tickets.foldl
    (fun s e =>
      match e.2 with
      | some t =>
        let tk : BitVec 32 := BitVec.ofNat 32 e.1
        if t.work = .unload n ∧ t.final.isNone then (s.giveBack tk (s.owned tk)).finish tk Code.ST_OK [] else s
      | none => s)
    s

/-- Empty a site at once: it stops as for an immediate fault, and nothing of it stays (R150, R151). -/
def State.resetSite (s : State) (n : Nat) : State :=
  let old := (s.site n).state
  let s := ((s.endLoads n).endArms n).stopRun n
  let s := (s.cancelStartAt n).dropTransom n
  let s := if old = .armed then s.unarmSet n else s
  let s := ((s.modFl n fun f => f.owe (old == .running)).closeSet n).closeStreams (s.siteSashes n)
  let s := if old = .empty then s else s.postSite n old .empty Code.ST_OK
  (s.emptySite n).endUnloads n

/-- SITE_RESET: the per-site reset, from any state. -/
def siteResetBody (s : State) (q : Req) : Reply :=
  if 16 ≤ q.n 0 1 then refuse s Code.ST_BAD_PARAM else done (s.resetSite (q.n 0 1)) []

/-- SITE_RESET (R150, R450). -/
def execSiteReset (src : Nat) (s : State) : Out := .next (s.command src { op := 0x0206, need := 1, cov := [(0, 1)] } siteResetBody)

end Sys2Proof.Machine
end

