-- ==== Sys2Proof/Machine/RunCmds.lean ====
section
/-! DEFINITION. Run control (R453 to R455): ARM and what it checks (R84, R127, R144, R175, R176, R202, R223, R254, R279),
DISARM, START, START_AT (R411), STOP, POLICY (R223), WATCHDOG (R112) and RA_STATUS (R243). -/

namespace Sys2Proof.Machine

/-! ### Pace (R83, R84) -/

/-- The lane's payload bit rate in Mbit/s as a fraction (R83). -/
def Lane.payloadRate (l : Lane) : Nat × Nat := if l.mode = .pin then (l.rate * 1024, 1122) else (l.rate, 1)

/-- The lane takes pattern words (R83). -/
def Lane.takesPattern (l : Lane) : Bool := l.coded && l.cfg.source == 1

/-- NUM and DEN of the sash of lane `l` (R83); `mhz` is the step clock. -/
def Lane.pace (l : Lane) (mhz : Nat) : Nat × Nat :=
  if l.takesPattern then
    let a := l.payloadRate.1
    let b := l.payloadRate.2 * 32 * mhz
    (a / Nat.gcd a b, b / Nat.gcd a b)
  else (0, 1)

/-- The step clock in MHz (R1). -/
def Ident.stepMhz (x : Ident) : Nat := if x.grade12 then 1250 else 1000

/-- The step clock is derived from REFCLK_LANE (R499). -/
def Clocks.paced (c : Clocks) : Bool := c.stepSrc && c.laneStep

/-! ### The fail set an arm names (R254, R255) -/

/-- STATE byte of a fail set header in DDR, when the MAGIC is there (R257). -/
def State.setState (s : State) (a : Nat) : Nat :=
  let b := (List.range 5).map fun i => s.peekByte (a + i)
  if (s.memAt a).isSome ∧ fld b 0 4 = 0x4C494146 then fld b 4 1 else 0

/-- How the named set stands: none unprepared, some true reopened, some false opened from CLEARED (R254). -/
def State.setFor (s : State) (n k : Nat) : Option Bool :=
  let x := s.site n
  let f := x.img.failcfg
  if f.present = false then (if k = 0xFF then some false else none)
  else if f.nsets ≤ k then none
  else
    let st := s.setState (tget 0 f.recBase k)
    if st % 8 = 1 then some false
    else if st % 8 = 4 ∧ x.state = .halted ∧ x.fl.set = some k ∧ x.fl.closing = false then some true
    else none

/-- DDR channels that hold an area (R344). -/
def State.areaChans (s : State) (a : Nat × Nat) : List Nat :=
  if s.mem.interleave then List.range 8 else (List.range 8).filter fun c => decide (a.1 / 2 ^ 35 ≤ c ∧ c ≤ (a.1 + a.2 - 1) / 2 ^ 35)

/-- Clear the counter lines of the scratchpad (R254). -/
def State.clearCounters (s : State) (n : Nat) : State :=
  let f := (s.site n).img.failcfg
  (List.range f.counterLines).foldl (fun s j => s.setPadLine (s.counterSash n) (f.mrcFirst + j) []) s

/-- Copy the counters of a reopened set back into the scratchpad, poison with them (R254). -/
def State.restoreCounters (s : State) (n : Nat) : State :=
  let x := s.site n
  let f := x.img.failcfg
  (List.range f.counterLines).foldl
    (fun s j =>
      let (b, bad, s) := s.memRead (x.mrcBase + 32 * j) 32
      let dst := padAddr (s.counterSash n) (32 * (f.mrcFirst + j))
      let s := s.memWrite dst b
      if bad then { s with mem := { s.mem with check := tfill none s.mem.check (dst / 8) (List.replicate 4 (some .poison)) } } else s)
    s

/-- Open the set `k` as the arm found it (R254). -/
def State.openSet (s : State) (n k : Nat) (again : Bool) : State :=
  if (s.site n).img.failcfg.present = false then s
  else if again then
    ((s.modFl n fun f => { f with open_ := true, reopened := true }).writeSetState n 2).restoreCounters n
  else
    let c := (s.site n).cycle
    let s := s.modSite n fun x => { x with flBefore := x.fl, fl := { set := some k, open_ := true, firstCycle := c } }
    ((s.memWrite (s.site n).recBase (bytesAt ((s.site n).failHeader n 2) 0 0x400))).clearCounters n

/-! ### What an arm checks on its unit -/

/-- Where an arm stands: refused, waiting for a lane or a domain, or ready. -/
inductive ArmStep where
  | refuse (st : Status)
  | wait
  | go
  deriving DecidableEq, Repr

/-- TIME_OUT pins of a unit's TOUT mask, and of the ACTION writes that wait (R279, R282). -/
def Trig.toutPins (t : Trig) : Nat :=
  if t.cfg.en then
    t.staged.foldl (fun m e => if e.2.1 = 0x05 then m ||| bits e.2.2.toNat 20 4 else m) (bits t.cfg.action.toNat 20 4)
  else 0

/-- TIME_OUT pins in a site's TOUT masks (R279). -/
def State.toutMask (s : State) (n : Nat) : Nat := (s.siteSashes n).foldl (fun m i => m ||| (s.trig i).toutPins) 0

/-- Domains an arm needs ON: the sashes, the quads of their lanes, and the channels of the fail set (R255, R475). -/
def State.armDomains (s : State) (n k : Nat) : List Nat :=
  let l := s.siteSashes n
  let f := (s.site n).img.failcfg
  l.map domSash ++ ((l.filter fun i => (s.lane i).mode != .idle).map fun i => domQuad (i / 4)).dedup ++
    (if f.present then (((f.setAreas k).flatMap s.areaChans).dedup).map domDdr else [])

/-- The lanes of the site that must lock and have not: the code that reports them (R127, R202). -/
def State.lanesDown (s : State) (n : Nat) : Option Status :=
  let l := s.siteSashes n
  if (s.site n).img.nparts ≠ 0 ∧ l.any (fun i => (s.lane i).mode == .link && !(s.lane i).lock) = true then some Code.TF_LINK_DOWN
  else if l.any fun i => (s.lane i).mode == .pin && !(s.lane i).lock then some Code.TF_PIN_LANE_DOWN
  else none

/-- The checks of an arm on its own unit; `late` says the 1 ms for the lanes is over. An owed fail close ends first (R254, R256; DESIGN CHOICE,
log entry 90). -/
def State.armCheck (s : State) (n k : Nat) (late : Bool) : ArmStep × State :=
  let l := s.siteSashes n
  if s.power.thermal ≠ 0 then (.refuse Code.PW_THERMAL_ALARM, s)
  else if (s.site n).fl.closing then (.wait, s)
  else if (s.setFor n k).isNone then (.refuse Code.ST_FAIL_UNPREPARED, s)
  else
    match s.accessAll (s.armDomains n k) with
    | (.locked, s) => (.refuse Code.PW_DOMAIN_LOCKED, s)
    | (.wait, s) => (.wait, s)
    | (.go, s) =>
      if l.any (fun i => (s.lane i).takesPattern) = true ∧ s.power.clk.paced = false then (.refuse Code.ST_PACE_UNLOCKED, s)
      else if s.toutMask n &&& s.tevPins ≠ 0 then (.refuse Code.ST_RESOURCE_BUSY, s)
      else
        match s.lanesDown n with
        | some st => (if late then .refuse st else .wait, s)
        | none => (.go, s)

/-! ### Round trips and the move to ARMED (R202, R278) -/

/-- The calibration record matches the lane (R199, R202). -/
def Lane.calMatches (l : Lane) : Bool := match l.cal with | some c => c.rate == l.rate && c.plog == l.cfg.plog | none => false

/-- Arm lane `i`: its record is cleared, its round trip measured; the measured time is a free value (R202, R221). -/
def State.armLane (s : State) (n i : Nat) : State :=
  let l := s.lane i
  if l.mode = .pin then
    let (f, s) := s.drawFree
    let rt := Config.freeWord f
    let un := !l.calMatches
    let s := s.setLane i
      { l with st := { l.st.cleared with uncal := un, roundTrip := rt, rxHold := BitVec.ofNat 32 (l.cfg.rtbud - rt.toNat) } }
    if un then s.postNotice Code.ST_OK n i 0x04 (s.site n).cycle.toNat 0 else s
  else s.setLane i { l with st := l.st.cleared }

/-- Some pin lane's round trip exceeds RTBUD (R202). -/
def State.tripLong (s : State) (l : List Nat) : Bool :=
  l.any fun i => (s.lane i).mode == .pin && decide ((s.lane i).cfg.rtbud < (s.lane i).st.roundTrip.toNat)

/-- A trigger unit at arm: from DISARMED to READY with an empty store and a cleared record. A unit that an earlier run left DONE stays so, for
its readout, until the rearm command (R278, R283). -/
def Trig.arm (t : Trig) : Trig :=
  if t.cfg.en ∧ t.state = .disarmed then
    { ({ cfg := t.cfg, eng := tmapv {} (fun _ e => e.restart) t.eng, staged := t.staged } : Trig) with state := .ready }
  else t

/-- The pace generator as an arm sets it (R83). -/
def State.armPace (s : State) (i : Nat) : State :=
  let p := (s.lane i).pace s.id.stepMhz
  s.modSash i fun x => { x with paceNum := BitVec.ofNat 32 p.1, paceDen := BitVec.ofNat 32 p.2 }

/-- Mask of the lanes armed without calibration (R453). -/
def State.uncalMask (s : State) (n : Nat) : Nat := sashMask ((s.siteSashes n).filter fun i => (s.lane i).st.uncal)

/-- The site enters ARMED (R150, R254, R278). -/
def State.armSite (s : State) (n k : Nat) : State :=
  let l := s.siteSashes n
  let again := (s.setFor n k).getD false
  let s := l.foldl (fun s i => (s.modLane i fun x => { x with fail := {} }).armPace i) s
  let s := s.openSet n k again
  let s := s.modTrigs l Trig.arm
  let s := s.modSite n fun x => { x with armedFromHalted := x.state == .halted, armedSet := BitVec.ofNat 8 k }
  s.moveSite n .armed Code.ST_OK

/-- Measure the round trips and arm, or refuse with ST_ROUND_TRIP (R202). -/
def State.armNow (s : State) (n k : Nat) : Option Status × State :=
  let l := s.siteSashes n
  let s := l.foldl (fun s i => s.armLane n i) s
  if s.tripLong l then (some Code.ST_ROUND_TRIP, s) else (none, s.armSite n k)

/-! ### Parts of a multi-unit site (R144, R175, R176, R223) -/

/-- Forms of the firmware's own messages about a site, beside a transom's. -/
def ownQuery : Nat := 0
def ownArm : Nat := 3
def ownDisarm : Nat := 4

/-- Payload of one: form, IMAGE_ID and a byte. -/
def SiteImage.ownPay (g : SiteImage) (form k : Nat) : List Byte := leBytes form 8 ++ leBytes g.id.toNat 8 ++ leBytes k 1

/-- What must agree among the parts: strict, D and RA_POLICY (R144, R176, R223). -/
def SiteImage.partRecord (g : SiteImage) : List Byte := leBytes (b2n g.strict) 1 ++ leBytes g.depth 1 ++ leBytes g.policy.toNat 1

/-- What a part answers to the query: the record and its PARENT (R125, R138). -/
def SiteImage.partAnswer (g : SiteImage) : List Byte := g.partRecord ++ leBytes g.parent 2

/-- The PARENT of every part, as the answers give them; part 0 has none (R125, R138). -/
def Gather.parents (g : Gather) (nparts : Nat) : List Byte :=
  (List.range nparts).flatMap fun p =>
    match g.answers.find? fun a => a.1 == p with
    | some a => bytesAt a.2 3 2
    | none => leBytes 0xFFFF 2

/-- Parts whose PARENT, in a list of every part's, is `p`. -/
def childrenOf (p : Nat) (parents : List Byte) : List Nat :=
  (List.range (parents.length / 2)).filter fun k => fld parents (2 * k) 2 == p

/-- A long command's gather is complete; every part agrees, or the refusal. -/
def State.partsAgree (s : State) (n id : Nat) : Option (Option Status) :=
  match s.gather id with
  | none => none
  | some g =>
    if g.left ≠ 0 then none
    else some (if g.bad.isSome ∨ g.answers.any (fun a => a.2.take 3 != (s.site n).img.partRecord) = true then some Code.ST_PART_MISMATCH else none)

/-- The measured link hinge time against LINK_HINGE: 1 equal, 2 below, 3 above (R169, R175). -/
def SiteImage.hingeOutcome (g : SiteImage) (m : Nat) : Nat :=
  match tget none g.contract (6 * 256) with
  | none => 0
  | some v => if m = v then 1 else if m < v then 2 else 3

/-- Measure the link hinge of a part 0: the time is a free value (R175). -/
def State.measureHinge (s : State) (n : Nat) : Nat × State :=
  let g := (s.site n).img
  if g.nparts = 0 ∨ g.part ≠ 0 then (0, s)
  else
    let (f, s) := s.drawFree
    let m := (Config.freeWord f).toNat
    let o := g.outcome.toNat
    let w := BitVec.ofNat 32 (o / 2 ^ 12 * 2 ^ 12 + g.hingeOutcome m * 2 ^ 10 + o % 2 ^ 10)
    (m, s.modSite n fun x => { x with img := { x.img with outcome := w } })

/-! ### ARM's slices -/

/-- Link and stream lanes leave electrical idle for an arm (R127, R147, R369). -/
def State.wakeLanes (s : State) (n : Nat) : State :=
  let s := s.modSite n fun x => { x with armAt := s.power.ps }
  s.modLanes (s.siteSashes n) fun l => if l.mode = .link ∨ l.mode = .stream then { l with exiting := l.txIdle } else l

/-- An ARM ends without arming, here and in every other part: the lanes of a LOADED site are idle again (R144, R147, R447). -/
def State.armRefused (s : State) (tk : BitVec 32) (n : Nat) (st : Status) : State :=
  let g := (s.site n).img
  let s := if g.nparts ≠ 0 ∧ g.part = 0 then s.tellParts n ownOpcode (g.ownPay ownDisarm 0) else s
  ((if (s.site n).state = .loaded then s.restLanes n else s).endGather tk.toNat).finish tk st []

/-- COMPLETE data of an ARM (R453). -/
def State.armData (s : State) (n m : Nat) : List Byte := leBytes (s.uncalMask n) 8 ++ leBytes m 4

/-- The unit's own checks, at each slice until they pass or are refused; then the other parts, or ARMED. -/
def State.armSlice2 (s : State) (tk : BitVec 32) (t : Ticket) (n k : Nat) : State :=
  match s.armCheck n k (decide (1000000000 ≤ s.power.ps - t.since)) with
  | (.refuse st, s) => s.armRefused tk n st
  | (.wait, s) => s
  | (.go, s) =>
    let (m, s) := s.measureHinge n
    let g := (s.site n).img
    if g.nparts ≠ 0 ∧ g.part = 0 ∧ g.strict = true ∧ g.hingeOutcome m = 3 then s.armRefused tk n Code.LC_CONTRACT_EXCEEDED
    else if g.nparts ≠ 0 ∧ g.part = 0 then
      (s.askParts tk.toNat none n ownOpcode (g.ownPay ownArm k ++ t.data)).modTicket tk fun t => { t with phase := 3, data := leBytes m 4 }
    else
      match s.armNow n k with
      | (some st, s) => s.armRefused tk n st
      | (none, s) => s.finish tk Code.ST_OK (s.armData n m)

/-- The other parts have answered: the site arms, or every part disarms again (R127, R144, R175). -/
def State.armSlice3 (s : State) (tk : BitVec 32) (t : Ticket) (n k : Nat) : State :=
  match s.gather tk.toNat with
  | none => s
  | some g =>
    if g.left ≠ 0 then s
    else
      match g.bad with
      | some st => s.armRefused tk n st
      | none =>
        match s.armNow n k with
        | (some st, s) => s.armRefused tk n st
        | (none, s) => (s.endGather tk.toNat).finish tk Code.ST_OK (s.armData n (leNat t.data))

/-- A slice of an ARM (R453). -/
def State.armRun (s : State) (tk : BitVec 32) (t : Ticket) (n : Nat) (cmd : List Byte) : State :=
  let x := s.site n
  let k := fld cmd 1 1
  if t.cancel then
    s.armRefused tk n Code.ST_ABORTED
  else if x.state ≠ .loaded ∧ x.state ≠ .halted then s.armRefused tk n Code.ST_SITE_STATE
  else
    match t.phase with
    | 0 =>
      let s := (s.wakeLanes n).modTicket tk fun t => { t with queued := false, phase := 2, since := s.power.ps, total := BitVec.ofNat 64 x.img.sashes.length }
      if x.img.nparts ≠ 0 ∧ x.img.part = 0 then
        (s.askParts tk.toNat none n ownOpcode (x.img.ownPay ownQuery 0)).modTicket tk fun t => { t with phase := 1 }
      else s
    | 1 =>
      match s.partsAgree n tk.toNat with
      | none => s
      | some (some st) => s.armRefused tk n st
      | some none =>
        let ps := ((s.gather tk.toNat).map fun g => g.parents x.img.nparts).getD []
        let s := (s.endGather tk.toNat).modSite n fun x => { x with img := { x.img with kids := childrenOf 0 ps } }
        s.modTicket tk fun t => { t with phase := 2, since := s.power.ps, data := ps }
    | 2 => s.armSlice2 tk t n k
    | _ => s.armSlice3 tk t n k

/-- ARM: accepted for a LOADED or HALTED site (R150, R453). -/
def armBody (s : State) (q : Req) : Reply :=
  let n := q.n 0 1
  let x := s.site n
  if 16 ≤ n then refuse s Code.ST_BAD_PARAM
  else if (x.state ≠ .loaded ∧ x.state ≠ .halted) ∨ x.loadPhase ≠ 0 ∨ x.unloading = true then refuse s Code.ST_SITE_STATE
  else s.accept q (.arm n (bytesAt q.pay 0 2)) false 0

/-- ARM (R453). -/
def execArm (src : Nat) (s : State) : Out := .next (s.command src { op := 0x0301, need := 2, cov := [(0, 2)] } armBody)

/-! ### DISARM (R150, R254) -/

/-- An ARMED site returns to LOADED or HALTED. -/
def State.disarmSite (s : State) (n : Nat) : State :=
  let x := s.site n
  let s := (s.cancelStartAt n).unarmSet n
  let s := s.modTrigs (s.siteSashes n) fun t => if t.state = .ready then t.disarm else t
  if x.armedFromHalted then s.moveSite n .halted Code.ST_OK else (s.restLanes n).moveSite n .loaded Code.ST_OK

/-- DISARM: an ARMED site only; part 0 disarms the other parts with it. -/
def disarmBody (s : State) (q : Req) : Reply :=
  let n := q.n 0 1
  let g := (s.site n).img
  if 16 ≤ n then refuse s Code.ST_BAD_PARAM
  else if (s.site n).state ≠ .armed then refuse s Code.ST_SITE_STATE
  else done ((if g.nparts ≠ 0 ∧ g.part = 0 then s.tellParts n ownOpcode (g.ownPay ownDisarm 0) else s).disarmSite n) []

/-- DISARM (R150, R453). -/
def execDisarm (src : Nat) (s : State) : Out := .next (s.command src { op := 0x0302, need := 1, cov := [(0, 1)] } disarmBody)

/-! ### START (R66, R75, R454) -/

/-- A lane as a run from cycle `c0` begins: no code, no expect, the fields of earlier transoms and masks of the active copy in force,
generators seeded (R156, R187, R203, R212, R213). -/
def Lane.beginRun (l : Lane) (c0 : Nat) : Lane :=
  { (l.applyLater c0).clearRun with masks := { l.masks with inForce := [] }, prbsTx := 0xFFFFFFFF, chk := {}, link := { l.link with lastToken := none, badCopies := 0 } }

/-- A sash as a run begins: START's loads from LOADED, the held state from HALTED (R75). -/
def Sash.beginRun (x : Sash) (fresh : Bool) : Sash :=
  { (if fresh then x.startFresh else x).begin with
    corrNoted := false
    rbwSeen := false
    inUnsat := 0
    recvWait := []
    wrec := { x.wrec with wstep := 0 }
    delta := { netPrev := x.net } }

/-- One ARMED site enters RUNNING at this step (R150, R186, R242, R454, R467). -/
def State.startSite (s : State) (n : Nat) : State :=
  let x := s.site n
  let l := s.siteSashes n
  let ts := s.stamp
  let s := s.modSashes l fun y => y.beginRun (!x.armedFromHalted)
  let s := (s.modLanes l fun y => y.beginRun x.cycle.toNat).modTrigs l Trig.newRun
  let s := s.modSite n fun x =>
    { x with
      c0 := x.cycle.toNat
      sinceStart := 0
      startTs := ts
      startPosted := false
      origin := false
      voided := false
      pend := []
      haltPend := false
      cycleLimit := false
      draining := false
      cutCodes := false
      hingeBegun := false
      arriveSent := false
      childArr := []
      remoteUa := none
      hingeWait := 0
      hingeRun := 0
      arriveLate := false
      relPend := none
      startAt := none
      noticed := 0
      ra := { x.ra with state := .speculate, replay := false, oldest := x.cycle.toNat, target := none, stopAt := none, transomHinges := [], found := [] }
      fl := if x.fl.open_ && !x.fl.reopened then { x.fl with startTs := ts } else x.fl
      filt := { x.filt with inForce := [] } }
  let s := s.moveSite n .running Code.ST_OK
  if s.codedLanes n = [] then s.postRunStart n 0 else s

/-- Sites that SITES and IMAGE_ID name on this unit (R454). -/
def State.namedSites (s : State) (mask id : Nat) : List Nat :=
  (List.range 16).filter fun n => bit mask n && (id == 0 || (s.site n).img.id.toNat == id)

/-- The site is part 0 of a multi-unit site. -/
def SiteImage.root (g : SiteImage) : Bool := g.nparts != 0 && g.part == 0

/-- A START_AT takes effect on the named sites (R411). -/
def State.setStartAt (s : State) (l : List Nat) (t : Nat) : State := l.foldl (fun s n => s.modSite n fun x => { x with startAt := some t }) s

/-- The site can start: ARMED, and no UNLOAD of it under way (R150; DESIGN CHOICE, log entry 81). -/
def Site.startable (x : Site) : Bool := x.state == .armed && !x.unloading

/-- What refuses a START_AT here (R411): state, servo, time. -/
def State.startAtBad (s : State) (l : List Nat) (t : Nat) : Option Status :=
  if l.any fun n => !(s.site n).startable then some Code.ST_SITE_STATE
  else if s.time.servo = .unlocked then some Code.CH_TIME_UNLOCKED
  else if t < s.time.ns + 2000 then some Code.CH_TIME_PAST
  else none

/-- Payload of a START_AT or STOP to another part of a site. -/
def runPay (g : SiteImage) (t : Nat) : List Byte := leBytes 0xFFFF 8 ++ leBytes g.id.toNat 8 ++ leBytes t 8

/-- The gather of a command that waits at a channel or slot. -/
def srcGather (src : Nat) : Nat := 2 ^ 32 + src

/-- The command at `src` waits for other units' answers. -/
def State.park (s : State) (src : Nat) : State :=
  if src < 16 then s.modChan src fun c => { c with relayed := true }
  else
    match tget none s.chain.slots src with
    | some r => { s with chain := { s.chain with slots := tset none s.chain.slots src (some { r with ready := false }) } }
    | none => s

/-- Add questions to the gather of the command at `src`: (owner part, UA, opcode, payload). -/
def State.askFor (s : State) (src : Nat) (sites : List Nat) (l : List (Nat × BitVec 18 × Nat × List Byte)) : State :=
  let id := srcGather src
  let g : Gather := { src := some src, sites := sites, left := l.length, bad := none, answers := [] }
  let s : State := { s with chain := { s.chain with gathers := tset none s.chain.gathers id (some g) } }
  (l.foldl (fun s e => s.ownCommand (.gather id e.1) e.2.1 e.2.2.1 e.2.2.2) s).park src

/-- Messages to every other part of the root sites among `l`. -/
def State.partMsgs (s : State) (l : List Nat) (op t : Nat) : List (Nat × BitVec 18 × Nat × List Byte) :=
  (l.filter fun n => (s.site n).img.root).flatMap fun n => (s.site n).img.others.map fun p => (p.1, p.2, op, runPay (s.site n).img t)

/-- Messages to part 0 of the far parts among `l` (R455). -/
def State.rootMsgs (s : State) (l : List Nat) (op t : Nat) : List (Nat × BitVec 18 × Nat × List Byte) :=
  (l.filter fun n => (s.site n).img.farPart).map fun n => (0, tget 0 (s.site n).img.peers 0, op, runPay (s.site n).img t)

/-- A reply that leaves the command waiting for other units. -/
def waitParts (s : State) : Reply := { st := Code.ST_ACCEPTED, s := s, hold := true }

/-- START_AT on this unit for the sites `l`: refused as a whole, or set, and passed to the parts it concerns (R411, R455). -/
def State.startAtSites (s : State) (q : Req) (l : List Nat) (t : Nat) (op : Nat) : Reply :=
  let mine := if q.own then l else l.filter fun n => !(s.site n).img.farPart
  match s.startAtBad mine t with
  | some st => refuse s st
  | none =>
    let msgs := s.partMsgs mine 0x0304 t ++ (if q.own then [] else s.rootMsgs l op (if op = 0x0303 then 0 else t))
    let s := s.setStartAt mine t
    if msgs = [] then done s [] else waitParts (s.askFor q.src mine msgs)

/-- Sites of a run-control request; a message from another part names its site by IMAGE_ID alone. -/
def State.reqSites (s : State) (q : Req) : List Nat := s.namedSites (q.n 0 2) (q.n 8 8)

/-- START: every named site at one step, or none; a multi-unit site through a START_AT of part 0, 50 µs on (R454, R455). -/
def startBody (s : State) (q : Req) : Reply :=
  let l := (s.reqSites q).filter fun n => !((s.site n).img.root && (s.site n).startAt.isSome)
  if l.any fun n => (s.site n).img.nparts != 0 then s.startAtSites q l (s.time.ns + 50000) 0x0303
  else if l.any fun n => !(s.site n).startable then refuse s Code.ST_SITE_STATE
  else done (l.foldl (fun s n => s.startSite n) s) []

/-- START (R454). -/
def execStart (src : Nat) (s : State) : Out :=
  .next (s.command src { op := 0x0303, need := 16, cov := [(0, 2), (8, 8)], bcast := true } startBody)

/-- START_AT (R411). -/
def startAtBody (s : State) (q : Req) : Reply := s.startAtSites q (s.reqSites q) (q.n 16 8) 0x0304

/-- START_AT (R411, R453). -/
def execStartAt (src : Nat) (s : State) : Out :=
  .next (s.command src { op := 0x0304, need := 24, cov := [(0, 2), (8, 16)], bcast := true } startAtBody)

/-! ### STOP (R151, R454, R455) -/

/-- STOP of the sites `l`: a halt pending where RUNNING, a pending START_AT cancelled. -/
def State.stopSites (s : State) (l : List Nat) : State :=
  l.foldl (fun s n => ((if (s.site n).img.farPart then s else s.askHalt n)).cancelStartAt n) s

/-- STOP: part 0 halts at its root and cancels the START_AT of every part; another part passes it on. -/
def stopBody (s : State) (q : Req) : Reply :=
  let l := s.reqSites q
  if q.own ∧ l.all (fun n => (s.site n).img.farPart) = true then done (s.stopSites l) []
  else
    let mine := l.filter fun n => !(s.site n).img.farPart
    let far := s.rootMsgs l 0x0305 0
    let tell := (mine.filter fun n => (s.site n).img.root && (s.site n).startAt.isSome)
    let s := tell.foldl (fun s n => s.tellParts n 0x0305 (runPay (s.site n).img 0)) (s.stopSites mine)
    if far = [] then done s [] else waitParts (s.askFor q.src [] far)

/-- STOP (R454). -/
def execStop (src : Nat) (s : State) : Out :=
  .next (s.command src { op := 0x0305, need := 16, cov := [(0, 2), (8, 8)], bcast := true } stopBody)

/-! ### POLICY, WATCHDOG, RA_STATUS -/

/-- Some sash of the site holds a WPUT, WGET or word-cell MAL (R223). -/
def State.couples (s : State) (n : Nat) : Bool :=
  let sched := (s.site n).img.sched
  (s.siteSashes n).any fun i =>
    let x := s.sash i
    (x.istore.any fun e => decide (e.1 % 512 < sched) && (pOp e.2 == 0xA || pOp e.2 == 0xB)) ||
      (x.patches.any fun e => match e.2 with | some p => pOp p.word == 0xA || pOp p.word == 0xB | none => false) ||
      x.cells.any fun e => (List.range e.2.len.toNat).any fun k => wOpc (tget 0 e.2.entries k) == 0x15

/-- RA_POLICY values the loaded image allows (R223). -/
def State.policyOk (s : State) (n v : Nat) : Bool :=
  decide (v < 2) || (v == 2 && (s.site n).img.depth != 0 && !s.couples n)

/-- POLICY: LOADED or HALTED only. -/
def policyBody (s : State) (q : Req) : Reply :=
  let n := q.n 0 1
  let x := s.site n
  if 16 ≤ n then refuse s Code.ST_BAD_PARAM
  else if x.state ≠ .loaded ∧ x.state ≠ .halted then refuse s Code.ST_SITE_STATE
  else if s.policyOk n (q.n 1 1) = false then refuse s Code.ST_BAD_PARAM
  else done (s.modSite n fun x => { x with img := { x.img with policy := BitVec.ofNat 8 (q.n 1 1) } }) []

/-- POLICY (R223, R453). -/
def execPolicy (src : Nat) (s : State) : Out := .next (s.command src { op := 0x0306, need := 2, cov := [(0, 2)] } policyBody)

/-- WATCHDOG: class S, held while the site runs (R11, R112). -/
def watchdogBody (s : State) (q : Req) : Reply :=
  let n := q.n 0 1
  let w := q.n 4 4
  if 16 ≤ n ∨ w < 1024 ∨ 1048576 < w then refuse s Code.ST_BAD_PARAM
  else if (s.site n).state = .running then refuse s Code.ST_FIELD_BUSY
  else if (s.site n).state = .empty ∨ (s.site n).state = .loading then refuse s Code.ST_SITE_STATE
  else done (s.modSite n fun x => { x with img := { x.img with watchdog := w } }) []

/-- WATCHDOG (R112, R453). -/
def execWatchdog (src : Nat) (s : State) : Out :=
  .next (s.command src { op := 0x0307, need := 8, cov := [(0, 1), (4, 4)] } watchdogBody)

/-- Engine state numbers of R243. -/
def RaState.code : RaState → Nat
  | .speculate => 0 | .depthWait => 1 | .rollback => 2 | .drain => 3

/-- Uncommitted cycles: the one in computation counts while the site runs (R222). -/
def Site.uncommitted (x : Site) : Nat :=
  let next := x.cycle.toNat + (if x.state = .running ∧ x.draining = false then 1 else 0)
  min 64 ((if x.ra.replay then max next (x.ra.replayTo + 1) else next) - x.ra.oldest)

/-- The record of R243. -/
def Site.raRecord (x : Site) (n : Nat) : List Byte :=
  let r := x.ra
  leBytes n 1 ++ leBytes x.img.depth 1 ++ leBytes x.img.policy.toNat 1 ++ leBytes (r.state.code + b2n r.replay * 4 + b2n x.img.netlog * 8) 1 ++
    leBytes x.uncommitted 1 ++ leBytes 0 3 ++ leBytes (r.oldest % 2 ^ 48) 8 ++ leBytes r.divergences.toNat 4 ++ leBytes r.rollbacks.toNat 4 ++
    leBytes r.lastDivCycle.toNat 8 ++ leBytes r.lastDivPin.toNat 2 ++ leBytes r.lastDivCode.toNat 1 ++ leBytes r.lastDivAct.toNat 1 ++
    leBytes r.replaySteps.toNat 4 ++ leBytes r.depthWait.toNat 4 ++ leBytes r.ckptPeak.toNat 4 ++ leBytes r.undoLines.toNat 4 ++ leBytes 0 12

/-- RA_STATUS: refused for a site with D = 0. -/
def raStatusBody (s : State) (q : Req) : Reply :=
  let n := q.n 0 1
  if 16 ≤ n ∨ (s.site n).img.depth = 0 then refuse s Code.ST_BAD_PARAM else done s ((s.site n).raRecord n)

/-- RA_STATUS (R243, R453). -/
def execRaStatus (src : Nat) (s : State) : Out := .next (s.command src { op := 0x0308, need := 1, cov := [(0, 1)] } raStatusBody)

end Sys2Proof.Machine
end

