-- ==== Sys2Proof/Machine/PinCmds.lean ====
section
/-! DEFINITION. The pin-engine commands (R456): CALIBRATE (R199 to R201), MASK and MASK_SWAP (R204), PINFIELD (R217, R535) and
PIN_STATUS (R221). -/

namespace Sys2Proof.Machine

/-- Numbers of the bits set in a 64-bit mask. -/
def maskBits (m : Nat) : List Nat := (List.range 64).filter (bit m)

/-! ### CALIBRATE (R200, R201) -/

/-- Put lanes into pin mode at the named rate and P, keeping what they were (R200). -/
def State.calBegin (s : State) (l : List Nat) (rate plog : Nat) : State :=
  let s := s.setQuadRates (l.map fun i => (i, rate)) (fun i => !l.contains i)
  s.modLanes l fun x =>
    { x with
      calib := some { was := (x.mode, x.rate, x.cfg.plog) }
      mode := .pin
      rate := rate
      cfg := { x.cfg with plog := plog }
      lock := x.lock && x.mode == .pin && x.rate == rate
      fcnt := if x.mode = .pin then x.fcnt else 0
      rxFcnt := none
      txIdle := false }

/-- Give the lanes back as they were. -/
def State.calRestore (s : State) (l : List Nat) : State :=
  (s.modLanes l fun x =>
    match x.calib with
    | none => x
    | some c =>
      { x with
        calib := none
        mode := c.was.1
        rate := c.was.2.1
        cfg := { x.cfg with plog := c.was.2.2 }
        lock := x.lock && c.was.1 == .pin && c.was.2.1 == x.rate
        txIdle := c.was.1 == .idle }).settleQuads

/-- Why a lane has failed so far: no lock, or a wrong loopback code (R201, R202). -/
def Lane.calBad (l : Lane) (late : Bool) : Option Status :=
  match l.calib with
  | none => none
  | some c => if c.bad.isSome then some Code.DI_PIN_SELFTEST else if late && !l.lock then some Code.TF_PIN_LANE_DOWN else none

/-- The command ends with the failure of its lowest-numbered failing lane (R456): lane and code position in the data. -/
def State.calFail (s : State) (tk : BitVec 32) (l : List Nat) (i : Nat) (st : Status) : State :=
  let pos := (((s.lane i).calib.bind (·.bad)).getD 0)
  (s.calRestore l).finish tk st (leBytes 0 8 ++ leBytes 0 4 ++ leBytes i 2 ++ leBytes pos 2)

/-- The lane's share of the alignment delay in 1/64 UI: half the difference of two round trips in ps (R200). -/
def calDelay (rate most rt : Nat) : Nat := ((most - rt) * rate * 64 + 1000000) / 2000000

/-- Measure the round trips, free values, and set the records' delays (R200 step 3). Without the pin loopback the record's offsets are 0
(DESIGN CHOICE, log entry 87). -/
def State.calMeasure (s : State) (l : List Nat) (rate plog : Nat) : State :=
  let s := l.foldl
    (fun s i =>
      let (f, s) := s.drawFree
      s.modLane i fun x => { x with st := { x.st with roundTrip := Config.freeWord f } }) s
  let most := l.foldl (fun m i => max m (s.lane i).st.roundTrip.toNat) 0
  s.modLanes l fun x =>
    let d := calDelay rate most x.st.roundTrip.toNat
    let off := match x.calib with | some c => (List.range 32).foldl (fun t p => tset 0 t p (BitVec.ofNat 8 (tget 0 c.step p - 1))) [] | none => []
    { x with cal := some { delayUi := d / 64 % 1024, delayFrac := d % 64, off := off, rate := rate, plog := plog } }

/-- Pins that showed no loopback on some lane (R200). -/
def State.calNoLoop (s : State) (l : List Nat) (plog : Nat) : Nat :=
  (List.range (2 ^ plog)).foldl
    (fun m p => if l.any fun i => match (s.lane i).calib with | some c => tget 0 c.step p == 0 | none => false then m ||| 2 ^ p else m) 0

/-- Every step has passed: the records are stored (R200). -/
def State.calStore (s : State) (tk : BitVec 32) (l : List Nat) (rate plog : Nat) (loop : Bool) : State :=
  let nl := if loop then s.calNoLoop l plog else 0
  ((s.calMeasure l rate plog).calRestore l).finish tk Code.ST_OK (leBytes (sashMask l) 8 ++ leBytes nl 4)

/-- Some lane's sash has joined a site, or the lanes' rate does not fit their quads (R200, R359). -/
def State.calBusy (s : State) (l : List Nat) (rate : Nat) : Bool :=
  l.any (fun i => (s.siteOf i).isSome) || !s.quadsFit (l.map fun i => (i, rate)) (fun i => !l.contains i)

/-- A slice of a CALIBRATE: lock, loopback frames, the pin loopback, the records (R200). -/
def State.calSlice (s : State) (tk : BitVec 32) (t : Ticket) (cmd : List Byte) : State :=
  let l := maskBits (fld cmd 0 8)
  let rate := fld cmd 8 4
  let plog := fld cmd 12 1
  let loop := bit (fld cmd 13 1) 0
  let late := decide (1000000000 ≤ s.power.ps - t.since)
  let done_ := (l.filter fun i => match (s.lane i).calib with | some c => decide (256 ≤ c.frames) | none => false).length
  let s := s.modTicket tk fun t => { t with queued := false, progress := BitVec.ofNat 64 done_ }
  if t.cancel then (s.calRestore l).finish tk Code.ST_ABORTED []
  else if t.phase = 0 then
    (if s.calBusy l rate then s.finish tk Code.ST_LANE_BUSY []
     else (s.calBegin l rate plog).modTicket tk fun t => { t with phase := 1, since := s.power.ps })
  else
    match l.find? fun i => ((s.lane i).calBad (late || 1 < t.phase)).isSome with
    | some i => s.calFail tk l i (((s.lane i).calBad (late || 1 < t.phase)).getD 0)
    | none =>
      if t.phase = 1 then (if l.all fun i => (s.lane i).lock then (s.modLanes l fun x => { x with calib := x.calib.map fun c => { c with stage := 2 } }).modTicket tk fun t => { t with phase := 2 } else s)
      else if t.phase = 2 then
        (if l.all fun i => match (s.lane i).calib with | some c => decide (256 ≤ c.frames) | none => true then
          (if loop then
            (s.modLanes l fun x => { x with calib := x.calib.map fun c => { c with stage := 4, sent := 0 } }).modTicket tk fun t => { t with phase := 3 }
           else s.calStore tk l rate plog false)
         else s)
      else if l.all fun i => match (s.lane i).calib with | some c => decide (256 ≤ c.slots) | none => true then s.calStore tk l rate plog true
      else s

/-- CALIBRATE: lanes whose sashes belong to no site (R200, R456). -/
def calibrateBody (s : State) (q : Req) : Reply :=
  let l := maskBits (q.n 0 8)
  if rateOk (q.n 8 4) = false ∨ 5 < q.n 12 1 then refuse s Code.ST_BAD_PARAM
  else if 2 ≤ q.n 13 1 then refuse s Code.ST_RESERVED_NONZERO
  else if s.calBusy l (q.n 8 4) then refuse s Code.ST_LANE_BUSY
  else s.accept q (.calibrate (bytesAt q.pay 0 14)) false l.length

/-- The quads of the named lanes (R475). -/
def lanesDomains (_ : State) (q : Req) : List Nat := ((maskBits (q.n 0 8)).map fun i => domQuad (i / 4)).dedup

/-- CALIBRATE (R200, R456). -/
def execCalibrate (src : Nat) (s : State) : Out :=
  .next (s.command src { op := 0x0401, need := 14, cov := [(0, 14)], doms := lanesDomains } calibrateBody)

/-! ### MASK and MASK_SWAP (R204) -/

/-- Write rows of the inactive copy from pin `p` on, and set its completeness (R204, R456). -/
def MaskTable.writeRows (m : MaskTable) (p : Nat) (rows : List (BitVec 256)) (mark : Bool) : MaskTable :=
  if m.active1 then { m with rows0 := tfill 0 m.rows0 p rows, complete0 := mark }
  else { m with rows1 := tfill 0 m.rows1 p rows, complete1 := mark }

/-- The sash of the lane the request names (R475). -/
def laneDomain (_ : State) (q : Req) : List Nat := if q.n 0 1 < 64 then [domSash (q.n 0 1)] else []

/-- MASK: rows of a pin-mode lane's inactive copy. -/
def maskBody (s : State) (q : Req) : Reply :=
  let i := q.n 0 1
  let p := q.n 1 1
  let k := q.n 2 1
  if 64 ≤ i ∨ k = 0 ∨ 6 < k ∨ q.pay.length < 16 + 32 * k then refuse s Code.ST_BAD_PARAM
  else if 2 ≤ q.n 3 1 ∨ zeroAt q.pay (16 + 32 * k) 240 = false then refuse s Code.ST_RESERVED_NONZERO
  else if (s.siteOf i).isNone then refuse s Code.ST_SITE_STATE
  else if (s.lane i).mode ≠ .pin ∨ (s.lane i).pins < p + k then refuse s Code.ST_BAD_PARAM
  else
    let rows := (List.range k).map fun j => BitVec.ofNat 256 (q.n (16 + 32 * j) 32)
    done (s.modLane i fun l => { l with masks := l.masks.writeRows p rows (q.n 3 1 == 1) }) []

/-- MASK (R204, R456). -/
def execMask (src : Nat) (s : State) : Out :=
  .next (s.command src { op := 0x0402, need := 48, cov := [(0, 4), (16, 192)], doms := laneDomain } maskBody)

/-- MASK_SWAP: a pending request on every named lane, in place of an earlier one. -/
def maskSwapBody (s : State) (q : Req) : Reply :=
  let l := maskBits (q.n 0 8)
  if 2 ^ 48 ≤ q.n 8 8 then refuse s Code.ST_RESERVED_NONZERO
  else if l.any fun i => (s.siteOf i).isNone then refuse s Code.ST_SITE_STATE
  else done (s.modLanes l fun x => { x with masks := { x.masks with swap := some (q.n 8 8) } }) []

/-- MASK_SWAP (R204, R456). -/
def execMaskSwap (src : Nat) (s : State) : Out :=
  .next (s.command src { op := 0x0403, need := 16, cov := [(0, 16)] } maskSwapBody)

/-! ### PINFIELD (R217, R535) -/

/-- The pin engine would become a second driver of a wire (R89, R210). -/
def State.rwireBad (s : State) (i field v : Nat) : Bool :=
  field == 0x06 && (wireBad (s.sash i).wen (BitVec.ofNat 8 v)).isSome

/-- PINFIELD: one H-class pin field of a lane of a site. -/
def pinfieldBody (s : State) (q : Req) : Reply :=
  let i := q.n 0 1
  let field := q.n 2 1
  let v := q.n 4 4
  if 64 ≤ i then refuse s Code.ST_BAD_PARAM
  else
    match s.siteOf i with
    | none => refuse s Code.ST_SITE_STATE
    | some n =>
      if (s.lane i).mode ≠ .pin ∨ pinFieldOk (s.lane i).cfg (q.n 1 1) field v true = false then refuse s Code.ST_BAD_PARAM
      else if s.rwireBad i field v then refuse s Code.TF_WIRE_CONTENTION
      else done (s.modLane i fun l => l.commandField ((s.site n).state == .running) (s.site n).c0 (q.n 1 1) field v) []

/-- PINFIELD (R456, R535). -/
def execPinfield (src : Nat) (s : State) : Out :=
  .next (s.command src { op := 0x0404, need := 8, cov := [(0, 3), (4, 4)], doms := laneDomain } pinfieldBody)

/-! ### PIN_STATUS (R221) -/

/-- The record of R221. -/
def Lane.pinRecord (l : Lane) (i : Nat) : List Byte :=
  let r := l.st
  leBytes i 1 ++ leBytes l.mode.code 1 ++ leBytes (b2n l.lock + 2 * b2n r.uncal + 4 * b2n l.chk.locked) 2 ++ leBytes r.originOffset.toNat 4 ++
    leBytes r.roundTrip.toNat 4 ++ leBytes r.rxHold.toNat 4 ++ leBytes r.txFrames.toNat 8 ++ leBytes r.compares.toNat 8 ++
    leBytes r.mismatches.toNat 8 ++ leBytes r.bitErrors.toNat 8 ++ leBytes r.illegal.toNat 4 ++ leBytes r.failLost.toNat 4 ++
    leBytes r.frameErr.toNat 2 ++ leBytes r.asicCrc.toNat 2 ++ leBytes r.peAlarm.toNat 2 ++ leBytes r.maskStale.toNat 2 ++
    leBytes r.lockLoss.toNat 2 ++ leBytes r.lastVoidCode.toNat 1 ++ leBytes 0 5 ++ leBytes r.lastVoidCycle.toNat 8 ++ leBytes 0 16

/-- PIN_STATUS: the record. -/
def pinStatusBody (s : State) (q : Req) : Reply :=
  if 64 ≤ q.n 0 1 then refuse s Code.ST_BAD_PARAM else done s ((s.lane (q.n 0 1)).pinRecord (q.n 0 1))

/-- PIN_STATUS (R221, R456). -/
def execPinStatus (src : Nat) (s : State) : Out :=
  .next (s.command src { op := 0x0405, need := 1, cov := [(0, 1)] } pinStatusBody)

end Sys2Proof.Machine
end

