-- ==== Sys2Proof/Machine/FailCmds.lean ====
section
/-! DEFINITION. The fail group (R457): FAIL_CLEAR (R254), FAIL_SUMMARY (R257), FAIL_READOUT (R269), REPAIR (R265 to R268), FILTER
and FILTER_SWAP (R264). -/

namespace Sys2Proof.Machine

/-! ### Headers (R257) -/

/-- A fail set is in readout or in analysis (R254, R265). -/
def State.setInUse (s : State) (hdr : Nat) : Bool := s.host.objBusy [(5, hdr), (6, hdr)]

/-- A FAIL_CLEAR of the set at `hdr` runs: the set is not CLOSED (R254, R269). -/
def State.clearing (s : State) (hdr : Nat) : Bool :=
  s.host.tickets.any fun e =>
    match e.2 with
    | some t => t.final.isNone && (match t.work with | .failClear _ _ => (wordsOf 4 1 t.buf).headD 0 * 65536 == hdr | _ => false)
    | none => false

/-- Bytes at unit address `a` as an observer sees them. -/
def State.peekBytes (s : State) (a n : Nat) : List Byte := (List.range n).map fun i => s.peekByte (a + i)

/-- The header at `a`: its 0x400 bytes, or what is wrong with the address. -/
def State.readHeader (s : State) (a : Nat) : Except Status (List Byte) × State :=
  if isDdr a = false ∨ (s.memAt a).isNone = true then (.error Code.ST_ADDR_UNMAPPED, s)
  else
    let (b, bad, s) := s.memRead a 0x400
    if bad then (.error Code.DI_POISON_READ, s)
    else if fld b 0 4 ≠ 0x4C494146 then (.error Code.ST_BAD_PARAM, s)
    else (.ok b, s)

/-- The header is of a CLOSED set. -/
def hdrClosed (b : List Byte) : Bool := bit (fld b 4 1) 2

/-- GEOM and the bases of a header as a fail configuration. -/
def hdrCfg (b : List Byte) : FailCfg :=
  { present := true
    capctl := BitVec.ofNat 8 (fld b 0x87 1)
    rowb := fld b 0x80 1
    colb := fld b 0x81 1
    iob := fld b 0x82 1
    rowsh := fld b 0x83 1
    colsh := fld b 0x84 1
    brb := fld b 0x85 1
    bcb := fld b 0x86 1
    ioFirst := fld b 0x88 2 }

/-! ### FAIL_CLEAR (R254) -/

/-- The 64 KiB regions of a set's areas. -/
def FailCfg.setRegions (f : FailCfg) (k : Nat) : List Nat :=
  (f.setAreas k).flatMap fun a => (List.range ((a.1 + a.2 + 65535) / 65536 - a.1 / 65536)).map (a.1 / 65536 + ·)

/-- FAIL_CLEAR: the regions to clear are settled when the command is accepted. -/
def failClearBody (s : State) (q : Req) : Reply :=
  let n := q.n 0 1
  let k := q.n 1 1
  let x := s.site n
  let f := x.img.failcfg
  if 16 ≤ n then refuse s Code.ST_BAD_PARAM
  else if f.present = false ∨ f.nsets ≤ k then refuse s Code.ST_BAD_PARAM
  else if x.fl.set = some k ∧ (x.fl.open_ = true ∨ x.fl.closing = true) then refuse s Code.ST_SET_BUSY
  else if s.setInUse (tget 0 f.recBase k) then refuse s Code.ST_SET_BUSY
  else
    let rs := f.setRegions k
    if rs.any fun r => (s.memAt (r * 65536)).isNone then refuse s Code.ST_ADDR_UNMAPPED
    else
      let r := s.accept q (.failClear n k) true rs.length
      if r.st = Code.ST_ACCEPTED then { r with s := r.s.modTicket r.tk fun t => { t with buf := rs.flatMap fun g => leBytes g 4 } } else r

/-- FAIL_CLEAR (R254, R457). -/
def execFailClear (src : Nat) (s : State) : Out :=
  .next (s.command src { op := 0x0501, need := 2, cov := [(0, 2)] } failClearBody)

/-- A slice of a FAIL_CLEAR: one region; after the last the header is written CLEARED. The first region holds the header. -/
def State.failClearSlice (s : State) (tk : BitVec 32) (t : Ticket) : State :=
  let j := t.progress.toNat
  let rs := wordsOf 4 t.total.toNat t.buf
  match rs[j]? with
  | none => s.finish tk Code.ST_OK []
  | some r =>
    if (s.memAt (r * 65536)).isNone then s.finish tk Code.ST_ADDR_UNMAPPED []
    else
      match s.accessAll ((s.areaChans (r * 65536, 65536)).map domDdr) with
      | (.locked, s) => s.finish tk Code.PW_DOMAIN_LOCKED []
      | (.wait, s) => s
      | (.go, s) =>
        let s : State := { s with mem := s.mem.fillRegion r }
        let s := s.modTicket tk fun t => { t with queued := false, progress := BitVec.ofNat 64 (j + 1) }
        if j + 1 < rs.length then s
        else
          let hdr := rs.headD 0 * 65536
          (s.memWrite hdr (leBytes 0x4C494146 4 ++ leBytes 1 4)).finish tk Code.ST_OK []

/-! ### FAIL_SUMMARY -/

/-- PART of a header: bytes 0x000 to 0x097, or 24 slice pointers with those beyond the last slice zero. -/
def hdrPart (b : List Byte) (part : Nat) : List Byte :=
  if part = 0 then b.take 0x98
  else
    (List.range 24).flatMap fun j =>
      let i := 24 * (part - 1) + j
      leBytes (if i < fld b 7 1 then fld b (0x200 + 8 * i) 8 else 0) 8

/-- FAIL_SUMMARY: the header in DDR, or live counts while the set is OPEN. -/
def failSummaryBody (s : State) (q : Req) : Reply :=
  let n := q.n 0 1
  let k := q.n 1 1
  let x := s.site n
  let hdr := q.n 8 8
  if 4 ≤ q.n 2 1 then refuse s Code.ST_BAD_PARAM
  else if hdr = 0 ∧ (16 ≤ n ∨ x.img.failcfg.nsets ≤ k) then refuse s Code.ST_BAD_PARAM
  else
    let a := if hdr ≠ 0 then hdr else tget 0 x.img.failcfg.recBase k
    let live := (List.range 16).find? fun m =>
      let y := s.site m
      y.fl.open_ && y.img.failcfg.present && y.recBase == a
    match live with
    | some m => done s (hdrPart ((s.site m).failHeader m 2) (q.n 2 1))
    | none =>
      match s.readHeader a with
      | (.error st, s) => refuse s st
      | (.ok b, s) => done s (hdrPart b (q.n 2 1))

/-- The DDR channel of a header that the request names at `o` (R475). -/
def hdrDomain (o : Nat) (s : State) (q : Req) : List Nat :=
  if q.n o 8 = 0 then [] else match s.ddrChan (q.n o 8) with | some c => [domDdr c] | none => []

/-- FAIL_SUMMARY (R257, R457). -/
def execFailSummary (src : Nat) (s : State) : Out :=
  .next (s.command src { op := 0x0502, need := 16, cov := [(0, 3), (8, 8)], doms := hdrDomain 8 } failSummaryBody)

/-! ### Copying records to the host (R269, R284) -/

/-- A copy of records to host memory in progress: COPIED, POISONED, MORE, and the records met. -/
structure Readout where
  copied : Nat
  poisoned : Nat
  more : Bool
  seen : Nat
  s : State

/-- COMPLETE data of a readout (R457). -/
def Readout.data (x : Readout) : List Byte :=
  leBytes x.copied 8 ++ leBytes x.poisoned 4 ++ leBytes (b2n x.more) 1

/-- The readout a ticket stands at: its data, with the records met behind. -/
def State.readout (s : State) (t : Ticket) : Readout :=
  { copied := fld t.data 0 8, poisoned := fld t.data 8 4, more := fld t.data 12 1 == 1, seen := fld t.data 16 8, s := s }

/-- Keep a readout in its ticket. -/
def Readout.keep (x : Readout) (tk : BitVec 32) (phase : Nat) : State :=
  x.s.modTicket tk fun t =>
    { t with
      queued := false
      phase := phase
      progress := BitVec.ofNat 64 x.copied
      data := x.data ++ List.replicate 3 0 ++ leBytes x.seen 8 }

/-- One record place: pads are removed, SKIP records passed over, and a record that does not fit sets MORE. -/
def Readout.put (x : Readout) (haddr hlen skip : Nat) (r : List Byte) : Readout :=
  if x.more || r.all (· == 0) then x
  else if x.seen < skip then { x with seen := x.seen + 1 }
  else if hlen < 16 * x.copied + 16 then { x with more := true }
  else
    { x with
      copied := x.copied + 1
      seen := x.seen + 1
      s := { x.s with host := x.s.host.write (haddr + 16 * x.copied) (bytesAt r 0 16) } }

/-- One 64-byte line of unit memory: four places, or four POISONED. -/
def Readout.line (x : Readout) (haddr hlen skip a : Nat) : Readout :=
  if x.more then x
  else
    let (b, bad, s) := x.s.memRead a 64
    let x := { x with s := s }
    if bad then { x with poisoned := x.poisoned + 4 }
    else (List.range 4).foldl (fun x j => x.put haddr hlen skip (bytesAt b (16 * j) 16)) x

/-- The readout ends: pad records fill its last 64-byte block. -/
def Readout.close (x : Readout) (tk : BitVec 32) (haddr : Nat) (st : Status) : State :=
  let pads := (4 - x.copied % 4) % 4
  let s : State := { x.s with host := x.s.host.write (haddr + 16 * x.copied) (List.replicate (16 * pads) 0) }
  s.finish tk st x.data

/-! ### FAIL_READOUT (R269) -/

/-- 512-byte chunks of a closed set in readout order: slice 0 first, each slice from its oldest record. -/
def hdrChunks (hdr : Nat) (b : List Byte) : List Nat :=
  let len := fld b 0x68 8
  (List.range (fld b 7 1)).flatMap fun i =>
    let w := fld b (0x200 + 8 * i) 8
    let start := if len ≤ w then w % max 512 len else 0
    (List.range (min w len / 512)).map fun j => hdr + 0x400 + i * len + (start + 512 * j) % max 512 len

/-- Byte offset and status of a readout stopped early (R435, R447). -/
def Ticket.stopStatus (t : Ticket) : Option Status :=
  if t.cancel then some Code.ST_ABORTED else if t.hostErr then some Code.ST_DMA_HOST_ERROR else none

/-- A slice of a FAIL_READOUT: one chunk of 32 record places. -/
def State.failReadoutSlice (s : State) (tk : BitVec 32) (t : Ticket) (cmd : List Byte) : State :=
  let hdr := fld cmd 0 8
  let x := s.readout t
  match t.stopStatus with
  | some st => x.close tk (fld cmd 8 8) st
  | none =>
    match s.accessAll ((s.areaChans (hdr, 0x400)).map domDdr) with
    | (.locked, s) => ({ x with s := s } : Readout).close tk (fld cmd 8 8) Code.PW_DOMAIN_LOCKED
    | (.wait, s) => s
    | (.go, s) =>
      let x := { x with s := s }
      match (hdrChunks hdr (s.peekBytes hdr 0x400))[t.phase]? with
      | none => x.close tk (fld cmd 8 8) Code.ST_OK
      | some a =>
        if (s.memAt a).isNone then x.close tk (fld cmd 8 8) Code.ST_ADDR_UNMAPPED
        else
          match s.accessAll ((s.areaChans (a, 512)).map domDdr) with
          | (.locked, s) => ({ x with s := s } : Readout).close tk (fld cmd 8 8) Code.PW_DOMAIN_LOCKED
          | (.wait, s) => s
          | (.go, s) =>
            let x := { x with s := s }
            let x := (List.range 8).foldl (fun x j => x.line (fld cmd 8 8) (fld cmd 0x10 8) (fld cmd 0x18 8) (a + 64 * j)) x
            if x.more then x.close tk (fld cmd 8 8) Code.ST_OK else x.keep tk (t.phase + 1)

/-- Records a closed set's slices hold places for: TOTAL of a readout. -/
def hdrPlaces (hdr : Nat) (b : List Byte) : Nat := 32 * (hdrChunks hdr b).length

/-- FAIL_READOUT of a CLOSED set. -/
def failReadoutBody (s : State) (q : Req) : Reply :=
  if q.n 0x10 8 % 64 ≠ 0 then refuse s Code.ST_BAD_PARAM
  else if s.clearing (q.n 0 8) = true then refuse s Code.ST_SET_BUSY
  else
    match s.readHeader (q.n 0 8) with
    | (.error st, s) => refuse s st
    | (.ok b, s) =>
      if hdrClosed b = false then refuse s Code.ST_SET_BUSY
      else s.accept q (.failReadout (bytesAt q.pay 0 0x20)) true (hdrPlaces (q.n 0 8) b)

/-- FAIL_READOUT (R269, R457). -/
def execFailReadout (src : Nat) (s : State) : Out :=
  .next (s.command src { op := 0x0503, need := 0x20, cov := [(0, 0x20)], doms := hdrDomain 0 } failReadoutBody)

/-! ### Repair analysis: one block (R266, R267) -/

/-- A cover in progress: uncovered cells (row, repair column) in order, and the spares assigned. -/
structure Cover where
  cells : List (Nat × Nat)
  rows : List Nat
  cols : List Nat
  deriving DecidableEq, Repr

/-- Uncovered fails of a row, and of a repair column. -/
def Cover.inRow (c : Cover) (r : Nat) : Nat := c.cells.countP (·.1 == r)
def Cover.inCol (c : Cover) (k : Nat) : Nat := c.cells.countP (·.2 == k)

/-- Assign a spare row, or a spare column. -/
def Cover.takeRow (c : Cover) (r : Nat) : Cover := { cells := c.cells.filter (·.1 != r), rows := c.rows ++ [r], cols := c.cols }
def Cover.takeCol (c : Cover) (k : Nat) : Cover := { cells := c.cells.filter (·.2 != k), rows := c.rows, cols := c.cols ++ [k] }

/-- The smallest number of a list. -/
def least : List Nat → Option Nat
  | [] => none
  | a :: l => match least l with | none => some a | some b => some (min a b)

/-- The lowest row, or column, with more uncovered fails than spares of the other kind remain. -/
def Cover.mustRow (c : Cover) (sc : Nat) : Option Nat := least ((c.cells.map (·.1)).filter fun r => decide (sc - c.cols.length < c.inRow r))
def Cover.mustCol (c : Cover) (sr : Nat) : Option Nat := least ((c.cells.map (·.2)).filter fun k => decide (sr - c.rows.length < c.inCol k))

/-- The row half of a must-repair pass: the cover, and false when a needed spare row is not available. -/
def Cover.mustRows (c : Cover) (sr sc : Nat) : Nat → Cover × Bool
  | 0 => (c, true)
  | f + 1 =>
    match c.mustRow sc with
    | none => (c, true)
    | some r => if c.rows.length < sr then (c.takeRow r).mustRows sr sc f else (c, false)

/-- The column half. -/
def Cover.mustCols (c : Cover) (sr sc : Nat) : Nat → Cover × Bool
  | 0 => (c, true)
  | f + 1 =>
    match c.mustCol sr with
    | none => (c, true)
    | some k => if c.cols.length < sc then (c.takeCol k).mustCols sr sc f else (c, false)

/-- The must-repair passes, until one assigns nothing (R266). -/
def Cover.must (c : Cover) (sr sc : Nat) : Nat → Cover × Bool
  | 0 => (c, true)
  | f + 1 =>
    match c.mustRows sr sc 17 with
    | (d, false) => (d, false)
    | (d, true) =>
      match d.mustCols sr sc 17 with
      | (e, false) => (e, false)
      | (e, true) => if e = c then (e, true) else e.must sr sc f

/-- What the bounded search finds, with the nodes it has used. -/
inductive Search where
  | found (c : Cover) (nodes : Nat)
  | none (nodes : Nat)
  | spent (nodes : Nat)
  deriving DecidableEq, Repr

/-- The bounded search (R266): depth first from the lowest uncovered cell, its row before its repair column. -/
def Cover.search (sr sc budget : Nat) : Nat → Cover → Nat → Search
  | 0, c, nodes => if c.cells = [] then .found c nodes else .none nodes
  | f + 1, c, nodes =>
    match c.cells with
    | [] => .found c nodes
    | (r, k) :: _ =>
      let byCol (nodes : Nat) : Search :=
        if c.cols.length < sc then (if nodes = budget then .spent nodes else Cover.search sr sc budget f (c.takeCol k) (nodes + 1)) else .none nodes
      if c.rows.length < sr then
        if nodes = budget then .spent nodes
        else
          match Cover.search sr sc budget f (c.takeRow r) (nodes + 1) with
          | .none m => byCol m
          | x => x
      else byCol nodes

/-- Outcome of a block: STATUS of R267, the cover and the nodes used. -/
def repairCells (cells : List (Nat × Nat)) (sr sc budget : Nat) : Nat × Cover × Nat :=
  match ({ cells := cells, rows := [], cols := [] } : Cover).must sr sc 33 with
  | (c, false) => (1, c, 0)
  | (c, true) =>
    if 2 * (sr - c.rows.length) * (sc - c.cols.length) < c.cells.length then (1, c, 0)
    else
      match Cover.search sr sc budget (sr + sc) c 0 with
      | .found d n => (0, d, n)
      | .none n => (1, c, n)
      | .spent n => (2, c, n)

/-! ### Reading a block (R261, R266) -/

/-- Read a counter of the set's MRC area. -/
def State.readCounter (s : State) (base w : Nat) : Nat × Bool × State :=
  let (b, bad, s) := s.memRead (base + 4 * w) 4
  (leNat b, bad, s)

/-- Read counters: their values, whether any was poisoned. -/
def State.readCounters (s : State) (base : Nat) (ws : List Nat) : List Nat × Bool × State :=
  ws.foldl
    (fun (l, e, s) w => let (v, b, s) := s.readCounter base w; (l ++ [v], e || b, s))
    ([], false, s)

/-- The failing cells of one row of a block, from whole 64-byte bitmap lines: `i0` is the bit index of its first cell. -/
def State.readRow (s : State) (bm i0 n : Nat) : List Nat × Bool × State :=
  let lo := (bm + i0 / 8) / 64 * 64
  let hi := ((bm + (i0 + n + 7) / 8) + 63) / 64 * 64
  let (b, bad, s) := s.memRead lo (hi - lo)
  ((List.range n).filter fun j =>
      let x := bm * 8 + i0 + j - lo * 8
      getBit (b.getD (x / 8) 0) (x % 8), bad, s)

/-- Outcome, failing cells, cover, nodes and state of block `b` (R266). -/
def State.repairBlock (s : State) (f : FailCfg) (bm mrc b sr sc budget : Nat) : Nat × List (Nat × Nat) × Cover × Nat × State :=
  let r0 := b / f.ncb * 2 ^ f.brb
  let c0 := b % f.ncb * 2 ^ f.bcb
  let none_ : Cover := { cells := [], rows := [], cols := [] }
  let (rc, e1, s) := s.readCounters mrc ((List.range (2 ^ f.brb)).map fun i => (r0 + i) * f.ncb + b % f.ncb)
  let (cc, e2, s) := s.readCounters mrc ((List.range (2 ^ f.bcb)).map fun j => 2 ^ f.rowb * f.ncb + b / f.ncb * 2 ^ f.cb + c0 + j)
  if e1 || e2 then (4, [], none_, 0, s)
  else if rc.all (· == 0) && cc.all (· == 0) then (3, [], none_, 0, s)
  else
    let (cells, e, s) := ((List.range (2 ^ f.brb)).filter fun i => rc.getD i 0 != 0).foldl
      (fun (l, e, s) i =>
        let (ks, b, s) := s.readRow bm ((r0 + i) * 2 ^ f.cb + c0) (2 ^ f.bcb)
        (l ++ (if b then [] else ks.map fun k => (i, k)), e || b, s))
      (([] : List (Nat × Nat)), false, s)
    if e then (4, cells, none_, 0, s)
    else
      let (st, c, n) := repairCells cells sr sc budget
      (st, cells, c, n, s)

/-- The 80-byte result record (R267). -/
def repairRecord (b st : Nat) (cells : List (Nat × Nat)) (c : Cover) (nodes : Nat) : List Byte :=
  leBytes b 4 ++ leBytes st 1 ++ leBytes c.rows.length 1 ++ leBytes c.cols.length 1 ++ [0] ++ leBytes cells.length 4 ++ leBytes nodes 4 ++
    bytesAt (c.rows.flatMap fun r => leBytes r 2) 0 32 ++ bytesAt (c.cols.flatMap fun k => leBytes k 2) 0 32

/-- A filter entry of R264: a spare row, or a spare repair column when `col`. -/
def filterEntry (b : Nat) (col : Bool) (i : Nat) : Nat := 2 ^ 63 + b2n col * 2 ^ 62 + b % 2 ^ 30 * 2 ^ 32 + i

/-- The filter entries of a REPAIRED block's spares. -/
def Cover.entries (c : Cover) (b : Nat) : List Byte :=
  (c.rows.flatMap fun r => leBytes (filterEntry b false r) 8) ++ c.cols.flatMap fun k => leBytes (filterEntry b true k) 8

/-! ### FILTER and FILTER_SWAP (R264) -/

/-- Write entries of the inactive copy from entry `i` on, and set its completeness. -/
def FilterTable.writeRows (f : FilterTable) (i : Nat) (es : List (BitVec 64)) (mark : Bool) : FilterTable :=
  if f.active1 then { f with rows0 := tfill 0 f.rows0 i es, complete0 := mark }
  else { f with rows1 := tfill 0 f.rows1 i es, complete1 := mark }

/-- The inactive copy with nothing but the given entries. -/
def FilterTable.replace (f : FilterTable) (es : List (BitVec 64)) (mark : Bool) : FilterTable :=
  (if f.active1 then { f with rows0 := [] } else { f with rows1 := [] }).writeRows 0 (es.take 512) mark

/-- The site a filter command names, when it has a filter. -/
def State.filterSite (s : State) (n : Nat) : Option Status :=
  if 16 ≤ n then some Code.ST_BAD_PARAM
  else if (s.site n).state = .empty then some Code.ST_SITE_STATE
  else if (s.site n).img.failcfg.filter = false then some Code.ST_BAD_PARAM
  else none

/-- FILTER: entries of a site's inactive copy. -/
def filterBody (s : State) (q : Req) : Reply :=
  let n := q.n 0 1
  let i := q.n 2 2
  let k := q.n 4 1
  if 512 ≤ i ∨ 28 < k ∨ 512 < i + k ∨ q.pay.length < 8 + 8 * k then refuse s Code.ST_BAD_PARAM
  else if 2 ≤ q.n 1 1 ∨ zeroAt q.pay (8 + 8 * k) 240 = false then refuse s Code.ST_RESERVED_NONZERO
  else
    match s.filterSite n with
    | some st => refuse s st
    | none =>
      let es := (List.range k).map fun j => BitVec.ofNat 64 (q.n (8 + 8 * j) 8)
      done (s.modSite n fun x => { x with filt := x.filt.writeRows i es (q.n 1 1 == 1) }) []

/-- FILTER (R264, R457). -/
def execFilter (src : Nat) (s : State) : Out :=
  .next (s.command src { op := 0x0505, need := 8, cov := [(0, 5), (8, 232)] } filterBody)

/-- FILTER_SWAP: a pending request, in place of an earlier one. -/
def filterSwapBody (s : State) (q : Req) : Reply :=
  if 2 ^ 48 ≤ q.n 8 8 then refuse s Code.ST_RESERVED_NONZERO
  else
    match s.filterSite (q.n 0 1) with
    | some st => refuse s st
    | none => done (s.modSite (q.n 0 1) fun x => { x with filt := { x.filt with swap := some (q.n 8 8) } }) []

/-- FILTER_SWAP (R264, R457). -/
def execFilterSwap (src : Nat) (s : State) : Out :=
  .next (s.command src { op := 0x0506, need := 16, cov := [(0, 1), (8, 8)] } filterSwapBody)

/-! ### REPAIR (R265 to R268) -/

/-- Live analyses, the running one first (R268). -/
def HostState.repairs (h : HostState) : List Nat :=
  (h.tickets.filter fun e =>
    match e.2 with | some t => t.final.isNone && (match t.work with | .repair _ => true | _ => false) | none => false).map (·.1)

/-- Blocks of a set (R261). -/
def FailCfg.blocks (f : FailCfg) : Nat := 2 ^ (f.rowb - f.brb) * f.ncb

/-- Search budget per block of a REPAIR (R265). -/
def repairBudget (cmd : List Byte) : Nat := if fld cmd 12 4 = 0 then 1048576 else fld cmd 12 4

/-- VERDICT of the counts of blocks by status (R457). -/
def repairVerdict (d : List Byte) : Nat :=
  if fld d 4 4 ≠ 0 then 1 else if fld d 16 4 ≠ 0 then 4 else if fld d 8 4 ≠ 0 then 2 else 0

/-- The analysis is over: FSITE's inactive filter copy, and COMPLETE (R267, R457). -/
def State.repairEnd (s : State) (tk : BitVec 32) (t : Ticket) (fsite : Nat) : State :=
  let es := (wordsOf 8 (t.buf.length / 8) t.buf).map (BitVec.ofNat 64)
  let here := decide (fsite < 16) && (s.site fsite).img.failcfg.filter
  let fits := decide (es.length ≤ 512)
  let s := if here then s.modSite fsite fun x => { x with filt := x.filt.replace es fits } else s
  let flt := if fsite = 0xFF then 0 else if here && fits then 1 else 2
  s.finish tk Code.ST_OK (bytesAt t.data 0 20 ++ leBytes (repairVerdict t.data) 1 ++ leBytes flt 1)

/-- DDR channels an analysis reads and writes. -/
def State.repairChans (s : State) (b cmd : List Byte) : List Nat :=
  let f := hdrCfg b
  (s.areaChans (fld cmd 0 8, 0x400) ++ s.areaChans (fld b 0x70 8, max 1 f.bmBytes) ++ s.areaChans (fld b 0x78 8, max 1 f.mrcBytes) ++
    s.areaChans (fld cmd 0x10 8, 80 * f.blocks)).dedup

/-- A slice of a REPAIR: one block of the analysis that runs (R268). -/
def State.repairSlice (s : State) (tk : BitVec 32) (t : Ticket) (cmd : List Byte) : State :=
  if t.cancel then s.finish tk Code.ST_ABORTED []
  else if s.host.repairs.head? ≠ some tk.toNat then s
  else
    let b := s.peekBytes (fld cmd 0 8) 0x400
    let f := hdrCfg b
    match s.accessAll ((s.repairChans b cmd).map domDdr) with
    | (.locked, s) => s.finish tk Code.PW_DOMAIN_LOCKED []
    | (.wait, s) => s
    | (.go, s) =>
      let j := t.progress.toNat
      if (s.memAt (fld cmd 0x10 8 + 80 * j)).isNone then s.finish tk Code.ST_ADDR_UNMAPPED []
      else
        let (st, cells, c, nodes, s) := s.repairBlock f (fld b 0x70 8) (fld b 0x78 8) j (fld cmd 8 1) (fld cmd 9 1) (repairBudget cmd)
        let s := s.memWrite (fld cmd 0x10 8 + 80 * j) (repairRecord j st cells c nodes)
        let d := (List.range 5).flatMap fun i => leBytes (fld t.data (4 * i) 4 + (if i = st then 1 else 0)) 4
        let t := { t with
          queued := false
          progress := BitVec.ofNat 64 (j + 1)
          data := d
          buf := if st = 0 then t.buf ++ c.entries j else t.buf }
        let s := s.setTicket tk (some t)
        if j + 1 < t.total.toNat then s else s.repairEnd tk t (fld cmd 10 1)

/-- REPAIR of a CLOSED set with BITMAP and MRC. -/
def repairBody (s : State) (q : Req) : Reply :=
  let fs := q.n 10 1
  if 16 < q.n 8 1 ∨ 16 < q.n 9 1 ∨ q.n 0x10 8 % 64 ≠ 0 then refuse s Code.ST_BAD_PARAM
  else if fs ≠ 0xFF ∧ (16 ≤ fs ∨ (s.site fs).img.failcfg.filter = false) then refuse s Code.ST_BAD_PARAM
  else if isDdr (q.n 0x10 8) = false ∨ (s.memAt (q.n 0x10 8)).isNone = true then refuse s Code.ST_ADDR_UNMAPPED
  else if s.clearing (q.n 0 8) = true then refuse s Code.ST_SET_BUSY
  else
    match s.readHeader (q.n 0 8) with
    | (.error st, s) => refuse s st
    | (.ok b, s) =>
      let f := hdrCfg b
      if hdrClosed b = false then refuse s Code.ST_SET_BUSY
      else if f.bitmap = false ∨ f.mrc = false ∨ f.geomOk = false then refuse s Code.ST_BAD_PARAM
      else if 4 ≤ s.host.repairs.length then refuse s Code.ST_REPAIR_BUSY
      else s.accept q (.repair (bytesAt q.pay 0 0x18)) true f.blocks

/-- REPAIR (R265, R457). -/
def execRepair (src : Nat) (s : State) : Out :=
  .next (s.command src { op := 0x0504, need := 0x18, cov := [(0, 11), (12, 12)], doms := hdrDomain 0 } repairBody)

end Sys2Proof.Machine
end

