-- ==== Sys2Proof/Machine/TrigCmds.lean ====
section
/-! DEFINITION. The trigger group (R458): TRIGFIELD (R282), TRIGFORCE, REARM (R278), TRIG_STATUS (R283) and TRIG_READOUT (R284). -/

namespace Sys2Proof.Machine

/-! ### TRIGFIELD (R281, R282) -/

/-- The change of one H-class field: from the next frame while the site runs, at once otherwise (R282). -/
def State.trigWrite (s : State) (n i field v : Nat) : State :=
  s.modTrig i fun t =>
    if (s.site n).state = .running then { t with staged := t.staged ++ [(0, BitVec.ofNat 8 field, BitVec.ofNat 128 v)] }
    else t.setField field v

/-- TRIGFIELD: one H-class trigger field of a lane. -/
def trigfieldBody (s : State) (q : Req) : Reply :=
  let i := q.n 0 1
  let field := q.n 1 1
  let v := q.n 8 16
  if 64 ≤ i then refuse s Code.ST_BAD_PARAM
  else
    match s.siteOf i with
    | none => refuse s Code.ST_SITE_STATE
    | some n =>
      if trigRsv field v then refuse s Code.ST_RESERVED_NONZERO
      else if (s.sash i).cfg.hasTrig = false ∨ trigFieldOk (s.lane i).cfg field v = false then refuse s Code.ST_BAD_PARAM
      else if s.toutBusy field v then refuse s Code.ST_RESOURCE_BUSY
      else done (s.trigWrite n i field v) []

/-- TRIGFIELD (R282, R458). -/
def execTrigfield (src : Nat) (s : State) : Out :=
  .next (s.command src { op := 0x0601, need := 24, cov := [(0, 2), (8, 16)], doms := laneDomain } trigfieldBody)

/-! ### TRIGFORCE and REARM -/

/-- TRIGFORCE: a READY unit triggers at the slot being decoded, the next one its lane reads; any other unit stays as it is (R274, R458). -/
def trigforceBody (s : State) (q : Req) : Reply :=
  let i := q.n 0 1
  if 64 ≤ i then refuse s Code.ST_BAD_PARAM
  else
    match s.siteOf i with
    | none => done s []
    | some n => done (s.fireExternal n i (s.trig i).slot 0x40) []

/-- TRIGFORCE (R458). -/
def execTrigforce (src : Nat) (s : State) : Out :=
  .next (s.command src { op := 0x0602, need := 1, cov := [(0, 1)], doms := laneDomain } trigforceBody)

/-- A unit rearmed: READY with an empty store and a cleared record; its engines and its slot grid go on (R278, R283). -/
def Trig.rearm (t : Trig) : Trig :=
  { t with
    state := .ready
    notrig := false
    gaps := false
    info := 0
    preStored := 0
    postStored := 0
    lost := 0
    gap := none
    trigCycle := 0
    trigSlot := 0
    trigGrid := 0
    hits := 0
    trigTs := 0
    startPtr := 0
    fifo := []
    ext := none
    store := []
    stage := []
    written := 0
    sent := 0 }

/-- REARM: a DONE unit of an ARMED or RUNNING site. -/
def rearmBody (s : State) (q : Req) : Reply :=
  let i := q.n 0 1
  if 64 ≤ i then refuse s Code.ST_BAD_PARAM
  else
    match s.siteOf i with
    | none => refuse s Code.ST_SITE_STATE
    | some n =>
      if (s.trig i).state = .done ∧ ((s.site n).state = .armed ∨ (s.site n).state = .running) then done (s.modTrig i Trig.rearm) []
      else refuse s Code.ST_SITE_STATE

/-- REARM (R278, R458). -/
def execRearm (src : Nat) (s : State) : Out :=
  .next (s.command src { op := 0x0603, need := 1, cov := [(0, 1)], doms := laneDomain } rearmBody)

/-! ### TRIG_STATUS and TRIG_READOUT -/

/-- TRIG_STATUS: the record. -/
def trigStatusBody (s : State) (q : Req) : Reply :=
  if 64 ≤ q.n 0 1 then refuse s Code.ST_BAD_PARAM else done s ((s.trig (q.n 0 1)).record (q.n 0 1))

/-- TRIG_STATUS (R283, R458). -/
def execTrigStatus (src : Nat) (s : State) : Out :=
  .next (s.command src { op := 0x0604, need := 1, cov := [(0, 1)] } trigStatusBody)

/-- Where the acquisition of unit `i` lies: unit address and bytes (R277). -/
def State.acqArea (s : State) (i : Nat) : Nat × Nat :=
  let c := (s.trig i).cfg
  if c.spill then (c.acqBase, c.acqLen) else (padAddr i (32 * c.tbufFirst), 32 * c.tbufLines)

/-- The 64-byte line, counted since the store was emptied, of the oldest record kept, and the lines from it to the newest. -/
def Trig.firstLine (t : Trig) : Nat := match t.store with | (p, _) :: _ => p / 4 | [] => 0
def Trig.acqLines (t : Trig) : Nat := match t.store.getLast? with | some (p, _) => p / 4 - t.firstLine + 1 | none => 0

/-- One line of an acquisition to the host: the records kept in it, or four POISONED places (R284). -/
def Readout.acqLine (x : Readout) (i haddr hlen l : Nat) : Readout :=
  if x.more then x
  else
    let t := x.s.trig i
    let (base, len) := x.s.acqArea i
    let k := t.firstLine + l
    let (b, bad, s) := x.s.memRead (base + 64 * k % max 64 len) 64
    let x := { x with s := s }
    if bad then { x with poisoned := x.poisoned + 4 }
    else
      (List.range 4).foldl (fun x j => if t.store.any (fun e => e.1 == 4 * k + j) then x.put haddr hlen 0 (bytesAt b (16 * j) 16) else x) x

/-- The domains that hold an acquisition. -/
def State.acqDomains (s : State) (i : Nat) : List Nat :=
  if (s.trig i).cfg.spill then (s.areaChans (s.acqArea i)).map domDdr else [domSash i]

/-- A slice of a TRIG_READOUT: eight lines. -/
def State.trigReadoutSlice (s : State) (tk : BitVec 32) (t : Ticket) (cmd : List Byte) : State :=
  let i := fld cmd 0 1
  let x := s.readout t
  match t.stopStatus with
  | some st => x.close tk (fld cmd 8 8) st
  | none =>
    match s.accessAll (s.acqDomains i) with
    | (.locked, s) => ({ x with s := s } : Readout).close tk (fld cmd 8 8) Code.PW_DOMAIN_LOCKED
    | (.wait, s) => s
    | (.go, s) =>
      let n := (s.trig i).acqLines
      let x := { x with s := s }
      let ls := (List.range 8).filter fun j => decide (8 * t.phase + j < n)
      let x := ls.foldl (fun x j => x.acqLine i (fld cmd 8 8) (fld cmd 0x10 8) (8 * t.phase + j)) x
      if x.more || decide (n ≤ 8 * t.phase + 8) then x.close tk (fld cmd 8 8) Code.ST_OK else x.keep tk (t.phase + 1)

/-- TRIG_READOUT of a DONE unit. -/
def trigReadoutBody (s : State) (q : Req) : Reply :=
  let i := q.n 0 1
  if 64 ≤ i ∨ q.n 0x10 8 % 64 ≠ 0 then refuse s Code.ST_BAD_PARAM
  else if (s.trig i).state ≠ .done then refuse s Code.ST_SET_BUSY
  else s.accept q (.trigReadout (bytesAt q.pay 0 0x18)) true (s.trig i).store.length

/-- TRIG_READOUT (R284, R458). -/
def execTrigReadout (src : Nat) (s : State) : Out :=
  .next (s.command src { op := 0x0605, need := 0x18, cov := [(0, 1), (8, 16)], doms := laneDomain } trigReadoutBody)

/-! ### Records leave the FIFO (R276 to R279) -/

/-- Up to two records leave the FIFO for the next line of the trigger buffer; a record alone has a pad beside it (R275, R276, R277). -/
def Trig.storeLine (t : Trig) : Trig :=
  let recs := (t.fifo.take 2).zipIdx.map fun e => (t.written + e.2, e.1)
  { t with
    fifo := t.fifo.drop 2
    store := if t.cfg.spill then t.store else t.store ++ recs
    stage := if t.cfg.spill then t.stage ++ recs else t.stage
    written := t.written + 2 }

/-- TRIG_RECORD_STORE (R276, R277): one line of two records, in a port step that every other user leaves free. -/
def execTrigRecordStore (sash : Fin 64) (s : State) : Out :=
  .next
    (let i := sash.val
     let t := s.trig i
     if t.fifo = [] ∨ s.trigPort i = false then s
     else
       let line := t.cfg.tbufFirst + t.written / 2 % max 1 t.cfg.tbufLines
       let s := s.setPadLine i line ((t.fifo.take 2).flatMap fun r => leBytes r.toNat 16)
       (s.setTrig i t.storeLine.trim).modSash i fun x => { x with portUsed := true })

/-- The staged records of a chunk, each at its place in the DDR area; those of a damaged buffer line are skipped (R277, R284). -/
def State.chunkRecs (s : State) (i : Nat) : List (Nat × Rec16) :=
  let t := s.trig i
  ((t.stage.take 32).zipIdx.filter fun e => !s.padLineBad i (t.cfg.tbufFirst + e.1.1 / 2 % max 1 t.cfg.tbufLines)).map fun e =>
    (t.sent + e.2, e.1.2)

/-- TRIG_SPILL_CHUNK (R277): 32 staged records, pads behind them at a flush, go to the acquisition area as a WRITE worm. -/
def execTrigSpillChunk (sash : Fin 64) (s : State) : Out :=
  .next
    (let i := sash.val
     let t := s.trig i
     if t.cfg.spill = false ∨ t.stage = [] ∨ (s.sash i).portFree = false then s
     else
       let recs := s.chunkRecs i
       let bytes := (List.range 32).flatMap fun j => leBytes (match recs.find? (·.1 == t.sent + j) with | some e => e.2.toNat | none => 0) 16
       let s := s.newWorm i 1 8 (s.storePlace i t.sent) (BitVec.allOnes 64) ((List.range 8).map fun j => BitVec.ofNat 512 (fld bytes (64 * j) 64)) (.spill i)
       (s.setTrig i ({ t with stage := t.stage.drop 32, store := t.store ++ recs, sent := t.sent + 32 } : Trig).trim).modSash i fun x =>
         { x with portUsed := true })

/-- TOUT_PULSE_END (R279): the unit's pulse on the pin that has stood for TOUT_W steps ends; a merged pulse goes on while another stands. -/
def execToutPulseEnd (sash : Fin 64) (pin : Fin 4) (s : State) : Out :=
  .next { s with
    time :=
      { s.time with
        toutTrig := tmod [] s.time.toutTrig pin.val fun l =>
          l.filter fun e => e.1 != sash.val || decide (s.power.steps < e.2.2) } }

/-- POST_SLOTS_EXPIRY (R278): POST_SLOTS grid slots after the trigger the acquisition is DONE. -/
def execPostSlotsExpiry (sash : Fin 64) (s : State) : Out :=
  .next (if (s.trig sash.val).postOver (s.trig sash.val).slot then s.setTrig sash.val { s.trig sash.val with state := .done } else s)

end Sys2Proof.Machine
end

