-- ==== Sys2Proof/Machine/Dsp.lean ====
section
/-! DEFINITION. The instructions of a DSP core (R288 to R292), its dispatcher instructions (R297 to R301), and the dispatcher's own
events (R301, R303, R305). -/

namespace Sys2Proof.Machine

/-! ### Issuing an instruction -/

/-- The task that core `c` of casement `k` runs. -/
def State.onCore (s : State) (k c : Nat) : Option Nat := tget none (s.casm k).running c

/-- The task that core `c` of casement `k` issues an instruction of: none while the core is stalled on an ACCEL (R310). -/
def State.issuing (s : State) (k c : Nat) : Option Nat :=
  if (s.casm k).accStall.any (·.1 == c) then none else s.onCore k c

/-- Apply `f` `n` times. -/
def reps {α : Type} (f : α → α) : Nat → α → α
  | 0, x => x
  | n + 1, x => reps f n (f x)

/-- The instruction is over: PC moves on, a REP is spent, and its casement cycles count (R292, R305). -/
def State.issued (s : State) (k c n cycles : Nat) (r : CoreRegs) : State :=
  (s.setCore k c { r with pc := r.pc + 1, rep := 1 }).modTask n fun t => { t with used := t.used + cycles }

/-- The job of task `n` runs and stands inside a REP (R292). -/
def State.inRep (s : State) (n : Nat) : Bool :=
  match s.task n with
  | some t => (List.range 8).any fun c => s.onCore t.cas c == some n && (s.core t.cas c).rep != 1
  | none => false

/-- A stop that waited for the end of a REP takes effect (R292, R296). -/
def State.stopAtEnd (s : State) (n : Nat) : State :=
  match s.task n with
  | some t => if t.stopDue then (s.endTask n Code.ST_ABORTED).settleCas t.cas else s
  | none => s

/-- An instruction on registers alone, as often as a REP says (R289, R292). -/
def State.dspOp (s : State) (k c cycles : Nat) (f : CoreRegs → CoreRegs) : State :=
  match s.issuing k c with
  | none => s
  | some n =>
    let r := s.core k c
    (s.issued k c n (cycles * r.rep) (reps f r.rep r)).stopAtEnd n

/-! ### Memory (R286, R291) -/

/-- Lane or scalar registers. -/
def CoreRegs.vreg (r : CoreRegs) (i : Nat) : BitVec 256 := tget 0 r.v i
def CoreRegs.setV (r : CoreRegs) (i : Nat) (x : BitVec 256) : CoreRegs := { r with v := tset 0 r.v i x }
def CoreRegs.sreg (r : CoreRegs) (i : Nat) : Word := tget 0 r.s i
def CoreRegs.setS (r : CoreRegs) (i : Nat) (x : Word) : CoreRegs := { r with s := tset 0 r.s i x }
def CoreRegs.accr (r : CoreRegs) (i : Nat) : BitVec 40 := tget 0 r.acc i

/-- The first unit address from `a` on that a read of `n` bytes finds poisoned (R291, R307). -/
def State.firstBad (s : State) (a n : Nat) : Nat :=
  match (List.range ((a % 8 + n + 7) / 8)).find? fun i =>
      s.mem.wordValid (a / 8 + i) &&
        (s.mem.wordCheck (a / 8 + i) == some .uncorrectable || s.mem.wordCheck (a / 8 + i) == some .poison) with
  | some i => 8 * (a / 8 + i)
  | none => a

/-- Address generator `g` allows an access of `w` bytes with stride `d` (R291). -/
def CoreRegs.genOk (r : CoreRegs) (g w : Nat) (d : Int) : Bool :=
  let a := (tget 0 r.a g).toNat
  let b := (tget 0 r.b g).toNat
  let l := (tget 0 r.l g).toNat
  coreRange a w && (l == 0 || (b % w == 0 && l % w == 0 && decide (d.natAbs ≤ l) && decide (b ≤ a) && decide (a < b + l)))

/-- The address after an access: linear or circular (R291). -/
def CoreRegs.genNext (r : CoreRegs) (g : Nat) (d : Int) : BitVec 22 :=
  let a : Int := (tget 0 r.a g).toNat
  let b : Int := (tget 0 r.b g).toNat
  let l : Int := (tget 0 r.l g).toNat
  if l = 0 then BitVec.ofInt 22 (a + d) else BitVec.ofInt 22 (b + (a - b + d) % l)

/-- Accesses through generator `g`, as often as a REP says: `act` does one at a unit address. A bad address or a poisoned read ends
the job (R291, R307). -/
def State.dspMemReps (s : State) (k c n w g : Nat) (d : Int) (act : State → Nat → CoreRegs → CoreRegs × Bool × State) :
    Nat → CoreRegs → State
  | 0, r => (s.issued k c n r.rep r).stopAtEnd n
  | m + 1, r =>
    let a := (tget 0 r.a g).toNat
    if r.genOk g w d = false then s.faultTask n Code.TF_JOB_FAULT r.pc.toNat a
    else
      match act s (coreAddr k c a) r with
      | (_, true, s) => s.faultTask n Code.DI_POISON_READ r.pc.toNat (coreAddr k c a)
      | (q, false, s) => State.dspMemReps s k c n w g d act m { q with a := tset 0 q.a g (r.genNext g d) }

/-- A load or store of `w` bytes through generator `g` with stride `d` (R289, R291). -/
def State.dspMem (s : State) (k c w g : Nat) (d : Int) (act : State → Nat → CoreRegs → CoreRegs × Bool × State) : State :=
  match s.issuing k c with
  | none => s
  | some n => s.dspMemReps k c n w g d act (s.core k c).rep (s.core k c)

/-- DSP_VLD (R289). -/
def execDspVld (cas : Fin 12) (core : Fin 8) (v : Fin 8) (g : Fin 8) (d : Int) (s : State) : Out :=
  .next (s.dspMem cas.val core.val 32 g.val d fun s a r =>
    let (b, bad, s) := s.memRead a 32
    (r.setV v.val (BitVec.ofNat 256 (leNat b)), bad, s))

/-- DSP_VST (R289). -/
def execDspVst (cas : Fin 12) (core : Fin 8) (v : Fin 8) (g : Fin 8) (d : Int) (s : State) : Out :=
  .next (s.dspMem cas.val core.val 32 g.val d fun s a r => (r, false, s.memWrite a (leBytes (r.vreg v.val).toNat 32)))

/-- DSP_SLD (R289). -/
def execDspSld (cas : Fin 12) (core : Fin 8) (r : Fin 16) (g : Fin 8) (d : Int) (s : State) : Out :=
  .next (s.dspMem cas.val core.val 4 g.val d fun s a x =>
    let (b, bad, s) := s.memRead a 4
    (x.setS r.val (BitVec.ofNat 32 (leNat b)), bad, s))

/-- DSP_SST (R289). -/
def execDspSst (cas : Fin 12) (core : Fin 8) (r : Fin 16) (g : Fin 8) (d : Int) (s : State) : Out :=
  .next (s.dspMem cas.val core.val 4 g.val d fun s a x => (x, false, s.memWrite a (leBytes (x.sreg r.val).toNat 4)))

/-! ### Multiply and accumulate (R289, R290) -/

/-- Lane `i` of a vector, signed. -/
def vlane (x : BitVec 256) (i : Nat) : Int := sext (bits x.toNat (16 * i) 16) 16

/-- A vector from its lanes. -/
def vpack (f : Nat → Int) : BitVec 256 :=
  BitVec.ofNat 256 ((List.range 16).foldr (fun i a => a * 65536 + (BitVec.ofInt 16 (f i)).toNat) 0)

/-- Set the accumulators, saturated to 40 bits; OVF when one changes by it (R290). -/
def CoreRegs.setAccs (r : CoreRegs) (f : Nat → Int) : CoreRegs :=
  { r with
    acc := (List.range 16).foldl (fun t i => tset 0 t i (BitVec.ofInt 40 (satTo 40 (f i)))) r.acc
    ovf := r.ovf || (List.range 16).any fun i => satTo 40 (f i) != f i }

/-- DSP_MUL (R289). -/
def execDspMul (cas : Fin 12) (core : Fin 8) (x : Fin 8) (y : Fin 8) (s : State) : Out :=
  .next (s.dspOp cas.val core.val 1 fun r => r.setAccs fun i => vlane (r.vreg x.val) i * vlane (r.vreg y.val) i)

/-- DSP_MAC (R289, R290). -/
def execDspMac (cas : Fin 12) (core : Fin 8) (x : Fin 8) (y : Fin 8) (s : State) : Out :=
  .next (s.dspOp cas.val core.val 1 fun r =>
    r.setAccs fun i => (r.accr i).toInt + vlane (r.vreg x.val) i * vlane (r.vreg y.val) i)

/-- DSP_MSU (R289, R290). -/
def execDspMsu (cas : Fin 12) (core : Fin 8) (x : Fin 8) (y : Fin 8) (s : State) : Out :=
  .next (s.dspOp cas.val core.val 1 fun r =>
    r.setAccs fun i => (r.accr i).toInt - vlane (r.vreg x.val) i * vlane (r.vreg y.val) i)

/-- One lane of CMAC: the real part in even lanes, the imaginary part in odd ones (R289). -/
def cmacLane (x y : BitVec 256) (i : Nat) : Int :=
  let j := 2 * (i / 2)
  if i % 2 = 0 then vlane x j * vlane y j - vlane x (j + 1) * vlane y (j + 1)
  else vlane x j * vlane y (j + 1) + vlane x (j + 1) * vlane y j

/-- DSP_CMAC (R289, R290). -/
def execDspCmac (cas : Fin 12) (core : Fin 8) (x : Fin 8) (y : Fin 8) (s : State) : Out :=
  .next (s.dspOp cas.val core.val 2 fun r => r.setAccs fun i => (r.accr i).toInt + cmacLane (r.vreg x.val) (r.vreg y.val) i)

/-- An accumulator narrowed with shift `n`, before saturation (R290). -/
def narrow (n : Nat) (a : Int) : Int := if n = 0 then a else roundHalfUp a (2 ^ n : Nat)

/-- DSP_NARROW (R290). -/
def execDspNarrow (cas : Fin 12) (core : Fin 8) (v : Fin 8) (n : Fin 25) (s : State) : Out :=
  .next (s.dspOp cas.val core.val 1 fun r =>
    let x (i : Nat) : Int := narrow n.val (r.accr i).toInt
    (r.setV v.val (vpack fun i => satTo 16 (x i))).ovfIf ((List.range 16).any fun i => satTo 16 (x i) != x i))

/-! ### Vector and scalar ALU (R289) -/

/-- Shift amount of a lane: its unsigned value. -/
def vamount (x : BitVec 256) (i : Nat) : Nat := bits x.toNat (16 * i) 16

/-- A vector ALU result; `f` is an open vector for what R289 leaves open: VPERM, and shifts by 16 or more. -/
def vecAlu (op : VecOp) (a b f : BitVec 256) : BitVec 256 :=
  match op with
  | .vadd => vpack fun i => satTo 16 (vlane a i + vlane b i)
  | .vsub => vpack fun i => satTo 16 (vlane a i - vlane b i)
  | .vand => a &&& b
  | .vor => a ||| b
  | .vxor => a ^^^ b
  | .vshl => vpack fun i => if vamount b i < 16 then vlane a i * 2 ^ vamount b i else vlane f i
  | .vsar => vpack fun i => if vamount b i < 16 then vlane a i / 2 ^ vamount b i else vlane f i
  | .vperm => f

/-- DSP_VECTOR_ALU (R289). -/
def execDspVectorAlu (cas : Fin 12) (core : Fin 8) (op : VecOp) (vd va vb : Fin 8) (s : State) : Out :=
  .next
    (let f := free256 s.freeCtr
     ({ s with freeCtr := s.freeCtr + 2 } : State).dspOp cas.val core.val 1 fun r =>
       r.setV vd.val (vecAlu op (r.vreg va.val) (r.vreg vb.val) f))

/-- A scalar shift by `n`; shifts by 32 or more have the open value `f`. -/
def scalShift (op : ScalOp) (a : Word) (n : Nat) (f : Word) : Word :=
  if 32 ≤ n then f
  else match op with | .shl => a <<< n | .shr => a >>> n | _ => a.sshiftRight n

/-- One scalar ALU operation: ADD, SUB and CMP set Z and N (R289); CLRF clears OVF (R288; that it counts as one of this group is a DESIGN
CHOICE, log entry 94). -/
def CoreRegs.scalAlu (r : CoreRegs) (op : ScalOp) (rd : Nat) (a b f : Word) : CoreRegs :=
  match op with
  | .add => (r.setS rd (a + b)).zn (a + b)
  | .sub => (r.setS rd (a - b)).zn (a - b)
  | .cmp => r.zn (a - b)
  | .and => r.setS rd (a &&& b)
  | .or => r.setS rd (a ||| b)
  | .xor => r.setS rd (a ^^^ b)
  | .mov => r.setS rd b
  | .muls => r.setS rd (BitVec.ofInt 32 (a.toInt * b.toInt))
  | .shl | .shr | .sar => r.setS rd (scalShift op a b.toNat f)
  | .clrf => { r with ovf := false }

/-- DSP_SCALAR_ALU (R289). -/
def execDspScalarAlu (cas : Fin 12) (core : Fin 8) (op : ScalOp) (rd ra : Fin 16) (b : ScalArg) (s : State) : Out :=
  .next
    (let f := Config.freeWord s.freeCtr
     ({ s with freeCtr := s.freeCtr + 1 } : State).dspOp cas.val core.val (if op = .muls then 2 else 1) fun r =>
       r.scalAlu op rd.val (r.sreg ra.val) (r.arg b) f)

/-- DSP_SET_ADDRESS (R289): SETA, SETB, SETL. -/
def execDspSetAddress (cas : Fin 12) (core : Fin 8) (which : AddrReg) (g : Fin 8) (b : ScalArg) (s : State) : Out :=
  .next (s.dspOp cas.val core.val 1 fun r =>
    let x : BitVec 22 := (r.arg b).setWidth 22
    match which with
    | .a => { r with a := tset 0 r.a g.val x }
    | .b => { r with b := tset 0 r.b g.val x }
    | .l => { r with l := tset 0 r.l g.val x })

/-! ### Flow and time (R289, R292) -/

/-- The branch is taken. -/
def CoreRegs.taken (r : CoreRegs) (k : FlowOp) : Bool :=
  match k with | .brZ => r.z | .brNZ => !r.z | .brN => r.n | .brNN => !r.n | _ => true

/-- Where a taken branch, call or return goes; a return without a call goes to the open place `f`. -/
def CoreRegs.flow (r : CoreRegs) (k : FlowOp) (target f : BitVec 11) : CoreRegs :=
  match k with
  | .call => { r with pc := target, ret := (r.pc + 1) :: r.ret }
  | .ret => match r.ret with | p :: l => { r with pc := p, ret := l } | [] => { r with pc := f }
  | _ => { r with pc := target }

/-- DSP_BRANCH (R289): taken 2 cycles, otherwise 1. -/
def execDspBranch (cas : Fin 12) (core : Fin 8) (k : FlowOp) (target : BitVec 11) (s : State) : Out :=
  .next
    (match s.issuing cas.val core.val with
     | none => s
     | some n =>
       let r := s.core cas.val core.val
       if r.taken k then
         let (f, s) := s.drawFree
         let q := r.flow k target ((Config.freeWord f).setWidth 11)
         (s.setCore cas.val core.val { q with rep := 1 }).modTask n fun t => { t with used := t.used + 2 }
       else s.issued cas.val core.val n 1 r)

/-- DSP_REP (R292): n from 1 to 65,536. -/
def execDspRep (cas : Fin 12) (core : Fin 8) (n : Nat) (s : State) : Out :=
  .next
    (match s.issuing cas.val core.val with
     | none => s
     | some t =>
       if n = 0 ∨ 65536 < n then s
       else
         let r := s.core cas.val core.val
         (s.setCore cas.val core.val { r with pc := r.pc + 1, rep := n }).modTask t fun x => { x with used := x.used + 1 })

/-- DSP_TIME (R289): bits [63:0] of linear device time into s and s + 1. -/
def execDspTime (cas : Fin 12) (core : Fin 8) (r : Fin 16) (s : State) : Out :=
  .next (s.dspOp cas.val core.val 1 fun x =>
    let y := x.setS r.val (BitVec.ofNat 32 s.time.ns)
    if r.val + 1 < 16 then y.setS (r.val + 1) (BitVec.ofNat 32 (s.time.ns / 2 ^ 32)) else y)

/-! ### Dispatcher instructions (R297 to R301) -/

/-- The running task enters `st`; its instruction is over, and its core is free (R296). -/
def State.suspend (s : State) (k c n : Nat) (st : TaskState) : State :=
  ((s.issued k c n 4 (s.core k c)).leaveCore k c n).modTask n fun t => { t with state := st }

/-- A dispatcher instruction of the job on core `c`: `f` does it for its task, and the dispatcher settles. -/
def State.dspCall (s : State) (k c : Nat) (f : State → Nat → TaskCtx → State) : State :=
  match s.issuing k c with
  | none => s
  | some n => match s.task n with | some t => (f s n t).settleCas k | none => s

/-- DSP_WAIT (R297). -/
def execDspWait (cas : Fin 12) (core : Fin 8) (mask : BitVec 32) (andMode keep : Bool) (s : State) : Out :=
  .next (s.dspCall cas.val core.val fun s n t =>
    if waitOk mask andMode t.flagWord then (s.setTask n (some (t.observe mask keep))).issued cas.val core.val n 4 (s.core cas.val core.val)
    else s.suspend cas.val core.val n (.waitFlags mask andMode keep))

/-- DSP_SIGNAL (R297): flags of a task of the same casement. -/
def execDspSignal (cas : Fin 12) (core : Fin 8) (task : Nat) (mask : BitVec 32) (s : State) : Out :=
  .next (s.dspCall cas.val core.val fun s n _ =>
    let s := s.issued cas.val core.val n 4 (s.core cas.val core.val)
    if (s.task task).any (·.cas == cas.val) then s.setFlags task mask else s)

/-- DSP_ENQ (R299, R300): a full queue makes the producer wait. -/
def execDspEnq (cas : Fin 12) (core : Fin 8) (task : Nat) (item : BitVec 256) (s : State) : Out :=
  .next (s.dspCall cas.val core.val fun s n _ =>
    match (s.task task).filter (·.cas == cas.val) with
    | none => s.issued cas.val core.val n 4 (s.core cas.val core.val)
    | some t =>
      if t.room then (s.issued cas.val core.val n 4 (s.core cas.val core.val)).enqueue task item
      else s.suspend cas.val core.val n (.waitSlot task item))

/-- DSP_ENQN (R300): a full queue sets Z. -/
def execDspEnqn (cas : Fin 12) (core : Fin 8) (task : Nat) (item : BitVec 256) (s : State) : Out :=
  .next (s.dspCall cas.val core.val fun s n _ =>
    match (s.task task).filter (·.cas == cas.val) with
    | none => s.issued cas.val core.val n 4 (s.core cas.val core.val)
    | some t =>
      if t.room then (s.issued cas.val core.val n 4 (s.core cas.val core.val)).enqueue task item
      else s.issued cas.val core.val n 4 { s.core cas.val core.val with z := true })

/-- DSP_DEQ (R299): the item in service before is released; without an item to take the task waits. -/
def execDspDeq (cas : Fin 12) (core : Fin 8) (s : State) : Out :=
  .next (s.dspCall cas.val core.val fun s n t =>
    let s := s.setTask n (some { t with inService := none })
    match s.nextItem cas.val t.queue with
    | some i =>
      let s := s.takeItem n i
      s.issued cas.val core.val n 4 (s.core cas.val core.val)
    | none => s.suspend cas.val core.val n .waitItem)

/-- DSP_SLEEP (R301): DELAYED until the n-th tick boundary, n from 1 to 2^24 − 1. -/
def execDspSleep (cas : Fin 12) (core : Fin 8) (n : Nat) (s : State) : Out :=
  .next (s.dspCall cas.val core.val fun s m _ =>
    if n = 0 ∨ 2 ^ 24 ≤ n then s
    else
      (s.suspend cas.val core.val m (.delayed ((s.casm cas.val).tickAfter s.time.ns n))).modCasm cas.val fun c =>
        { c with delays := c.delays ++ [m] })

/-- DSP_SUBMIT (R294): a record of 72 bytes in casement memory. -/
def execDspSubmit (cas : Fin 12) (core : Fin 8) (a : BitVec 22) (s : State) : Out :=
  .next (s.dspCall cas.val core.val fun s n _ =>
    let r := s.core cas.val core.val
    if coreRange a.toNat 72 = false then s.faultTask n Code.TF_JOB_FAULT r.pc.toNat a.toNat
    else
      match s.memRead (coreAddr cas.val core.val a.toNat) 72 with
      | (_, true, s) => s.faultTask n Code.DI_POISON_READ r.pc.toNat (s.firstBad (coreAddr cas.val core.val a.toNat) 72)
      | (b, false, s) => ((s.issued cas.val core.val n 4 r).submit cas.val b false).2.2.2)

/-- DSP_DONE (R296). -/
def execDspDone (cas : Fin 12) (core : Fin 8) (s : State) : Out :=
  .next (s.dspCall cas.val core.val fun s n _ => (s.modTask n fun t => { t with used := t.used + 4 }).endTask n Code.ST_OK)

/-! ### Transfers (R289, R307) -/

/-- The line of casement memory at `off` of a transfer goes out; a poisoned one is not sent (R289, R307). -/
def State.xferSend (s : State) (k : Nat) (x : XferPend) (off : Nat) : State :=
  let ca := coreAddr k x.core x.casAddr + off
  match s.memRead ca 64 with
  | (_, true, s) =>
    s.modCasm k fun c =>
      { c with xfers := match c.xfers with
        | x :: rest => { x with left := x.left - 1, bad := x.bad.or (some (Code.DI_POISON_READ, s.firstBad ca 64)) } :: rest
        | [] => [] }
  | (b, false, s) =>
    s.newWorm (64 + k) 1 1 (x.unitAddr + off) (BitVec.allOnes 64) [BitVec.ofNat 512 (leNat b)] (.xfer k off)

/-- The oldest transfer begins: a request for each of its lines from the casement's stop, when its addresses lie in the core's memory
(R22, R289, R307; one worm for a line: DESIGN CHOICE, log entry 79). -/
def State.xferIssue (s : State) (k : Nat) : State :=
  match (s.casm k).xfers with
  | [] => s
  | x :: rest =>
    if x.sent then s
    else
      let ok := coreRange x.casAddr (64 * x.lines)
      let x := { x with
        sent := true
        left := if ok then x.lines else 0
        bad := if ok || x.lines == 0 then none else some (Code.TF_JOB_FAULT, x.casAddr) }
      let s := s.modCasm k fun c => { c with xfers := x :: rest }
      (List.range x.left).foldl
        (fun s j =>
          if x.toUnit then s.xferSend k x (64 * j)
          else s.newWorm (64 + k) 0 1 (x.unitAddr + 64 * j) (BitVec.allOnes 64) [] (.xfer k (64 * j))) s

/-- DSP_XFER (R289): a descriptor joins the transfer engine's queue. -/
def execDspXfer (cas : Fin 12) (core : Fin 8) (x : XferDesc) (s : State) : Out :=
  .next (s.dspCall cas.val core.val fun s n _ =>
    let p : XferPend :=
      { toUnit := x.toUnit
        casAddr := x.casAddr.toNat
        unitAddr := x.unitAddr.toNat
        lines := x.lines
        task := x.task
        flag := x.flag.val
        poster := n
        core := core.val
        sent := false
        left := 0
        bad := none }
    ((s.issued cas.val core.val n 4 (s.core cas.val core.val)).modCasm cas.val fun c => { c with xfers := c.xfers ++ [p] }).xferIssue
      cas.val)

/-- PC of the job that posted a transfer, for its fault. -/
def State.posterPc (s : State) (k n : Nat) : Nat :=
  match s.task n with | some t => (match t.state with | .running c => (s.core k c).pc.toNat | _ => t.regs.pc.toNat) | none => 0

/-- XFER_COMPLETE (R289, R297, R307): every line of the oldest transfer has been answered: its flag is set, or after a refused request or
a poisoned read the posting job ends; the next transfer begins. -/
def execXferComplete (cas : Fin 12) (s : State) : Out :=
  .next
    (let k := cas.val
     match (s.casm k).xfers with
     | [] => s
     | x :: rest =>
       if x.sent = false ∨ x.left ≠ 0 then s
       else
         let s := s.modCasm k fun c => { c with xfers := rest }
         let s :=
           match x.bad with
           | some (code, a) => s.faultTask x.poster code (s.posterPc k x.poster) a
           | none => (s.setFlags x.task (BitVec.ofNat 32 (2 ^ x.flag))).settleCas k
         s.xferIssue k)

/-! ### The dispatcher's events (R301, R303, R305) -/

/-- TICK_BOUNDARY (R301): delays that have expired end in the order in which they began, and TIMER is set. -/
def execTickBoundary (cas : Fin 12) (s : State) : Out :=
  .next
    (let k := cas.val
     let due := (s.casm k).delays.filter fun n =>
       match s.task n with | some t => (match t.state with | .delayed u => decide (u ≤ s.time.ns) | _ => false) | none => false
     (due.foldl (fun s n => (s.modTask n fun t => { t with flags := t.flags ||| 0x20000000 }).makeReady n false) s).settleCas k)

/-- The lowest-ranked running task among the cores that READY task `t` may preempt, the lowest core among equals (R303). -/
def State.victim (s : State) (t : TaskCtx) : Option Nat :=
  ((List.range 8).foldl
    (fun best c =>
      match s.onCore t.cas c with
      | none => best
      | some m =>
        match s.task m with
        | none => best
        | some u =>
          if t.outranks u && (if t.deadlineClass then t.pinned == some c else getBit t.cores c) then
            match best with
            | some (_, w) => if w.outranks u then some (c, u) else best
            | none => some (c, u)
          else best)
    (none : Option (Nat × TaskCtx))).map (·.1)

/-- JOB_PREEMPT (R302, R303): READY task `task` takes core `core`, outside a REP; the preempted job goes to the head of its level. -/
def execJobPreempt (cas : Fin 12) (core : Fin 8) (task : Nat) (s : State) : Out :=
  .next
    (match s.task task, s.issuing cas.val core.val with
     | some t, some m =>
       if t.cas = cas.val ∧ s.mayRun core.val t = true ∧ s.victim t = some core.val ∧ (s.core cas.val core.val).rep = 1 then
         (((s.leaveCore cas.val core.val m).makeReady m true).runTask cas.val core.val task).settleCas cas.val
       else s
     | _, _ => s)

/-- BUDGET_STOP (R305): a DEADLINE job that has used its budget ends with TF_JOB_OVERRUN. -/
def execBudgetStop (cas : Fin 12) (core : Fin 8) (s : State) : Out :=
  .next
    (match s.onCore cas.val core.val with
     | none => s
     | some n =>
       match s.task n with
       | some t =>
         if t.deadlineClass = true ∧ t.budget ≤ t.used ∧ (s.core cas.val core.val).rep = 1 then (s.endTask n Code.TF_JOB_OVERRUN).settleCas cas.val
         else s
       | none => s)

end Sys2Proof.Machine
end

