-- ==== Sys2Proof/Machine/Accel.lean ====
section
/-! DEFINITION. The waveform accelerators (R308 to R316, R324, R327, R329): posting a descriptor, serving the head of each
function's queue, and completion. -/

namespace Sys2Proof.Machine

/-! ### Descriptors and queues (R308 to R310) -/

/-- Key of a function's queue. -/
def unitNo : AccelUnit → Nat
  | .fft => 0 | .encoder => 1 | .decoder => 2 | .mapper => 3 | .rebuilder => 4 | .burst => 5 | .psrel => 6 | .gain => 7

/-- The function that serves a KIND (R308). -/
def kindUnit : Nat → Option AccelUnit
  | 1 => some .fft | 2 => some .encoder | 3 => some .decoder | 4 => some .mapper | 5 => some .mapper | 6 => some .mapper
  | 7 => some .rebuilder | 8 => some .rebuilder | 9 => some .burst | 0xA => some .psrel | 0xB => some .gain | _ => none

/-- The field of `n` bytes at offset `o` of a descriptor. -/
def AccelDesc.n (d : AccelDesc) (o n : Nat) : Nat := fld d.bytes o n
def AccelDesc.kind (d : AccelDesc) : Nat := d.n 0 1
def AccelDesc.srclen (d : AccelDesc) : Nat := d.n 0x0C 4
def AccelDesc.dstlen (d : AccelDesc) : Nat := d.n 0x14 4

/-- `n` bytes at address `a` lie wholly in shared memory (R286, R309). -/
def inShared (a n : Nat) : Bool := n == 0 || (decide (0x200000 ≤ a) && decide (a + n ≤ 0x400000))

/-- Queue of function `u`. -/
def Casement.queueOf (c : Casement) (u : AccelUnit) : List AccelDesc := tget [] c.accq (unitNo u)
def Casement.setQueue (c : Casement) (u : AccelUnit) (l : List AccelDesc) : Casement := { c with accq := tset [] c.accq (unitNo u) l }

/-- A descriptor's form allows it to be queued: KIND, reserved fields, TASK and address ranges (R309). -/
def State.accelOk (s : State) (k : Nat) (b : List Byte) : Bool :=
  (kindUnit (fld b 0 1)).isSome && decide (bits (fld b 1 1) 6 2 = 0) && decide (bits (fld b 1 1) 0 5 ≤ 27) &&
    decide (fld b 2 2 < 4096) && (s.task (fld b 2 2)).any (·.cas == k) && decide (fld b 0x1C 4 = 0) &&
    inShared (fld b 8 4) (fld b 0x0C 4) && inShared (fld b 0x10 4) (fld b 0x14 4)

/-- Post the descriptor at core address `a` of core `c`, for task `n`: a fault, a stall on a full queue, or an entry (R309, R310). -/
def State.accelPost (s : State) (k c n a : Nat) : State :=
  let r := s.core k c
  if coreRange a 64 = false then s.faultTask n Code.TF_JOB_FAULT r.pc.toNat a
  else
    let ua := coreAddr k c a
    match s.memRead ua 64 with
    | (_, true, s) => s.faultTask n Code.DI_POISON_READ r.pc.toNat (s.firstBad ua 64)
    | (b, false, s) =>
      match kindUnit (fld b 0 1), s.accelOk k b with
      | some u, true =>
        let q := (s.casm k).queueOf u
        if 32 ≤ q.length then
          s.modCasm k fun x => { x with accStall := if x.accStall.any (·.1 == c) then x.accStall else x.accStall ++ [(c, a)] }
        else
          let d : AccelDesc := { addr := a, bytes := b, task := n, core := c, result := none, asked := false, late := false }
          (s.issued k c n 4 r).modCasm k fun x =>
            ({ x with accStall := x.accStall.filter (·.1 != c) } : Casement).setQueue u (q ++ [d])
      | _, _ => s.faultTask n Code.TF_JOB_FAULT r.pc.toNat a

/-- DSP_ACCEL (R308 to R310). -/
def execDspAccel (cas : Fin 12) (core : Fin 8) (a : BitVec 22) (s : State) : Out :=
  .next (s.dspCall cas.val core.val fun s n _ => s.accelPost cas.val core.val n a.toNat)

/-- STATUS values of R308. -/
def accOk : BitVec 32 := 0
def accBad : BitVec 32 := 2
def accStale : BitVec 32 := 3
/-- SATURATED with its count, or OK (R308). -/
def accSat (n : Nat) : BitVec 32 := if n = 0 then accOk else BitVec.ofNat 32 (1 + 256 * min n 0xFFFFFF)

/-- PARAM bytes outside the listed ranges are zero (R308). -/
def AccelDesc.paramClean (d : AccelDesc) (cov : List (Nat × Nat)) : Bool :=
  (List.range 32).all fun i => covered cov (0x20 + i) || d.bytes.getD (0x20 + i) 0 == 0

/-- The descriptor of `u` on casement `k` that is to be served next: the oldest unserved one, one at a time; a SWAP that waits
for its boundary does not hold its queue (R310, R316). -/
def State.toServe (s : State) (k : Nat) (u : AccelUnit) : Option AccelDesc :=
  let c := s.casm k
  if c.accHeld.any (·.1 == unitNo u) then none
  else match (c.queueOf u).find? (fun d => !d.asked) with
    | some d => if d.result.isNone then some d else none
    | none => none

/-- Replace the first entry of a list that is `d`. -/
def replaceFirst {α : Type} [DecidableEq α] (d e : α) : List α → List α
  | [] => []
  | x :: l => if x = d then e :: l else x :: replaceFirst d e l

/-- Note what a function has done with descriptor `d`. -/
def State.served (s : State) (k : Nat) (u : AccelUnit) (d : AccelDesc) (st : BitVec 32) : State :=
  s.modCasm k fun c => c.setQueue u (replaceFirst d { d with result := some st } (c.queueOf u))

/-- What a function makes of its input: BAD_PARAM, or a status and an output. -/
abbrev Served := Option (BitVec 32 × List Byte)

/-- Serve the next descriptor of KIND `kind`: `f` makes the output from the input read. A poisoned read ends the posting job, and
the descriptor completes with no output and an open STATUS (R309). -/
def State.accelServe (s : State) (k : Nat) (u : AccelUnit) (kind : Nat) (f : State → AccelDesc → List Byte → Served) : State :=
  match s.toServe k u with
  | none => s
  | some d =>
    if d.kind ≠ kind then s
    else
      let a := casAddr k (d.n 8 4)
      match s.memRead a d.srclen with
      | (_, true, s) =>
        let (x, s) := s.drawFree
        (s.served k u d (Config.freeWord x)).faultTask d.task Code.DI_POISON_READ (s.posterPc k d.task) (s.firstBad a d.srclen)
      | (b, false, s) =>
        match f s d b with
        | none => s.served k u d accBad
        | some (st, out) => (s.memWrite (casAddr k (d.n 0x10 4)) out).served k u d st

/-! ### FFT (R311) -/

/-- The parameters keep the FFT's rules. -/
def AccelDesc.fftOk (d : AccelDesc) : Bool :=
  let l := d.n 0x20 1
  let n := 2 ^ l
  let cp := d.n 0x22 2
  let sc := d.n 0x24 4
  let inv := bit (d.n 0x21 1) 0
  decide (6 ≤ l) && decide (l ≤ 13) && decide (d.n 0x21 1 ≤ 1) && decide (cp ≤ n / 4) && decide (sc < 4 ^ l) &&
    (List.range l).all (fun i => bits sc (2 * i) 2 != 3) && d.paramClean [(0x20, 8)] &&
    (if inv then d.srclen == 4 * n && decide (4 * (n + cp) ≤ d.dstlen) else d.srclen == 4 * (n + cp) && decide (4 * n ≤ d.dstlen))

/-- Output of a transform: its points, and ahead of an inverse block its last CPLEN points (R311). -/
def AccelDesc.fftOut (d : AccelDesc) (b : List Byte) : List Byte :=
  let cp := d.n 0x22 2
  let inv := bit (d.n 0x21 1) 0
  let par := bytesAt d.bytes 0x20 8
  let x := if inv then b else b.drop (4 * cp)
  let out := (List.range (2 ^ d.n 0x20 1)).flatMap fun i => leBytes (Config.fftPoint par x i).toNat 4
  if inv then out.drop (out.length - 4 * cp) ++ out else out

/-- ACCEL_FFT (R311). -/
def execAccelFft (cas : Fin 12) (s : State) : Out :=
  .next (s.accelServe cas.val .fft 1 fun _ d b =>
    if d.fftOk then
      some (accSat (Config.fftSats (bytesAt d.bytes 0x20 8) (if bit (d.n 0x21 1) 0 then b else b.drop (4 * d.n 0x22 2))).toNat, d.fftOut b)
    else none)

/-! ### Encoder and decoder (R312, R313) -/

/-- The code parameters keep their rules (R312). -/
def AccelDesc.codeOk (d : AccelDesc) : Bool :=
  let kk := d.n 0x20 1
  let r := d.n 0x21 1
  (kk == 7 || kk == 9) && (r == 2 || r == 3) && (List.range 3).all (fun i => decide (d.n (0x22 + 2 * i) 2 < 2 ^ kk)) &&
    (r == 3 || d.n 0x26 2 == 0) && decide (1 ≤ d.n 0x28 1) && decide (d.n 0x28 1 ≤ 16) && decide (d.n 0x29 1 < 4) &&
    d.paramClean [(0x20, 10), (0x30, 6)]

/-- Parity of the bits of `x` below bit `n`. -/
def parity (x : Nat) : Nat → Bool
  | 0 => false
  | n + 1 => xor (x.testBit n) (parity x n)

/-- Code bit `r` of a step whose current and delayed inputs are `w`, current in bit 0 (R312). -/
def AccelDesc.codeBit (d : AccelDesc) (w r : Nat) : Bool := parity (w &&& d.n (0x22 + 2 * r) 2) 16

/-- Code bits of stage `t` that the puncture mask keeps, in order (R312). -/
def AccelDesc.kept (d : AccelDesc) (t : Nat) : List Nat :=
  let r := d.n 0x21 1
  (List.range r).filter fun i => bit (d.n 0x30 6) (t % d.n 0x28 1 * r + i)

/-- Tail-biting. -/
def AccelDesc.tb (d : AccelDesc) : Bool := bit (d.n 0x29 1) 0

/-- Encode input bits from stage `t` and shift state `w`, whose bit i is the input delayed by i + 1 (R312). -/
def AccelDesc.encodeBits (d : AccelDesc) : Nat → Nat → List Bool → List Bool
  | _, _, [] => []
  | t, w, u :: us =>
    let x := (2 * w + b2n u) % 2 ^ d.n 0x20 1
    (d.kept t).map (d.codeBit x) ++ d.encodeBits (t + 1) (x % 2 ^ (d.n 0x20 1 - 1)) us

/-- Bits of a byte string, bit 0 of the first byte first. -/
def byteBits (b : List Byte) : List Bool := b.flatMap fun x => bitsLow x.toNat 8

/-- A bit list as a number, first bit lowest. -/
def bitsNat : List Bool → Nat
  | [] => 0
  | b :: l => b2n b + 2 * bitsNat l

/-- Pack bits into bytes, first bit in bit 0 of the first byte. -/
def packBits (l : List Bool) : List Byte := leBytes (bitsNat l) ((l.length + 7) / 8)

/-- The encoder's output bits for input bits (R312). -/
def AccelDesc.encoded (d : AccelDesc) (u : List Bool) : List Bool :=
  let m := d.n 0x20 1 - 1
  if d.tb then d.encodeBits 0 (bitsNat (u.drop (u.length - m)).reverse) u
  else d.encodeBits 0 0 (u ++ List.replicate m false)

/-- ACCEL_ENCODE (R312). -/
def execAccelEncode (cas : Fin 12) (s : State) : Out :=
  .next (s.accelServe cas.val .encoder 2 fun _ d b =>
    if d.codeOk then
      let out := packBits (d.encoded (byteBits b))
      if out.length ≤ d.dstlen then some (accOk, out) else none
    else none)

/-- Soft value `i`: 4 bits, low nibble first (R313). -/
def softAt (b : List Byte) (i : Nat) : Int := sext (bits (b.getD (i / 2) 0).toNat (4 * (i % 2)) 4) 4

/-- A survivor: its metric, and its inputs so far, newest in bit 0. -/
abbrev Survivor := Option (Int × Nat)

/-- Metric a branch with step word `x` gains from soft values from index `i` on, at stage `t` (R313). -/
def AccelDesc.branch (d : AccelDesc) (b : List Byte) (t i x : Nat) : Int :=
  ((d.kept t).zipIdx.map fun e => if d.codeBit x e.1 then softAt b (i + e.2) else -softAt b (i + e.2)).sum

/-- The larger of two paths into a state, the lower-numbered predecessor's on equal metrics (R313). -/
def better : Survivor → Survivor → Survivor
  | none, q => q
  | p, none => p
  | some p, some q => if p.1 < q.1 then some q else some p

/-- One trellis stage: state n is reached from n ÷ 2 and n ÷ 2 + 2^(K − 2) by input n mod 2 (R313). -/
def AccelDesc.stage (d : AccelDesc) (b : List Byte) (t i : Nat) (l : List Survivor) : List Survivor :=
  let m := d.n 0x20 1 - 1
  let step (n p : Nat) : Survivor := ((l[p]?).getD none).map fun e => (e.1 + d.branch b t i (2 * p + n % 2), 2 * e.2 + n % 2)
  (List.range (2 ^ m)).map fun n => better (step n (n / 2)) (step n (n / 2 + 2 ^ (m - 1)))

/-- The bit of stage `t` on which all survivors after `τ` stages agree. -/
def agreed (l : List Survivor) (τ t : Nat) : Option Bool :=
  match l.filterMap fun e => e.map fun p => p.2.testBit (τ - 1 - t) with
  | [] => none
  | b :: bs => if bs.all (· == b) then some b else none

/-- `n` stages from stage `t` and soft index `i`. Stage t − L is decided once L further stages are traced back; the bits
decided, oldest first, and the survivors. -/
def AccelDesc.stages (d : AccelDesc) (b : List Byte) (tb : Nat) : Nat → Nat → Nat → List Survivor → List (Option Bool) × List Survivor
  | 0, _, _, l => ([], l)
  | n + 1, t, i, l =>
    let l := d.stage b t i l
    let (ds, e) := d.stages b tb n (t + 1) (i + (d.kept t).length) l
    (if tb ≤ t then agreed l (t + 1) (t - tb) :: ds else ds, e)

/-- Kept code bits of `n` stages from stage `t`. -/
def AccelDesc.keptSum (d : AccelDesc) : Nat → Nat → Nat
  | 0, _ => 0
  | n + 1, t => (d.kept t).length + d.keptSum n (t + 1)

/-- The largest number of output bytes up to `m` whose stages the soft values cover. -/
def AccelDesc.outBytes (d : AccelDesc) : Nat → Nat
  | 0 => 0
  | m + 1 =>
    if d.keptSum (8 * (m + 1) + (if d.tb then 0 else d.n 0x20 1 - 1)) 0 ≤ 2 * d.srclen then m + 1 else d.outBytes m

/-- The decoded bits: an open value where the survivors disagree (R313). -/
def AccelDesc.decoded (d : AccelDesc) (b : List Byte) (m : Nat) : List Bool :=
  let tb := if bit (d.n 0x29 1) 1 then 128 else 96
  let k := d.n 0x20 1 - 1
  let n := 8 * m + (if d.tb then 0 else k)
  let equal : List Survivor := List.replicate (2 ^ k) (some (0, 0))
  let start : List Survivor :=
    if d.tb then (d.stages b tb n 0 0 equal).2.map fun e => e.map fun p => (p.1, 0)
    else some (0, 0) :: List.replicate (2 ^ k - 1) none
  let (ds, e) := d.stages b tb n 0 0 start
  let e := if d.tb then e else [(e[0]?).getD none]
  let rest := (List.range (n - ds.length)).map fun i => agreed e n (ds.length + i)
  ((ds ++ rest).take (8 * m)).zipIdx.map fun x => x.1.getD (Config.decodeTie (bytesAt d.bytes 0x20 32) b x.2)

/-- ACCEL_DECODE (R313). -/
def execAccelDecode (cas : Fin 12) (s : State) : Out :=
  .next (s.accelServe cas.val .decoder 3 fun _ d b =>
    if d.codeOk then some (accOk, packBits (d.decoded b (d.outBytes d.dstlen))) else none)

/-! ### The mapper (R314, R315) -/

/-- Bits and gain of entry `i` of a bit table (R314). -/
def entryBits (e : BitVec 16) : Nat := bits e.toNat 0 4
def entryGain (e : BitVec 16) : Nat := bits e.toNat 4 12

def LoadCtx.active (c : LoadCtx) : Tab (BitVec 16) := if c.active1 then c.bits1 else c.bits0
def LoadCtx.inactive (c : LoadCtx) : Tab (BitVec 16) := if c.active1 then c.bits0 else c.bits1

/-- Loading context `x` of casement `k`. -/
def Casement.ctxAt (c : Casement) (x : Nat) : LoadCtx := tget {} c.ctx x
def Casement.setCtx (c : Casement) (x : Nat) (v : LoadCtx) : Casement := { c with ctx := tset {} c.ctx x v }

/-- Amplitude of level `m` of 2^n levels (R314). -/
def levelAmp (n m : Nat) : Int := 2 * (m : Int) + 1 - (2 ^ n : Nat)

/-- The level that `n` Gray-coded bits `g` select. -/
def grayLevel (n g : Nat) : Nat := (List.range n).foldl (fun m i => m ^^^ (g >>> (i + 1))) g % 2 ^ n

/-- Gray code of level `m`. -/
def levelGray (m : Nat) : Nat := m ^^^ (m >>> 1)

/-- SCALE[b] × GAIN of an entry, with 10 fraction bits (R314). -/
def LoadCtx.unit (c : LoadCtx) (e : BitVec 16) : Nat := (tget 0 c.scale (entryBits e)).toNat * entryGain e

/-- A coordinate of a point before saturation (R314). -/
def coordOf (sg n m : Nat) : Int := roundHalfUp (levelAmp n m * sg) 1024

/-- Levels on I and Q of `b` bits per subcarrier (R314). -/
def iBits (b : Nat) : Nat := (b + 1) / 2
def qBits (b : Nat) : Nat := b / 2

/-- The point of an entry for the bits `g`: I and Q before saturation (R314). -/
def LoadCtx.point (c : LoadCtx) (e : BitVec 16) (g : Nat) : Int × Int :=
  let b := entryBits e
  if b = 0 then (0, 0)
  else
    let ni := iBits b
    let nq := qBits b
    (coordOf (c.unit e) ni (grayLevel ni (g % 2 ^ ni)), if nq = 0 then 0 else coordOf (c.unit e) nq (grayLevel nq (g / 2 ^ ni)))

/-- Entries of the active table, in ascending order. -/
def LoadCtx.entries (c : LoadCtx) : List (BitVec 16) := tslice 0 c.active 0 c.nsc

/-- Number of bits one symbol carries. -/
def bitSum (l : List (BitVec 16)) : Nat := (l.map entryBits).sum

/-- Points of a symbol whose bits are `x`, lowest first (R314, R315). -/
def LoadCtx.points (c : LoadCtx) : Nat → List (BitVec 16) → List (Int × Int)
  | _, [] => []
  | x, e :: l => c.point e (x % 2 ^ entryBits e) :: c.points (x / 2 ^ entryBits e) l

/-- A point as it is written: I then Q, saturated (R311, R314). -/
def pointBytes (p : Int × Int) : List Byte :=
  leBytes (BitVec.ofInt 16 (satTo 16 p.1)).toNat 2 ++ leBytes (BitVec.ofInt 16 (satTo 16 p.2)).toNat 2

/-- Coordinates of a point that saturate. -/
def pointSats (p : Int × Int) : Nat := b2n (satTo 16 p.1 != p.1) + b2n (satTo 16 p.2 != p.2)

/-- Coordinate `j` of the points of a buffer. -/
def coordAt (b : List Byte) (j : Nat) : Int := sext (fld b (2 * j) 2) 16

/-- A symbol boundary of context `x`: a pending SWAP happens when the inactive copy is complete, else it is stale (R160, R316). -/
def State.boundary (s : State) (k x : Nat) : State :=
  s.modCasm k fun c =>
    let v := c.ctxAt x
    let mine (d : AccelDesc) : Bool := d.asked && d.result.isNone && d.n 0x20 1 == x
    if v.swap = false then c
    else if v.complete then
      (c.setCtx x { v with active1 := !v.active1, swap := false }).setQueue .rebuilder
        ((c.queueOf .rebuilder).map fun d =>
          if mine d then { d with result := some (if d.late then accStale else accOk) } else d)
    else
      (c.setCtx x { v with stale := v.stale + 1 }).setQueue .rebuilder
        ((c.queueOf .rebuilder).map fun d => if mine d then { d with late := true } else d)

/-- Serve a mapper descriptor of KIND `kind`: its start is a symbol boundary of the context it names (R315, R316). -/
def State.serveMapper (s : State) (k kind : Nat) (f : State → LoadCtx → AccelDesc → List Byte → Served) : State :=
  match s.toServe k .mapper with
  | none => s
  | some d =>
    if d.kind ≠ kind then s
    else
      let x := d.n 0x20 1
      let s := if x < 8 then s.boundary k x else s
      s.accelServe k .mapper kind fun s d b =>
        let c := (s.casm k).ctxAt x
        if x < 8 ∧ c.nsc ≠ 0 then f s c d b else none

/-- ACCEL_MODULATE (R314, R315). -/
def execAccelModulate (cas : Fin 12) (s : State) : Out :=
  .next (s.serveMapper cas.val 4 fun _ c d b =>
    let es := c.entries
    if d.paramClean [(0x20, 1)] = false ∨ 8 * d.srclen < bitSum es ∨ d.dstlen < 4 * c.nsc then none
    else
      let ps := c.points (leNat b) es
      some (accSat (ps.map pointSats).sum, ps.flatMap pointBytes))

/-- The decision boundaries of Gray bit `j` of `n`, in amplitudes: between the levels where the bit changes. -/
def boundaries (n j : Nat) : List Int :=
  ((List.range (2 ^ n)).filter fun m => decide (1 ≤ m) && (levelGray m).testBit j != (levelGray (m - 1)).testBit j).map fun m =>
    2 * (m : Int) - (2 ^ n : Nat)

/-- Signed distance of coordinate `y` from the nearest boundary of Gray bit `j`, times 1,024: positive where the bit is 1, which is
above an odd number of its boundaries (R315). -/
def gapOf (sg n j : Nat) (y : Int) : Int :=
  let gaps := (boundaries n j).map fun bd => y * 1024 - bd * sg
  let near := gaps.foldl (fun g h => if h.natAbs < g.natAbs then h else g) (gaps.headD 0)
  if gaps.countP (fun g => decide (0 ≤ g)) % 2 = 1 then (near.natAbs : Int) else -(near.natAbs : Int)

/-- The soft value of Gray bit `j` of `n` at coordinate `y` (R315). -/
def softOf (sg n j softq : Nat) (y : Int) : Int := clampInt (-8) 7 (roundHalfUp (gapOf sg n j y * softq) (256 * sg))

/-- Soft values of a subcarrier whose point has coordinates `yi` and `yq`; without a unit of distance they are open, from `f` on. -/
def LoadCtx.softs (c : LoadCtx) (e : BitVec 16) (softq f : Nat) (yi yq : Int) : List Nat :=
  let b := entryBits e
  let sg := c.unit e
  (List.range b).map fun j =>
    if sg = 0 then bits (Config.freeWord (f + j)).toNat 0 4
    else
      let v := if j < iBits b then softOf sg (iBits b) j softq yi else softOf sg (qBits b) (j - iBits b) softq yq
      (BitVec.ofInt 4 v).toNat

/-- Pack 4-bit values, low nibble first. -/
def packNibbles : List Nat → List Byte
  | [] => []
  | [a] => [BitVec.ofNat 8 (a % 16)]
  | a :: b :: l => BitVec.ofNat 8 (a % 16 + 16 * (b % 16)) :: packNibbles l

/-- ACCEL_DEMAP (R315). -/
def execAccelDemap (cas : Fin 12) (s : State) : Out :=
  let f := s.freeCtr
  .next (({ s with freeCtr := f + 65536 } : State).serveMapper cas.val 5 fun _ c d b =>
    let es := c.entries
    if d.paramClean [(0x20, 1), (0x22, 2)] = false ∨ d.srclen < 4 * c.nsc ∨ d.dstlen < (bitSum es + 1) / 2 then none
    else
      some (accOk, packNibbles (es.zipIdx.flatMap fun e =>
        c.softs e.1 (d.n 0x22 2) (f + 16 * e.2) (coordAt b (2 * e.2)) (coordAt b (2 * e.2 + 1)))))

/-- Squared distance of `y` to the nearest of 2^n levels (R315). -/
def nearestErr (sg n : Nat) (y : Int) : Nat :=
  let es := (List.range (2 ^ n)).map fun m => ((y - satTo 16 (coordOf sg n m)) ^ 2).natAbs
  es.foldl min (es.headD 0)

/-- 40 × log10(a ÷ b) rounded half up and limited to −512 … 511, for a and b not zero: the largest v with
10^(2v − 1) × b^80 ≤ a^80 (R315). -/
def quarterDb (a b : Nat) : Int :=
  let ok (v : Int) : Bool :=
    let e := 2 * v - 1
    if 0 ≤ e then decide (10 ^ e.toNat * b ^ 80 ≤ a ^ 80) else decide (b ^ 80 ≤ a ^ 80 * 10 ^ (-e).toNat)
  (((List.range 1023).countP fun i => ok ((i : Int) - 511) : Nat) : Int) - 512

/-- SNR of a subcarrier over its points; the logarithm of zero is open (R315). -/
def LoadCtx.snr (c : LoadCtx) (e : BitVec 16) (ys : List (Int × Int)) (open_ : Word) : Int :=
  let b := entryBits e
  let a := (ys.map fun y => (y.1 ^ 2 + y.2 ^ 2).natAbs).sum
  let n := (ys.map fun y => nearestErr (c.unit e) (iBits b) y.1 + (if qBits b = 0 then (y.2 ^ 2).natAbs else nearestErr (c.unit e) (qBits b) y.2)).sum
  if b = 0 ∨ n = 0 then 511
  else if a = 0 then sext open_.toNat 16
  else quarterDb a n

/-- ACCEL_NMEAS (R315). -/
def execAccelNmeas (cas : Fin 12) (s : State) : Out :=
  let f := s.freeCtr
  .next (({ s with freeCtr := f + 4096 } : State).serveMapper cas.val 6 fun _ c d b =>
    let ns := d.n 0x24 2
    if d.paramClean [(0x20, 1), (0x24, 2)] = false ∨ ns = 0 ∨ 1024 < ns ∨ d.srclen < 4 * c.nsc * ns ∨ d.dstlen < 2 * c.nsc then none
    else
      some (accOk, c.entries.zipIdx.flatMap fun e =>
        let ys := (List.range ns).map fun i => (coordAt b (2 * (i * c.nsc + e.2)), coordAt b (2 * (i * c.nsc + e.2) + 1))
        leBytes (BitVec.ofInt 16 (c.snr e.1 ys (Config.freeWord (f + e.2)))).toNat 2))

/-! ### The rebuilder (R316) -/

/-- BITS for an SNR: the largest b up to BMAX whose threshold plus margin it meets, or 0 (R316). -/
def LoadCtx.bitsFor (c : LoadCtx) (snr margin : Int) : Nat → Nat
  | 0 => 0
  | b + 1 => if (tget 0 c.thr (b + 1)).toInt + margin ≤ snr then b + 1 else c.bitsFor snr margin b

/-- The context a REBUILD makes of the SNR values in `b`: its inactive copy written (R316). -/
def LoadCtx.rebuild (c : LoadCtx) (b : List Byte) (margin : Int) (bmax : Nat) : LoadCtx :=
  let t := tfill 0 c.inactive 0 ((c.entries).zipIdx.map fun e =>
    BitVec.ofNat 16 (c.bitsFor (coordAt b e.2) margin bmax + 16 * entryGain e.1))
  let c := { c with complete := false }
  if c.active1 then { c with bits0 := t } else { c with bits1 := t }

/-- ACCEL_REBUILD (R316): from its start until its completion the inactive copy is incomplete. -/
def execAccelRebuild (cas : Fin 12) (s : State) : Out :=
  .next
    (match s.toServe cas.val .rebuilder with
     | none => s
     | some d =>
       let x := d.n 0x20 1
       let c := (s.casm cas.val).ctxAt x
       let ok := d.kind == 7 && decide (x < 8) && c.nsc != 0 && d.paramClean [(0x20, 1), (0x22, 3)] && decide (d.n 0x24 1 ≤ 12) &&
         decide (2 * c.nsc ≤ d.srclen)
       let (b, bad, _) := s.memRead (casAddr cas.val (d.n 8 4)) d.srclen
       let t := s.accelServe cas.val .rebuilder 7 fun _ _ _ => if ok then some (accOk, []) else none
       if ok && !bad then t.modCasm cas.val fun y => y.setCtx x (c.rebuild b (sext (d.n 0x22 2) 16) (d.n 0x24 1)) else t)

/-- ACCEL_SWAP (R316): a request for the context's next symbol boundary. -/
def execAccelSwap (cas : Fin 12) (s : State) : Out :=
  .next
    (match s.toServe cas.val .rebuilder with
     | none => s
     | some d =>
       let x := d.n 0x20 1
       if d.kind ≠ 8 then s
       else if 8 ≤ x ∨ d.paramClean [(0x20, 1)] = false ∨ ((s.casm cas.val).ctxAt x).nsc = 0 then s.served cas.val .rebuilder d accBad
       else
         s.modCasm cas.val fun c =>
           (c.setCtx x { c.ctxAt x with swap := true }).setQueue .rebuilder (replaceFirst d { d with asked := true } (c.queueOf .rebuilder)))

/-! ### Bursts, capture paths and gain words (R324, R327, R329) -/

/-- Serve the next descriptor of a function that moves no data: `f` answers its STATUS and the new state, or none to wait. -/
def State.serveNow (s : State) (k : Nat) (u : AccelUnit) (kind : Nat) (f : State → AccelDesc → Option (BitVec 32 × State)) : State :=
  match s.toServe k u with
  | none => s
  | some d =>
    if d.kind ≠ kind then s
    else match f s d with
      | some (st, s) => s.served k u d st
      | none => s

/-- Two bursts overlap. -/
def Burst.overlaps (a b : Burst) : Bool := decide (a.first < b.first + b.len) && decide (b.first < a.first + a.len)

/-- ACCEL_BURST (R324). -/
def execAccelBurst (cas : Fin 12) (s : State) : Out :=
  .next (s.serveNow cas.val .burst 9 fun s d =>
    let j := d.n 0x20 1
    let b : Burst := { first := d.n 0x28 8, len := d.n 0x24 4 }
    match s.stream j with
    | some st =>
      if st.cas = cas.val ∧ st.rx = false ∧ st.ramp = true ∧ 128 ≤ b.len ∧ st.idx * st.interp ≤ b.first ∧ st.bursts.any (·.overlaps b) = false ∧
          d.paramClean [(0x20, 1), (0x24, 12)] = true then
        some (accOk, s.setStream j (some { st with bursts := st.bursts ++ [b] }))
      else some (accBad, s)
    | none => some (accBad, s))

/-- ACCEL_PSREL (R327): the named capture path is free. -/
def execAccelPsrel (cas : Fin 12) (s : State) : Out :=
  .next (s.serveNow cas.val .psrel 0xA fun s d =>
    let j := d.n 0x20 1
    match s.stream j with
    | some st =>
      if st.cas = cas.val ∧ st.rx = true ∧ d.n 0x21 1 < 2 ∧ d.paramClean [(0x20, 2)] = true then
        some (accOk, s.setStream j (some (if d.n 0x21 1 = 0 then { st with path0 := none } else { st with path1 := none })))
      else some (accBad, s)
    | none => some (accBad, s))

/-- Queue a gain word on a port (R329). -/
def State.queueGain (s : State) (p bits div word at_ : Nat) : State :=
  let f := s.fePort p
  s.setFePort p
    { f with queue := f.queue ++ [{ bits := bits, div := div, word := BitVec.ofNat 32 word, at_ := if at_ = 0 then none else some at_ }] }

/-- ACCEL_GAIN (R329): a descriptor for a full port waits in its queue; of a past AT the task is told CH_TIME_PAST. -/
def execAccelGain (cas : Fin 12) (s : State) : Out :=
  .next (s.serveNow cas.val .gain 0xB fun s d =>
    let p := d.n 0x20 1
    let t := d.n 0x28 8
    if 3 < p ∨ d.n 0x21 1 < 8 ∨ 32 < d.n 0x21 1 ∨ d.n 0x22 1 < 4 ∨ 64 < d.n 0x22 1 ∨
        d.paramClean [(0x20, 3), (0x24, 12)] = false then some (accBad, s)
    else if t ≠ 0 ∧ t < s.time.ns then some (accBad, s.postNotice Code.CH_TIME_PAST 0xFF cas.val 0 0 (d.n 2 2))
    else if 16 ≤ (s.fePort p).queue.length then none
    else some (accOk, s.queueGain p (d.n 0x21 1) (d.n 0x22 1) (d.n 0x24 4) t))

/-! ### Completion (R310) -/

/-- The first core stalled on a queue that has room again posts its descriptor (R310). -/
def State.retryStalls (s : State) (k : Nat) : List (Nat × Nat) → State
  | [] => s
  | (c, a) :: l =>
    match s.onCore k c with
    | some n => (s.accelPost k c n a).retryStalls k l
    | none => s.retryStalls k l

/-- ACCEL_COMPLETE (R300, R310, R316): STATUS is written, then the flag is set or the item enqueued; a full queue holds the item. -/
def execAccelComplete (cas : Fin 12) (k : AccelUnit) (s : State) : Out :=
  .next
    (let n := cas.val
     let c := s.casm n
     match (c.queueOf k).find? (·.result.isSome) with
     | none => s
     | some d =>
       if c.accHeld.any (·.1 == unitNo k) then s
       else
         let st := d.result.getD 0
         let s := s.memWrite (coreAddr n d.core d.addr + 0x18) (leBytes st.toNat 4)
         let s := s.modCasm n fun c => c.setQueue k ((c.queueOf k).erase d)
         let x := d.n 0x20 1
         let s :=
           if d.kind = 7 ∧ st = accOk ∧ x < 8 then s.modCasm n fun c => c.setCtx x { c.ctxAt x with complete := true } else s
         let to_ := d.n 2 2
         let s :=
           if bit (d.n 1 1) 5 then
             let i := itemOf 0xFFFF d.kind (d.n 4 4) d.addr d.dstlen []
             match (s.task to_).filter (·.cas == n) with
             | some t => if t.room then s.enqueue to_ i else s.modCasm n fun c => { c with accHeld := c.accHeld ++ [(unitNo k, to_, i)] }
             | none => s
           else if (s.task to_).any (·.cas == n) then s.setFlags to_ (BitVec.ofNat 32 (2 ^ bits (d.n 1 1) 0 5))
           else s
         (s.retryStalls n (s.casm n).accStall).settleCas n)

end Sys2Proof.Machine
end

