-- ==== Sys2Proof/Machine/Streams.lean ====
section
/-! DEFINITION. Stream lanes between converters and rings in casement memory (R317 to R322), what runs on them: transmit shaping,
ramps, the mask monitor and packet search (R323 to R328), and the gain-word ports (R329). -/

namespace Sys2Proof.Machine

/-! ### Control blocks (R320) -/

/-- The field of `n` bytes at offset `o` of the stream's control block, and the state with the read reported. -/
def State.cbRead (s : State) (st : Stream) (o n : Nat) : Nat × State :=
  let (b, _, s) := s.memRead (casAddr st.cas st.cb + o) n
  (leNat b, s)

/-- Write a control block field. -/
def State.cbWrite (s : State) (st : Stream) (o n v : Nat) : State := s.memWrite (casAddr st.cas st.cb + o) (leBytes v n)

/-- Set bits of SFLAGS. -/
def State.cbFlag (s : State) (st : Stream) (m : Nat) : State :=
  let (v, s) := s.cbRead st 0x34 4
  s.cbWrite st 0x34 4 (v ||| m)

/-- The stream's flag is set (R321, R322). -/
def State.streamFlag (s : State) (st : Stream) : State := (s.setFlags st.task (BitVec.ofNat 32 (2 ^ st.flag))).settleCas st.cas

/-- `n` samples from index `i` are lost: LOSS, LAST_LOSS, SFLAGS[1] and the flag (R321). -/
def State.streamLoss (s : State) (st : Stream) (i n : Nat) : State :=
  let (v, s) := s.cbRead st 0x20 8
  (((s.cbWrite st 0x20 8 (v + n)).cbWrite st 0x28 8 i).cbFlag st 2).streamFlag st

/-- Write T0: the stamp of now (R320, R374). -/
def State.streamStart (s : State) (st : Stream) : State := s.cbWrite st 0x10 16 s.stamp.toNat

/-- Streams of link `l`, by number. -/
def State.streamsOf (s : State) (l : Nat) : List Nat :=
  s.cas.streams.filterMap fun e => match e.2 with | some st => if st.link = l then some e.1 else none | none => none

/-- Apply `f` to every stream of a list. -/
def State.forStreams (s : State) (js : List Nat) (f : State → Nat → Stream → State) : State :=
  js.foldl (fun s j => match s.stream j with | some st => f s j st | none => s) s

/-! ### Links (R318, R322) -/

/-- The edge falls on an LEMC boundary: its distance in REFCLK_LANE edges is a whole number of extended multiblocks (R318). -/
def StreamLink.onLemc (l : StreamLink) (edges : Nat) : Bool := edges * 100 * l.rate % (l.e * 2112 * 15625) == 0

/-- What one SYSREF edge at REFCLK_LANE edge `clk` does to link `i` (R318). -/
def State.sysrefLink (s : State) (clk i : Nat) : State :=
  match s.slink i with
  | none => s
  | some l =>
    match l.lemc with
    | none => s.setSlink i (some { l with lemc := some clk })
    | some c =>
      if l.monitor = true ∧ l.onLemc (clk - c) = false then
        (s.setSlink i (some { l with sysrefErr := satInc l.sysrefErr })).postLane Code.ST_OK 0xFF l.l0 4 0 0
      else s

/-- SYSREF_EDGE (R318). -/
def execSysrefEdge (clk : Nat) (s : State) : Out := .next ((List.range 16).foldl (fun s i => s.sysrefLink clk i) s)

/-- STREAM_LOCK_LOSS (R322): LINK_DOWN; the first loss is posted. -/
def execStreamLockLoss (link : Fin 16) (s : State) : Out :=
  .next
    (match s.slink link.val with
     | none => s
     | some l =>
       if l.rx = false ∨ l.lock = false then s
       else
         let s := s.setSlink link.val (some { l with lock := false, lossPosted := true })
         let s := s.forStreams (s.streamsOf link.val) fun s _ st => s.cbFlag st 1
         if l.lossPosted then s else s.postLane Code.ST_OK 0xFF l.l0 3 0 0)

/-- EXTENDED_MULTIBLOCK_LOCK_RETURN (R322): samples are delivered again, from an extended multiblock on. -/
def execExtendedMultiblockLockReturn (link : Fin 16) (s : State) : Out :=
  .next
    (match s.slink link.val with
     | none => s
     | some l =>
       if l.rx = false ∨ l.lock = true then s
       else
         let s := s.setSlink link.val (some { l with lock := true, mb := 0 })
         s.forStreams (s.streamsOf link.val) fun s _ st =>
           let (v, s) := s.cbRead st 0x34 4
           s.cbWrite st 0x34 4 (v - v % 2))

/-! ### RX (R317, R319, R321, R322) -/

/-- A sample with the low 16 − N bits of I and Q zero, which a receiver ignores (R317). -/
def StreamLink.trim (l : StreamLink) (w : Word) : Word :=
  let m : BitVec 16 := BitVec.allOnes 16 <<< (16 - l.n)
  w &&& (m ++ m)

/-- Samples of stream `j` of the link in a multiblock: word i goes to stream (i ÷ S) mod (M ÷ 2) (R317). -/
def StreamLink.samplesOf (l : StreamLink) (j : Nat) (ws : List Word) : List Word :=
  ((List.range ws.length).filter fun i => i / l.s % (l.m / 2) == j).map fun i => l.trim (ws.getD i 0)

/-- A multiblock's samples reach stream `k`: at the first extended multiblock at or after its start time it starts (R319). -/
def State.rxDeliver (s : State) (l : StreamLink) (crcOk : Bool) (ws : List Word) (k : Nat) (st : Stream) : State :=
  let starts := !st.started && l.mb == 0 && decide (st.start ≤ s.time.ns)
  if !st.started && !starts then s
  else
    let s := if starts then s.streamStart st else s
    let xs := if l.lock then l.samplesOf st.j ws else (l.samplesOf st.j ws).map fun _ => 0
    let at_ := st.idx + st.rxBuf.length
    let s := s.setStream k (some { st with started := true, rxBuf := st.rxBuf ++ xs })
    let s := if l.lock then s else s.streamLoss st at_ xs.length
    if crcOk then s
    else
      let (v, s) := s.cbRead st 0x30 4
      ((s.cbWrite st 0x30 4 (v + 1)).cbFlag st 4).streamFlag st

/-- STREAM_RX_MULTIBLOCK (R317, R319, R322): 64 × L complex samples. -/
def execStreamRxMultiblock (link : Fin 16) (crcOk : Bool) (words : List (BitVec 32)) (s : State) : Out :=
  .next
    (match s.slink link.val with
     | none => s
     | some l =>
       if l.rx = false ∨ words.length ≠ 64 * l.lanes then s
       else
         let t := s.stamp
         let s := if l.mb = 0 then s.modLanes l.laneList fun x => { x with phy := { x.phy with lastRx := t } } else s
         let s := s.forStreams (s.streamsOf link.val) fun s k st => s.rxDeliver l crcOk words k st
         s.setSlink link.val (some { l with mb := (l.mb + 1) % l.e }))

/-- Write samples to the ring from index `i` (R320). -/
def State.ringWrite (s : State) (st : Stream) (i : Nat) (xs : List Word) : State :=
  s.memWrite (casAddr st.cas st.ring + 4 * (i % st.rlen)) (xs.flatMap fun w => leBytes w.toNat 4)

/-- One block of 128 samples: written, or dropped when it would pass RD + RLEN (R321). -/
def State.rxBlock (s : State) (k : Nat) (st : Stream) : State :=
  let (rd, s) := s.cbRead st 8 8
  let i := st.idx
  let s := s.setStream k (some { st with rxBuf := st.rxBuf.drop 128, idx := i + 128 })
  let s := if i + 128 ≤ rd + st.rlen then s.ringWrite st i (st.rxBuf.take 128) else s.streamLoss st i 128
  let s := s.cbWrite st 0 8 (i + 128)
  if (i + 128) % st.blk = 0 then s.streamFlag st else s

/-- The stop whose louvre governs a stream, and its channel: the master's sash on VC1, or the casement on VC2 (R317, R319). -/
def State.streamStop (s : State) (st : Stream) : Nat × Bool :=
  if st.rx then (match s.slink st.link with | some l => l.l0 | none => 0, false) else (64 + st.cas, true)

/-- A drain holds what passes between the stream's master sash and its casement (R119). -/
def State.streamHeld (s : State) (st : Stream) : Bool :=
  let m := match s.slink st.link with | some l => l.l0 | none => 0
  if st.rx then s.heldPath m (64 + st.cas) else s.heldPath (64 + st.cas) m

/-- STREAM_RX_BLOCK (R321): a WRITE worm of 8 payload flits under the master's louvre. -/
def execStreamRxBlock (stream : Fin 256) (s : State) : Out :=
  .next
    (match s.stream stream.val with
     | none => s
     | some st =>
       if st.rx = false ∨ st.rxBuf.length < 128 ∨ s.streamHeld st = true then s
       else match s.louvreTake (s.streamStop st).1 (s.streamStop st).2 9 with
         | some s => s.rxBlock stream.val st
         | none => s)

/-! ### TX (R319, R321, R323, R324) -/

/-- A sample from its coordinates. -/
def iq (i q : Int) : Word := BitVec.ofInt 16 q ++ BitVec.ofInt 16 i
def sampleI (w : Word) : Int := sext w.toNat 16
def sampleQ (w : Word) : Int := sext (w.toNat / 65536) 16

/-- Apply `f` to both coordinates. -/
def onIq (f : Int → Int) (w : Word) : Word := iq (f (sampleI w)) (f (sampleQ w))

/-- Output `r` of phase r of the FIR for the inputs `x`, newest first (R323). -/
def Stream.firOut (st : Stream) (x : List Word) (r : Nat) : Word :=
  let h (t : Nat) : Int := (tget 0 st.fir (st.bank * 128 + t * st.interp + r)).toInt
  let sum (f : Word → Int) : Int := ((List.range st.taps).map fun t => h t * f (x.getD t 0)).sum
  iq (satTo 16 (roundHalfUp (sum sampleI) 32768)) (satTo 16 (roundHalfUp (sum sampleQ) 32768))

/-- Take the ramp entries that wait (R181). -/
def Stream.applyRamps (st : Stream) : Stream :=
  { st with
    ramps := st.rampNext.foldl (fun t e => match e.2 with | some v => tset 0 t e.1 v | none => t) st.ramps
    rampNext := [] }

/-- The ramp envelope on output sample `i` (R181, R324). -/
def Stream.shape (st : Stream) (i : Nat) (w : Word) : Word × Stream :=
  if st.ramp = false then (w, st)
  else
    match st.bursts.find? fun b => decide (b.first ≤ i) && decide (i < b.first + b.len) with
    | none => (0, st)
    | some b =>
      let o := i - b.first
      let st := if o = 0 ∨ o + 64 = b.len then st.applyRamps else st
      let scale (k : Nat) : Word := onIq (fun x => roundHalfUp (x * (tget 0 st.ramps k).toNat) 32768) w
      (if o < 64 then scale o else if b.len ≤ o + 64 then scale (64 + (o + 64 - b.len)) else w, st)

/-- The outputs of input sample `n` from phase `r` on: `m` of them. -/
def Stream.phases (st : Stream) (n r : Nat) : Nat → List Word × Stream
  | 0 => ([], st)
  | m + 1 =>
    let (w, st) := st.shape (n * st.interp + r) (st.firOut st.hist r)
    let (ws, st) := st.phases n (r + 1) m
    (w :: ws, st)

/-- Send input samples from index `n` on: the bank select lands on a symbol boundary, then FIR and envelope (R323, R324). -/
def Stream.send (st : Stream) (n : Nat) : List Word → List Word × Stream
  | [] => ([], st)
  | x :: xs =>
    let st := if n % st.symlen = 0 then { st with bank := st.bankNext.getD st.bank, bankNext := none } else st
    let st := { st with hist := (x :: st.hist).take 128 }
    let (ws, st) := st.phases n 0 st.interp
    let (us, st) := st.send (n + 1) xs
    (ws ++ us, st)

/-- A sample as it leaves for the converters: the low 16 − N bits of I and Q are zero (R317). -/
def State.txTrim (s : State) (st : Stream) (w : Word) : Word := match s.slink st.link with | some l => l.trim w | none => w

/-- STREAM_TX_FETCH (R319, R321, R323, R324): 128 slots; a sample that is not present at its slot is sent as zero, and before
the start every slot is. -/
def execStreamTxFetch (stream : Fin 256) (late : Bool) (s : State) : Out :=
  .next
    (match s.stream stream.val with
     | none => s
     | some st =>
       if st.rx = true then s
       else if st.started = false ∧ s.time.ns < st.start then
         s.setStream stream.val (some { st with txOut := List.replicate (128 * st.interp) 0 })
       else if s.streamHeld st = true then s
       else
         match s.louvreTake (s.streamStop st).1 (s.streamStop st).2 9 with
         | none => s
         | some s =>
           let t := s.stamp
           let s :=
             if st.started then s
             else (s.streamStart st).modLanes ((s.slink st.link).map (·.laneList) |>.getD []) fun x => { x with phy := { x.phy with lastTx := t } }
           let (wr, s) := s.cbRead st 0 8
           let i := st.idx
           let have_ := if late then 0 else min 128 (wr - i)
           let (b, _, s) := s.memRead (casAddr st.cas st.ring + 4 * (i % st.rlen)) (4 * have_)
           let xs := (List.range have_).map (fun k => BitVec.ofNat 32 (fld b (4 * k) 4)) ++ List.replicate (128 - have_) 0
           let (ws, st1) := st.send i xs
           let live := st1.bursts.filter fun b => decide ((i + 128) * st.interp < b.first + b.len)
           let s := s.setStream stream.val (some { st1 with txOut := ws.map (s.txTrim st), idx := i + 128, started := true, bursts := live })
           let s := s.cbWrite st 8 8 (i + 128)
           if have_ < 128 then s.streamLoss st (i + have_) (128 - have_) else s)

/-! ### Items of the mask monitor and of packet search (R325 to R328) -/

/-- Enqueue an item to the stream's task, or hold it, at most 4 (R300, R328). -/
def State.streamItem (s : State) (j : Nat) (kind : Nat) (user : List Byte) : State :=
  match s.stream j with
  | none => s
  | some st =>
    let i := itemOf 0xFFFF (Config.itemKind kind).toNat 0 0 0 user
    match s.task st.task with
    | none => s
    | some t =>
      if t.room && st.heldItems.isEmpty then (s.enqueue st.task i).settleCas st.cas
      else if st.heldItems.length < 4 then s.setStream j (some { st with heldItems := st.heldItems ++ [i] })
      else s

/-- The largest excess over the mask among bins from `k` on, with its bin; ties to the lower bin. -/
def worstBin (m : Tab (BitVec 16)) : Nat → List Int → Option (Nat × Int)
  | _, [] => none
  | k, b :: bs =>
    let x := b - (tget 0 m k).toInt
    match worstBin m (k + 1) bs with
    | some (j, y) => if x < y then some (j, y) else some (k, x)
    | none => some (k, x)

/-- MASK_MONITOR_AVERAGE (R325): AVG blocks of 256 output samples have been averaged. -/
def execMaskMonitorAverage (stream : Fin 256) (bins : List Int) (s : State) : Out :=
  .next
    (match s.stream stream.val with
     | none => s
     | some st =>
       if st.rx = true ∨ st.avg = 0 ∨ bins.length ≠ 256 ∨ st.idx * st.interp < st.monAt + 256 * st.avg then s
       else
         let over_ := bins.zipIdx.countP fun e => decide ((tget 0 st.mask e.2).toInt < e.1)
         let s1 : Stream := { st with monAt := st.monAt + 256 * st.avg }
         match worstBin st.mask 0 bins with
         | some (k, x) =>
           if over_ = 0 then s.setStream stream.val (some s1)
           else
             (s.setStream stream.val (some { s1 with maskOver := satInc st.maskOver })).streamItem stream.val 0
               (leBytes st.monAt 8 ++ leBytes over_ 2 ++ leBytes k 2 ++ leBytes (BitVec.ofInt 16 x).toNat 2)
         | none => s)

/-- The candidate that counts: the largest ρ, ties to the lower hypothesis (R326). -/
def bestCand : List (Nat × BitVec 32) → Option (Nat × BitVec 32)
  | [] => none
  | c :: cs =>
    match bestCand cs with
    | some d => if c.2.toNat < d.2.toNat ∨ (c.2 = d.2 ∧ d.1 < c.1) then some d else some c
    | none => some c

/-- User bytes of a search item (R327). -/
def searchUser (p : Nat) (strength : Int) (rho hyp path : Nat) : List Byte :=
  leBytes p 8 ++ leBytes (BitVec.ofInt 16 strength).toNat 2 ++ leBytes rho 2 ++ leBytes hyp 1 ++ leBytes path 1

/-- The path a detection of a strength takes, and the packet it preempts; none when it is ignored (R328). -/
def Stream.choosePath (st : Stream) (strength : Int) : Option (Nat × Option Capture) :=
  let beats (c : Capture) : Bool := decide (c.strength + st.swm.toNat ≤ strength)
  match st.path0 with
  | none => some (0, none)
  | some a =>
    if st.policy = 0 then none
    else if st.policy = 1 then (if beats a then some (0, some a) else none)
    else
      match st.path1 with
      | none => some (1, none)
      | some b =>
        if a.strength ≤ b.strength then (if beats a then some (0, some a) else none)
        else if beats b then some (1, some b) else none

/-- A capture path holds a packet, or is free. -/
def Stream.setPath (st : Stream) (p : Nat) (c : Option Capture) : Stream :=
  if p = 0 then { st with path0 := c } else { st with path1 := c }

/-- PACKET_DETECT (R326 to R328): hypotheses that are off, or below their threshold, place nothing. -/
def execPacketDetect (stream : Fin 256) (p : BitVec 64) (strength : Int) (cands : List (Nat × BitVec 32)) (s : State) : Out :=
  .next
    (match s.stream stream.val with
     | none => s
     | some st =>
       let cs := cands.filter fun c =>
         let h := tget {} st.hyp c.1
         decide (c.1 < 8) && h.reflen != 0 && decide (h.th.toNat * 65536 ≤ c.2.toNat)
       match bestCand cs with
       | none => s
       | some (h, rho) =>
         if st.rx = false ∨ st.idx + st.rxBuf.length ≤ p.toNat then s
         else
           let st := { st with aliased := satAdd st.aliased (cs.length - 1) }
           let put (x : Stream) : State := s.setStream stream.val (some x)
           if 4 ≤ st.heldItems.length then put { st with missed := satInc st.missed }
           else match st.choosePath strength with
           | none => put { st with ignored := satInc st.ignored }
           | some (path, old) =>
             let free := match s.task st.task with | some t => if st.heldItems.isEmpty then t.qdepth - t.queue.length else 0 | none => 0
             if free + 4 < st.heldItems.length + (if old.isSome then 2 else 1) then
               put { st with missed := satInc st.missed }
             else
               let s := put (st.setPath path (some { p := p.toNat, strength := strength }))
               let s := match old with
                 | some c => s.streamItem stream.val 2 (searchUser c.p c.strength 0 0 path)
                 | none => s
               s.streamItem stream.val 1 (searchUser p.toNat strength (rho.toNat / 65536) h path))

/-- CAPTURE_TRUNCATE (R327): MAXLEN samples after p the path is free. -/
def execCaptureTruncate (stream : Fin 256) (path : Fin 2) (s : State) : Out :=
  .next
    (match s.stream stream.val with
     | none => s
     | some st =>
       match if path.val = 0 then st.path0 else st.path1 with
       | none => s
       | some c =>
         if st.idx + st.rxBuf.length < c.p + st.maxlen then s
         else
           (s.setStream stream.val (some (st.setPath path.val none))).streamItem stream.val 3 (searchUser c.p c.strength 0 0 path.val))

/-! ### Gain words (R329) -/

/-- GAIN_WORD_SEND (R329): the head word, once its AT has come; FE_CS_N is high again after it. -/
def execGainWordSend (port : Fin 4) (s : State) : Out :=
  .next
    (let f := s.fePort port.val
     match f.queue with
     | [] => s
     | g :: q =>
       if (g.at_.getD 0) ≤ s.time.ns then s.setFePort port.val { f with div := g.div, queue := q, sent := (g.bits, g.word) :: f.sent, csn := true }
       else s)

end Sys2Proof.Machine
end

