-- ==== Sys2Proof/Machine/CasCmds.lean ====
section
/-! DEFINITION. The casement commands (R459, R460): job images, submission, tasks, chain-event maps, loading contexts, stream links
and streams, gain words. -/

namespace Sys2Proof.Machine

/-- The casement's domain, where byte 0 names one (R475). -/
def casDoms (_ : State) (q : Req) : List Nat := if q.n 0 1 < 12 then [domCas (q.n 0 1)] else []

/-! ### JOB_LOAD (R293, R177) -/

/-- No instruction word is reserved or malformed, and no REP repeats an instruction it may not: the encodings are open (R289, R292). -/
def codeOk (ws : List (BitVec 64)) : Bool := ws.all (fun w => !Config.dspWordBad w) && (ws.zip (ws.drop 1)).all fun p => !Config.dspRepBad p.1 p.2

/-- The image's sections keep the rules of R293. -/
def jobSectionsOk (b : List Byte) (ds : List Sect) : Bool :=
  let code := (ofType ds 0x30).map fun x => x.data b
  let es := readContract (siteData b ds 9)
  contractOk (siteData b ds 9) && es.all (fun e => e.item == 0x10 || e.item == 0x11) &&
    (ofType ds 0x30).all (fun x =>
      let d := x.data b
      zeroAt d 1 4 && zeroAt d 8 16 && decide (fld d 4 4 + (x.len - 16) / 8 ≤ 2048) &&
        codeOk ((wordsOf 8 ((x.len - 16) / 8) (d.drop 16)).map (BitVec.ofNat 64))) &&
    (ofType ds 0x31).all (fun x =>
      let d := x.data b
      zeroAt d 1 4 && zeroAt d 8 16 &&
        (if fld d 0 1 < 8 then decide (fld d 4 4 + (x.len - 16) ≤ 0x40000) else fld d 0 1 == 8 && decide (fld d 4 4 + (x.len - 16) ≤ 0x200000))) &&
    (let d := siteData b ds 0x32
     zeroAt d 4 16 && (List.range (fld d 0 4)).all fun i =>
       let r := d.drop (16 + 32 * i)
       decide (fld r 0 2 < 2048) && decide (fld r 3 1 < 2) && decide (fld r 4 2 ≤ 256) && zeroAt r 6 8 && fld r 8 4 % 32 == 0 &&
         decide (fld r 8 4 + 32 * fld r 4 2 ≤ 0x200000) && decide (fld r 0x0C 4 ≤ 65536) && zeroAt r 0x10 0x20 &&
         bit (fld r 3 1) 0 == Config.taskDlok code (fld r 0 2) && fld r 0x0C 4 == Config.taskLongrep code (fld r 0 2))

/-- Task records of the image (R293). -/
def readTasks (d : List Byte) : List TaskRec :=
  (List.range (fld d 0 4)).map fun i =>
    let r := d.drop (16 + 32 * i)
    { entry := BitVec.ofNat 16 (fld r 0 2)
      cores := BitVec.ofNat 8 (fld r 2 1)
      dlok := bit (fld r 3 1) 0
      qdepth := fld r 4 2
      qbase := fld r 8 4
      longrep := fld r 0x0C 4 }

/-- The loaded image a file describes: its ranges, and X, the excess of its exceeded contract items (R293, R304). -/
def jobImageOf (b0 : Bool) (b : List Byte) (ds : List Sect) : JobImage :=
  let es := readContract (siteData b ds 9)
  let ts := readTasks (siteData b ds 0x32)
  { id := BitVec.ofNat 64 (readHdr b).id
    tasks := ts
    excess := (es.map fun e => (descValue b0 e.item e.param).getD 0 - e.value).sum
    code := (ofType ds 0x30).map fun x => (BitVec.ofNat 8 (fld (x.data b) 0 1), fld (x.data b) 4 4, (x.len - 16) / 8)
    data := ((ofType ds 0x31).map fun x => (fld (x.data b) 0 1, fld (x.data b) 4 4, x.len - 16)) ++
      ts.map fun t => (8, t.qbase, 32 * t.qdepth) }

/-- Two images cannot be loaded side by side (R293). -/
def JobImage.clashes (a b : JobImage) : Bool :=
  (a.code.any fun x => b.code.any fun y => x.1 &&& y.1 != 0 && linesMeet x.2 y.2) ||
    a.data.any fun x => b.data.any fun y => x.1 == y.1 && linesMeet x.2 y.2

/-- What refuses a job image that has arrived whole (R133, R134, R177, R293). -/
def State.jobRefusal (s : State) (k : Nat) (cmd b : List Byte) : Option Status :=
  let h := readHdr b
  let ds := readDir b h
  if imageOk b 0x03 (cmdLen cmd) = false ∨ jobSectionsOk b ds = false then some Code.ST_IMAGE_FORMAT
  else
    match (contractRefusal s.id.b0 false (readContract (siteData b ds 9))).or (s.keyRefusal b h) with
    | some st => some st
    | none =>
      if (s.casm k).images.any fun g => g.clashes (jobImageOf s.id.b0 b ds) then some Code.ST_LAYOUT_CONFLICT
      else if crcOk b h = false then some Code.DI_IMAGE_CRC
      else if h.signed = true ∧ sigVerifies b h (tget [] s.host.keys (fld b (h.sigOff + 1) 1)) = false then some Code.SC_IMAGE_SIGNATURE
      else none

/-- Copy code into the instruction memories and data into the memories, and note the image (R293). -/
def State.jobWrite (s : State) (k : Nat) (b : List Byte) : State :=
  let ds := readDir b (readHdr b)
  let s := (ofType ds 0x30).foldl
    (fun s x =>
      let d := x.data b
      (List.range 8).foldl
        (fun s c =>
          if bit (fld d 0 1) c then
            s.modCasm k fun y => { y with imem := tfill 0 y.imem (2048 * c + fld d 4 4) ((wordsOf 8 ((x.len - 16) / 8) (d.drop 16)).map (BitVec.ofNat 64)) }
          else s) s) s
  let s := (ofType ds 0x31).foldl
    (fun s x =>
      let d := x.data b
      let t := fld d 0 1
      s.memWrite (casAddr k ((if t < 8 then t * 0x40000 else 0x200000) + fld d 4 4)) (d.drop 16)) s
  s.modCasm k fun y => { y with images := y.images ++ [jobImageOf s.id.b0 b ds] }

/-- A slice of JOB_LOAD: 64 KiB arrive; with the last of them the image is checked and written. -/
def State.jobLoadSlice (s : State) (tk : BitVec 32) (t : Ticket) (cmd : List Byte) : State :=
  let k := fld cmd 0 1
  let o := t.buf.length
  if t.cancel then s.finish tk Code.ST_ABORTED []
  else if t.hostErr then s.finish tk Code.ST_DMA_HOST_ERROR []
  else
    match s.fetchImage (cmdUnit cmd) (cmdAddr cmd + o) (min 65536 (cmdLen cmd - o)) with
    | (_, some st, s) => s.finish tk st []
    | (c, none, s) =>
      let b := t.buf ++ c
      if b.length < cmdLen cmd then s.modTicket tk fun t => { t with buf := b, queued := false, progress := BitVec.ofNat 64 b.length }
      else
        match s.jobRefusal k cmd b with
        | some st => s.finish tk st []
        | none =>
          match s.accessAll [domCas k] with
          | (.locked, s) => s.finish tk Code.PW_DOMAIN_LOCKED []
          | (.wait, s) => s
          | (.go, s) => (s.jobWrite k b).finish tk Code.ST_OK []

/-- JOB_LOAD: accepted with a ticket; no seventeenth image (R293). -/
def jobLoadBody (s : State) (q : Req) : Reply :=
  let k := q.n 0 1
  if 12 ≤ k ∨ q.n 8 8 % 64 ≠ 0 then refuse s Code.ST_BAD_PARAM
  else if 2 ≤ q.n 3 1 then refuse s Code.ST_RESERVED_NONZERO
  else if 16 ≤ (s.casm k).images.length then refuse s Code.ST_RESOURCE_BUSY
  else s.accept q (.jobLoad (bytesAt q.pay 0 16)) true (q.n 4 4)

/-- JOB_LOAD (R293, R459). -/
def execJobLoad (src : Nat) (s : State) : Out :=
  .next (s.command src { op := 0x0701, need := 16, cov := [(0, 1), (3, 13)], doms := casDoms } jobLoadBody)

/-- JOB_UNLOAD: only when none of the image's jobs lives (R293). -/
def jobUnloadBody (s : State) (q : Req) : Reply :=
  let k := q.n 0 1
  let id : BitVec 64 := BitVec.ofNat 64 (q.n 8 8)
  if 12 ≤ k ∨ (s.casm k).images.all (·.id != id) = true then refuse s Code.ST_BAD_PARAM
  else if (s.tasksOf k).any (·.2.image == id) then refuse s Code.ST_SET_BUSY
  else done (s.modCasm k fun c => { c with images := c.images.filter (·.id != id) }) []

/-- JOB_UNLOAD (R293, R459). -/
def execJobUnload (src : Nat) (s : State) : Out :=
  .next (s.command src { op := 0x0702, need := 16, cov := [(0, 1), (8, 8)] } jobUnloadBody)

/-! ### Jobs and tasks (R294, R296, R297, R300) -/

/-- SUBMIT: an off casement is woken, and the release is no earlier than 8 µs from now (R294, R304). -/
def submitBody (s : State) (q : Req) : Reply :=
  let k := q.n 0 1
  if 12 ≤ k then refuse s Code.ST_BAD_PARAM
  else
    let r := bytesAt q.pay 8 72
    let go (s1 : State) (off : Bool) : Reply :=
      match s1.submit k r off with
      | (st, n, c, s2) => if st = Code.ST_OK then done (s2.settleCas k) (leBytes n 2 ++ leBytes c 1) else refuse s st
    match s.access (domCas k) false with
    | (.locked, _) => refuse s Code.PW_DOMAIN_LOCKED
    | (.wait, s1) => go s1 true
    | (.go, s1) => go s1 false

/-- SUBMIT (R294, R459). -/
def execSubmit (src : Nat) (s : State) : Out :=
  .next (s.command src { op := 0x0703, need := 80, cov := [(0, 1), (8, 72)] } submitBody)

/-- The domain of the casement a named task lives on. -/
def taskDoms (o : Nat) (s : State) (q : Req) : List Nat := match s.task (q.n o 2) with | some t => [domCas t.cas] | none => []

/-- JOB_STOP: the job ends with ST_ABORTED, inside a REP at its end (R292, R296). -/
def jobStopBody (s : State) (q : Req) : Reply :=
  let n := q.n 0 2
  match s.task n with
  | some t => done (if s.inRep n then s.setTask n (some { t with stopDue := true }) else (s.endTask n Code.ST_ABORTED).settleCas t.cas) []
  | none => refuse s Code.ST_NO_TASK

/-- JOB_STOP (R296, R459). -/
def execJobStop (src : Nat) (s : State) : Out :=
  .next (s.command src { op := 0x0704, need := 2, cov := [(0, 2)], doms := taskDoms 0 } jobStopBody)

/-- SIGNAL: event flags 0 to 27 of a task (R297). -/
def signalBody (s : State) (q : Req) : Reply :=
  let n := q.n 0 2
  if 2 ^ 28 ≤ q.n 4 4 then refuse s Code.ST_RESERVED_NONZERO
  else
    match s.task n with
    | some t => done ((s.setFlags n (BitVec.ofNat 32 (q.n 4 4))).settleCas t.cas) []
    | none => refuse s Code.ST_NO_TASK

/-- SIGNAL (R297, R459). -/
def execSignal (src : Nat) (s : State) : Out :=
  .next (s.command src { op := 0x0705, need := 8, cov := [(0, 2), (4, 4)], doms := taskDoms 0 } signalBody)

/-- ITEM: an item into a task's queue, refused when it is full (R299, R300). -/
def itemBody (s : State) (q : Req) : Reply :=
  let n := q.n 0 2
  let i : BitVec 256 := BitVec.ofNat 256 (q.n 8 32)
  if q.n 0x0B 1 ≠ 0 then refuse s Code.ST_RESERVED_NONZERO
  else if 1024 ≤ itemFlow i ∧ itemFlow i ≠ 0xFFFF then refuse s Code.ST_BAD_PARAM
  else
    match s.task n with
    | some t => if t.room then done ((s.enqueue n i).settleCas t.cas) [] else refuse s Code.ST_BUSY
    | none => refuse s Code.ST_NO_TASK

/-- ITEM (R300, R459). -/
def execItem (src : Nat) (s : State) : Out :=
  .next (s.command src { op := 0x0706, need := 40, cov := [(0, 2), (8, 32)], doms := taskDoms 0 } itemBody)

/-! ### EVMAP (R297, R459) -/

/-- Maps the unit holds. -/
def CasState.evmaps (c : CasState) : Nat := (c.cas.map fun e => e.2.evmap.length).sum

/-- EVMAP: bind a chain EVENT identifier to a flag of a task, or remove the binding. -/
def evmapBody (s : State) (q : Req) : Reply :=
  let n := q.n 2 2
  let e : BitVec 8 × Nat × Nat := (BitVec.ofNat 8 (q.n 0 1), n, q.n 4 1)
  if q.n 0 1 = 0 ∨ 27 < q.n 4 1 then refuse s Code.ST_BAD_PARAM
  else
    match s.task n with
    | none => refuse s Code.ST_NO_TASK
    | some t =>
      let m := (s.casm t.cas).evmap
      if q.n 1 1 = 1 then done (s.modCasm t.cas fun c => { c with evmap := m.filter (· != e) }) []
      else if m.contains e then done s []
      else if 64 ≤ s.cas.evmaps then refuse s Code.ST_RESOURCE_BUSY
      else done (s.modCasm t.cas fun c => { c with evmap := m ++ [e] }) []

/-- EVMAP_MAP (R297, R459). -/
def execEvmapMap (src : Nat) (s : State) : Out :=
  .next (s.command src { op := 0x0707, form := some (1, 0), need := 5, cov := [(0, 5)] } evmapBody)

/-- EVMAP_UNMAP (R297, R459). -/
def execEvmapUnmap (src : Nat) (s : State) : Out :=
  .next (s.command src { op := 0x0707, form := some (1, 1), need := 5, cov := [(0, 5)] } evmapBody)

/-! ### CCW and CONTEXT (R301, R314, R316) -/

/-- CCW: class S, running while any task lives (R301). -/
def ccwBody (s : State) (q : Req) : Reply :=
  let k := q.n 0 1
  let v : BitVec 32 := BitVec.ofNat 32 (q.n 4 4)
  if 12 ≤ k then refuse s Code.ST_BAD_PARAM
  else if bits v.toNat 22 10 ≠ 0 ∨ bits v.toNat 8 4 ≠ 0 then refuse s Code.ST_RESERVED_NONZERO
  else if bits v.toNat 12 10 = 0 ∨ 1000 < bits v.toNat 12 10 ∨ bits v.toNat 0 8 = 0 then refuse s Code.ST_BAD_PARAM
  else if (s.tasksOf k).isEmpty = false then refuse s Code.ST_FIELD_BUSY
  else done (s.modCasm k fun c => { c with ccw := v }) []

/-- CCW (R301, R459). -/
def execCcw (src : Nat) (s : State) : Out :=
  .next (s.command src { op := 0x0708, need := 8, cov := [(0, 1), (4, 4)], doms := casDoms } ccwBody)

/-- A mapper or rebuilder descriptor names context `x` (R316). -/
def Casement.ctxNamed (c : Casement) (x : Nat) : Bool := (c.queueOf .mapper ++ c.queueOf .rebuilder).any fun d => d.n 0x20 1 == x

/-- A CONTEXT write of class S to a context no descriptor names (R316). -/
def contextBody (f : Req → LoadCtx → Option LoadCtx) (s : State) (q : Req) : Reply :=
  let k := q.n 0 1
  let x := q.n 1 1
  if 12 ≤ k ∨ 8 ≤ x then refuse s Code.ST_BAD_PARAM
  else
    match f q ((s.casm k).ctxAt x) with
    | none => refuse s Code.ST_BAD_PARAM
    | some v => if (s.casm k).ctxNamed x then refuse s Code.ST_FIELD_BUSY else done (s.modCasm k fun c => c.setCtx x v) []

/-- CONTEXT form 1: FIRSTBIN and NSC (R314). -/
def contextGeometryBody : State → Req → Reply :=
  contextBody fun q v =>
    if q.n 6 2 = 0 ∨ 4096 < q.n 6 2 then none else some { v with firstbin := BitVec.ofNat 16 (q.n 4 2), nsc := q.n 6 2 }

/-- CONTEXT_GEOMETRY (R314, R459). -/
def execContextGeometry (src : Nat) (s : State) : Out :=
  .next (s.command src { op := 0x0709, form := some (2, 1), need := 8, cov := [(0, 3), (4, 4)], doms := casDoms } contextGeometryBody)

/-- Entries of 16 bits from payload offset 8 on. -/
def Req.halves (q : Req) (n : Nat) : List (BitVec 16) := (List.range n).map fun i => BitVec.ofNat 16 (q.n (8 + 2 * i) 2)

/-- CONTEXT form 2: SCALE[1] to SCALE[12] (R314). -/
def contextScaleBody : State → Req → Reply := contextBody fun q v => some { v with scale := tfill 0 v.scale 1 (q.halves 12) }

/-- CONTEXT_SCALE (R314, R459). -/
def execContextScale (src : Nat) (s : State) : Out :=
  .next (s.command src { op := 0x0709, form := some (2, 2), need := 32, cov := [(0, 3), (8, 24)], doms := casDoms } contextScaleBody)

/-- CONTEXT form 3: THR[1] to THR[12] (R316). -/
def contextThresholdBody : State → Req → Reply := contextBody fun q v => some { v with thr := tfill 0 v.thr 1 (q.halves 12) }

/-- CONTEXT_THRESHOLD (R316, R459). -/
def execContextThreshold (src : Nat) (s : State) : Out :=
  .next (s.command src { op := 0x0709, form := some (2, 3), need := 32, cov := [(0, 3), (8, 24)], doms := casDoms } contextThresholdBody)

/-- CONTEXT form 4: both copies of the bit table, at any time (R459). -/
def contextBitTableBody (s : State) (q : Req) : Reply :=
  let k := q.n 0 1
  let x := q.n 1 1
  let o := q.n 4 2
  let n := q.n 6 1
  if 12 ≤ k ∨ 8 ≤ x ∨ n = 0 ∨ 100 < n ∨ q.pay.length < 8 + 2 * n then refuse s Code.ST_BAD_PARAM
  else if q.clean [(0, 3), (4, 3), (8, 2 * n)] = false then refuse s Code.ST_RESERVED_NONZERO
  else if ((s.casm k).ctxAt x).nsc < o + n ∨ (q.halves n).any (fun e => decide (12 < entryBits e)) = true then refuse s Code.ST_BAD_PARAM
  else
    done (s.modCasm k fun c =>
      let v := c.ctxAt x
      c.setCtx x { v with bits0 := tfill 0 v.bits0 o (q.halves n), bits1 := tfill 0 v.bits1 o (q.halves n) }) []

/-- CONTEXT_BIT_TABLE (R314, R459). -/
def execContextBitTable (src : Nat) (s : State) : Out :=
  .next (s.command src { op := 0x0709, form := some (2, 4), need := 8, cov := [(0, 3), (4, 3), (8, 232)], doms := casDoms } contextBitTableBody)

/-! ### LINK_CFG (R317, R318) -/

/-- The link of a request (R459). -/
def linkOf (q : Req) : StreamLink :=
  { l0 := q.n 2 1
    lanes := q.n 3 1
    m := q.n 4 1
    s := q.n 5 1
    n := q.n 6 1
    e := q.n 7 1
    rbd := q.n 8 2
    rate := q.n 0x0C 4
    mb := 0
    rx := q.n 1 1 == 0
    monitor := q.n 0x0A 1 == 0
    lemc := none
    lock := false
    lossPosted := false
    sysrefErr := 0 }

/-- The link keeps to the table of R317. -/
def StreamLink.ok (l : StreamLink) : Bool :=
  [1, 2, 4, 8].contains l.lanes && l.l0 % l.lanes == 0 && decide (l.l0 + l.lanes ≤ 64) && [2, 4, 8, 16, 32].contains l.m &&
    [1, 2, 4].contains l.s && decide (8 ≤ l.n) && decide (l.n ≤ 16) && decide (1 ≤ l.e) && decide (l.e ≤ 32) &&
    decide (l.rbd ≤ l.e * 32 - 1) && l.m * l.s * 2 % l.lanes == 0 && decide (1 ≤ l.m * l.s * 2 / l.lanes) &&
    decide (l.m * l.s * 2 / l.lanes ≤ 256) && rateOk l.rate

/-- The lanes are not all in stream mode, another link has one of them, or their block already serves two links (R317). -/
def State.linkBusy (s : State) (x : Nat) (l : StreamLink) : Bool :=
  let others := s.cas.links.filterMap fun e => if e.1 = x then none else e.2
  l.laneList.any (fun i => (s.lane i).mode != .stream) || others.any (fun o => o.laneList.any l.laneList.contains) ||
    decide (2 ≤ others.countP fun o => o.l0 / 8 == l.l0 / 8)

/-- LINK_CFG: RATE 0 deletes the link (R317, R459). -/
def linkCfgBody (s : State) (q : Req) : Reply :=
  let x := q.n 0 1
  let l := linkOf q
  if 16 ≤ x ∨ 1 < q.n 1 1 ∨ 1 < q.n 0x0A 1 then refuse s Code.ST_BAD_PARAM
  else if (s.streamsOf x).isEmpty = false then refuse s Code.ST_SET_BUSY
  else if l.rate = 0 then done (s.setSlink x none) []
  else if l.ok = false then refuse s Code.ST_BAD_PARAM
  else if s.linkBusy x l then refuse s Code.ST_LANE_BUSY
  else
    let rs := l.laneList.map fun i => (i, l.rate)
    let keep (i : Nat) : Bool := !l.laneList.contains i
    if s.quadsFit rs keep = false then refuse s Code.ST_LANE_BUSY
    else done (((s.setQuadRates rs keep).modLanes l.laneList fun y => { y with rate := l.rate }).setSlink x (some l)) []

/-- LINK_CFG (R317, R459). -/
def execLinkCfg (src : Nat) (s : State) : Out :=
  .next (s.command src { op := 0x070A, need := 16, cov := [(0, 11), (12, 4)] } linkCfgBody)

/-! ### STREAM_OPEN and STREAM_CLOSE (R319, R323) -/

/-- Sample rate of the link's streams in units of 1/1,056 Msample/s (R317, R319). -/
def StreamLink.fs (l : StreamLink) : Nat := l.rate * 2 * l.lanes * (32 / l.m)

/-- Sample rate of an open stream. -/
def State.streamFs (s : State) (st : Stream) : Nat := match s.slink st.link with | some l => l.fs | none => 0

/-- The sum of `f` over the open streams that `p` picks. -/
def State.sumStreams (s : State) (p : Stream → Bool) (f : Stream → Nat) : Nat :=
  (s.cas.streams.map fun e => match e.2 with | some st => if p st then f st else 0 | none => 0).sum

/-- The stream's traffic, sample rates or multiplications go beyond what the louvre and the units give (R319, R323). -/
def State.streamTooFast (s : State) (k : Nat) (l : StreamLink) (tx : Bool) (taps : Nat) : Bool :=
  let d := if tx then 64 + k else l.l0
  let v := (s.stop d).lvw d tx
  (getBit v 31 && decide (lvwRate v * 512 * s.id.stepMhz * 1056 < 36 * l.fs * 65536)) ||
    decide (2000 * 1056 < l.fs + s.sumStreams (·.cas == k) s.streamFs) || decide (16000 * 1056 < l.fs + s.sumStreams (fun _ => true) s.streamFs) ||
    (tx && decide (512000 * 1056 < l.fs * taps + s.sumStreams (fun x => x.cas == k && !x.rx) fun x => s.streamFs x * x.taps))

/-- A fresh stream of a request (R319, R323 to R328, R459). -/
def streamOf (q : Req) : Stream :=
  let fl := q.n 3 1
  { cas := q.n 0 1
    task := q.n 4 2
    flag := q.n 6 1
    link := q.n 1 1
    j := q.n 2 1
    rx := !bit fl 0
    ring := q.n 8 4
    rlen := q.n 0x0C 4
    cb := q.n 0x10 4
    blk := q.n 0x14 4
    start := q.n 0x18 8
    symlen := max 1 (q.n 0x20 4)
    interp := max 1 (q.n 7 1)
    taps := q.n 0x24 1
    ramp := bit fl 1
    fir := []
    bank := 0
    bankNext := none
    ramps := []
    rampNext := []
    bursts := []
    avg := b2n (bit fl 2)
    mask := []
    monAt := 0
    maskOver := 0
    hyp := []
    path0 := none
    path1 := none
    policy := 1
    swm := 24
    maxlen := 0xFFFFFFFF
    aliased := 0
    ignored := 0
    missed := 0
    heldItems := []
    rxBuf := []
    txOut := []
    hist := []
    idx := 0
    started := false }

/-- The parameters of a stream keep their ranges (R319, R320, R323). -/
def Stream.ok (st : Stream) (q : Req) : Bool :=
  decide (st.flag ≤ 27) && (List.range 9).any (fun i => st.rlen == 2 ^ (8 + i)) && st.blk % 128 == 0 && st.blk != 0 &&
    inShared st.ring (4 * st.rlen) && inShared st.cb 64 && decide (st.symlen ≤ 65536) &&
    (if st.rx then !st.ramp && st.avg == 0
     else [1, 2, 4, 8].contains (q.n 7 1) && decide (1 ≤ st.taps) && decide (st.taps * st.interp ≤ 128))

/-- STREAM_OPEN (R319, R323): the number of the new stream. -/
def streamOpenBody (s : State) (q : Req) : Reply :=
  let st := streamOf q
  if 8 ≤ q.n 3 1 then refuse s Code.ST_RESERVED_NONZERO
  else if 12 ≤ st.cas then refuse s Code.ST_BAD_PARAM
  else
    match if st.link < 16 then s.slink st.link else none with
    | none => refuse s Code.ST_BAD_PARAM
    | some l =>
      if l.rx ≠ st.rx ∨ l.m / 2 ≤ st.j ∨ st.ok q = false then refuse s Code.ST_BAD_PARAM
      else if (s.task st.task).any (·.cas == st.cas) = false then refuse s Code.ST_NO_TASK
      else if l.laneList.any (fun i => (s.lane i).mode != .stream) = true ∨
          (s.streamsOf st.link).any (fun j => (s.stream j).any (·.j == st.j)) = true then refuse s Code.ST_LANE_BUSY
      else if s.streamTooFast st.cas l (!st.rx) st.taps then refuse s Code.ST_STREAM_RATE
      else
        match (List.range 256).find? fun j => (s.stream j).isNone with
        | none => refuse s Code.ST_RESOURCE_BUSY
        | some j => done (s.setStream j (some st)) (leBytes j 1)

/-- STREAM_OPEN (R319, R459). -/
def execStreamOpen (src : Nat) (s : State) : Out :=
  .next (s.command src { op := 0x070B, need := 37, cov := [(0, 37)], doms := casDoms } streamOpenBody)

/-- The domain of a stream's casement. -/
def streamDoms (s : State) (q : Req) : List Nat := match s.stream (q.n 0 1) with | some st => [domCas st.cas] | none => []

/-- STREAM_CLOSE (R459): whole blocks received are written, and the stream is closed. -/
def streamCloseBody (s : State) (q : Req) : Reply :=
  let j := q.n 0 1
  match s.stream j with
  | none => refuse s Code.ST_BAD_PARAM
  | some st => done ((if st.rx = true ∧ 128 ≤ st.rxBuf.length then s.rxBlock j st else s).closeStream j) []

/-- STREAM_CLOSE (R459). -/
def execStreamClose (src : Nat) (s : State) : Out :=
  .next (s.command src { op := 0x070C, need := 1, cov := [(0, 1)], doms := streamDoms } streamCloseBody)

/-! ### STREAM_CFG (R460) -/

/-- A STREAM_CFG on an open stream of one direction; `f` answers a refusal or the changed stream. -/
def streamCfgBody (rx : Bool) (f : State → Req → Stream → Except Status Stream) (s : State) (q : Req) : Reply :=
  match s.stream (q.n 0 1) with
  | none => refuse s Code.ST_BAD_PARAM
  | some st =>
    if st.rx ≠ rx then refuse s Code.ST_BAD_PARAM
    else
      match f s q st with
      | .error e => refuse s e
      | .ok x => done (s.setStream (q.n 0 1) (some x)) []

/-- Table entries of `n` halves from offset 8 are present, and the bytes around them are clean. -/
def Req.tableRefusal (q : Req) (hdr : List (Nat × Nat)) (n : Nat) : Option Status :=
  if q.pay.length < 8 + 2 * n then some Code.ST_BAD_PARAM
  else if q.clean ((8, 2 * n) :: hdr) = false then some Code.ST_RESERVED_NONZERO
  else none

/-- Form 1: coefficients of a bank that is not in use (R323). -/
def firCoefficientsBody : State → Req → Reply :=
  streamCfgBody false fun _ q st =>
    let b := q.n 2 1
    let o := q.n 4 2
    let n := q.n 6 1
    match q.tableRefusal [(0, 3), (4, 3)] n with
    | some e => .error e
    | none =>
      if 3 < b ∨ n = 0 ∨ 100 < n ∨ 128 < o + n then .error Code.ST_BAD_PARAM
      else if b = st.bank then .error Code.ST_FIELD_BUSY
      else .ok { st with fir := tfill 0 st.fir (b * 128 + o) (q.halves n) }

/-- FIR_COEFFICIENTS (R323, R460). -/
def execFirCoefficients (src : Nat) (s : State) : Out :=
  .next (s.command src { op := 0x070D, form := some (1, 1), need := 8, cov := [(0, 240)], doms := streamDoms } firCoefficientsBody)

/-- Form 2: the bank from the next symbol boundary on (R323). -/
def firBankSelectBody : State → Req → Reply :=
  streamCfgBody false fun _ q st => if 3 < q.n 2 1 then .error Code.ST_BAD_PARAM else .ok { st with bankNext := some (q.n 2 1) }

/-- FIR_BANK_SELECT (R323, R460). -/
def execFirBankSelect (src : Nat) (s : State) : Out :=
  .next (s.command src { op := 0x070D, form := some (1, 2), need := 3, cov := [(0, 3)], doms := streamDoms } firBankSelectBody)

/-- A burst is open: its first sample has left and its last has not (R324). -/
def Stream.burstOpen (st : Stream) : Bool :=
  st.bursts.any fun b => decide (b.first < st.idx * st.interp) && decide (st.idx * st.interp < b.first + b.len)

/-- Forms 3 and 4: entries of UP (from key 0) or DOWN (from key 64); during a burst A1 refuses and B0 keeps them for the next
ramp; between bursts they land at once, in place of what waits there (R12, R181, R324). -/
def rampBody (base : Nat) : State → Req → Reply :=
  streamCfgBody false fun s q st =>
    let o := q.n 2 1
    let n := q.n 3 1
    match q.tableRefusal [(0, 4)] n with
    | some e => .error e
    | none =>
      if n = 0 ∨ 64 < o + n ∨ (q.halves n).any (fun v => decide (32768 < v.toNat)) = true then .error Code.ST_BAD_PARAM
      else if st.burstOpen then
        (if s.id.b0 then .ok { st with rampNext := tfill none st.rampNext (base + o) ((q.halves n).map some) }
         else .error Code.ST_FIELD_BUSY)
      else
        .ok { st with
              ramps := tfill 0 st.ramps (base + o) (q.halves n)
              rampNext := tfill none st.rampNext (base + o) (List.replicate n none) }

/-- RAMP_UP_TABLE (R181, R324, R460). -/
def execRampUpTable (src : Nat) (s : State) : Out :=
  .next (s.command src { op := 0x070D, form := some (1, 3), need := 8, cov := [(0, 240)], doms := streamDoms } (rampBody 0))

/-- RAMP_DOWN_TABLE (R181, R324, R460). -/
def execRampDownTable (src : Nat) (s : State) : Out :=
  .next (s.command src { op := 0x070D, form := some (1, 4), need := 8, cov := [(0, 240)], doms := streamDoms } (rampBody 64))

/-- Form 5: AVG and mask entries of a stream opened with its monitor (R325). -/
def maskMonitorBody : State → Req → Reply :=
  streamCfgBody false fun _ q st =>
    let a := q.n 2 2
    let o := q.n 4 2
    let n := q.n 6 1
    match q.tableRefusal [(0, 7)] n with
    | some e => .error e
    | none =>
      if st.avg = 0 ∨ a = 0 ∨ 256 < a ∨ n = 0 ∨ 100 < n ∨ 256 < o + n then .error Code.ST_BAD_PARAM
      else .ok { st with avg := a, mask := tfill 0 st.mask o (q.halves n) }

/-- MASK_MONITOR_CFG (R325, R460). -/
def execMaskMonitorCfg (src : Nat) (s : State) : Out :=
  .next (s.command src { op := 0x070D, form := some (1, 5), need := 8, cov := [(0, 240)], doms := streamDoms } maskMonitorBody)

/-- Streams that packet search serves. -/
def Stream.searched (st : Stream) : Bool := !st.hyp.isEmpty

/-- Form 6: a hypothesis with its reference, read now; at most 16 searched streams a casement and 64 a unit (R326). -/
def hypothesisBody (s : State) (q : Req) : Reply :=
  let j := q.n 0 1
  let h := q.n 2 1
  let n := q.n 8 2
  let a := q.n 4 4
  match s.stream j with
  | none => refuse s Code.ST_BAD_PARAM
  | some st =>
    if st.rx = false ∨ 7 < h ∨ 1 < q.n 3 1 then refuse s Code.ST_BAD_PARAM
    else if q.n 3 1 = 0 then done (s.setStream j (some { st with hyp := tset {} st.hyp h {} })) []
    else if n < 16 ∨ 1024 < n ∨ inShared a (4 * n) = false then refuse s Code.ST_BAD_PARAM
    else if st.searched = false ∧ (16 ≤ s.sumStreams (fun x => x.cas == st.cas && x.searched) (fun _ => 1) ∨
        64 ≤ s.sumStreams Stream.searched (fun _ => 1)) then refuse s Code.ST_RESOURCE_BUSY
    else
      match s.memRead (casAddr st.cas a) (4 * n) with
      | (_, true, s) => refuse s Code.DI_POISON_READ
      | (b, false, s) =>
        let v : Hypothesis :=
          { reflen := n
            th := BitVec.ofNat 32 (q.n 0x0C 4)
            pw := BitVec.ofNat 8 (q.n 0x0A 1)
            ref := (wordsOf 4 n b).map (BitVec.ofNat 32) }
        done (s.setStream j (some { st with hyp := tset {} st.hyp h v })) []

/-- HYPOTHESIS_CFG (R326, R460). -/
def execHypothesisCfg (src : Nat) (s : State) : Out :=
  .next (s.command src { op := 0x070D, form := some (1, 6), need := 4, cov := [(0, 11), (12, 4)], doms := streamDoms } hypothesisBody)

/-- Form 7: POLICY, SWM and MAXLEN (R327, R328). -/
def capturePolicyBody : State → Req → Reply :=
  streamCfgBody true fun _ q st =>
    if 2 < q.n 2 1 then .error Code.ST_BAD_PARAM
    else .ok { st with policy := BitVec.ofNat 8 (q.n 2 1), swm := BitVec.ofNat 8 (q.n 3 1), maxlen := q.n 4 4 }

/-- CAPTURE_POLICY (R327, R328, R460). -/
def execCapturePolicy (src : Nat) (s : State) : Out :=
  .next (s.command src { op := 0x070D, form := some (1, 7), need := 8, cov := [(0, 8)], doms := streamDoms } capturePolicyBody)

/-! ### GAIN (R329) -/

/-- GAIN: a word for a front-end port. -/
def gainBody (s : State) (q : Req) : Reply :=
  let p := q.n 0 1
  let t := q.n 8 8
  if 3 < p ∨ q.n 1 1 < 8 ∨ 32 < q.n 1 1 ∨ q.n 2 1 < 4 ∨ 64 < q.n 2 1 then refuse s Code.ST_BAD_PARAM
  else if t ≠ 0 ∧ t < s.time.ns then refuse s Code.CH_TIME_PAST
  else if 16 ≤ (s.fePort p).queue.length then refuse s Code.ST_BUSY
  else done (s.queueGain p (q.n 1 1) (q.n 2 1) (q.n 4 4) t) []

/-- GAIN (R329, R459). -/
def execGain (src : Nat) (s : State) : Out := .next (s.command src { op := 0x070E, need := 16, cov := [(0, 3), (4, 12)] } gainBody)

end Sys2Proof.Machine
end

