-- ==== Sys2Proof/Machine/Memory.lean ====
section
/-! DEFINITION. The memory commands (R461) and the memories' own events: training, sweeps, invalidation, spare words (R350 to
R352), the scrubber and its laps (R180, R353, R354), control and status (R355, R356), and copies by DMA (R435). -/

namespace Sys2Proof.Machine

/-- Bits set in a mask of channels. -/
def chansOf (m : Nat) : List Nat := (List.range 8).filter (bit m)

/-- Domains of the channels in byte 0. -/
def chanDoms (_ : State) (q : Req) : List Nat := (chansOf (q.n 0 1)).map domDdr

/-- The domain of the memory in bytes 0 and 1. -/
def memDoms (_ : State) (q : Req) : List Nat := if memIdOk (q.n 0 2) then [memDomain (q.n 0 2)] else []

/-! ### TRAIN and MEMCFG (R343, R344) -/

/-- Train one channel: it is mapped when its SPD and its training allow it (R342, R343). -/
def State.trainChannel (s : State) (c rate : Nat) : State :=
  let x := s.ddr c
  s.setDdr c { x with trained := x.trainable && [16, 24, 32].contains x.capGiB && (s.dom (domDdr c)).state == .on, rate := rate }

/-- COMPLETE data of TRAIN: TRAINED and CAP (R461). -/
def State.trainData (s : State) (m : Nat) : List Byte :=
  let ok (c : Nat) : Bool := bit m c && (s.ddr c).trained
  leBytes ((List.range 8).foldl (fun a c => a + b2n (ok c) * 2 ^ c) 0) 8 ++
    (List.range 8).map fun c => BitVec.ofNat 8 (if ok c then (s.ddr c).capGiB else 0)

/-- A slice of TRAIN: one channel; the last ends the command (R343). -/
def State.trainSlice (s : State) (tk : BitVec 32) (t : Ticket) (cmd : List Byte) : State :=
  let l := chansOf (fld cmd 0 1)
  match l[t.phase]? with
  | some c =>
    match s.accessAll [domDdr c] with
    | (.wait, s) => s
    | (.locked, s) => s.finish tk Code.PW_DOMAIN_LOCKED (s.trainData (fld cmd 0 1))
    | (.go, s) => (s.trainChannel c (fld cmd 2 2)).modTicket tk fun t => { t with phase := t.phase + 1, queued := false, progress := t.progress + 1 }
  | none =>
    s.finish tk (if l.all fun c => (s.ddr c).trained then Code.ST_OK else Code.DI_DDR_TRAIN) (s.trainData (fld cmd 0 1))

/-- TRAIN: refused for a channel that holds valid regions (R461). -/
def trainBody (s : State) (q : Req) : Reply :=
  let l := chansOf (q.n 0 1)
  if l = [] ∨ [4800, 5600, 6400].contains (q.n 2 2) = false then refuse s Code.ST_BAD_PARAM
  else if l.any fun c => decide (s.mem.validRegions c ≠ 0) then refuse s Code.ST_FIELD_BUSY
  else s.accept q (.train (bytesAt q.pay 0 4)) true l.length

/-- TRAIN (R343, R461). -/
def execTrain (src : Nat) (s : State) : Out :=
  .next (s.command src { op := 0x0801, need := 4, cov := [(0, 1), (2, 2)], doms := chanDoms } trainBody)

/-- MEMCFG: MAP is class S, busy once any region is valid (R344). -/
def memcfgBody (s : State) (q : Req) : Reply :=
  if 1 < q.n 0 1 then refuse s Code.ST_BAD_PARAM
  else if s.mem.regions ≠ [] then refuse s Code.ST_FIELD_BUSY
  else done { s with mem := { s.mem with interleave := q.n 0 1 == 1 } } []

/-- MEMCFG (R344, R461). -/
def execMemcfg (src : Nat) (s : State) : Out := .next (s.command src { op := 0x0802, need := 1, cov := [(0, 1)] } memcfgBody)

/-! ### SWEEP (R348) -/

/-- Region `r` is mapped, invalid, and holds part of a channel in `l`. -/
def State.sweepable (s : State) (l : List Nat) (r : Nat) : Bool :=
  !tget false s.mem.regions r && (s.memAt (r * 65536)).isSome && l.any (s.mem.regionOn r)

/-- The next region to sweep among `n` from region `r`. -/
def State.nextSweep (s : State) (l : List Nat) (r : Nat) : Nat → Option Nat
  | 0 => none
  | n + 1 => if s.sweepable l r then some r else s.nextSweep l (r + 1) n

/-- A slice of SWEEP: one region is filled; without one the command ends. -/
def State.sweepSlice (s : State) (tk : BitVec 32) (t : Ticket) (cmd : List Byte) : State :=
  let l := chansOf (fld cmd 0 1)
  if t.cancel then s.finish tk Code.ST_ABORTED []
  else
    match s.accessAll (l.map domDdr) with
    | (.wait, s) => s
    | (.locked, s) => s.finish tk Code.PW_DOMAIN_LOCKED []
    | (.go, s) =>
      match s.nextSweep l t.phase (2 ^ 22 - t.phase) with
      | some r => (s.ensureRegion (r * 65536)).modTicket tk fun t => { t with phase := r + 1, queued := false, progress := t.progress + 1 }
      | none => s.finish tk Code.ST_OK []

/-- SWEEP: every invalid region of the named channels (R348). -/
def sweepBody (s : State) (q : Req) : Reply :=
  if q.n 0 1 = 0 then refuse s Code.ST_BAD_PARAM else s.accept q (.sweep (bytesAt q.pay 0 1)) true 0

/-- SWEEP (R348, R461). -/
def execSweep (src : Nat) (s : State) : Out :=
  .next (s.command src { op := 0x0803, need := 1, cov := [(0, 1)], doms := chanDoms } sweepBody)

/-! ### INVALIDATE (R341, R346) -/

/-- Lines of an on-chip memory (R330, R337). -/
def memLines (m : Nat) : Nat := if memKind m = 0 then 32768 else 8192

/-- An area of an OPEN fail set meets bytes `a` to `a + n` (R461). -/
def State.openSetMeets (s : State) (a n : Nat) : Bool :=
  (List.range 16).any fun i =>
    let x := s.site i
    match x.fl.set with
    | some k => (x.fl.open_ || x.fl.closing) && (x.img.failcfg.setAreas k).any fun e => linesMeet e (a, n)
    | none => false

/-- Clear `n` lines of a memory from line `i` on. -/
def State.clearLines (s : State) (m i : Nat) : Nat → State
  | 0 => s
  | n + 1 => (s.clearLine m i).clearLines m (i + 1) n

/-- INVALIDATE: lines of an on-chip memory, or regions of a channel. -/
def invalidateBody (s : State) (q : Req) : Reply :=
  let m := q.n 0 2
  let a := q.n 8 8
  let n := q.n 0x10 8
  if memIdOk m = false then refuse s Code.ST_BAD_PARAM
  else if memKind m = 3 then
    (if a % 65536 ≠ 0 ∨ n % 65536 ≠ 0 ∨ 2 ^ 38 < a + n then refuse s Code.ST_BAD_PARAM
     else if s.openSetMeets a n then refuse s Code.ST_SET_BUSY
     else
       let gone (r : Nat) : Bool := decide (a / 65536 ≤ r) && decide (r < (a + n) / 65536) && s.mem.regionOn r (memIndex m)
       done { s with mem := { s.mem with regions := s.mem.regions.filter fun e => !gone e.1 } } [])
  else if memLines m < a + n then refuse s Code.ST_BAD_PARAM
  else if memKind m = 0 ∧ s.laneLive (memIndex m) = true then refuse s Code.ST_SITE_BUSY
  else done (s.clearLines m a n) []

/-- INVALIDATE (R341, R346, R461). -/
def execInvalidate (src : Nat) (s : State) : Out :=
  .next (s.command src { op := 0x0804, need := 0x18, cov := [(0, 2), (8, 16)], doms := memDoms } invalidateBody)

/-! ### Spare words and lines (R350 to R352) -/

/-- Entries of a remap table (R350). -/
def remapSize (m : Nat) : Nat := if memKind m = 3 then 16 else 8

/-- Word index of unit address `a` in its memory, or line index in its channel (R350). -/
def State.remapIndex (s : State) (m a : Nat) : Nat :=
  match memKind m with
  | 0 => (a - padAddr (memIndex m) 0) / 8
  | 1 => (a - casAddr (memIndex m / 8) (memIndex m % 8 * 0x40000)) / 8
  | 2 =>
    let o := a - casAddr (memIndex m / 8) 0x200000
    o / 256 * 4 + o % 32 / 8
  | _ => (s.ddrMap a).2 / 64

/-- First 64-bit word and number of words that an entry redirects. -/
def remapSpan (m a : Nat) : Nat × Nat := if memKind m = 3 then (a / 64 * 8, 8) else (a / 8, 1)

/-- Copy a word into its spare: read with correction, fresh check bits; an uncorrectable word keeps the poison syndrome (R351). -/
def State.copyToSpare (s : State) (m w : Nat) : State :=
  match s.mem.wordValid w, s.mem.wordCheck w with
  | true, some .correctable =>
    let s := s.noteCe m (8 * w)
    { s with mem := { s.mem with check := tset none s.mem.check w none } }
  | true, some .uncorrectable =>
    let s := s.notePoison m (8 * w) false
    { s with mem := { s.mem with check := tset none s.mem.check w (some .poison) } }
  | true, some .poison => s.notePoison m (8 * w) true
  | _, _ => s

/-- Copy words into their spares. -/
def State.copyWords (s : State) (m w : Nat) : Nat → State
  | 0 => s
  | n + 1 => (s.copyToSpare m w).copyWords m (w + 1) n

/-- The entry that redirects index `x`. -/
def MemStatus.entryOf (t : MemStatus) (x : Nat) : Option Nat := (t.remap.find? (·.2 == some x)).map (·.1)

/-- The lowest free entry. -/
def MemStatus.freeEntry (t : MemStatus) (m : Nat) : Option Nat := (List.range (remapSize m)).find? fun e => (tget none t.remap e).isNone

/-- Remap address `a` into entry `e`: one access of the maintenance path (R351). -/
def State.remapInto (s : State) (m a e : Nat) : State :=
  let (w, n) := remapSpan m a
  let x := s.remapIndex m a
  (s.copyWords m w n).modMemSt m fun t =>
    { t with
      remap := tset none t.remap e (some x)
      ceHist := t.ceHist.filter fun h => decide (h.1 / 8 < w) || decide (w + n ≤ h.1 / 8)
      rewrite := t.rewrite.filter fun v => decide (v < w) || decide (w + n ≤ v) }

/-- REMAP OP 0: the named address of the memory gets a spare. -/
def remapBody (s : State) (q : Req) : Reply :=
  let m := q.n 0 2
  let a := q.n 8 8
  if memIdOk m = false ∨ (s.memAt a == some m) = false then refuse s Code.ST_BAD_PARAM
  else
    match (s.memSt m).entryOf (s.remapIndex m a), (s.memSt m).freeEntry m with
    | some e, _ => done s (leBytes e 1)
    | none, some e => done (s.remapInto m a e) (leBytes e 1)
    | none, none => refuse s Code.DI_REMAP_FULL

/-- REMAP (R352, R461). -/
def execRemap (src : Nat) (s : State) : Out :=
  .next (s.command src { op := 0x0805, form := some (2, 0), need := 0x10, cov := [(0, 3), (4, 1), (8, 8)], doms := memDoms } remapBody)

/-- REMAP OP 1: the entry is freed, its spare's contents back in the original place. -/
def remapFreeBody (s : State) (q : Req) : Reply :=
  let m := q.n 0 2
  let e := q.n 4 1
  if memIdOk m = false ∨ remapSize m ≤ e ∨ (tget none (s.memSt m).remap e).isNone = true then refuse s Code.ST_BAD_PARAM
  else done (s.modMemSt m fun t => { t with remap := tset none t.remap e none }) (leBytes e 1)

/-- REMAP_FREE (R352, R461). -/
def execRemapFree (src : Nat) (s : State) : Out :=
  .next (s.command src { op := 0x0805, form := some (2, 1), need := 5, cov := [(0, 3), (4, 1), (8, 8)], doms := memDoms } remapFreeBody)

/-- REMAP_THR of MCTL (R355). -/
def mctlThr (v : BitVec 32) : Nat := bits v.toNat 24 4

/-- AUTO_REMAP (R351, R352): an address with REMAP_THR errors is remapped and posted; a full table is posted once. -/
def execAutoRemap (mem : BitVec 16) (addr : BitVec 64) (s : State) : Out :=
  .next
    (let m := mem.toNat
     let a := addr.toNat
     let t := s.memSt m
     let hits := match t.ceHist.find? (·.1 == a) with | some e => e.2 | none => 0
     if memIdOk m = false ∨ getBit (s.mctl m) 30 = false ∨ hits < mctlThr (s.mctl m) ∨ (s.dom (memDomain m)).state ≠ .on ∨
         (t.entryOf (s.remapIndex m a)).isSome = true then s
     else
       match t.freeEntry m with
       | some e => (s.remapInto m a e).postPolicy 1 m a
       | none => if t.remapFull then s else (s.modMemSt m fun t => { t with remapFull := true }).postMemory Code.DI_REMAP_FULL m a false)

/-! ### The scrubber (R353, R354, R180) -/

/-- Unit address of line `i` of a DDR channel (R344). -/
def State.ddrLine (s : State) (c i : Nat) : Nat :=
  let x := 64 * i
  if s.mem.interleave then x / 4096 * 32768 + c * 4096 + x % 4096 else c * 2 ^ 35 + x

/-- The scrubber reads word `w` (R353): a correctable error is counted and waits for its rewrite, an uncorrectable one is posted and left. -/
def State.scrubWord (s : State) (m w : Nat) : State :=
  if s.mem.wordValid w then
    match s.mem.wordCheck w with
    | none => s
    | some .correctable =>
      (s.noteCe m (8 * w)).modMemSt m fun t => { t with rewrite := if t.rewrite.contains w then t.rewrite else t.rewrite ++ [w] }
    | some c => s.notePoison m (8 * w) (c == .poison)
  else s

/-- Scrub `n` words from word `w`. -/
def State.scrubWords (s : State) (m w : Nat) : Nat → State
  | 0 => s
  | n + 1 => (s.scrubWord m w).scrubWords m (w + 1) n

/-- The scrubber rewrites what it has found correctable, unless the word was written in the meantime (R353). -/
def State.scrubRewrite (s : State) (m : Nat) : State :=
  let ws := (s.memSt m).rewrite.filter fun w => s.mem.wordValid w && s.mem.wordCheck w == some .correctable
  let s := { s with mem := { s.mem with check := ws.foldl (fun t w => tset none t w none) s.mem.check } }
  s.modMemSt m fun t => { t with rewrite := [] }

/-- No requester uses the memory's port (R331, R353). -/
def State.scrubPort (s : State) (m : Nat) : Bool :=
  memKind m != 0 || (s.ringPort (memIndex m) && !s.ring.worms.any fun w => w.place == .target && w.dest == memIndex m)

/-- SCRUB_LINE (R353): what earlier lines left to rewrite, then the line. -/
def execScrubLine (mem : BitVec 16) (line : Nat) (s : State) : Out :=
  .next
    (let m := mem.toNat
     if memIdOk m = false ∨ getBit (s.mctl m) 31 = false ∨ (s.dom (memDomain m)).state ≠ .on ∨ s.scrubPort m = false then s
     else if memKind m = 3 then
       (if (s.ddr (memIndex m)).trained = true ∧ 64 * line < (s.ddr (memIndex m)).cap then
          (s.scrubRewrite m).scrubWords m (s.ddrLine (memIndex m) line / 8) 8
        else s)
     else if line < memLines m then (s.scrubRewrite m).scrubWords m (memLine m line / 8) 4
     else s)

/-- Time of the present lap in ms. -/
def State.lapMs (s : State) (m : Nat) : Nat := (s.power.ps - (s.memSt m).lapFrom) / 1000000000

/-- LAP_RAW: 16 bits that wrap on A1 and saturate on B0 (R180). -/
def lapRaw (b0 : Bool) (ms : Nat) : Nat := if b0 then min ms 65535 else ms % 65536

/-- LAP_LIMIT of MCTL (R355). -/
def mctlLimit (v : BitVec 32) : Nat := bits v.toNat 0 16

/-- Check a lap time against the limit: DI_SCRUB_STARVED once a lap (R354). -/
def State.lapCheck (s : State) (m ms : Nat) : State :=
  let lim := mctlLimit (s.mctl m)
  if lim ≠ 0 ∧ lim < ms ∧ (s.memSt m).starved = false then
    (s.modMemSt m fun t => { t with starved := true }).postMemory Code.DI_SCRUB_STARVED m 0 false
  else s

/-- SCRUB_LAP_END (R354). -/
def execScrubLapEnd (mem : BitVec 16) (s : State) : Out :=
  .next
    (let m := mem.toNat
     if memIdOk m = false ∨ getBit (s.mctl m) 31 = false then s
     else
       let ms := s.lapMs m
       (s.lapCheck m ms).modMemSt m fun t =>
         { t with
           laps := satInc t.laps
           lastLapMs := BitVec.ofNat 32 ms
           lapFrom := s.power.ps
           lapCarry := 0
           starved := false })

/-- LAP_COUNTER_SAMPLE (R180): the firmware carries the lap time and checks it. -/
def execLapCounterSample (mem : BitVec 16) (s : State) : Out :=
  .next
    (let m := mem.toNat
     if memIdOk m = false ∨ getBit (s.mctl m) 31 = false then s
     else (s.modMemSt m fun t => { t with lapCarry := s.lapMs m }).lapCheck m (s.lapMs m))

/-! ### MEMPOLICY and MEMSTATUS (R355, R356) -/

/-- MEMPOLICY: every change is posted. -/
def mempolicyBody (s : State) (q : Req) : Reply :=
  let m := q.n 0 2
  let v : BitVec 32 := BitVec.ofNat 32 (q.n 4 4)
  if memIdOk m = false then refuse s Code.ST_BAD_PARAM
  else if bits v.toNat 28 2 ≠ 0 ∨ bits v.toNat 16 8 ≠ 0 then refuse s Code.ST_RESERVED_NONZERO
  else if mctlThr v = 0 then refuse s Code.ST_BAD_PARAM
  else if s.mctl m = v then done s []
  else done ((s.modMemSt m fun t => { t with mctlX := v ^^^ mctlReset m }).postPolicy 7 m v.toNat) []

/-- MEMPOLICY (R355, R461). -/
def execMempolicy (src : Nat) (s : State) : Out :=
  .next (s.command src { op := 0x0806, need := 8, cov := [(0, 2), (4, 4)] } mempolicyBody)

/-- The record of R356 and the remap table. -/
def State.memRecord (s : State) (m : Nat) : List Byte :=
  let t := s.memSt m
  let c := s.mctl m
  let st := b2n (getBit c 31) + 2 * b2n (getBit c 30) + 4 * b2n t.starved + 8 * b2n t.remapFull
  let es := (List.range (remapSize m)).map (tget none t.remap)
  leBytes m 2 ++ leBytes st 2 ++ leBytes (lapRaw s.id.b0 (s.lapMs m)) 2 ++ leBytes (es.countP Option.isSome) 1 ++
    leBytes (if memKind m = 3 then 0 else t.spareCols.toNat) 1 ++ leBytes t.corrected.toNat 4 ++ leBytes t.uncorrectable.toNat 4 ++
    leBytes t.poisonReads.toNat 4 ++ leBytes t.poisonWrites.toNat 4 ++ leBytes t.lastCe.toNat 8 ++ leBytes t.lastUe.toNat 8 ++
    leBytes t.laps.toNat 4 ++ leBytes t.lastLapMs.toNat 4 ++
    leBytes (if memKind m = 3 then s.mem.validRegions (memIndex m) else 0) 4 ++ leBytes t.fills.toNat 4 ++ leBytes 0 8 ++
    es.flatMap fun e => match e with | some x => leBytes (2 ^ 31 + x) 4 | none => leBytes 0 4

/-- MEMSTATUS: the record, and with CLEAR its counters are zero after it (R446). -/
def memstatusBody (s : State) (q : Req) : Reply :=
  let m := q.n 0 2
  if memIdOk m = false ∨ 1 < q.n 2 1 then refuse s Code.ST_BAD_PARAM
  else
    done
      (if q.n 2 1 = 1 then
        s.modMemSt m fun t =>
          { t with
            corrected := 0
            uncorrectable := 0
            poisonReads := 0
            poisonWrites := 0
            laps := 0
            fills := 0 }
       else s) (s.memRecord m)

/-- MEMSTATUS (R356, R461). -/
def execMemstatus (src : Nat) (s : State) : Out :=
  .next (s.command src { op := 0x0807, need := 3, cov := [(0, 3)] } memstatusBody)

/-! ### COPY (R435) -/

/-- Live COPY tickets, in order. -/
def HostState.copies (h : HostState) : List Nat :=
  h.tickets.filterMap fun e =>
    match e.2 with
    | some t => (match t.work with | .copy _ => if t.final.isNone then some e.1 else none | _ => none)
    | none => none

/-- The copy's transfer has an engine: it is among the oldest eight (R435). -/
def HostState.copyRuns (h : HostState) (tk : BitVec 32) : Bool := (h.copies.take 8).contains tk.toNat

/-- A line of the copy is on its way. -/
def State.copyBusy (s : State) (tk : BitVec 32) : Bool :=
  s.ring.worms.any fun w => match w.owner with | .dma k _ => k == tk | _ => false

/-- Ask for the next 64-byte line of a copy, from the control complex's stop, one at a time (R22, R435; DESIGN CHOICE, log entry 79). -/
def State.copyLine (s : State) (tk : BitVec 32) (t : Ticket) (cmd : List Byte) : State :=
  let o := t.progress.toNat
  let ua := fld cmd 8 8 + o
  if s.copyBusy tk then s
  else if (s.memAt ua).isNone ∨ (s.memAt (ua + 63)).isNone then s.finish tk Code.ST_ADDR_UNMAPPED t.copyData
  else
    let s := s.modTicket tk fun t => { t with queued := false }
    if fld cmd 0x14 1 = 1 then s.newWorm 80 0 1 ua (BitVec.allOnes 64) [] (.dma tk o)
    else s.newWorm 80 1 1 ua (BitVec.allOnes 64) [BitVec.ofNat 512 (leNat (s.host.read (fld cmd 0 8 + o) 64))] (.dma tk o)

/-- A slice of COPY: a cancel, a host error, or the next line toward the host; lines from the host arrive with their completions. -/
def State.copySlice (s : State) (tk : BitVec 32) (t : Ticket) (cmd : List Byte) : State :=
  if t.cancel then s.finish tk Code.ST_ABORTED t.copyData
  else if t.hostErr then s.finish tk Code.ST_DMA_HOST_ERROR t.copyData
  else if s.host.copyRuns tk = false then s
  else if fld cmd 0x14 1 = 1 then s.copyLine tk t cmd
  else s.modTicket tk fun t => { t with queued := false }

/-- COPY: 8 transfers run and 32 wait; a further one is refused (R435). -/
def copyBody (s : State) (q : Req) : Reply :=
  if q.n 0 8 % 64 ≠ 0 ∨ q.n 8 8 % 64 ≠ 0 ∨ q.n 0x10 4 % 64 ≠ 0 ∨ q.n 0x10 4 = 0 ∨ 1 < q.n 0x14 1 then refuse s Code.ST_BAD_PARAM
  else if 40 ≤ s.host.copies.length then refuse s Code.ST_BUSY
  else s.accept q (.copy (bytesAt q.pay 0 0x15)) true (q.n 0x10 4)

/-- COPY (R435, R461). -/
def execCopy (src : Nat) (s : State) : Out := .next (s.command src { op := 0x0808, need := 0x15, cov := [(0, 0x15)] } copyBody)

end Sys2Proof.Machine
end

