-- ==== Sys2Proof/Machine/Lanes.lean ====
section
/-! DEFINITION. The lane commands (R182, R359, R361, R363, R365, R367, R368, R373, R380, R462) and the lanes' own events: lock,
electrical idle, link idle, eye sweeps. -/

namespace Sys2Proof.Machine

/-- The domain of the quad of the lane in byte 0. -/
def laneDoms (_ : State) (q : Req) : List Nat := if q.n 0 1 < 64 then [domQuad (q.n 0 1 / 4)] else []

/-- FREEZE and LINK_IDLE of LCTL (R363). -/
def Lane.frozen (l : Lane) : Bool := getBit l.lctl 18
def Lane.linkIdle (l : Lane) : Bool := getBit l.lctl 19

/-! ### Adaptation (R364, R365) -/

/-- Adapt a lane's equaliser: while it holds lock, is not idle and FREEZE is 0, the code and the taps take open values; taps
beyond the second stay within a quarter of the first (R364, R365). -/
def State.adapt (s : State) (i : Nat) : State :=
  let l := s.lane i
  if l.lock = false ∨ l.rxIdle = true ∨ l.frozen = true then s
  else
    let f := s.freeCtr
    let w := (Config.freeWide (f + 1)).toNat
    let first := sext w 8
    let q : Int := first.natAbs / 4
    let tap (t : Nat) : Int := let x := sext (w >>> (8 * t)) 8; if t < 2 then x else clampInt (-q) q x
    let dfe := (List.range 10).foldl (fun a t => a + (BitVec.ofInt 8 (tap t)).toNat * 2 ^ (8 * t)) 0
    ({ s with freeCtr := f + 2 } : State).modLane i fun l =>
      { l with phy := { l.phy with ctle := BitVec.ofNat 8 (bits (Config.freeWord f).toNat 0 5), dfe := BitVec.ofNat 80 dfe } }

/-! ### LANE_MODE and LANE_CTL (R182, R359, R363, R365) -/

/-- The lane as a mode command leaves it. -/
def Lane.enter (l : Lane) (m : LaneMode) (rate : Nat) : Lane :=
  { l.clearRun with
    mode := m
    rate := if m = .idle then 0 else rate
    cfg := {}
    masks := {}
    lock := l.lock && l.mode == m && l.rate == rate
    fcnt := if l.mode = .pin ∧ m = .pin then l.fcnt else 0
    rxFcnt := none
    link := {}
    txIdle := m == .idle || m == .direct
    exiting := false }

/-- LANE_MODE: a lane whose sash belongs to no site and which nothing uses (R182, R359). -/
def laneModeBody (s : State) (q : Req) : Reply :=
  let i := q.n 0 1
  let rate := q.n 4 4
  match laneModeOf (q.n 1 1) with
  | none => refuse s Code.ST_BAD_PARAM
  | some m =>
    if 64 ≤ i ∨ (m ≠ .idle ∧ rateOk rate = false) then refuse s Code.ST_BAD_PARAM
    else if (s.siteOf i).isSome ∨ s.laneTaken i = true then refuse s Code.ST_FIELD_BUSY
    else if (s.lane i).calib.isSome then refuse s Code.ST_LANE_BUSY
    else if m = .idle then done ((s.modLane i fun l => l.enter m 0).settleQuads) []
    else
      let keep (j : Nat) : Bool := j != i
      if s.quadsFit [(i, rate)] keep = false then refuse s Code.ST_LANE_BUSY
      else done ((s.setQuadRates [(i, rate)] keep).modLane i fun l => l.enter m rate) []

/-- LANE_MODE (R182, R462). -/
def execLaneMode (src : Nat) (s : State) : Out :=
  .next (s.command src { op := 0x0901, need := 8, cov := [(0, 2), (4, 4)], doms := laneDoms } laneModeBody)

/-- Lane `i` carries a hinge role of its site (R138, R372). -/
def State.hingeRole (s : State) (i : Nat) : Bool :=
  match s.siteOf i with
  | some n => (s.site n).img.links.any fun k => decide (k.role < 2) && ((s.site n).img.sashes[k.vsash]? == some i)
  | none => false

/-- The lane counts as running: its site is ARMED or RUNNING, or a stream or the keyhole uses it (R363). -/
def State.laneRuns (s : State) (i : Nat) : Bool := s.laneLive i || s.laneTaken i

/-- The class S fields of LCTL: all but FREEZE. -/
def lctlS (v : BitVec 32) : BitVec 32 := v &&& ~~~(0x40000 : BitVec 32)

/-- LANE_CTL: class S fields only while the lane does not run; a change of FREEZE is posted (R363, R365, R372). -/
def laneCtlBody (s : State) (q : Req) : Reply :=
  let i := q.n 0 1
  let v : BitVec 32 := BitVec.ofNat 32 (q.n 4 4)
  if 64 ≤ i then refuse s Code.ST_BAD_PARAM
  else if bits v.toNat 20 12 ≠ 0 ∨ bits v.toNat 12 4 ≠ 0 then refuse s Code.ST_RESERVED_NONZERO
  else if 18 < bits v.toNat 8 4 + bits v.toNat 4 4 ∨ (getBit v 19 = true ∧ s.hingeRole i = true) then refuse s Code.ST_BAD_PARAM
  else if lctlS v ≠ lctlS (s.lane i).lctl ∧ s.laneRuns i = true then refuse s Code.ST_FIELD_BUSY
  else
    let was := (s.lane i).frozen
    let s := if getBit v 18 && !was then s.adapt i else s
    let s := s.modLane i fun l => { l with lctl := v }
    done (if getBit v 18 = was then s else s.postPolicy 3 i (b2n (getBit v 18))) []

/-- LANE_CTL (R363, R365, R462). -/
def execLaneCtl (src : Nat) (s : State) : Out :=
  .next (s.command src { op := 0x0902, need := 8, cov := [(0, 1), (4, 4)], doms := laneDoms } laneCtlBody)

/-! ### DESKEW, REFSPREAD and MARGIN (R199, R361, R367) -/

/-- The lane's site is in its load, or counts as live (R199). -/
def State.deskewBusy (s : State) (i : Nat) : Bool :=
  match s.siteOf i with
  | some n => s.laneLive i || (s.site n).state == .loading
  | none => false

/-- DESKEW: the calibration record is written as given (R199, R462). -/
def deskewBody (s : State) (q : Req) : Reply :=
  let i := q.n 0 1
  if 64 ≤ i ∨ 1023 < q.n 2 2 ∨ 63 < q.n 4 1 ∨ 5 < q.n 5 1 ∨ rateOk (q.n 8 4) = false then refuse s Code.ST_BAD_PARAM
  else if s.deskewBusy i = true then refuse s Code.ST_LANE_BUSY
  else
    let r : CalRec :=
      { delayUi := q.n 2 2
        delayFrac := q.n 4 1
        off := tfill 0 [] 0 (bytesAt q.pay 0x0C 32)
        rate := q.n 8 4
        plog := q.n 5 1 }
    done (s.modLane i fun l => { l with cal := some r }) []

/-- DESKEW (R199, R462). -/
def execDeskew (src : Nat) (s : State) : Out :=
  .next (s.command src { op := 0x0903, need := 0x2C, cov := [(0, 1), (2, 4), (8, 36)] } deskewBody)

/-- REFSPREAD: class S while any lane is out of idle mode (R361). -/
def refspreadBody (s : State) (q : Req) : Reply :=
  if 5000 < q.n 0 2 then refuse s Code.ST_BAD_PARAM
  else if (List.range 64).any fun i => (s.lane i).mode != .idle then refuse s Code.ST_FIELD_BUSY
  else done { s with power := { s.power with clk := { s.power.clk with spread := q.n 0 2 } } } []

/-- REFSPREAD (R361, R462). -/
def execRefspread (src : Nat) (s : State) : Out := .next (s.command src { op := 0x0904, need := 2, cov := [(0, 2)] } refspreadBody)

/-- MARGIN: H_MIN and V_MIN; zero turns a check off (R367). -/
def marginBody (s : State) (q : Req) : Reply :=
  let i := q.n 0 1
  if 64 ≤ i then refuse s Code.ST_BAD_PARAM
  else done (s.modLane i fun l => { l with phy := { l.phy with hMin := BitVec.ofNat 8 (q.n 2 1), vMin := BitVec.ofNat 16 (q.n 4 2) } }) []

/-- MARGIN (R367, R462). -/
def execMargin (src : Nat) (s : State) : Out :=
  .next (s.command src { op := 0x0905, need := 6, cov := [(0, 1), (2, 1), (4, 2)] } marginBody)

/-! ### Electrical idle (R368 to R372) -/

/-- IDLE OP 0: the transmitter of a lane that is not running goes idle (R368). -/
def laneIdleEnterBody (s : State) (q : Req) : Reply :=
  let i := q.n 0 1
  if 64 ≤ i then refuse s Code.ST_BAD_PARAM
  else if s.laneRuns i then refuse s Code.ST_FIELD_BUSY
  else done (s.modLane i fun l => { l with txIdle := true, exiting := false }) []

/-- LANE_IDLE_ENTER (R368, R462). -/
def execLaneIdleEnter (src : Nat) (s : State) : Out :=
  .next (s.command src { op := 0x0906, form := some (1, 0), need := 2, cov := [(0, 2)], doms := laneDoms } laneIdleEnterBody)

/-- IDLE OP 1: the transmitter turns on and sends its burst (R369); a lane in idle mode stays idle. -/
def laneIdleExitBody (s : State) (q : Req) : Reply :=
  let i := q.n 0 1
  if 64 ≤ i then refuse s Code.ST_BAD_PARAM
  else if s.laneRuns i then refuse s Code.ST_FIELD_BUSY
  else done (s.modLane i fun l => { l with exiting := l.txIdle && l.mode != .idle }) []

/-- LANE_IDLE_EXIT (R369, R462). -/
def execLaneIdleExit (src : Nat) (s : State) : Out :=
  .next (s.command src { op := 0x0906, form := some (1, 1), need := 2, cov := [(0, 2)], doms := laneDoms } laneIdleExitBody)

/-- The fault a lane's mode gives when it goes down (R370, R380). -/
def Lane.downCode (l : Lane) : Status := if l.mode = .link then Code.TF_LINK_DOWN else Code.TF_PIN_LANE_DOWN

/-- The lane loses its lock: an armed or running site faults, but not over a stream lane, whose loss is its link's (R322), and a pin lane's
loss in any other state is posted (R197, R362, R370). -/
def State.laneDown (s : State) (i : Nat) : State :=
  let s := (s.adapt i).modLane i fun l => { l with lock := false, rxFcnt := none }
  if s.laneLive i = true ∧ (s.lane i).mode ≠ .stream then s.faultSashNow i (s.lane i).downCode 0xFF 0
  else if (s.lane i).mode = .pin then s.postLane Code.ST_OK ((s.siteOf i).getD 0xFF) i 3 0 0
  else s

/-- FAR_END_IDLE (R368): EIDLE blocks received; lock and equaliser values are held. -/
def execFarEndIdle (lane : Fin 64) (s : State) : Out :=
  .next
    (let l := s.lane lane.val
     if l.lock = true ∧ (l.mode = .pin ∨ l.mode = .link) then (s.adapt lane.val).modLane lane.val fun l => { l with rxIdle := true } else s)

/-- IDLE_EXIT_BURST_DONE (R369, R370): the burst's first blocks follow; with an invalid header the receiver searches again. -/
def execIdleExitBurstDone (lane : Fin 64) (headersValid : Bool) (s : State) : Out :=
  .next
    (let i := lane.val
     let l := s.lane i
     let s := if l.exiting then s.modLane i fun l => { l with txIdle := false, exiting := false, fcnt := 0 } else s
     if l.rxIdle = false ∨ l.lock = false then s
     else
       let s := s.modLane i fun l => { l with rxIdle := false, phy := { l.phy with idleExits := satInc l.phy.idleExits } }
       if headersValid then s
       else (s.modLane i fun l => { l with phy := { l.phy with slowExits := satInc l.phy.slowExits } }).laneDown i)

/-- T_exit in ps: 40 ns and 4,096 UI (R369). -/
def exitPs (rate : Nat) : Nat := ceilDiv (40000 * rate + 4096 * 1000000) rate

/-- IDLE_LEAD in steps (R372). -/
def State.idleLead (s : State) (rate : Nat) : Nat := ceilDiv (exitPs rate) s.stepPs + 8

/-- Steps at which bundles start on the link lane of stop `i`: its link tags, and routes that send on the lane (R104, R123). -/
def Stop.linkSteps (x : Stop) : List Nat :=
  (x.active.tags.filterMap fun e => if tgValid e.2 && tgLnk e.2 then some (tgLaunch e.2) else none) ++
    x.active.routes.filterMap fun e => if rtValid e.2 && rtAct e.2 == 2 then some (rtStep e.2) else none

/-- The gap from the end of the lane's last frame to the next cycle's first LINK_STEP (R124, R372). -/
def State.linkGap (s : State) (n i : Nat) : Nat :=
  let ls := (s.stop i).linkSteps
  let first := ls.foldl min (ls.headD 0)
  let last := ls.foldl max 0
  (s.site n).img.sched + (s.site n).img.linkExch + 6 + first - (last + ceilDiv (594 * 1000000) ((s.lane i).rate * s.stepPs))

/-- LINK_IDLE_ENTRY (R372): after the last frame, when the gap is long enough. -/
def execLinkIdleEntry (lane : Fin 64) (s : State) : Out :=
  .next
    (let i := lane.val
     let l := s.lane i
     match s.siteOf i with
     | none => s
     | some n =>
       if l.mode = .link ∧ l.linkIdle = true ∧ l.txIdle = false ∧ l.link.tx = [] ∧ s.hingeRole i = false ∧ l.rate ≠ 0 ∧
           s.idleLead l.rate + 64 ≤ s.linkGap n i then
         s.modLane i fun l => { l with txIdle := true, exiting := false }
       else s)

/-- LINK_IDLE_EXIT (R372): IDLE_LEAD steps before the first LINK_STEP the lane begins its exit. -/
def execLinkIdleExit (lane : Fin 64) (s : State) : Out :=
  .next
    (let l := s.lane lane.val
     if l.mode = .link ∧ l.linkIdle = true ∧ l.txIdle = true then s.modLane lane.val fun l => { l with exiting := true } else s)

/-! ### Lock (R357, R358, R362, R371) -/

/-- The lane's quad runs: its PLL is locked and its domain is ON (R357, R358). -/
def State.quadRuns (s : State) (i : Nat) : Bool := (s.quad (i / 4)).lock && (s.dom (domQuad (i / 4))).state == .on

/-- BLOCK_LOCK_ACQUIRED (R362). -/
def execBlockLockAcquired (lane : Fin 64) (s : State) : Out :=
  .next
    (let l := s.lane lane.val
     if s.quadRuns lane.val = true ∧ l.lock = false ∧ (l.mode = .pin ∨ l.mode = .link ∨ l.mode = .stream) then
       s.modLane lane.val fun l => { l with lock := true, rxIdle := false }
     else s)

/-- BLOCK_LOCK_LOSS (R362, R380): counted; an armed or running site faults. -/
def execBlockLockLoss (lane : Fin 64) (s : State) : Out :=
  .next
    (let l := s.lane lane.val
     if l.lock = true ∧ (l.mode = .pin ∨ l.mode = .link ∨ l.mode = .stream) then
       (s.modLane lane.val fun l => { l with phy := { l.phy with blockLoss := satInc l.phy.blockLoss } }).laneDown lane.val
     else s)

/-- CDR_LOCK_ACQUIRED (R362, R371). -/
def execCdrLockAcquired (lane : Fin 64) (s : State) : Out :=
  .next
    (let l := s.lane lane.val
     if s.quadRuns lane.val = true ∧ (l.mode = .direct ∨ l.mode = .keyhole) then s.modLane lane.val fun l => { l with lock := true, rxIdle := false }
     else s)

/-- CDR_LOCK_LOSS (R362). -/
def execCdrLockLoss (lane : Fin 64) (s : State) : Out :=
  .next
    (let l := s.lane lane.val
     if l.lock = true ∧ (l.mode = .direct ∨ l.mode = .keyhole) then (s.adapt lane.val).modLane lane.val fun l => { l with lock := false }
     else s)

/-- QUAD_PLL_LOCK (R358): a PLL with a non-zero QRATE and its reference. -/
def execQuadPllLock (quad : Fin 16) (s : State) : Out :=
  .next
    (let x := s.quad quad.val
     if x.qrate ≠ 0 ∧ s.power.clk.refLane = true ∧ (s.dom (domQuad quad.val)).state = .on then s.setQuad quad.val { x with lock := true } else s)

/-! ### Eye sweeps (R366, R367) -/

/-- A sweep's values lie below a limit that is on (R367). -/
def PhyStatus.below (p : PhyStatus) (h : BitVec 8) (v : BitVec 16) : Bool :=
  (p.hMin != 0 && decide (h.toNat < p.hMin.toNat)) || (p.vMin != 0 && decide (v.toNat < p.vMin.toNat))

/-- EYE_SWEEP_DONE (R366, R367). -/
def execEyeSweepDone (lane : Fin 64) (eyeH : BitVec 8) (eyeV : BitVec 16) (s : State) : Out :=
  .next
    (let i := lane.val
     let l := s.lane i
     if l.lock = false then s
     else
       let low := l.phy.below eyeH eyeV
       let s := s.modLane i fun l => { l with phy := { l.phy with eyeH := eyeH, eyeV := eyeV, eyeAt := s.power.ps, under := low } }
       if low = l.phy.under then s
       else s.postLane Code.ST_OK ((s.siteOf i).getD 0xFF) i (if low then 1 else 2) eyeH eyeV)

/-! ### BITSLIP and PHY_STATUS (R373, R380) -/

/-- BITSLIP: a direct-mode lane that holds CDR lock (R179, R373). -/
def bitslipBody (s : State) (q : Req) : Reply :=
  let i := q.n 0 1
  let n := q.n 1 1
  if 64 ≤ i ∨ n = 0 ∨ 63 < n ∨ (s.lane i).mode ≠ .direct ∨ (s.lane i).lock = false then refuse s Code.ST_BAD_PARAM
  else done (s.modLane i fun l => { l with slip := (l.slip + n) % 32, slipDue := l.slipDue + n, phy := { l.phy with slips := satAdd l.phy.slips n } }) []

/-- BITSLIP (R373, R462). -/
def execBitslip (src : Nat) (s : State) : Out :=
  .next (s.command src { op := 0x0907, need := 2, cov := [(0, 2)], doms := laneDoms } bitslipBody)

/-- The record of R380. -/
def State.phyRecord (s : State) (i : Nat) : List Byte :=
  let l := s.lane i
  let p := l.phy
  let blk := l.lock && (l.mode == .pin || l.mode == .link || l.mode == .stream)
  let st := b2n l.lock + 2 * b2n blk + 4 * b2n l.txIdle + 8 * b2n l.rxIdle + 16 * b2n l.frozen + 32 * b2n p.under
  leBytes i 1 ++ leBytes st 1 ++ leBytes (if l.mode = .idle then 0 else l.rate) 2 ++ leBytes p.ctle.toNat 2 ++ leBytes p.dfe.toNat 10 ++
    leBytes p.eyeH.toNat 2 ++ leBytes p.eyeV.toNat 2 ++ leBytes (min ((s.power.ps - p.eyeAt) / 1000000) (2 ^ 32 - 1)) 4 ++
    leBytes p.blockLoss.toNat 2 ++ leBytes p.idleExits.toNat 2 ++ leBytes p.slowExits.toNat 2 ++ leBytes p.slips.toNat 2 ++
    leBytes p.lastTx.toNat 16 ++ leBytes p.lastRx.toNat 16

/-- PHY_STATUS: the record, and with CLEAR its counters are zero after it (R380, R446). -/
def phyStatusBody (s : State) (q : Req) : Reply :=
  let i := q.n 0 1
  if 64 ≤ i ∨ 1 < q.n 1 1 then refuse s Code.ST_BAD_PARAM
  else
    let s := s.adapt i
    done
      (if q.n 1 1 = 1 then s.modLane i fun l => { l with phy := { l.phy with blockLoss := 0, idleExits := 0, slowExits := 0, slips := 0 } }
       else s) (s.phyRecord i)

/-- PHY_STATUS (R380, R462). -/
def execPhyStatus (src : Nat) (s : State) : Out := .next (s.command src { op := 0x0908, need := 2, cov := [(0, 2)] } phyStatusBody)

end Sys2Proof.Machine
end

