-- ==== Sys2Proof/Machine/Relay.lean ====
section
/-! DEFINITION. Chain frames received (R385 to R389), and the relay of commands and responses they carry (R396, R397, R430,
R431): MBX_FRAME, MBX_ACK_FRAME, MBX_RETRANSMIT. -/

namespace Sys2Proof

open Sys2Proof.Machine

/-- The frame with another header and payload: CRC32 is regenerated, and a bad one stays bad (R387). -/
def ChainFrame.modify (f : ChainFrame) (hdr : BitVec 64) (pay : List Byte) : ChainFrame :=
  let c := frameCrc hdr pay
  { f with hdr := hdr, payload := pay, crc := if f.crcOk then c else ~~~c }

/-- The frame with SEEN as given (R384, R388). -/
def ChainFrame.mark (f : ChainFrame) (b : Bool) : ChainFrame := f.modify (putBit f.hdr 15 b) f.payload

end Sys2Proof

namespace Sys2Proof.Machine

/-! ### Frames received (R385 to R389) -/

/-- The frame types R385 lists. -/
def knownType (t : Nat) : Bool := decide (0x31 ≤ t ∧ t ≤ 0x38)

/-- The unit has an address (R389). -/
def ChainState.addressed (c : ChainState) : Bool := c.ua != uaNone

/-- The frame is received in the forward direction: on CYN_IN, or turned forward here at a broken CYN_IN (R387, R394). -/
def ChainState.forwardRx (c : ChainState) (f : ChainFrame) : Bool := f.forward || c.inp.broken

/-- Count a bad CRC32 on the port the frame came in by (R387). -/
def ChainState.countCrc (c : ChainState) (f : ChainFrame) : ChainState :=
  if f.crcOk then c
  else if f.forward then { c with inp := { c.inp with crc := satInc c.inp.crc } }
  else { c with out := { c.out with crc := satInc c.out.crc } }

/-- This unit is meant to act on the frame (R387, R389). -/
def ChainState.destines (c : ChainState) (f : ChainFrame) : Bool :=
  if c.addressed then f.dst == c.ua || f.dst == uaBroadcast
  else f.dst == uaBroadcast && (f.typ == ftEnum || f.typ == ftTime)

/-- A gateway takes a frame that names another segment, and one that came in through it and has gone round (R399). -/
def ChainState.gatewayTakes (c : ChainState) (f : ChainFrame) : Bool :=
  c.gw.isSome && gatewayType f.typ &&
    (uaSegment f.src != uaSegment c.ua || (f.dst != uaBroadcast && uaSegment f.dst != uaSegment c.ua && !(c.gwPeers f).isEmpty))

/-- Pass a frame on in the forward direction; the head marks it SEEN (R386, R388). -/
def ChainState.passOn (c : ChainState) (f : ChainFrame) : ChainState := c.emit (if c.head then f.mark true else f)

/-- Discard a frame at its destination, and count it (R385). -/
def ChainState.discard (c : ChainState) : ChainState := { c with discards := satInc c.discards }

/-- What reception in the forward direction makes of a frame: kept here, and passed on or not. -/
structure Arrived where
  /-- the unit acts on it -/
  act : Bool
  /-- the frame is this unit's own and has gone round -/
  own : Bool
  chain : ChainState

/-- The frame is the unit's own, gone round: its SRC is the unit's UA, and a unit without an address knows the message it waits for
(R388, R389). -/
def ChainState.sentIt (c : ChainState) (f : ChainFrame) : Bool :=
  f.src == c.ua &&
    (c.addressed ||
      (f.typ == ftMbx && c.relays.any fun r => r.ua == f.dst && r.seq == BitVec.ofNat 8 f.aux && r.isResp == bit f.aux 10))

/-- Receive a frame in the forward direction: SEEN, CRC32, own frames, gateway, destination (R385 to R389, R399). -/
def ChainState.arrive (c : ChainState) (f : ChainFrame) : Arrived :=
  let c := c.countCrc f
  if c.sentIt f && f.crcOk then { act := false, own := true, chain := c }
  else if c.head && f.seen then { act := false, own := false, chain := { c with seenDrops := satInc c.seenDrops } }
  else
    let mine := c.destines f
    let takes := c.gatewayTakes f
    let out := if takes && uaSegment f.src == uaSegment c.ua || f.dst == uaBroadcast && uaSegment f.src == uaSegment c.ua
      then (c.gwPeers f).map fun p => (p, f) else []
    let good := f.valid
    let c := if good then { c with datagrams := out ++ c.datagrams } else c
    let c := if (f.crcOk && takes) || (mine && f.dst != uaBroadcast) then c else c.passOn f
    if mine && !good then { act := false, own := false, chain := c.discard } else { act := mine, own := false, chain := c }

/-! ### Breaks (R393, R394) -/

/-- The UA of a position in a segment (R389). -/
def uaOf (seg pos : Nat) : BitVec 18 := BitVec.ofNat 18 (seg * 1024 + pos)

/-- The port of a number: 0 CYN_IN, 1 CYN_OUT (R385). -/
def ChainState.port (c : ChainState) : ChainPort → Port
  | .cynIn => c.inp
  | .cynOut => c.out
def ChainState.setPort (c : ChainState) (p : ChainPort) (x : Port) : ChainState :=
  match p with
  | .cynIn => { c with inp := x }
  | .cynOut => { c with out := x }
def portNum : ChainPort → Nat
  | .cynIn => 0
  | .cynOut => 1

/-- The hop a report names: hop k runs from physical position k to k + 1 (R381). -/
def hopOf (n : Nat) (r : BitVec 18 × Nat × Nat) : Nat := if r.2.1 = 1 then r.2.2 else (r.2.2 + n - 1) % max 1 n

/-- The hops reported broken. -/
def ChainState.cuts (c : ChainState) : List Nat := (c.breaks.map (hopOf c.nunits.toNat)).dedup

/-- Physical positions the head still reaches: up to the lowest cut forward, and from above the highest one (R394). -/
def ChainState.reach (c : ChainState) : Nat × Nat :=
  (c.cuts.foldl min c.nunits.toNat, c.cuts.foldl (fun m k => max m (k + 1)) 0)

/-- The head takes a break report: posted, and CH_CHAIN_SPLIT with the positions it can still reach at a second cut (R393, R394). -/
def State.breakReport (s : State) (ua : BitVec 18) (port phys : Nat) (broken : Bool) : State :=
  let was := s.chain.cuts.length
  let l := s.chain.breaks.filter fun r => !(r.1 == ua && r.2.1 == port)
  if broken then
    let s : State := { s with chain := { s.chain with breaks := l ++ [(ua, port, phys)] } }
    let s := s.postChain Code.CH_CHAIN_BREAK port ua phys
    if 2 ≤ s.chain.cuts.length ∧ was < s.chain.cuts.length then
      s.post 0x09 Code.CH_CHAIN_SPLIT 0xFF port 0
        (leBytes ua.toNat 4 ++ leBytes phys 2 ++ leBytes 0 2 ++ leBytes s.chain.reach.1 2 ++ leBytes s.chain.reach.2 2)
    else s
  else ({ s with chain := { s.chain with breaks := l } } : State).postChain Code.ST_OK port ua phys

/-- Tell the head of a break or a heal on a port of this unit (R393, R395). -/
def State.tellHead (s : State) (port : Nat) (broken : Bool) : State :=
  if s.chain.addressed = false then s
  else if s.chain.head then s.breakReport s.chain.ua port s.chain.phys.toNat broken
  else s.send (s.frame ftBreak (uaOf (uaSegment s.chain.ua) 0) (port + b2n broken * 2) (leBytes s.chain.phys.toNat 8))

/-- A port is broken: electrical idle on it, a report, and the wrap (R393, R394). -/
def State.portBreak (s : State) (port : ChainPort) : State :=
  let x := s.chain.port port
  if x.broken then s
  else
    let c := s.chain.setPort port { x with lock := false, broken := true, idling := true, healed := 0, crcAt := [] }
    ({ s with chain := { c with breakCount := satInc c.breakCount } } : State).tellHead (portNum port) true

/-- A frame's CRC32 has failed on the port it came in by: the 16th failure within 1 ms breaks the port (R393). -/
def State.afterCrc (s : State) (f : ChainFrame) : State :=
  if f.crcOk then s
  else
    let p : ChainPort := if f.forward then .cynIn else .cynOut
    let x := s.chain.port p
    let l := ((s.power.ps :: x.crcAt).filter fun t => decide (s.power.ps < t + 1000000000)).take 16
    let s : State := { s with chain := s.chain.setPort p { x with crcAt := l } }
    if 16 ≤ l.length then s.portBreak p else s

/-! ### Answers to relayed commands (R430) -/

/-- The request that waits at a channel or slot for other units' answers. -/
def State.parked (s : State) (src : Nat) : Option Req :=
  if src < 16 then (if (s.chan src).relayed then some (parseReq src s.chain.ua (s.chan src).copy) else none)
  else (tget none s.chain.slots src).map fun r => parseReq src r.from_ r.cmd

/-- Every answer of a gather is in: a command that waits for it is answered (R411, R455). -/
def State.gathered (s : State) (id : Nat) : State :=
  match s.gather id with
  | none => s
  | some g =>
    if g.left ≠ 0 ∨ id < 2 ^ 32 then s
    else
      let s := s.endGather id
      match s.parked (id - 2 ^ 32) with
      | none => s
      | some q =>
        match g.bad with
        | none => s.reply q Code.ST_OK [] 0
        | some st =>
          let s := g.sites.foldl (fun s n =>
            (if (s.site n).img.root then s.tellParts n 0x0305 (runPay (s.site n).img 0) else s).cancelStartAt n) s
          s.reply q st [] 0

/-- An answer to a question of a gather. -/
def State.gatherAnswer (s : State) (id part : Nat) (st : Status) (pay : List Byte) : State :=
  match s.gather id with
  | none => s
  | some g =>
    let ok := st == Code.ST_OK
    let g := { g with left := g.left - 1, answers := g.answers ++ [(part, pay)], bad := if ok then g.bad else g.bad.or (some st) }
    ({ s with chain := { s.chain with gathers := tset none s.chain.gathers id (some g) } } : State).gathered id

/-- Give the answer of a relayed command to whom it belongs: its response record (R426, R430). -/
def State.answer (s : State) (r : Relay) (resp : List Byte) : State :=
  match r.owner with
  | .chan ch => if (s.chan ch).state = .busy ∧ (s.chan ch).relayed = true then s.channelDone ch resp (bit (fld r.cmd 10 2) 0) else s
  | .slot n =>
    match s.parked n with
    | some q => s.reply q (BitVec.ofNat 16 (fld resp 4 2)) (bytesAt resp 16 (min 240 (fld resp 6 2))) (BitVec.ofNat 32 (fld resp 8 4))
    | none => s
  | .gather id part => s.gatherAnswer id part (BitVec.ofNat 16 (fld resp 4 2)) (bytesAt resp 16 (min 240 (fld resp 6 2)))
  | .none => s

/-- Answer a relay with a code of this unit's own: CH_RELAY_TIMEOUT or CH_UA_UNKNOWN (R388, R396). -/
def State.failRelay (s : State) (r : Relay) (st : Status) : State :=
  if r.isResp then s else s.answer r (respBytes (fld r.cmd 0 2) (fld r.cmd 2 2) st [] 0 s.chain.ua)

/-- Take a relay off the list. -/
def State.dropRelay (s : State) (r : Relay) : State := { s with chain := { s.chain with relays := s.chain.relays.erase r } }

/-- Replace a relay of the list. -/
def State.setRelay (s : State) (r r' : Relay) : State :=
  { s with chain := { s.chain with relays := s.chain.relays.map fun x => if x = r then r' else x } }

/-- SEQ, FRAG, LAST and RESP of an MBX or MBX_ACK frame (R385). -/
def mbxSeq (f : ChainFrame) : BitVec 8 := BitVec.ofNat 8 f.aux
def mbxFrag (f : ChainFrame) : Nat := bits f.aux 8 1
def mbxLast (f : ChainFrame) : Bool := bit f.aux 9
def mbxResp (f : ChainFrame) : Bool := bit f.aux 10

/-- The relay a frame from its target belongs to. -/
def State.relayOf (s : State) (f : ChainFrame) (isResp : Bool) : Option Relay :=
  s.chain.relays.find? fun r => r.ua == f.src && r.seq == mbxSeq f && r.isResp == isResp

/-- The tickets of broadcasts with a SEQ (R397). -/
def ChainState.bcastTicket (c : ChainState) (seq : BitVec 8) : Option (BitVec 32) := (c.bcasts.find? (·.1 == seq)).map (·.2)

/-- Units a broadcast has reached: the head of a segment without a gateway knows N; elsewhere the number is a free value (R397). -/
def State.reached (s : State) : Nat × State :=
  if s.chain.head && s.chain.gw.isNone && !s.chain.otherGw then (s.chain.nunits.toNat, s)
  else let (f, s) := s.drawFree; ((Config.freeWord f).toNat % 65536, s)

/-- A broadcast command has gone round: its ticket ends, with the first refusal heard (R397). -/
def State.bcastReturned (s : State) (seq : BitVec 8) : State :=
  match s.chain.bcastTicket seq with
  | none => s
  | some tk =>
    let (n, s) := s.reached
    let st : Status := match s.ticket tk with | some t => if t.phase = 0 then Code.ST_OK else BitVec.ofNat 16 t.phase | none => Code.ST_OK
    let s : State := { s with chain := { s.chain with bcasts := s.chain.bcasts.filter (·.1 != seq) } }
    s.finish tk st (leBytes n 2)

/-- A unit refuses a broadcast command (R397). -/
def State.bcastRefused (s : State) (seq : BitVec 8) (resp : List Byte) : State :=
  match s.chain.bcastTicket seq with
  | none => s
  | some tk =>
    s.modTicket tk fun t =>
      if t.phase = 0 ∧ fld resp 0 2 = t.opcode.toNat then { t with phase := fld resp 4 2 } else t

/-- A frame of this unit comes back (R388, R397). -/
def State.returned (s : State) (f : ChainFrame) : State :=
  if f.dst = uaBroadcast then
    if f.typ = ftMbx ∧ mbxLast f = true ∧ mbxResp f = false then s.bcastReturned (mbxSeq f) else s
  else
    let s : State := { s with chain := { s.chain with uaUnknown := satInc s.chain.uaUnknown } }
    match (if f.typ = ftMbx then s.chain.relays.find? fun r => r.ua == f.dst && r.seq == mbxSeq f && r.isResp == mbxResp f else none) with
    | some r => if r.isResp then (s.dropRelay r).postChain Code.CH_UA_UNKNOWN 0 f.dst 0 else (s.dropRelay r).failRelay r Code.CH_UA_UNKNOWN
    | none => s.postChain Code.CH_UA_UNKNOWN 0 f.dst 0

/-- Receive a frame of type `typ`; `act` is what it does at its destination. A frame received in the reverse direction is only
retimed (R387); one of another type R385 lists is another row's. -/
def State.chainRx (s : State) (f : ChainFrame) (typ : Nat) (act : State → State) : State :=
  if f.typ ≠ typ ∧ knownType f.typ = true then s
  else if s.chain.forwardRx f = false then ({ s with chain := (s.chain.countCrc f).emitBack f } : State).afterCrc f
  else
    let a := s.chain.arrive f
    let s : State := { s with chain := a.chain }
    if a.own then s.returned f else if a.act then act s else s.afterCrc f

/-! ### The firmware's own messages (R144, R157, R176, R399) -/

/-- Forms of the messages that tell of a segment's gateway. -/
def ownGateway : Nat := 5
def ownNoGateway : Nat := 6

/-- The site an own message names by IMAGE_ID. -/
def State.ownSite (s : State) (id : Nat) : Option Nat :=
  (List.range 16).find? fun n => (s.site n).img.id.toNat == id && (s.site n).img.nparts != 0

/-- Arm a part as its part 0 asks; none while a domain wakes (R144, R175, R176). -/
def State.armPart (s : State) (n k : Nat) : Option Status × State :=
  let k := if (s.site n).img.failcfg.present then k else 0xFF
  match s.armCheck n k (decide (1000000000 ≤ s.power.ps - (s.site n).armAt)) with
  | (.refuse st, s) => (some st, s)
  | (.wait, s) => (none, s)
  | (.go, s) =>
    match s.armNow n k with
    | (some st, s) => (some st, s)
    | (none, s) => (some Code.ST_OK, s)

/-- Serve the message of its own that another unit's firmware sent to slot `src`. -/
def State.ownRequest (s : State) (src : Nat) : State :=
  match s.request src with
  | none => s
  | some q =>
    if q.own = false ∨ q.opcode ≠ ownOpcode then s
    else
      let site := s.ownSite (q.n 8 8)
      let form := q.n 0 8
      if form = ownGateway then (({ s with chain := { s.chain with otherGw := true } } : State)).reply q Code.ST_OK [] 0
      else if form = ownNoGateway then (({ s with chain := { s.chain with otherGw := false } } : State)).reply q Code.ST_OK [] 0
      else
        match site with
        | none => s.reply q Code.ST_PART_MISMATCH [] 0
        | some n =>
          let x := s.site n
          let free := decide (x.state = .loaded ∨ x.state = .halted)
          match form with
          | 0 => if free then (s.wakeLanes n).reply q Code.ST_OK x.img.partAnswer 0 else s.reply q Code.ST_PART_MISMATCH [] 0
          | 1 => (s.applyTransom n x.lastHinge).reply q Code.ST_OK [] 0
          | 2 => (s.modSite n fun y => { y with transom := none }).reply q Code.ST_OK [] 0
          | 3 =>
            if free = false then s.reply q Code.ST_PART_MISMATCH [] 0
            else
              let kids := childrenOf x.img.part (bytesAt q.pay 17 (2 * x.img.nparts))
              match (s.modSite n fun y => { y with img := { y.img with kids := kids } }).armPart n (q.n 16 1) with
              | (some st, s) => s.reply q st [] 0
              | (none, s) => s
          | 4 =>
            (if x.state = .armed then s.disarmSite n else if x.state = .loaded then s.restLanes n else s).reply q Code.ST_OK [] 0
          | _ => s.reply q Code.ST_BAD_PARAM [] 0

/-! ### Commands relayed to this unit (R396, R430, R431) -/

/-- Key of the SEQ last accepted from a unit: commands, broadcast commands, responses. -/
def rxKey (f : ChainFrame) : Nat := f.src.toNat + (if mbxResp f then 2 ^ 19 else if f.dst == uaBroadcast then 2 ^ 18 else 0)

/-- The first free relay slot. -/
def ChainState.freeSlot (c : ChainState) : Nat :=
  ((List.range (c.slots.length + 1)).map (16 + ·)).find? (fun n => (tget none c.slots n).isNone) |>.getD 16

/-- A relayed command is complete: a kept response answers its retry; an own message is served; else it waits for its row. -/
def State.slotReady (s : State) (n : Nat) (r : RelaySlot) : State :=
  let q := parseReq n r.from_ r.cmd
  let key (k : KeptResp) : Bool := k.ua == r.from_ && k.ch == q.rsv % 256 && k.tag == BitVec.ofNat 16 q.tag
  match if bit q.flags 1 && !r.bcast && !q.own then s.chain.kept.find? key else none with
  | some k =>
    ({ s with chain := { s.chain with slots := tset none s.chain.slots n none } } : State).message .none r.from_ r.seq true k.resp
  | none => if q.own && q.opcode == ownOpcode then s.ownRequest n else s.screen n

/-- A fragment of a command: kept in a slot, complete with its LAST fragment; a duplicate is discarded (R396). -/
def State.takeCommand (s : State) (f : ChainFrame) : Bool × State :=
  let key := rxKey f
  let seq := mbxSeq f
  let have_ := s.chain.slots.find? fun e => match e.2 with | some r => r.from_ == f.src && r.seq == seq && r.bcast == (f.dst == uaBroadcast) | none => false
  if tget none s.chain.rxSeq key = some seq then (true, s)
  else
    match have_ with
    | some (n, some r) =>
      if mbxFrag f = 0 then (true, s)
      else
        let r := { r with cmd := r.cmd ++ f.payload, ready := true }
        let c := { s.chain with slots := tset none s.chain.slots n (some r), rxSeq := tset none s.chain.rxSeq key (some seq) }
        (true, ({ s with chain := c } : State).slotReady n r)
    | _ =>
      if mbxFrag f ≠ 0 then (false, s)
      else
        let n := s.chain.freeSlot
        let r : RelaySlot :=
          { from_ := f.src
            seq := seq
            cmd := f.payload
            ready := mbxLast f
            bcast := f.dst == uaBroadcast
            waits := none }
        let c := { s.chain with slots := tset none s.chain.slots n (some r) }
        if mbxLast f then
          (true, ({ s with chain := { c with rxSeq := tset none c.rxSeq key (some seq) } } : State).slotReady n r)
        else (true, { s with chain := c })

/-- A far unit's COMPLETE, or a refusal of an enumeration, comes to this unit's event ring (R390, R430). -/
def State.takeReport (s : State) (f : ChainFrame) : State :=
  let b := f.payload
  if fld b 0 1 = 0 then
    s.postEvent
      { kind := BitVec.ofNat 8 (fld b 1 1)
        status := BitVec.ofNat 16 (fld b 2 2)
        source := BitVec.ofNat 18 (fld b 4 4)
        ticket := BitVec.ofNat 32 (fld b 8 4)
        subject := BitVec.ofNat 32 (fld b 12 4)
        time := BitVec.ofNat 128 (fld b 16 16)
        data := bytesAt b 32 32 }
  else if f.src = uaNone then s.postChain (BitVec.ofNat 16 (fld b 4 2)) 0 f.src (fld b 16 2)
  else s.bcastRefused (mbxSeq f) b

/-- A fragment of a response; the second one counts only after the first (R396, R430). -/
def State.takeResponse (s : State) (f : ChainFrame) : Bool × State :=
  match s.relayOf f false with
  | some r =>
    if mbxFrag f ≠ 0 ∧ r.resp = [] then (false, s)
    else
      let b := if mbxFrag f = 0 then f.payload else r.resp ++ f.payload
      (true,
        if fld b 0 2 ≠ fld r.cmd 0 2 ∨ fld b 2 2 ≠ fld r.cmd 2 2 then s.takeReport f
        else if mbxLast f then (s.dropRelay r).answer r b
        else s.setRelay r { r with resp := f.payload })
  | none =>
    (true,
      if tget none s.chain.rxSeq (rxKey f) = some (mbxSeq f) then s
      else ({ s with chain := { s.chain with rxSeq := tset none s.chain.rxSeq (rxKey f) (some (mbxSeq f)) } } : State).takeReport f)

/-- Acknowledge an MBX frame; a broadcast is acknowledged by nobody, and a unit without an address by none (R396, R397). -/
def State.ackMbx (s : State) (f : ChainFrame) : State :=
  if f.dst = uaBroadcast ∨ f.src = uaNone then s else s.send (s.frame ftMbxAck f.src f.aux [])

/-- MBX_FRAME (R396, R430, R431). -/
def execMbxFrame (f : ChainFrame) (s : State) : Out :=
  .next
    (s.chainRx f ftMbx fun s =>
      let (ok, t) := if mbxResp f then s.takeResponse f else s.takeCommand f
      if ok then t.ackMbx f else t)

/-- MBX_ACK_FRAME (R396): the fragment is acknowledged; a response is then done, and a message nobody waits on. -/
def execMbxAckFrame (f : ChainFrame) (s : State) : Out :=
  .next
    (s.chainRx f ftMbxAck fun s =>
      match s.relayOf f (mbxResp f) with
      | none => s
      | some r =>
        let left := r.unacked.filter (· != mbxFrag f)
        if left.isEmpty && (r.isResp || r.owner == .none) then s.dropRelay r else s.setRelay r { r with unacked := left })

/-- MBX_RETRANSMIT (R396): resend what is not acknowledged, up to 8 times; then CH_RELAY_TIMEOUT. -/
def execMbxRetransmit (i : Nat) (s : State) : Out :=
  .next
    (match s.chain.relays[i]? with
     | none => s
     | some r =>
       if r.unacked = [] then s
       else if 9 ≤ r.tries then (s.dropRelay r).failRelay r Code.CH_RELAY_TIMEOUT
       else
         let s := s.setRelay r { r with tries := r.tries + 1 }
         let s : State := { s with chain := { s.chain with mbxRetry := satAdd s.chain.mbxRetry r.unacked.length } }
         r.unacked.foldl (fun s k => s.sendFragment r.ua r.seq r.isResp r.cmd k) s)

end Sys2Proof.Machine
end

