-- ==== Sys2Proof/Machine/Chain.lean ====
section
/-! DEFINITION. The chain beside its relay: enumeration (R389 to R392), breaks and wraps (R393 to R395), events and hinge
tokens (R398), gateways (R399). -/

namespace Sys2Proof.Machine

/-! ### Enumeration (R390 to R392) -/

/-- POS and KEEP_STICKY of an ENUM frame (R385). -/
def enumPos (f : ChainFrame) : Nat := bits f.aux 0 10
def enumKeep (f : ChainFrame) : Bool := bit f.aux 10

/-- The occupancy map as bytes, and back (R390). -/
def mapBytes (m : BitVec 1024) : List Byte := leBytes m.toNat 128
def mapOf (b : List Byte) : BitVec 1024 := BitVec.ofNat 1024 (leNat (b.take 128))

/-- The first slice of an enumeration: the unit becomes head at position 0 and sends the ENUM frame (R390). -/
def State.enumStart (s : State) (tk : BitVec 32) (seg : Nat) (keep : Bool) : State :=
  let ua := uaOf seg 0
  let c := { s.chain with
    ua := ua
    head := true
    phys := 0
    stickyUa := if s.chain.sticky then ua else s.chain.stickyUa
    enum := some (tk, ua) }
  let s : State := { s with chain := c }
  s.send (s.frame ftEnum uaBroadcast (b2n keep * 2 ^ 10) (mapBytes 0))

/-- A slice of an ENUMERATE: the frame goes out once; its return or its timeout ends the work. -/
def State.enumSlice (s : State) (tk : BitVec 32) (t : Ticket) (cmd : List Byte) : State :=
  if t.phase ≠ 0 then s
  else (s.modTicket tk fun t => { t with phase := 1, queued := false }).enumStart tk (fld cmd 0 1) (bit (fld cmd 1 1) 0)

/-- The enumeration under way ends without a result (R390, R392). -/
def State.enumFail (s : State) (st : Status) : State :=
  match s.chain.enum with
  | none => s
  | some (tk, _) => ({ s with chain := { s.chain with enum := none } } : State).finish tk st []

/-- The segment has no time master that this head has heard, itself among them (R404). -/
def State.noMaster (s : State) : Bool := s.time.role == 0 && s.time.otherMaster.isNone

/-- The head takes ROLE 1, and posts it (R404). -/
def State.headTakesRole (s : State) : State :=
  if s.noMaster then
    let v := s.time.tctl + 0x10
    ({ s with time := { s.time with tctl := v, servo := .unlocked, stepped := false } } : State).postPolicy 8 0 v.toNat
  else s

/-- The ENUM frame comes back to the head: N and the map (R390). -/
def State.enumDone (s : State) (f : ChainFrame) (tk : BitVec 32) : State :=
  let n := enumPos f + 1
  let c := { s.chain with enum := none, nunits := BitVec.ofNat 16 n, map := mapOf f.payload }
  ({ s with chain := c } : State).headTakesRole.finish tk Code.ST_OK (leBytes n 2)

/-- Report to the head that this unit has taken no address: an MBX response, sent once (R390, R396). -/
def State.reportNoAddress (s : State) (head : BitVec 18) (st : Status) (q : Nat) : State :=
  let (seq, s) := s.nextSeq head
  s.sendMbx head seq true (respBytes 0x0A01 0 st (leBytes q 2) 0 uaNone)

/-- A unit that is not the head takes its address from the frame and passes it on (R390). -/
def State.enumTake (s : State) (f : ChainFrame) : State :=
  let seg := uaSegment f.src
  let q := enumPos f + 1
  let c := s.chain
  let cand := if enumKeep f && c.sticky && uaSegment c.stickyUa == seg then uaPosition c.stickyUa else q
  let m := mapOf f.payload
  let full := decide (1023 < q)
  let ok := !full && !getBit m cand
  let pos := min q 1023
  let hdr := BitVec.ofNat 64 (f.hdr.toNat % 2 ^ 52 + (pos + f.aux / 1024 * 1024) * 2 ^ 52)
  let g := f.modify hdr (if ok then mapBytes (putBit m cand true) else f.payload)
  let ua := if ok then uaOf seg cand else uaNone
  let c := { c with
    ua := ua
    phys := BitVec.ofNat 16 q
    stickyUa := if ok && c.sticky then ua else c.stickyUa }
  let s : State := { s with chain := c.emit g }
  if ok then s else s.reportNoAddress f.src (if full then Code.CH_ENUM_INCOMPLETE else Code.CH_ADDR_CONFLICT) q

/-- An ENUM frame of another head reaches a head: it goes on unchanged, and this unit stops and steps down (R392). -/
def State.enumTwoHeads (s : State) (f : ChainFrame) : State :=
  let s := s.enumFail Code.CH_TWO_HEADS
  let s : State := { s with chain := { s.chain.emit f with head := false } }
  s.postChain Code.CH_TWO_HEADS 0 f.src 0

/-- ENUM_FRAME (R390, R392). -/
def execEnumFrame (f : ChainFrame) (s : State) : Out :=
  .next
    (if f.typ ≠ ftEnum then s
     else if s.chain.forwardRx f = false then ({ s with chain := (s.chain.countCrc f).emitBack f } : State).afterCrc f
     else if f.valid = false then ({ s with chain := ((s.chain.countCrc f).passOn f).discard } : State).afterCrc f
     else
       match s.chain.enum with
       | some (tk, ua) => if f.src = ua then s.enumDone f tk else s.enumTwoHeads f
       | none =>
         if s.chain.addressed ∧ f.src = s.chain.ua then s
         else if s.chain.head then s.enumTwoHeads f
         else s.enumTake f)

/-- ENUM_TIMEOUT (R390): the frame has not come back within 10 ms. -/
def execEnumTimeout (s : State) : Out := .next (s.enumFail Code.CH_ENUM_INCOMPLETE)

/-! ### Events (R398) -/

/-- KIND, ID, SITES, IMAGE_ID and CYCLE of an EVENT frame. -/
def evKind (f : ChainFrame) : Nat := fld f.payload 0 1
def evId (f : ChainFrame) : Nat := fld f.payload 1 1
def evSites (f : ChainFrame) : Nat := fld f.payload 2 2
def evImage (f : ChainFrame) : Nat := fld f.payload 8 8
def evCycle (f : ChainFrame) : Nat := fld f.payload 16 6

/-- Receive an EVENT frame of one KIND; the other kinds of R398 are other rows'. -/
def State.rxEvent (s : State) (f : ChainFrame) (kind : Nat) (act : State → State) : State :=
  if f.typ = ftEvent ∧ evKind f ≠ kind ∧ 1 ≤ evKind f ∧ evKind f ≤ 4 then s
  else s.chainRx f ftEvent fun s => if evKind f = kind then act s else s

/-- CHAIN_START (R398): every ARMED site named enters RUNNING on arrival. -/
def execChainStart (f : ChainFrame) (s : State) : Out :=
  .next
    (s.rxEvent f 1 fun s =>
      ((s.namedSites (evSites f) (evImage f)).filter fun n => (s.site n).state == .armed).foldl (fun s n => s.startSite n) s)

/-- CHAIN_STOP (R398, R454): as a STOP command to the same sites. -/
def execChainStop (f : ChainFrame) (s : State) : Out :=
  .next
    (s.rxEvent f 2 fun s =>
      let l := s.namedSites (evSites f) (evImage f)
      let tell := l.filter fun n => (s.site n).img.root && (s.site n).startAt.isSome
      tell.foldl (fun s n => s.tellParts n 0x0305 (runPay (s.site n).img 0)) (s.stopSites l))

/-- Trigger units of this unit that listen to chain event `id`; LISTEN_ID 0 is none (R280, R281). -/
def State.listeners (s : State) (id : Nat) : List Nat :=
  (List.range 64).filter fun i =>
    let t := s.trig i
    t.state == .ready && t.cfg.exten && id != 0 && t.cfg.listen.toNat == id && (s.siteOf i).isSome

/-- Set the task flags that the casements' maps bind to chain event `id` (R297, R459). -/
def State.mapFlags (s : State) (id : Nat) : State :=
  (List.range 12).foldl
    (fun s k =>
      let es := (s.casm k).evmap.filter (·.1.toNat == id)
      if es = [] then s else (es.foldl (fun s e => s.setFlags e.2.1 (BitVec.ofNat 32 (2 ^ e.2.2))) s).settleCas k) s

/-- CHAIN_TRIGGER (R280, R297, R398). -/
def execChainTrigger (f : ChainFrame) (s : State) : Out :=
  .next
    (s.rxEvent f 3 fun s =>
      ((s.listeners (evId f)).foldl
        (fun s i => match s.siteOf i with | some n => s.fireExternal n i (s.trig i).slot 0x20 | none => s) s).mapFlags (evId f))

/-- SITE_ROLLBACK (R227, R236, R241, R398): the part acts on the decision as the deciding unit does. A part that has not begun the cycle has
nothing to undo, and a cycle it has committed is none a unit can decide on (DESIGN CHOICE, log entry 80). -/
def execSiteRollback (f : ChainFrame) (s : State) : Out :=
  .next
    (s.rxEvent f 4 fun s =>
      match s.ownSite (evImage f) with
      | none => s
      | some n =>
        let x := s.site n
        let c := evCycle f
        if x.state = .running ∧ x.img.depth ≠ 0 ∧ x.ra.oldest ≤ c ∧ c ≤ x.cycle.toNat then s.actOnDiv n c 0 else s)

/-- A LINK_HINGE frame's token, good or lost to its CRC32 (R398). -/
def State.rxToken (s : State) (f : ChainFrame) (good : Bool) : State :=
  match s.ownSite (fld f.payload 8 8) with
  | none => s
  | some n =>
    if fld f.payload 2 6 ≠ (s.site n).cycle.toNat then s
    else s.hingeToken n (.chain (f.aux % 1024)) (fld f.payload 0 1 % 8) (BitVec.ofNat 16 (fld f.payload 2 2)) good

/-- LINK_HINGE (R398). -/
def execLinkHinge (f : ChainFrame) (s : State) : Out :=
  .next
    (if f.typ = ftLinkHinge ∧ s.chain.forwardRx f = true ∧ f.crcOk = false ∧ s.chain.addressed = true ∧ f.dst = s.chain.ua then
       (({ s with chain := (s.chain.countCrc f).discard } : State).rxToken f false).afterCrc f
     else s.chainRx f ftLinkHinge fun s => s.rxToken f true)

/-! ### Breaks and wraps (R393 to R395) -/

/-- BREAK_FRAME (R393): the head posts the report. -/
def execBreakFrame (f : ChainFrame) (s : State) : Out :=
  .next
    (s.chainRx f ftBreak fun s =>
      if s.chain.head then s.breakReport f.src (f.aux % 2) (fld f.payload 0 2) (bit f.aux 1) else s)

/-- PORT_BREAK (R393, R394). -/
def execPortBreak (port : ChainPort) (s : State) : Out := .next (s.portBreak port)

/-- BREAK_IDLE_END (R395): the port sends IDLE again, and can take lock. -/
def execBreakIdleEnd (port : ChainPort) (s : State) : Out :=
  .next
    (let x := s.chain.port port
     if x.idling then { s with chain := s.chain.setPort port { x with idling := false, lock := true, healed := 0 } } else s)

/-- The site passes hinge tokens over the chain while ARMED or RUNNING (R125, R395). -/
def State.chainHinged (s : State) (n : Nat) : Bool :=
  let x := s.site n
  (x.state == .armed || x.state == .running) && x.img.nparts != 0 &&
    (x.img.children.any (fun p => (s.hingeLane n p 1).isNone) || (x.img.part != 0 && (s.hingeLane n x.img.parent 0).isNone))

/-- PORT_HEAL (R395): locked for 1 ms and 16 exchanges done, the unit unwraps, unless a chain-hinged site holds it back. -/
def execPortHeal (port : ChainPort) (s : State) : Out :=
  .next
    (let x := s.chain.port port
     if x.broken = false ∨ x.idling = true ∨ x.lock = false ∨ x.healed < 16 then s
     else if (List.range 16).any s.chainHinged then { s with chain := { s.chain with unwrapWait := true } }
     else
       let c := s.chain.setPort port { x with broken := false, healed := 0 }
       ({ s with chain := { c with unwrapWait := false } } : State).tellHead (portNum port) false)

/-! ### Gateways (R399) -/

/-- A gateway's once-a-second check, and the answer to one. -/
def checkFrame (answer : Bool) : ChainFrame :=
  let h : BitVec 64 := BitVec.ofNat 64 (b2n answer)
  { hdr := h, payload := [], crc := frameCrc h [], forward := true }

/-- Send a datagram to the gateway of a segment. -/
def State.datagram (s : State) (peer : Nat) (f : ChainFrame) : State :=
  { s with chain := { s.chain with datagrams := (peer, f) :: s.chain.datagrams } }

/-- The unit is a gateway with this peer. -/
def ChainState.hasPeer (c : ChainState) (peer : Nat) : Bool := c.gw.isSome && (tget none c.peers peer).isSome

/-- Two segments report one number: posted, and their traffic dropped (R399). -/
def State.conflict (s : State) (peer : Nat) : State :=
  if s.chain.segConflict.contains peer then s
  else
    ({ s with chain := { s.chain with segConflict := s.chain.segConflict ++ [peer] } } : State).postChain
      Code.CH_SEGMENT_CONFLICT 0 (uaOf peer 0) 0

/-- A peer has been heard. -/
def State.peerUp (s : State) (peer : Nat) : State :=
  { s with chain := { s.chain with peerDown := s.chain.peerDown.filter (· != peer) } }

/-- GATEWAY_DATAGRAM (R399): a frame from another segment is sent into this one; a check is answered. -/
def execGatewayDatagram (peer : BitVec 8) (f : ChainFrame) (s : State) : Out :=
  .next
    (let p := peer.toNat
     if s.chain.hasPeer p = false then s
     else
       let s := s.peerUp p
       if f = checkFrame false then s.datagram p (checkFrame true)
       else if f = checkFrame true then s
       else if uaSegment f.src = uaSegment s.chain.ua ∨ p = uaSegment s.chain.ua then s.conflict p
       else if s.chain.segConflict.contains p ∨ gatewayType f.typ = false ∨ eventLeaves f = false then s
       else { s with chain := s.chain.emit (f.mark false) })

/-- GATEWAY_CHECK (R399). -/
def execGatewayCheck (peer : BitVec 8) (s : State) : Out :=
  .next (if s.chain.hasPeer peer.toNat then s.datagram peer.toNat (checkFrame false) else s)

/-- GATEWAY_PEER_TIMEOUT (R399): a peer silent for 3 s. -/
def execGatewayPeerTimeout (peer : BitVec 8) (s : State) : Out :=
  .next
    (let p := peer.toNat
     if s.chain.hasPeer p = false ∨ s.chain.peerDown.contains p = true then s
     else
       ({ s with chain := { s.chain with peerDown := s.chain.peerDown ++ [p] } } : State).postChain
         Code.CH_GATEWAY_DOWN 0 (uaOf p 0) 0)

/-- ARP_REQUEST (R399): the gateway answers for its own address. -/
def execArpRequest (ip : BitVec 32) (s : State) : Out :=
  .next
    (match s.chain.gw with
     | some (a, _) => if a = ip then { s with chain := { s.chain with arp := ip :: s.chain.arp } } else s
     | none => s)

/-! ### Commands of the chain group (R463) -/

/-- ENUMERATE: a long command, whose slice sends the frame. -/
def enumerateBody (s : State) (q : Req) : Reply :=
  if 254 < q.n 0 1 then refuse s Code.ST_BAD_PARAM
  else if 2 ≤ q.n 1 1 then refuse s Code.ST_RESERVED_NONZERO
  else s.accept q (.enumerate (bytesAt q.pay 0 2)) false 0

/-- ENUMERATE (R390, R463). -/
def execEnumerate (src : Nat) (s : State) : Out :=
  .next (s.command src { op := 0x0A01, need := 2, cov := [(0, 2)] } enumerateBody)

/-- STICKY SET = 1: the unit keeps its UA (R391). -/
def stickySetBody (s : State) (_ : Req) : Reply :=
  done { s with chain := { s.chain with sticky := true, stickyUa := s.chain.ua } } []

/-- STICKY_SET (R391, R463). -/
def execStickySet (src : Nat) (s : State) : Out :=
  .next (s.command src { op := 0x0A02, form := some (0, 1), need := 1, cov := [(0, 1)] } stickySetBody)

/-- STICKY SET = 0 (R391). -/
def stickyClearBody (s : State) (_ : Req) : Reply :=
  done { s with chain := { s.chain with sticky := false, stickyUa := uaNone } } []

/-- STICKY_CLEAR (R391, R463). -/
def execStickyClear (src : Nat) (s : State) : Out :=
  .next (s.command src { op := 0x0A02, form := some (0, 0), need := 1, cov := [(0, 1)] } stickyClearBody)

/-- Tell the segment's units that it has a gateway, or has none (R399). -/
def State.tellSegment (s : State) (form : Nat) : State :=
  let pay := leBytes form 8
  let bs := leBytes ownOpcode 2 ++ leBytes 0 2 ++ leBytes 0 4 ++ leBytes pay.length 2 ++ leBytes 0 2 ++ leBytes ownMessage 4 ++ pay
  let (seq, s) := s.nextSeq uaBroadcast
  let f := s.frame ftMbx uaBroadcast (mbxAux seq 0 1 false) bs
  { s with chain := s.chain.emit f }

/-- The UDP port a gateway has when the command names none (R399). -/
def defaultPort : Nat := 51510

/-- GATEWAY OP 0: the segment's one gateway takes its address (R399). -/
def gatewayOwnAddressBody (s : State) (q : Req) : Reply :=
  if s.chain.gw.isSome || s.chain.otherGw then refuse s Code.ST_RESOURCE_BUSY
  else
    let port := if q.n 8 2 = 0 then defaultPort else q.n 8 2
    done (({ s with chain := { s.chain with gw := some (BitVec.ofNat 32 (q.n 4 4), BitVec.ofNat 16 port) } } : State).tellSegment ownGateway) []

/-- GATEWAY_OWN_ADDRESS (R399, R463). -/
def execGatewayOwnAddress (src : Nat) (s : State) : Out :=
  .next (s.command src { op := 0x0A03, form := some (0, 0), need := 10, cov := [(0, 1), (4, 6)] } gatewayOwnAddressBody)

/-- Entries of GATEWAY OP 1: segment and address. -/
def peerEntries (q : Req) : List (Nat × Nat) := (List.range (q.n 2 1)).map fun i => (q.n (8 + 5 * i) 1, q.n (9 + 5 * i) 4)

/-- GATEWAY OP 1: peers join the table; one of the unit's own segment number is a conflict (R399). -/
def gatewayAddPeersBody (s : State) (q : Req) : Reply :=
  let k := q.n 2 1
  let es := peerEntries q
  let t := es.foldl (fun t e => tset none t e.1 (some (BitVec.ofNat 32 e.2))) s.chain.peers
  if k = 0 ∨ 40 < k ∨ q.pay.length < 8 + 5 * k ∨ es.any (fun e => e.1 == 255) = true ∨ 254 < t.length then refuse s Code.ST_BAD_PARAM
  else if q.clean [(0, 1), (2, 1), (8, 5 * k)] = false then refuse s Code.ST_RESERVED_NONZERO
  else
    let s : State := { s with chain := { s.chain with peers := t } }
    let own := uaSegment s.chain.ua
    done (if s.chain.addressed && es.any (fun e => e.1 == own) then s.conflict own else s) []

/-- GATEWAY_ADD_PEERS (R399, R463). -/
def execGatewayAddPeers (src : Nat) (s : State) : Out :=
  .next (s.command src { op := 0x0A03, form := some (0, 1), need := 3, cov := [(0, 1), (2, 1), (8, 232)] } gatewayAddPeersBody)

/-- GATEWAY OP 2: the unit is no gateway any more (R399). -/
def gatewayClearBody (s : State) (_ : Req) : Reply :=
  let t := if s.chain.gw.isSome then s.tellSegment ownNoGateway else s
  done { t with chain := { t.chain with gw := none, peers := [], peerDown := [], segConflict := [] } } []

/-- GATEWAY_CLEAR (R399, R463). -/
def execGatewayClear (src : Nat) (s : State) : Out :=
  .next (s.command src { op := 0x0A03, form := some (0, 2), need := 1, cov := [(0, 1)] } gatewayClearBody)

/-- ENUM_MAP: the head's map of the last enumeration. -/
def enumMapBody (s : State) (_ : Req) : Reply :=
  if s.chain.head then done s (mapBytes s.chain.map) else refuse s Code.ST_BAD_PARAM

/-- ENUM_MAP (R390, R463). -/
def execEnumMap (src : Nat) (s : State) : Out := .next (s.command src { op := 0x0A0C, need := 0 } enumMapBody)

end Sys2Proof.Machine
end

