-- ==== Sys2Proof/Machine/Time.lean ====
section
/-! DEFINITION. Device time (R400 to R413): the servo, sync over the chain and by IEEE 1588, hop delays, START_AT and timed
outputs, and the chain and time records. -/

namespace Sys2Proof.Machine

/-! ### Stamps and the counter (R400, R401) -/

/-- A stamp as a time in 2^-16 ns (R400). -/
def stampFine (x : BitVec 128) : Nat :=
  bits x.toNat 0 16 + (bits x.toNat 16 30 + bits x.toNat 48 48 * 1000000000) * 65536

/-- FREEZE and SYNC_PER of TCTL (R403). -/
def TimeState.frozen (t : TimeState) : Bool := getBit t.tctl 0
def TimeState.syncPer (t : TimeState) : Nat := bits t.tctl.toNat 8 4

/-- The SYNC period in 2^-16 ns: 125 µs × 2^SYNC_PER (R403). -/
def TimeState.period (t : TimeState) : Nat := 125000 * 65536 * 2 ^ t.syncPer

/-- The time `k` in 2^-16 ns lies before the end of the present step: the step that contains it has come (R411, R412). -/
def State.due (s : State) (k : Nat) : Bool := decide (k * 2 ^ 24 * 1000 < s.time.counter * 1000 + s.stepPs * 2 ^ 40)

/-- HOLD_MS (R409): milliseconds since entry, or of the last stay. -/
def TimeState.holdNow (t : TimeState) : BitVec 32 :=
  if t.servo = .holdover then BitVec.ofNat 32 (min ((t.counter - t.holdFrom) / 2 ^ 40 / 1000000) (2 ^ 32 - 1)) else t.holdMs

/-- A site of the unit is ARMED or RUNNING: TCTL counts as running (R402, R403). -/
def State.siteLive (s : State) : Bool := (List.range 16).any fun n => (s.site n).state == .armed || (s.site n).state == .running

/-! ### The servo (R402, R403, R409) -/

/-- Change the servo state and post it; entry to HOLDOVER drops the phase term and is posted as CH_HOLDOVER (R403, R409). -/
def State.setServo (s : State) (v : Servo) : State :=
  if s.time.servo = v then s
  else
    let t := { s.time with servo := v, goodSyncs := 0, holdMs := s.time.holdNow }
    if v = .holdover then
      ({ s with time := { t with holdMs := 0, holdFrom := t.counter, rate := if t.frozen then t.rate else t.freq } } : State).postChain
        Code.CH_HOLDOVER 0 s.chain.ua s.chain.phys.toNat
    else ({ s with time := t } : State).postPolicy 6 0 v.code

/-- The phase term that removes `off` over one SYNC period, within ±50 ppm, in RATE units (R402). -/
def phaseTerm (off : Int) (period : Nat) : Int := clampInt (-54975581) 54975581 (roundHalfUp (-off * 2 ^ 40) (max 1 period))

/-- Correct by rate: the frequency estimate is a free value, the phase term added to it (R401, R402, R403). -/
def State.steer (s : State) (off : Int) : State :=
  if s.time.frozen then s
  else
    let (f, s) := s.drawFree
    let freq := Config.freeWord f
    let rate := clampInt (-(2 ^ 31)) (2 ^ 31 - 1) (freq.toInt + phaseTerm off s.time.period)
    { s with time := { s.time with freq := freq, rate := toBits 32 rate } }

/-- Step the time once by a measured offset (R402). -/
def State.stepTime (s : State) (off : Int) : State :=
  { s with time := { s.time with counter := ((s.time.counter : Int) - off * 2 ^ 24).toNat } }

/-- Follow a master: counted when it is another than before (R413). -/
def State.followMaster (s : State) (m : BitVec 18) : State :=
  let t := s.time
  let ch := t.master != uaNone && t.master != m
  { s with time := { t with master := m, jumpFor := none, masterChanges := if ch then satInc t.masterChanges else t.masterChanges } }

/-- A measured offset beyond ±1 µs, ±32 ns or within ±4 ns, in 2^-16 ns (R403). -/
def farOff (off : Int) : Bool := decide (off < -(1000 * 65536) ∨ 1000 * 65536 < off)
def wideOff (off : Int) : Bool := decide (off < -(32 * 65536) ∨ 32 * 65536 < off)
def nearOff (off : Int) : Bool := decide (-(4 * 65536) ≤ off ∧ off ≤ 4 * 65536)

/-- The servo takes a measured offset from master `m` (R402, R403). While FREEZE is set neither RATE nor the state changes. -/
def State.measured (s : State) (off : Int) (m : BitVec 18) : State :=
  let t := { s.time with offset := toBits 32 (clampInt (-(2 ^ 31)) (2 ^ 31 - 1) off), syncs := satInc s.time.syncs }
  let s : State := { s with time := t }
  if t.frozen then s
  else
    match t.servo with
    | .unlocked => ((s.followMaster m).stepTime off).setServo .tracking
    | .tracking =>
      if farOff off then s.setServo .holdover
      else
        let k := if nearOff off then t.goodSyncs + 1 else 0
        let s := ({ s with time := { t with goodSyncs := k } } : State).steer off
        if 16 ≤ k then s.setServo .locked else s
    | .locked =>
      if farOff off then s.setServo .holdover
      else if wideOff off then (s.steer off).setServo .tracking
      else s.steer off
    | .holdover =>
      if farOff off = false then ((s.followMaster m).steer off).setServo .tracking
      else if t.jumpFor = some m then s
      else ({ s with time := { t with jumpFor := some m, jumps := satInc t.jumps } } : State).postChain Code.CH_TIME_JUMP 0 m 0

/-! ### Sync over the chain (R405, R406) -/

/-- The mean of the last 16 exchanges on the CYN_IN hop, in 2^-16 ns (R405). -/
def TimeState.hop (t : TimeState) : Int := if t.hops = [] then 0 else Int.fdiv t.hops.sum t.hops.length

/-- Payload of a TIME frame (R406). -/
def tmOrigin (f : ChainFrame) : Nat := stampFine (BitVec.ofNat 128 (fld f.payload 0 16))
def tmCorr (f : ChainFrame) : Int := sext (fld f.payload 16 8) 64
def tmMaster (f : ChainFrame) : BitVec 18 := BitVec.ofNat 18 (fld f.payload 24 4)

/-- The frame with `d` added to CORR (R406). -/
def ChainFrame.correct (f : ChainFrame) (d : Int) : ChainFrame :=
  f.modify f.hdr (f.payload.take 16 ++ leBytes (toBits 64 (tmCorr f + d)).toNat 8 ++ f.payload.drop 24)

/-- The unit hears a time master: CH_TWO_MASTERS when another has been heard within 4 periods, itself included (R404, R406). -/
def State.hearMaster (s : State) (m : BitVec 18) : State :=
  let two := match s.time.otherMaster with | some u => u != m | none => s.time.role != 0
  let s : State := { s with time := { s.time with otherMaster := some m } }
  if two then s.postChain Code.CH_TWO_MASTERS 0 m 0 else s

/-- A follower takes a TIME frame stamped `ing` at its CYN_IN ball (R403, R406). -/
def State.follow (s : State) (f : ChainFrame) (ing : Nat) (hop : Int) : State :=
  let m := tmMaster f
  let again := s.time.otherMaster == some m
  let s := s.hearMaster m
  if s.time.role ≠ 0 then s
  else if s.time.servo = .unlocked ∨ s.time.servo = .holdover ∨ s.time.master = m then
    s.measured ((ing : Int) - ((tmOrigin f : Int) + tmCorr f + hop)) m
  else if again ∧ s.time.frozen = false then s.setServo .holdover
  else s

/-- The delay of the hop a TIME frame came in by: measured on the CYN_IN hop, and a free value on the CYN_OUT hop, whose
delay the neighbour measures (R405, R406). -/
def State.ingressHop (s : State) (f : ChainFrame) : Int × State :=
  if f.forward then (s.time.hop, s) else let (k, s) := s.drawFree; (((Config.freeWord k).toNat : Int), s)

/-- TIME_FRAME (R386, R387, R406): corrected by the ingress hop and the residence, a free value, and followed. -/
def execTimeFrame (f : ChainFrame) (rx : BitVec 128) (s : State) : Out :=
  .next
    (let c := s.chain.countCrc f
     let fwd := s.chain.forwardRx f
     if f.typ ≠ ftTime then s
     else if fwd && c.addressed && f.src == c.ua && f.crcOk then s
     else if fwd && c.head && f.seen then ({ s with chain := { c with seenDrops := satInc c.seenDrops } } : State).afterCrc f
     else if f.len ≠ 4 ∨ f.payload.length ≠ 32 then
       ({ s with chain := if fwd then (c.passOn f).discard else c.emitBack f } : State).afterCrc f
     else
       let (hop, s) := ({ s with chain := c } : State).ingressHop f
       let (k, s) := s.drawFree
       let g := ChainFrame.correct f (hop + ((Config.freeWord k).toNat : Int))
       let s : State := { s with chain := if fwd then s.chain.passOn g else s.chain.emitBack g }
       if fwd = false then s.afterCrc f
       else if f.crcOk = false then ({ s with chain := s.chain.discard } : State).afterCrc f
       else s.follow f (stampFine rx) hop)

/-- TIME_SYNC_SEND (R404, R406): a master that is TRACKING, LOCKED or in HOLDOVER sends its time. -/
def execTimeSyncSend (s : State) : Out :=
  .next
    (if s.time.role = 0 ∨ s.time.servo = .unlocked ∨ s.chain.addressed = false then s
     else
       let info := s.chain.ua.toNat + s.time.servo.code * 2 ^ 18 + s.time.syncPer * 2 ^ 20
       let pay := leBytes s.stamp.toNat 16 ++ leBytes 0 8 ++ leBytes info 8
       let s := s.send (s.frame ftTime uaBroadcast s.time.timeSeq.toNat pay)
       { s with time := { s.time with timeSeq := s.time.timeSeq + 1 } })

/-- SYNC_LOSS_TIMEOUT (R403): no sync for 4 periods. -/
def execSyncLossTimeout (s : State) : Out :=
  .next
    (let t := s.time
     let s : State := { s with time := { t with otherMaster := none } }
     if t.role ≠ 1 ∧ t.frozen = false ∧ (t.servo = .tracking ∨ t.servo = .locked) then s.setServo .holdover else s)

/-! ### Hop delays (R405) -/

/-- A HOPDLY frame of this unit: to the neighbour alone. -/
def State.hopFrame (s : State) (resp : Bool) (seq : Nat) (t2 t3 : Nat) : ChainFrame :=
  s.frame ftHopdly uaBroadcast (b2n resp + seq % 2048 * 2) (leBytes t2 8 ++ leBytes t3 8)

/-- HOPDLY_REQUEST (R405): received on CYN_OUT and answered with the receive and send stamps. -/
def execHopdlyRequest (f : ChainFrame) (rx : BitVec 128) (s : State) : Out :=
  .next
    (let c := s.chain.countCrc f
     if f.typ ≠ ftHopdly ∨ f.forward = true ∨ bit f.aux 0 = true then s
     else if f.valid = false then ({ s with chain := c.discard } : State).afterCrc f
     else
       let g := s.hopFrame true (f.aux / 2) (stampFine rx) s.time.fine
       { s with chain := { c with sent := (true, g) :: c.sent, out := { c.out with healed := c.out.healed + 1 } } })

/-- HOPDLY_RESPONSE (R405): ((t4 − t1) − (t3 − t2)) ÷ 2 joins the last 16 exchanges. -/
def execHopdlyResponse (f : ChainFrame) (rx : BitVec 128) (s : State) : Out :=
  .next
    (let c := s.chain.countCrc f
     if f.typ ≠ ftHopdly ∨ f.forward = false ∨ bit f.aux 0 = false then s
     else if f.valid = false then ({ s with chain := c.discard } : State).afterCrc f
     else
       match s.time.hopReq with
       | none => s
       | some (t1, seq) =>
         if f.aux / 2 ≠ seq.toNat then s
         else
           let d : Int := ((stampFine rx : Int) - t1) - ((fld f.payload 8 8 : Int) - fld f.payload 0 8)
           { s with
             chain := { c with inp := { c.inp with healed := c.inp.healed + 1 } }
             time := { s.time with hops := (Int.fdiv d 2 :: s.time.hops).take 16, hopReq := none } })

/-- HOPDLY_MEASURE (R405): the unit at the CYN_IN end sends a request in the reverse direction. -/
def execHopdlyMeasure (port : ChainPort) (s : State) : Out :=
  .next
    (match port with
     | .cynOut => s
     | .cynIn =>
       if s.chain.inp.lock = false then s
       else
         let q := s.time.hopSeq
         let g := { s.hopFrame false q.toNat 0 0 with forward := false }
         { s with
           chain := { s.chain with sent := (false, g) :: s.chain.sent }
           time := { s.time with hopReq := some (s.time.fine, q), hopSeq := q + 1 } })

/-! ### IEEE 1588 (R408) -/

/-- The order of the default best-master-clock algorithm: the better announcement has the smaller number. -/
def PtpAnnounce_rank (a : PtpAnnounce) : Nat :=
  a.priority1.toNat * 2 ^ 104 + a.clockClass.toNat * 2 ^ 96 + a.accuracy.toNat * 2 ^ 88 + a.variance.toNat * 2 ^ 72 +
    a.priority2.toNat * 2 ^ 64 + a.identity.toNat

/-- PTP_ANNOUNCE (R408): the best announcement is followed. -/
def execPtpAnnounce (a : PtpAnnounce) (s : State) : Out :=
  .next
    (let t := s.time
     if t.role ≠ 2 then s
     else
       match t.ptpBest with
       | none => { s with time := { t with ptpBest := some a } }
       | some b =>
         if a.identity = b.identity then { s with time := { t with ptpBest := some a } }
         else if PtpAnnounce_rank a < PtpAnnounce_rank b then
           { s with time := { t with ptpBest := some a, jumpFor := none, masterChanges := satInc t.masterChanges } }
         else s)

/-- PTP_SYNC (R402, R403, R408): master time and ingress stamp in 2^-16 ns; a Delay_Req goes out after it. -/
def execPtpSync (masterTime : Nat) (rx : Nat) (s : State) : Out :=
  .next
    (if s.time.role ≠ 2 ∨ s.time.ptpBest = none then s
     else
       let off : Int := (rx : Int) - (masterTime : Int) - s.time.ptpDelay
       let step := s.time.servo == .unlocked && !s.time.frozen
       let s := s.measured off s.chain.ua
       let at_ := if step then ((rx : Int) - off).toNat else rx
       { s with time := { s.time with ptpSyncAt := some (masterTime, at_), ptpReqAt := some s.time.fine } })

/-- PTP_DELAY_RESP (R408): ((t2 − t1) + (t4 − t3)) ÷ 2 is the mean path delay. -/
def execPtpDelayResp (t4 : Nat) (s : State) : Out :=
  .next
    (match s.time.ptpSyncAt, s.time.ptpReqAt with
     | some (t1, t2), some t3 =>
       if s.time.role ≠ 2 then s
       else
         let d : Int := ((t2 : Int) - t1) + ((t4 : Int) - t3)
         { s with time := { s.time with ptpDelay := Int.fdiv d 2, ptpReqAt := none } }
     | _, _ => s)

/-! ### START_AT and timed outputs (R411, R412) -/

/-- A START_AT whose time lies in the present step starts its site (R411). -/
def State.startAtFire (s : State) (n : Nat) : State :=
  let x := s.site n
  match x.startAt with
  | none => s
  | some t => if x.startable = true ∧ s.due (t * 65536) = true then s.startSite n else s

/-- START_AT_FIRE (R411): the step that contains T has come. -/
def execStartAtFire (site : Fin 16) (s : State) : Out := .next (s.startAtFire site.val)

/-- The generator has no occurrence left. -/
def Tev.over (e : Tev) : Bool := e.count != 0 && decide (e.count ≤ e.done)

/-- An occurrence of generator `k` whose time lies in the present step: a pin pulse begins, or an internal event is posted (R412). -/
def State.timedOccurrence (s : State) (k : Nat) : State :=
  let e := s.tev k
  if e.on = false ∨ e.over = true ∨ s.due (e.first * 65536 + e.done * e.period) = false then s
  else
    let e' := { e with done := e.done + 1 }
    if e.target = 4 then (s.setTev k { e' with on := !e'.over }).post 0x08 Code.ST_OK 0xFF k 0 (leBytes e.done 8)
    else s.setTev k { e' with pulsing := true, until_ := s.power.steps + e.width }

/-- TIMED_OCCURRENCE (R412). -/
def execTimedOccurrence (tev : Fin 8) (s : State) : Out := .next (s.timedOccurrence tev.val)

/-- The pulse of generator `k` is over after WIDTH steps; the last pulse frees the pin (R412). -/
def State.timedPulseEnd (s : State) (k : Nat) : State :=
  let e := s.tev k
  if e.pulsing = true ∧ e.until_ ≤ s.power.steps then s.setTev k { e with pulsing := false, on := !e.over } else s

/-- Trigger pulses that have stood for TOUT_W steps are over (R279). -/
def State.triggerPulses (s : State) : State :=
  { s with time := { s.time with toutTrig := tmapv [] (fun _ l => l.filter fun e => decide (s.power.steps < e.2.2)) s.time.toutTrig } }

/-- One step clock: what is due in it and has not happened yet happens first, so that nothing of R26 comes late (R26, R411, R412). -/
def State.stepClock (s : State) : State :=
  let s := (List.range 16).foldl State.startAtFire s
  let s := (List.range 8).foldl State.timedPulseEnd s
  ((List.range 8).foldl State.timedOccurrence s).triggerPulses.tick

/-- TIMED_PULSE_END (R412): after WIDTH steps; the last pulse frees the pin. -/
def execTimedPulseEnd (tev : Fin 8) (s : State) : Out := .next (s.timedPulseEnd tev.val)

/-- The level of TIME_OUT pin `p` (R279, R412). -/
def State.toutLevel (s : State) (p : Nat) : Bool :=
  let gens := (List.range 8).map s.tev |>.filter fun e => e.pulsing && e.target == p
  if gens.any (fun e => !e.pol) || (tget [] s.time.toutTrig p).any (fun e => decide (e.2.1 ≤ s.power.steps) && decide (s.power.steps < e.2.2)) then true
  else if gens != [] then false
  else getBit s.time.toutIdle p

/-- TIME_OUT pins that triggers reserve: those in the TOUT mask of a site that is ARMED, RUNNING or HALTED (R279). -/
def State.toutReserved (s : State) : Nat :=
  (List.range 16).foldl
    (fun m n =>
      let st := (s.site n).state
      if st == .armed || st == .running || st == .halted then m ||| s.toutMask n else m) 0

/-- The pin is held by another generator. -/
def State.pinHeld (s : State) (t p : Nat) : Bool :=
  (List.range 8).any fun j => j != t && (s.tev j).on && (s.tev j).target == p

/-- TIMED: a generator is programmed (R412). -/
def timedBody (s : State) (q : Req) : Reply :=
  let t := q.n 0 1
  let tgt := q.n 1 1 % 8
  let width := q.n 2 2
  let count := q.n 4 4
  let first := q.n 8 8
  let period := q.n 16 8
  let pin := decide (tgt < 4)
  if bits (q.n 1 1) 3 4 ≠ 0 then refuse s Code.ST_RESERVED_NONZERO
  else if 8 ≤ t ∨ 4 < tgt ∨ (width = 0) = (pin = true) ∨ (period = 0) ≠ (count = 1) ∨ (count ≠ 1 ∧ period * 1000 ≤ width * s.stepPs * 65536) then
    refuse s Code.ST_BAD_PARAM
  else if s.time.servo = .unlocked then refuse s Code.CH_TIME_UNLOCKED
  else if first < s.time.ns + 2000 then refuse s Code.CH_TIME_PAST
  else if pin && (s.pinHeld t tgt || bit s.toutReserved tgt) then refuse s Code.ST_RESOURCE_BUSY
  else
    let pol := bit (q.n 1 1) 7
    let e : Tev :=
      { on := true
        target := tgt
        pol := pol
        width := width
        count := count
        first := first
        period := period }
    let s := s.setTev t e
    done { s with time := { s.time with toutIdle := if pin then putBit s.time.toutIdle tgt pol else s.time.toutIdle } } []

/-- TIMED (R412, R463). -/
def execTimed (src : Nat) (s : State) : Out := .next (s.command src { op := 0x0A08, need := 24, cov := [(0, 24)] } timedBody)

/-- TIMED_CLEAR: the generator stops (R412). -/
def timedClearBody (s : State) (q : Req) : Reply :=
  let t := q.n 0 1
  if 8 ≤ t then refuse s Code.ST_BAD_PARAM else done (s.setTev t { s.tev t with on := false, pulsing := false }) []

/-- TIMED_CLEAR (R412, R463). -/
def execTimedClear (src : Nat) (s : State) : Out := .next (s.command src { op := 0x0A09, need := 1, cov := [(0, 1)] } timedClearBody)

/-! ### Time commands (R402 to R404, R463) -/

/-- TCTL: ROLE, SYNC_PER and PTP_DOMAIN are class S, FREEZE class L (R403, R404). -/
def tctlBody (s : State) (q : Req) : Reply :=
  let v : BitVec 32 := BitVec.ofNat 32 (q.n 0 4)
  let role := bits v.toNat 4 2
  let old := s.time.role
  if v &&& 0xFF80F0CE ≠ 0 then refuse s Code.ST_RESERVED_NONZERO
  else if role = 3 ∨ 10 < bits v.toNat 8 4 then refuse s Code.ST_BAD_PARAM
  else if (v ^^^ s.time.tctl) &&& 0x007F0F30 ≠ 0 ∧ s.siteLive = true then refuse s Code.ST_FIELD_BUSY
  else if role ≠ 0 ∧ s.time.otherMaster.isSome = true then refuse s Code.ST_RESOURCE_BUSY
  else
    let s : State := { s with time := { s.time with tctl := v } }
    done (if role = 1 ∧ old ≠ 1 then ({ s with time := { s.time with stepped := false } } : State).setServo .unlocked else s) []

/-- TCTL (R403, R404, R463). -/
def execTctl (src : Nat) (s : State) : Out := .next (s.command src { op := 0x0A04, need := 4, cov := [(0, 4)] } tctlBody)

/-- TIME_SET: the one step of a ROLE 1 master, LOCKED from then on (R404). -/
def timeSetBody (s : State) (q : Req) : Reply :=
  let v : BitVec 128 := BitVec.ofNat 128 (q.n 0 16)
  if s.time.role ≠ 1 then refuse s Code.ST_BAD_PARAM
  else if s.time.stepped then refuse s Code.CH_TIME_LOCKED
  else if bits v.toNat 46 2 ≠ 0 ∨ bits v.toNat 116 12 ≠ 0 then refuse s Code.ST_RESERVED_NONZERO
  else if 1000000000 ≤ bits v.toNat 16 30 then refuse s Code.ST_BAD_PARAM
  else done (({ s with time := { s.time with counter := stampFine v * 2 ^ 24, stepped := true } } : State).setServo .locked) []

/-- TIME_SET (R404, R463). -/
def execTimeSet (src : Nat) (s : State) : Out := .next (s.command src { op := 0x0A05, need := 16, cov := [(0, 16)] } timeSetBody)

/-- A START_AT, a timed output, a DEADLINE job or a DELAYED task stands on the time scale (R402). -/
def State.timePending (s : State) : Bool :=
  (List.range 16).any (fun n => (s.site n).startAt.isSome) || (List.range 8).any (fun t => (s.tev t).on) ||
    s.cas.tasks.any fun e =>
      match e.2 with
      | some t => t.deadlineClass || (match t.state with | .delayed _ => true | _ => false)
      | none => false

/-- TIME_UNLOCK: a new epoch, and the next lock steps again (R402). -/
def timeUnlockBody (s : State) (_ : Req) : Reply :=
  if s.siteLive then refuse s Code.ST_SITE_BUSY
  else if s.timePending then refuse s Code.ST_RESOURCE_BUSY
  else
    let e := s.time.epoch + 1
    done (({ s with time := { s.time with epoch := e, stepped := false } } : State).setServo .unlocked) (leBytes e.toNat 2)

/-- TIME_UNLOCK (R402, R463). -/
def execTimeUnlock (src : Nat) (s : State) : Out := .next (s.command src { op := 0x0A06, need := 0 } timeUnlockBody)

/-- RATE: writable while FREEZE is set (R401, R403). -/
def rateBody (s : State) (q : Req) : Reply :=
  if s.time.frozen then done { s with time := { s.time with rate := BitVec.ofNat 32 (q.n 0 4) } } [] else refuse s Code.ST_FIELD_BUSY

/-- RATE (R401, R463). -/
def execRate (src : Nat) (s : State) : Out := .next (s.command src { op := 0x0A07, need := 4, cov := [(0, 4)] } rateBody)

/-- PTP: transport and addresses, class S as TCTL (R408, R463). -/
def ptpBody (s : State) (q : Req) : Reply :=
  let ip := BitVec.ofNat 32 (q.n 4 4)
  let mask := BitVec.ofNat 32 (q.n 8 4)
  let e := q.n 0 1 == 1
  if 2 ≤ q.n 0 1 then refuse s Code.ST_BAD_PARAM
  else if s.siteLive = true ∧ (s.time.ptpAnnexE, s.time.ptpIp, s.time.ptpMask) ≠ (e, ip, mask) then refuse s Code.ST_FIELD_BUSY
  else done { s with time := { s.time with ptpAnnexE := e, ptpIp := ip, ptpMask := mask } } []

/-- PTP (R408, R463). -/
def execPtp (src : Nat) (s : State) : Out := .next (s.command src { op := 0x0A0A, need := 12, cov := [(0, 1), (4, 8)] } ptpBody)

/-! ### CHAIN_STATUS (R413) -/

/-- The time record. -/
def State.timeRecord (s : State) : List Byte :=
  let t := s.time
  leBytes s.stamp.toNat 16 ++ leBytes t.servo.code 1 ++ leBytes t.role 1 ++ leBytes t.epoch.toNat 2 ++ leBytes t.rate.toNat 4 ++
    leBytes t.offset.toNat 4 ++ leBytes t.master.toNat 4 ++ leBytes t.holdNow.toNat 4 ++ leBytes t.syncs.toNat 4 ++
    leBytes t.jumps.toNat 2 ++ leBytes t.masterChanges.toNat 2 ++ leBytes (toBits 32 (Int.fdiv (t.hop * 1000) 65536)).toNat 4

/-- The chain record. -/
def ChainState.record (c : ChainState) : List Byte :=
  let ports := b2n c.inp.lock + 2 * b2n c.out.lock + 4 * b2n c.inp.broken + 8 * b2n c.out.broken
  let roles := b2n c.head + 2 * b2n c.sticky + 4 * b2n c.gw.isSome + 8 * b2n c.wrapped
  leBytes c.ua.toNat 4 ++ leBytes c.phys.toNat 2 ++ leBytes ports 1 ++ leBytes roles 1 ++
    leBytes (if c.head then c.nunits.toNat else 0) 2 ++ leBytes c.inp.crc.toNat 2 ++ leBytes c.out.crc.toNat 2 ++
    leBytes c.breakCount.toNat 2 ++ leBytes c.mbxRetry.toNat 4 ++ leBytes c.uaUnknown.toNat 2 ++ leBytes c.seenDrops.toNat 2 ++ leBytes 0 8

/-- The counters of both records are zero (R413, R446). -/
def State.clearChainCounts (s : State) : State :=
  let c := s.chain
  { s with
    time := { s.time with holdMs := 0, holdFrom := s.time.counter, syncs := 0, jumps := 0, masterChanges := 0 }
    chain := { c with
      inp := { c.inp with crc := 0 }
      out := { c.out with crc := 0 }
      breakCount := 0
      mbxRetry := 0
      uaUnknown := 0
      seenDrops := 0
      discards := 0 } }

/-- CHAIN_STATUS: the records, and with CLEAR their counters are zero after it. -/
def chainStatusBody (s : State) (q : Req) : Reply :=
  if 1 < q.n 0 1 then refuse s Code.ST_BAD_PARAM
  else done (if q.n 0 1 = 1 then s.clearChainCounts else s) (s.timeRecord ++ s.chain.record)

/-- CHAIN_STATUS (R413, R463). -/
def execChainStatus (src : Nat) (s : State) : Out := .next (s.command src { op := 0x0A0B, need := 1, cov := [(0, 1)] } chainStatusBody)

end Sys2Proof.Machine
end

