-- ==== Sys2Proof/Machine/Power.lean ====
section
/-! DEFINITION. Power domains and their shutters (R468 to R480), regulators (R481 to R483), policy and accounting (R484, R485),
and the thermal policy (R487). -/

namespace Sys2Proof.Machine

/-! ### Domains -/

/-- A state of a number (R464). -/
def domStateOf (n : Nat) : DomState :=
  match n with
  | 0 => .on | 1 => .clockOff | 2 => .retain | _ => .off

/-- The domain accepts the state (R469). -/
def domAccepts (d : Nat) (st : DomState) : Bool :=
  domIdOk d &&
    match st with
    | .on => true
    | .retain => decide (0x10 ≤ d ∧ d < 0x5C)
    | _ => decide (2 ≤ d)

/-- Sash, casement, DDR channel or quad number of a DOMID. -/
def domSashOf (d : Nat) : Option Nat := if 0x10 ≤ d ∧ d < 0x50 then some (d - 0x10) else none
def domCasOf (d : Nat) : Option Nat := if 0x50 ≤ d ∧ d < 0x5C then some (d - 0x50) else none
def domDdrOf (d : Nat) : Option Nat := if 0x60 ≤ d ∧ d < 0x68 then some (d - 0x60) else none
def domQuadOf (d : Nat) : Option Nat := if 0x70 ≤ d ∧ d < 0x80 then some (d - 0x70) else none

/-- The ring stop of a domain (R96, R471). -/
def domStop (d : Nat) : Option Nat :=
  match domSashOf d, domCasOf d, domDdrOf d with
  | some n, _, _ => some n
  | _, some k, _ => some (64 + k)
  | _, _, some c => some (76 + c / 2)
  | _, _, _ => none

/-! ### Refusers (R469) -/

/-- Unit addresses a running copy touches: start and length. -/
def State.copyRange (s : State) (tk : Nat) : Option (Nat × Nat) :=
  match tget none s.host.tickets tk with
  | some t => (match t.work with | .copy c => some (fld c 8 8, fld c 0x10 4) | _ => none)
  | none => none

/-- DMA traffic to a domain's memory: a copy that runs. -/
def State.dmaOn (s : State) (d : Nat) : Bool :=
  (s.host.copies.take 8).any fun tk =>
    match s.copyRange tk with
    | some (a, n) =>
      (match domDdrOf d with
       | some c => isDdr a && (s.areaChans (a, n)).contains c
       | none => (s.memAt a).map memDomain == some d)
    | none => false

/-- BAR2 traffic to a domain's memory. -/
def State.bar2On (s : State) (d : Nat) : Bool := s.host.bar2.any fun r => (s.memAt r.addr).map memDomain == some d

/-- A load in phase 3 writes sash `n` (R145, R469). -/
def State.loadOn (s : State) (n : Nat) : Bool :=
  s.host.tickets.any fun e =>
    match e.2 with
    | some t => t.final.isNone && t.phase == 3 && (match t.work, t.plan with | .load _ _, some p => p.sashes.contains n | _, _ => false)
    | none => false

/-- What refuses a sash's entry. -/
def State.sashRefuser (s : State) (n : Nat) (t : DomState) : Refuser :=
  let st := match s.siteOf n with | some k => (s.site k).state | none => .empty
  if st = .armed ∨ st = .running then .siteRunning
  else if t = .off ∧ (st = .loaded ∨ st = .halted ∨ st = .faulted) then .siteRunning
  else if s.loadOn n || s.dmaOn (domSash n) || s.bar2On (domSash n) then .dmaActive
  else .none

/-- What refuses a casement's entry. -/
def State.casRefuser (s : State) (k : Nat) (t : DomState) : Refuser :=
  let ts := (s.tasksOf k).map (·.2)
  let idle (x : TaskCtx) : Bool := match x.state with | .delayed _ => true | _ => false
  if ts.any (fun x => !idle x) || s.cas.streams.any (fun e => match e.2 with | some x => x.cas == k | none => false) then .siteRunning
  else if ts ≠ [] then .timePending
  else if t = .off ∧ (s.casm k).images ≠ [] then .siteRunning
  else .none

/-- What refuses a DDR channel's entry. -/
def State.ddrRefuser (s : State) (c : Nat) : Refuser :=
  let open_ := (List.range 16).any fun n =>
    let x := s.site n
    match x.fl.set with
    | some k => x.fl.open_ && ((x.img.failcfg.setAreas k).flatMap s.areaChans).contains c
    | none => false
  if open_ then .siteRunning else if s.dmaOn (domDdr c) then .dmaActive else .none

/-- The refuser of an entry of domain `d` to state `t`, or none (R469). -/
def State.refuser (s : State) (d : Nat) (t : DomState) : Refuser :=
  let x := s.dom d
  if x.held || x.keyHeld then .hostHold
  else if t = .retain ∧ s.power.thermal ≠ 0 then .thermal
  else
    match domSashOf d, domCasOf d, domDdrOf d, domQuadOf d with
    | some n, _, _, _ => s.sashRefuser n t
    | _, some k, _, _ => s.casRefuser k t
    | _, _, some c, _ => s.ddrRefuser c
    | _, _, _, some q => if (quadLanes q).any fun i => (s.lane i).mode != .idle then .siteRunning else .none
    | _, _, _, _ => if s.time.role = 2 then .timePending else if s.chain.gw.isSome then .hostHold else .none

/-! ### What a state change does to a domain's contents (R468, R469, R474, R479, R480) -/

/-- A domain takes a low-power state: what the state does not keep is lost. -/
def State.lowerDomain (s : State) (d : Nat) (t : DomState) : State :=
  match domSashOf d, domDdrOf d, domQuadOf d with
  | some n, _, _ => if t = .retain then s.modSash n fun x => { x with net := [], exch := 0, results := 0 } else s
  | _, some c, _ => if t = .off then (s.dropChannel c).setDdr c { s.ddr c with trained := false } else s
  | _, _, some q => s.setQuad q { s.quad q with lock := false }
  | _, _, _ => s

/-- Listed words of memory `m` with an error. -/
def State.badWords (s : State) (m : Nat) : List (Nat × Option WordCheck) := s.mem.check.filter fun e => s.memAt (8 * e.1) == some m

/-- The wake sweep of one retained bank: corrected words are written back; with an uncorrectable one the bank reads as never
written (R480). -/
def State.sweepBank (s : State) (m : Nat) : Bool × State :=
  let bad := s.badWords m
  let s := (bad.filter fun e => e.2 == some .correctable).foldl (fun s e => s.scrubWord m e.1) s
  if bad.any fun e => e.2 == some .uncorrectable then
    (true, (s.clearMemory m).postMemory Code.DI_RETENTION_LOST m 0 false)
  else (false, s)

/-- Sweep several banks. -/
def State.sweepBanks (s : State) (l : List Nat) : Bool × State :=
  l.foldl (fun (b, s) m => let (c, s) := s.sweepBank m; (b || c, s)) (false, s)

/-- The wake sweep of a sash: its scratchpad, its instruction stores and its bit stores (R480). -/
def State.sweepSash (s : State) (n : Nat) : State :=
  let (lost, s) := s.sweepBank n
  let x := s.sash n
  let errs := x.patches.filterMap fun e => e.2.map (·.err)
  let code := x.istoreErr.any (fun e => e.2 == 2) || errs.contains 2 || x.bitErr != []
  let corr := (x.istoreErr.filter fun e => e.2 == 1).length + errs.count 1
  let s := s.setSash n
    { x with
      istoreErr := x.istoreErr.filter fun e => e.2 != 1
      patches := tmapv none (fun _ e => e.map fun q => if q.err = 1 then { q with err := 0 } else q) x.patches
      ctr := { x.ctr with istoreCorr := satAdd x.ctr.istoreCorr corr } }
  if lost || code then s.faultSashNow n Code.DI_RETENTION_LOST 0xFF 0 else s

/-- Retained banks of casement `k` (R479). -/
def casBanks (k : Nat) : List Nat := (List.range 8).map (fun j => 0x1000 + 8 * k + j) ++ (List.range 8).map fun j => 0x2000 + 8 * k + j

/-- The wake sweep of a casement: a loss unloads its job images and ends its DELAYED tasks (R480). -/
def State.sweepCas (s : State) (k : Nat) : State :=
  let (lost, s) := s.sweepBanks (casBanks k)
  if lost then
    let s := (s.tasksOf k).foldl (fun s e => s.endTask e.1 Code.DI_RETENTION_LOST) s
    (s.modCasm k fun c => { c with images := [] }).settleCas k
  else s

/-- A domain comes back to ON from state `t`: from OFF its logic is reset and its memories read as never written; from RETAIN
the wake sweep runs (R474, R480). -/
def State.raiseDomain (s : State) (d : Nat) (t : DomState) : State :=
  match domSashOf d, domCasOf d with
  | some n, _ =>
    (match t with
     | .off =>
       let s := ((s.clearMemory n).setSash n {}).setTrig n {}
       (s.modLane n fun x => { x.clearRun with mode := .idle, cfg := {}, masks := {}, txIdle := true, exiting := false }).settleQuads
     | .retain => s.sweepSash n
     | _ => s)
  | _, some k =>
    (match t with
     | .off => ((casBanks k).foldl State.clearMemory s).setCasm k {}
     | .retain => s.sweepCas k
     | _ => s)
  | _, _ => s

/-! ### Regulators (R481 to R483) -/

/-- Fields of a rail map entry (R482). -/
def railDom (e : BitVec 64) : Nat := bits e.toNat 0 8
def railBus (e : BitVec 64) : Nat := bits e.toNat 8 8
def railAddr (e : BitVec 64) : Nat := bits e.toNat 16 8
def railPage (e : BitVec 64) : Nat := bits e.toNat 24 8

/-- The rail map entry of a domain (R482). -/
def PowerState.railOf (p : PowerState) (d : Nat) : Option (Nat × BitVec 64) :=
  p.rails.findSome? fun e => match e.2 with | some v => if railDom v = d then some (e.1, v) else none | none => none

/-- The request in progress on a bus. -/
def State.vreqOf (s : State) (b : Nat) : Option Vreq := tget none s.power.vreq b
def State.setVreq (s : State) (b : Nat) (v : Option Vreq) : State := { s with power := { s.power with vreq := tset none s.power.vreq b v } }

/-! ### Entries (R471, R472) -/

/-- An entry ends at E6: the domain is in its new state; a command's ticket ends, an autonomous entry is posted (R471, R484). -/
def State.entryDone (s : State) (d : Nat) : State :=
  match (s.dom d).entry with
  | none => s
  | some e =>
    let s := (s.lowerDomain d e.target).modDom d fun x => { x with state := e.target, entry := none }
    match e.ticket with
    | some tk => s.finish tk Code.ST_OK (leBytes 0 1)
    | none => s.postPolicy 4 d e.target.code

/-- SHUTTER_CLOSING (R471): E1, the refuser check, and the start of E2. -/
def execShutterClosing (dom : BitVec 8) (s : State) : Out :=
  .next
    (let d := dom.toNat
     let x := s.dom d
     match x.entry with
     | none => s
     | some e =>
       if e.draining = true ∨ x.state ≠ .on ∨ x.waking = true then s
       else
         match s.refuser d e.target with
         | .none => s.setDom d { x with entry := some { e with draining := true } }
         | r => s.refuseEntry d r e.ticket)

/-- The domain's ring stop is drained (R471). -/
def State.domDrained (s : State) (d : Nat) : Bool := match domStop d with | some n => s.stopEmpty n | none => true

/-- SHUTTER_DRAIN_DONE (R471, R482): E3 to E6; a mapped domain that goes OFF first has its rail turned off. -/
def execShutterDrainDone (dom : BitVec 8) (s : State) : Out :=
  .next
    (let d := dom.toNat
     let x := s.dom d
     match x.entry with
     | none => s
     | some e =>
       if e.draining = false ∨ e.isolated = true ∨ s.domDrained d = false then s
       else
         let t := s.setDom d { x with entry := some { e with isolated := true } }
         match (if e.target = .off then s.power.railOf d else none) with
         | none => t.entryDone d
         | some (i, v) =>
           if (s.vreqOf (railBus v)).isSome then s
           else t.setVreq (railBus v) (some { rail := i, on := false, rollback := false }))

/-- SHUTTER_DRAIN_TIMEOUT (R471): not drained within 2 µs. -/
def execShutterDrainTimeout (dom : BitVec 8) (s : State) : Out :=
  .next
    (let d := dom.toNat
     match (s.dom d).entry with
     | none => s
     | some e => if e.draining = true ∧ e.isolated = false then s.refuseEntry d .ringBusy e.ticket else s)

/-- IDLE_POLICY_TIMEOUT (R484): a domain idle for IDLE_US starts an entry to its TARGET. -/
def execIdlePolicyTimeout (dom : BitVec 8) (s : State) : Out :=
  .next
    (let d := dom.toNat
     let x := s.dom d
     let t := domStateOf x.target.toNat
     if x.auto = true ∧ x.state = .on ∧ x.entry = none ∧ x.waking = false ∧ domAccepts d t = true then
       s.setDom d { x with entry := some { target := t, ticket := none, draining := false } }
     else s)

/-! ### Wakes (R474 to R477) -/

/-- Commands that wait for the domain no longer do. -/
def State.clearWaits (s : State) (d : Nat) : State :=
  let h := { s.host with chans := tmapv {} (fun _ c => if c.waits = some d then { c with waits := none } else c) s.host.chans }
  let c := { s.chain with
    slots := tmapv none (fun _ r => r.map fun r => if r.waits = some d then { r with waits := none } else r) s.chain.slots }
  { s with host := h, chain := c }

/-- The firmware's own messages that waited are served. -/
def State.retryOwn (s : State) : State := (s.chain.slots.map (·.1)).foldl (fun s n => s.ownRequest n) s

/-- The domain is released: ON, counted and posted; held accesses may proceed (R474, R475). -/
def State.release (s : State) (d : Nat) : State :=
  let x := s.dom d
  let s := (s.raiseDomain d x.state).modDom d fun y =>
    { y with state := .on, waking := false, wakes := satInc y.wakes, wakeTicket := none }
  let s := s.postPolicy 5 d 0
  let s := match x.wakeTicket with | some tk => s.finish tk Code.ST_OK (leBytes 0 1) | none => s
  (s.clearWaits d).retryOwn

/-- DOMAIN_WAKE (R474, R475, R482): the exit, with the rail of a mapped domain turned on first. -/
def execDomainWake (dom : BitVec 8) (s : State) : Out :=
  .next
    (let d := dom.toNat
     let x := s.dom d
     if x.waking = false ∨ x.state = .on ∨ x.locked = true then s
     else
       match s.power.railOf d with
       | some (i, v) =>
         if s.power.railOff.contains i = false then s.release d
         else if (s.vreqOf (railBus v)).isSome then s
         else s.setVreq (railBus v) (some { rail := i, on := true, rollback := false })
       | none => s.release d)

/-- WAKE_TIMEOUT (R476): commands and worms that wait for the domain are answered; the exit goes on. -/
def execWakeTimeout (dom : BitVec 8) (s : State) : Out :=
  .next
    (let d := dom.toNat
     if (s.dom d).waking = false then s
     else
       let srcs := ((List.range 16).filter fun c => (s.chan c).waits == some d) ++
         s.chain.slots.filterMap fun e => match e.2 with | some r => if r.waits = some d then some e.1 else none | none => none
       let s := srcs.foldl
         (fun s n => match s.request n with | some q => s.reply q Code.PW_WAKE_TIMEOUT [] 0 | none => s) s
       (s.ring.worms.filter fun w => w.place == .source && s.wormDomain w == some d).foldl
         (fun s w => s.setWorm { w.answer 10 Code.PW_WAKE_TIMEOUT [] with place := .target }) s)

/-! ### Voltage requests (R483) -/

/-- A POWER entry about a regulator: bus, address and page after the counter. -/
def State.postVreq (s : State) (v : BitVec 64) : State :=
  s.post 0x0C Code.PW_VREQ_TIMEOUT 0xFF (railDom v) 0
    (leBytes (s.dom (railDom v)).refusals.toNat 2 ++ leBytes 0 6 ++ leBytes (railBus v) 1 ++ leBytes (railAddr v) 1 ++ leBytes (railPage v) 1)

/-- VREQ_ACK (R482, R483): the rail follows the request; an off request ends the entry, a rollback leaves the domain as it was. -/
def execVreqAck (bus : Fin 2) (s : State) : Out :=
  .next
    (match s.vreqOf bus.val with
     | none => s
     | some r =>
       let off := s.power.railOff.filter (· != r.rail)
       let s := (s.setVreq bus.val none)
       let s : State := { s with power := { s.power with railOff := if r.on then off else off ++ [r.rail] } }
       match tget none s.power.rails r.rail with
       | none => s
       | some v =>
         if r.rollback then s.modDom (railDom v) fun x => { x with entry := none, waking := false }
         else if r.on then (if railDom v = 0xFE then s else s.release (railDom v))
         else s.entryDone (railDom v))

/-- VREQ_TIMEOUT (R483): posted and rolled back; a rollback that is not acknowledged leaves the domain locked off. -/
def execVreqTimeout (bus : Fin 2) (s : State) : Out :=
  .next
    (match s.vreqOf bus.val with
     | none => s
     | some r =>
       match tget none s.power.rails r.rail with
       | none => s.setVreq bus.val none
       | some v =>
         let d := railDom v
         let s := s.postVreq v
         if d = 0xFE then s.setVreq bus.val none
         else if r.rollback then
           let s := s.setVreq bus.val none
           let s := (s.lowerDomain d .off).modDom d fun x => { x with state := .off, locked := true, entry := none, waking := false }
           s.post 0x0C Code.PW_DOMAIN_LOCKED 0xFF d 0 (leBytes (s.dom d).refusals.toNat 2)
         else
           let x := s.dom d
           let s := s.setVreq bus.val (some { rail := r.rail, on := !r.on, rollback := true })
           let tk := match x.entry with | some e => e.ticket | none => x.wakeTicket
           let s := s.modDom d fun x =>
             { x with wakeTicket := none, entry := x.entry.map fun e => { e with ticket := none } }
           match tk with
           | some k => s.finish k Code.PW_VREQ_TIMEOUT (leBytes 0 1)
           | none => s)

/-- PMB_ALERT (R481): counted, and nothing else. -/
def execPmbAlert (s : State) : Out := .next { s with power := { s.power with pmbAlerts := satInc s.power.pmbAlerts } }

/-! ### Commands of the power group (R464, R465) -/

/-- DOMAIN_SET ON: an access that starts an exit, ends an entry, or finds the domain ON (R472, R475, R478). -/
def State.domainOn (s : State) (d : Nat) (tk : BitVec 32) : State :=
  match s.access d false with
  | (.locked, s) => s.finish tk Code.PW_DOMAIN_LOCKED (leBytes 0 1)
  | (.go, s) =>
    if (s.dom d).state = .on then s.finish tk Code.ST_OK (leBytes 0 1)
    else s.modDom d fun x => { x with waking := true, wakeTicket := some tk }
  | (.wait, s) => s.modDom d fun x => { x with wakeTicket := some tk }

/-- DOMAIN_SET to a low-power state: an entry, after a release when the domain is in another such state (R471, R478). -/
def State.domainLow (s : State) (d : Nat) (t : DomState) (tk : BitVec 32) : State :=
  let x := s.dom d
  let e : Entry := { target := t, ticket := some tk, draining := false }
  if x.state = t then s.finish tk Code.ST_OK (leBytes 0 1)
  else if x.locked then s.finish tk Code.PW_DOMAIN_LOCKED (leBytes 0 1)
  else
    match x.entry with
    | some o =>
      if o.isolated = true ∧ o.target = t ∧ o.ticket = none then s.setDom d { x with entry := some { o with ticket := some tk } }
      else if o.isolated then s.finish tk Code.PW_ENTRY_REFUSED (leBytes Refuser.ringBusy.code 1)
      else s.setDom d { x with entry := some e }
    | none => s.setDom d { x with entry := some e, waking := x.waking || x.state != .on }

/-- DOMAIN_SET: long; a state the domain does not accept is refused (R469, R471). -/
def domainSetBody (s : State) (q : Req) : Reply :=
  let d := q.n 0 1
  let t := domStateOf (q.n 1 1)
  if 3 < q.n 1 1 ∨ domAccepts d t = false then refuse s Code.ST_BAD_PARAM
  else
    let r := s.accept q (.domainSet d (q.n 1 1)) false 0
    if r.st = Code.ST_ACCEPTED then { r with s := if t = .on then r.s.domainOn d r.tk else r.s.domainLow d t r.tk } else r

/-- DOMAIN_SET (R464, R471). -/
def execDomainSet (src : Nat) (s : State) : Out := .next (s.command src { op := 0x0B01, need := 2, cov := [(0, 2)] } domainSetBody)

/-- DOMAIN_LOCK OP 0: the domain is unlocked and stays OFF (R478). -/
def domainUnlockBody (s : State) (q : Req) : Reply :=
  if domIdOk (q.n 0 1) = false then refuse s Code.ST_BAD_PARAM
  else done (s.modDom (q.n 0 1) fun x => { x with locked := false }) []

/-- DOMAIN_UNLOCK (R464, R478). -/
def execDomainUnlock (src : Nat) (s : State) : Out :=
  .next (s.command src { op := 0x0B02, form := some (1, 0), need := 2, cov := [(0, 2)] } domainUnlockBody)

/-- DOMAIN_LOCK OP 1: only an OFF domain is locked (R464, R478). -/
def domainLockOffBody (s : State) (q : Req) : Reply :=
  let d := q.n 0 1
  if domIdOk d = false then refuse s Code.ST_BAD_PARAM
  else if (s.dom d).state ≠ .off then refuse s Code.ST_FIELD_BUSY
  else done (s.modDom d fun x => { x with locked := true, waking := false }) []

/-- DOMAIN_LOCK_OFF (R464, R478). -/
def execDomainLockOff (src : Nat) (s : State) : Out :=
  .next (s.command src { op := 0x0B02, form := some (1, 1), need := 2, cov := [(0, 2)] } domainLockOffBody)

/-- DOMAIN_LOCK OP 2: every low-power entry is refused from now on (R464, R469). -/
def domainHoldOnBody (s : State) (q : Req) : Reply :=
  if domIdOk (q.n 0 1) = false then refuse s Code.ST_BAD_PARAM
  else done (s.modDom (q.n 0 1) fun x => { x with held := true }) []

/-- DOMAIN_HOLD_ON (R464). -/
def execDomainHoldOn (src : Nat) (s : State) : Out :=
  .next (s.command src { op := 0x0B02, form := some (1, 2), need := 2, cov := [(0, 2)] } domainHoldOnBody)

/-- DOMAIN_LOCK OP 3: the hold ends (R464). -/
def domainHoldReleaseBody (s : State) (q : Req) : Reply :=
  if domIdOk (q.n 0 1) = false then refuse s Code.ST_BAD_PARAM
  else done (s.modDom (q.n 0 1) fun x => { x with held := false }) []

/-- DOMAIN_HOLD_RELEASE (R464). -/
def execDomainHoldRelease (src : Nat) (s : State) : Out :=
  .next (s.command src { op := 0x0B02, form := some (1, 3), need := 2, cov := [(0, 2)] } domainHoldReleaseBody)

/-- Every DOMID (R464). -/
def allDoms : List Nat := (List.range 0x80).filter domIdOk

/-- POWER_POLICY: one domain, or with 0xFF every domain that accepts TARGET (R464, R484). -/
def powerPolicyBody (s : State) (q : Req) : Reply :=
  let d := q.n 0 1
  let t := q.n 2 1
  let us := q.n 4 4
  if (d ≠ 0xFF ∧ domAccepts d (domStateOf t) = false) ∨ 1 < q.n 1 1 ∨ t = 0 ∨ 3 < t ∨ us = 0 ∨ 1000000 < us then refuse s Code.ST_BAD_PARAM
  else
    let ds := if d = 0xFF then allDoms.filter fun k => domAccepts k (domStateOf t) else [d]
    done (ds.foldl
      (fun s k => s.modDom k fun x => { x with auto := q.n 1 1 == 1, target := BitVec.ofNat 8 t, idleUs := BitVec.ofNat 32 us }) s) []

/-- POWER_POLICY (R464, R484). -/
def execPowerPolicy (src : Nat) (s : State) : Out :=
  .next (s.command src { op := 0x0B03, need := 8, cov := [(0, 3), (4, 4)] } powerPolicyBody)

/-- POWER_STATUS: state, flags and counts of a domain (R464, R485). -/
def powerStatusBody (s : State) (q : Req) : Reply :=
  let x := s.dom (q.n 0 1)
  if domIdOk (q.n 0 1) = false then refuse s Code.ST_BAD_PARAM
  else
    done s
      (leBytes x.state.code 1 ++ leBytes (b2n x.locked + 2 * b2n (x.held || x.keyHeld) + 4 * b2n x.auto) 1 ++ leBytes x.refusals.toNat 2 ++
        leBytes x.lastRefuser.code 1 ++ leBytes 0 1 ++ leBytes x.wakes.toNat 2)

/-- POWER_STATUS (R464, R485). -/
def execPowerStatus (src : Nat) (s : State) : Out := .next (s.command src { op := 0x0B04, need := 1, cov := [(0, 1)] } powerStatusBody)

/-- T_CRIT, 105 °C in 0.25 °C (R465). -/
def tCrit : Nat := 420

/-- The record of THERMAL (R464, R465). -/
def PowerState.thermalRecord (p : PowerState) : List Byte :=
  leBytes (toBits 16 p.tj).toNat 2 ++ leBytes p.alarm.toNat 2 ++ leBytes tCrit 2 ++ leBytes p.thermal 1

/-- THERMAL OP 0: read. -/
def thermalReadBody (s : State) (_ : Req) : Reply := done s s.power.thermalRecord

/-- THERMAL_READ (R464, R465). -/
def execThermalRead (src : Nat) (s : State) : Out :=
  .next (s.command src { op := 0x0B05, form := some (0, 0), need := 1, cov := [(0, 1), (2, 2)] } thermalReadBody)

/-- THERMAL OP 1: ALARM is 240 to 416 (R465). -/
def thermalSetAlarmBody (s : State) (q : Req) : Reply :=
  let v := q.n 2 2
  if v < 240 ∨ 416 < v then refuse s Code.ST_BAD_PARAM
  else
    let p := { s.power with alarm := BitVec.ofNat 16 v }
    done { s with power := p } p.thermalRecord

/-- THERMAL_SET_ALARM (R464, R465). -/
def execThermalSetAlarm (src : Nat) (s : State) : Out :=
  .next (s.command src { op := 0x0B05, form := some (0, 1), need := 4, cov := [(0, 1), (2, 2)] } thermalSetAlarmBody)

/-! ### Thermal policy (R487) -/

/-- The thermal state that follows from a reading (R487). -/
def thermalNext (old : Nat) (tj : Int) (alarm : Nat) : Nat :=
  if (tCrit : Int) ≤ tj then 2
  else
    match old with
    | 2 => if tj ≤ (tCrit : Int) - 40 then 1 else 2
    | 1 => if tj ≤ (alarm : Int) - 20 then 0 else 1
    | _ => if (alarm : Int) ≤ tj then 1 else 0

/-- Start an entry that the thermal policy takes. -/
def State.thermalEntry (s : State) (d : Nat) (t : DomState) : State :=
  let x := s.dom d
  if x.state = .on ∧ x.entry = none then s.setDom d { x with entry := some { target := t, ticket := none, draining := false } } else s

/-- Critical: running sites fault, armed ones are disarmed, jobs end, and sashes and casements go low (R487). -/
def State.critical (s : State) : State :=
  let s := (List.range 16).foldl
    (fun s n =>
      match (s.site n).state with
      | .running => s.faultNow n (faultOf Code.TF_THERMAL 0xFF 0xFF 0 0)
      | .armed => s.disarmSite n
      | _ => s) s
  let s := s.endAllJobs Code.TF_THERMAL
  let s := (List.range 12).foldl (fun s k => s.settleCas k) s
  let s := (List.range 64).foldl (fun s n => s.thermalEntry (domSash n) (if (s.siteOf n).isSome then .clockOff else .off)) s
  (List.range 12).foldl (fun s k => s.thermalEntry (domCas k) (if (s.casm k).images = [] then .off else .clockOff)) s

/-- THERMAL_SAMPLE (R487): T_J is the hottest reading, and the thermal state follows it. -/
def execThermalSample (sensors : List Int) (s : State) : Out :=
  .next
    (match sensors with
     | [] => s
     | a :: l =>
       let tj := l.foldl max a
       let old := s.power.thermal
       let new := thermalNext old tj s.power.alarm.toNat
       let s : State := { s with power := { s.power with tj := tj, thermal := new } }
       if new = old then s
       else
         let s := s.post 0x0D (if new = 0 then Code.ST_OK else if new = 1 then Code.PW_THERMAL_ALARM else Code.TF_THERMAL) 0xFF 0 new
           (leBytes (toBits 16 tj).toNat 2)
         if new = 2 then s.critical else s)

/-- THERM_TRIP (R487): the AON comparator asserts THERM_TRIP_N. -/
def execThermTrip (s : State) : Out := .next { s with power := { s.power with tripped := true } }

end Sys2Proof.Machine
end

