-- ==== Sys2Proof/Machine/Debug.lean ====
section
/-! DEFINITION. The debug group (R466): SASH_STATUS (R71), WCELL_STATUS (R95), the keyhole's commands and frames (R503 to R506), and
PEEK. -/

namespace Sys2Proof.Machine

/-! ### SASH_STATUS and WCELL_STATUS -/

/-- SASH to STALL_EVENTS of R71, 32 bytes. -/
def State.sashRecord0 (s : State) (i : Nat) : List Byte :=
  let x := s.sash i
  let n := s.siteOf i
  let y := s.site (n.getD 0)
  let own (k : Nat) : Nat := if n.isSome then k else 0
  leBytes i 1 ++ leBytes (n.getD 0xFF) 1 ++ leBytes (own (b2n y.img.scoreboard + 2 * b2n y.img.strict)) 2 ++
    leBytes (own y.img.sched) 2 ++ leBytes (own y.img.linkExch) 2 ++ leBytes (own y.cycle.toNat) 8 ++
    leBytes x.ctr.istoreCorr.toNat 4 ++ leBytes x.ctr.bitstorePar.toNat 2 ++ leBytes x.ctr.badExpect.toNat 2 ++
    leBytes x.ctr.stallSteps.toNat 4 ++ leBytes x.ctr.stallEvents.toNat 4

/-- The record of R71, 64 bytes. -/
def State.sashRecord (s : State) (i : Nat) : List Byte :=
  let c := (s.sash i).ctr
  s.sashRecord0 i ++ leBytes c.lastStallCycle.toNat 8 ++ leBytes c.lastStallStep.toNat 2 ++ leBytes c.lastStallCause.toNat 1 ++
    leBytes 0 1 ++ leBytes c.paceSteps.toNat 4 ++ leBytes c.rbwCount.toNat 2 ++ leBytes (c.rbwPane.toNat * 256) 2 ++
    leBytes c.rbwStep.toNat 2 ++ leBytes 0 10

/-- SASH_STATUS: the record as it stood; the clear form then clears the counters (R71). -/
def sashStatusBody (s : State) (q : Req) : Reply :=
  let i := q.n 0 1
  if 64 ≤ i then refuse s Code.ST_BAD_PARAM
  else if 2 ≤ q.n 1 1 then refuse s Code.ST_RESERVED_NONZERO
  else done (if q.n 1 1 = 1 then s.modSash i fun x => { x with ctr := {} } else s) (s.sashRecord i)

/-- SASH_STATUS (R71, R466). -/
def execSashStatus (src : Nat) (s : State) : Out :=
  .next (s.command src { op := 0x0C01, need := 2, cov := [(0, 2)], doms := laneDomain } sashStatusBody)

/-- The record of R95, 64 bytes. -/
def Sash.wcRecord (x : Sash) (i : Nat) : List Byte :=
  let r := x.wrec
  leBytes i 1 ++ leBytes (b2n x.cfg.free) 1 ++ leBytes 0 6 ++ leBytes r.wstep.toNat 8 ++ leBytes r.boundHold.toNat 4 ++
    leBytes r.mulHold.toNat 4 ++ leBytes r.patWords.toNat 8 ++ leBytes r.malCollide.toNat 2 ++ leBytes r.wputCollide.toNat 2 ++
    leBytes r.contendWires.toNat 1 ++ leBytes 0 1 ++ leBytes r.parityCell.toNat 1 ++ leBytes 0 1 ++ leBytes r.contendStep.toNat 8 ++
    leBytes x.paceNum.toNat 4 ++ leBytes x.paceDen.toNat 4 ++ leBytes 0 8

/-- WCELL_STATUS: the record of R95. -/
def wcellStatusBody (s : State) (q : Req) : Reply :=
  if 64 ≤ q.n 0 1 then refuse s Code.ST_BAD_PARAM else done s ((s.sash (q.n 0 1)).wcRecord (q.n 0 1))

/-- WCELL_STATUS (R95, R466). -/
def execWcellStatus (src : Nat) (s : State) : Out :=
  .next (s.command src { op := 0x0C02, need := 1, cov := [(0, 1)], doms := laneDomain } wcellStatusBody)

/-! ### KEYHOLE_SEL (R503) -/

/-- Why a SOURCE word is refused: reserved and unused bits, then KIND, UNIT and SEL (R10, R503). -/
def sourceBad (w : BitVec 32) : Option Status :=
  let v := w.toNat
  let kind := bits v 28 4
  let u := bits v 20 7
  let sel := bits v 0 20
  if 5 < kind then some Code.ST_BAD_PARAM
  else if bit v 27 then some Code.ST_RESERVED_NONZERO
  else
    match kind with
    | 0 => if v = 0 then none else some Code.ST_RESERVED_NONZERO
    | 1 => if 32 ≤ sel then some Code.ST_RESERVED_NONZERO else if 64 ≤ u then some Code.ST_BAD_PARAM else none
    | 2 => if bit sel 17 || bit sel 18 || bit sel 19 then some Code.ST_RESERVED_NONZERO else if 64 ≤ u then some Code.ST_BAD_PARAM else none
    | 3 => if bits sel 5 4 ≠ 0 then some Code.ST_RESERVED_NONZERO else if 64 ≤ u ∨ 17 < bits sel 9 5 then some Code.ST_BAD_PARAM else none
    | 4 => if 8 ≤ sel then some Code.ST_RESERVED_NONZERO else if 64 ≤ u ∨ 4 < sel then some Code.ST_BAD_PARAM else none
    | _ => if sel ≠ 0 then some Code.ST_RESERVED_NONZERO else if 82 < u then some Code.ST_BAD_PARAM else none

/-- The source lies in a sash, the one its UNIT names (R503). -/
def sourceSash (w : BitVec 32) : Option Nat :=
  let u := bits w.toNat 20 7
  if bits w.toNat 28 4 ≠ 0 ∧ u < 64 then some u else none

/-- Distinct sources of sash `i` in the tree. -/
def Keyhole.sourcesOf (k : Keyhole) (i : Nat) : List (BitVec 32) :=
  ((k.src.map (·.2)).filter fun w => sourceSash w == some i).dedup

/-- A newly selected kind-2 source starts from the latest result of its pane at step K, which is net bit K (R36, R503). -/
def State.startPane (s : State) (k : Keyhole) (w : BitVec 32) : Keyhole :=
  let u := bits w.toNat 20 7
  let step := bits w.toNat 8 9
  let pane := bits w.toNat 0 8
  let sched := match s.siteOf u with | some n => (s.site n).img.sched | none => 0
  if bits w.toNat 28 4 ≠ 2 ∨ s.power.key.src.any (fun e => e.2 == w) = true then k
  else
    let v := decide (step < sched) && getBit (tget 0 (s.sash u).net pane) step
    { k with pane := tset false k.pane (u * 2 ^ 17 + step * 2 ^ 8 + pane) v }

/-- KEYHOLE_SEL: the source of one pin or tap; no domain is woken (R503). -/
def keyholeSelBody (s : State) (q : Req) : Reply :=
  let o := q.n 0 1
  let w : BitVec 32 := BitVec.ofNat 32 (q.n 4 4)
  if 16 ≤ o ∧ (o < 0x20 ∨ 0x40 ≤ o) then refuse s Code.ST_BAD_PARAM
  else
    match sourceBad w with
    | some st => refuse s st
    | none =>
      let k := { s.power.key with src := tset 0 s.power.key.src o w }
      let many := match sourceSash w with | some i => decide (8 < (k.sourcesOf i).length) | none => false
      if many then refuse s Code.ST_RESOURCE_BUSY
      else
        let p := { s.power with key := s.startPane k w }
        done { s with power := p } []

/-- KEYHOLE_SEL (R466, R503). -/
def execKeyholeSel (src : Nat) (s : State) : Out :=
  .next (s.command src { op := 0x0C03, need := 8, cov := [(0, 1), (4, 4)] } keyholeSelBody)

/-! ### KEYHOLE_LANE (R505, R506) -/

/-- NUM and DEN of pin mode at a rate, in lowest terms (R83, R506). -/
def State.keyholePace (s : State) (rate : Nat) : Nat × Nat :=
  let num := rate * 1024
  let den := 1122 * 32 * (if s.id.grade12 then 1250 else 1000)
  let g := Nat.gcd num den
  (num / g, den / g)

/-- Sash and quad of the lane the request names (R475). -/
def keyholeDomains (_ : State) (q : Req) : List Nat :=
  if q.n 0 1 < 64 then [domSash (q.n 0 1), domQuad (q.n 0 1 / 4)] else []

/-- KEYHOLE_LANE OP 1: a lane of no site, no other taken, the step clock from the lane reference (R505). -/
def keyholeLaneTakeBody (s : State) (q : Req) : Reply :=
  let i := q.n 0 1
  let rate := q.n 4 4
  if 64 ≤ i ∨ rateOk rate = false then refuse s Code.ST_BAD_PARAM
  else if (s.siteOf i).isSome ∨ s.power.key.lane.isSome ∨ s.laneTaken i = true ∨ (s.lane i).calib.isSome ∨ s.power.clk.paced = false ∨
      s.quadsFit [(i, rate)] (fun j => j != i) = false then
    refuse s Code.ST_LANE_BUSY
  else
    let s := (s.setQuadRates [(i, rate)] fun j => j != i).modLane i fun l => l.enter .keyhole rate
    let s := s.modDom (domSash i) fun d => { d with keyHeld := true }
    let k := { s.power.key with
      lane := some i
      acc := 0
      num := (s.keyholePace rate).1
      den := (s.keyholePace rate).2
      step := 0
      samples := [] }
    done { s with power := { s.power with key := k } } []

/-- KEYHOLE_LANE_TAKE (R466, R505). -/
def execKeyholeLaneTake (src : Nat) (s : State) : Out :=
  .next (s.command src { op := 0x0C04, form := some (1, 1), need := 8, cov := [(0, 2), (4, 4)], doms := keyholeDomains } keyholeLaneTakeBody)

/-- The keyhole lane is given back, and the hold on its sash ends (R505). -/
def State.releaseKeyhole (s : State) : State :=
  match s.power.key.lane with
  | none => s
  | some i =>
    let s := (s.modLane i fun l => l.enter .idle 0).settleQuads
    let s := s.modDom (domSash i) fun d => { d with keyHeld := false }
    let k := { s.power.key with lane := none, samples := [] }
    { s with power := { s.power with key := k } }

/-- KEYHOLE_LANE OP 0. -/
def keyholeLaneReleaseBody (s : State) (q : Req) : Reply :=
  let i := q.n 0 1
  if 64 ≤ i then refuse s Code.ST_BAD_PARAM
  else if (s.siteOf i).isSome then refuse s Code.ST_LANE_BUSY
  else done (if s.power.key.lane = some i then s.releaseKeyhole else s) []

/-- KEYHOLE_LANE_RELEASE (R466, R505). -/
def execKeyholeLaneRelease (src : Nat) (s : State) : Out :=
  .next (s.command src { op := 0x0C04, form := some (1, 0), need := 2, cov := [(0, 2), (4, 4)] } keyholeLaneReleaseBody)

/-! ### Keyhole frames (R506) -/

/-- Header of a keyhole frame: TYPE 4, STEP0 and CRC16 (R506). -/
def keyholeHeader (step0 pay : Nat) : BitVec 64 :=
  let h := 4 + step0 % 2 ^ 40 * 2 ^ 8
  BitVec.ofNat 64 (h + pinCrc h pay * 2 ^ 48)

/-- KEYHOLE_FRAME (R506): the oldest 32 samples leave in one frame, scrambled and stamped as pin frames are (R190, R374). -/
def execKeyholeFrame (s : State) : Out :=
  .next
    (let k := s.power.key
     match k.lane with
     | none => s
     | some i =>
       if k.samples.length < 32 then s
       else
         let pay := (k.samples.take 32).foldr (fun e a => e.2.toNat + 2 ^ 32 * a) 0
         let step0 := match k.samples with | e :: _ => e.1 | [] => 0
         let f := (keyholeHeader step0 pay, BitVec.ofNat 1024 pay)
         let s := s.modLane i fun l =>
           let b := scrambleBlocks l.txScr (frameBlocks f.1 pay 16)
           { l with txLast := some f, txBlocks := b.1, txScr := b.2, phy := { l.phy with lastTx := s.stamp } }
         let k := { k with samples := k.samples.drop 32, frames := f :: k.frames }
         { s with power := { s.power with key := k } })

/-! ### PEEK (R466) -/

/-- The 64 bytes a PEEK returns. -/
def Sash.peek (x : Sash) (what i : Nat) : List Byte :=
  match what with
  | 0 => leBytes (tget 0 x.net i).toNat 64
  | 1 => leBytes (tget 0 x.st i).toNat 64
  | 2 => leBytes (tget 0 x.shadow i).toNat 64
  | 3 => (List.range 16).flatMap fun r => leBytes ((x.cell i).reg r).toNat 4
  | _ => leBytes x.exch.toNat 64

/-- PEEK: a store of a pane, a cell's registers, or the exchange. -/
def peekBody (s : State) (q : Req) : Reply :=
  let i := q.n 0 1
  let what := q.n 2 1
  if 64 ≤ i ∨ 4 < what ∨ (what = 3 ∧ 64 ≤ q.n 1 1) then refuse s Code.ST_BAD_PARAM
  else
    match s.siteOf i with
    | none => done s (List.replicate 64 0)
    | some n =>
      if (s.site n).state = .armed ∨ (s.site n).state = .running then refuse s Code.ST_SITE_STATE
      else done s ((s.sash i).peek what (q.n 1 1))

/-- PEEK (R466). -/
def execPeek (src : Nat) (s : State) : Out :=
  .next (s.command src { op := 0x0C05, need := 3, cov := [(0, 3)], doms := laneDomain } peekBody)

end Sys2Proof.Machine
end

