-- ==== Sys2Proof/Machine/Startup.lean ====
section
/-! DEFINITION. Start-up and boot (R436, R437, R488 to R492), clocks (R494 to R499), resets (R438, R500, R501, R517), the PCIe
configuration space (R414) and the TAP (R507, R508). -/

namespace Sys2Proof.Machine

/-! ### Resets -/

/-- A memory's bookkeeping after a reset: what is fused stays (R349, R356). -/
def MemStatus.cold (m : MemStatus) : MemStatus := { spareCols := m.spareCols }

/-- Memory after a reset: never written, the channels as the board fits them and untrained (R341, R346, R500). -/
def MemState.cold (m : MemState) : MemState :=
  { status := tmapv {} (fun _ x => x.cold) m.status
    chans := tmapv {} (fun _ c => { c with trained := false, rate := 0 }) m.chans }

/-- The host interface after power-on or SYS_RST_N; host memory and PERST_N are the environment's (R438, R500). -/
def HostState.cold (h : HostState) : HostState := { mem := h.mem, perst := h.perst }

/-- Clocks after a reset: the references are the board's (R495). -/
def Clocks.cold (c : Clocks) : Clocks := { refLane := c.refLane, refSys := c.refSys }

/-- Power-on reset: everything at its reset value; identity, board and host memory are not the unit's to reset (R488, R500). -/
def State.powerOn (s : State) : State :=
  { State.reset with
    id := { s.id with fwVersion := 0 }
    mem := s.mem.cold
    host := s.host.cold
    power := { State.reset.power with
      clk := s.power.clk.cold
      board := s.power.board }
    freeCtr := s.freeCtr
    pending := s.pending }

/-- The chain after SYS_RST_N: forwarding, its ports and counters and the sticky address survive (R391, R500). -/
def ChainState.warm (c : ChainState) : ChainState :=
  { ua := if c.sticky then c.stickyUa else uaNone
    sticky := c.sticky
    stickyUa := c.stickyUa
    head := c.head
    phys := c.phys
    nunits := c.nunits
    map := c.map
    inp := c.inp
    out := c.out
    breakCount := c.breakCount
    mbxRetry := c.mbxRetry
    uaUnknown := c.uaUnknown
    seenDrops := c.seenDrops
    discards := c.discards
    sent := c.sent }

/-- Time after SYS_RST_N: the counter at its last RATE, EPOCH, the servo and its counters survive; generators and TIME_OUT pins
are cleared (R500, R501). -/
def TimeState.warm (t : TimeState) : TimeState :=
  { counter := t.counter
    epoch := t.epoch
    servo := t.servo
    rate := t.rate
    freq := t.freq
    stepped := t.stepped
    offset := t.offset
    master := t.master
    holdMs := t.holdMs
    holdFrom := if t.servo = .tracking ∨ t.servo = .locked then t.counter else t.holdFrom
    syncs := t.syncs
    jumps := t.jumps
    masterChanges := t.masterChanges
    hops := t.hops
    hopSeq := t.hopSeq
    timeSeq := t.timeSeq }

/-- AON survives SYS_RST_N: its PLL, the TAP, the thermal comparator and the unit's age (R500). -/
def PowerState.warm (p : PowerState) (low : Bool) : PowerState :=
  { State.reset.power with
    clk := { p.clk.cold with aon := p.clk.aon }
    board := p.board
    bootSrc := p.bootSrc
    tripped := p.tripped
    tap := p.tap
    ps := p.ps
    sysRst := low }

/-- SYS_RST_N or the VDD monitor: every domain except AON; `low` while the pin is held (R500, R517). -/
def State.sysReset (s : State) (low : Bool) : State :=
  { id := { s.id with fwVersion := 0 }
    mem := s.mem.cold
    chain := s.chain.warm
    time := s.time.warm
    host := s.host.cold
    power := s.power.warm low
    freeCtr := s.freeCtr
    pending := s.pending }

/-- The boot ROM serves channel 0 (R423, R437). -/
def HostState.romChannel (h : HostState) : HostState :=
  { h with chans := tset {} h.chans 0 { tget {} h.chans 0 with state := .idle, last := 0xFFFF } }

/-- Start-up at a release of POR or SYS_RST_N: the strap is sampled, the endpoint trains once PERST_N is high, the ROM runs
(R488, R489); a TRACKING or LOCKED servo comes back in HOLDOVER (R501). -/
def State.startUp (s : State) (bootSrc : BitVec 2) : State :=
  let h := { s.host with linkUp := !s.host.perst }
  let h := if bootSrc = 1 then { h.romChannel with bootState := 1 } else h
  let t := if s.time.servo = .tracking ∨ s.time.servo = .locked then { s.time with servo := Servo.holdover } else s.time
  { s with
    host := h
    time := t
    power := { s.power with bootSrc := bootSrc, sysRst := false } }

/-- POWER_ON_RESET (R488, R489, R500). -/
def execPowerOnReset (bootSrc : BitVec 2) (s : State) : Out := .next (s.powerOn.startUp bootSrc)

/-- SYS_RST_N (R500, R501): its falling edge. -/
def execSysRstN (s : State) : Out := .next (if s.power.sysRst then s else s.sysReset true)

/-- SYS_RST_N_RELEASE (R489, R501): its rising edge. -/
def execSysRstNRelease (bootSrc : BitVec 2) (s : State) : Out := .next (if s.power.sysRst then s.startUp bootSrc else s)

/-- VDD_UNDERVOLTAGE (R517): every domain except AON is reset, and the unit restarts. -/
def execVddUndervoltage (s : State) : Out :=
  .next
    (let t := s.sysReset s.power.sysRst
     if s.power.sysRst then t else t.startUp s.power.bootSrc)

/-! ### Host-interface resets (R438) -/

/-- A channel after a reset of the host interface: IDLE once it may be used, CLOSED before (R423, R438). -/
def Channel.hostReset (c : Channel) (opened : Bool) : Channel :=
  { c with
    state := if opened then .idle else .closed
    relayed := false
    dbIgnored := false
    last := 0xFFFF
    resetPend := false
    waits := none }

/-- The ticket's work is moving data to or from host memory (R435, R438). -/
def Ticket.hostDma (t : Ticket) : Bool :=
  t.final.isNone && !t.queued &&
    match t.work with
    | .load _ c => !cmdUnit c && decide (t.phase ≤ 3)
    | .transom _ c => !cmdUnit c && t.phase == 0
    | .jobLoad c => !cmdUnit c
    | .failReadout _ | .trigReadout _ | .copy _ | .bootLoad _ _ => true
    | _ => false

/-- The transfer stops: the work ends with ST_ABORTED at its slice boundary (R438). -/
def Ticket.hostStop (t : Ticket) : Ticket := if t.hostDma then { t with cancel := true } else t

/-- What waits for other units on behalf of a channel is given up; the far units complete (R438). -/
def ChainState.dropChannels (c : ChainState) : ChainState :=
  { c with
    relays := c.relays.filter fun r => match r.owner with | .chan _ => false | _ => true
    gathers := tmapv none (fun _ g => g.bind fun g => if (g.src.map fun n => decide (n < 16)) = some true then none else some g) c.gathers }

/-- PERST_N, FLR or loss of the link (R438). -/
def State.hostReset (s : State) : State :=
  let h := s.host
  let opened (i : Nat) : Bool := h.fwReady || (i == 0 && (h.bootState == 1 || h.bootState == 2 || h.bootState == 4))
  let chans := (List.range 16).foldl (fun t i => tset {} t i ((tget {} t i).hostReset (opened i))) h.chans
  let h := { h with
    chans := chans
    evqCtl := putBit h.evqCtl 31 false
    irqStatus := 0
    irqMask := 0x000FFFFF
    winBase := 0
    bar2 := []
    cfg := []
    tickets := tmapv none (fun _ t => t.map Ticket.hostStop) h.tickets }
  { s with host := h, chain := s.chain.dropChannels }

/-- PERST_N (R438): the host interface is reset and the link is down. -/
def execPerstN (s : State) : Out :=
  .next
    (let s := s.hostReset
     { s with host := { s.host with perst := true, linkUp := false } })

/-- PERST_N_RELEASE (R415): the endpoint trains and answers, also while the unit runs from its boot ROM. -/
def execPerstNRelease (s : State) : Out :=
  .next { s with host := { s.host with perst := false, linkUp := !s.power.sysRst } }

/-! ### PCIe configuration space (R414) -/

/-- Configuration words at reset: the values of R414, in the layout of the PCI Express base specification. -/
def cfgReset (b0 : Bool) (off : Nat) : BitVec 32 :=
  match off with
  | 0x00 => 0x64001E47
  | 0x04 => 0x00100000
  | 0x08 => if b0 then 0x120000B0 else 0x120000A1
  | 0x18 => 0x0000000C
  | 0x34 => 0x00000040
  | 0x40 => 0x00035001
  | 0x50 => 0x003F7011
  | 0x70 => 0x00020010
  | 0x74 => 0x10008002
  | 0x78 => 0x00002810
  | 0x100 => 0x00020001
  | _ => 0

/-- Bits of a configuration word that a write changes (R414). -/
def cfgMask (off : Nat) : BitVec 32 :=
  match off with
  | 0x04 => 0x00000546
  | 0x0C => 0x000000FF
  | 0x10 => 0xFFFF0000
  | 0x18 => 0x00000000
  | 0x1C => 0xFFFFFFF0
  | 0x3C => 0x000000FF
  | 0x44 => 0x00008103
  | 0x50 => 0xC0000000
  | 0x78 => 0x000071FF
  | 0x80 => 0x000001C3
  | 0x98 => 0x0000001F
  | 0x108 => 0x0467F030
  | 0x10C => 0x0467F030
  | 0x114 => 0x0000F1C1
  | _ => 0

/-- A configuration word as it reads. -/
def State.cfgRead (s : State) (off : Nat) : BitVec 32 := cfgReset s.id.b0 off ^^^ tget 0 s.host.cfg (off / 4)

/-- PCIE_CONFIG_ACCESS (R414, R415): a read changes nothing; a write changes what may be written, and bit 15 of the device
control word is the function-level reset (R438). -/
def execPcieConfigAccess (off : BitVec 12) (wr : Option (BitVec 32)) (s : State) : Out :=
  .next
    (let o := off.toNat / 4 * 4
     match wr with
     | none => s
     | some v =>
       if s.host.linkUp = false then s
       else if o = 0x78 ∧ getBit v 15 = true then s.hostReset
       else
         let m := cfgMask o
         let w := (s.cfgRead o &&& ~~~m) ||| (v &&& m)
         { s with host := { s.host with cfg := tset 0 s.host.cfg (o / 4) (w ^^^ cfgReset s.id.b0 o) } })

/-! ### The board record (R482, R491, R492) -/

/-- A rail map entry at place `i` keeps the rules of R482. -/
def railOk (i : Nat) (e : List Byte) : Bool :=
  let d := fld e 0 1
  let vdd := d == 0xFE
  (domIdOk d || vdd) && decide (fld e 1 1 ≤ 1) && decide (fld e 2 1 < 128) && decide (fld e 4 1 ≤ 4) && fld e 5 1 == 0 &&
    (!vdd || (i == 0 && fld e 1 1 == 0 && fld e 6 2 == 0))

/-- Rail map entries of a record. -/
def boardRails (b : List Byte) : List (List Byte) := (List.range (fld b 0x0A 2)).map fun i => bytesAt b (0x10 + 8 * i) 8

/-- The record's MAGIC, FMT, CRC, ranges, zeros and rail map are in order (R491, R492). -/
def boardOk (b : List Byte) : Bool :=
  let len := fld b 4 4
  let n := fld b 0x0A 2
  let rs := boardRails b
  fld b 0 4 == 0x44524F42 && decide (64 ≤ len ∧ len ≤ 65536) && len % 4 == 0 && decide (len ≤ b.length) && fld b 8 2 == 1 &&
    decide (n ≤ 32) && decide (0x14 + 8 * n ≤ len) && decide (fld b 0x0C 1 ≤ 1) && decide (8 ≤ fld b 0x0D 1 ∧ fld b 0x0D 1 ≤ 64) &&
    zeroAt b 0x0E 0x10 && (List.range n).all (fun i => railOk i (rs.getD i [])) && zeroAt b (0x10 + 8 * n) (len - 4) &&
    fld b (len - 4) 4 == crc32c (b.take (len - 4))

/-- The firmware reads the board record at handover (R491, R492). -/
def State.readBoard (s : State) : State :=
  match s.power.board with
  | none => s
  | some b =>
    if b.all (· == 0xFF) then s
    else if boardOk b then
      let rs := boardRails b
      let rails := (List.range rs.length).foldl (fun t i => tset none t i (some (BitVec.ofNat 64 (leNat (rs.getD i []))))) []
      let clk := { s.power.clk with stepSrc := fld b 0x0C 1 == 1, kdiv := fld b 0x0D 1 }
      { s with power := { s.power with rails := rails, clk := clk } }
    else { s with host := { s.host with boardEvent := true } }

/-- The firmware requests VDD when the rail map names it (R482, R488). -/
def State.requestVdd (s : State) : State :=
  match tget none s.power.rails 0 with
  | some v => if railDom v = 0xFE then s.setVreq (railBus v) (some { rail := 0, on := true, rollback := false }) else s
  | none => s

/-! ### Boot (R436, R437) -/

/-- The live BOOT_LOAD ticket, when the host boots the unit. -/
def HostState.bootTicket (h : HostState) : Option Ticket :=
  match tget none h.tickets 1 with
  | some t => (match t.work with | .bootLoad _ _ => if t.final.isNone then some t else none | _ => none)
  | none => none

/-- BOOT_ERR's code of a refusal (R436); a missing image has none. -/
def AuthResult.code : AuthResult → Option Status
  | .badFormat => some Code.SC_FW_FORMAT
  | .badSignature => some Code.SC_FW_SIGNATURE
  | .rollback => some Code.SC_FW_ROLLBACK
  | .pass _ | .noImage => none

/-- The image passes: handover, the board record, the VDD request (R437, R488). -/
def State.handover (s : State) (version : BitVec 32) : State :=
  let s : State := { s with
    id := { s.id with fwVersion := version }
    host := { s.host with bootState := 3, bootErr := 0 } }
  let s := if s.host.bootTicket.isSome then s.finish 1 Code.ST_OK [] else s
  s.readBoard.requestVdd

/-- The image is refused or missing: host boot goes to FAILED, flash boot to WAIT_HOST or, with flash only, to FAILED (R436,
R437, R489). -/
def State.bootRefused (s : State) (code : Option Status) : State :=
  let h := match code with | some c => { s.host with bootErr := c } | none => s.host
  if s.host.bootTicket.isSome then
    ({ s with host := { h with bootState := 4 } } : State).finish 1 (code.getD Code.SC_FW_FORMAT) []
  else { s with host := { h.romChannel with bootState := if s.power.bootSrc = 2 then 4 else 1 } }

/-- The ROM is reading or authenticating an image. -/
def State.booting (s : State) : Bool :=
  !s.power.sysRst && (s.host.bootState == 0 || (s.host.bootState == 2 && s.host.bootTicket.any fun t => !t.cancel && !t.hostErr))

/-- BOOT_AUTH_DONE (R436, R437). -/
def execBootAuthDone (r : AuthResult) (s : State) : Out :=
  .next
    (if s.booting = false then s
     else
       match r with
       | .pass v => s.handover v
       | r => s.bootRefused (AuthResult.code r))

/-- AON_PLL_LOCK (R495): AON leaves the oscillator, and the chain ports send IDLE blocks. -/
def execAonPllLock (s : State) : Out :=
  .next
    (if s.power.clk.refSys = false ∨ s.power.clk.aon = true then s
     else
       { s with
         power := { s.power with clk := { s.power.clk with aon := true } }
         chain := { s.chain with
           inp := { s.chain.inp with lock := !s.chain.inp.broken }
           out := { s.chain.out with lock := !s.chain.out.broken } } })

/-- FW_READY: clocks switched, every channel IDLE, FWREADY set, the FW_READY event when the ring is enabled (R423, R437, R470). -/
def State.ready (s : State) : State :=
  let clk := { s.power.clk with
    sys := true
    oscillator := false
    laneStep := s.power.clk.stepSrc && s.power.clk.refLane }
  let chans := (List.range 16).foldl (fun t i => tset {} t i ((tget {} t i).hostReset true)) s.host.chans
  let h := HostState.setIrq { s.host with fwReady := true, chans := chans, fwEvent := true } s.power.ps 19
  ({ s with host := h, power := { s.power with clk := clk } } : State).ringEnabled

/-- SYSTEM_PLL_LOCK (R488): the firmware waits for it before FW_READY. -/
def execSystemPllLock (s : State) : Out :=
  .next
    (if s.host.bootState = 3 ∧ s.host.fwReady = false ∧ s.power.clk.refSys = true ∧ s.power.sysRst = false then s.ready else s)

/-! ### Loss and return of clocks (R498, R499) -/

/-- ARMED and RUNNING sites fault at once with TF_CLOCK_LOSS (R498). -/
def State.clockFaults (s : State) : State :=
  (List.range 16).foldl
    (fun s n =>
      if (s.site n).state = .armed ∨ (s.site n).state = .running then s.faultNow n (faultOf Code.TF_CLOCK_LOSS 0xFF 0xFF 0 0) else s) s

/-- The lane step PLL is lost with STEPSRC = 1: the islands fall back to the system PLL's step clock (R498, R506). -/
def State.loseLaneStep (s : State) : State :=
  if s.power.clk.stepSrc && s.power.clk.laneStep then
    let s := s.clockFaults
    let s : State := { s with power := { s.power with clk := { s.power.clk with laneStep := false } } }
    (s.releaseKeyhole).postPolicy 0 0 0
  else s

/-- REFCLK_LANE is lost: the quads lose lock (R380, R498). -/
def State.loseRefLane (s : State) : State :=
  let s := s.loseLaneStep
  let s : State := { s with power := { s.power with clk := { s.power.clk with refLane := false } } }
  let s := (List.range 16).foldl (fun s q => s.setQuad q { s.quad q with lock := false }) s
  (List.range 64).foldl (fun s i => if (s.lane i).lock then s.laneDown i else s) s

/-- The system PLL is lost: control complex and casements fall back to the oscillator; sites fault, jobs end (R498). -/
def State.loseSystem (s : State) : State :=
  let s : State := { s with power := { s.power with clk := { s.power.clk with sys := false, oscillator := true } } }
  let s := s.clockFaults.endAllJobs Code.TF_CLOCK_LOSS
  (List.range 12).foldl (fun s k => s.settleCas k) s

/-- REFCLK_SYS is lost: AON falls back too, the chain ports go idle, and a TRACKING or LOCKED servo enters HOLDOVER (R498). -/
def State.loseRefSys (s : State) : State :=
  let s := s.loseSystem
  let clk := { s.power.clk with refSys := false, aon := false }
  let c := { s.chain with inp := { s.chain.inp with lock := false }, out := { s.chain.out with lock := false } }
  let s : State := { s with power := { s.power with clk := clk }, chain := c }
  if s.time.servo = .tracking ∨ s.time.servo = .locked then s.setServo .holdover else s

/-- PLL_LOSS (R498). -/
def execPllLoss (pll : Pll) (s : State) : Out :=
  .next
    (match pll with
     | .laneStep => s.loseLaneStep
     | .refLane => if s.power.clk.refLane then s.loseRefLane else s
     | .system => if s.power.clk.sys then s.loseSystem else s
     | .refSys => if s.power.clk.refSys then s.loseRefSys else s)

/-- No site is ARMED or RUNNING (R498). -/
def State.quiet (s : State) : Bool := (List.range 16).all fun n => (s.site n).state != .armed && (s.site n).state != .running

/-- The islands go back to the sources of R495 whose PLLs are locked (R498). -/
def State.restoreIslands (s : State) : State :=
  let c := s.power.clk
  if s.quiet && s.host.fwReady then
    let c := { c with
      sys := c.refSys
      oscillator := !c.refSys
      laneStep := c.stepSrc && c.refLane }
    { s with power := { s.power with clk := c } }
  else s

/-- PLL_RESTORE (R498): the AON PLL relocks on its own; the firmware returns the other islands after 10 ms with no running site. -/
def execPllRestore (pll : Pll) (s : State) : Out :=
  .next
    (let clk := s.power.clk
     match pll with
     | .laneStep | .system => s.restoreIslands
     | .refLane => ({ s with power := { s.power with clk := { clk with refLane := true } } } : State).restoreIslands
     | .refSys =>
       if clk.refSys then s.restoreIslands
       else
         let c := { s.chain with
           inp := { s.chain.inp with lock := !s.chain.inp.broken }
           out := { s.chain.out with lock := !s.chain.out.broken } }
         let clk := { clk with refSys := true, aon := true }
         ({ s with power := { s.power with clk := clk }, chain := c } : State).restoreIslands)

/-! ### The TAP (R507, R508) -/

/-- TAP_RESET (R500, R507): the instruction register takes IDCODE. -/
def execTapReset (s : State) : Out := .next { s with power := { s.power with tap := { s.power.tap with ir := 0x01 } } }

/-- What TDO shows of an instruction scan: the captured 0b0000_0001, least significant bit first (R507). -/
def irCapture : List Bool := [true, false, false, false, false, false, false, false]

/-- Shift `tdi` through a register: what leaves it, and what it holds. -/
def shiftBits (reg tdi : List Bool) : List Bool × List Bool := ((reg ++ tdi).take tdi.length, (reg ++ tdi).drop tdi.length)

/-- Load an instruction and scan the bypass register, which captures 0. -/
def Tap.scanBypass (t : Tap) (code : BitVec 8) (tdi : List Bool) : Tap :=
  let r := shiftBits [false] tdi
  { t with
    ir := code
    bypass := r.2.getD 0 false
    tdo := irCapture ++ r.1 }

/-- Load an instruction and scan the boundary register, whose captures are free values (R508). -/
def State.scanBoundary (s : State) (code : BitVec 8) (tdi : List Bool) : State :=
  let f := s.freeCtr
  let caught := (List.range Config.boundaryLen).map fun j => getBit (Config.freeWord (f + j)) 0
  let r := shiftBits caught tdi
  let t := { s.power.tap with
    ir := code
    boundary := r.2
    tdo := irCapture ++ r.1 }
  { s with power := { s.power with tap := t }, freeCtr := f + Config.boundaryLen }

/-- Change the TAP. -/
def State.modTap (s : State) (f : Tap → Tap) : State := { s with power := { s.power with tap := f s.power.tap } }

/-- A test instruction over the boundary register: BYPASS while SYS_RST_N is high (R507). -/
def State.testScan (s : State) (code : BitVec 8) (tdi : List Bool) : State :=
  if s.power.sysRst then s.scanBoundary code tdi else s.modTap fun t => t.scanBypass code tdi

/-- JTAG_EXTEST (R507). -/
def execJtagExtest (tdi : List Bool) (s : State) : Out := .next (s.testScan 0x00 tdi)

/-- The device identification register (R507). -/
def Ident.idcode (x : Ident) : Nat := if x.b0 then 0x264005AF else 0x164005AF

/-- JTAG_IDCODE (R507). -/
def execJtagIdcode (tdi : List Bool) (s : State) : Out :=
  .next
    (let r := shiftBits (bitsLow s.id.idcode 32) tdi
     s.modTap fun t => { t with ir := 0x01, tdo := irCapture ++ r.1 })

/-- JTAG_SAMPLE_PRELOAD (R507): no pin is taken, so SYS_RST_N does not matter. -/
def execJtagSamplePreload (tdi : List Bool) (s : State) : Out := .next (s.scanBoundary 0x02 tdi)

/-- JTAG_CLAMP (R507): the bypass register; the boundary register drives the pins while SYS_RST_N is low. -/
def execJtagClamp (tdi : List Bool) (s : State) : Out := .next (s.modTap fun t => t.scanBypass 0x03 tdi)

/-- JTAG_HIGHZ (R507): the bypass register; the pins float while SYS_RST_N is low. -/
def execJtagHighz (tdi : List Bool) (s : State) : Out := .next (s.modTap fun t => t.scanBypass 0x04 tdi)

/-- JTAG_EXTEST_PULSE (R379, R507). -/
def execJtagExtestPulse (tdi : List Bool) (s : State) : Out := .next (s.testScan 0x05 tdi)

/-- JTAG_EXTEST_TRAIN (R379, R507). -/
def execJtagExtestTrain (tdi : List Bool) (s : State) : Out := .next (s.testScan 0x06 tdi)

/-- JTAG_BYPASS (R507). -/
def execJtagBypass (tdi : List Bool) (s : State) : Out := .next (s.modTap fun t => t.scanBypass 0xFF tdi)

end Sys2Proof.Machine
end

