-- ==== Sys2Proof/Machine/LongCmds.lean ====
section
/-! DEFINITION. The slices of long commands (R428) and the completions of the DMA engines (R435). -/

namespace Sys2Proof.Machine

/-- A slice of BOOT_LOAD: a host error or a host reset ends the attempt; otherwise authentication is still to come (R435, R437,
R438). -/
def State.bootSlice (s : State) (tk : BitVec 32) (t : Ticket) : State :=
  let fail : State := { s with host := { s.host with bootState := 4 } }
  if t.cancel then fail.finish tk Code.ST_ABORTED []
  else if t.hostErr then fail.finish tk Code.ST_DMA_HOST_ERROR []
  else s

/-- A slice of a broadcast: only a cancel ends it here; its return ends it otherwise (R397, R447). -/
def State.bcastSlice (s : State) (tk : BitVec 32) (t : Ticket) : State :=
  if t.cancel then
    ({ s with chain := { s.chain with bcasts := s.chain.bcasts.filter fun e => e.2 != tk } } : State).finish tk Code.ST_ABORTED []
  else s

/-- The next slice of a ticket's work (R428). -/
def State.runSlice (s : State) (tk : BitVec 32) (t : Ticket) : State :=
  match t.work with
  | .bootLoad _ _ => s.bootSlice tk t
  | .load n c => s.loadSlice tk t (Fin.ofNat 16 n) c
  | .unload n => s.unloadSlice tk t n
  | .transom n c => s.transomSlice tk t n c
  | .arm n c => s.armRun tk t n c
  | .calibrate c => s.calSlice tk t c
  | .failClear _ _ => s.failClearSlice tk t
  | .failReadout c => s.failReadoutSlice tk t c
  | .repair c => s.repairSlice tk t c
  | .trigReadout c => s.trigReadoutSlice tk t c
  | .jobLoad c => s.jobLoadSlice tk t c
  | .train c => s.trainSlice tk t c
  | .sweep c => s.sweepSlice tk t c
  | .copy c => s.copySlice tk t c
  | .enumerate c => s.enumSlice tk t c
  | .domainSet _ _ => s
  | .bcast _ => s.bcastSlice tk t

/-- LONG_COMMAND_SLICE (R428): a live ticket's next slice, while the firmware runs. -/
def execLongCommandSlice (ticket : BitVec 32) (s : State) : Out :=
  .next
    (match s.ticket ticket with
     | some t => if t.final.isSome ∨ s.power.sysRst = true then s else s.runSlice ticket t
     | none => s)

/-- DMA_HOST_COMPLETION (R435): data for a copy from the host, or a host error that its next slice reports. -/
def execDmaHostCompletion (ticket : BitVec 32) (ok : Bool) (s : State) : Out :=
  .next
    (match s.ticket ticket with
     | none => s
     | some t =>
       if t.final.isSome then s
       else if ok = false then (if t.hostDma then s.setTicket ticket (some { t with hostErr := true }) else s)
       else
         match t.work with
         | .copy c => if fld c 0x14 1 = 0 ∧ s.host.copyRuns ticket = true ∧ t.cancel = false ∧ t.hostErr = false then s.copyLine ticket t c else s
         | _ => s)

end Sys2Proof.Machine
end

