-- ==== Sys2Proof/Machine/Dispatch.lean ====
section
/-! DEFINITION. The dispatch of a command to its meaning, one arm per row of spec/opcode_table.json. -/

namespace Sys2Proof.Machine

/-- The effect of a command on everything but the queue. -/
def exec (i : Instr) (s : State) : Host.Outcome State Fault Refusal :=
  match i with
  | .identity src => Sys2Proof.Machine.execIdentity src s
  | .bootLoad src => Sys2Proof.Machine.execBootLoad src s
  | .ticket src => Sys2Proof.Machine.execTicket src s
  | .cancel src => Sys2Proof.Machine.execCancel src s
  | .descriptor src => Sys2Proof.Machine.execDescriptor src s
  | .inventory src => Sys2Proof.Machine.execInventory src s
  | .keyslotInstall src => Sys2Proof.Machine.execKeyslotInstall src s
  | .keyslotRevoke src => Sys2Proof.Machine.execKeyslotRevoke src s
  | .keyslotRead src => Sys2Proof.Machine.execKeyslotRead src s
  | .keyslotSignedOnly src => Sys2Proof.Machine.execKeyslotSignedOnly src s
  | .louvre src => Sys2Proof.Machine.execLouvre src s
  | .load src => Sys2Proof.Machine.execLoad src s
  | .unload src => Sys2Proof.Machine.execUnload src s
  | .rewind src => Sys2Proof.Machine.execRewind src s
  | .transom src => Sys2Proof.Machine.execTransom src s
  | .siteStatus src => Sys2Proof.Machine.execSiteStatus src s
  | .siteReset src => Sys2Proof.Machine.execSiteReset src s
  | .arm src => Sys2Proof.Machine.execArm src s
  | .disarm src => Sys2Proof.Machine.execDisarm src s
  | .start src => Sys2Proof.Machine.execStart src s
  | .startAt src => Sys2Proof.Machine.execStartAt src s
  | .stop src => Sys2Proof.Machine.execStop src s
  | .policy src => Sys2Proof.Machine.execPolicy src s
  | .watchdog src => Sys2Proof.Machine.execWatchdog src s
  | .raStatus src => Sys2Proof.Machine.execRaStatus src s
  | .calibrate src => Sys2Proof.Machine.execCalibrate src s
  | .mask src => Sys2Proof.Machine.execMask src s
  | .maskSwap src => Sys2Proof.Machine.execMaskSwap src s
  | .pinfield src => Sys2Proof.Machine.execPinfield src s
  | .pinStatus src => Sys2Proof.Machine.execPinStatus src s
  | .failClear src => Sys2Proof.Machine.execFailClear src s
  | .failSummary src => Sys2Proof.Machine.execFailSummary src s
  | .failReadout src => Sys2Proof.Machine.execFailReadout src s
  | .repair src => Sys2Proof.Machine.execRepair src s
  | .filter src => Sys2Proof.Machine.execFilter src s
  | .filterSwap src => Sys2Proof.Machine.execFilterSwap src s
  | .trigfield src => Sys2Proof.Machine.execTrigfield src s
  | .trigforce src => Sys2Proof.Machine.execTrigforce src s
  | .rearm src => Sys2Proof.Machine.execRearm src s
  | .trigStatus src => Sys2Proof.Machine.execTrigStatus src s
  | .trigReadout src => Sys2Proof.Machine.execTrigReadout src s
  | .jobLoad src => Sys2Proof.Machine.execJobLoad src s
  | .jobUnload src => Sys2Proof.Machine.execJobUnload src s
  | .submit src => Sys2Proof.Machine.execSubmit src s
  | .jobStop src => Sys2Proof.Machine.execJobStop src s
  | .signal src => Sys2Proof.Machine.execSignal src s
  | .item src => Sys2Proof.Machine.execItem src s
  | .evmapMap src => Sys2Proof.Machine.execEvmapMap src s
  | .evmapUnmap src => Sys2Proof.Machine.execEvmapUnmap src s
  | .ccw src => Sys2Proof.Machine.execCcw src s
  | .contextGeometry src => Sys2Proof.Machine.execContextGeometry src s
  | .contextScale src => Sys2Proof.Machine.execContextScale src s
  | .contextThreshold src => Sys2Proof.Machine.execContextThreshold src s
  | .contextBitTable src => Sys2Proof.Machine.execContextBitTable src s
  | .linkCfg src => Sys2Proof.Machine.execLinkCfg src s
  | .streamOpen src => Sys2Proof.Machine.execStreamOpen src s
  | .streamClose src => Sys2Proof.Machine.execStreamClose src s
  | .firCoefficients src => Sys2Proof.Machine.execFirCoefficients src s
  | .firBankSelect src => Sys2Proof.Machine.execFirBankSelect src s
  | .rampUpTable src => Sys2Proof.Machine.execRampUpTable src s
  | .rampDownTable src => Sys2Proof.Machine.execRampDownTable src s
  | .maskMonitorCfg src => Sys2Proof.Machine.execMaskMonitorCfg src s
  | .hypothesisCfg src => Sys2Proof.Machine.execHypothesisCfg src s
  | .capturePolicy src => Sys2Proof.Machine.execCapturePolicy src s
  | .gain src => Sys2Proof.Machine.execGain src s
  | .train src => Sys2Proof.Machine.execTrain src s
  | .memcfg src => Sys2Proof.Machine.execMemcfg src s
  | .sweep src => Sys2Proof.Machine.execSweep src s
  | .invalidate src => Sys2Proof.Machine.execInvalidate src s
  | .remap src => Sys2Proof.Machine.execRemap src s
  | .remapFree src => Sys2Proof.Machine.execRemapFree src s
  | .mempolicy src => Sys2Proof.Machine.execMempolicy src s
  | .memstatus src => Sys2Proof.Machine.execMemstatus src s
  | .copy src => Sys2Proof.Machine.execCopy src s
  | .laneMode src => Sys2Proof.Machine.execLaneMode src s
  | .laneCtl src => Sys2Proof.Machine.execLaneCtl src s
  | .deskew src => Sys2Proof.Machine.execDeskew src s
  | .refspread src => Sys2Proof.Machine.execRefspread src s
  | .margin src => Sys2Proof.Machine.execMargin src s
  | .laneIdleEnter src => Sys2Proof.Machine.execLaneIdleEnter src s
  | .laneIdleExit src => Sys2Proof.Machine.execLaneIdleExit src s
  | .bitslip src => Sys2Proof.Machine.execBitslip src s
  | .phyStatus src => Sys2Proof.Machine.execPhyStatus src s
  | .enumerate src => Sys2Proof.Machine.execEnumerate src s
  | .stickySet src => Sys2Proof.Machine.execStickySet src s
  | .stickyClear src => Sys2Proof.Machine.execStickyClear src s
  | .gatewayOwnAddress src => Sys2Proof.Machine.execGatewayOwnAddress src s
  | .gatewayAddPeers src => Sys2Proof.Machine.execGatewayAddPeers src s
  | .gatewayClear src => Sys2Proof.Machine.execGatewayClear src s
  | .tctl src => Sys2Proof.Machine.execTctl src s
  | .timeSet src => Sys2Proof.Machine.execTimeSet src s
  | .timeUnlock src => Sys2Proof.Machine.execTimeUnlock src s
  | .rate src => Sys2Proof.Machine.execRate src s
  | .timed src => Sys2Proof.Machine.execTimed src s
  | .timedClear src => Sys2Proof.Machine.execTimedClear src s
  | .ptp src => Sys2Proof.Machine.execPtp src s
  | .chainStatus src => Sys2Proof.Machine.execChainStatus src s
  | .enumMap src => Sys2Proof.Machine.execEnumMap src s
  | .domainSet src => Sys2Proof.Machine.execDomainSet src s
  | .domainUnlock src => Sys2Proof.Machine.execDomainUnlock src s
  | .domainLockOff src => Sys2Proof.Machine.execDomainLockOff src s
  | .domainHoldOn src => Sys2Proof.Machine.execDomainHoldOn src s
  | .domainHoldRelease src => Sys2Proof.Machine.execDomainHoldRelease src s
  | .powerPolicy src => Sys2Proof.Machine.execPowerPolicy src s
  | .powerStatus src => Sys2Proof.Machine.execPowerStatus src s
  | .thermalRead src => Sys2Proof.Machine.execThermalRead src s
  | .thermalSetAlarm src => Sys2Proof.Machine.execThermalSetAlarm src s
  | .sashStatus src => Sys2Proof.Machine.execSashStatus src s
  | .wcellStatus src => Sys2Proof.Machine.execWcellStatus src s
  | .keyholeSel src => Sys2Proof.Machine.execKeyholeSel src s
  | .keyholeLaneTake src => Sys2Proof.Machine.execKeyholeLaneTake src s
  | .keyholeLaneRelease src => Sys2Proof.Machine.execKeyholeLaneRelease src s
  | .peek src => Sys2Proof.Machine.execPeek src s
  | .mbxDoorbell ch v => Sys2Proof.Machine.execMbxDoorbell ch v s
  | .mbxChannelReset ch => Sys2Proof.Machine.execMbxChannelReset ch s
  | .hifIrqStatusClear v => Sys2Proof.Machine.execHifIrqStatusClear v s
  | .hifIrqMaskWrite v => Sys2Proof.Machine.execHifIrqMaskWrite v s
  | .hifWinBaseWrite v => Sys2Proof.Machine.execHifWinBaseWrite v s
  | .hifEvqCtlWrite v => Sys2Proof.Machine.execHifEvqCtlWrite v s
  | .hifEvqConsWrite v => Sys2Proof.Machine.execHifEvqConsWrite v s
  | .bar0BadAccess off size write => Sys2Proof.Machine.execBar0BadAccess off size write s
  | .registerWrite off size v => Sys2Proof.Machine.execRegisterWrite off size v s
  | .commitGroupCommit group => Sys2Proof.Machine.execCommitGroupCommit group s
  | .commitGroupDiscard group => Sys2Proof.Machine.execCommitGroupDiscard group s
  | .bar2Read off len => Sys2Proof.Machine.execBar2Read off len s
  | .bar2Write off data => Sys2Proof.Machine.execBar2Write off data s
  | .bar2Timeout req => Sys2Proof.Machine.execBar2Timeout req s
  | .eventPost => Sys2Proof.Machine.execEventPost s
  | .ticketExpiry ticket => Sys2Proof.Machine.execTicketExpiry ticket s
  | .paneNop sash pane => Sys2Proof.Machine.execPaneNop sash pane s
  | .lut4 sash pane => Sys2Proof.Machine.execLut4 sash pane s
  | .lut3s sash pane => Sys2Proof.Machine.execLut3s sash pane s
  | .send sash pane => Sys2Proof.Machine.execSend sash pane s
  | .recv sash pane => Sys2Proof.Machine.execRecv sash pane s
  | .memrd sash pane => Sys2Proof.Machine.execMemrd sash pane s
  | .memwr sash pane => Sys2Proof.Machine.execMemwr sash pane s
  | .pinout sash pane => Sys2Proof.Machine.execPinout sash pane s
  | .pinin sash pane => Sys2Proof.Machine.execPinin sash pane s
  | .paneCmpPin sash pane => Sys2Proof.Machine.execPaneCmpPin sash pane s
  | .paneCmpModelCheck sash pane => Sys2Proof.Machine.execPaneCmpModelCheck sash pane s
  | .wput sash pane => Sys2Proof.Machine.execWput sash pane s
  | .wget sash pane => Sys2Proof.Machine.execWget sash pane s
  | .probe sash pane => Sys2Proof.Machine.execProbe sash pane s
  | .memrdLanding sash pane => Sys2Proof.Machine.execMemrdLanding sash pane s
  | .wcNop sash cell => Sys2Proof.Machine.execWcNop sash cell s
  | .wcAdd sash cell => Sys2Proof.Machine.execWcAdd sash cell s
  | .wcSub sash cell => Sys2Proof.Machine.execWcSub sash cell s
  | .wcAnd sash cell => Sys2Proof.Machine.execWcAnd sash cell s
  | .wcOr sash cell => Sys2Proof.Machine.execWcOr sash cell s
  | .wcXor sash cell => Sys2Proof.Machine.execWcXor sash cell s
  | .wcAndn sash cell => Sys2Proof.Machine.execWcAndn sash cell s
  | .wcShl sash cell => Sys2Proof.Machine.execWcShl sash cell s
  | .wcShr sash cell => Sys2Proof.Machine.execWcShr sash cell s
  | .wcSar sash cell => Sys2Proof.Machine.execWcSar sash cell s
  | .wcRol sash cell => Sys2Proof.Machine.execWcRol sash cell s
  | .wcMulu sash cell => Sys2Proof.Machine.execWcMulu sash cell s
  | .wcMuls sash cell => Sys2Proof.Machine.execWcMuls sash cell s
  | .mulProductLand sash cell => Sys2Proof.Machine.execMulProductLand sash cell s
  | .wcCmp sash cell => Sys2Proof.Machine.execWcCmp sash cell s
  | .wcMov sash cell => Sys2Proof.Machine.execWcMov sash cell s
  | .wcBrev sash cell => Sys2Proof.Machine.execWcBrev sash cell s
  | .wcScr sash cell => Sys2Proof.Machine.execWcScr sash cell s
  | .wcPopc sash cell => Sys2Proof.Machine.execWcPopc sash cell s
  | .wcClz sash cell => Sys2Proof.Machine.execWcClz sash cell s
  | .wcIn sash cell => Sys2Proof.Machine.execWcIn sash cell s
  | .wcOut sash cell => Sys2Proof.Machine.execWcOut sash cell s
  | .wcMal sash cell => Sys2Proof.Machine.execWcMal sash cell s
  | .hinge sash => Sys2Proof.Machine.execHinge sash s
  | .hingeRelease site => Sys2Proof.Machine.execHingeRelease site s
  | .transomCommit site => Sys2Proof.Machine.execTransomCommit site s
  | .patchRetire sash pane addr => Sys2Proof.Machine.execPatchRetire sash pane addr s
  | .bundleLaunch sash tag => Sys2Proof.Machine.execBundleLaunch sash tag s
  | .flitHop link errs => Sys2Proof.Machine.execFlitHop link errs s
  | .bundleEject flit => Sys2Proof.Machine.execBundleEject flit s
  | .bundleWatchdogExpiry site w => Sys2Proof.Machine.execBundleWatchdogExpiry site w s
  | .wormInject worm => Sys2Proof.Machine.execWormInject worm s
  | .ringRetry worm ring stop => Sys2Proof.Machine.execRingRetry worm ring stop s
  | .ringRead worm => Sys2Proof.Machine.execRingRead worm s
  | .ringWrite worm => Sys2Proof.Machine.execRingWrite worm s
  | .ringAdd32 worm => Sys2Proof.Machine.execRingAdd32 worm s
  | .ringAdd64 worm => Sys2Proof.Machine.execRingAdd64 worm s
  | .ringSwap worm => Sys2Proof.Machine.execRingSwap worm s
  | .ringOr worm => Sys2Proof.Machine.execRingOr worm s
  | .ringRespData worm => Sys2Proof.Machine.execRingRespData worm s
  | .ringRespAck worm => Sys2Proof.Machine.execRingRespAck worm s
  | .ringRespErr worm => Sys2Proof.Machine.execRingRespErr worm s
  | .ringCtrl worm => Sys2Proof.Machine.execRingCtrl worm s
  | .stopDrainDone stop => Sys2Proof.Machine.execStopDrainDone stop s
  | .stopDrainTimeout stop => Sys2Proof.Machine.execStopDrainTimeout stop s
  | .stopReconfigRetry stop => Sys2Proof.Machine.execStopReconfigRetry stop s
  | .bundleFrame lane hdr bits => Sys2Proof.Machine.execBundleFrame lane hdr bits s
  | .hingeArrive site via hinge good => Sys2Proof.Machine.execHingeArrive site via hinge good s
  | .hingeArriveFault site via hinge good => Sys2Proof.Machine.execHingeArriveFault site via hinge good s
  | .hingeReleaseContinue site via hinge good => Sys2Proof.Machine.execHingeReleaseContinue site via hinge good s
  | .hingeReleaseHalt site via hinge good => Sys2Proof.Machine.execHingeReleaseHalt site via hinge good s
  | .hingeReleaseFault site via hinge good => Sys2Proof.Machine.execHingeReleaseFault site via hinge good s
  | .codeOrigin site => Sys2Proof.Machine.execCodeOrigin site s
  | .frameAssembly lane => Sys2Proof.Machine.execFrameAssembly lane s
  | .rxDataFrame lane hdr payload => Sys2Proof.Machine.execRxDataFrame lane hdr payload s
  | .rxIdleFrame lane hdr payload => Sys2Proof.Machine.execRxIdleFrame lane hdr payload s
  | .rxLoopbackFrame lane hdr payload => Sys2Proof.Machine.execRxLoopbackFrame lane hdr payload s
  | .rxFrameTimeout lane => Sys2Proof.Machine.execRxFrameTimeout lane s
  | .directRxWord lane w => Sys2Proof.Machine.execDirectRxWord lane w s
  | .failBufferWrite sash => Sys2Proof.Machine.execFailBufferWrite sash s
  | .failChunkSend sash => Sys2Proof.Machine.execFailChunkSend sash s
  | .failFlushTimeout sash => Sys2Proof.Machine.execFailFlushTimeout sash s
  | .failClose site => Sys2Proof.Machine.execFailClose site s
  | .cycleCommit site => Sys2Proof.Machine.execCycleCommit site s
  | .divergenceDecided site => Sys2Proof.Machine.execDivergenceDecided site s
  | .rollback site => Sys2Proof.Machine.execRollback site s
  | .deltaWrite sash => Sys2Proof.Machine.execDeltaWrite sash s
  | .trigRecordStore sash => Sys2Proof.Machine.execTrigRecordStore sash s
  | .trigSpillChunk sash => Sys2Proof.Machine.execTrigSpillChunk sash s
  | .toutPulseEnd sash pin => Sys2Proof.Machine.execToutPulseEnd sash pin s
  | .postSlotsExpiry sash => Sys2Proof.Machine.execPostSlotsExpiry sash s
  | .dspVld cas core v g d => Sys2Proof.Machine.execDspVld cas core v g d s
  | .dspVst cas core v g d => Sys2Proof.Machine.execDspVst cas core v g d s
  | .dspSld cas core r g d => Sys2Proof.Machine.execDspSld cas core r g d s
  | .dspSst cas core r g d => Sys2Proof.Machine.execDspSst cas core r g d s
  | .dspMul cas core x y => Sys2Proof.Machine.execDspMul cas core x y s
  | .dspMac cas core x y => Sys2Proof.Machine.execDspMac cas core x y s
  | .dspMsu cas core x y => Sys2Proof.Machine.execDspMsu cas core x y s
  | .dspCmac cas core x y => Sys2Proof.Machine.execDspCmac cas core x y s
  | .dspNarrow cas core v n => Sys2Proof.Machine.execDspNarrow cas core v n s
  | .dspVectorAlu cas core op vd va vb => Sys2Proof.Machine.execDspVectorAlu cas core op vd va vb s
  | .dspScalarAlu cas core op rd ra b => Sys2Proof.Machine.execDspScalarAlu cas core op rd ra b s
  | .dspSetAddress cas core which g b => Sys2Proof.Machine.execDspSetAddress cas core which g b s
  | .dspBranch cas core k target => Sys2Proof.Machine.execDspBranch cas core k target s
  | .dspRep cas core n => Sys2Proof.Machine.execDspRep cas core n s
  | .dspTime cas core r => Sys2Proof.Machine.execDspTime cas core r s
  | .dspWait cas core mask andMode keep => Sys2Proof.Machine.execDspWait cas core mask andMode keep s
  | .dspSignal cas core task mask => Sys2Proof.Machine.execDspSignal cas core task mask s
  | .dspEnq cas core task item => Sys2Proof.Machine.execDspEnq cas core task item s
  | .dspEnqn cas core task item => Sys2Proof.Machine.execDspEnqn cas core task item s
  | .dspDeq cas core => Sys2Proof.Machine.execDspDeq cas core s
  | .dspSleep cas core n => Sys2Proof.Machine.execDspSleep cas core n s
  | .dspSubmit cas core a => Sys2Proof.Machine.execDspSubmit cas core a s
  | .dspDone cas core => Sys2Proof.Machine.execDspDone cas core s
  | .dspXfer cas core x => Sys2Proof.Machine.execDspXfer cas core x s
  | .dspAccel cas core a => Sys2Proof.Machine.execDspAccel cas core a s
  | .tickBoundary cas => Sys2Proof.Machine.execTickBoundary cas s
  | .jobPreempt cas core task => Sys2Proof.Machine.execJobPreempt cas core task s
  | .budgetStop cas core => Sys2Proof.Machine.execBudgetStop cas core s
  | .accelFft cas => Sys2Proof.Machine.execAccelFft cas s
  | .accelEncode cas => Sys2Proof.Machine.execAccelEncode cas s
  | .accelDecode cas => Sys2Proof.Machine.execAccelDecode cas s
  | .accelModulate cas => Sys2Proof.Machine.execAccelModulate cas s
  | .accelDemap cas => Sys2Proof.Machine.execAccelDemap cas s
  | .accelNmeas cas => Sys2Proof.Machine.execAccelNmeas cas s
  | .accelRebuild cas => Sys2Proof.Machine.execAccelRebuild cas s
  | .accelSwap cas => Sys2Proof.Machine.execAccelSwap cas s
  | .accelBurst cas => Sys2Proof.Machine.execAccelBurst cas s
  | .accelPsrel cas => Sys2Proof.Machine.execAccelPsrel cas s
  | .accelGain cas => Sys2Proof.Machine.execAccelGain cas s
  | .accelComplete cas k => Sys2Proof.Machine.execAccelComplete cas k s
  | .xferComplete cas => Sys2Proof.Machine.execXferComplete cas s
  | .sysrefEdge clk => Sys2Proof.Machine.execSysrefEdge clk s
  | .streamRxMultiblock link crcOk words => Sys2Proof.Machine.execStreamRxMultiblock link crcOk words s
  | .streamRxBlock stream => Sys2Proof.Machine.execStreamRxBlock stream s
  | .streamTxFetch stream late => Sys2Proof.Machine.execStreamTxFetch stream late s
  | .streamLockLoss link => Sys2Proof.Machine.execStreamLockLoss link s
  | .maskMonitorAverage stream bins => Sys2Proof.Machine.execMaskMonitorAverage stream bins s
  | .packetDetect stream p strength cands => Sys2Proof.Machine.execPacketDetect stream p strength cands s
  | .captureTruncate stream path => Sys2Proof.Machine.execCaptureTruncate stream path s
  | .gainWordSend port => Sys2Proof.Machine.execGainWordSend port s
  | .regionFillDone region => Sys2Proof.Machine.execRegionFillDone region s
  | .autoRemap mem addr => Sys2Proof.Machine.execAutoRemap mem addr s
  | .scrubLine mem line => Sys2Proof.Machine.execScrubLine mem line s
  | .scrubLapEnd mem => Sys2Proof.Machine.execScrubLapEnd mem s
  | .blockLockAcquired lane => Sys2Proof.Machine.execBlockLockAcquired lane s
  | .blockLockLoss lane => Sys2Proof.Machine.execBlockLockLoss lane s
  | .farEndIdle lane => Sys2Proof.Machine.execFarEndIdle lane s
  | .idleExitBurstDone lane headersValid => Sys2Proof.Machine.execIdleExitBurstDone lane headersValid s
  | .linkIdleEntry lane => Sys2Proof.Machine.execLinkIdleEntry lane s
  | .linkIdleExit lane => Sys2Proof.Machine.execLinkIdleExit lane s
  | .eyeSweepDone lane eyeH eyeV => Sys2Proof.Machine.execEyeSweepDone lane eyeH eyeV s
  | .keyholeFrame => Sys2Proof.Machine.execKeyholeFrame s
  | .enumFrame f => Sys2Proof.Machine.execEnumFrame f s
  | .enumTimeout => Sys2Proof.Machine.execEnumTimeout s
  | .mbxFrame f => Sys2Proof.Machine.execMbxFrame f s
  | .mbxAckFrame f => Sys2Proof.Machine.execMbxAckFrame f s
  | .mbxRetransmit n => Sys2Proof.Machine.execMbxRetransmit n s
  | .timeFrame f rx => Sys2Proof.Machine.execTimeFrame f rx s
  | .timeSyncSend => Sys2Proof.Machine.execTimeSyncSend s
  | .syncLossTimeout => Sys2Proof.Machine.execSyncLossTimeout s
  | .chainStart f => Sys2Proof.Machine.execChainStart f s
  | .chainStop f => Sys2Proof.Machine.execChainStop f s
  | .chainTrigger f => Sys2Proof.Machine.execChainTrigger f s
  | .siteRollback f => Sys2Proof.Machine.execSiteRollback f s
  | .linkHinge f => Sys2Proof.Machine.execLinkHinge f s
  | .hopdlyRequest f rx => Sys2Proof.Machine.execHopdlyRequest f rx s
  | .hopdlyResponse f rx => Sys2Proof.Machine.execHopdlyResponse f rx s
  | .hopdlyMeasure port => Sys2Proof.Machine.execHopdlyMeasure port s
  | .breakFrame f => Sys2Proof.Machine.execBreakFrame f s
  | .portBreak port => Sys2Proof.Machine.execPortBreak port s
  | .breakIdleEnd port => Sys2Proof.Machine.execBreakIdleEnd port s
  | .portHeal port => Sys2Proof.Machine.execPortHeal port s
  | .gatewayDatagram peer f => Sys2Proof.Machine.execGatewayDatagram peer f s
  | .gatewayCheck peer => Sys2Proof.Machine.execGatewayCheck peer s
  | .gatewayPeerTimeout peer => Sys2Proof.Machine.execGatewayPeerTimeout peer s
  | .ptpSync masterTime rx => Sys2Proof.Machine.execPtpSync masterTime rx s
  | .ptpAnnounce a => Sys2Proof.Machine.execPtpAnnounce a s
  | .ptpDelayResp t4 => Sys2Proof.Machine.execPtpDelayResp t4 s
  | .startAtFire site => Sys2Proof.Machine.execStartAtFire site s
  | .timedOccurrence tev => Sys2Proof.Machine.execTimedOccurrence tev s
  | .timedPulseEnd tev => Sys2Proof.Machine.execTimedPulseEnd tev s
  | .idlePolicyTimeout dom => Sys2Proof.Machine.execIdlePolicyTimeout dom s
  | .shutterClosing dom => Sys2Proof.Machine.execShutterClosing dom s
  | .shutterDrainDone dom => Sys2Proof.Machine.execShutterDrainDone dom s
  | .shutterDrainTimeout dom => Sys2Proof.Machine.execShutterDrainTimeout dom s
  | .domainWake dom => Sys2Proof.Machine.execDomainWake dom s
  | .wakeTimeout dom => Sys2Proof.Machine.execWakeTimeout dom s
  | .vreqAck bus => Sys2Proof.Machine.execVreqAck bus s
  | .vreqTimeout bus => Sys2Proof.Machine.execVreqTimeout bus s
  | .thermalSample sensors => Sys2Proof.Machine.execThermalSample sensors s
  | .thermTrip => Sys2Proof.Machine.execThermTrip s
  | .pmbAlert => Sys2Proof.Machine.execPmbAlert s
  | .powerOnReset bootSrc => Sys2Proof.Machine.execPowerOnReset bootSrc s
  | .bootAuthDone r => Sys2Proof.Machine.execBootAuthDone r s
  | .aonPllLock => Sys2Proof.Machine.execAonPllLock s
  | .systemPllLock => Sys2Proof.Machine.execSystemPllLock s
  | .sysRstN => Sys2Proof.Machine.execSysRstN s
  | .perstN => Sys2Proof.Machine.execPerstN s
  | .vddUndervoltage => Sys2Proof.Machine.execVddUndervoltage s
  | .pllLoss pll => Sys2Proof.Machine.execPllLoss pll s
  | .pllRestore pll => Sys2Proof.Machine.execPllRestore pll s
  | .tapReset => Sys2Proof.Machine.execTapReset s
  | .jtagExtest tdi => Sys2Proof.Machine.execJtagExtest tdi s
  | .jtagIdcode tdi => Sys2Proof.Machine.execJtagIdcode tdi s
  | .jtagSamplePreload tdi => Sys2Proof.Machine.execJtagSamplePreload tdi s
  | .jtagClamp tdi => Sys2Proof.Machine.execJtagClamp tdi s
  | .jtagHighz tdi => Sys2Proof.Machine.execJtagHighz tdi s
  | .jtagExtestPulse tdi => Sys2Proof.Machine.execJtagExtestPulse tdi s
  | .jtagExtestTrain tdi => Sys2Proof.Machine.execJtagExtestTrain tdi s
  | .jtagBypass tdi => Sys2Proof.Machine.execJtagBypass tdi s
  | .longCommandSlice ticket => Sys2Proof.Machine.execLongCommandSlice ticket s
  | .dmaHostCompletion ticket ok => Sys2Proof.Machine.execDmaHostCompletion ticket ok s
  | .extendedMultiblockLockReturn link => Sys2Proof.Machine.execExtendedMultiblockLockReturn link s
  | .cdrLockAcquired lane => Sys2Proof.Machine.execCdrLockAcquired lane s
  | .cdrLockLoss lane => Sys2Proof.Machine.execCdrLockLoss lane s
  | .quadPllLock quad => Sys2Proof.Machine.execQuadPllLock quad s
  | .lapCounterSample mem => Sys2Proof.Machine.execLapCounterSample mem s
  | .sysRstNRelease bootSrc => Sys2Proof.Machine.execSysRstNRelease bootSrc s
  | .perstNRelease => Sys2Proof.Machine.execPerstNRelease s
  | .pcieConfigAccess off wr => Sys2Proof.Machine.execPcieConfigAccess off wr s
  | .arpRequest ip => Sys2Proof.Machine.execArpRequest ip s

end Sys2Proof.Machine
end

