-- ==== Sys2Proof/Machine/Step.lean ====
section
/-! DEFINITION. One step of the block: the command at the front of the queue, or one step clock when none waits. -/

namespace Sys2Proof.Machine

/-- Take the command at the front of the queue and run it on the rest; on an empty queue one step clock passes. -/
def step (s : State) : Host.Outcome State Fault Refusal :=
  match s.pending with
  | [] => .next s.stepClock
  | c :: rest => exec c { s with pending := rest }

/-- Put the command a word spells at the front of the queue. -/
def State.withFetchWord (s : State) (nbits w : Nat) : State :=
  match decodeTableWord nbits w with
  | some c => { s with pending := c :: s.pending }
  | none => s

end Sys2Proof.Machine
end

