-- ==== Sys2Proof/Safety.lean ====
section
/-! DEFINITION. What counts as a safe step, and the terms claims use: when a command is served, and when a pane or a word cell
executes with nothing against it. -/

namespace Sys2Proof.Machine

/-- The outcome is a next state. -/
def goesOn (o : Host.Outcome State Fault Refusal) : Prop := ∃ t, o = .next t

/-- The canonical form of unit memory: addresses strictly rising, and no listed byte equal to zero, which an unlisted byte reads as
(R341, R347). -/
def Memory.wf (m : List Host.Cell) : Bool := tabWf 0 m

/-- Domain `d` is ON with no entry under way, and not locked. -/
def State.awake (s : State) (d : Nat) : Bool := (s.dom d).state == .on && !(s.dom d).locked && (s.dom d).entry.isNone

/-- The request at `src`, when it is for this unit and for the row of `sp`, nothing of R425, R440, R441 and R444 refuses it, and the
domains it acts on are ON. -/
def State.serves (s : State) (src : Nat) (sp : CmdSpec) : Option Req :=
  match s.request src with
  | none => none
  | some q =>
    if sp.fits q && (q.early s sp.bcast).isNone && q.here s.chain.ua && decide (sp.need ≤ q.pay.length) && q.clean sp.cov &&
        (sp.doms s q).all s.awake then
      some q
    else none

/-- A long command with this work can have a ticket (R429, R445). -/
def State.accepts (s : State) (w : Work) : Bool := !s.host.ticketsFull && !s.host.objBusy w.objs

/-- The unit with the next ticket issued to a long command (R428, R429). -/
def State.issue (s : State) (q : Req) (w : Work) (queued : Bool) (total : Nat) : State :=
  ({ s with host := { s.host with nextTicket := ticketAfter s.host.nextTicket } } : State).setTicket s.host.nextTicket
    (some
      { opcode := BitVec.ofNat 16 q.opcode
        work := w
        queued := queued
        final := none
        progress := 0
        total := BitVec.ofNat 64 total
        phase := 0
        data := []
        cancel := false
        retained := false
        hostErr := false
        source := q.ua })

/-- The answer to a long command accepted in state `t`: ST_ACCEPTED and the ticket (R428). -/
def State.acceptedAs (t : State) (q : Req) (tk : BitVec 32) : State := t.reply q Code.ST_ACCEPTED [] tk

/-- The answer to a long command that passed its checks: accepted with the next ticket, after which `f` says what else it does, or
ST_BUSY with nothing changed where no ticket is free or another ticket's work holds its object (R428, R429, R445). -/
def State.acceptedOrBusy (s : State) (q : Req) (w : Work) (queued : Bool) (total : Nat) (f : State → State) : State :=
  if s.accepts w then (f (s.issue q w queued total)).acceptedAs q s.host.nextTicket else s.reply q Code.ST_BUSY [] 0

/-- Pane `p` of sash `i` executes an instruction of OP `op` at the present step with nothing against it, its word and its operands
clean or checked already while it waited (R30, R35, R70, R170): what it executes. -/
def State.paneClear (s : State) (i p op : Nat) : Option PaneAt :=
  let x := s.sash i
  match x.cfg.site with
  | none => none
  | some n =>
    let c : PaneAt := { sash := i, pane := p, k := x.k, w := x.fetch p x.k, site := n.val }
    let bad (f : Nat) : Bool := x.operandBad p f || ((s.site n.val).img.scoreboard && x.operandEarly p f)
    if x.paneDue p op && !(pUsed c.w).any (x.awaits p) && (getBit x.checked p || (x.wordErr p x.k == 0 && !(pUsed c.w).any bad)) then some c
    else none

/-- The unit with the word and the operands of pane `p` noted as checked in this step. -/
def State.paneReady (s : State) (i p : Nat) : State :=
  if getBit (s.sash i).checked p then s else s.modSash i fun x => { x with checked := putBit x.checked p true }

/-- Cell `c` of sash `i` executes an entry of operation `op` in the present step, its parity good and its predicate true: what it
executes. -/
def State.cellClear (s : State) (i c op : Nat) : Option CellAt :=
  let x := s.sash i
  let v := x.cell c
  match x.cfg.site with
  | none => none
  | some n =>
    if s.cellsRun n.val i && v.live && !v.done && wOpc v.entry == op && !x.mulHold (s.mulContract n.val) &&
        !getBit v.parityBad v.pc.toNat && v.pred (wPred v.entry) (v.pace x.paceFlag) then
      some { sash := i, cell := c, site := n.val, w := v.entry, a := v.reg (wRA v.entry), b := x.wB v v.entry }
    else none

/-- Cell `c` of sash `i` has executed the entry of `a`: result `r` in RD, flags Z, N and C as given; PC is on the next entry; no other
register, no other cell, no bit of a pane, no memory and no lane has changed (R73, R74, R80). -/
def State.cellRan (s t : State) (i c : Nat) (a : CellAt) (r : Option Word) (z n cy : Bool) : Prop :=
  let u := (s.sash i).cell c
  let v := (t.sash i).cell c
  v.done = true ∧ v.pc.toNat = (u.pc.toNat + 1) % u.len.toNat ∧
    (∀ k, v.reg k = if k = wRD a.w then r.getD (u.reg k) else u.reg k) ∧ v.z = z ∧ v.n = n ∧ v.c = cy ∧
    v.entries = u.entries ∧ v.outWord = u.outWord ∧ v.inWord = u.inWord ∧
    (∀ j d, (j ≠ i ∨ d ≠ c) → (t.sash j).cell d = (s.sash j).cell d) ∧
    (∀ j, (t.sash j).net = (s.sash j).net ∧ (t.sash j).st = (s.sash j).st) ∧ t.mem = s.mem ∧ t.lanes = s.lanes

/-- The unit but for its sashes is as before, and so is every sash but `i`. -/
def State.onlySash (s t : State) (i : Nat) : Prop :=
  t = { s with sashes := t.sashes } ∧ ∀ j, j ≠ i → t.sash j = s.sash j

end Sys2Proof.Machine
end

