-- ==== Sys2Proof/Certificates/Slice0/Obligations.lean ====
section
/-! DEFINITION. The statements for the provers. Each is about every state and every operand that meets its hypotheses; a command that
reaches a channel is served when `State.serves` answers its request. -/

open Sys2Proof Sys2Proof.Machine

/-- A step with a command at the front of the queue is exec of that command on the queue's rest. -/
def Obligations.StepRunsFrontCommand : Prop :=
  ∀ (c : Instr) (s : State) (rest : List Instr), s.pending = c :: rest → step s = exec c { s with pending := rest }

/-- On an empty queue one step clock passes: the unit's step and age counters advance by one step clock of 0.8 ns at -12 and 1 ns at -10
(R2), and nothing joins the queue. That an idle step is a step clock is the model's choice (log entry 3). -/
def Obligations.IdleStepIsOneStepClock : Prop :=
  ∀ s : State, s.pending = [] →
    ∃ t, step s = .next t ∧ t.power.steps = s.power.steps + 1 ∧
      t.power.ps = s.power.ps + (if s.id.grade12 then 800 else 1000)

/-- Every step takes exactly the front command from the queue and leaves the others in their order; no command reaches into the queue. The
queue is the model's own (log entry 4). -/
def Obligations.EveryStepConsumesOneCommand : Prop :=
  ∀ s t : State, step s = .next t → t.pending = s.pending.tail

/-- The bytes of unit memory stay in their canonical form, addresses rising and no byte listed that reads as an unlisted one: a step of
any command from any state in the form ends in a state in the form. -/
def Obligations.EveryStepKeepsMemoryCanonical : Prop :=
  ∀ s t : State, Memory.wf s.mem.bytes = true → step s = .next t → Memory.wf t.mem.bytes = true

/-- After power-on: no UA, every site EMPTY, every channel CLOSED with LAST 0xFFFF, BOOT_STATE ROM and FW_READY 0, the interrupt mask all
ones, the event ring off with PHASE 1, LINEAR map, no valid memory, UNLOCKED time at zero, quads OFF, TAP on IDCODE; the queue is empty
and memory in its canonical form (the model's own). -/
def Obligations.ResetState : Prop :=
  let s := State.reset
  s.chain.ua = 0x3FC00 ∧ (∀ n, (s.site n).state = .empty) ∧ (∀ c, (s.chan c).state = .closed ∧ (s.chan c).last = 0xFFFF) ∧
    s.host.bootState = 0 ∧ s.host.fwReady = false ∧ s.host.irqMask = 0x000FFFFF ∧ s.host.evqProd = 0x00010000 ∧
    s.host.evqCtl = 0 ∧ s.mem.interleave = false ∧ s.mem.valid = [] ∧ s.mem.regions = [] ∧ s.time.counter = 0 ∧
    s.time.servo = .unlocked ∧ s.time.tctl = 0x300 ∧ (∀ q, q < 16 → (s.dom (domQuad q)).state = .off) ∧
    (∀ i, i < 64 → (s.dom (domSash i)).state = .on) ∧ s.power.tap.ir = 0x01 ∧ s.pending = [] ∧
    Memory.wf s.mem.bytes = true

/-- A write to unit memory is what a later look at it sees: every byte written reads as written, and every other byte of the unit's
address space reads as before, whatever regions were filled (R340, R341, R347). -/
def Obligations.MemoryReadsWhatWasWritten : Prop :=
  ∀ (s : State) (a : Nat) (bs : List Byte) (x : Nat),
    (s.memWrite a bs).peekByte x = if a ≤ x ∧ x < a + bs.length then bs.getD (x - a) 0 else s.peekByte x

/-- LUT4 evaluates TT at n = A + 2B + 4C + 8D and LUT3S at n = A + 2B + 4C (R39). -/
def Obligations.LutsEvaluateTheirTruthTable : Prop :=
  (∀ (s : State) (i : Fin 64) (p : Fin 256) (c : PaneAt), s.paneClear i.val p.val 1 = some c →
    let u := s.paneReady i.val p.val
    let v (f : Nat) : Nat := b2n ((s.sash i.val).operand p.val f)
    exec (.lut4 i p) s =
      .next (u.paneResult c ((pTT c.w).testBit (v (pA c.w) + 2 * v (pB c.w) + 4 * v (pC c.w) + 8 * v (pD c.w))))) ∧
  (∀ (s : State) (i : Fin 64) (p : Fin 256) (c : PaneAt), s.paneClear i.val p.val 2 = some c →
    let u := s.paneReady i.val p.val
    let x := u.sash i.val
    let v (f : Nat) : Nat := b2n ((s.sash i.val).operand p.val f)
    let r := (pTT c.w).testBit (v (pA c.w) + 2 * v (pB c.w) + 4 * v (pC c.w))
    exec (.lut3s i p) s =
      .next ((u.setSash i.val { x with shadow := tmod 0 x.shadow p.val fun w => putBit w (pD c.w % 512) r }).paneResult c r))

/-- What a pane's result changes (R36): net bit k of the pane takes it, the exchange of the next step takes it, and the pane has executed.
No other net bit, no state bit, no shadow bit, no other sash and nothing else of the unit but the keyhole's latch of a pane output
changes. What stands before every pane row: a row that is not due does nothing; an operand whose contracted data is late stalls the sash
(R170); a word that its check cannot correct faults the site at once (R30); a parity error of an operand is counted and sets the site's
fault pending, and the row still executes (R30, R35). NOP gives 0; PROBE copies A to the tap TT[4:0] and gives A; SEND puts A into bit
B.INDEX of the outgoing buffer of the tag in TT[5:0] and gives A; WPUT asks for bit TT[10:6] of cell TT[5:0] and gives A; WGET gives that
bit of the cell's output word (R40, R41, R52, R53). -/
def Obligations.PaneResultsAndMovesReachTheirTargets : Prop :=
  (∀ (s : State) (c : PaneAt) (v : Bool), c.k < 512 → c.pane < 256 →
    let t := s.paneResult c v
    let x := s.sash c.sash
    let y := t.sash c.sash
    getBit (tget 0 y.net c.pane) c.k = v ∧ getBit y.results c.pane = v ∧ getBit y.done c.pane = true ∧
      (∀ p k, (p, k) ≠ (c.pane, c.k) → getBit (tget 0 y.net p) k = getBit (tget 0 x.net p) k) ∧
      y = { x with net := y.net, sbFlags := y.sbFlags, results := y.results, done := y.done } ∧
      (∀ j, j ≠ c.sash → t.sash j = s.sash j) ∧
      t = { s with sashes := t.sashes, power := { s.power with key := t.power.key } }) ∧
  (∀ (s : State) (i : Fin 64) (p : Fin 256) (n : Fin 16), (s.sash i.val).cfg.site = some n →
    let x := s.sash i.val
    let w := x.fetch p.val x.k
    let rows : List (Instr × Nat) :=
      [(.paneNop i p, 0), (.lut4 i p, 1), (.lut3s i p, 2), (.send i p, 3), (.recv i p, 4), (.memrd i p, 5), (.memwr i p, 6),
        (.pinout i p, 7), (.pinin i p, 8), (.wput i p, 10), (.wget i p, 11), (.probe i p, 12)]
    ∀ r ∈ rows,
      (x.paneDue p.val r.2 = false → exec r.1 s = .next s) ∧
      (x.paneDue p.val r.2 = true → (pUsed w).any (x.awaits p.val) = true → exec r.1 s = .next (s.beginStall n.val i.val .port)) ∧
      (x.paneDue p.val r.2 = true → (pUsed w).any (x.awaits p.val) = false → getBit x.checked p.val = false →
        x.wordErr p.val x.k = 2 →
        exec r.1 s = .next (s.faultSashNow i.val Code.DI_ISTORE_UNCORRECTABLE p.val x.k)) ∧
      (∀ f, pUsed w = [f] → r.2 = 12 → x.paneDue p.val 12 = true → x.awaits p.val f = false → getBit x.checked p.val = false →
        x.wordErr p.val x.k = 0 → x.operandBad p.val f = true → ((s.site n.val).img.scoreboard && x.operandEarly p.val f) = false →
        let v := x.operand p.val f
        let y : Sash := { x with
          checked := putBit x.checked p.val true
          ctr := { x.ctr with bitstorePar := satInc x.ctr.bitstorePar } }
        let u := (s.setSash i.val y).pendSash i.val Code.DI_BITSTORE_PARITY p.val (opIndex f)
        exec r.1 s = .next ((u.setSash i.val { u.sash i.val with taps := putBit x.taps (pTT w % 32) v }).paneResult
          { sash := i.val, pane := p.val, k := x.k, w := w, site := n.val } v))) ∧
  ((∀ (s : State) (i : Fin 64) (p : Fin 256) (c : PaneAt), s.paneClear i.val p.val 0 = some c →
    exec (.paneNop i p) s = .next ((s.paneReady i.val p.val).paneResult c false)) ∧
  (∀ (s : State) (i : Fin 64) (p : Fin 256) (c : PaneAt), s.paneClear i.val p.val 0xC = some c →
    let u := s.paneReady i.val p.val
    let v := (s.sash i.val).operand p.val (pA c.w)
    exec (.probe i p) s =
      .next ((u.setSash i.val { u.sash i.val with taps := putBit (s.sash i.val).taps (pTT c.w % 32) v }).paneResult c v)) ∧
  (∀ (s : State) (i : Fin 64) (p : Fin 256) (c : PaneAt), s.paneClear i.val p.val 3 = some c →
    let u := s.paneReady i.val p.val
    let v := (s.sash i.val).operand p.val (pA c.w)
    exec (.send i p) s =
      .next ((u.setSash i.val { u.sash i.val with
        outBuf := tmod 0 (s.sash i.val).outBuf (pTT c.w % 64) fun b => putBit b (pB c.w % 512) v }).paneResult c v)) ∧
  (∀ (s : State) (i : Fin 64) (p : Fin 256) (c : PaneAt), s.paneClear i.val p.val 0xA = some c →
    let u := s.paneReady i.val p.val
    let v := (s.sash i.val).operand p.val (pA c.w)
    exec (.wput i p) s =
      .next ((u.setSash i.val { u.sash i.val with
        wputs := (s.sash i.val).wputs ++ [{ pane := p.val, cell := pTT c.w % 64, bit := bits (pTT c.w) 6 5, val := v }] }).paneResult c v)) ∧
  (∀ (s : State) (i : Fin 64) (p : Fin 256) (c : PaneAt), s.paneClear i.val p.val 0xB = some c →
    exec (.wget i p) s =
      .next ((s.paneReady i.val p.val).paneResult c (getBit ((s.sash i.val).cell (pTT c.w % 64)).outWord (bits (pTT c.w) 6 5)))))

/-- The scratchpad rows (R47 to R50). A MEMRD in its declared range names its line and reads bit C.INDEX[7:0] of it, zero where nothing
has been written, to land in net bit k three steps later, or at its contracted step where that is later; no byte of memory changes. A
MEMWR in its range names its line, asks for the write at the end of the step, and gives A. Outside the range an indexed access faults the
site at once with TF_SCRATCH_BOUNDS and performs nothing. A landing that is due writes its net bit. A RECV whose bundle of the present
cycle has arrived, or can no longer arrive, gives bit B.INDEX of its bank; a poisoned bank sets TF_RING_POISON, or TF_LINK_POISON,
pending; without its bundle the pane waits in a stall (R53, R107, R117, R126). -/
def Obligations.PaneMemoryAndBundleAccess : Prop :=
  ((∀ (s : State) (i : Fin 64) (p : Fin 256) (c : PaneAt), s.paneClear i.val p.val 5 = some c → (s.sash i.val).outOfLines c.w = false →
    let x := s.sash i.val
    let l := x.memLine c.w
    let b := pC c.w % 256
    ∃ t, exec (.memrd i p) s = .next t ∧
      (t.sash i.val).landings = x.landings ++
        [{ pane := p.val
           k := c.k
           bit := getBit (s.peekByte (padAddr i.val (32 * l) + b / 8)) (b % 8)
           left := (s.site c.site).img.scratchRead + 1
           more := scratchActual + 1 }] ∧
      (t.sash i.val).portLines = (x.nameLine l).portLines ∧ (t.sash i.val).net = x.net ∧ getBit (t.sash i.val).done p.val = true ∧
      ∀ a, t.peekByte a = s.peekByte a) ∧
  (∀ (s : State) (i : Fin 64) (p : Fin 256) (c : PaneAt), s.paneClear i.val p.val 6 = some c → (s.sash i.val).outOfLines c.w = false →
    let u := s.paneReady i.val p.val
    let v := (s.sash i.val).operand p.val (pA c.w)
    let l := (s.sash i.val).memLine c.w
    exec (.memwr i p) s =
      .next ((u.setSash i.val { (u.sash i.val).nameLine l with
        memw := (s.sash i.val).memw ++ [{ pane := p.val, line := l, bit := pC c.w % 256, val := v }] }).paneResult c v)) ∧
  (∀ (s : State) (i : Fin 64) (p : Fin 256) (c : PaneAt), (s.sash i.val).outOfLines c.w = true →
    let t := (s.paneReady i.val p.val).faultSashNow i.val Code.TF_SCRATCH_BOUNDS p.val ((s.sash i.val).memLine c.w)
    (s.paneClear i.val p.val 5 = some c → exec (.memrd i p) s = .next t) ∧
      (s.paneClear i.val p.val 6 = some c → exec (.memwr i p) s = .next t)) ∧
  (∀ (s : State) (i : Fin 64) (p : Fin 256) (l : Landing),
    (s.sash i.val).landings.find? (fun l => l.pane == p.val && l.due) = some l → l.k < 512 →
    ∃ t, exec (.memrdLanding i p) s = .next t ∧ getBit (tget 0 (t.sash i.val).net l.pane) l.k = l.bit ∧
      (∀ q k, (q, k) ≠ (l.pane, l.k) → getBit (tget 0 (t.sash i.val).net q) k = getBit (tget 0 (s.sash i.val).net q) k) ∧
      (t.sash i.val).landings = (s.sash i.val).landings.erase l ∧ (∀ j, j ≠ i.val → t.sash j = s.sash j) ∧ t.mem = s.mem) ∧
  (∀ (s : State) (i : Fin 64) (p : Fin 256),
    (s.sash i.val).landings.find? (fun l => l.pane == p.val && l.due) = none → exec (.memrdLanding i p) s = .next s)) ∧
  ((∀ (s : State) (i : Fin 64) (p : Fin 256) (c : PaneAt), s.paneClear i.val p.val 4 = some c →
    let tag := pTT c.w % 64
    let b := bankOf tag (s.site c.site).cycle.toNat
    let x := s.sash i.val
    (getBit x.inFlag b || getBit x.inUnsat b) = true →
    let r := s.paneReady i.val p.val
    let rest := terase x.recvWait p.val
    let u := r.setSash i.val { r.sash i.val with
      recvWait := rest
      stall := if rest.isEmpty && x.stall == some .bundle then none else x.stall }
    let u := if getBit x.inPoison b then u.pendSash i.val Code.TF_RING_POISON p.val tag else u
    let u := if getBit x.inLinkPoison b then u.pendSash i.val Code.TF_LINK_POISON p.val tag else u
    exec (.recv i p) s = .next (u.paneResult c (getBit (tget 0 x.inBuf b) (pB c.w % 512)))) ∧
  (∀ (s : State) (i : Fin 64) (p : Fin 256) (c : PaneAt), s.paneClear i.val p.val 4 = some c →
    let b := bankOf (pTT c.w % 64) (s.site c.site).cycle.toNat
    getBit (s.sash i.val).inFlag b = false → getBit (s.sash i.val).inUnsat b = false →
    ∃ t, exec (.recv i p) s = .next t ∧ (t.sash i.val).stall.isSome = true ∧ 1 ≤ tget 0 (t.sash i.val).recvWait p.val ∧
      (t.sash i.val).net = (s.sash i.val).net ∧ (t.sash i.val).done = (s.sash i.val).done))

/-- PINOUT (R46, R234): a code not yet sent takes the bit in the outbound queue, at D = 0 with TF_RUNAHEAD_OVERFLOW pending where an
earlier cycle still waits; a sent code keeps its value and gives the bit the code log holds, and a log line that cannot be read faults the
site. PININ (R51, R225, R234): at D = 0 the response's bit, or a paced wait without it; at D ≥ 1 in a replay the response's bit, and
otherwise A, noted as speculated. A pin compare gives 0; with D = 1 it posts its expect {C, B, A} when that is 0, 1, 2 or 4, decided at
once where the site does not run ahead and the response has come; the values 5 to 7 count in BAD_EXPECT whatever D is (R43, R44). A model
check gives A ≠ B, and with D = 1 a difference is noted as a mismatch of the present cycle, step and pane (R45, R251). A compare word of
the other form is left to the other row. -/
def Obligations.PanePinsAndChecks : Prop :=
  ((∀ (s : State) (i : Fin 64) (p : Fin 256) (c : PaneAt), s.paneClear i.val p.val 7 = some c →
    let u := s.paneReady i.val p.val
    let x := s.site c.site
    let cyc := x.cycle.toNat
    let v := (s.sash i.val).operand p.val (pA c.w)
    let l := s.lane i.val
    (x.img.depth = 0 ∨ l.source0 = false ∨ l.sent x.c0 cyc (ttCode c.w) = false) →
    let t := u.setLane i.val { l with outq := outPut l.outq cyc (ttCode c.w) (ttPin c.w) (ttSel c.w) v }
    exec (.pinout i p) s =
      .next ((if x.img.depth = 0 ∧ (l.outq.any fun e => decide (e.cycle < cyc)) = true then
          t.pendSash i.val Code.TF_RUNAHEAD_OVERFLOW p.val (ttCode c.w) else t).paneResult c v)) ∧
  (∀ (s : State) (i : Fin 64) (p : Fin 256) (c : PaneAt), s.paneClear i.val p.val 7 = some c →
    let u := s.paneReady i.val p.val
    let x := s.site c.site
    let cyc := x.cycle.toNat
    let l := s.lane i.val
    let pos := 2 * (ttCode c.w * l.pins + ttPin c.w)
    1 ≤ x.img.depth → l.source0 = true → l.sent x.c0 cyc (ttCode c.w) = true →
    ∀ bs bad t, u.memRead (s.clogAddr c.site i.val cyc + pos / 64 * 8) 8 = (bs, bad, t) →
    exec (.pinout i p) s = .next
      (if bad then t.faultSashNow i.val Code.DI_POISON_READ p.val (x.img.clogFirst + cyc % (x.img.depth + 1) * l.clogLines + pos / 256)
       else t.paneResult c ((leNat bs).testBit (pos % 64 + ttSel c.w)))) ∧
  (∀ (s : State) (i : Fin 64) (p : Fin 256) (c : PaneAt), s.paneClear i.val p.val 8 = some c →
    let u := s.paneReady i.val p.val
    let x := s.site c.site
    let l := s.lane i.val
    let v := (s.sash i.val).operand p.val (pA c.w)
    let resp := l.respOf x.c0 x.cycle.toNat (ttCode c.w) (ttPin c.w)
    let t := u.setLane i.val { l with
      specs := l.specs ++ [{ cycle := x.cycle.toNat, code := ttCode c.w, pin := ttPin c.w, sel := ttSel c.w == 1, bit := v }] }
    exec (.pinin i p) s = .next
      (match (if x.img.depth = 0 ∨ x.ra.replay = true then resp else none) with
       | some r => u.paneResult c (getBit r (ttSel c.w))
       | none =>
         if x.img.depth = 0 then u.setSash i.val { u.sash i.val with pacing := true }
         else (t.checkSpecs c.site i.val).paneResult c v))) ∧
  ((∀ (s : State) (i : Fin 64) (p : Fin 256) (c : PaneAt), s.paneClear i.val p.val 9 = some c → ttSel c.w = 0 →
    let u := s.paneReady i.val p.val
    let x := s.sash i.val
    let v := b2n (x.operand p.val (pA c.w)) + 2 * b2n (x.operand p.val (pB c.w)) + 4 * b2n (x.operand p.val (pC c.w))
    let t := if 5 ≤ v then u.setSash i.val { u.sash i.val with ctr := { x.ctr with badExpect := satInc x.ctr.badExpect } } else u
    let posted := t.setLane i.val { s.lane i.val with
      expects := (s.lane i.val).expects ++
        [{ cycle := (s.site c.site).cycle.toNat, code := ttCode c.w, pin := ttPin c.w, want := BitVec.ofNat 3 v }] }
    exec (.paneCmpPin i p) s = .next
      ((if x.operand p.val (pD c.w) = true ∧ (v ≤ 2 ∨ v = 4) then
          (if (s.site c.site).img.depth = 0 then posted.runCompares c.site i.val (fun _ => true) else posted) else t).paneResult c false)) ∧
  (∀ (s : State) (i : Fin 64) (p : Fin 256) (c : PaneAt), s.paneClear i.val p.val 9 = some c → ttSel c.w = 1 →
    let u := s.paneReady i.val p.val
    let x := s.sash i.val
    let a := x.operand p.val (pA c.w)
    let b := x.operand p.val (pB c.w)
    let cyc := (s.site c.site).cycle.toNat
    let r := failRec cyc (pTT c.w % 256) c.site x.cfg.index (b2n a) (b2n b) 3 0
    exec (.paneCmpModelCheck i p) s = .next
      ((if x.operand p.val (pD c.w) = true ∧ a ≠ b then u.noteModelCheck i.val (cyc, c.k, p.val, r) else u).paneResult c (a != b))) ∧
  (∀ (s : State) (i : Fin 64) (p : Fin 256),
    (ttSel ((s.sash i.val).fetch p.val (s.sash i.val).k) = 1 → exec (.paneCmpPin i p) s = .next s) ∧
      (ttSel ((s.sash i.val).fetch p.val (s.sash i.val).k) = 0 → exec (.paneCmpModelCheck i p) s = .next s)))

/-- With a false predicate an instruction writes no register, flag, latch, output word or wire, and PC advances (R74): a cell that
executes in this step has executed, its PC is on the next entry, and nothing else of the unit changes, whichever of the 22 operations the
entry names. -/
def Obligations.FalsePredicateOnlyAdvancesPc : Prop :=
  ∀ (s : State) (i c : Fin 64) (n : Fin 16),
    let x := s.sash i.val
    let u := x.cell c.val
    let t := s.setSash i.val (x.setCell c.val
      { u with done := true, pc := BitVec.ofNat 3 ((u.pc.toNat + 1) % u.len.toNat), wrote := 0, drove := 0 })
    let rows : List (Nat × Instr) :=
      [(0x00, .wcNop i c), (0x01, .wcAdd i c), (0x02, .wcSub i c), (0x03, .wcAnd i c), (0x04, .wcOr i c), (0x05, .wcXor i c),
       (0x06, .wcAndn i c), (0x07, .wcShl i c), (0x08, .wcShr i c), (0x09, .wcSar i c), (0x0A, .wcRol i c), (0x0B, .wcMulu i c),
       (0x0C, .wcMuls i c), (0x0D, .wcCmp i c), (0x0E, .wcMov i c), (0x0F, .wcBrev i c), (0x10, .wcScr i c), (0x11, .wcPopc i c),
       (0x12, .wcClz i c), (0x13, .wcIn i c), (0x14, .wcOut i c), (0x15, .wcMal i c)]
    x.cfg.site = some n → s.cellsRun n.val i.val = true → u.live = true → u.done = false → x.mulHold (s.mulContract n.val) = false →
    getBit u.parityBad u.pc.toNat = false → u.pred (wPred u.entry) (u.pace x.paceFlag) = false →
    ∀ row ∈ rows, wOpc u.entry = row.1 → exec row.2 s = .next t

/-- The word-cell operations (R80): what each writes into RD, and which flags it sets. ADD, SUB, AND, OR, XOR, ANDN, the shifts and ROL by
B[4:0], CMP without a result, MOV, BREV, SCR, POPC, CLZ and IN; NOP changes nothing but PC. A flag that an operation does not set keeps
its value. -/
def Obligations.WordCellOperationsWriteRdAndFlags : Prop :=
  ∀ (s : State) (i c : Fin 64),
    let u := (s.sash i.val).cell c.val
    let row (op : Nat) (cmd : Instr) (r : Word → Word → Option Word) (z n cy : Word → Word → Bool) : Prop :=
      ∀ a : CellAt, s.cellClear i.val c.val op = some a →
        ∃ t, exec cmd s = .next t ∧ s.cellRan t i.val c.val a (r a.a a.b) (z a.a a.b) (n a.a a.b) (cy a.a a.b)
    let keep (op : Nat) (cmd : Instr) (r : Word → Word → Option Word) : Prop :=
      row op cmd r (fun _ _ => u.z) (fun _ _ => u.n) fun _ _ => u.c
    let zero (op : Nat) (cmd : Instr) (r : Word → Word → Word) : Prop :=
      row op cmd (fun a b => some (r a b)) (fun a b => r a b == 0) (fun _ _ => u.n) fun _ _ => u.c
    keep 0x00 (.wcNop i c) (fun _ _ => none) ∧
    row 0x01 (.wcAdd i c) (fun a b => some (a + b)) (fun a b => a + b == 0) (fun a b => (a + b).msb)
      (fun a b => decide (2 ^ 32 ≤ a.toNat + b.toNat)) ∧
    row 0x02 (.wcSub i c) (fun a b => some (a - b)) (fun a b => a == b) (fun a b => decide (a.toInt < b.toInt))
      (fun a b => decide (a.toNat < b.toNat)) ∧
    keep 0x03 (.wcAnd i c) (fun a b => some (a &&& b)) ∧
    keep 0x04 (.wcOr i c) (fun a b => some (a ||| b)) ∧
    keep 0x05 (.wcXor i c) (fun a b => some (a ^^^ b)) ∧
    keep 0x06 (.wcAndn i c) (fun a b => some (a &&& ~~~b)) ∧
    keep 0x07 (.wcShl i c) (fun a b => some (a <<< (b.toNat % 32))) ∧
    keep 0x08 (.wcShr i c) (fun a b => some (a >>> (b.toNat % 32))) ∧
    keep 0x09 (.wcSar i c) (fun a b => some (a.sshiftRight (b.toNat % 32))) ∧
    keep 0x0A (.wcRol i c) (fun a b => some (a.rotateLeft (b.toNat % 32))) ∧
    row 0x0D (.wcCmp i c) (fun _ _ => none) (fun a b => a == b) (fun a b => decide (a.toInt < b.toInt))
      (fun a b => decide (a.toNat < b.toNat)) ∧
    keep 0x0E (.wcMov i c) (fun _ b => some b) ∧
    keep 0x0F (.wcBrev i c) (fun a b => some (brev (brevLen a) b)) ∧
    keep 0x10 (.wcScr i c)
      (fun _ b => some (BitVec.ofNat 32 (∑ k ∈ Finset.range 32, (if scrBit u.scr b k then 2 ^ k else 0)))) ∧
    zero 0x11 (.wcPopc i c) (fun a b => BitVec.ofNat 32 ((Finset.range 32).filter fun k => (a &&& b).getLsbD k = true).card) ∧
    zero 0x12 (.wcClz i c) (fun _ b => clzOf b) ∧
    keep 0x13 (.wcIn i c) (fun _ _ => some u.inWord)

/-- The bit operations of R80 bit by bit: BREV reverses the low n bits of B, with n = A[5:0] and 0 and more than 32 counting as 32, and
clears the others; CLZ counts the zeros above the highest one, 32 for zero; bit k of SCR is bit SRC of B, or 0 for SRC 0x20, XOR INV. The
word-cell operations whose result comes later: MULU and MULS send the product of the low halves off, unsigned or signed, with RD and its
wire, and change no register yet (R80, R81); the product lands in RD unless a later instruction of the step wrote it, and drives its wire
unless that instruction drove it; OUT keeps B for the end of the step (R86) and MAL its 15 bits for its latch (R87). A result with DV
drives its wire when the wire is enabled for the cell; a second driver of the wire disables it (R88 to R90). An entry with a parity error
faults the site at once (R91), and a cell that holds or has executed stays as it is (R76, R81). -/
def Obligations.BitOperationsProductsAndWires : Prop :=
  ((∀ (a b : Word) (k : Nat), k < 32 →
    (brev (brevLen a) b).getLsbD k = (decide (k < brevLen a) && b.getLsbD (brevLen a - 1 - k))) ∧
  (∀ a : Word, brevLen a = (if a.toNat % 64 = 0 ∨ 32 < a.toNat % 64 then 32 else a.toNat % 64)) ∧
  (clzOf 0 = 32) ∧
  (∀ b : Word, b ≠ 0 → ∃ k, k < 32 ∧ b.getLsbD k = true ∧ (∀ j, k < j → b.getLsbD j = false) ∧ (clzOf b).toNat = 31 - k) ∧
  (∀ (t : Tab (BitVec 8)) (b : Word) (k : Nat),
    scrBit t b k =
      xor (if (tget 0 t k).toNat % 64 < 32 then b.getLsbD ((tget 0 t k).toNat % 64) else false) ((tget 0 t k).getLsbD 6))) ∧
  ((∀ (s : State) (i c : Fin 64) (a : CellAt),
    let u := (s.sash i.val).cell c.val
    let same (t : State) : Prop := s.cellRan t i.val c.val a none u.z u.n u.c
    let flight (v : Word) : MulPend :=
      ⟨BitVec.ofNat 4 (wRD a.w), v, if wDV a.w then some (BitVec.ofNat 3 (wWS a.w)) else none, 0, 0, false⟩
    (s.cellClear i.val c.val 0x0B = some a → ∃ t, exec (.wcMulu i c) s = .next t ∧ same t ∧
        ((t.sash i.val).cell c.val).muls = u.muls ++ [flight (BitVec.ofNat 32 (a.a.toNat % 2 ^ 16 * (a.b.toNat % 2 ^ 16)))]) ∧
      (s.cellClear i.val c.val 0x0C = some a → ∃ t, exec (.wcMuls i c) s = .next t ∧ same t ∧
        ((t.sash i.val).cell c.val).muls =
          u.muls ++ [flight (BitVec.ofInt 32 ((a.a.setWidth 16).toInt * (a.b.setWidth 16).toInt))]) ∧
      (s.cellClear i.val c.val 0x14 = some a → ∃ t, exec (.wcOut i c) s = .next t ∧ same t ∧
        ((t.sash i.val).cell c.val).outPend = some a.b) ∧
      (s.cellClear i.val c.val 0x15 = some a → ∃ t, exec (.wcMal i c) s = .next t ∧ same t ∧
        (t.sash i.val).malPend = (s.sash i.val).malPend ++ [(c.val, wRD a.w % 4, BitVec.ofNat 15 a.b.toNat)])) ∧
  (∀ (s : State) (i c : Fin 64) (a : CellAt),
    let x := s.sash i.val
    let w := wWS a.w
    let rows : List (Nat × Instr × Word) :=
      [(0x01, .wcAdd i c, a.a + a.b), (0x02, .wcSub i c, a.a - a.b), (0x03, .wcAnd i c, a.a &&& a.b), (0x04, .wcOr i c, a.a ||| a.b),
        (0x05, .wcXor i c, a.a ^^^ a.b), (0x06, .wcAndn i c, a.a &&& ~~~a.b), (0x07, .wcShl i c, a.a <<< (a.b.toNat % 32)),
        (0x08, .wcShr i c, a.a >>> (a.b.toNat % 32)), (0x09, .wcSar i c, a.a.sshiftRight (a.b.toNat % 32)),
        (0x0A, .wcRol i c, a.a.rotateLeft (a.b.toNat % 32)), (0x0E, .wcMov i c, a.b), (0x0F, .wcBrev i c, brev (brevLen a.a) a.b),
        (0x11, .wcPopc i c, popc (a.a &&& a.b)), (0x12, .wcClz i c, clzOf a.b), (0x13, .wcIn i c, (x.cell c.val).inWord)]
    ∀ r ∈ rows, s.cellClear i.val c.val r.1 = some a → ∃ t, exec r.2.1 s = .next t ∧
      (wDV a.w = false ∨ getBit (tget 0 x.wen w) c.val = false ∨ getBit x.wrec.contendWires w = true → (t.sash i.val).drives = x.drives) ∧
      (wDV a.w = true → getBit (tget 0 x.wen w) c.val = true → getBit x.wrec.contendWires w = false →
        ((∀ d ∈ x.drives, d.1 = w → d.2.1 = c.val) → (t.sash i.val).drives = x.drives.filter (·.1 != w) ++ [(w, c.val, r.2.2)]) ∧
        ((∃ d ∈ x.drives, d.1 = w ∧ d.2.1 ≠ c.val) →
          (t.sash i.val).drives = x.drives.filter (·.1 != w) ∧ getBit (t.sash i.val).wrec.contendWires w = true))) ∧
  (∀ (s : State) (i c : Fin 64) (n : Fin 16) (m : MulPend), (s.sash i.val).cfg.site = some n → s.mulDue n.val i.val c.val = some m →
    let x := s.sash i.val
    let u := x.cell c.val
    let later := u.done && getBit u.wrote m.rd.toNat
    ∃ t, exec (.mulProductLand i c) s = .next t ∧
      (∀ k, ((t.sash i.val).cell c.val).reg k = if k = m.rd.toNat ∧ later = false then m.value else u.reg k) ∧
      { m with landed := true } ∈ ((t.sash i.val).cell c.val).muls ∧
      (∀ j d, (j ≠ i.val ∨ d ≠ c.val) → (t.sash j).cell d = (s.sash j).cell d) ∧ t.mem = s.mem ∧
      (∀ w, m.drive = some w → later = false → (u.done && getBit u.drove w.toNat) = false → getBit (tget 0 x.wen w.toNat) c.val = true →
        getBit x.wrec.contendWires w.toNat = false → (∀ d ∈ x.drives, d.1 = w.toNat → d.2.1 = c.val) →
        (t.sash i.val).drives = x.drives.filter (·.1 != w.toNat) ++ [(w.toNat, c.val, m.value)]) ∧
      (m.drive = none ∨ later = true → (t.sash i.val).drives = x.drives)) ∧
  (∀ (s : State) (i c : Fin 64) (n : Fin 16), (s.sash i.val).cfg.site = some n → s.mulDue n.val i.val c.val = none →
    exec (.mulProductLand i c) s = .next s) ∧
  (∀ (s : State) (i c : Fin 64) (n : Fin 16),
    let x := s.sash i.val
    let u := x.cell c.val
    let rows : List (Nat × Instr) :=
      [(0x00, .wcNop i c), (0x01, .wcAdd i c), (0x02, .wcSub i c), (0x03, .wcAnd i c), (0x04, .wcOr i c), (0x05, .wcXor i c),
       (0x06, .wcAndn i c), (0x07, .wcShl i c), (0x08, .wcShr i c), (0x09, .wcSar i c), (0x0A, .wcRol i c), (0x0B, .wcMulu i c),
       (0x0C, .wcMuls i c), (0x0D, .wcCmp i c), (0x0E, .wcMov i c), (0x0F, .wcBrev i c), (0x10, .wcScr i c), (0x11, .wcPopc i c),
       (0x12, .wcClz i c), (0x13, .wcIn i c), (0x14, .wcOut i c), (0x15, .wcMal i c)]
    x.cfg.site = some n →
    ∀ row ∈ rows,
      (s.cellsRun n.val i.val = true → u.live = true → u.done = false → x.mulHold (s.mulContract n.val) = false →
        wOpc u.entry = row.1 → getBit u.parityBad u.pc.toNat = true → exec row.2 s = .next (s.cellParity i.val c.val)) ∧
      ((s.cellsRun n.val i.val = false ∨ u.live = false ∨ u.done = true ∨ x.mulHold (s.mulContract n.val) = true ∨ wOpc u.entry ≠ row.1) →
        exec row.2 s = .next s)))

/-- H0 to H4 of a hinge (R56, R60, R62). A sash at H0 with nothing owed raises arrival, and the hinge has begun; an unsatisfied RECV sets
TF_RECV_TIMEOUT pending; a sash that still owes something stays. When every sash has arrived and what H2 waits for holds, the root
continues, halts or faults, and a far part passes its arrival up, as a faulty one where a fault is pending. What the decision does (R56,
R60): a hinge that continues copies the next-state shadow to the state bits of every sash of the site, keeps the net bits, clears the
exchange and raises the cycle number by one; one that halts does the same and stops the sashes; one with a fault pending skips the copy,
keeps the cycle number and faults the site with the fault of highest precedence, or with TF_REMOTE_FAULT. No other sash and no memory
changes. -/
def Obligations.HingeCopiesShadowAndCountsCycle : Prop :=
  ((∀ (s : State) (i : Fin 64) (n : Nat), s.siteOf i.val = some n → s.hingeReady i.val = true →
    let bad := (s.sash i.val).inUnsat &&& bankMask ((s.site n).cycle.toNat % 2)
    ∃ t, exec (.hinge i) s = .next t ∧ t.sash i.val = { s.sash i.val with phase := .arrived, stall := none } ∧
      (t.site n).hingeBegun = true ∧ (∀ j, j ≠ i.val → t.sash j = s.sash j) ∧ t.mem = s.mem ∧ t.lanes = s.lanes ∧
      (bad = 0 → (t.site n).pend = (s.site n).pend) ∧ (bad ≠ 0 → (t.site n).pend.any (·.code == Code.TF_RECV_TIMEOUT) = true)) ∧
  (∀ (s : State) (i : Fin 64), s.siteOf i.val = none ∨ s.hingeReady i.val = false → exec (.hinge i) s = .next s) ∧
  (∀ (s : State) (n : Fin 16),
    let x := s.site n.val
    (s.releaseDue n.val = false → exec (.hingeRelease n) s = .next s) ∧
    (s.releaseDue n.val = true → x.relPend = none → x.img.farPart = true →
      exec (.hingeRelease n) s = .next
        ((s.modSite n.val fun x => { x with arriveSent := true, hingeWait := 0 }).sendToken n.val x.img.parent 0 (if x.faultDue then 1 else 0))) ∧
    (s.releaseDue n.val = true → x.relPend = none → x.img.farPart = false →
      (x.faultDue = true → exec (.hingeRelease n) s = .next (s.releaseFault n.val)) ∧
        (x.faultDue = false → x.haltDue = true → exec (.hingeRelease n) s = .next (s.releaseHalt n.val)) ∧
        (x.faultDue = false → x.haltDue = false → exec (.hingeRelease n) s = .next (s.releaseContinue n.val 2))) ∧
    (∀ k, s.releaseDue n.val = true → x.relPend = some k →
      exec (.hingeRelease n) s = .next (if k = 3 then s.releaseHalt n.val else s.releaseContinue n.val 2)))) ∧
  ((∀ (s : State) (n : Fin 16) (left : Nat),
    let x := s.site n.val
    let t := s.releaseContinue n.val left
    x.cycle ≠ BitVec.allOnes 48 → x.transomDue x.cycle.toNat = false →
    (t.site n.val).cycle = x.cycle + 1 ∧ (t.site n.val).state = x.state ∧ (t.site n.val).hingeBegun = false ∧
      (∀ i ∈ s.siteSashes n.val, (t.sash i).st = (s.sash i).shadow ∧ (t.sash i).net = (s.sash i).net ∧
        (t.sash i).phase = .resume left ∧ (t.sash i).exch = 0) ∧
      (∀ i, i ∉ s.siteSashes n.val → t.sash i = s.sash i) ∧ t.mem = s.mem) ∧
  (∀ (s : State) (n : Fin 16),
    let x := s.site n.val
    let t := s.releaseHalt n.val
    x.cycle ≠ BitVec.allOnes 48 → x.transomDue x.cycle.toNat = false →
    (t.site n.val).cycle = x.cycle + 1 ∧
      (∀ i ∈ s.siteSashes n.val, (t.sash i).st = (s.sash i).shadow ∧ (t.sash i).net = (s.sash i).net ∧ (t.sash i).phase = .stopped) ∧
      (∀ i, i ∉ s.siteSashes n.val → t.sash i = s.sash i)) ∧
  (∀ (s : State) (n : Fin 16),
    let x := s.site n.val
    let t := s.releaseFault n.val
    (t.site n.val).state = .faulted ∧ (t.site n.val).cycle = x.cycle ∧ (∀ i, (t.sash i).st = (s.sash i).st ∧ (t.sash i).net = (s.sash i).net) ∧
      (t.site n.val).fault = (match worstFault x.pend with | some p => p.code | none => Code.TF_REMOTE_FAULT)))

/-- A commit that reaches the root before the hinge has begun is kept for the hinge, and a later one ends the transom with ST_TRANSOM_LATE
and nothing applied (R155); without a transom, or once committed, a commit changes nothing. A retired patch's word stands in the
instruction store, so that the sash fetches the same word as before, and its table entry is free; a pane and address without a patch stay
as they are (R153). The five tokens of R125 at a site of several units, of the present cycle: an arrival is noted for the part it comes
from, faulty or not; a release of a part that has passed its arrival continues, halts or faults it, the first two once the delta writes of
the hinge before are out (R229). Over the chain each token acts once. Over a link lane the first good copy acts, its SEQ checked, and the
copies that follow are ignored; of three bad copies the last is TF_LINK_POISON and stands for a faulty arrival or a fault release (R126).
A token of another cycle, or for a site that does not run or has one part, changes nothing. -/
def Obligations.TransomsCommitAndHingeTokensJoin : Prop :=
  ((∀ (s : State) (n : Fin 16) (x : Transom), (s.site n.val).transom = some x → x.committed = false →
    (x.hinge < (s.site n.val).cycle.toNat ∨ (x.hinge = (s.site n.val).cycle.toNat ∧ (s.site n.val).hingeBegun = true) →
      exec (.transomCommit n) s =
        .next ((s.modSite n.val fun y => { y with transom := none }).finish x.ticket Code.ST_TRANSOM_LATE [])) ∧
    ((s.site n.val).cycle.toNat < x.hinge ∨ (x.hinge = (s.site n.val).cycle.toNat ∧ (s.site n.val).hingeBegun = false) →
      exec (.transomCommit n) s = .next (s.modSite n.val fun y => { y with transom := some { x with committed := true } }))) ∧
  (∀ (s : State) (n : Fin 16), (∀ x, (s.site n.val).transom = some x → x.committed = true) → exec (.transomCommit n) s = .next s) ∧
  (∀ (s : State) (i : Fin 64) (p : Fin 256) (a : BitVec 9) (e : PatchEntry),
    let x := s.sash i.val
    tget none x.patches (patchSlot x.patches p.val a.toNat) = some e → e.pane = p.val → e.addr = a.toNat →
    ∃ t, exec (.patchRetire i p a) s = .next t ∧ tget 0 (t.sash i.val).istore (p.val * 512 + a.toNat) = e.word ∧
      tget none (t.sash i.val).patches (patchSlot x.patches p.val a.toNat) = none ∧
      (∀ j, j ≠ p.val * 512 + a.toNat → tget 0 (t.sash i.val).istore j = tget 0 x.istore j) ∧
      (t.sash i.val).net = x.net ∧ (t.sash i.val).st = x.st ∧ ∀ j, j ≠ i.val → t.sash j = s.sash j) ∧
  (∀ (s : State) (i : Fin 64) (p : Fin 256) (a : BitVec 9),
    let x := s.sash i.val
    (∀ e, tget none x.patches (patchSlot x.patches p.val a.toNat) = some e → e.pane ≠ p.val ∨ e.addr ≠ a.toNat) →
    exec (.patchRetire i p a) s = .next s)) ∧
  (∀ (s : State) (n : Fin 16) (via : TokenPath) (h : BitVec 16) (good : Bool),
    let released (s : State) (f : State → State) : State := if (s.site n.val).arriveSent && (s.site n.val).relPend.isNone then f s else s
    let waits (k : Nat) (go : State → State) (s : State) : State :=
      if s.hingeLate n.val then s.modSite n.val fun x => { x with relPend := some k } else go s
    let lost (s : State) (_ : Nat) : State := released s fun s => s.releaseFault n.val
    let rows : List (Nat × Instr × (State → Nat → State) × (State → Nat → State)) :=
      [(0, .hingeArrive n via h good, fun s p => s.childArrives n.val p false, fun s p => s.childArrives n.val p true),
        (1, .hingeArriveFault n via h good, fun s p => (s.noteRemote n.val).childArrives n.val p true,
          fun s p => s.childArrives n.val p true),
        (2, .hingeReleaseContinue n via h good, fun s _ => released s (waits 2 fun s => s.releaseContinue n.val 3), lost),
        (3, .hingeReleaseHalt n via h good, fun s _ => released s (waits 3 fun s => s.releaseHalt n.val), lost),
        (4, .hingeReleaseFault n via h good, fun s _ => released s fun s => (s.noteRemote n.val).releaseFault n.val, lost)]
    ∀ r ∈ rows,
      let act := r.2.2.1
      let bad := r.2.2.2
      let ours := (s.site n.val).state = .running ∧ (s.site n.val).img.nparts ≠ 0 ∧ h.toNat = (s.site n.val).cycle.toNat % 65536
      (¬ours → exec r.2.1 s = .next s) ∧
      (∀ p, via = .chain p → ours →
        exec r.2.1 s = .next (if good then act s p else bad (s.pendFault n.val (faultOf Code.TF_LINK_POISON 0xFF 0xFF 0 p)) p)) ∧
      (∀ l q, via = .lane l q → ours →
        let part := s.tokenPart n.val via
        let last (s : State) : State := s.modLane l.val fun y => { y with link := { y.link with lastToken := some (r.1, h), badCopies := 0 } }
        (good = true → exec r.2.1 s = .next
          (if (s.lane l.val).link.lastToken = some (r.1, h) then s.linkSeq l.val q else act (last (s.linkSeq l.val q)) part)) ∧
        (good = false → exec r.2.1 s = .next
          (if (s.lane l.val).link.lastToken = some (r.1, h) then s
           else if (s.lane l.val).link.badCopies < 2 then
             s.modLane l.val fun y => { y with link := { y.link with badCopies := y.link.badCopies + 1 } }
           else bad ((last (s.skipSeq l.val)).pendFault n.val (faultOf Code.TF_LINK_POISON l.val 0xFF 0 part)) part))))

/-- A bundle at its launch goes into its injection queue with the parity of the cycle (a hinge-launched one with that of the next cycle,
the model's reading of R106 and R107, log entry 69), its CRC8 good, or out on the lane as one BUNDLE frame (R105, R123); a full queue
stalls the sender with cause SLOT and an idle link lane with cause WAKE (R111). A tag that is not at its launch, or a sash of no site,
changes nothing. -/
def Obligations.BundleLaunchQueuesOrStalls : Prop :=
  ∀ (s : State) (i tag : Fin 64) (n : Nat),
    let x := s.sash i.val
    let e := tget 0 (s.stop i.val).active.tags tag.val
    let par := getBit (s.site n).cycle 0 != tgHl e
    let queue := (s.ring.flits.filter fun f => f.vc == 0 && f.place == .queue && f.stop == i.val && f.ring == tgRing e).length
    let onLane := ((s.lane i.val).link.tx.filter fun f => isBundleFrame f.1).length
    let asleep := (s.lane i.val).mode = .link ∧ (s.lane i.val).txIdle = true
    (s.siteOf i.val = none ∨ x.launchNow tag.val e = false → exec (.bundleLaunch i tag) s = .next s) ∧
    (s.siteOf i.val = some n → x.launchNow tag.val e = true →
      (tgLnk e = false → queue < 4 →
        ∃ t f, exec (.bundleLaunch i tag) s = .next t ∧ t.ring.flits = s.ring.flits ++ [f] ∧ f.vc = 0 ∧ f.head = true ∧ f.tail = true ∧
          f.ring = tgRing e ∧ f.stop = i.val ∧ f.place = .queue ∧ f.at_ = s.power.steps + 1 ∧
          f.side = flitSide 0 true true par (tgRoute e) f.data ∧ f.data = tget 0 x.outBuf tag.val ∧ f.linkBad = false ∧
          getBit (t.sash i.val).launched tag.val = true ∧ (∀ j, j ≠ i.val → t.sash j = s.sash j)) ∧
      (tgLnk e = false → 4 ≤ queue → exec (.bundleLaunch i tag) s = .next (s.beginStall n i.val .slot)) ∧
      (tgLnk e = true → ¬asleep → onLane < 4 →
        ∃ t h, exec (.bundleLaunch i tag) s = .next t ∧
          (t.lane i.val).link.tx = (s.lane i.val).link.tx ++ [(h, tget 0 x.outBuf tag.val)] ∧
          bits h.toNat 0 8 = 0xE1 ∧ bits h.toNat 8 12 = tgRoute e ∧ h.toNat.testBit 20 = par ∧
          bits h.toNat 24 8 = (s.lane i.val).link.txSeq.toNat ∧ getBit (t.sash i.val).launched tag.val = true) ∧
      (tgLnk e = true → ¬asleep → 4 ≤ onLane → exec (.bundleLaunch i tag) s = .next (s.beginStall n i.val .slot)) ∧
      (tgLnk e = true → asleep →
        exec (.bundleLaunch i tag) s = .next ((s.beginStall n i.val .wake).setLane i.val { s.lane i.val with exiting := true })))

/-- A link that has carried no flit in this step clock carries the next one (R97, R100): a VC0 flit first, and of these the one that is
already on the ring; then VC2, then VC1. A bundle goes on as received, the flipped bits with it, its LINK_STEP and PAR recorded at the
stop it leaves (R110, R115); a VC1 or VC2 flit crosses and holds its channel from head to tail, or fails its CRC and is sent again, and
the sixteenth failure in a row fails the link (R116). RING_RETRY is such a failure of the named worm's flit. A link that is not free, or
has nothing to carry, does nothing. That a flipped bit of a VC1 or VC2 flit always fails its CRC is the model's choice (log entry 77). A
bundle is acted on by its ROUTE at the stop it comes to (R104, R117, R123): forwarded (ACT 0), taken for the stop's own sash (ACT 1), sent
on the lane (ACT 2), or, with no valid entry, discarded with TF_RING_POISON pending on the link's owner. The stop it left records its
LINK_STEP and PAR (R110). A received BUNDLE frame enters at the lane's own stop in the same way, poisoned when its CRC is bad (R123,
R126); a frame of another kind, or on a lane that is not an aligned link lane, changes nothing. A worm leaves its source when it is its
turn, no drain on its path holds it, its ring buffer has room, its target's domain is ON (it waits for one that wakes, and one locked off
answers PW_DOMAIN_LOCKED: R475, R478) and its louvre holds 1 + LEN flits, which are then taken from the louvre (R100, R102, R113, R119); a
louvre that is not enabled does not regulate. Its flits, the head first, then queue at its source for the ring of its destination, each
with a good CRC8 (R99, R101, R102). -/
def Obligations.FlitsAndWormsTravelTheRing : Prop :=
  ((∀ (s : State) (r : Fin 4) (a : Fin 82) (errs : BitVec 544),
    (s.linkFree r.val a.val = false ∨ s.pickFlit r.val a.val = none → exec (.flitHop ⟨r, a⟩ errs) s = .next s) ∧
    (∀ f, s.linkFree r.val a.val = true → s.pickFlit r.val a.val = some f →
      let u := s.useLink r.val a.val
      (f.vc = 0 → exec (.flitHop ⟨r, a⟩ errs) s =
        .next ((u.slotCheck f).atStop
          { f with
            stop := nextStop f.ring f.stop
            place := .through
            data := f.data ^^^ BitVec.setWidth 512 errs
            side := f.side ^^^ BitVec.setWidth 32 (errs >>> 512)
            at_ := s.power.steps + s.hopOf f.site } ((u.slotCheck f).linkOwner f.ring f.stop))) ∧
      (f.vc ≠ 0 → errs = 0 → exec (.flitHop ⟨r, a⟩ errs) s = .next (u.crossWorm f)) ∧
      (f.vc ≠ 0 → errs ≠ 0 → exec (.flitHop ⟨r, a⟩ errs) s = .next (u.flitFails f))) ∧
    (∀ f g, s.pickFlit r.val a.val = some f →
      (g ∈ s.waiting r.val a.val 0 → f.vc = 0) ∧
      (g ∈ s.waiting r.val a.val 0 → g.place = .through → f.place = .through) ∧
      (s.waiting r.val a.val 0 = [] → s.pickWorm r.val a.val 2 = some g → f = g))) ∧
  (∀ (s : State) (id : Nat) (r : Fin 4) (a : Fin 82),
    (∀ f, s.linkFree r.val a.val = true → s.pickFlit r.val a.val = some f → f.vc ≠ 0 → f.worm = some id →
      exec (.ringRetry id r a) s = .next ((s.useLink r.val a.val).flitFails f)) ∧
    ((∀ f, s.pickFlit r.val a.val = some f → s.linkFree r.val a.val = false ∨ f.vc = 0 ∨ f.worm ≠ some id) →
      exec (.ringRetry id r a) s = .next s)) ∧
  (∀ (s : State) (f : Flit),
    (f.tries < 15 → s.flitFails f = s.setFlit { f with tries := f.tries + 1, at_ := s.power.steps + 2 * s.hopActual + 2 }) ∧
    (15 ≤ f.tries → (s.flitFails f).ring.failed = s.ring.failed ++ [(f.ring, f.stop)]))) ∧
  ((∀ (s : State) (f : Flit),
    tget none ((s.slotCheck f).stop f.stop).slots f.ring =
      some { linkStep := rtStep (s.route f.stop f.route), par := f.par, at_ := s.power.steps } ∧
    (∀ k r, (s.slotCheck f).route k r = s.route k r)) ∧
  (∀ (s : State) (f : Flit) (owner : Option Nat),
    let e := s.route f.stop f.route
    (rtValid e = false →
      (∀ g ∈ (s.atStop f owner).ring.flits, g.id ≠ f.id) ∧
        ∀ n, owner = some n → ((s.atStop f owner).site n).pend.any (·.code == Code.TF_RING_POISON) = true) ∧
    (rtValid e = true → rtAct e = 0 → s.atStop f owner = s.setFlit f) ∧
    (rtValid e = true → rtAct e ≠ 0 → s.atStop f owner = s.setFlit { f with place := .eject, at_ := f.at_ + 1 })) ∧
  (∀ (s : State) (i : Fin 64) (h : BitVec 64) (d : BitVec 512),
    let l := s.lane i.val
    (l.mode ≠ .link ∨ l.lock = false ∨ isBundleFrame h = false → exec (.bundleFrame i h d) s = .next s) ∧
    (l.mode = .link → l.lock = true → isBundleFrame h = true →
      let good := crc16 (bitsLow h.toNat 48 ++ bitsLow d.toNat 512) == bits h.toNat 48 16
      ∃ (t : State) (f : Flit), exec (.bundleFrame i h d) s = .next (t.atStop f (s.siteOf i.val)) ∧ t.ring.flits = s.ring.flits ++ [f] ∧
        f.stop = i.val ∧ f.vc = 0 ∧ f.place = .lane ∧ f.side = flitSide 0 true true (h.toNat.testBit 20) (bits h.toNat 8 12) d ∧ f.data = d ∧
        f.linkBad = !good ∧ ∀ k r, t.route k r = s.route k r))) ∧
  ((∀ (s : State) (id : Nat) (w : Worm), s.worm id = some w →
    (w.place ≠ .source ∨ s.held w = true ∨ s.turn w = false ∨ s.wormRoom w = false → exec (.wormInject id) s = .next s) ∧
    (w.place = .source → s.held w = false → s.turn w = true → s.wormRoom w = true →
      (∀ d v, s.wormDomain w = some d → s.access d w.dma = (.wait, v) → exec (.wormInject id) s = .next v) ∧
      (∀ d v, s.wormDomain w = some d → s.access d w.dma = (.locked, v) →
        exec (.wormInject id) s = .next (v.putWorm { w.answer 10 Code.PW_DOMAIN_LOCKED [] with place := .target })) ∧
      ∀ v, ((s.wormDomain w = none ∧ v = s) ∨ ∃ d, s.wormDomain w = some d ∧ s.access d w.dma = (.go, v)) →
        let x := v.stop w.src
        let need := (1 + w.len) * 65536
        (getBit (x.lvw w.src w.resp) 31 = false → exec (.wormInject id) s = .next (v.enterRing w)) ∧
        (getBit (x.lvw w.src w.resp) 31 = true → need ≤ x.content w.src w.resp →
          ∃ u : State, exec (.wormInject id) s = .next (u.enterRing w) ∧
            (u.stop w.src).content w.src w.resp + need = x.content w.src w.resp ∧
            (u.stop w.src).content w.src (!w.resp) = x.content w.src (!w.resp) ∧ ∀ k, k ≠ w.src → u.stop k = v.stop k) ∧
        (getBit (x.lvw w.src w.resp) 31 = true → x.content w.src w.resp < need → exec (.wormInject id) s = .next v)) ∧
    (w.src ≠ w.dest → ∃ fs : List Flit, (s.enterRing w).ring.flits = s.ring.flits ++ fs ∧ fs.map (·.data) = w.headData :: w.payload ∧
      ∀ f ∈ fs, f.stop = w.src ∧ f.ring = s.ring.wormRing w.src w.dest ∧ f.vc = (if w.resp then 2 else 1) ∧ f.worm = some w.id ∧
        f.place = .queue ∧ f.side = flitSide f.vc f.head f.tail false 0 f.data)) ∧
  (∀ (s : State) (id : Nat), s.worm id = none → exec (.wormInject id) s = .next s))

/-- A bundle that ejects fills the bank of its tag and parity, sets that bank's arrival flag and no other, and marks it poisoned when a
CRC has failed (R107, R117, R126); no net or state bit changes. One whose route leaves by the lane goes out as a BUNDLE frame once the
lane's queue has room (R104, R111). The bundle watchdog ends a RECV after W steps: its bank is unsatisfied and it gives the bit the bank
holds; a late sash faults its site with TF_RECV_TIMEOUT naming the sash, and a missing unit with TF_HINGE_TIMEOUT naming the unit (R112).
What is not due changes nothing. -/
def Obligations.BundlesArriveOrTheWatchdogEnds : Prop :=
  (∀ (s : State) (id : Nat),
    ((∀ f, s.flit id = some f → s.ejectDue f = false) → exec (.bundleEject id) s = .next s) ∧
    (∀ f, s.flit id = some f → s.ejectDue f = true →
      let e := s.route f.stop f.route
      let b := 2 * rtTag e + b2n f.par
      let x := s.sash f.stop
      (rtValid e = false → exec (.bundleEject id) s = .next (s.dropFlit id)) ∧
      (rtValid e = true → rtAct e = 2 →
        exec (.bundleEject id) s =
          .next ((s.dropFlit id).modLane f.stop fun l => l.sendBundle f.route f.par (f.bad || f.linkBad) f.data)) ∧
      (rtValid e = true → rtAct e ≠ 2 → ∃ t, exec (.bundleEject id) s = .next t ∧
        (let y := t.sash f.stop
         tget 0 y.inBuf b = f.data ∧ getBit y.inFlag b = true ∧ getBit y.inPoison b = (getBit x.inPoison b || f.bad) ∧
           getBit y.inLinkPoison b = (getBit x.inLinkPoison b || f.linkBad) ∧
           (∀ c, c ≠ b → tget 0 y.inBuf c = tget 0 x.inBuf c ∧ getBit y.inFlag c = getBit x.inFlag c ∧
             getBit y.inPoison c = getBit x.inPoison c ∧ getBit y.inLinkPoison c = getBit x.inLinkPoison c) ∧
           y.net = x.net ∧ y.st = x.st) ∧
        (∀ j, j ≠ f.stop → t.sash j = s.sash j) ∧ ∀ g ∈ t.ring.flits, g.id ≠ id))) ∧
  (∀ (s : State) (n : Fin 16) (i : Fin 64) (p : Fin 256),
    let x := s.sash i.val
    let w := x.fetch p.val x.k
    let b := bankOf (pTT w % 64) (s.site n.val).cycle.toNat
    (s.siteOf i.val ≠ some n.val ∨ tget 0 x.recvWait p.val < (s.site n.val).img.watchdog →
      exec (.bundleWatchdogExpiry n (.recv i p)) s = .next s) ∧
    (s.siteOf i.val = some n.val → (s.site n.val).img.watchdog ≤ tget 0 x.recvWait p.val → x.k < 512 →
      ∃ t, exec (.bundleWatchdogExpiry n (.recv i p)) s = .next t ∧ getBit (t.sash i.val).inUnsat b = true ∧
        getBit (tget 0 (t.sash i.val).net p.val) x.k = getBit (tget 0 x.inBuf b) (pB w % 512) ∧
        (t.sash i.val).recvWait = terase x.recvWait p.val)) ∧
  (∀ (s : State) (n : Fin 16) (i : Fin 64),
    let x := s.site n.val
    exec (.bundleWatchdogExpiry n (.late i)) s =
      .next (if s.siteOf i.val = some n.val ∧ x.state = .running ∧ x.img.watchdog ≤ x.hingeWait ∧ (s.sash i.val).phase ≠ .arrived then
          s.faultNow n.val (faultOf Code.TF_RECV_TIMEOUT i.val 0xFF (s.sash i.val).k i.val) else s)) ∧
  (∀ (s : State) (n : Fin 16) (part : Nat),
    let x := s.site n.val
    exec (.bundleWatchdogExpiry n (.crossUnit part)) s =
      .next (if x.state = .running ∧ x.img.watchdog ≤ x.hingeWait ∧ s.allArrived n.val = true ∧ x.img.children.contains part = true ∧
          x.childArr.any (·.1 == part) = false then
          (s.releaseDown n.val tkFault).faultNow n.val
            (faultOf Code.TF_HINGE_TIMEOUT 0xFF 0xFF 0 (tget (0 : BitVec 18) x.img.peers part).toNat) else s))

/-- A ring request whose turn it is, and that its target accepts, is performed there and answered (R101, R334, R335, R340): READ gives
RESP_DATA with the bytes, WRITE writes its enabled bytes and gives RESP_ACK, and an atomic gives RESP_DATA with the old value, an OR on
chip after its second half (R335); a read that meets poison answers DI_POISON_READ (R339). One that may not reach its target, is unmapped
or is a misaligned atomic gets RESP_ERR and touches nothing (R122, R335), and a sash of a RUNNING site that asked where it may not is
faulted with TF_SITE_BOUNDS. A request waits while the scratchpad's port is in use (R331), and behind the fill of its region, at most nine
fills to a channel (R347). An answer that has reached its destination in its turn is delivered to its requester, and its worm is gone
(R101); a control worm is taken. A drained stop swaps its banks with the held worms released; one that is not drained in time keeps its
active bank and waits, up to eight times, and tries again (R119, R121). A stop in another state of its drain stays as it is. -/
def Obligations.RingRequestsArePerformedAndAnswered : Prop :=
  (let row (id typ : Nat) : Instr :=
    match typ with
    | 0 => .ringRead id | 1 => .ringWrite id | 2 => .ringAdd32 id | 3 => .ringAdd64 id | 4 => .ringSwap id | _ => .ringOr id
  ∀ (s : State) (id : Nat) (w : Worm), s.worm id = some w → w.typ.toNat ≤ 5 →
    let a := w.addr.toNat
    let whole := isDdr a = true ∨ (w.half = none ∧ (List.range 8).any (fun i => s.mem.wordBad (a / 8 + i)) = true)
    (w.place ≠ .target ∨ s.turn w = false ∨ s.mem.held.any (fun h => h.worm == id) = true → exec (row id w.typ.toNat) s = .next s) ∧
    (∀ k, k ≤ 5 → k ≠ w.typ.toNat → exec (row id k) s = .next s) ∧
    (w.place = .target → s.turn w = true → s.mem.held.any (fun h => h.worm == id) = false →
      (s.mayReach w = true → s.unmapped w = false → w.badAtomic = false → s.padWaits w = false → s.waitsFill w = false →
        (w.typ = 0 →
          let r := s.memRead a (64 * max 1 w.len)
          exec (row id 0) s =
            .next ((r.2.2.putWorm (w.answer 8 (if r.2.1 then Code.DI_POISON_READ else Code.ST_OK)
              ((List.range (max 1 w.len)).map fun j => BitVec.ofNat 512 (fld r.1 (64 * j) 64)))).padTakes w)) ∧
        (w.typ = 1 → exec (row id 1) s = .next (((s.memWriteBE a w.enabled).putWorm (w.answer 9 Code.ST_OK [])).padTakes w)) ∧
        (2 ≤ w.typ.toNat → w.typ.toNat ≤ 4 ∨ whole →
          let op := atomicOf w.typ.toNat
          let r := s.memRead a op.size
          exec (row id w.typ.toNat) s =
            .next ((if r.2.1 then r.2.2.putWorm (w.answer 10 Code.DI_POISON_READ [])
              else (r.2.2.memWriteBE a (op.apply r.1 (w.payload.headD 0) w.be)).putWorm
                (w.answer 8 Code.ST_OK [BitVec.ofNat 512 (leNat r.1)])).padTakes w)) ∧
        (w.typ = 5 → ¬whole →
          let r := s.orHalf w.half.isSome a (w.payload.headD 0) w.be
          exec (row id 5) s =
            .next ((if r.2.1 then r.2.2.putWorm (w.answer 10 Code.DI_POISON_READ [])
              else match w.half with
                | none => r.2.2.putWorm { w with half := some r.1 }
                | some lo => r.2.2.putWorm (w.answer 8 Code.ST_OK [r.1 ++ lo])).padTakes w))) ∧
      (s.mayReach w = false →
        let t := s.putWorm (w.answer 10 Code.ST_ACCESS_REFUSED [])
        (∀ n, w.src < 64 → s.siteOf w.src = some n → (s.site n).state = .running →
          exec (row id w.typ.toNat) s = .next (t.faultNow n (faultOf Code.TF_SITE_BOUNDS w.src 0xFF 0 a))) ∧
        ((∀ n, w.src < 64 → s.siteOf w.src = some n → (s.site n).state ≠ .running) → exec (row id w.typ.toNat) s = .next t)) ∧
      (s.mayReach w = true → s.unmapped w = true →
        exec (row id w.typ.toNat) s = .next (s.putWorm (w.answer 10 Code.ST_ADDR_UNMAPPED []))) ∧
      (s.mayReach w = true → s.unmapped w = false → w.badAtomic = true →
        exec (row id w.typ.toNat) s = .next (s.putWorm (w.answer 10 Code.ST_BAD_PARAM []))) ∧
      (s.mayReach w = true → s.unmapped w = false → w.badAtomic = false → s.padWaits w = true →
        exec (row id w.typ.toNat) s = .next s) ∧
      (s.mayReach w = true → s.unmapped w = false → w.badAtomic = false → s.padWaits w = false → s.waitsFill w = true →
        s.fillsFull w = false →
        exec (row id w.typ.toNat) s = .next { s with mem := { s.mem with
          fills := if s.mem.fills.contains (a / 65536) then s.mem.fills else s.mem.fills ++ [a / 65536]
          held := s.mem.held ++ [{ region := a / 65536, worm := id }] } }) ∧
      (s.mayReach w = true → s.unmapped w = false → w.badAtomic = false → s.padWaits w = false → s.waitsFill w = true →
        s.fillsFull w = true → exec (row id w.typ.toNat) s = .next s)) ∧
    (∀ k, s.worm k = none → ∀ y, y ≤ 5 → exec (row k y) s = .next s)) ∧
  ((∀ (s : State) (id : Nat) (w : Worm), s.worm id = some w → w.place = .target → s.turn w = true →
    (w.typ = 8 → exec (.ringRespData id) s = .next (s.deliver w)) ∧ (w.typ = 9 → exec (.ringRespAck id) s = .next (s.deliver w)) ∧
    (w.typ = 10 → exec (.ringRespErr id) s = .next (s.deliver w)) ∧ (w.typ = 15 → exec (.ringCtrl id) s = .next (s.deliver w)) ∧
    (w.owner = .ctl → s.deliver w = s.dropWorm w.id) ∧
    (∀ i, w.owner = .spill i → w.typ = 8 ∨ w.typ = 9 → s.deliver w = s.dropWorm w.id)) ∧
  (∀ (s : State) (id : Nat),
    let idle (typ : Nat) : Prop := ∀ w, s.worm id = some w → w.place ≠ .target ∨ w.typ.toNat ≠ typ ∨ s.turn w = false
    (idle 8 → exec (.ringRespData id) s = .next s) ∧ (idle 9 → exec (.ringRespAck id) s = .next s) ∧
      (idle 10 → exec (.ringRespErr id) s = .next s) ∧ (idle 15 → exec (.ringCtrl id) s = .next s)) ∧
  (∀ (s : State) (k : Fin 82),
    let x := s.stop k.val
    (∀ a, x.drain = .draining a →
      (s.stopEmpty k.val = true → ∃ t, exec (.stopDrainDone k) s = .next t ∧ (t.stop k.val).active = x.shadow ∧
        (t.stop k.val).shadow = x.active ∧ (t.stop k.val).drain = .idle ∧ (t.stop k.val).spent1 = x.spent1 ∧
        (t.stop k.val).spent2 = x.spent2 ∧ ∀ j, j ≠ k.val → t.stop j = s.stop j) ∧
      (s.stopEmpty k.val = false → exec (.stopDrainDone k) s = .next s) ∧
      exec (.stopDrainTimeout k) s = .next (s.setStop k.val { x with drain := if a < 8 then .waiting a else .failed })) ∧
    ((∀ a, x.drain ≠ .draining a) → exec (.stopDrainDone k) s = .next s ∧ exec (.stopDrainTimeout k) s = .next s) ∧
    (∀ a, x.drain = .waiting a → exec (.stopReconfigRetry k) s = .next (s.setStop k.val { x with drain := .draining (a + 1) })) ∧
    ((∀ a, x.drain ≠ .waiting a) → exec (.stopReconfigRetry k) s = .next s)))

/-- A response goes to its channel: it holds the record of R426 and reads DONE, and bit n of HIF_IRQ_STATUS is set when FLAGS asks for it
(R424 to R426); a channel reset under way discards the response and the channel is IDLE (R427). No other channel, and nothing else of the
unit but the interrupt, changes. The doorbell (R424): on an IDLE or DONE channel the next SEQ accepts the command, LAST takes SEQ, the
command area is read, and STATE is BUSY, or DONE at once with a refusal when no row serves it; the last SEQ on a DONE channel only sets
the channel's interrupt bit again; any other SEQ answers ST_MBX_SEQ with the expected one and leaves LAST; a BUSY channel notes
DB_IGNORED; a CLOSED channel ignores it. A doorbell with RESET (R427) leaves an IDLE or DONE channel IDLE with its LAST, and a BUSY one
with a local command to its end. No doorbell is seen without a link. Each host command acts on a request of its own row (R440): without
one it changes nothing; a request refused before routing is answered with its refusal (R425, R444); here, a short payload is refused
ST_BAD_PARAM and a nonzero byte of no entry ST_RESERVED_NONZERO (R441), a locked domain answers PW_DOMAIN_LOCKED, and one that must wake
holds the command (R475, R478); a request for another unit is relayed (R430); START, START_AT and STOP for every unit are sent and also
act here, under one ticket (R397). -/
def Obligations.ResponsesAndDoorbells : Prop :=
  (∀ (s : State) (q : Req) (st : Status) (pay : List Byte) (tk : BitVec 32), q.src < 16 →
    let t := s.reply q st pay tk
    let c := s.chan q.src
    (c.resetPend = false →
      (t.chan q.src).state = .done ∧
        (t.chan q.src).resp = bytesAt (respBytes q.opcode q.tag st pay tk s.chain.ua) 0 256 ∧
        getBit t.host.irqStatus q.src = (q.flags.testBit 0 || getBit s.host.irqStatus q.src)) ∧
      (c.resetPend = true → (t.chan q.src).state = .idle ∧ (t.chan q.src).resp = c.resp ∧ t.host.irqStatus = s.host.irqStatus) ∧
      (t.chan q.src).last = c.last ∧ (∀ j, j ≠ q.src → t.chan j = s.chan j) ∧
      t = { s with host := { s.host with chans := t.host.chans, irqStatus := t.host.irqStatus, msix := t.host.msix } }) ∧
  ((∀ (s : State) (ch : Fin 16) (v : BitVec 32), s.host.linkUp = true → getBit v 31 = false →
    let c := s.chan ch.val
    let seq : BitVec 16 := BitVec.ofNat 16 v.toNat
    ∃ t : State, exec (.mbxDoorbell ch v) s = .next t ∧ (∀ j, j ≠ ch.val → t.chan j = s.chan j) ∧
      ((c.state = .idle ∨ c.state = .done) → seq = c.last + 1 →
        (t.chan ch.val).last = seq ∧ (t.chan ch.val).copy = c.area ∧
          ((parseReq ch.val s.chain.ua c.area).noRow = none → (t.chan ch.val).state = .busy) ∧
          ((parseReq ch.val s.chain.ua c.area).noRow ≠ none → (t.chan ch.val).state = .done)) ∧
      (c.state = .done → seq = c.last → t = { s with host := s.host.setIrq s.power.ps ch.val }) ∧
      ((c.state = .idle ∨ c.state = .done) → c.resetPend = false → seq ≠ c.last + 1 → ¬(c.state = .done ∧ seq = c.last) →
        (t.chan ch.val).state = .done ∧ (t.chan ch.val).last = c.last ∧
          fld (t.chan ch.val).resp 4 2 = Code.ST_MBX_SEQ.toNat ∧ fld (t.chan ch.val).resp 16 2 = (c.last + 1).toNat) ∧
      (c.state = .busy → t = s.setChan ch.val { c with dbIgnored := true }) ∧
      (c.state = .closed → t = s)) ∧
  (∀ (s : State) (ch : Fin 16), s.host.linkUp = true →
    let c := s.chan ch.val
    ∃ t : State, exec (.mbxChannelReset ch) s = .next t ∧
      ((c.state = .idle ∨ c.state = .done) → t = s.setChan ch.val { c with state := .idle }) ∧
      (c.state = .busy → c.relayed = false → t = s.setChan ch.val { c with resetPend := true }) ∧
      (c.state = .busy → c.relayed = true → (t.chan ch.val).state = .idle ∧ (t.chan ch.val).last = c.last ∧ (t.chan ch.val).relayed = false ∧
        t.host.tickets = s.host.tickets) ∧
      (c.state = .closed → t = s) ∧
      ∀ v : BitVec 32, getBit v 31 = true → exec (.mbxDoorbell ch v) s = .next t) ∧
  (∀ (s : State) (ch : Fin 16) (v : BitVec 32), s.host.linkUp = false →
    exec (.mbxDoorbell ch v) s = .next s ∧ exec (.mbxChannelReset ch) s = .next s)) ∧
  ((
    let rows1 : List ((Nat → Instr) × CmdSpec) :=
      [(.identity, { op := 0x0101, need := 0 }), (.bootLoad, { op := 0x0102, need := 12, cov := [(0, 12)] }),
       (.ticket, { op := 0x0103, need := 4, cov := [(0, 4)] }), (.cancel, { op := 0x0104, need := 4, cov := [(0, 4)] }),
       (.descriptor, { op := 0x0105, need := 0 }), (.inventory, { op := 0x0106, need := 3, cov := [(0, 3)] }),
       (.keyslotInstall, { op := 0x0107, form := some (1, 0), need := 101, cov := [(0, 2), (4, 97)] }),
       (.keyslotRevoke, { op := 0x0107, form := some (1, 1), need := 2, cov := [(0, 2)] })]
    let rows2 : List ((Nat → Instr) × CmdSpec) :=
      [(.keyslotRead, { op := 0x0107, form := some (1, 2), need := 2, cov := [(0, 2)] }),
       (.keyslotSignedOnly, { op := 0x0107, form := some (1, 3), need := 2, cov := [(0, 2)] }),
       (.louvre, { op := 0x0108, need := 8, cov := [(0, 2), (4, 4)] }), (.load, { op := 0x0201, need := 0x18, cov := [(0, 0x20)] }),
       (.unload, { op := 0x0202, need := 1, cov := [(0, 1)] }), (.rewind, { op := 0x0203, need := 1, cov := [(0, 1)] }),
       (.transom, { op := 0x0204, need := 0x18, cov := [(0, 1), (3, 21), (0x18, 8)] }),
       (.siteStatus, { op := 0x0205, need := 1, cov := [(0, 1)] })]
    let rows3 : List ((Nat → Instr) × CmdSpec) :=
      [(.siteReset, { op := 0x0206, need := 1, cov := [(0, 1)] }), (.arm, { op := 0x0301, need := 2, cov := [(0, 2)] }),
       (.disarm, { op := 0x0302, need := 1, cov := [(0, 1)] }),
       (.start, { op := 0x0303, need := 16, cov := [(0, 2), (8, 8)], bcast := true }),
       (.startAt, { op := 0x0304, need := 24, cov := [(0, 2), (8, 16)], bcast := true }),
       (.stop, { op := 0x0305, need := 16, cov := [(0, 2), (8, 8)], bcast := true }),
       (.policy, { op := 0x0306, need := 2, cov := [(0, 2)] }), (.watchdog, { op := 0x0307, need := 8, cov := [(0, 1), (4, 4)] })]
    let rows4 : List ((Nat → Instr) × CmdSpec) :=
      [(.raStatus, { op := 0x0308, need := 1, cov := [(0, 1)] }),
       (.calibrate, { op := 0x0401, need := 14, cov := [(0, 14)], doms := lanesDomains }),
       (.mask, { op := 0x0402, need := 48, cov := [(0, 4), (16, 192)], doms := laneDomain }),
       (.maskSwap, { op := 0x0403, need := 16, cov := [(0, 16)] }),
       (.pinfield, { op := 0x0404, need := 8, cov := [(0, 3), (4, 4)], doms := laneDomain }),
       (.pinStatus, { op := 0x0405, need := 1, cov := [(0, 1)] }), (.failClear, { op := 0x0501, need := 2, cov := [(0, 2)] }),
       (.failSummary, { op := 0x0502, need := 16, cov := [(0, 3), (8, 8)], doms := hdrDomain 8 })]
    let rows5 : List ((Nat → Instr) × CmdSpec) :=
      [(.failReadout, { op := 0x0503, need := 0x20, cov := [(0, 0x20)], doms := hdrDomain 0 }),
       (.repair, { op := 0x0504, need := 0x18, cov := [(0, 11), (12, 12)], doms := hdrDomain 0 }),
       (.filter, { op := 0x0505, need := 8, cov := [(0, 5), (8, 232)] }),
       (.filterSwap, { op := 0x0506, need := 16, cov := [(0, 1), (8, 8)] }),
       (.trigfield, { op := 0x0601, need := 24, cov := [(0, 2), (8, 16)], doms := laneDomain }),
       (.trigforce, { op := 0x0602, need := 1, cov := [(0, 1)], doms := laneDomain }),
       (.rearm, { op := 0x0603, need := 1, cov := [(0, 1)], doms := laneDomain }),
       (.trigStatus, { op := 0x0604, need := 1, cov := [(0, 1)] })]
    let rows6 : List ((Nat → Instr) × CmdSpec) :=
      [(.trigReadout, { op := 0x0605, need := 0x18, cov := [(0, 1), (8, 16)], doms := laneDomain }),
       (.jobLoad, { op := 0x0701, need := 16, cov := [(0, 1), (3, 13)], doms := casDoms }),
       (.jobUnload, { op := 0x0702, need := 16, cov := [(0, 1), (8, 8)] }),
       (.submit, { op := 0x0703, need := 80, cov := [(0, 1), (8, 72)] }),
       (.jobStop, { op := 0x0704, need := 2, cov := [(0, 2)], doms := taskDoms 0 }),
       (.signal, { op := 0x0705, need := 8, cov := [(0, 2), (4, 4)], doms := taskDoms 0 }),
       (.item, { op := 0x0706, need := 40, cov := [(0, 2), (8, 32)], doms := taskDoms 0 }),
       (.evmapMap, { op := 0x0707, form := some (1, 0), need := 5, cov := [(0, 5)] })]
    let rows7 : List ((Nat → Instr) × CmdSpec) :=
      [(.evmapUnmap, { op := 0x0707, form := some (1, 1), need := 5, cov := [(0, 5)] }),
       (.ccw, { op := 0x0708, need := 8, cov := [(0, 1), (4, 4)], doms := casDoms }),
       (.contextGeometry, { op := 0x0709, form := some (2, 1), need := 8, cov := [(0, 3), (4, 4)], doms := casDoms }),
       (.contextScale, { op := 0x0709, form := some (2, 2), need := 32, cov := [(0, 3), (8, 24)], doms := casDoms }),
       (.contextThreshold, { op := 0x0709, form := some (2, 3), need := 32, cov := [(0, 3), (8, 24)], doms := casDoms }),
       (.contextBitTable, { op := 0x0709, form := some (2, 4), need := 8, cov := [(0, 3), (4, 3), (8, 232)], doms := casDoms }),
       (.linkCfg, { op := 0x070A, need := 16, cov := [(0, 11), (12, 4)] }),
       (.streamOpen, { op := 0x070B, need := 37, cov := [(0, 37)], doms := casDoms })]
    let rows8 : List ((Nat → Instr) × CmdSpec) :=
      [(.streamClose, { op := 0x070C, need := 1, cov := [(0, 1)], doms := streamDoms }),
       (.firCoefficients, { op := 0x070D, form := some (1, 1), need := 8, cov := [(0, 240)], doms := streamDoms }),
       (.firBankSelect, { op := 0x070D, form := some (1, 2), need := 3, cov := [(0, 3)], doms := streamDoms }),
       (.rampUpTable, { op := 0x070D, form := some (1, 3), need := 8, cov := [(0, 240)], doms := streamDoms }),
       (.rampDownTable, { op := 0x070D, form := some (1, 4), need := 8, cov := [(0, 240)], doms := streamDoms }),
       (.maskMonitorCfg, { op := 0x070D, form := some (1, 5), need := 8, cov := [(0, 240)], doms := streamDoms }),
       (.hypothesisCfg, { op := 0x070D, form := some (1, 6), need := 4, cov := [(0, 11), (12, 4)], doms := streamDoms }),
       (.capturePolicy, { op := 0x070D, form := some (1, 7), need := 8, cov := [(0, 8)], doms := streamDoms })]
    let rows9 : List ((Nat → Instr) × CmdSpec) :=
      [(.gain, { op := 0x070E, need := 16, cov := [(0, 3), (4, 12)] }),
       (.train, { op := 0x0801, need := 4, cov := [(0, 1), (2, 2)], doms := chanDoms }),
       (.memcfg, { op := 0x0802, need := 1, cov := [(0, 1)] }), (.sweep, { op := 0x0803, need := 1, cov := [(0, 1)], doms := chanDoms }),
       (.invalidate, { op := 0x0804, need := 0x18, cov := [(0, 2), (8, 16)], doms := memDoms }),
       (.remap, { op := 0x0805, form := some (2, 0), need := 0x10, cov := [(0, 3), (4, 1), (8, 8)], doms := memDoms }),
       (.remapFree, { op := 0x0805, form := some (2, 1), need := 5, cov := [(0, 3), (4, 1), (8, 8)], doms := memDoms }),
       (.mempolicy, { op := 0x0806, need := 8, cov := [(0, 2), (4, 4)] })]
    let rows10 : List ((Nat → Instr) × CmdSpec) :=
      [(.memstatus, { op := 0x0807, need := 3, cov := [(0, 3)] }), (.copy, { op := 0x0808, need := 0x15, cov := [(0, 0x15)] }),
       (.laneMode, { op := 0x0901, need := 8, cov := [(0, 2), (4, 4)], doms := laneDoms }),
       (.laneCtl, { op := 0x0902, need := 8, cov := [(0, 1), (4, 4)], doms := laneDoms }),
       (.deskew, { op := 0x0903, need := 0x2C, cov := [(0, 1), (2, 4), (8, 36)] }),
       (.refspread, { op := 0x0904, need := 2, cov := [(0, 2)] }), (.margin, { op := 0x0905, need := 6, cov := [(0, 1), (2, 1), (4, 2)] }),
       (.laneIdleEnter, { op := 0x0906, form := some (1, 0), need := 2, cov := [(0, 2)], doms := laneDoms })]
    let rows11 : List ((Nat → Instr) × CmdSpec) :=
      [(.laneIdleExit, { op := 0x0906, form := some (1, 1), need := 2, cov := [(0, 2)], doms := laneDoms }),
       (.bitslip, { op := 0x0907, need := 2, cov := [(0, 2)], doms := laneDoms }),
       (.phyStatus, { op := 0x0908, need := 2, cov := [(0, 2)] }), (.enumerate, { op := 0x0A01, need := 2, cov := [(0, 2)] }),
       (.stickyClear, { op := 0x0A02, form := some (0, 0), need := 1, cov := [(0, 1)] }),
       (.stickySet, { op := 0x0A02, form := some (0, 1), need := 1, cov := [(0, 1)] }),
       (.gatewayOwnAddress, { op := 0x0A03, form := some (0, 0), need := 10, cov := [(0, 1), (4, 6)] }),
       (.gatewayAddPeers, { op := 0x0A03, form := some (0, 1), need := 3, cov := [(0, 1), (2, 1), (8, 232)] })]
    let rows12 : List ((Nat → Instr) × CmdSpec) :=
      [(.gatewayClear, { op := 0x0A03, form := some (0, 2), need := 1, cov := [(0, 1)] }),
       (.tctl, { op := 0x0A04, need := 4, cov := [(0, 4)] }), (.timeSet, { op := 0x0A05, need := 16, cov := [(0, 16)] }),
       (.timeUnlock, { op := 0x0A06, need := 0 }), (.rate, { op := 0x0A07, need := 4, cov := [(0, 4)] }),
       (.timed, { op := 0x0A08, need := 24, cov := [(0, 24)] }), (.timedClear, { op := 0x0A09, need := 1, cov := [(0, 1)] }),
       (.ptp, { op := 0x0A0A, need := 12, cov := [(0, 1), (4, 8)] })]
    let rows13 : List ((Nat → Instr) × CmdSpec) :=
      [(.chainStatus, { op := 0x0A0B, need := 1, cov := [(0, 1)] }), (.enumMap, { op := 0x0A0C, need := 0 }),
       (.domainSet, { op := 0x0B01, need := 2, cov := [(0, 2)] }),
       (.domainUnlock, { op := 0x0B02, form := some (1, 0), need := 2, cov := [(0, 2)] }),
       (.domainLockOff, { op := 0x0B02, form := some (1, 1), need := 2, cov := [(0, 2)] }),
       (.domainHoldOn, { op := 0x0B02, form := some (1, 2), need := 2, cov := [(0, 2)] }),
       (.domainHoldRelease, { op := 0x0B02, form := some (1, 3), need := 2, cov := [(0, 2)] }),
       (.powerPolicy, { op := 0x0B03, need := 8, cov := [(0, 3), (4, 4)] })]
    let rows14 : List ((Nat → Instr) × CmdSpec) :=
      [(.powerStatus, { op := 0x0B04, need := 1, cov := [(0, 1)] }),
       (.thermalRead, { op := 0x0B05, form := some (0, 0), need := 1, cov := [(0, 1), (2, 2)] }),
       (.thermalSetAlarm, { op := 0x0B05, form := some (0, 1), need := 4, cov := [(0, 1), (2, 2)] }),
       (.sashStatus, { op := 0x0C01, need := 2, cov := [(0, 2)], doms := laneDomain }),
       (.wcellStatus, { op := 0x0C02, need := 1, cov := [(0, 1)], doms := laneDomain }),
       (.keyholeSel, { op := 0x0C03, need := 8, cov := [(0, 1), (4, 4)] }),
       (.keyholeLaneRelease, { op := 0x0C04, form := some (1, 0), need := 2, cov := [(0, 2), (4, 4)] }),
       (.keyholeLaneTake, { op := 0x0C04, form := some (1, 1), need := 8, cov := [(0, 2), (4, 4)], doms := keyholeDomains })]
    let rows15 : List ((Nat → Instr) × CmdSpec) :=
      [(.peek, { op := 0x0C05, need := 3, cov := [(0, 3)], doms := laneDomain })]
    ∀ e ∈ (rows1 ++ rows2 ++ rows3 ++ rows4 ++ rows5 ++ rows6 ++ rows7 ++ rows8 ++ rows9 ++ rows10 ++ rows11 ++ rows12 ++ rows13 ++ rows14 ++ rows15 : List ((Nat → Instr) × CmdSpec)), ∀ (s : State) (src : Nat),
      let c := e.1 src
      let sp := e.2
      (s.request src = none → exec c s = .next s) ∧
      ∀ q, s.request src = some q →
        (sp.fits q = false → exec c s = .next s) ∧
        (sp.fits q = true →
          (∀ st, q.early s sp.bcast = some st → exec c s = .next (s.reply q st [] 0)) ∧
          (q.early s sp.bcast = none →
            ((q.here s.chain.ua = true ∨ q.everywhere = true) →
              (q.pay.length < sp.need → exec c s = .next (s.reply q Code.ST_BAD_PARAM [] 0)) ∧
              (sp.need ≤ q.pay.length → q.clean sp.cov = false → exec c s = .next (s.reply q Code.ST_RESERVED_NONZERO [] 0))) ∧
            (q.here s.chain.ua = true → sp.need ≤ q.pay.length → q.clean sp.cov = true → ∀ u,
              (s.accessAll (sp.doms s q) = (.locked, u) → exec c s = .next (u.reply q Code.PW_DOMAIN_LOCKED [] 0)) ∧
              (s.accessAll (sp.doms s q) = (.wait, u) → exec c s =
                .next (u.setWaits q.src (((sp.doms s q).find? fun d => (u.dom d).state != .on).getD 0)))) ∧
            (q.here s.chain.ua = false → q.everywhere = false → exec c s = .next (s.relay q))))) ∧
  (let rows : List ((Nat → Instr) × CmdSpec × (State → Req → Reply)) :=
      [(.start, { op := 0x0303, need := 16, cov := [(0, 2), (8, 8)], bcast := true }, startBody), (.startAt, { op := 0x0304, need := 24, cov := [(0, 2), (8, 16)], bcast := true }, startAtBody), (.stop, { op := 0x0305, need := 16, cov := [(0, 2), (8, 8)], bcast := true }, stopBody)]
    ∀ e ∈ rows, ∀ (s : State) (src : Nat) (q : Req), s.request src = some q →
      let sp := e.2.1
      sp.fits q = true → q.early s true = none → q.here s.chain.ua = false → q.everywhere = true → sp.need ≤ q.pay.length →
        q.clean sp.cov = true →
        (s.accepts (.bcast q.pay) = false → exec (e.1 src) s = .next (s.reply q Code.ST_BUSY [] 0)) ∧
        (s.accepts (.bcast q.pay) = true →
          let tk := s.host.nextTicket
          let n := (s.issue q (.bcast q.pay) false 0).nextSeq uaBroadcast
          let u : State := { n.2 with chain := { n.2.chain with bcasts := n.2.chain.bcasts ++ [(n.1, tk)] } }
          let v := u.sendMbx uaBroadcast n.1 false (relayBytes (s.chan q.src).copy q.src)
          exec (e.1 src) s = .next ((e.2.2 v { q with src := noSource }).s.reply q Code.ST_ACCEPTED [] tk))))

/-- The interrupt registers (R417): a write of HIF_IRQ_STATUS clears the bits written 1; a write of HIF_IRQ_MASK sets bits 0 to 19, and
each set bit that it unmasks sends its message, one on vector 0 only outside HOLDOFF, which otherwise holds it (R432). HIF_WIN_BASE takes
WIN (R418), HIF_EVQ_CONS takes IDX (R432). A LOG2SIZE out of 6 to 16 leaves EN at 0, and enabling starts the ring at entry 0 with PHASE 1;
LOG2SIZE is held while EN is 1 (R432). BAR0 (R416): a 4-byte access at a multiple of 4 and an 8-byte access at a multiple of 8 are served,
and any other is discarded and sets ERR; a 4-byte write reaches the register at its offset, an 8-byte write the two, the lower first.
EVENT_POST writes the oldest held event when the ring has room and holds the others in their order (R434); an ended ticket that has been
reported is dropped by its expiry, and no other ticket is (R429). -/
def Obligations.HostRegistersAccessesAndEvents : Prop :=
  (∀ (s : State) (v : BitVec 32), s.host.linkUp = true →
    exec (.hifIrqStatusClear v) s = .next { s with host := { s.host with irqStatus := s.host.irqStatus &&& ~~~v } } ∧
    (∃ t : State, exec (.hifIrqMaskWrite v) s = .next t ∧ t.host.irqMask = v &&& 0x000FFFFF ∧ t.host.irqStatus = s.host.irqStatus ∧
      (let sent := (List.range 20).filter fun i => getBit s.host.irqStatus i && getBit s.host.irqMask i && !getBit v i
       ∃ l, t.host.msix = l ++ s.host.msix ∧ (l.filter (· != 0)).length = (sent.filter fun i => irqVector i != 0).length ∧
         ((sent.any fun i => irqVector i == 0) = false → 0 ∉ l ∧ t.host.msiHeld = s.host.msiHeld) ∧
         ((sent.any fun i => irqVector i == 0) = true → s.host.heldOff s.power.ps = true → 0 ∉ l ∧ t.host.msiHeld = true) ∧
         ((sent.any fun i => irqVector i == 0) = true → s.host.heldOff s.power.ps = false → 0 ∈ l)) ∧
      t = { s with host := { s.host with
        irqMask := t.host.irqMask, msix := t.host.msix, msiAt := t.host.msiAt, msiHeld := t.host.msiHeld } }) ∧
    exec (.hifWinBaseWrite v) s = .next { s with host := { s.host with winBase := v &&& 0xF } } ∧
    exec (.hifEvqConsWrite v) s = .next { s with host := { s.host with evqCons := v &&& 0xFFFF } } ∧
    (∃ t : State, exec (.hifEvqCtlWrite v) s = .next t ∧ t.host.evqCtl =
        (let size := if s.host.evqOn then bits s.host.evqCtl.toNat 16 5 else bits v.toNat 16 5
         BitVec.ofNat 32 ((if getBit v 31 = true ∧ 6 ≤ size ∧ size ≤ 16 then 2 ^ 31 else 0) + size * 2 ^ 16 + v.toNat % 256))) ∧
    (getBit v 31 = true → 6 ≤ bits v.toNat 16 5 → bits v.toNat 16 5 ≤ 16 → s.host.evqOn = false → s.host.fwEvent = false →
      s.host.boardEvent = false → ∃ t : State, exec (.hifEvqCtlWrite v) s = .next t ∧ t.host.evqProd = 0x00010000 ∧ t.host.evqOn = true)) ∧
  ((∀ (s : State) (off : BitVec 16) (size : Nat) (w : Bool) (v : BitVec 64), s.host.linkUp = true →
    let ok := (size = 4 ∧ off.toNat % 4 = 0) ∨ (size = 8 ∧ off.toNat % 8 = 0)
    let err : State := { s with host := s.host.setIrq s.power.ps 18 }
    (¬ok → exec (.bar0BadAccess off size w) s = .next err ∧ exec (.registerWrite off size v) s = .next err) ∧
      (ok → exec (.bar0BadAccess off size w) s = .next s)) ∧
  (∀ (s : State) (off : BitVec 16) (v : BitVec 64), s.host.linkUp = true →
    (off.toNat % 4 = 0 → exec (.registerWrite off 4 v) s = .next (s.write32 off.toNat (v.toNat % 2 ^ 32))) ∧
      (off.toNat % 8 = 0 → exec (.registerWrite off 8 v) s =
        .next ((s.write32 off.toNat (v.toNat % 2 ^ 32)).write32 (off.toNat + 4) (v.toNat / 2 ^ 32)))) ∧
  (∀ (s : State) (off : BitVec 16) (size : Nat) (w : Bool) (v : BitVec 64), s.host.linkUp = false →
    exec (.bar0BadAccess off size w) s = .next s ∧ exec (.registerWrite off size v) s = .next s) ∧
  (∀ (s : State) (ch o v : Nat), ch < 16 → o < 0x100 → o % 4 = 0 → v < 2 ^ 32 →
    let t := s.write32 (0x1000 + 0x400 * ch + o) v
    (t.chan ch).cmd = tfill 0 (s.chan ch).cmd o (leBytes v 4) ∧ (∀ j, j ≠ ch → t.chan j = s.chan j) ∧
      t.read32 (0x1000 + 0x400 * ch + o) = BitVec.ofNat 32 v)) ∧
  ((∀ (s : State) (e : Event) (rest : List Event), s.host.held = e :: rest → s.host.evqRoom = true →
    ∃ t : State, exec .eventPost s = .next t ∧ t.host.held = rest ∧
      t.host.written = (bits s.host.evqProd.toNat 0 16, e) :: s.host.written ∧ getBit t.host.irqStatus 16 = true) ∧
  (∀ s : State, s.host.held = [] ∨ s.host.evqRoom = false → exec .eventPost s = .next s) ∧
  (∀ (s : State) (tk : BitVec 32) (t : Ticket), s.ticket tk = some t →
    exec (.ticketExpiry tk) s = .next (if t.final.isSome ∧ t.retained = true then s.setTicket tk none else s)) ∧
  (∀ (s : State) (tk : BitVec 32), s.ticket tk = none → exec (.ticketExpiry tk) s = .next s))

/-- The commit words (R158, R159): COMMIT brings the shadow of an L group, or of an S or H group whose site does not run, into use at
once, waits for the boundary in a running H group, and changes nothing while an S block runs; DISCARD reloads the shadow from the values
in use; while a commit is pending both are refused and change nothing; a register write of a field goes to the shadow, and a read gives
it. A group that does not exist is left alone. The groups and what a commit makes of one are the model's frame for R158 (log entry 67).
BAR2 (R418 to R422): a request whose address no block owns reads as zeros at once, or is dropped, and is reported with ST_ACCESS_REFUSED;
one that fails its parity in the stop's buffers likewise, with DI_HIF_PARITY and ERR (R422); otherwise a read waits for the writes before
it and a write is issued, but not a 65th; a request without an answer for 200 µs ends, a read with zeros, and sets ERR. -/
def Obligations.CommitsAndWindowAccesses : Prop :=
  ((∀ (s : State) (n : Nat) (g : CommitGroup), tget none s.groups n = some g →
    let running := (s.site g.site).state = .running
    let to_ (c : Instr) (g : CommitGroup) : Prop :=
      ∃ t : State, exec c s = .next t ∧ tget none t.groups n = some g ∧ (∀ j, j ≠ n → tget none t.groups j = tget none s.groups j) ∧
        t = { s with groups := t.groups }
    (g.pend = false → (¬running ∨ g.cls = .l) → to_ (.commitGroupCommit n) { g with inUse := g.shadow, pend := false, gen := g.gen + 1 }) ∧
    (g.pend = false → running → g.cls = .h → to_ (.commitGroupCommit n) { g with pend := true }) ∧
    (g.pend = false → running → g.cls = .s → to_ (.commitGroupCommit n) g) ∧
    (g.pend = false → to_ (.commitGroupDiscard n) { g with shadow := g.inUse }) ∧
    (g.pend = true → to_ (.commitGroupCommit n) g ∧ to_ (.commitGroupDiscard n) g)) ∧
  (∀ (s : State) (n : Nat), tget none s.groups n = none →
    exec (.commitGroupCommit n) s = .next s ∧ exec (.commitGroupDiscard n) s = .next s) ∧
  (∀ (s : State) (n : Nat) (g : CommitGroup) (off : BitVec 16) (v : BitVec 64), tget none s.groups n = some g →
    s.groupAt off.toNat = some (n, g) → s.host.linkUp = true → 0x5018 < off.toNat → off.toNat % 4 = 0 → off.toNat ≠ g.word →
    (g.pend = false → ∃ t, exec (.registerWrite off 4 v) s = .next t ∧
      tget none t.groups n = some { g with shadow := tset 0 g.shadow off.toNat (BitVec.ofNat 32 v.toNat) }) ∧
    (g.pend = true → ∃ t, exec (.registerWrite off 4 v) s = .next t ∧ tget none t.groups n = some g) ∧
    s.read32 off.toNat = tget 0 g.shadow off.toNat)) ∧
  ((∀ (s : State) (off : BitVec 36) (len : Nat), s.host.linkUp = true → len ≠ 0 →
    let a := s.bar2Addr off.toNat
    let d : Bar2Done := { id := s.host.nextBar2, data := List.replicate len 0, ep := false }
    let zeros : State := { s with host := { s.host with nextBar2 := s.host.nextBar2 + 1, bar2Done := d :: s.host.bar2Done } }
    let clean : State := { zeros with host := { zeros.host with bufBad := false } }
    (s.host.bufBad = false → hasOwner a = true → hasOwner (a + len - 1) = true →
      ∃ r : Bar2Req, r.id = s.host.nextBar2 ∧ r.write = false ∧ r.addr = a ∧ r.len = len ∧ r.held = true ∧
        exec (.bar2Read off len) s = .next (s.bar2New r).bar2Release) ∧
      (s.host.bufBad = false → (hasOwner a = false ∨ hasOwner (a + len - 1) = false) →
        exec (.bar2Read off len) s = .next (zeros.postAddr Code.ST_ACCESS_REFUSED a)) ∧
      (s.host.bufBad = true → exec (.bar2Read off len) s = .next (clean.postAddr Code.DI_HIF_PARITY a).hifErr)) ∧
  (∀ (s : State) (off : BitVec 36) (d : List (BitVec 8)), s.host.linkUp = true → d ≠ [] →
    (s.host.bar2.filter (·.write)).length < 64 →
    let a := s.bar2Addr off.toNat
    let clean : State := { s with host := { s.host with bufBad := false } }
    (s.host.bufBad = false → hasOwner a = true → hasOwner (a + d.length - 1) = true →
      ∃ r : Bar2Req, r.id = s.host.nextBar2 ∧ r.write = true ∧ r.addr = a ∧ r.data = d ∧ r.held = false ∧
        exec (.bar2Write off d) s = .next ((s.bar2New r).bar2Issue r)) ∧
      (s.host.bufBad = false → (hasOwner a = false ∨ hasOwner (a + d.length - 1) = false) →
        exec (.bar2Write off d) s = .next (s.postAddr Code.ST_ACCESS_REFUSED a)) ∧
      (s.host.bufBad = true → exec (.bar2Write off d) s = .next (clean.postAddr Code.DI_HIF_PARITY a).hifErr)) ∧
  (∀ (s : State) (off : BitVec 36) (len : Nat) (d : List (BitVec 8)),
    (s.host.linkUp = false ∨ len = 0 → exec (.bar2Read off len) s = .next s) ∧
      (s.host.linkUp = false ∨ d = [] ∨ 64 ≤ (s.host.bar2.filter (·.write)).length → exec (.bar2Write off d) s = .next s)) ∧
  (∀ (s : State) (n : Nat) (r : Bar2Req), s.host.bar2.find? (·.id == n) = some r →
    ∃ t : State, exec (.bar2Timeout n) s = .next t ∧ getBit t.host.irqStatus 18 = true ∧
      t = ((s.bar2Finish { r with data := List.replicate r.len 0, ep := false }).postAddr Code.ST_HIF_TIMEOUT r.addr).hifErr) ∧
  (∀ (s : State) (n : Nat), s.host.bar2.find? (·.id == n) = none → exec (.bar2Timeout n) s = .next s))

/-- The system commands that report or set one thing (R448): IDENTITY, TICKET, DESCRIPTOR and INVENTORY answer their records and change
nothing but, for an ended ticket, its retention (R429); CANCEL marks the work, or leaves it to its own end (R447); an unknown ticket, a
MEMID or COUNT out of range, and a stop, VC or word out of range are refused with nothing changed; LOUVRE writes both banks of its stop
and posts a change of policy when the word differs (R114); BOOT_LOAD takes ticket 1 and BOOT_STATE goes to AUTH (R437), or a LENGTH above
3 MiB and a full ticket table are refused. -/
def Obligations.SystemCommandsAnswer : Prop :=
  (∀ (s : State) (src : Nat) (q : Req), s.serves src { op := 0x0101, need := 0 } = some q →
    exec (.identity src) s =
      .next (s.reply q Code.ST_OK
        (leBytes s.id.sysId 4 ++ leBytes s.id.fwVersion.toNat 4 ++ leBytes s.id.serial.toNat 8 ++ leBytes s.chain.ua.toNat 4 ++
          leBytes s.host.bootState.toNat 1) 0)) ∧
  (∀ (s : State) (src : Nat) (q : Req), s.serves src { op := 0x0103, need := 4, cov := [(0, 4)] } = some q →
    let tk : BitVec 32 := BitVec.ofNat 32 (q.n 0 4)
    exec (.ticket src) s =
      .next (match s.ticket tk with
        | none => s.reply q Code.ST_TICKET_UNKNOWN [] 0
        | some t => (if t.final.isSome then s.setTicket tk (some { t with retained := true }) else s).reply q Code.ST_OK t.record 0)) ∧
  (∀ (s : State) (src : Nat) (q : Req), s.serves src { op := 0x0104, need := 4, cov := [(0, 4)] } = some q →
    let tk : BitVec 32 := BitVec.ofNat 32 (q.n 0 4)
    exec (.cancel src) s =
      .next (match s.ticket tk with
        | none => s.reply q Code.ST_TICKET_UNKNOWN [] 0
        | some t =>
          (if t.final.isSome || s.cancelExempt tk t.work then s
            else s.setTicket tk (some { t with cancel := true })).reply q Code.ST_OK t.record 0)) ∧
  (∀ (s : State) (src : Nat) (q : Req), s.serves src { op := 0x0105, need := 0 } = some q →
    exec (.descriptor src) s =
      .next (s.reply q Code.ST_OK (leBytes 14 4 ++ (descriptor s.id.b0).flatMap ContractEntry.bytes) 0)) ∧
  (∀ (s : State) (src : Nat) (q : Req), s.serves src { op := 0x0106, need := 3, cov := [(0, 3)] } = some q →
    exec (.inventory src) s =
      .next (if memIdOk (q.n 0 2) = true ∧ 1 ≤ q.n 2 1 ∧ q.n 2 1 ≤ 224 then
          s.reply q Code.ST_OK (((memIds.dropWhile (· ≠ q.n 0 2)).take (q.n 2 1)).map s.spareOf) 0
        else s.reply q Code.ST_BAD_PARAM [] 0)) ∧
  (∀ (s : State) (src : Nat) (q : Req), s.serves src { op := 0x0108, need := 8, cov := [(0, 2), (4, 4)] } = some q →
    let v : BitVec 32 := BitVec.ofNat 32 (q.n 4 4)
    let vc2 := q.n 1 1 == 2
    q.n 0 1 < 82 → (q.n 1 1 = 1 ∨ q.n 1 1 = 2) → bits v.toNat 25 6 = 0 → 9 ≤ lvwBurst v → lvwBurst v ≤ 256 →
    let w := s.modStop (q.n 0 1) fun x => x.writeLvw (q.n 0 1) vc2 v
    (w.stop (q.n 0 1)).lvw (q.n 0 1) vc2 = v ∧
      exec (.louvre src) s =
        .next ((if (s.stop (q.n 0 1)).lvw (q.n 0 1) vc2 = v then w else w.postPolicy 2 (q.n 0 1) v.toNat).reply q Code.ST_OK
          (leBytes v.toNat 4) 0)) ∧
  (∀ (s : State) (src : Nat) (q : Req), s.serves src { op := 0x0108, need := 8, cov := [(0, 2), (4, 4)] } = some q →
    let v : BitVec 32 := BitVec.ofNat 32 (q.n 4 4)
    let badStop := 82 ≤ q.n 0 1 ∨ (q.n 1 1 ≠ 1 ∧ q.n 1 1 ≠ 2)
    let badWord := bits v.toNat 25 6 ≠ 0
    badStop ∨ badWord ∨ lvwBurst v < 9 ∨ 256 < lvwBurst v →
    exec (.louvre src) s =
      .next (s.reply q (if ¬badStop ∧ badWord then Code.ST_RESERVED_NONZERO else Code.ST_BAD_PARAM) [] 0)) ∧
  (∀ (s : State) (src : Nat) (q : Req), s.serves src { op := 0x0102, need := 12, cov := [(0, 12)] } = some q → q.n 8 4 ≤ 0x300000 →
    s.host.ticketsFull = false →
    ∃ t : State, exec (.bootLoad src) s = .next (t.reply q Code.ST_ACCEPTED [] 1) ∧ t.host.bootState = 2 ∧ t.host.nextTicket = 2 ∧
      (∃ k : Ticket, t.ticket 1 = some k ∧ k.work = .bootLoad (q.n 0 8) (q.n 8 4) ∧ k.final = none ∧ k.total = BitVec.ofNat 64 (q.n 8 4)) ∧
      t = { s with host := { s.host with bootState := 2, nextTicket := 2, tickets := t.host.tickets } }) ∧
  (∀ (s : State) (src : Nat) (q : Req), s.serves src { op := 0x0102, need := 12, cov := [(0, 12)] } = some q → 0x300000 < q.n 8 4 →
    exec (.bootLoad src) s = .next (s.reply q Code.ST_BAD_PARAM [] 0)) ∧
  (∀ (s : State) (src : Nat) (q : Req), s.serves src { op := 0x0102, need := 12, cov := [(0, 12)] } = some q → q.n 8 4 ≤ 0x300000 →
    s.host.ticketsFull = true →
    exec (.bootLoad src) s = .next (s.reply q Code.ST_BUSY [] 0))

/-- The key slots (R449): OP 0 fills an empty slot and refuses an occupied one, OP 1 empties a slot, OP 2 answers the SHA-384 of its key
and refuses an empty slot, OP 3 sets the signed-only setting. Each answers SIGNED_ONLY and FULL, and changes nothing else; a slot above 3
is refused with ST_BAD_PARAM. -/
def Obligations.KeySlotsInstallRevokeReadAndLock : Prop :=
  (∀ (s : State) (src : Nat) (q : Req), s.serves src { op := 0x0107, form := some (1, 0), need := 101, cov := [(0, 2), (4, 97)] } = some q → q.n 0 1 < 4 →
    exec (.keyslotInstall src) s =
      .next (if tget [] s.host.keys (q.n 0 1) = [] then
          let h := { s.host with keys := tset [] s.host.keys (q.n 0 1) (bytesAt q.pay 4 97) }
          ({ s with host := h } : State).reply q Code.ST_OK h.keyRecord 0
        else s.reply q Code.ST_RESOURCE_BUSY [] 0)) ∧
  (∀ (s : State) (src : Nat) (q : Req), s.serves src { op := 0x0107, form := some (1, 1), need := 2, cov := [(0, 2)] } = some q → q.n 0 1 < 4 →
    exec (.keyslotRevoke src) s =
      .next (if tget [] s.host.keys (q.n 0 1) = [] then s.reply q Code.SC_KEY_SLOT_EMPTY [] 0
        else
          let h := { s.host with keys := tset [] s.host.keys (q.n 0 1) [] }
          ({ s with host := h } : State).reply q Code.ST_OK h.keyRecord 0)) ∧
  (∀ (s : State) (src : Nat) (q : Req), s.serves src { op := 0x0107, form := some (1, 2), need := 2, cov := [(0, 2)] } = some q → q.n 0 1 < 4 →
    exec (.keyslotRead src) s =
      .next (if tget [] s.host.keys (q.n 0 1) = [] then s.reply q Code.SC_KEY_SLOT_EMPTY [] 0
        else s.reply q Code.ST_OK (s.host.keyRecord ++ [0, 0] ++ sha384 (tget [] s.host.keys (q.n 0 1))) 0)) ∧
  (∀ (s : State) (src : Nat) (q : Req), s.serves src { op := 0x0107, form := some (1, 3), need := 2, cov := [(0, 2)] } = some q → q.n 0 1 < 4 →
    let h := { s.host with signedOnly := true }
    exec (.keyslotSignedOnly src) s = .next (({ s with host := h } : State).reply q Code.ST_OK h.keyRecord 0)) ∧
  (∀ (s : State) (src : Nat) (q : Req), 4 ≤ q.n 0 1 →
    (s.serves src { op := 0x0107, form := some (1, 0), need := 101, cov := [(0, 2), (4, 97)] } = some q →
      exec (.keyslotInstall src) s = .next (s.reply q Code.ST_BAD_PARAM [] 0)) ∧
    (s.serves src { op := 0x0107, form := some (1, 1), need := 2, cov := [(0, 2)] } = some q →
      exec (.keyslotRevoke src) s = .next (s.reply q Code.ST_BAD_PARAM [] 0)) ∧
    (s.serves src { op := 0x0107, form := some (1, 2), need := 2, cov := [(0, 2)] } = some q →
      exec (.keyslotRead src) s = .next (s.reply q Code.ST_BAD_PARAM [] 0)) ∧
    (s.serves src { op := 0x0107, form := some (1, 3), need := 2, cov := [(0, 2)] } = some q →
      exec (.keyslotSignedOnly src) s = .next (s.reply q Code.ST_BAD_PARAM [] 0))) ∧
  (∀ h : HostState, h.keyRecord =
    [if h.signedOnly then 1 else 0,
      BitVec.ofNat 8 (∑ i ∈ Finset.range 4, if tget [] h.keys i = [] then 0 else 2 ^ i)])

/-- A long command that passes its checks is accepted, or answers ST_BUSY where no ticket is free or its object is under another ticket's
work: it answers ST_ACCEPTED with the next ticket number, the ticket holds its work, not ended, and nothing else changes but what each
clause names (R428, R429, R445); where a check fails the clause says which code answers. LOAD takes its site into a load, a site in use
ends the ticket with ST_SITE_BUSY (R146); the TRANSOM that part 0 passes on is read, checked and staged at once (R157); UNLOAD ends loads
and a pending START_AT and marks the site; FAIL_CLEAR keeps its regions with the ticket; FAIL_READOUT and REPAIR read the set's header;
DOMAIN_SET starts its entry or exit (R471). -/
def Obligations.LongCommandsAreAcceptedWithATicket : Prop :=
  (∀ (s : State) (q : Req) (w : Work) (b : Bool) (n : Nat),
    let t := s.issue q w b n
    t.host.nextTicket ≠ 0 ∧ (∀ tk, tk ≠ s.host.nextTicket → t.ticket tk = s.ticket tk) ∧
      t = { s with host := { s.host with nextTicket := t.host.nextTicket, tickets := t.host.tickets } } ∧
      ∃ k : Ticket, t.ticket s.host.nextTicket = some k ∧ k.work = w ∧ k.final = none ∧ k.queued = b ∧ k.progress = 0 ∧ k.source = q.ua) ∧
  (∀ (s : State) (src : Nat) (q : Req), s.serves src { op := 0x0201, need := 0x18, cov := [(0, 0x20)] } = some q →
    exec (.load src) s =
      .next (if 16 ≤ q.n 0 1 ∨ 2 ≤ q.n 1 1 ∨ q.n 8 8 % 64 ≠ 0 then s.reply q Code.ST_BAD_PARAM [] 0
        else if 2 ≤ q.n 3 1 then s.reply q Code.ST_RESERVED_NONZERO [] 0
        else s.acceptedOrBusy q (.load (q.n 0 1) (bytesAt q.pay 0 32)) true (q.n 4 4) fun t =>
          if s.siteBusy (q.n 0 1) then t.finish s.host.nextTicket Code.ST_SITE_BUSY []
          else t.modSite (q.n 0 1) fun x => { x with loadPhase := 1 })) ∧
  (∀ (s : State) (src : Nat) (q : Req), s.serves src { op := 0x0202, need := 1, cov := [(0, 1)] } = some q →
    exec (.unload src) s =
      .next (if 16 ≤ q.n 0 1 then s.reply q Code.ST_BAD_PARAM [] 0
        else if (s.site (q.n 0 1)).state = .running then s.reply q Code.ST_SITE_STATE [] 0
        else s.acceptedOrBusy q (.unload (q.n 0 1)) false 0 fun t =>
          ((t.stopLoads (q.n 0 1)).cancelStartAt (q.n 0 1)).modSite (q.n 0 1) fun x => { x with unloading := true })) ∧
  (∀ (s : State) (src : Nat) (q : Req), s.serves src { op := 0x0204, need := 0x18, cov := [(0, 1), (3, 21), (0x18, 8)] } = some q → q.own = false →
    exec (.transom src) s =
      .next (if 16 ≤ q.n 0 1 ∨ q.n 8 8 % 64 ≠ 0 ∨ (2 ^ 48 ≤ q.n 0x10 8 ∧ q.n 0x10 8 ≠ 2 ^ 64 - 1) then s.reply q Code.ST_BAD_PARAM [] 0
        else if 2 ≤ q.n 3 1 ∨ q.n 0x18 8 ≠ 0 then s.reply q Code.ST_RESERVED_NONZERO [] 0
        else s.acceptedOrBusy q (.transom (q.n 0 1) (bytesAt q.pay 0 24)) true (q.n 4 4) id)) ∧
  (∀ (s : State) (src : Nat) (q : Req), s.serves src { op := 0x0204, need := 0x18, cov := [(0, 1), (3, 21), (0x18, 8)] } = some q → q.own = true →
    q.n 0 1 < 16 → q.n 8 8 % 64 = 0 → (q.n 0x10 8 < 2 ^ 48 ∨ q.n 0x10 8 = 2 ^ 64 - 1) →
    let named := (List.range 16).find? fun n => (s.site n).img.id.toNat == fld q.pay 0x18 8 && (s.site n).img.nparts != 0
    let n := named.getD (q.n 0 1)
    exec (.transom src) s =
      .next (match s.fetchImage (cmdUnit q.pay) (cmdAddr q.pay) (cmdLen q.pay) with
        | (_, some st, u) => u.reply q st [] 0
        | (b, none, u) =>
          match u.transomCheck n q.pay b with
          | .error r => u.reply q r.1 [] 0
          | .ok (h, ps) => (u.stageTransom n 0 (u.site n).lastHinge h ps).reply q Code.ST_OK [] 0)) ∧
  (∀ (s : State) (src : Nat) (q : Req), s.serves src { op := 0x0301, need := 2, cov := [(0, 2)] } = some q →
    let x := s.site (q.n 0 1)
    exec (.arm src) s =
      .next (if 16 ≤ q.n 0 1 then s.reply q Code.ST_BAD_PARAM [] 0
        else if (x.state = .loaded ∨ x.state = .halted) ∧ x.loadPhase = 0 ∧ x.unloading = false then
          s.acceptedOrBusy q (.arm (q.n 0 1) (bytesAt q.pay 0 2)) false 0 id
        else s.reply q Code.ST_SITE_STATE [] 0)) ∧
  (∀ (s : State) (src : Nat) (q : Req), s.serves src { op := 0x0401, need := 14, cov := [(0, 14)], doms := lanesDomains } = some q →
    exec (.calibrate src) s =
      .next (if rateOk (q.n 8 4) = false ∨ 5 < q.n 12 1 then s.reply q Code.ST_BAD_PARAM [] 0
        else if 2 ≤ q.n 13 1 then s.reply q Code.ST_RESERVED_NONZERO [] 0
        else if s.calBusy (maskBits (q.n 0 8)) (q.n 8 4) then s.reply q Code.ST_LANE_BUSY [] 0
        else s.acceptedOrBusy q (.calibrate (bytesAt q.pay 0 14)) false (maskBits (q.n 0 8)).length id)) ∧
  (∀ (s : State) (src : Nat) (q : Req), s.serves src { op := 0x0501, need := 2, cov := [(0, 2)] } = some q →
    let x := s.site (q.n 0 1)
    let f := x.img.failcfg
    let rs := f.setRegions (q.n 1 1)
    exec (.failClear src) s =
      .next (if 16 ≤ q.n 0 1 ∨ f.present = false ∨ f.nsets ≤ q.n 1 1 then s.reply q Code.ST_BAD_PARAM [] 0
        else if (x.fl.set = some (q.n 1 1) ∧ (x.fl.open_ = true ∨ x.fl.closing = true)) ∨ s.setInUse (tget 0 f.recBase (q.n 1 1)) = true then
          s.reply q Code.ST_SET_BUSY [] 0
        else if ∃ r ∈ rs, s.memAt (r * 65536) = none then s.reply q Code.ST_ADDR_UNMAPPED [] 0
        else s.acceptedOrBusy q (.failClear (q.n 0 1) (q.n 1 1)) true rs.length fun t =>
          t.modTicket s.host.nextTicket fun k => { k with buf := rs.flatMap fun g => leBytes g 4 })) ∧
  (∀ (s : State) (src : Nat) (q : Req),
    s.serves src { op := 0x0503, need := 0x20, cov := [(0, 0x20)], doms := hdrDomain 0 } = some q →
    exec (.failReadout src) s =
      .next (if q.n 0x10 8 % 64 ≠ 0 then s.reply q Code.ST_BAD_PARAM [] 0
        else if s.clearing (q.n 0 8) = true then s.reply q Code.ST_SET_BUSY [] 0
        else match s.readHeader (q.n 0 8) with
          | (.error st, u) => u.reply q st [] 0
          | (.ok b, u) =>
            if hdrClosed b then u.acceptedOrBusy q (.failReadout (bytesAt q.pay 0 0x20)) true (hdrPlaces (q.n 0 8) b) id
            else u.reply q Code.ST_SET_BUSY [] 0)) ∧
  (∀ (s : State) (src : Nat) (q : Req),
    s.serves src { op := 0x0504, need := 0x18, cov := [(0, 11), (12, 12)], doms := hdrDomain 0 } = some q →
    let fs := q.n 10 1
    exec (.repair src) s =
      .next (if 16 < q.n 8 1 ∨ 16 < q.n 9 1 ∨ q.n 0x10 8 % 64 ≠ 0 ∨ (fs ≠ 0xFF ∧ (16 ≤ fs ∨ (s.site fs).img.failcfg.filter = false)) then
          s.reply q Code.ST_BAD_PARAM [] 0
        else if isDdr (q.n 0x10 8) = false ∨ s.memAt (q.n 0x10 8) = none then s.reply q Code.ST_ADDR_UNMAPPED [] 0
        else if s.clearing (q.n 0 8) = true then s.reply q Code.ST_SET_BUSY [] 0
        else match s.readHeader (q.n 0 8) with
          | (.error st, u) => u.reply q st [] 0
          | (.ok b, u) =>
            let f := hdrCfg b
            if hdrClosed b = false then u.reply q Code.ST_SET_BUSY [] 0
            else if f.bitmap = false ∨ f.mrc = false ∨ f.geomOk = false then u.reply q Code.ST_BAD_PARAM [] 0
            else if 4 ≤ u.host.repairs.length then u.reply q Code.ST_REPAIR_BUSY [] 0
            else u.acceptedOrBusy q (.repair (bytesAt q.pay 0 0x18)) true f.blocks id)) ∧
  (∀ (s : State) (src : Nat) (q : Req),
    s.serves src { op := 0x0605, need := 0x18, cov := [(0, 1), (8, 16)], doms := laneDomain } = some q →
    exec (.trigReadout src) s =
      .next (if 64 ≤ q.n 0 1 ∨ q.n 0x10 8 % 64 ≠ 0 then s.reply q Code.ST_BAD_PARAM [] 0
        else if (s.trig (q.n 0 1)).state = .done then
          s.acceptedOrBusy q (.trigReadout (bytesAt q.pay 0 0x18)) true (s.trig (q.n 0 1)).store.length id
        else s.reply q Code.ST_SET_BUSY [] 0)) ∧
  (∀ (s : State) (src : Nat) (q : Req), s.serves src { op := 0x0701, need := 16, cov := [(0, 1), (3, 13)], doms := casDoms } = some q →
    exec (.jobLoad src) s =
      .next (if 12 ≤ q.n 0 1 ∨ q.n 8 8 % 64 ≠ 0 then s.reply q Code.ST_BAD_PARAM [] 0
        else if 2 ≤ q.n 3 1 then s.reply q Code.ST_RESERVED_NONZERO [] 0
        else if 16 ≤ (s.casm (q.n 0 1)).images.length then s.reply q Code.ST_RESOURCE_BUSY [] 0
        else s.acceptedOrBusy q (.jobLoad (bytesAt q.pay 0 16)) true (q.n 4 4) id)) ∧
  (∀ (s : State) (src : Nat) (q : Req), s.serves src { op := 0x0801, need := 4, cov := [(0, 1), (2, 2)], doms := chanDoms } = some q →
    exec (.train src) s =
      .next (if chansOf (q.n 0 1) = [] ∨ ¬(q.n 2 2 = 4800 ∨ q.n 2 2 = 5600 ∨ q.n 2 2 = 6400) then s.reply q Code.ST_BAD_PARAM [] 0
        else if ∃ c ∈ chansOf (q.n 0 1), s.mem.validRegions c ≠ 0 then s.reply q Code.ST_FIELD_BUSY [] 0
        else s.acceptedOrBusy q (.train (bytesAt q.pay 0 4)) true (chansOf (q.n 0 1)).length id)) ∧
  (∀ (s : State) (src : Nat) (q : Req), s.serves src { op := 0x0803, need := 1, cov := [(0, 1)], doms := chanDoms } = some q →
    exec (.sweep src) s =
      .next (if q.n 0 1 = 0 then s.reply q Code.ST_BAD_PARAM [] 0 else s.acceptedOrBusy q (.sweep (bytesAt q.pay 0 1)) true 0 id)) ∧
  (∀ (s : State) (src : Nat) (q : Req), s.serves src { op := 0x0808, need := 0x15, cov := [(0, 0x15)] } = some q →
    exec (.copy src) s =
      .next (if q.n 0 8 % 64 ≠ 0 ∨ q.n 8 8 % 64 ≠ 0 ∨ q.n 0x10 4 % 64 ≠ 0 ∨ q.n 0x10 4 = 0 ∨ 1 < q.n 0x14 1 then
          s.reply q Code.ST_BAD_PARAM [] 0
        else if 40 ≤ s.host.copies.length then s.reply q Code.ST_BUSY [] 0
        else s.acceptedOrBusy q (.copy (bytesAt q.pay 0 0x15)) true (q.n 0x10 4) id)) ∧
  (∀ (s : State) (src : Nat) (q : Req), s.serves src { op := 0x0A01, need := 2, cov := [(0, 2)] } = some q →
    exec (.enumerate src) s =
      .next (if 254 < q.n 0 1 then s.reply q Code.ST_BAD_PARAM [] 0
        else if 2 ≤ q.n 1 1 then s.reply q Code.ST_RESERVED_NONZERO [] 0
        else s.acceptedOrBusy q (.enumerate (bytesAt q.pay 0 2)) false 0 id)) ∧
  (∀ (s : State) (src : Nat) (q : Req), s.serves src { op := 0x0B01, need := 2, cov := [(0, 2)] } = some q →
    exec (.domainSet src) s =
      .next (if 3 < q.n 1 1 ∨ domAccepts (q.n 0 1) (domStateOf (q.n 1 1)) = false then s.reply q Code.ST_BAD_PARAM [] 0
        else s.acceptedOrBusy q (.domainSet (q.n 0 1) (q.n 1 1)) false 0 fun t =>
          if domStateOf (q.n 1 1) = .on then t.domainOn (q.n 0 1) s.host.nextTicket
          else t.domainLow (q.n 0 1) (domStateOf (q.n 1 1)) s.host.nextTicket))

/-- The firmware runs a live ticket's work in slices, none while SYS_RST_N is low, none for a ticket that has ended (R428). A cancelled
sweep, copy, job load, repair, broadcast or start of a transom ends with ST_ABORTED (R447), as does a boot load that a host reset stops
(R438); a host error ends a copy, job load or boot load with ST_DMA_HOST_ERROR (R435). TRAIN trains one channel a slice and ends with
DI_DDR_TRAIN unless all trained (R343); SWEEP fills one region a slice (R347); a copy asks the ring for one 64-byte line a slice or host
completion, the next when it has been answered (the model's choice, log entry 79), and ends with its last; a poisoned line reaches the
host as zeros and is counted, and a line refused ends it (R435). Work that waits for its domain or its data leaves the unit as it is. -/
def Obligations.LongWorkRunsInSlices : Prop :=
  (∀ (s : State) (tk : BitVec 32),
    (s.ticket tk = none → ∀ ok, exec (.longCommandSlice tk) s = .next s ∧ exec (.dmaHostCompletion tk ok) s = .next s) ∧
    (∀ t, s.ticket tk = some t → t.final.isSome = true → ∀ ok,
      exec (.longCommandSlice tk) s = .next s ∧ exec (.dmaHostCompletion tk ok) s = .next s) ∧
    (∀ t, s.ticket tk = some t → t.final = none → exec (.dmaHostCompletion tk false) s =
      .next (if t.hostDma then s.setTicket tk (some { t with hostErr := true }) else s)) ∧
    (∀ t, s.ticket tk = some t → t.final = none → s.power.sysRst = true → exec (.longCommandSlice tk) s = .next s) ∧
    (∀ t, s.ticket tk = some t → t.final = none → (t.cancel = true ∨ t.hostErr = true ∨ ∀ c, t.work ≠ .copy c) →
      exec (.dmaHostCompletion tk true) s = .next s)) ∧
  (∀ (s : State) (tk : BitVec 32) (t : Ticket), s.ticket tk = some t → t.final = none → s.power.sysRst = false →
    (t.cancel = true →
      (∀ c, (t.work = .sweep c ∨ t.work = .jobLoad c ∨ t.work = .repair c) → exec (.longCommandSlice tk) s = .next (s.finish tk Code.ST_ABORTED [])) ∧
      (∀ c, t.work = .copy c → exec (.longCommandSlice tk) s = .next (s.finish tk Code.ST_ABORTED t.copyData)) ∧
      (∀ n c, t.work = .transom n c → t.phase = 0 → exec (.longCommandSlice tk) s = .next (s.finish tk Code.ST_ABORTED [])) ∧
      (∀ c, t.work = .bcast c → exec (.longCommandSlice tk) s = .next
        (({ s with chain := { s.chain with bcasts := s.chain.bcasts.filter fun e => e.2 != tk } } : State).finish tk Code.ST_ABORTED [])) ∧
      (∀ a n, t.work = .bootLoad a n → exec (.longCommandSlice tk) s =
        .next (({ s with host := { s.host with bootState := 4 } } : State).finish tk Code.ST_ABORTED []))) ∧
    (t.cancel = false → t.hostErr = true →
      (∀ c, t.work = .jobLoad c → exec (.longCommandSlice tk) s = .next (s.finish tk Code.ST_DMA_HOST_ERROR [])) ∧
      (∀ c, t.work = .copy c → exec (.longCommandSlice tk) s = .next (s.finish tk Code.ST_DMA_HOST_ERROR t.copyData)) ∧
      (∀ a n, t.work = .bootLoad a n → exec (.longCommandSlice tk) s =
        .next (({ s with host := { s.host with bootState := 4 } } : State).finish tk Code.ST_DMA_HOST_ERROR []))) ∧
    (∀ c, t.work = .train c →
      let l := chansOf (fld c 0 1)
      (l.length ≤ t.phase → exec (.longCommandSlice tk) s =
        .next (s.finish tk (if ∀ x ∈ l, (s.ddr x).trained = true then Code.ST_OK else Code.DI_DDR_TRAIN) (s.trainData (fld c 0 1)))) ∧
      ∀ x u, l[t.phase]? = some x →
        (s.accessAll [domDdr x] = (.wait, u) → exec (.longCommandSlice tk) s = .next u) ∧
        (s.accessAll [domDdr x] = (.locked, u) →
          exec (.longCommandSlice tk) s = .next (u.finish tk Code.PW_DOMAIN_LOCKED (u.trainData (fld c 0 1)))) ∧
        (s.accessAll [domDdr x] = (.go, u) →
        let y := u.ddr x
        let fit := y.trainable && [16, 24, 32].contains y.capGiB && (u.dom (domDdr x)).state == .on
        exec (.longCommandSlice tk) s = .next ((u.setDdr x { y with trained := fit, rate := fld c 2 2 }).modTicket tk fun t =>
          { t with phase := t.phase + 1, queued := false, progress := t.progress + 1 }))) ∧
    (∀ c u, t.work = .sweep c → t.cancel = false →
      (s.accessAll ((chansOf (fld c 0 1)).map domDdr) = (.wait, u) → exec (.longCommandSlice tk) s = .next u) ∧
      (s.accessAll ((chansOf (fld c 0 1)).map domDdr) = (.locked, u) →
        exec (.longCommandSlice tk) s = .next (u.finish tk Code.PW_DOMAIN_LOCKED []))) ∧
    (∀ c u, t.work = .sweep c → t.cancel = false → s.accessAll ((chansOf (fld c 0 1)).map domDdr) = (.go, u) →
      (u.nextSweep (chansOf (fld c 0 1)) t.phase (2 ^ 22 - t.phase) = none → exec (.longCommandSlice tk) s = .next (u.finish tk Code.ST_OK [])) ∧
      ∀ r, u.nextSweep (chansOf (fld c 0 1)) t.phase (2 ^ 22 - t.phase) = some r →
        exec (.longCommandSlice tk) s = .next ((u.ensureRegion (r * 65536)).modTicket tk fun t =>
          { t with phase := r + 1, queued := false, progress := t.progress + 1 })) ∧
    (∀ (c : List Byte), t.work = .copy c → t.cancel = false → t.hostErr = false →
      let o := t.progress.toNat
      let ua := fld c 8 8 + o
      let toHost := fld c 0x14 1 = 1
      let mine := ∃ w ∈ s.ring.worms, ∃ k, w.owner = .dma tk k
      (s.host.copyRuns tk = false → exec (.longCommandSlice tk) s = .next s ∧ exec (.dmaHostCompletion tk true) s = .next s) ∧
      (s.host.copyRuns tk = true →
        (¬toHost → exec (.longCommandSlice tk) s = .next (s.setTicket tk (some { t with queued := false }))) ∧
        (toHost → exec (.dmaHostCompletion tk true) s = .next s) ∧
        ∀ r, (if toHost then exec (.longCommandSlice tk) s else exec (.dmaHostCompletion tk true) s) = .next r →
          (mine → r = s) ∧
          (¬mine → (s.memAt ua = none ∨ s.memAt (ua + 63) = none) → r = s.finish tk Code.ST_ADDR_UNMAPPED t.copyData) ∧
          (¬mine → s.memAt ua ≠ none → s.memAt (ua + 63) ≠ none →
            r.ticket tk = some { t with queued := false } ∧ r.mem = s.mem ∧ r.host.mem = s.host.mem ∧
            ∃ w, r.ring.worms = s.ring.worms ++ [w] ∧ w.src = 80 ∧ w.addr = BitVec.ofNat 40 ua ∧ w.owner = .dma tk o ∧
              w.typ = (if toHost then 0 else 1) ∧
              (¬toHost → w.payload = [BitVec.ofNat 512 (leNat (s.host.read (fld c 0 8 + o) 64))]))))) ∧
  (∀ (s : State) (tk : BitVec 32) (t : Ticket) (c : List Byte) (off : Nat) (w : Worm), s.ticket tk = some t → t.final = none →
    t.work = .copy c → w ∈ s.ring.worms → w.owner = .dma tk off →
    let u := s.dropWorm w.id
    let typ := w.typ.toNat
    let poison := typ = 8 ∧ w.status = Code.DI_POISON_READ
    let k := { t with progress := t.progress + 64, phase := if poison then t.phase + 1 else t.phase }
    let line : List Byte := if poison then List.replicate 64 0 else leBytes (w.payload.headD 0).toNat 64
    let v : State := if typ = 8 then { u with host := u.host.write (fld c 0 8 + off) line } else u
    s.deliver w = (if typ = 10 then u.finish tk w.status t.copyData
      else if fld c 0x10 4 ≤ off + 64 then (v.modTicket tk fun _ => k).finish tk Code.ST_OK k.copyData else v.modTicket tk fun _ => k))

/-- Site commands, each refused with ST_BAD_PARAM for a SITE above 15: SITE_STATUS answers the record of R452 and changes nothing;
SITE_RESET empties the site from any state (R150); REWIND takes a HALTED or FAULTED site whose image stands back to LOADED with CYCLE 0,
and is refused in any other state and while the image cannot give its state back (R151); DISARM takes an ARMED site back to the state it
was armed from (R150). -/
def Obligations.SiteCommandsAnswerOrMoveTheSite : Prop :=
  (∀ (s : State) (src : Nat) (q : Req), s.serves src { op := 0x0205, need := 1, cov := [(0, 1)] } = some q →
    exec (.siteStatus src) s =
      .next (if 16 ≤ q.n 0 1 then s.reply q Code.ST_BAD_PARAM [] 0 else s.reply q Code.ST_OK (s.siteRecord (q.n 0 1)) 0)) ∧
  (∀ (s : State) (src : Nat) (q : Req), s.serves src { op := 0x0206, need := 1, cov := [(0, 1)] } = some q →
    (16 ≤ q.n 0 1 → exec (.siteReset src) s = .next (s.reply q Code.ST_BAD_PARAM [] 0)) ∧
    (q.n 0 1 < 16 →
      let t := s.resetSite (q.n 0 1)
      exec (.siteReset src) s = .next (t.reply q Code.ST_OK [] 0) ∧ (t.site (q.n 0 1)).state = .empty ∧ (t.site (q.n 0 1)).img = {} ∧
        ∀ m, m ≠ q.n 0 1 → (t.site m).state = (s.site m).state)) ∧
  (∀ (s : State) (src : Nat) (q : Req), s.serves src { op := 0x0203, need := 1, cov := [(0, 1)] } = some q →
    let x := s.site (q.n 0 1)
    let t := s.rewindSite (q.n 0 1)
    exec (.rewind src) s =
      .next (if 16 ≤ q.n 0 1 then s.reply q Code.ST_BAD_PARAM [] 0
        else if (x.state = .halted ∨ x.state = .faulted) ∧ x.loadPhase = 0 ∧ x.unloading = false then
          (if x.img.hasScratch ∨ x.transomed ∨ x.img.loadFailed then s.reply q Code.ST_REWIND_UNAVAILABLE [] 0
            else t.reply q Code.ST_OK [] 0)
        else s.reply q Code.ST_SITE_STATE [] 0) ∧
      (q.n 0 1 < 16 → (t.site (q.n 0 1)).state = .loaded ∧ (t.site (q.n 0 1)).cycle = 0 ∧ (t.site (q.n 0 1)).fault = 0)) ∧
  (∀ (s : State) (src : Nat) (q : Req), s.serves src { op := 0x0302, need := 1, cov := [(0, 1)] } = some q →
    let x := s.site (q.n 0 1)
    let u := if x.img.root then s.tellParts (q.n 0 1) ownOpcode (x.img.ownPay ownDisarm 0) else s
    let t := u.disarmSite (q.n 0 1)
    exec (.disarm src) s =
      .next (if 16 ≤ q.n 0 1 then s.reply q Code.ST_BAD_PARAM [] 0
        else if x.state = .armed then t.reply q Code.ST_OK [] 0 else s.reply q Code.ST_SITE_STATE [] 0) ∧
      (q.n 0 1 < 16 → (t.site (q.n 0 1)).state = (if x.armedFromHalted then .halted else .loaded)))

/-- Run control. START takes every named site to RUNNING at one step, or none where one is not ARMED (R454); with a multi-unit site among
them it is a START_AT 50 µs on, which skips a part 0 whose start is set already (R455). START_AT sets the time of every named site of this
unit, which must be ARMED, with the time servo not UNLOCKED and the time at least 2 µs on (R411), and else refuses them all; a command for
a multi-unit site waits for the parts it passes on to (R455). STOP asks every named RUNNING site to halt, cancels a pending START_AT, and
passes on what concerns other parts (R454, R455). POLICY sets RA_POLICY of a LOADED or HALTED site to a value its image allows (R223),
WATCHDOG the watchdog of a site that does not run to 1,024 to 1,048,576 (R112), and a site in a run refuses it with ST_FIELD_BUSY (R11);
RA_STATUS answers the record of R243 for a site with D at least 1, and refuses the others. Nothing else changes. -/
def Obligations.RunControlAndSiteSettings : Prop :=
  ((∀ (s : State) (src : Nat) (q : Req), s.serves src { op := 0x0303, need := 16, cov := [(0, 2), (8, 8)], bcast := true } = some q →
    let l := (s.namedSites (q.n 0 2) (q.n 8 8)).filter fun n => !((s.site n).img.root && (s.site n).startAt.isSome)
    (∀ n ∈ l, (s.site n).img.nparts = 0) →
    exec (.start src) s =
      .next (if ∀ n ∈ l, (s.site n).state = .armed ∧ (s.site n).unloading = false then
          (l.foldl (fun s n => s.startSite n) s).reply q Code.ST_OK [] 0
        else s.reply q Code.ST_SITE_STATE [] 0)) ∧
  (∀ (s : State) (n : Nat), n < 16 →
    let t := s.startSite n
    (t.site n).state = .running ∧ (t.site n).c0 = (s.site n).cycle.toNat ∧ (t.site n).cycle = (s.site n).cycle ∧
      (t.site n).startTs = s.stamp ∧ (t.site n).startAt = none ∧ ∀ m, m ≠ n → t.site m = s.site m) ∧
  (∀ (s : State) (src : Nat) (q : Req) (at_ : Bool),
    let op := if at_ then 0x0304 else 0x0303
    s.serves src { op := op, need := if at_ then 24 else 16, cov := [(0, 2), (8, if at_ then 16 else 8)], bcast := true } = some q →
    let named := s.namedSites (q.n 0 2) (q.n 8 8)
    let l := if at_ then named else named.filter fun n => !((s.site n).img.root && (s.site n).startAt.isSome)
    let time := if at_ then q.n 16 8 else s.time.ns + 50000
    let mine := if q.own then l else l.filter fun n => !(s.site n).img.farPart
    let msgs := s.partMsgs mine 0x0304 time ++ (if q.own then [] else s.rootMsgs l op (if at_ then time else 0))
    let t := mine.foldl (fun s n => s.modSite n fun x => { x with startAt := some time }) s
    (at_ = true ∨ ∃ n ∈ l, (s.site n).img.nparts ≠ 0) →
    exec (if at_ then .startAt src else .start src) s =
      .next (if ∃ n ∈ mine, (s.site n).state ≠ .armed ∨ (s.site n).unloading = true then s.reply q Code.ST_SITE_STATE [] 0
        else if s.time.servo = .unlocked then s.reply q Code.CH_TIME_UNLOCKED [] 0
        else if time < s.time.ns + 2000 then s.reply q Code.CH_TIME_PAST [] 0
        else if msgs = [] then t.reply q Code.ST_OK [] 0
        else t.askFor q.src mine msgs)) ∧
  (∀ (s : State) (src : Nat) (q : Req), s.serves src { op := 0x0305, need := 16, cov := [(0, 2), (8, 8)], bcast := true } = some q →
    let l := s.namedSites (q.n 0 2) (q.n 8 8)
    let halt (u : State) (k : List Nat) : State := k.foldl (fun u n => ((if (u.site n).img.farPart then u else u.askHalt n)).cancelStartAt n) u
    let mine := l.filter fun n => !(s.site n).img.farPart
    let tell := mine.filter fun n => (s.site n).img.root && (s.site n).startAt.isSome
    let t := tell.foldl (fun u n => u.tellParts n 0x0305 (runPay (u.site n).img 0)) (halt s mine)
    let far := s.rootMsgs l 0x0305 0
    exec (.stop src) s =
      .next (if q.own ∧ ∀ n ∈ l, (s.site n).img.farPart then (halt s l).reply q Code.ST_OK [] 0
        else if far = [] then t.reply q Code.ST_OK [] 0
        else t.askFor q.src [] far)) ∧
  (∀ (s : State) (n : Nat), n < 16 →
    ((s.site n).state = .running → (s.site n).img.farPart = false → ((s.askHalt n).site n).haltPend = true) ∧
      ((s.site n).state ≠ .running → s.askHalt n = s) ∧ ((s.cancelStartAt n).site n).startAt = none)) ∧
  ((∀ (s : State) (src : Nat) (q : Req), s.serves src { op := 0x0306, need := 2, cov := [(0, 2)] } = some q →
    exec (.policy src) s =
      .next (if 16 ≤ q.n 0 1 then s.reply q Code.ST_BAD_PARAM [] 0
        else if (s.site (q.n 0 1)).state ≠ .loaded ∧ (s.site (q.n 0 1)).state ≠ .halted then s.reply q Code.ST_SITE_STATE [] 0
        else if s.policyOk (q.n 0 1) (q.n 1 1) then
          (s.modSite (q.n 0 1) fun x => { x with img := { x.img with policy := BitVec.ofNat 8 (q.n 1 1) } }).reply q Code.ST_OK [] 0
        else s.reply q Code.ST_BAD_PARAM [] 0)) ∧
  (∀ (s : State) (src : Nat) (q : Req), s.serves src { op := 0x0307, need := 8, cov := [(0, 1), (4, 4)] } = some q →
    exec (.watchdog src) s =
      .next (if 16 ≤ q.n 0 1 ∨ q.n 4 4 < 1024 ∨ 1048576 < q.n 4 4 then s.reply q Code.ST_BAD_PARAM [] 0
        else match (s.site (q.n 0 1)).state with
        | .running => s.reply q Code.ST_FIELD_BUSY [] 0
        | .empty | .loading => s.reply q Code.ST_SITE_STATE [] 0
        | _ => (s.modSite (q.n 0 1) fun x => { x with img := { x.img with watchdog := q.n 4 4 } }).reply q Code.ST_OK [] 0)) ∧
  (∀ (s : State) (src : Nat) (q : Req), s.serves src { op := 0x0308, need := 1, cov := [(0, 1)] } = some q →
    exec (.raStatus src) s =
      .next (if 16 ≤ q.n 0 1 ∨ (s.site (q.n 0 1)).img.depth = 0 then s.reply q Code.ST_BAD_PARAM [] 0
        else s.reply q Code.ST_OK ((s.site (q.n 0 1)).raRecord (q.n 0 1)) 0)))

/-- The pin commands: MASK writes rows of the inactive copy of a pin-mode lane (R204), MASK_SWAP leaves a request on every named lane
(R204), PINFIELD writes one field of a pin-mode lane (R535): at once where the site does not run, and else a PINMASK from the next cycle
not begun and any other field from the next frame (R11); PIN_STATUS answers the record of R221 and changes nothing. What is out of range,
reserved or not of a site is refused with nothing changed. The short fail commands: FAIL_SUMMARY answers a part of the header of a set,
live while the set is open and else from memory (R257), or says why the header cannot be read; FILTER writes rows of the inactive copy of
a site's filter and FILTER_SWAP leaves its request (R264), and both refuse what is out of range, reserved, or names a site without a
filter. -/
def Obligations.PinAndFailCommands : Prop :=
  ((∀ (s : State) (src : Nat) (q : Req), s.serves src { op := 0x0402, need := 48, cov := [(0, 4), (16, 192)], doms := laneDomain } = some q →
    let i := q.n 0 1
    let k := q.n 2 1
    exec (.mask src) s =
      .next (if 64 ≤ i ∨ k = 0 ∨ 6 < k ∨ q.pay.length < 16 + 32 * k then s.reply q Code.ST_BAD_PARAM [] 0
        else if 2 ≤ q.n 3 1 ∨ zeroAt q.pay (16 + 32 * k) 240 = false then s.reply q Code.ST_RESERVED_NONZERO [] 0
        else if s.siteOf i = none then s.reply q Code.ST_SITE_STATE [] 0
        else if (s.lane i).mode ≠ .pin ∨ (s.lane i).pins < q.n 1 1 + k then s.reply q Code.ST_BAD_PARAM [] 0
        else (s.modLane i fun l =>
          { l with
            masks := l.masks.writeRows (q.n 1 1) ((List.range k).map fun j => BitVec.ofNat 256 (q.n (16 + 32 * j) 32)) (q.n 3 1 == 1) }).reply q Code.ST_OK [] 0)) ∧
  (∀ (s : State) (src : Nat) (q : Req), s.serves src { op := 0x0403, need := 16, cov := [(0, 16)] } = some q →
    exec (.maskSwap src) s =
      .next (if 2 ^ 48 ≤ q.n 8 8 then s.reply q Code.ST_RESERVED_NONZERO [] 0
        else if ∃ i ∈ maskBits (q.n 0 8), s.siteOf i = none then s.reply q Code.ST_SITE_STATE [] 0
        else (s.modLanes (maskBits (q.n 0 8)) fun x => { x with masks := { x.masks with swap := some (q.n 8 8) } }).reply q Code.ST_OK [] 0)) ∧
  (∀ (s : State) (src : Nat) (q : Req), s.serves src { op := 0x0404, need := 8, cov := [(0, 3), (4, 4)], doms := laneDomain } = some q →
    let i := q.n 0 1
    exec (.pinfield src) s =
      .next (if 64 ≤ i then s.reply q Code.ST_BAD_PARAM [] 0
        else match s.siteOf i with
          | none => s.reply q Code.ST_SITE_STATE [] 0
          | some n =>
            if (s.lane i).mode ≠ .pin ∨ pinFieldOk (s.lane i).cfg (q.n 1 1) (q.n 2 1) (q.n 4 4) true = false then
              s.reply q Code.ST_BAD_PARAM [] 0
            else if s.rwireBad i (q.n 2 1) (q.n 4 4) then s.reply q Code.TF_WIRE_CONTENTION [] 0
            else
              (s.modLane i fun l =>
                let at_ (c : PinCfg) : PinCfg :=
                  if q.n 2 1 = 1 then { c with pinmask := putBit c.pinmask (q.n 1 1) (bit (q.n 4 4) 0) } else c.setField (q.n 2 1) (q.n 4 4)
                if (s.site n).state ≠ .running then { l with cfg := at_ l.cfg }
                else if q.n 2 1 = 1 then
                  { l with
                    cfg := at_ l.cfg
                    masks := l.masks.enforce (l.nextCycle (s.site n).c0) l.cfg.pinmask fun e =>
                      { e with pinmask := putBit e.pinmask (q.n 1 1) (bit (q.n 4 4) 0) } }
                else { l with pinLater := l.pinLater ++ [(0, q.n 2 1, q.n 4 4)] }).reply q Code.ST_OK [] 0)) ∧
  (∀ (s : State) (src : Nat) (q : Req), s.serves src { op := 0x0405, need := 1, cov := [(0, 1)] } = some q →
    exec (.pinStatus src) s =
      .next (if 64 ≤ q.n 0 1 then s.reply q Code.ST_BAD_PARAM [] 0
        else s.reply q Code.ST_OK ((s.lane (q.n 0 1)).pinRecord (q.n 0 1)) 0))) ∧
  ((∀ (s : State) (src : Nat) (q : Req),
    s.serves src { op := 0x0502, need := 16, cov := [(0, 3), (8, 8)], doms := hdrDomain 8 } = some q →
    (4 ≤ q.n 2 1 ∨ (q.n 8 8 = 0 ∧ (16 ≤ q.n 0 1 ∨ (s.site (q.n 0 1)).img.failcfg.nsets ≤ q.n 1 1)) →
      exec (.failSummary src) s = .next (s.reply q Code.ST_BAD_PARAM [] 0)) ∧
    (q.n 2 1 < 4 → (q.n 8 8 = 0 → q.n 0 1 < 16 ∧ q.n 1 1 < (s.site (q.n 0 1)).img.failcfg.nsets) →
      let a := if q.n 8 8 ≠ 0 then q.n 8 8 else tget 0 (s.site (q.n 0 1)).img.failcfg.recBase (q.n 1 1)
      let isLive (m : Nat) : Prop := (s.site m).fl.open_ = true ∧ (s.site m).img.failcfg.present = true ∧ (s.site m).recBase = a
      (∀ m, m < 16 → isLive m → (∀ j, j < m → ¬isLive j) →
        exec (.failSummary src) s = .next (s.reply q Code.ST_OK (hdrPart ((s.site m).failHeader m 2) (q.n 2 1)) 0)) ∧
      ((∀ m, m < 16 → ¬isLive m) →
        exec (.failSummary src) s =
          .next (match s.readHeader a with
            | (.error st, u) => u.reply q st [] 0
            | (.ok b, u) => u.reply q Code.ST_OK (hdrPart b (q.n 2 1)) 0)))) ∧
  (∀ (s : State) (src : Nat) (q : Req), s.serves src { op := 0x0505, need := 8, cov := [(0, 5), (8, 232)] } = some q →
    exec (.filter src) s =
      .next (if 512 ≤ q.n 2 2 ∨ 28 < q.n 4 1 ∨ 512 < q.n 2 2 + q.n 4 1 ∨ q.pay.length < 8 + 8 * q.n 4 1 then s.reply q Code.ST_BAD_PARAM [] 0
        else if 2 ≤ q.n 1 1 ∨ zeroAt q.pay (8 + 8 * q.n 4 1) 240 = false then s.reply q Code.ST_RESERVED_NONZERO [] 0
        else match s.filterSite (q.n 0 1) with
          | some st => s.reply q st [] 0
          | none => (s.modSite (q.n 0 1) fun x =>
              { x with
                filt := x.filt.writeRows (q.n 2 2) ((List.range (q.n 4 1)).map fun j => BitVec.ofNat 64 (q.n (8 + 8 * j) 8)) (q.n 1 1 == 1) }).reply q Code.ST_OK [] 0)) ∧
  (∀ (s : State) (src : Nat) (q : Req), s.serves src { op := 0x0506, need := 16, cov := [(0, 1), (8, 8)] } = some q →
    exec (.filterSwap src) s =
      .next (if 2 ^ 48 ≤ q.n 8 8 then s.reply q Code.ST_RESERVED_NONZERO [] 0
        else match s.filterSite (q.n 0 1) with
          | some st => s.reply q st [] 0
          | none => (s.modSite (q.n 0 1) fun x => { x with filt := { x.filt with swap := some (q.n 8 8) } }).reply q Code.ST_OK [] 0)) ∧
  (∀ (s : State) (n : Nat),
    s.filterSite n =
      if 16 ≤ n then some Code.ST_BAD_PARAM
      else if (s.site n).state = .empty then some Code.ST_SITE_STATE
      else if (s.site n).img.failcfg.filter = false then some Code.ST_BAD_PARAM
      else none))

/-- Once LEAD steps have passed and the lanes' first frames are filled, the code origin is set for every pin- and direct-mode lane of the
site together, with one ORIGIN_OFFSET that is a free value (R187; log entry 8), and not before. A pin lane hands over one frame after
another, FCNT rising by one, its blocks behind sync headers 0b10 and 0b01: a DATA frame of the grid while the site has slots left (R188,
R191), else the LOOPBACK frame that a calibration owes, else an IDLE frame of Z before the origin and of keep after it (R190, R195, R200);
a link lane sends its oldest frame, or an IDLE block (R124); a direct lane sends the next 32 bits of its PRBS or the oldest word of its
pattern FIFO, and without one a zero word with TF_TIMING_VOID at once (R212). Other lanes send nothing. -/
def Obligations.LanesSendFramesAndWords : Prop :=
  (∀ (s : State) (n : Fin 16),
    let ls := s.codedLanes n.val
    let x := s.site n.val
    let ready := x.state = .running ∧ x.origin = false ∧ ls ≠ [] ∧ (∀ i ∈ ls, (s.lane i).cfg.lead ≤ x.sinceStart) ∧
      ∀ i ∈ ls, (s.lane i).filled = true
    (ready → ∃ t, exec (.codeOrigin n) s = .next t ∧ (t.site n.val).origin = true ∧ (t.site n.val).startPosted = true ∧
      (∀ i ∈ ls, (t.lane i).origin = true ∧ (t.lane i).frame = 0 ∧ (t.lane i).st.originOffset = Config.freeWord s.freeCtr) ∧
      ∀ i, i ∉ ls → t.lane i = s.lane i) ∧
    (¬ready → exec (.codeOrigin n) s = .next s)) ∧
  (∀ (s : State) (i : Fin 64) (n : Nat), s.siteOf i.val = some n → (s.lane i.val).mode = .pin → (s.lane i.val).txIdle = false →
    s.dataDue n i.val = true →
    ∃ (t : State) (h : BitVec 64) (pay : BitVec 1024), exec (.frameAssembly i) s = .next t ∧
      (t.lane i.val).txLast = some (h, pay) ∧ bits h.toNat 0 4 = 1 ∧ bits h.toNat 4 12 = (s.lane i.val).fcnt.toNat ∧
      (t.lane i.val).fcnt = (s.lane i.val).fcnt + 1 ∧ (t.lane i.val).frame = (s.lane i.val).frame + 1) ∧
  (∀ (s : State) (i : Fin 64), (s.lane i.val).mode = .pin → (s.lane i.val).txIdle = false →
    (∀ n, s.siteOf i.val = some n → s.dataDue n i.val = false) →
    let l := (s.lane i.val).applyLater 0
    (∀ (c : CalRun) (pay flags : Nat), l.calib = some c → c.frameDue l.spf = some (pay, flags) →
      exec (.frameAssembly i) s =
        .next (s.setLane i.val
          { l.handOver (pinHeader 3 l.fcnt.toNat 0 0 flags pay) pay s.stamp with calib := some { c with sent := c.sent + 1 } })) ∧
    (∀ k f : Nat, (∀ c, l.calib = some c → c.frameDue l.spf = none) →
      (k, f) = (match s.siteOf i.val with
        | none => (2, 0)
        | some n =>
          match (s.site n).state with
          | .running => if (s.lane i.val).origin then (3, 2) else (2, 0)
          | .halted => (3, 2)
          | .faulted => if (s.site n).voided then (3, 4) else (2, 0)
          | _ => (2, 0)) →
      let pay := payloadOf (List.replicate 512 (BitVec.ofNat 2 k))
      exec (.frameAssembly i) s = .next (s.setLane i.val (l.handOver (pinHeader 2 l.fcnt.toNat 0 0 f pay) pay s.stamp)))) ∧
  (∀ (l : Lane) (h : BitVec 64) (pay : Nat) (st : BitVec 128),
    let t := l.handOver h pay st
    t.fcnt = l.fcnt + 1 ∧ t.txLast = some (h, BitVec.ofNat 1024 pay) ∧ t.txBlocks.map (fun b => b.1) = 2 :: List.replicate 16 1 ∧
      t.phy.lastTx = st ∧ t.origin = l.origin ∧ t.frame = l.frame) ∧
  (∀ (s : State) (i : Fin 64), (s.lane i.val).mode = .link → (s.lane i.val).txIdle = false →
    ((s.lane i.val).link.tx = [] →
      exec (.frameAssembly i) s = .next (s.setLane i.val { s.lane i.val with txLast := some (0x1E, 0), txBlocks := [(2, 0x1E)] })) ∧
    ∀ (f : BitVec 64 × BitVec 512) (rest : List (BitVec 64 × BitVec 512)), (s.lane i.val).link.tx = f :: rest →
      ∃ t, exec (.frameAssembly i) s = .next t ∧ (t.lane i.val).link.tx = rest ∧
        (t.lane i.val).txLast = some (f.1, f.2.setWidth 1024) ∧ ∀ j, j ≠ i.val → t.lane j = s.lane j) ∧
  (∀ (s : State) (i : Fin 64) (n : Nat), s.siteOf i.val = some n → (s.lane i.val).mode = .direct → s.dataDue n i.val = true →
    ((s.lane i.val).cfg.source = 2 →
      let b := prbsBits (s.lane i.val).cfg.degree (s.lane i.val).cfg.invert (s.lane i.val).prbsTx 32
      ∃ t, exec (.frameAssembly i) s = .next t ∧ (t.lane i.val).prbsTx = b.2 ∧ (t.lane i.val).echo.head? = some (BitVec.ofNat 32 b.1)) ∧
    (∀ w rest, (s.lane i.val).cfg.source ≠ 2 → (s.lane i.val).patFifo = w :: rest →
      ∃ t, exec (.frameAssembly i) s = .next t ∧ (t.lane i.val).patFifo = rest ∧ (t.lane i.val).echo.head? = some w.1 ∧
        (t.lane i.val).txWords = (s.lane i.val).txWords + 1) ∧
    ((s.lane i.val).cfg.source ≠ 2 → (s.lane i.val).patFifo = [] →
      ∃ t : State, exec (.frameAssembly i) s = .next (t.faultSashNow i.val Code.TF_TIMING_VOID 0xFF (s.lane i.val).txWords) ∧
        (t.lane i.val).echo.head? = some 0 ∧ (∀ j, j ≠ i.val → t.lane j = s.lane j))) ∧
  (∀ (s : State) (i : Fin 64),
    ((s.lane i.val).mode = .direct → (∀ n, s.siteOf i.val = some n → s.dataDue n i.val = false) →
      exec (.frameAssembly i) s =
        .next (if (s.lane i.val).starved then s.setLane i.val ((s.lane i.val).sendWord 0 s.stamp) else s)) ∧
    ((s.lane i.val).mode = .idle ∨ (s.lane i.val).mode = .stream ∨ (s.lane i.val).mode = .keyhole ∨
        (((s.lane i.val).mode = .pin ∨ (s.lane i.val).mode = .link) ∧ (s.lane i.val).txIdle = true) →
      exec (.frameAssembly i) s = .next s))

/-- A received pin frame in good order, the expected FCNT in its header, hands its codes on: a DATA frame of a running site with its
origin is stored by frame number and decoded (R196), a LOOPBACK frame goes to the calibration in progress (R200), the codes of an IDLE
frame belong to no slot, but after the last DATA frame to the slots that go on (R192, R195). A frame with a bad CRC or an unknown TYPE
counts as an error; in any other PE_ALARM counts, and another FCNT or TX_CRC_ERR is an error too; a late frame is one. An error faults an
ARMED or RUNNING site with TF_PIN_FRAME_CRC and is posted otherwise (R197). A direct-mode word, cut by its slips, is counted, and in a run
compared bit by bit with a locked PRBS, or in echo mode with the word sent DCMP_OFF words before it (R179, R213). -/
def Obligations.LanesReceiveFramesAndWords : Prop :=
  (∀ (s : State) (i : Fin 64) (h : BitVec 64) (p : BitVec 1024) (typ : Nat) (c : Instr),
    (typ, c) ∈ [(1, Instr.rxDataFrame i h p), (2, .rxIdleFrame i h p), (3, .rxLoopbackFrame i h p)] →
    let fc := bits h.toNat 4 12
    let u := s.modLane i.val fun l => { l with rxFcnt := some (BitVec.ofNat 12 (fc + 1)), phy := { l.phy with lastRx := s.stamp } }
    let v := if bit h.toNat 44 then u.peAlarm i.val else u
    let sound := pinCrc h.toNat p.toNat = bits h.toNat 48 16 ∧ bits h.toNat 0 4 ∈ [1, 2, 3]
    let skip : Bool := (s.lane i.val).rxFcnt.any fun e => e.toNat != fc
    ((s.lane i.val).mode ≠ .pin ∨ (s.lane i.val).lock = false → exec c s = .next s) ∧
    ((s.lane i.val).mode = .pin → (s.lane i.val).lock = true →
      (¬sound → exec c s = .next (u.pinFrameError i.val fc true false)) ∧
      (sound → skip = true ∨ bit h.toNat 43 = true → exec c s = .next (v.pinFrameError i.val fc skip (bit h.toNat 43))) ∧
      (sound → skip = false → bit h.toNat 43 = false →
        (bits h.toNat 0 4 ≠ typ → exec c s = .next v) ∧
        (bits h.toNat 0 4 = typ → typ = 1 →
          exec c s =
            .next (match v.siteOf i.val with
              | some n => if (v.site n).state = .running ∧ (v.lane i.val).origin = true then v.decodeFrame n i.val p else v
              | none => v)) ∧
        (bits h.toNat 0 4 = typ → typ = 2 →
          exec c s =
            .next (match v.siteOf i.val with
              | some n =>
                if (v.site n).state = .running ∧ (v.lane i.val).origin = true ∧ v.dataDue n i.val = false ∧
                    (v.lane i.val).frame ≤ (v.lane i.val).rxFrames then v.decodeFrame n i.val p
                else v
              | none => v)) ∧
        (bits h.toNat 0 4 = typ → typ = 3 →
          exec c s =
            .next (v.modLane i.val fun l =>
              { l with
                calib := l.calib.map fun c =>
                  if c.stage = 2 then c.loop p.toNat else if c.stage = 4 then c.pins l.pins p.toNat else c }))))) ∧
  (∀ (s : State) (i fcnt : Nat) (err asic : Bool),
    ∃ t : State, (t.lane i).st.frameErr = (if err then satInc (s.lane i).st.frameErr else (s.lane i).st.frameErr) ∧
      (t.lane i).st.asicCrc = (if asic then satInc (s.lane i).st.asicCrc else (s.lane i).st.asicCrc) ∧
      (∀ j, j ≠ i → t.lane j = s.lane j) ∧
      s.pinFrameError i fcnt err asic =
        if s.laneLive i then t.faultSashNow i Code.TF_PIN_FRAME_CRC 0xFF fcnt
        else t.postLane Code.TF_PIN_FRAME_CRC ((s.siteOf i).getD 0xFF) i 0 0 0) ∧
  (∀ (s : State) (i : Fin 64),
    exec (.rxFrameTimeout i) s =
      .next (if (s.lane i.val).mode = .pin then
          s.pinFrameError i.val (match (s.lane i.val).rxFcnt with | some e => e.toNat | none => 0) true false
        else s)) ∧
  (∀ (s : State) (i : Fin 64) (w : BitVec 32),
    let r := (s.lane i.val).rxBits w.toNat
    let l := r.1
    ((s.lane i.val).mode ≠ .direct ∨ (s.lane i.val).lock = false → exec (.directRxWord i w) s = .next s) ∧
    ((s.lane i.val).slipDue = 0 → (s.lane i.val).rxRest = 0 → (s.lane i.val).rxRestLen = 0 → r.2 = some w) ∧
    ((s.lane i.val).mode = .direct → (s.lane i.val).lock = true →
      (r.2 = none ∨ l.origin = false ∨ (∀ n, s.siteOf i.val = some n → (s.site n).state ≠ .running) →
        exec (.directRxWord i w) s = .next (s.setLane i.val l)) ∧
      ∀ (n : Nat) (v : Word), r.2 = some v → s.siteOf i.val = some n → (s.site n).state = .running → l.origin = true →
        (((l.cfg.rawcmp ≠ 1 ∧ l.cfg.rawcmp ≠ 2) ∨ (l.cfg.rawcmp = 2 ∧ l.rxWords < l.cfg.dcmpOff)) →
          ∃ t, exec (.directRxWord i w) s = .next t ∧ (t.lane i.val).rxWords = l.rxWords + 1 ∧ (t.lane i.val).st = l.st ∧
            t.mem = s.mem ∧ ∀ j, j ≠ i.val → t.lane j = s.lane j) ∧
        (l.cfg.rawcmp = 1 →
          let r := l.chk.rxWord l.cfg.degree l.cfg.invert v.toNat 0 32
          ∃ t : State, exec (.directRxWord i w) s =
              .next (if l.chk.locked = true ∧ r.2.1 ≠ 0 then t.wordMismatch n i.val l.rxWords (BitVec.ofNat 32 r.2.1) else t) ∧
            (t.lane i.val).chk = r.1 ∧
            (t.lane i.val).st.compares = (if l.chk.locked then satInc l.st.compares else l.st.compares)) ∧
        (∀ x, l.cfg.rawcmp = 2 → l.cfg.dcmpOff ≤ l.rxWords → l.rxWords - l.cfg.dcmpOff < l.txWords →
          l.echo[l.txWords - 1 - (l.rxWords - l.cfg.dcmpOff)]? = some x →
          ∃ t : State, exec (.directRxWord i w) s = .next (if x = v then t else t.wordMismatch n i.val l.rxWords (x ^^^ v)) ∧
            (t.lane i.val).st.compares = satInc l.st.compares ∧ (t.lane i.val).rxWords = l.rxWords + 1)))

/-- With D ≥ 1 the oldest cycle whose computation has ended, whose checks have passed and whose responses have come runs its compares and
commits, and the next is the oldest; its ring entry is freed (R222, R228). A STOP that these compares decide goes to every part and holds
after its cycle (R227, R241). The divergence of the lowest slot is decided once every check before it has completed; it is counted with
its place and the first posts a notice (R226). Under LOG nothing more happens; under STOP, in a drain, and with a notice where a transom's
hinge blocks the way back, the site halts after the cycle (R227, R236, R237); else under RESYNC it stops to roll back (R233); in the three
cases every other part is told (R241). At the rollback the site undoes back to the cycle and begins it again from step 0, in replay up to
where it was (R233, R234); it waits while flits of the site are on the rings; a fault of the undo ends it there (R239). The delta writer
writes its oldest records, two to a line of the checkpoint ring, in a port step that neither the panes nor the fail path takes (R229,
R247); with nothing to write or a full ring it writes none. -/
def Obligations.RunAheadCommitsOrRollsBack : Prop :=
  (∀ (s : State) (n : Fin 16),
    let x := s.site n
    let c := x.ra.oldest
    let due := x.img.depth ≠ 0 ∧ x.state = .running ∧ x.ra.state ≠ .rollback ∧ s.cycleDone n.val c = true ∧
      s.cycleChecked n.val c = true ∧ s.cycleDecoded n.val c = true
    let u := (s.siteSashes n.val).foldl (fun s i => (s.runCompares n.val i fun e => e.cycle == c).captureChecks n.val i c true) s
    let v := (u.modSashes (s.siteSashes n.val) fun y =>
      { y with delta := { y.delta with entries := y.delta.entries.filter fun e => decide (c < e.1) } }).modSite n.val fun x =>
        { x with ra := { x.ra with oldest := c + 1, state := if x.ra.state = .depthWait then .speculate else x.ra.state } }
    let stop := (v.site n.val).ra.stopAt
    let w := if x.ra.stopAt = none then (match stop with | some k => v.sendRollback n.val k | none => v) else v
    (¬due → exec (.cycleCommit n) s = .next s) ∧ (v.site n.val).ra.oldest = c + 1 ∧ v.lanes = u.lanes ∧
    (due → stop = none → exec (.cycleCommit n) s = .next (w.settle n.val)) ∧
    (∀ k, due → stop = some k → exec (.cycleCommit n) s =
      .next (if k < (w.site n.val).cycle.toNat then w.stopAfter n.val k else w))) ∧
  ((∀ (s : State) (n : Fin 16),
    let x := s.site n
    (lowestDiv x.ra.found = none → exec (.divergenceDecided n) s = .next s) ∧
    ∀ d, lowestDiv x.ra.found = some d →
      let v := s.setSite n.val
        { x with
          noticed := putBit x.noticed 0 true
          ra := { x.ra with
                  divergences := satInc x.ra.divergences, lastDivCycle := BitVec.ofNat 48 d.1
                  lastDivPin := BitVec.ofNat 16 d.2.2.1, lastDivCode := BitVec.ofNat 8 d.2.2.2.1
                  lastDivAct := BitVec.ofNat 8 d.2.2.2.2, found := x.ra.found.erase d } }
      let u := if getBit x.noticed 0 then v else v.postNotice Code.ST_OK n.val 0 0x01 d.1 d.2.2.1
      let y := u.site n.val
      (x.state ≠ .running ∨ s.checksBefore n.val d.2.1 = false → exec (.divergenceDecided n) s = .next s) ∧
      (x.state = .running → s.checksBefore n.val d.2.1 = true →
        y.img = x.img ∧ y.draining = x.draining ∧ u.sashes = s.sashes ∧ u.lanes = s.lanes ∧
        (x.img.policy = 1 → x.draining = false → exec (.divergenceDecided n) s = .next u) ∧
        (x.img.policy ≠ 2 ∧ x.img.policy ≠ 1 ∨ x.draining = true →
          exec (.divergenceDecided n) s = .next ((u.stopAfter n.val d.1).sendRollback n.val d.1)) ∧
        (x.img.policy = 2 → x.draining = false → (∃ h ∈ x.ra.transomHinges, d.1 ≤ h) →
          exec (.divergenceDecided n) s = .next
            (((u.postNotice Code.ST_ROLLBACK_BLOCKED n.val 0 0x01 d.1 d.2.2.1).stopAfter n.val d.1).sendRollback n.val d.1)) ∧
        (x.img.policy = 2 → x.draining = false → (∀ h ∈ x.ra.transomHinges, h < d.1) →
          exec (.divergenceDecided n) s = .next ((u.startRollback n.val d.1).sendRollback n.val d.1)))) ∧
  (∀ (s : State) (n : Fin 16),
    let x := s.site n
    (x.ra.target = none ∨ x.state ≠ .running ∨ x.ra.state ≠ .rollback ∨ s.flitsOf n.val = true → exec (.rollback n) s = .next s) ∧
    ∀ c, x.state = .running → x.ra.state = .rollback → x.ra.target = some c → s.flitsOf n.val = false →
      let u := s.undoSite n.val c
      ((u.site n.val).state ≠ .running → exec (.rollback n) s = .next u) ∧
      ((u.site n.val).state = .running →
        ∃ t, exec (.rollback n) s = .next t ∧ (t.site n.val).cycle = BitVec.ofNat 48 c ∧ (t.site n.val).ra.state = .speculate ∧
          (t.site n.val).ra.replay = true ∧ (t.site n.val).ra.replayTo = x.cycle.toNat ∧ (t.site n.val).ra.target = none ∧
          (t.site n.val).ra.rollbacks = satInc (u.site n.val).ra.rollbacks ∧ (∀ d ∈ (t.site n.val).ra.found, d.1 < c) ∧
          t.mem = u.mem ∧ (∀ i, i ∉ u.siteSashes n.val → t.sash i = u.sash i ∧ t.lane i = u.lane i) ∧
          ∀ i ∈ u.siteSashes n.val, i < 64 → t.sash i = (u.sash i).replay ∧ t.lane i = (u.lane i).rollback (u.site n.val).c0 c))) ∧
  ((∀ (s : State) (i : Fin 64), s.siteOf i.val = none → exec (.deltaWrite i) s = .next s) ∧
  (∀ (s : State) (i : Fin 64) (n : Nat), s.siteOf i.val = some n →
    let d := (s.sash i.val).delta
    let g := (s.site n).img
    let idle := (s.sash i.val).portFree = false ∨ s.failPortDue n i.val = true ∨ d.next false = 0 ∨ d.full g.ckptLines = true
    (idle → exec (.deltaWrite i) s = .next s) ∧
    (¬idle → ∃ t, exec (.deltaWrite i) s = .next t ∧ t.lanes = s.lanes ∧ t.sites = s.sites ∧
      (t.sash i.val).portUsed = true ∧ (t.sash i.val).delta = { d with queue := d.queue.drop (d.next false), wline := d.wline + 1 } ∧
      t.mem = (s.setPadLine i.val (g.ckptFirst + d.wline % max 1 g.ckptLines)
        ((d.queue.take (d.next false)).flatMap fun r => leBytes r.toNat 16)).mem ∧
      ∀ j, j ≠ i.val → t.sash j = s.sash j)))

/-- Fail records leave the mismatch FIFO two to a buffer line in a port step the panes leave free (R247); without FAILCFG they are dropped
(R253), and a full buffer keeps them waiting. The buffer leaves in chunks of 32, in a port step left free, when it holds as many, when
fail close asks, or when the oldest has waited FLUSH_US (R248). A set closes once nothing is left on the way: its header says CLOSED and
FAIL_CLOSED is posted (R256). In every other case the three rows change nothing. Trigger records leave the FIFO for the record store two
to a line, a record alone with a pad beside it, in a port step that every other user leaves free (R276); the store keeps what Trig.trim
says: PRE before the mark, POST behind it (R277, R278). Staged records go to the acquisition area as a WRITE of 32 places, pads behind the
records of a flush (R277). An acquisition is DONE once POST_SLOTS slots have passed since the trigger (R278; log entry 93). A unit's pulse
on a trigger output that has stood its time ends; other pulses go on (R279). -/
def Obligations.FailAndTriggerRecordsLeaveInOrder : Prop :=
  ((∀ (s : State) (i : Fin 64),
    let p := (s.lane i.val).fail
    (s.siteOf i.val = none → exec (.failBufferWrite i) s = .next s ∧ exec (.failChunkSend i) s = .next s ∧
      exec (.failFlushTimeout i) s = .next s) ∧
    (p.fifo = [] ∨ (s.sash i.val).portFree = false → exec (.failBufferWrite i) s = .next s) ∧
    ((s.sash i.val).portFree = false ∨ p.buf = [] → exec (.failChunkSend i) s = .next s ∧ exec (.failFlushTimeout i) s = .next s)) ∧
  (∀ (s : State) (i : Fin 64) (n : Nat), s.siteOf i.val = some n → (s.lane i.val).fail.fifo ≠ [] → (s.sash i.val).portFree = true →
    let f := (s.site n).img.failcfg
    let p := (s.lane i.val).fail
    let line := f.fbufFirst + p.wline % max 1 f.fbufLines
    (f.present = false → ∃ t, exec (.failBufferWrite i) s = .next t ∧ (t.lane i.val).fail = { p with fifo := p.fifo.drop 2 } ∧
      t.sashes = s.sashes ∧ t.mem = s.mem ∧ ∀ j, j ≠ i.val → t.lane j = s.lane j) ∧
    (f.present = true → f.fbufLines ≤ p.lines → exec (.failBufferWrite i) s = .next s) ∧
    (f.present = true → p.lines < f.fbufLines →
      ∃ t, exec (.failBufferWrite i) s = .next t ∧ (t.lane i.val).fail.fifo = p.fifo.drop 2 ∧
        (t.lane i.val).fail.buf = p.buf ++ (p.fifo.take 2).map (fun r => (line, r)) ∧ (t.lane i.val).fail.wline = p.wline + 1 ∧
        (t.sash i.val).portUsed = true ∧
        t.mem = (s.setPadLine i.val line ((p.fifo.take 2).flatMap fun r => leBytes r.toNat 16)).mem ∧
        ∀ j, j ≠ i.val → t.lane j = s.lane j)) ∧
  (∀ (s : State) (i : Fin 64) (n : Nat), s.siteOf i.val = some n → (s.sash i.val).portFree = true →
    let p := (s.lane i.val).fail
    let u := (s.failSend n i.val).modSash i.val fun x => { x with portUsed := true }
    (32 ≤ p.buf.length ∨ ((s.site n).fl.closing = true ∧ p.fifo = [] ∧ p.buf ≠ []) → exec (.failChunkSend i) s = .next u) ∧
    (p.buf.length < 32 → ¬((s.site n).fl.closing = true ∧ p.fifo = []) → exec (.failChunkSend i) s = .next s) ∧
    (p.buf ≠ [] → exec (.failFlushTimeout i) s = .next u) ∧ (u.lane i.val).fail.buf = p.buf.drop 32) ∧
  (∀ (s : State) (n : Fin 16),
    let ls := (s.site n.val).img.sashes
    let idle := ∀ i ∈ ls, (s.lane i).fail.fifo = [] ∧ (s.lane i).fail.buf = []
    ((s.site n.val).fl.closing = false ∨ s.failWorms ls = true ∨ ¬idle → exec (.failClose n) s = .next s) ∧
    ((s.site n.val).fl.closing = true → s.failWorms ls = false → idle →
      exec (.failClose n) s = .next (s.failCloseEnd n.val) ∧ ((s.failCloseEnd n.val).site n.val).fl.closing = false ∧
      ((s.failCloseEnd n.val).site n.val).fl.open_ = false))) ∧
  ((∀ (s : State) (i : Fin 64),
    let u := s.trig i.val
    let idle := u.fifo = [] ∨ s.trigPort i.val = false
    (idle → exec (.trigRecordStore i) s = .next s) ∧
    (¬idle → ∃ t, exec (.trigRecordStore i) s = .next t ∧ t.trig i.val = u.storeLine.trim ∧ (t.sash i.val).portUsed = true ∧
      t.mem = (s.setPadLine i.val (u.cfg.tbufFirst + u.written / 2 % max 1 u.cfg.tbufLines)
        ((u.fifo.take 2).flatMap fun r => leBytes r.toNat 16)).mem ∧
      ∀ j, j ≠ i.val → t.trig j = s.trig j ∧ t.sash j = s.sash j)) ∧
  (∀ (s : State) (i : Fin 64),
    let u := s.trig i.val
    let idle := u.cfg.spill = false ∨ u.stage = [] ∨ (s.sash i.val).portFree = false
    (idle → exec (.trigSpillChunk i) s = .next s) ∧
    (¬idle → ∃ t w, exec (.trigSpillChunk i) s = .next t ∧ t.ring.worms = s.ring.worms ++ [w] ∧ w.typ = 1 ∧ w.len = 8 ∧ w.src = i.val ∧
      w.addr = BitVec.ofNat 40 (s.storePlace i.val u.sent) ∧ (t.sash i.val).portUsed = true ∧
      t.trig i.val = ({ u with stage := u.stage.drop 32, store := u.store ++ s.chunkRecs i.val, sent := u.sent + 32 } : Trig).trim)) ∧
  (∀ (s : State) (i : Fin 64),
    let u := s.trig i.val
    let over_ := u.state = .post ∧ u.cfg.postSlots ≠ 0 ∧ u.trigGrid + u.cfg.postSlots < u.slot
    (over_ → exec (.postSlotsExpiry i) s = .next (s.setTrig i.val { u with state := .done })) ∧
    (¬over_ → exec (.postSlotsExpiry i) s = .next s)) ∧
  (∀ (s : State) (i : Fin 64) (p : Fin 4),
    let ls := tget [] s.time.toutTrig p.val
    ∃ t, exec (.toutPulseEnd i p) s = .next t ∧
      tget [] t.time.toutTrig p.val = ls.filter (fun e => e.1 != i.val || decide (s.power.steps < e.2.2)) ∧
      ∀ q, q ≠ p.val → tget [] t.time.toutTrig q = tget [] s.time.toutTrig q))

/-- The trigger commands, each refused with ST_BAD_PARAM for a LANE above 63: TRIGFIELD writes one H-class field of a lane of a site,
staged while the site runs (R282), and refuses reserved bits, values out of range and pins in use; TRIGFORCE leaves an external trigger of
the unit's next slot on a READY unit and any other unit as it is; REARM takes a DONE unit of an ARMED or RUNNING site to READY with an
empty store (R278), and refuses any other; TRIG_STATUS answers the record of R283 and changes nothing. -/
def Obligations.TriggerCommandsActOnTheirUnit : Prop :=
  (∀ (s : State) (src : Nat) (q : Req),
    s.serves src { op := 0x0601, need := 24, cov := [(0, 2), (8, 16)], doms := laneDomain } = some q →
    let i := q.n 0 1
    exec (.trigfield src) s =
      .next (if 64 ≤ i then s.reply q Code.ST_BAD_PARAM [] 0
        else match s.siteOf i with
          | none => s.reply q Code.ST_SITE_STATE [] 0
          | some n =>
            if trigRsv (q.n 1 1) (q.n 8 16) then s.reply q Code.ST_RESERVED_NONZERO [] 0
            else if (s.sash i).cfg.hasTrig = false ∨ trigFieldOk (s.lane i).cfg (q.n 1 1) (q.n 8 16) = false then s.reply q Code.ST_BAD_PARAM [] 0
            else if s.toutBusy (q.n 1 1) (q.n 8 16) then s.reply q Code.ST_RESOURCE_BUSY [] 0
            else (s.modTrig i fun t =>
                if (s.site n).state = .running then
                  { t with staged := t.staged ++ [(0, BitVec.ofNat 8 (q.n 1 1), BitVec.ofNat 128 (q.n 8 16))] }
                else t.setField (q.n 1 1) (q.n 8 16)).reply q Code.ST_OK [] 0)) ∧
  (∀ (s : State) (src : Nat) (q : Req),
    s.serves src { op := 0x0602, need := 1, cov := [(0, 1)], doms := laneDomain } = some q →
    let i := q.n 0 1
    let t := s.trig i
    exec (.trigforce src) s =
      .next (if 64 ≤ i then s.reply q Code.ST_BAD_PARAM [] 0
        else if s.siteOf i ≠ none ∧ t.state = .ready then (s.setTrig i { t with ext := some (joinExt t.ext t.slot 0x40) }).reply q Code.ST_OK [] 0
        else s.reply q Code.ST_OK [] 0)) ∧
  (∀ (s : State) (src : Nat) (q : Req),
    s.serves src { op := 0x0603, need := 1, cov := [(0, 1)], doms := laneDomain } = some q →
    let i := q.n 0 1
    exec (.rearm src) s =
      .next (if 64 ≤ i then s.reply q Code.ST_BAD_PARAM [] 0
        else if ∃ n, s.siteOf i = some n ∧ (s.trig i).state = .done ∧ ((s.site n).state = .armed ∨ (s.site n).state = .running) then
          (s.modTrig i Trig.rearm).reply q Code.ST_OK [] 0
        else s.reply q Code.ST_SITE_STATE [] 0)) ∧
  (∀ t : Trig, t.rearm.state = .ready ∧ t.rearm.store = [] ∧ t.rearm.fifo = [] ∧ t.rearm.eng = t.eng ∧ t.rearm.cfg = t.cfg) ∧
  (∀ (s : State) (src : Nat) (q : Req), s.serves src { op := 0x0604, need := 1, cov := [(0, 1)] } = some q →
    exec (.trigStatus src) s =
      .next (if 64 ≤ q.n 0 1 then s.reply q Code.ST_BAD_PARAM [] 0
        else s.reply q Code.ST_OK ((s.trig (q.n 0 1)).record (q.n 0 1)) 0))

/-- The job commands: JOB_UNLOAD drops an image none of whose jobs lives and refuses it otherwise (R293); SUBMIT answers the task and core
that admission gives, or the code that refuses it, and wakes a casement that is off (R294); JOB_STOP ends a living task with ST_ABORTED,
inside a REP at the REP's end (R292, R296); SIGNAL sets flags 0 to 27 (R297); ITEM enters a queue with room and is refused ST_BUSY when it
is full (R299); each of the three answers ST_NO_TASK for a task that does not live. EVMAP binds a chain EVENT identifier to a flag of a
task, at most 64 bindings on the unit, and unbinds it (R297); CCW writes the control word of a casement without tasks and is refused
ST_FIELD_BUSY with tasks (R301). Identifier 0, a flag above 27, a task that does not live, and a control word out of range are refused
with nothing changed. -/
def Obligations.JobAndCasementCommands : Prop :=
  ((∀ (s : State) (src : Nat) (q : Req), s.serves src { op := 0x0702, need := 16, cov := [(0, 1), (8, 8)] } = some q →
    let id : BitVec 64 := BitVec.ofNat 64 (q.n 8 8)
    exec (.jobUnload src) s =
      .next (if 12 ≤ q.n 0 1 ∨ (∀ g ∈ (s.casm (q.n 0 1)).images, g.id ≠ id) then s.reply q Code.ST_BAD_PARAM [] 0
        else if (s.tasksOf (q.n 0 1)).any (·.2.image == id) then s.reply q Code.ST_SET_BUSY [] 0
        else (s.modCasm (q.n 0 1) fun c => { c with images := c.images.filter (·.id != id) }).reply q Code.ST_OK [] 0)) ∧
  (∀ (s : State) (src : Nat) (q : Req), s.serves src { op := 0x0703, need := 80, cov := [(0, 1), (8, 72)] } = some q →
    let k := q.n 0 1
    (12 ≤ k → exec (.submit src) s = .next (s.reply q Code.ST_BAD_PARAM [] 0)) ∧
    (∀ (a : Access) (s1 u : State) (st : Status) (n c : Nat), k < 12 → s.access (domCas k) false = (a, s1) →
      (a = .locked → exec (.submit src) s = .next (s.reply q Code.PW_DOMAIN_LOCKED [] 0)) ∧
      (a ≠ .locked → s1.submit k (bytesAt q.pay 8 72) (a == .wait) = (st, n, c, u) →
        exec (.submit src) s =
            .next (if st = Code.ST_OK then (u.settleCas k).reply q Code.ST_OK (leBytes n 2 ++ leBytes c 1) 0 else s.reply q st [] 0) ∧
          (st = Code.ST_OK → s1.task n = none ∧ (u.task n).isSome = true)))) ∧
  (∀ (s : State) (src : Nat) (q : Req), s.serves src { op := 0x0704, need := 2, cov := [(0, 2)], doms := taskDoms 0 } = some q →
    exec (.jobStop src) s =
      .next (match s.task (q.n 0 2) with
        | some t =>
          (if s.inRep (q.n 0 2) then s.setTask (q.n 0 2) (some { t with stopDue := true })
            else (s.endTask (q.n 0 2) Code.ST_ABORTED).settleCas t.cas).reply q Code.ST_OK [] 0
        | none => s.reply q Code.ST_NO_TASK [] 0)) ∧
  (∀ (s : State) (src : Nat) (q : Req), s.serves src { op := 0x0705, need := 8, cov := [(0, 2), (4, 4)], doms := taskDoms 0 } = some q →
    exec (.signal src) s =
      .next (if 2 ^ 28 ≤ q.n 4 4 then s.reply q Code.ST_RESERVED_NONZERO [] 0
        else match s.task (q.n 0 2) with
        | some t => ((s.setFlags (q.n 0 2) (BitVec.ofNat 32 (q.n 4 4))).settleCas t.cas).reply q Code.ST_OK [] 0
        | none => s.reply q Code.ST_NO_TASK [] 0)) ∧
  (∀ (s : State) (src : Nat) (q : Req), s.serves src { op := 0x0706, need := 40, cov := [(0, 2), (8, 32)], doms := taskDoms 0 } = some q →
    let i : BitVec 256 := BitVec.ofNat 256 (q.n 8 32)
    exec (.item src) s =
      .next (if q.n 0x0B 1 ≠ 0 then s.reply q Code.ST_RESERVED_NONZERO [] 0
        else if 1024 ≤ itemFlow i ∧ itemFlow i ≠ 0xFFFF then s.reply q Code.ST_BAD_PARAM [] 0
        else match s.task (q.n 0 2) with
        | some t => if t.queue.length < t.qdepth then ((s.enqueue (q.n 0 2) i).settleCas t.cas).reply q Code.ST_OK [] 0
          else s.reply q Code.ST_BUSY [] 0
        | none => s.reply q Code.ST_NO_TASK [] 0))) ∧
  ((∀ (s : State) (src : Nat) (q : Req) (map : Bool),
    s.serves src { op := 0x0707, form := some (1, if map then 0 else 1), need := 5, cov := [(0, 5)] } = some q →
    let e : BitVec 8 × Nat × Nat := (BitVec.ofNat 8 (q.n 0 1), q.n 2 2, q.n 4 1)
    exec (if map then .evmapMap src else .evmapUnmap src) s =
      .next (if q.n 0 1 = 0 ∨ 27 < q.n 4 1 then s.reply q Code.ST_BAD_PARAM [] 0
        else match s.task (q.n 2 2) with
          | none => s.reply q Code.ST_NO_TASK [] 0
          | some t =>
            let m := (s.casm t.cas).evmap
            if map = false then (s.modCasm t.cas fun c => { c with evmap := m.filter (· != e) }).reply q Code.ST_OK [] 0
            else if m.contains e then s.reply q Code.ST_OK [] 0
            else if 64 ≤ s.cas.evmaps then s.reply q Code.ST_RESOURCE_BUSY [] 0
            else (s.modCasm t.cas fun c => { c with evmap := m ++ [e] }).reply q Code.ST_OK [] 0)) ∧
  (∀ (s : State) (src : Nat) (q : Req), s.serves src { op := 0x0708, need := 8, cov := [(0, 1), (4, 4)], doms := casDoms } = some q →
    let v : BitVec 32 := BitVec.ofNat 32 (q.n 4 4)
    exec (.ccw src) s =
      .next (if 12 ≤ q.n 0 1 then s.reply q Code.ST_BAD_PARAM [] 0
        else if bits v.toNat 22 10 ≠ 0 ∨ bits v.toNat 8 4 ≠ 0 then s.reply q Code.ST_RESERVED_NONZERO [] 0
        else if bits v.toNat 12 10 = 0 ∨ 1000 < bits v.toNat 12 10 ∨ bits v.toNat 0 8 = 0 then s.reply q Code.ST_BAD_PARAM [] 0
        else if s.tasksOf (q.n 0 1) = [] then (s.modCasm (q.n 0 1) fun c => { c with ccw := v }).reply q Code.ST_OK [] 0
        else s.reply q Code.ST_FIELD_BUSY [] 0)))

/-- CONTEXT forms 1 to 3 write geometry, SCALE and THR of a context that no descriptor names, and are refused ST_FIELD_BUSY while one does
(R314, R316); form 4 writes entries of both copies of the bit table at any time (R459). A casement, context, NSC, range or entry out of
its range is refused with ST_BAD_PARAM, and a non-zero byte behind the entries with ST_RESERVED_NONZERO. -/
def Obligations.ContextCommandsWriteTheirFields : Prop :=
  (∀ (s : State) (src : Nat) (q : Req),
    let c := s.casm (q.n 0 1)
    let v := c.ctxAt (q.n 1 1)
    let bad := 12 ≤ q.n 0 1 ∨ 8 ≤ q.n 1 1
    let put (w : LoadCtx) : State :=
      if c.ctxNamed (q.n 1 1) then s.reply q Code.ST_FIELD_BUSY [] 0
      else (s.modCasm (q.n 0 1) fun c => c.setCtx (q.n 1 1) w).reply q Code.ST_OK [] 0
    (s.serves src { op := 0x0709, form := some (2, 1), need := 8, cov := [(0, 3), (4, 4)], doms := casDoms } = some q →
        exec (.contextGeometry src) s =
          .next (if bad ∨ q.n 6 2 = 0 ∨ 4096 < q.n 6 2 then s.reply q Code.ST_BAD_PARAM [] 0
            else put { v with firstbin := BitVec.ofNat 16 (q.n 4 2), nsc := q.n 6 2 })) ∧
      (s.serves src { op := 0x0709, form := some (2, 2), need := 32, cov := [(0, 3), (8, 24)], doms := casDoms } = some q →
        exec (.contextScale src) s =
          .next (if bad then s.reply q Code.ST_BAD_PARAM [] 0 else put { v with scale := tfill 0 v.scale 1 (q.halves 12) })) ∧
      (s.serves src { op := 0x0709, form := some (2, 3), need := 32, cov := [(0, 3), (8, 24)], doms := casDoms } = some q →
        exec (.contextThreshold src) s =
          .next (if bad then s.reply q Code.ST_BAD_PARAM [] 0 else put { v with thr := tfill 0 v.thr 1 (q.halves 12) }))) ∧
  (∀ (s : State) (src : Nat) (q : Req),
    s.serves src { op := 0x0709, form := some (2, 4), need := 8, cov := [(0, 3), (4, 3), (8, 232)], doms := casDoms } = some q →
    let v := (s.casm (q.n 0 1)).ctxAt (q.n 1 1)
    let o := q.n 4 2
    let n := q.n 6 1
    exec (.contextBitTable src) s =
      .next (if 12 ≤ q.n 0 1 ∨ 8 ≤ q.n 1 1 ∨ n = 0 ∨ 100 < n ∨ q.pay.length < 8 + 2 * n then s.reply q Code.ST_BAD_PARAM [] 0
        else if q.clean [(0, 3), (4, 3), (8, 2 * n)] = false then s.reply q Code.ST_RESERVED_NONZERO [] 0
        else if v.nsc < o + n ∨ ∃ e ∈ q.halves n, 12 < entryBits e then s.reply q Code.ST_BAD_PARAM [] 0
        else (s.modCasm (q.n 0 1) fun c =>
          c.setCtx (q.n 1 1) { v with bits0 := tfill 0 v.bits0 o (q.halves n), bits1 := tfill 0 v.bits1 o (q.halves n) }).reply q
        Code.ST_OK [] 0))

/-- LINK_CFG with a legal record gives its lanes their rate and the link its setting, and with RATE 0 deletes it (R317); STREAM_OPEN
answers the lowest free number and the stream starts as its record says (R319); STREAM_CLOSE writes a whole block received and closes
(R459); GAIN queues a word on its port, at most 16, for a time that is not past (R329). What is out of range, reserved, busy or too fast
is refused with nothing changed. -/
def Obligations.StreamCommandsOpenAndClose : Prop :=
  (∀ (s : State) (src : Nat) (q : Req), s.serves src { op := 0x070A, need := 16, cov := [(0, 11), (12, 4)] } = some q →
    let x := q.n 0 1
    let l := linkOf q
    let rs := l.laneList.map fun i => (i, l.rate)
    let keep (i : Nat) : Bool := !l.laneList.contains i
    exec (.linkCfg src) s =
      .next (if 16 ≤ x ∨ 1 < q.n 1 1 ∨ 1 < q.n 0x0A 1 then s.reply q Code.ST_BAD_PARAM [] 0
        else if s.streamsOf x ≠ [] then s.reply q Code.ST_SET_BUSY [] 0
        else if l.rate = 0 then (s.setSlink x none).reply q Code.ST_OK [] 0
        else if l.ok = false then s.reply q Code.ST_BAD_PARAM [] 0
        else if s.linkBusy x l = true ∨ s.quadsFit rs keep = false then s.reply q Code.ST_LANE_BUSY [] 0
        else (((s.setQuadRates rs keep).modLanes l.laneList fun y => { y with rate := l.rate }).setSlink x (some l)).reply q Code.ST_OK [] 0)) ∧
  (∀ (s : State) (src : Nat) (q : Req), s.serves src { op := 0x070B, need := 37, cov := [(0, 37)], doms := casDoms } = some q →
    let st := streamOf q
    (8 ≤ q.n 3 1 → exec (.streamOpen src) s = .next (s.reply q Code.ST_RESERVED_NONZERO [] 0)) ∧
    (q.n 3 1 < 8 → (12 ≤ st.cas ∨ 16 ≤ st.link ∨ s.slink st.link = none) →
      exec (.streamOpen src) s = .next (s.reply q Code.ST_BAD_PARAM [] 0)) ∧
    (∀ l : StreamLink, q.n 3 1 < 8 → st.cas < 12 → st.link < 16 → s.slink st.link = some l →
      exec (.streamOpen src) s =
        .next (if l.rx ≠ st.rx ∨ l.m / 2 ≤ st.j ∨ st.ok q = false then s.reply q Code.ST_BAD_PARAM [] 0
          else if (s.task st.task).any (·.cas == st.cas) = false then s.reply q Code.ST_NO_TASK [] 0
          else if (∃ i ∈ l.laneList, (s.lane i).mode ≠ .stream) ∨ ∃ i ∈ s.streamsOf st.link, (s.stream i).any (·.j == st.j) = true then
            s.reply q Code.ST_LANE_BUSY [] 0
          else if s.streamTooFast st.cas l (!st.rx) st.taps then s.reply q Code.ST_STREAM_RATE [] 0
          else match (List.range 256).find? fun j => (s.stream j).isNone with
            | none => s.reply q Code.ST_RESOURCE_BUSY [] 0
            | some j => (s.setStream j (some st)).reply q Code.ST_OK (leBytes j 1) 0))) ∧
  (∀ (s : State) (src : Nat) (q : Req), s.serves src { op := 0x070C, need := 1, cov := [(0, 1)], doms := streamDoms } = some q →
    exec (.streamClose src) s =
      .next (match s.stream (q.n 0 1) with
        | none => s.reply q Code.ST_BAD_PARAM [] 0
        | some st =>
          ((if st.rx = true ∧ 128 ≤ st.rxBuf.length then s.rxBlock (q.n 0 1) st else s).closeStream (q.n 0 1)).reply q Code.ST_OK [] 0)) ∧
  (∀ (s : State) (src : Nat) (q : Req), s.serves src { op := 0x070E, need := 16, cov := [(0, 3), (4, 12)] } = some q →
    let f := s.fePort (q.n 0 1)
    let w : GainWord :=
      { bits := q.n 1 1, div := q.n 2 1, word := BitVec.ofNat 32 (q.n 4 4), at_ := if q.n 8 8 = 0 then none else some (q.n 8 8) }
    exec (.gain src) s =
      .next (if 3 < q.n 0 1 ∨ q.n 1 1 < 8 ∨ 32 < q.n 1 1 ∨ q.n 2 1 < 4 ∨ 64 < q.n 2 1 then s.reply q Code.ST_BAD_PARAM [] 0
        else if q.n 8 8 ≠ 0 ∧ q.n 8 8 < s.time.ns then s.reply q Code.CH_TIME_PAST [] 0
        else if 16 ≤ f.queue.length then s.reply q Code.ST_BUSY [] 0
        else (s.setFePort (q.n 0 1) { f with queue := f.queue ++ [w] }).reply q Code.ST_OK [] 0))

/-- STREAM_CFG forms 1 to 5 on an open transmit stream and 6 and 7 on an open receive stream (R460): FIR coefficients of a bank not in
use, the bank from the next symbol on (R323), UP and DOWN entries, which an A1 unit refuses during a burst and a B0 unit keeps for the
next ramp, and which between bursts land at once in place of what was kept (R12, R181, R324), the monitor's AVG and mask (R325), a
hypothesis with its reference read now or its removal (R326), and the capture policy (R327). A stream that is not open or of the other
direction, and values out of range, are refused. -/
def Obligations.StreamSettingsReachTheStream : Prop :=
  (∀ (s : State) (src : Nat) (q : Req) (form : Nat) (c : Instr),
    (form, c) ∈ [(1, Instr.firCoefficients src), (2, .firBankSelect src), (3, .rampUpTable src), (4, .rampDownTable src), (5, .maskMonitorCfg src),
      (7, .capturePolicy src)] →
    s.serves src
        { op := 0x070D, form := some (1, form), need := if form = 2 then 3 else 8,
          cov := [(0, if form = 2 then 3 else if form = 7 then 8 else 240)], doms := streamDoms } = some q →
    let ok (x : Stream) : State := (s.setStream (q.n 0 1) (some x)).reply q Code.ST_OK [] 0
    let no (e : Status) : State := s.reply q e [] 0
    let bad := no Code.ST_BAD_PARAM
    let table (hdr : List (Nat × Nat)) (n : Nat) (f : State) : State := match q.tableRefusal hdr n with | some e => no e | none => f
    let ramp (st : Stream) (base : Nat) : State :=
      table [(0, 4)] (q.n 3 1)
        (if q.n 3 1 = 0 ∨ 64 < q.n 2 1 + q.n 3 1 ∨ ∃ v ∈ q.halves (q.n 3 1), 32768 < v.toNat then bad
          else if st.burstOpen = false then
            ok { st with
              ramps := tfill 0 st.ramps (base + q.n 2 1) (q.halves (q.n 3 1))
              rampNext := tfill none st.rampNext (base + q.n 2 1) (List.replicate (q.n 3 1) none) }
          else if s.id.b0 then ok { st with rampNext := tfill none st.rampNext (base + q.n 2 1) ((q.halves (q.n 3 1)).map some) }
          else no Code.ST_FIELD_BUSY)
    exec c s =
      .next (match s.stream (q.n 0 1) with
        | none => bad
        | some st =>
          if st.rx ≠ (form == 7) then bad
          else match form with
            | 1 => table [(0, 3), (4, 3)] (q.n 6 1)
                (if 3 < q.n 2 1 ∨ q.n 6 1 = 0 ∨ 100 < q.n 6 1 ∨ 128 < q.n 4 2 + q.n 6 1 then bad
                  else if q.n 2 1 = st.bank then no Code.ST_FIELD_BUSY
                  else ok { st with fir := tfill 0 st.fir (q.n 2 1 * 128 + q.n 4 2) (q.halves (q.n 6 1)) })
            | 2 => if 3 < q.n 2 1 then bad else ok { st with bankNext := some (q.n 2 1) }
            | 3 => ramp st 0
            | 4 => ramp st 64
            | 5 => table [(0, 7)] (q.n 6 1)
                (if st.avg = 0 ∨ q.n 2 2 = 0 ∨ 256 < q.n 2 2 ∨ q.n 6 1 = 0 ∨ 100 < q.n 6 1 ∨ 256 < q.n 4 2 + q.n 6 1 then bad
                  else ok { st with avg := q.n 2 2, mask := tfill 0 st.mask (q.n 4 2) (q.halves (q.n 6 1)) })
            | _ =>
                if 2 < q.n 2 1 then bad
                else ok { st with policy := BitVec.ofNat 8 (q.n 2 1), swm := BitVec.ofNat 8 (q.n 3 1), maxlen := q.n 4 4 })) ∧
  (∀ (s : State) (src : Nat) (q : Req),
    s.serves src { op := 0x070D, form := some (1, 6), need := 4, cov := [(0, 11), (12, 4)], doms := streamDoms } = some q →
    (s.stream (q.n 0 1) = none → exec (.hypothesisCfg src) s = .next (s.reply q Code.ST_BAD_PARAM [] 0)) ∧
    ∀ st : Stream, s.stream (q.n 0 1) = some st →
      exec (.hypothesisCfg src) s =
        .next (if st.rx = false ∨ 7 < q.n 2 1 ∨ 1 < q.n 3 1 then s.reply q Code.ST_BAD_PARAM [] 0
          else if q.n 3 1 = 0 then
            (s.setStream (q.n 0 1) (some { st with hyp := tset {} st.hyp (q.n 2 1) {} })).reply q Code.ST_OK [] 0
          else if q.n 8 2 < 16 ∨ 1024 < q.n 8 2 ∨ inShared (q.n 4 4) (4 * q.n 8 2) = false then s.reply q Code.ST_BAD_PARAM [] 0
          else if st.searched = false ∧ (16 ≤ s.sumStreams (fun x => x.cas == st.cas && x.searched) (fun _ => 1) ∨
              64 ≤ s.sumStreams Stream.searched (fun _ => 1)) then s.reply q Code.ST_RESOURCE_BUSY [] 0
          else
            let (b, poison, u) := s.memRead (casAddr st.cas (q.n 4 4)) (4 * q.n 8 2)
            if poison then u.reply q Code.DI_POISON_READ [] 0
            else (u.setStream (q.n 0 1) (some
              { st with
                hyp := tset {} st.hyp (q.n 2 1)
                  { reflen := q.n 8 2
                    th := BitVec.ofNat 32 (q.n 0x0C 4)
                    pw := BitVec.ofNat 8 (q.n 0x0A 1)
                    ref := (wordsOf 4 (q.n 8 2) b).map (BitVec.ofNat 32) } })).reply q Code.ST_OK [] 0))

/-- A SYSREF edge aligns the extended multiblock clock of a link that has none, and in MONITOR a later edge off that clock counts
SYSREF_ERR and is posted (R318). A receiving link hands each multiblock's samples to its streams, words of stream j in its order with the
low 16 − N bits ignored (R317), each stream from its start on (R319), zeros counted as loss while lock is lost, CRC_ERR counted and the
samples kept on a CRC error (R322); the first multiblock of an extended one stamps the lanes. The first loss of lock is posted, and
delivery resumes with lock (R322). A link that does not receive, or a multiblock of a wrong length, does nothing. One block of a receive
stream goes to the ring at WR, which advances by 128; a block that would pass RD + RLEN is lost; BLK samples on the task's flag is set
(R321). A transmit stream sends zeros before its start, then reads its 128 samples from the ring and sends zero for those not present,
which are lost (R321); they leave shaped, with the low bits zero (R317, R323, R324). Either waits while a drain holds its path (R119) or
its louvre has no tokens (R319). -/
def Obligations.StreamBlocksMoveBetweenLinkAndRing : Prop :=
  ((∀ (s : State) (clk : Nat),
    exec (.sysrefEdge clk) s = .next ((List.range 16).foldl (fun u i => u.sysrefLink clk i) s) ∧
      ∀ (u : State) (i : Nat),
        (u.slink i = none → u.sysrefLink clk i = u) ∧
        ∀ l, u.slink i = some l →
          (l.lemc = none → u.sysrefLink clk i = u.setSlink i (some { l with lemc := some clk })) ∧
          ∀ c, l.lemc = some c →
            ((l.monitor = false ∨ (clk - c) * 100 * l.rate % (l.e * 2112 * 15625) = 0) → u.sysrefLink clk i = u) ∧
            (l.monitor = true → (clk - c) * 100 * l.rate % (l.e * 2112 * 15625) ≠ 0 →
              u.sysrefLink clk i =
                (u.setSlink i (some { l with sysrefErr := satInc l.sysrefErr })).postLane Code.ST_OK 0xFF l.l0 4 0 0)) ∧
  (∀ (s : State) (x : Fin 16) (ok : Bool) (ws : List (BitVec 32)),
    ((∀ l, s.slink x.val = some l → l.rx = false ∨ ws.length ≠ 64 * l.lanes) → exec (.streamRxMultiblock x ok ws) s = .next s) ∧
    ∀ l, s.slink x.val = some l → l.rx = true → ws.length = 64 * l.lanes →
      let u := if l.mb = 0 then s.modLanes l.laneList fun y => { y with phy := { y.phy with lastRx := s.stamp } } else s
      exec (.streamRxMultiblock x ok ws) s =
        .next ((u.forStreams (u.streamsOf x.val) fun u k st => u.rxDeliver l ok ws k st).setSlink x.val
          (some { l with mb := (l.mb + 1) % l.e }))) ∧
  (∀ (s : State) (l : StreamLink) (ok : Bool) (ws : List (BitVec 32)) (k : Nat) (st : Stream),
    let starts := l.mb = 0 ∧ st.start ≤ s.time.ns
    let u := if st.started then s else s.streamStart st
    let xs := l.samplesOf st.j ws
    let put (ys : List Word) : State := u.setStream k (some { st with started := true, rxBuf := st.rxBuf ++ ys })
    let v := if l.lock then put xs else (put (xs.map fun _ => 0)).streamLoss st (st.idx + st.rxBuf.length) xs.length
    (st.started = false → ¬starts → s.rxDeliver l ok ws k st = s) ∧
    (st.started = true ∨ starts →
      (ok = true → s.rxDeliver l ok ws k st = v) ∧
      (ok = false → s.rxDeliver l ok ws k st =
        (((v.cbRead st 0x30 4).2.cbWrite st 0x30 4 ((v.cbRead st 0x30 4).1 + 1)).cbFlag st 4).streamFlag st)) ∧
    xs = ((List.range ws.length).filter fun i => i / l.s % (l.m / 2) == st.j).map fun i => l.trim (ws.getD i 0)) ∧
  (∀ (s : State) (x : Fin 16),
    ((∀ l, s.slink x.val = some l → l.rx = false ∨ l.lock = false) → exec (.streamLockLoss x) s = .next s) ∧
    ((∀ l, s.slink x.val = some l → l.rx = false ∨ l.lock = true) → exec (.extendedMultiblockLockReturn x) s = .next s) ∧
    ∀ l, s.slink x.val = some l → l.rx = true →
      (l.lock = true →
        let u := (s.setSlink x.val (some { l with lock := false, lossPosted := true })).forStreams (s.streamsOf x.val) fun u _ st => u.cbFlag st 1
        exec (.streamLockLoss x) s = .next (if l.lossPosted then u else u.postLane Code.ST_OK 0xFF l.l0 3 0 0)) ∧
      (l.lock = false →
        exec (.extendedMultiblockLockReturn x) s =
          .next ((s.setSlink x.val (some { l with lock := true, mb := 0 })).forStreams (s.streamsOf x.val) fun u _ st =>
            (u.cbRead st 0x34 4).2.cbWrite st 0x34 4 ((u.cbRead st 0x34 4).1 - (u.cbRead st 0x34 4).1 % 2))))) ∧
  ((∀ (s : State) (k : Fin 256),
    ((∀ st, s.stream k.val = some st → st.rx = false ∨ st.rxBuf.length < 128 ∨ s.streamHeld st = true) →
      exec (.streamRxBlock k) s = .next s) ∧
    ∀ st, s.stream k.val = some st → st.rx = true → 128 ≤ st.rxBuf.length → s.streamHeld st = false →
      (s.louvreTake (s.streamStop st).1 false 9 = none → exec (.streamRxBlock k) s = .next s) ∧
      ∀ u, s.louvreTake (s.streamStop st).1 false 9 = some u →
        let rd := (u.cbRead st 8 8).1
        let v := (u.cbRead st 8 8).2.setStream k.val (some { st with rxBuf := st.rxBuf.drop 128, idx := st.idx + 128 })
        let w := (if st.idx + 128 ≤ rd + st.rlen then
            v.memWrite (casAddr st.cas st.ring + 4 * (st.idx % st.rlen)) ((st.rxBuf.take 128).flatMap fun w => leBytes w.toNat 4)
          else v.streamLoss st st.idx 128).cbWrite st 0 8 (st.idx + 128)
        exec (.streamRxBlock k) s = .next (if (st.idx + 128) % st.blk = 0 then w.streamFlag st else w)) ∧
  (∀ (s : State) (k : Fin 256) (late : Bool),
    ((∀ st, s.stream k.val = some st → st.rx = true) → exec (.streamTxFetch k late) s = .next s) ∧
    ∀ st, s.stream k.val = some st → st.rx = false →
      let early := st.started = false ∧ s.time.ns < st.start
      (early → exec (.streamTxFetch k late) s =
        .next (s.setStream k.val (some { st with txOut := List.replicate (128 * st.interp) 0 }))) ∧
      (¬early → s.streamHeld st = true ∨ s.louvreTake (s.streamStop st).1 true 9 = none → exec (.streamTxFetch k late) s = .next s) ∧
      ∀ w, ¬early → s.streamHeld st = false → s.louvreTake (s.streamStop st).1 true 9 = some w →
        let u := if st.started then w else
          (w.streamStart st).modLanes (match w.slink st.link with | some l => l.laneList | none => []) fun x =>
            { x with phy := { x.phy with lastTx := w.stamp } }
        let m := if late then 0 else min 128 ((u.cbRead st 0 8).1 - st.idx)
        let r := (u.cbRead st 0 8).2.memRead (casAddr st.cas st.ring + 4 * (st.idx % st.rlen)) (4 * m)
        let xs := (List.range m).map (fun j => BitVec.ofNat 32 (fld r.1 (4 * j) 4)) ++ List.replicate (128 - m) 0
        let y := st.send st.idx xs
        let live := y.2.bursts.filter fun b => decide ((st.idx + 128) * st.interp < b.first + b.len)
        let out := y.1.map fun x => match r.2.2.slink st.link with | some l => l.trim x | none => x
        let v := (r.2.2.setStream k.val (some { y.2 with txOut := out, idx := st.idx + 128, started := true, bursts := live })).cbWrite st 8 8
          (st.idx + 128)
        exec (.streamTxFetch k late) s = .next (if m < 128 then v.streamLoss st (st.idx + m) (128 - m) else v) ∧
          y.1.length = 128 * st.interp))

/-- The mask monitor counts MASK_OVER and sends the average's first sample, the bins over, the worst bin and its excess when a bin exceeds
its mask, and only goes on to the next average when none does (R325). Of a detection's candidates that are on and reach their threshold
the strongest counts, the lower hypothesis among equals (R326), and the others are ALIASED; with none, or a place not yet received,
nothing happens; with four items held, or no room for its items, it is MISSED (R328); with no path by the policy it is IGNORED; otherwise
it takes its path with a SYNC item, after a PREEMPTED item of the packet it displaces (R327, R328). MAXLEN samples on a path is free with
a TRUNCATED item (R327). A gain port sends its oldest word once that word's AT has come (R329). -/
def Obligations.StreamMonitorsAndGainPorts : Prop :=
  (∀ (s : State) (k : Fin 256) (bins : List Int),
    ((∀ st, s.stream k.val = some st → st.rx = true ∨ st.avg = 0 ∨ bins.length ≠ 256 ∨ st.idx * st.interp < st.monAt + 256 * st.avg) →
      exec (.maskMonitorAverage k bins) s = .next s) ∧
    ∀ st, s.stream k.val = some st → st.rx = false → st.avg ≠ 0 → bins.length = 256 → st.monAt + 256 * st.avg ≤ st.idx * st.interp →
      let excess (j : Nat) : Int := bins.getD j 0 - (tget 0 st.mask j).toInt
      let n := (List.range 256).countP fun j => decide (0 < excess j)
      let x : Stream := { st with monAt := st.monAt + 256 * st.avg }
      (n = 0 → exec (.maskMonitorAverage k bins) s = .next (s.setStream k.val (some x))) ∧
      ∀ j, j < 256 → 0 < excess j → (∀ i, i < 256 → excess i ≤ excess j ∧ (i < j → excess i < excess j)) →
        exec (.maskMonitorAverage k bins) s =
          .next ((s.setStream k.val (some { x with maskOver := satInc st.maskOver })).streamItem k.val 0
            (leBytes st.monAt 8 ++ leBytes n 2 ++ leBytes j 2 ++ leBytes (BitVec.ofInt 16 (excess j)).toNat 2))) ∧
  (∀ (s : State) (k : Fin 256) (p : BitVec 64) (g : Int) (cands : List (Nat × BitVec 32)),
    (s.stream k.val = none → exec (.packetDetect k p g cands) s = .next s) ∧
    ∀ st, s.stream k.val = some st →
      let on (c : Nat × BitVec 32) : Prop := c ∈ cands ∧ c.1 < 8 ∧ (tget {} st.hyp c.1).reflen ≠ 0 ∧
        (tget {} st.hyp c.1).th.toNat * 65536 ≤ c.2.toNat
      ((∀ c, ¬on c) ∨ st.rx = false ∨ st.idx + st.rxBuf.length ≤ p.toNat → exec (.packetDetect k p g cands) s = .next s) ∧
      ∀ h rho, on (h, rho) → (∀ c, on c → c.2.toNat < rho.toNat ∨ (c.2 = rho ∧ h ≤ c.1)) → st.rx = true → p.toNat < st.idx + st.rxBuf.length →
        let n := cands.countP fun c =>
          decide (c.1 < 8 ∧ (tget {} st.hyp c.1).reflen ≠ 0 ∧ (tget {} st.hyp c.1).th.toNat * 65536 ≤ c.2.toNat)
        let x : Stream := { st with aliased := satAdd st.aliased (n - 1) }
        let room := match s.task st.task with | some t => if st.heldItems.isEmpty then t.qdepth - t.queue.length else 0 | none => 0
        let missed : Prop := exec (.packetDetect k p g cands) s = .next (s.setStream k.val (some { x with missed := satInc st.missed }))
        let taken (path : Nat) : State := s.setStream k.val (some (x.setPath path (some { p := p.toNat, strength := g })))
        let sync (u : State) (path : Nat) : State := u.streamItem k.val 1 (searchUser p.toNat g (rho.toNat / 65536) h path)
        (4 ≤ st.heldItems.length → missed) ∧
        (st.heldItems.length < 4 →
          (st.choosePath g = none →
            exec (.packetDetect k p g cands) s = .next (s.setStream k.val (some { x with ignored := satInc st.ignored }))) ∧
          (∀ path, st.choosePath g = some (path, none) →
            (room + 4 < st.heldItems.length + 1 → missed) ∧
            (st.heldItems.length + 1 ≤ room + 4 → exec (.packetDetect k p g cands) s = .next (sync (taken path) path))) ∧
          (∀ path c, st.choosePath g = some (path, some c) →
            (room + 4 < st.heldItems.length + 2 → missed) ∧
            (st.heldItems.length + 2 ≤ room + 4 → exec (.packetDetect k p g cands) s =
              .next (sync ((taken path).streamItem k.val 2 (searchUser c.p c.strength 0 0 path)) path))))) ∧
  (∀ (st : Stream) (g : Int),
    (st.path0 = none → st.choosePath g = some (0, none)) ∧
    ∀ a, st.path0 = some a →
      let beats (c : Capture) : Prop := c.strength + st.swm.toNat ≤ g
      (st.policy = 0 → st.choosePath g = none) ∧
      (st.policy = 1 → (beats a → st.choosePath g = some (0, some a)) ∧ (¬beats a → st.choosePath g = none)) ∧
      (st.policy = 2 →
        (st.path1 = none → st.choosePath g = some (1, none)) ∧
        ∀ b, st.path1 = some b →
          (a.strength ≤ b.strength → (beats a → st.choosePath g = some (0, some a)) ∧ (¬beats a → st.choosePath g = none)) ∧
          (b.strength < a.strength → (beats b → st.choosePath g = some (1, some b)) ∧ (¬beats b → st.choosePath g = none)))) ∧
  (∀ (s : State) (k : Fin 256) (path : Fin 2),
    let on (st : Stream) : Option Capture := if path.val = 0 then st.path0 else st.path1
    ((∀ st c, s.stream k.val = some st → on st = some c → st.idx + st.rxBuf.length < c.p + st.maxlen) →
      exec (.captureTruncate k path) s = .next s) ∧
    ∀ st c, s.stream k.val = some st → on st = some c → c.p + st.maxlen ≤ st.idx + st.rxBuf.length →
      exec (.captureTruncate k path) s =
        .next ((s.setStream k.val (some (if path.val = 0 then { st with path0 := none } else { st with path1 := none }))).streamItem k.val 3
          (searchUser c.p c.strength 0 0 path.val))) ∧
  (∀ (s : State) (n : Fin 4),
    ((s.fePort n.val).queue = [] → exec (.gainWordSend n) s = .next s) ∧
    ∀ g q, (s.fePort n.val).queue = g :: q →
      (g.at_.getD 0 ≤ s.time.ns →
        exec (.gainWordSend n) s =
          .next (s.setFePort n.val
            { s.fePort n.val with div := g.div, queue := q, sent := (g.bits, g.word) :: (s.fePort n.val).sent, csn := true })) ∧
      (s.time.ns < g.at_.getD 0 → exec (.gainWordSend n) s = .next s))

/-- The register instructions of a core that issues (R289, R290, R292): each does its operation on the core's registers as often as a REP
says, PC moves on by one and its cycles count, and a stop that waited for the REP takes effect; a core that issues nothing executes none.
MUL, MAC, MSU and CMAC work on 16 accumulators, saturated to 40 bits with OVF; NARROW rounds half up and saturates to 16 bits with OVF;
the vector ALU works lane by lane, add and subtract saturating; the scalar ALU wraps at 32 bits, ADD, SUB and CMP setting Z and N; CLRF
clears OVF (R288; its place among the scalar rows is the model's choice, log entry 94); SETA, SETB and SETL load an address register; TIME
reads linear device time. VPERM, and a shift by the width or more, are free values (log entry 9). -/
def Obligations.DspInstructionsOnRegisters : Prop :=
  (∀ (s : State) (k : Fin 12) (c : Fin 8) (n : Nat), s.issuing k.val c.val = some n →
    let r := s.core k.val c.val
    let row (cmd : Instr) (cycles : Nat) (f : CoreRegs → CoreRegs) (u : State) : Prop :=
      exec cmd s = .next ((u.issued k.val c.val n (cycles * r.rep) (reps f r.rep r)).stopAtEnd n)
    (∀ x y : Fin 8,
      row (.dspMul k c x y) 1 (fun r => r.setAccs fun i => vlane (r.vreg x.val) i * vlane (r.vreg y.val) i) s ∧
      row (.dspMac k c x y) 1 (fun r => r.setAccs fun i => (r.accr i).toInt + vlane (r.vreg x.val) i * vlane (r.vreg y.val) i) s ∧
      row (.dspMsu k c x y) 1 (fun r => r.setAccs fun i => (r.accr i).toInt - vlane (r.vreg x.val) i * vlane (r.vreg y.val) i) s ∧
      row (.dspCmac k c x y) 2 (fun r => r.setAccs fun i => (r.accr i).toInt + cmacLane (r.vreg x.val) (r.vreg y.val) i) s) ∧
    (∀ (v : Fin 8) (m : Fin 25),
      row (.dspNarrow k c v m) 1
        (fun r => (r.setV v.val (vpack fun i => satTo 16 (narrow m.val (r.accr i).toInt))).ovfIf
          ((List.range 16).any fun i => satTo 16 (narrow m.val (r.accr i).toInt) != narrow m.val (r.accr i).toInt)) s) ∧
    (∀ (op : VecOp) (d a b : Fin 8),
      row (.dspVectorAlu k c op d a b) 1 (fun r => r.setV d.val (vecAlu op (r.vreg a.val) (r.vreg b.val) (free256 s.freeCtr)))
        { s with freeCtr := s.freeCtr + 2 }) ∧
    (∀ (op : ScalOp) (d a : Fin 16) (b : ScalArg),
      row (.dspScalarAlu k c op d a b) (if op = .muls then 2 else 1)
        (fun r => r.scalAlu op d.val (r.sreg a.val) (r.arg b) (Config.freeWord s.freeCtr)) { s with freeCtr := s.freeCtr + 1 }) ∧
    (∀ (g : Fin 8) (b : ScalArg),
      row (.dspSetAddress k c .a g b) 1 (fun r => { r with a := tset 0 r.a g.val ((r.arg b).setWidth 22) }) s ∧
      row (.dspSetAddress k c .b g b) 1 (fun r => { r with b := tset 0 r.b g.val ((r.arg b).setWidth 22) }) s ∧
      row (.dspSetAddress k c .l g b) 1 (fun r => { r with l := tset 0 r.l g.val ((r.arg b).setWidth 22) }) s) ∧
    (∀ d : Fin 16,
      row (.dspTime k c d) 1
        (fun r =>
          let y := r.setS d.val (BitVec.ofNat 32 s.time.ns)
          if d.val < 15 then y.setS (d.val + 1) (BitVec.ofNat 32 (s.time.ns / 2 ^ 32)) else y) s)) ∧
  (∀ (s : State) (k : Fin 12) (c : Fin 8), s.issuing k.val c.val = none →
    (∀ (x y v g : Fin 8) (m : Fin 25) (e : Fin 16) (w : AddrReg) (q : ScalArg),
      ∀ cmd ∈ [Instr.dspMul k c x y, .dspMac k c x y, .dspMsu k c x y, .dspCmac k c x y, .dspNarrow k c v m, .dspSetAddress k c w g q,
        .dspTime k c e], exec cmd s = .next s) ∧
    (∀ (op : VecOp) (d a b : Fin 8), exec (.dspVectorAlu k c op d a b) s = .next { s with freeCtr := s.freeCtr + 2 }) ∧
    (∀ (op : ScalOp) (d a : Fin 16) (b : ScalArg), exec (.dspScalarAlu k c op d a b) s = .next { s with freeCtr := s.freeCtr + 1 })) ∧
  (∀ (r : CoreRegs) (f : Nat → Int) (i : Nat), i < 16 →
    ((r.setAccs f).accr i).toInt = (if f i < -(2 ^ 39) then -(2 ^ 39) else if 2 ^ 39 - 1 < f i then 2 ^ 39 - 1 else f i) ∧
      ((r.setAccs f).ovf = true ↔ r.ovf = true ∨ ∃ j, j < 16 ∧ (f j < -(2 ^ 39) ∨ 2 ^ 39 - 1 < f j)) ∧
      (r.setAccs f).v = r.v ∧ (r.setAccs f).s = r.s ∧ (r.setAccs f).a = r.a ∧ (r.setAccs f).pc = r.pc) ∧
  (∀ (m : Nat) (a : Int), 1 ≤ m → narrow m a = (a + 2 ^ (m - 1)) / 2 ^ m) ∧ (∀ a : Int, narrow 0 a = a) ∧
  (∀ (a b f : BitVec 256) (i : Nat), i < 16 →
    vlane (vecAlu .vadd a b f) i = max (-32768) (min 32767 (vlane a i + vlane b i)) ∧
    vlane (vecAlu .vsub a b f) i = max (-32768) (min 32767 (vlane a i - vlane b i)) ∧
    (vamount b i < 16 → vlane (vecAlu .vshl a b f) i = (BitVec.ofInt 16 (vlane a i * 2 ^ vamount b i)).toInt ∧
      vlane (vecAlu .vsar a b f) i = vlane a i / 2 ^ vamount b i) ∧
    vecAlu .vand a b f = a &&& b ∧ vecAlu .vor a b f = a ||| b ∧ vecAlu .vxor a b f = a ^^^ b) ∧
  (∀ (r : CoreRegs) (d : Nat) (a b f : Word),
    (r.scalAlu .add d a b f).sreg d = a + b ∧ (r.scalAlu .add d a b f).z = (a + b == 0) ∧ (r.scalAlu .add d a b f).n = (a + b).msb ∧
    (r.scalAlu .sub d a b f).sreg d = a - b ∧ (r.scalAlu .sub d a b f).z = (a - b == 0) ∧ (r.scalAlu .sub d a b f).n = (a - b).msb ∧
    (r.scalAlu .cmp d a b f).s = r.s ∧ (r.scalAlu .cmp d a b f).z = (a - b == 0) ∧ (r.scalAlu .cmp d a b f).n = (a - b).msb ∧
    (b.toNat < 32 → (r.scalAlu .shl d a b f).sreg d = a <<< b.toNat ∧ (r.scalAlu .shr d a b f).sreg d = a >>> b.toNat ∧
      (r.scalAlu .sar d a b f).sreg d = a.sshiftRight b.toNat) ∧ r.scalAlu .clrf d a b f = { r with ovf := false })

/-- Loads, stores, branches and REP of a core that issues (R289, R291, R292). An access at its address generator moves 32 or 4 bytes and
then the address, linear or circular; in a REP the accesses follow one another and the instruction ends with the last; a bad address ends
the job with TF_JOB_FAULT and a poisoned load with DI_POISON_READ (R307). A taken branch goes to its target in 2 cycles and one not taken
to the next instruction in 1; CALL notes where RET goes back to, and a RET without a CALL goes to a free place (log entry 9). REP takes 1
to 65,536 and anything else does nothing. A core that issues nothing executes none. -/
def Obligations.DspMemoryAndFlow : Prop :=
  (∀ (s : State) (k : Fin 12) (c g v : Fin 8) (e : Fin 16) (d : Int),
    let r := s.core k.val c.val
    let vld (s : State) (a : Nat) (r : CoreRegs) := (r.setV v.val (BitVec.ofNat 256 (leNat (s.memRead a 32).1)), (s.memRead a 32).2.1, (s.memRead a 32).2.2)
    let vst (s : State) (a : Nat) (r : CoreRegs) := (r, false, s.memWrite a (leBytes (r.vreg v.val).toNat 32))
    let sld (s : State) (a : Nat) (r : CoreRegs) := (r.setS e.val (BitVec.ofNat 32 (leNat (s.memRead a 4).1)), (s.memRead a 4).2.1, (s.memRead a 4).2.2)
    let sst (s : State) (a : Nat) (r : CoreRegs) := (r, false, s.memWrite a (leBytes (r.sreg e.val).toNat 4))
    (∀ n, s.issuing k.val c.val = some n →
      exec (.dspVld k c v g d) s = .next (s.dspMemReps k.val c.val n 32 g.val d vld r.rep r) ∧
      exec (.dspVst k c v g d) s = .next (s.dspMemReps k.val c.val n 32 g.val d vst r.rep r) ∧
      exec (.dspSld k c e g d) s = .next (s.dspMemReps k.val c.val n 4 g.val d sld r.rep r) ∧
      exec (.dspSst k c e g d) s = .next (s.dspMemReps k.val c.val n 4 g.val d sst r.rep r)) ∧
    (s.issuing k.val c.val = none → ∀ (op : FlowOp) (to_ : BitVec 11) (m : Nat),
      ∀ cmd ∈ [Instr.dspVld k c v g d, .dspVst k c v g d, .dspSld k c e g d, .dspSst k c e g d, .dspBranch k c op to_, .dspRep k c m],
        exec cmd s = .next s)) ∧
  (∀ (s : State) (k c n w g m : Nat) (d : Int) (act : State → Nat → CoreRegs → CoreRegs × Bool × State) (r : CoreRegs),
    let a := (tget 0 r.a g).toNat
    let q := act s (coreAddr k c a) r
    s.dspMemReps k c n w g d act 0 r = (s.issued k c n r.rep r).stopAtEnd n ∧
    (r.genOk g w d = false → s.dspMemReps k c n w g d act (m + 1) r = s.faultTask n Code.TF_JOB_FAULT r.pc.toNat a) ∧
    (r.genOk g w d = true → q.2.1 = true →
      s.dspMemReps k c n w g d act (m + 1) r = q.2.2.faultTask n Code.DI_POISON_READ r.pc.toNat (coreAddr k c a)) ∧
    (r.genOk g w d = true → q.2.1 = false →
      s.dspMemReps k c n w g d act (m + 1) r =
        q.2.2.dspMemReps k c n w g d act m { q.1 with a := tset 0 q.1.a g (r.genNext g d) })) ∧
  (∀ (r : CoreRegs) (g : Nat) (d : Int), g < 8 →
    let a : Int := (tget 0 r.a g).toNat
    let b : Int := (tget 0 r.b g).toNat
    let l : Int := (tget 0 r.l g).toNat
    (l = 0 → r.genNext g d = BitVec.ofInt 22 (a + d)) ∧ (l ≠ 0 → r.genNext g d = BitVec.ofInt 22 (b + (a - b + d) % l))) ∧
  (∀ (s : State) (k : Fin 12) (c : Fin 8) (n : Nat) (op : FlowOp) (to_ : BitVec 11), s.issuing k.val c.val = some n →
    let r := s.core k.val c.val
    let taken : Bool := match op with | .brZ => r.z | .brNZ => !r.z | .brN => r.n | .brNN => !r.n | _ => true
    let open_ : BitVec 11 := (Config.freeWord s.freeCtr).setWidth 11
    let q : CoreRegs :=
      { r with
        pc := if op = .ret then r.ret.headD open_ else to_
        ret := if op = .call then (r.pc + 1) :: r.ret else if op = .ret then r.ret.tail else r.ret
        rep := 1 }
    (taken = true → exec (.dspBranch k c op to_) s =
      .next (({ s with freeCtr := s.freeCtr + 1 }.setCore k.val c.val q).modTask n fun t => { t with used := t.used + 2 })) ∧
    (taken = false → exec (.dspBranch k c op to_) s = .next (s.issued k.val c.val n 1 r))) ∧
  (∀ (s : State) (k : Fin 12) (c : Fin 8) (n m : Nat), s.issuing k.val c.val = some n →
    let r := s.core k.val c.val
    (1 ≤ m → m ≤ 65536 → exec (.dspRep k c m) s =
      .next ((s.setCore k.val c.val { r with pc := r.pc + 1, rep := m }).modTask n fun t => { t with used := t.used + 1 })) ∧
    (m = 0 ∨ 65536 < m → exec (.dspRep k c m) s = .next s))

/-- The dispatcher instructions of a job that runs (R294, R296, R297, R299 to R301): each is over in 4 cycles, does its work, and the
dispatcher then settles what it can. A WAIT observes its flags or makes the task wait; SIGNAL sets flags 0 to 27; ENQ and ENQN put an item
at the end of a queue with room, and a full one makes the producer wait or sets Z; a task of another casement gets neither; DEQ takes the
oldest item whose flow is free or waits; SLEEP delays to the n-th tick; DONE ends the job; XFER queues a transfer, which begins once it is
the oldest; SUBMIT and ACCEL take a record from casement memory: a bad address or a bad descriptor ends the job with TF_JOB_FAULT, a
poisoned record with DI_POISON_READ (R307, R309), and a full descriptor queue stalls the core (R310). -/
def Obligations.DspDispatcherInstructions : Prop :=
  (∀ (s : State) (k : Fin 12) (c : Fin 8), (∀ n, s.issuing k.val c.val = some n → s.task n = none) →
    ∀ (m : BitVec 32) (all keep : Bool) (task z : Nat) (i : BitVec 256) (d : XferDesc) (a : BitVec 22),
      ∀ cmd ∈ [Instr.dspWait k c m all keep, .dspSignal k c task m, .dspEnq k c task i, .dspEnqn k c task i, .dspDeq k c, .dspSleep k c z,
        .dspDone k c, .dspXfer k c d, .dspSubmit k c a, .dspAccel k c a], exec cmd s = .next s) ∧
  ∀ (s : State) (k : Fin 12) (c : Fin 8) (n : Nat) (x : TaskCtx), s.issuing k.val c.val = some n → s.task n = some x →
    let r := s.core k.val c.val
    let ended (u : State) (r : CoreRegs) : State := u.issued k.val c.val n 4 r
    let row (cmd : Instr) (u : State) : Prop := exec cmd s = .next (u.settleCas k.val)
    (∀ (m : BitVec 32) (all keep : Bool),
      (waitOk m all x.flagWord = true → row (.dspWait k c m all keep) (ended (s.setTask n (some (x.observe m keep))) r)) ∧
      (waitOk m all x.flagWord = false → row (.dspWait k c m all keep) (s.suspend k.val c.val n (.waitFlags m all keep)))) ∧
    (∀ (task : Nat) (m : BitVec 32),
      row (.dspSignal k c task m) (if ((ended s r).task task).any (·.cas == k.val) then (ended s r).setFlags task m else ended s r)) ∧
    (∀ (task : Nat) (i : BitVec 256),
      (∀ y, s.task task = some y → y.cas = k.val →
        (y.queue.length < y.qdepth → row (.dspEnq k c task i) ((ended s r).enqueue task i) ∧ row (.dspEnqn k c task i) ((ended s r).enqueue task i)) ∧
        (y.qdepth ≤ y.queue.length →
          row (.dspEnq k c task i) (s.suspend k.val c.val n (.waitSlot task i)) ∧ row (.dspEnqn k c task i) (ended s { r with z := true }))) ∧
      ((∀ y, s.task task = some y → y.cas ≠ k.val) → row (.dspEnq k c task i) (ended s r) ∧ row (.dspEnqn k c task i) (ended s r))) ∧
    (let u := s.setTask n (some { x with inService := none })
     (∀ i, u.nextItem k.val x.queue = some i →
       row (.dspDeq k c) ((u.takeItem n i).issued k.val c.val n 4 ((u.takeItem n i).core k.val c.val))) ∧
     (u.nextItem k.val x.queue = none → row (.dspDeq k c) (u.suspend k.val c.val n .waitItem))) ∧
    (∀ m : Nat,
      (1 ≤ m → m < 2 ^ 24 →
        row (.dspSleep k c m) ((s.suspend k.val c.val n (.delayed ((s.casm k.val).tickAfter s.time.ns m))).modCasm k.val fun y =>
          { y with delays := y.delays ++ [n] })) ∧
      (m = 0 ∨ 2 ^ 24 ≤ m → row (.dspSleep k c m) s)) ∧
    row (.dspDone k c) ((s.modTask n fun t => { t with used := t.used + 4 }).endTask n Code.ST_OK) ∧
    (∀ d : XferDesc,
      row (.dspXfer k c d) (((ended s r).modCasm k.val fun y =>
        { y with xfers := y.xfers ++ [⟨d.toUnit, d.casAddr.toNat, d.unitAddr.toNat, d.lines, d.task, d.flag.val, n, c.val, false, 0, none⟩] }).xferIssue k.val)) ∧
    (∀ a : BitVec 22,
      let m := s.memRead (coreAddr k.val c.val a.toNat) 72
      (coreRange a.toNat 72 = false → row (.dspSubmit k c a) (s.faultTask n Code.TF_JOB_FAULT r.pc.toNat a.toNat)) ∧
      (coreRange a.toNat 72 = true → m.2.1 = true → row (.dspSubmit k c a)
        (m.2.2.faultTask n Code.DI_POISON_READ r.pc.toNat (m.2.2.firstBad (coreAddr k.val c.val a.toNat) 72))) ∧
      (coreRange a.toNat 72 = true → m.2.1 = false →
        row (.dspSubmit k c a) ((m.2.2.issued k.val c.val n 4 r).submit k.val m.1 false).2.2.2)) ∧
    (∀ a : BitVec 22,
      let m := s.memRead (coreAddr k.val c.val a.toNat) 64
      (coreRange a.toNat 64 = false → row (.dspAccel k c a) (s.faultTask n Code.TF_JOB_FAULT r.pc.toNat a.toNat)) ∧
      (coreRange a.toNat 64 = true → m.2.1 = true → row (.dspAccel k c a)
        (m.2.2.faultTask n Code.DI_POISON_READ r.pc.toNat (m.2.2.firstBad (coreAddr k.val c.val a.toNat) 64))) ∧
      (coreRange a.toNat 64 = true → m.2.1 = false → (kindUnit (fld m.1 0 1) = none ∨ m.2.2.accelOk k.val m.1 = false) →
        row (.dspAccel k c a) (m.2.2.faultTask n Code.TF_JOB_FAULT r.pc.toNat a.toNat)) ∧
      (∀ u : AccelUnit, coreRange a.toNat 64 = true → m.2.1 = false → kindUnit (fld m.1 0 1) = some u → m.2.2.accelOk k.val m.1 = true →
        let q := (m.2.2.casm k.val).queueOf u
        (32 ≤ q.length → row (.dspAccel k c a) (m.2.2.modCasm k.val fun y =>
          { y with accStall := if y.accStall.any (·.1 == c.val) then y.accStall else y.accStall ++ [(c.val, a.toNat)] })) ∧
        (q.length < 32 → row (.dspAccel k c a) ((m.2.2.issued k.val c.val n 4 r).modCasm k.val fun y =>
          ({ y with accStall := y.accStall.filter (·.1 != c.val) } : Casement).setQueue u (q ++ [⟨a.toNat, m.1, n, c.val, none, false, false⟩])))))

/-- The dispatcher's own events (R301 to R305). At a tick boundary every delay that has expired ends, in the order the delays began, with
TIMER set. A READY job that outranks the one on its core takes the core outside a REP, and the other returns to the head of its level. A
DEADLINE job that has used its budget ends with TF_JOB_OVERRUN. When every line of the oldest transfer has been answered its flag is set,
or after a refused or poisoned one the job that posted it ends, and the next transfer begins (R289, R297, R307). In every other case these
rows change nothing. An ended task is gone from its casement's lists. -/
def Obligations.DispatcherEventsMoveTasks : Prop :=
  (∀ (s : State) (k : Fin 12),
    let due := (s.casm k.val).delays.filter fun n =>
      match s.task n with | some t => (match t.state with | .delayed u => decide (u ≤ s.time.ns) | _ => false) | none => false
    exec (.tickBoundary k) s =
      .next ((due.foldl (fun s n => (s.modTask n fun t => { t with flags := t.flags ||| 0x20000000 }).makeReady n false) s).settleCas k.val)) ∧
  (∀ (s : State) (k : Fin 12) (c : Fin 8) (n : Nat),
    let takes (t : TaskCtx) : Prop := t.cas = k.val ∧ s.mayRun c.val t = true ∧ s.victim t = some c.val ∧ (s.core k.val c.val).rep = 1
    (∀ t m, s.task n = some t → s.issuing k.val c.val = some m → takes t →
      exec (.jobPreempt k c n) s = .next ((((s.leaveCore k.val c.val m).makeReady m true).runTask k.val c.val n).settleCas k.val)) ∧
    (s.issuing k.val c.val = none ∨ (∀ t, s.task n = some t → ¬takes t) → exec (.jobPreempt k c n) s = .next s)) ∧
  (∀ (s : State) (k : Fin 12) (c : Fin 8),
    let over_ (t : TaskCtx) : Prop := t.deadlineClass = true ∧ t.budget ≤ t.used ∧ (s.core k.val c.val).rep = 1
    (∀ n t, s.onCore k.val c.val = some n → s.task n = some t → over_ t →
      exec (.budgetStop k c) s = .next ((s.endTask n Code.TF_JOB_OVERRUN).settleCas k.val)) ∧
    ((∀ n t, s.onCore k.val c.val = some n → s.task n = some t → ¬over_ t) → exec (.budgetStop k c) s = .next s)) ∧
  (∀ (s : State) (k : Fin 12),
    ((s.casm k.val).xfers = [] → exec (.xferComplete k) s = .next s) ∧
    ∀ x rest, (s.casm k.val).xfers = x :: rest →
      let u := s.modCasm k.val fun c => { c with xfers := rest }
      (x.sent = false ∨ x.left ≠ 0 → exec (.xferComplete k) s = .next s) ∧
      (x.sent = true → x.left = 0 →
        (x.bad = none →
          exec (.xferComplete k) s = .next (((u.setFlags x.task (BitVec.ofNat 32 (2 ^ x.flag))).settleCas k.val).xferIssue k.val)) ∧
        (∀ b, x.bad = some b →
          exec (.xferComplete k) s = .next ((u.faultTask x.poster b.1 (u.posterPc k.val x.poster) b.2).xferIssue k.val)))) ∧
  (∀ (s : State) (n : Nat) (t : TaskCtx) (st : Status), s.task n = some t → t.cas < 12 →
    (s.endTask n st).task n = none ∧ (∀ m, m ≠ n → (s.endTask n st).task m = s.task m) ∧
      n ∉ ((s.endTask n st).casm t.cas).ready ∧ n ∉ ((s.endTask n st).casm t.cas).delays)

/-- The accelerator rows (R308 to R316, R324, R327, R329) serve the oldest unserved descriptor of their function; with none of their KIND
nothing happens. A descriptor whose input reads well gets its output in casement memory and its status, one that breaks its rules
BAD_PARAM with no output; a poisoned input ends the posting job with DI_POISON_READ and leaves its STATUS a free value (R309). A mapper
descriptor starts at a symbol boundary of its context (R315, R316). A SWAP asks for its context's next symbol boundary, where the copies
change over when the inactive one is complete (R160). BURST, PSREL and GAIN act on their stream or port at once; a GAIN for a full port
waits, and of a past AT the task is told. FFT points, decoder ties and soft values without a unit of distance are free values (log entries
10, 11 and 16). An accelerator's completion (R300, R310, R316): the oldest served descriptor of the function gets its STATUS written at
its byte 0x18 and leaves its queue; a REBUILD's copy is complete; then the flag is set, or the item is enqueued, or held while the task's
queue is full; a core stalled on the queue posts its descriptor. With nothing served, or an item of the function still held, nothing
happens. -/
def Obligations.AcceleratorsServeDescriptors : Prop :=
  (let serve (s : State) (k : Nat) (u : AccelUnit) (d : AccelDesc) (ok : List Byte → Bool) (st : List Byte → BitVec 32)
      (out : List Byte → List Byte) : State :=
    let a := casAddr k (d.n 8 4)
    let m := s.memRead a d.srclen
    if m.2.1 then
      let v : State := { m.2.2 with freeCtr := m.2.2.freeCtr + 1 }
      (v.served k u d (Config.freeWord m.2.2.freeCtr)).faultTask d.task Code.DI_POISON_READ (v.posterPc k d.task) (v.firstBad a d.srclen)
    else if ok m.1 then (m.2.2.memWrite (casAddr k (d.n 0x10 4)) (out m.1)).served k u d (st m.1)
    else m.2.2.served k u d accBad
  (∀ (s : State) (k : Fin 12),
    ∀ e ∈ [(Instr.accelFft k, AccelUnit.fft, 1), (.accelEncode k, .encoder, 2), (.accelDecode k, .decoder, 3), (.accelModulate k, .mapper, 4),
        (.accelDemap k, .mapper, 5), (.accelNmeas k, .mapper, 6), (.accelRebuild k, .rebuilder, 7), (.accelSwap k, .rebuilder, 8),
        (.accelBurst k, .burst, 9), (.accelPsrel k, .psrel, 0xA), (.accelGain k, .gain, 0xB)],
      (∀ d, s.toServe k.val e.2.1 = some d → d.kind ≠ e.2.2) → ∃ f, exec e.1 s = .next { s with freeCtr := f }) ∧
  (∀ (s : State) (k : Fin 12) (d : AccelDesc),
    (s.toServe k.val .fft = some d → d.kind = 1 →
      exec (.accelFft k) s = .next (serve s k.val .fft d (fun _ => d.fftOk)
        (fun b => accSat (Config.fftSats (bytesAt d.bytes 0x20 8) (if bit (d.n 0x21 1) 0 then b else b.drop (4 * d.n 0x22 2))).toNat) d.fftOut)) ∧
    (s.toServe k.val .encoder = some d → d.kind = 2 →
      exec (.accelEncode k) s = .next (serve s k.val .encoder d
        (fun b => d.codeOk && decide ((packBits (d.encoded (byteBits b))).length ≤ d.dstlen)) (fun _ => accOk)
        (fun b => packBits (d.encoded (byteBits b))))) ∧
    (s.toServe k.val .decoder = some d → d.kind = 3 →
      exec (.accelDecode k) s = .next (serve s k.val .decoder d (fun _ => d.codeOk) (fun _ => accOk)
        (fun b => packBits (d.decoded b (d.outBytes d.dstlen)))))) ∧
  (∀ (s : State) (k : Fin 12) (d : AccelDesc), s.toServe k.val .mapper = some d →
    let x := d.n 0x20 1
    let at_ (f : Nat) : State := if x < 8 then ({ s with freeCtr := s.freeCtr + f } : State).boundary k.val x else { s with freeCtr := s.freeCtr + f }
    let c := ((at_ 0).casm k.val).ctxAt x
    let named := decide (x < 8) && c.nsc != 0
    (d.kind = 4 →
      exec (.accelModulate k) s = .next (serve (at_ 0) k.val .mapper d
        (fun _ => named && d.paramClean [(0x20, 1)] && decide (bitSum c.entries ≤ 8 * d.srclen) && decide (4 * c.nsc ≤ d.dstlen))
        (fun b => accSat ((c.points (leNat b) c.entries).map pointSats).sum) (fun b => (c.points (leNat b) c.entries).flatMap pointBytes))) ∧
    (d.kind = 5 →
      exec (.accelDemap k) s = .next (serve (at_ 65536) k.val .mapper d
        (fun _ => named && d.paramClean [(0x20, 1), (0x22, 2)] && decide (4 * c.nsc ≤ d.srclen) && decide ((bitSum c.entries + 1) / 2 ≤ d.dstlen))
        (fun _ => accOk)
        (fun b => packNibbles (c.entries.zipIdx.flatMap fun e =>
          c.softs e.1 (d.n 0x22 2) (s.freeCtr + 16 * e.2) (coordAt b (2 * e.2)) (coordAt b (2 * e.2 + 1)))))) ∧
    (d.kind = 6 →
      let ns := d.n 0x24 2
      exec (.accelNmeas k) s = .next (serve (at_ 4096) k.val .mapper d
        (fun _ => named && d.paramClean [(0x20, 1), (0x24, 2)] && decide (1 ≤ ns) && decide (ns ≤ 1024) && decide (4 * c.nsc * ns ≤ d.srclen) &&
          decide (2 * c.nsc ≤ d.dstlen))
        (fun _ => accOk)
        (fun b => c.entries.zipIdx.flatMap fun e =>
          let ys := (List.range ns).map fun i => (coordAt b (2 * (i * c.nsc + e.2)), coordAt b (2 * (i * c.nsc + e.2) + 1))
          leBytes (BitVec.ofInt 16 (c.snr e.1 ys (Config.freeWord (s.freeCtr + e.2)))).toNat 2)))) ∧
  (∀ (s : State) (k : Fin 12) (d : AccelDesc), s.toServe k.val .rebuilder = some d →
    let x := d.n 0x20 1
    let c := (s.casm k.val).ctxAt x
    let ok := decide (x < 8) && c.nsc != 0 && d.paramClean [(0x20, 1), (0x22, 3)] && decide (d.n 0x24 1 ≤ 12) && decide (2 * c.nsc ≤ d.srclen)
    let t := serve s k.val .rebuilder d (fun _ => ok) (fun _ => accOk) (fun _ => [])
    let m := s.memRead (casAddr k.val (d.n 8 4)) d.srclen
    (d.kind = 7 → exec (.accelRebuild k) s =
      .next (if ok && !m.2.1 then t.modCasm k.val fun y => y.setCtx x (c.rebuild m.1 (sext (d.n 0x22 2) 16) (d.n 0x24 1)) else t)) ∧
    (d.kind = 8 → (8 ≤ x ∨ d.paramClean [(0x20, 1)] = false ∨ c.nsc = 0 → exec (.accelSwap k) s = .next (s.served k.val .rebuilder d accBad)) ∧
      (x < 8 → d.paramClean [(0x20, 1)] = true → c.nsc ≠ 0 →
        ∃ t, exec (.accelSwap k) s = .next t ∧ (t.casm k.val).ctxAt x = { c with swap := true } ∧
          (t.casm k.val).queueOf .rebuilder = replaceFirst d { d with asked := true } ((s.casm k.val).queueOf .rebuilder) ∧
          (∀ y, y ≠ x → (t.casm k.val).ctxAt y = (s.casm k.val).ctxAt y) ∧ t.mem = s.mem))) ∧
  (∀ (s : State) (k x : Nat), (let c := (s.casm k).ctxAt x
    let t := (s.boundary k x).casm k
    (c.swap = true → c.complete = true → t.ctxAt x = { c with active1 := !c.active1, swap := false }) ∧
      (c.swap = true → c.complete = false → t.ctxAt x = { c with stale := c.stale + 1 }) ∧ (c.swap = false → t = s.casm k))) ∧
  (∀ (s : State) (k : Fin 12) (d : AccelDesc), s.toServe k.val .burst = some d → d.kind = 9 →
    let b : Burst := ⟨d.n 0x28 8, d.n 0x24 4⟩
    let ok (st : Stream) : Prop := st.cas = k.val ∧ st.rx = false ∧ st.ramp = true ∧ 128 ≤ b.len ∧ st.idx * st.interp ≤ b.first ∧
      st.bursts.any (·.overlaps b) = false ∧ d.paramClean [(0x20, 1), (0x24, 12)] = true
    (∀ st, s.stream (d.n 0x20 1) = some st → ok st → exec (.accelBurst k) s =
      .next ((s.setStream (d.n 0x20 1) (some { st with bursts := st.bursts ++ [b] })).served k.val .burst d accOk)) ∧
    ((∀ st, s.stream (d.n 0x20 1) = some st → ¬ok st) → exec (.accelBurst k) s = .next (s.served k.val .burst d accBad))) ∧
  (∀ (s : State) (k : Fin 12) (d : AccelDesc), s.toServe k.val .psrel = some d → d.kind = 0xA →
    let ok (st : Stream) : Prop := st.cas = k.val ∧ st.rx = true ∧ d.n 0x21 1 < 2 ∧ d.paramClean [(0x20, 2)] = true
    (∀ st, s.stream (d.n 0x20 1) = some st → ok st → exec (.accelPsrel k) s =
      .next ((s.setStream (d.n 0x20 1) (some (if d.n 0x21 1 = 0 then { st with path0 := none } else { st with path1 := none }))).served
        k.val .psrel d accOk)) ∧
    ((∀ st, s.stream (d.n 0x20 1) = some st → ¬ok st) → exec (.accelPsrel k) s = .next (s.served k.val .psrel d accBad))) ∧
  (∀ (s : State) (k : Fin 12) (d : AccelDesc), s.toServe k.val .gain = some d → d.kind = 0xB →
    let form := d.n 0x20 1 ≤ 3 ∧ 8 ≤ d.n 0x21 1 ∧ d.n 0x21 1 ≤ 32 ∧ 4 ≤ d.n 0x22 1 ∧ d.n 0x22 1 ≤ 64 ∧ d.paramClean [(0x20, 3), (0x24, 12)] = true
    let past := d.n 0x28 8 ≠ 0 ∧ d.n 0x28 8 < s.time.ns
    (¬form → exec (.accelGain k) s = .next (s.served k.val .gain d accBad)) ∧
    (form → past →
      exec (.accelGain k) s = .next ((s.postNotice Code.CH_TIME_PAST 0xFF k.val 0 0 (d.n 2 2)).served k.val .gain d accBad)) ∧
    (form → ¬past → (s.fePort (d.n 0x20 1)).queue.length < 16 →
      exec (.accelGain k) s =
        .next ((s.queueGain (d.n 0x20 1) (d.n 0x21 1) (d.n 0x22 1) (d.n 0x24 4) (d.n 0x28 8)).served k.val .gain d accOk)) ∧
    (form → ¬past → 16 ≤ (s.fePort (d.n 0x20 1)).queue.length → exec (.accelGain k) s = .next s))) ∧
  (∀ (s : State) (k : Fin 12) (u : AccelUnit),
    let held := (s.casm k.val).accHeld.any (·.1 == unitNo u) = true
    (held ∨ ((s.casm k.val).queueOf u).find? (·.result.isSome) = none → exec (.accelComplete k u) s = .next s) ∧
    ∀ d v, ¬held → ((s.casm k.val).queueOf u).find? (·.result.isSome) = some d → d.result = some v →
      let w := (s.memWrite (coreAddr k.val d.core d.addr + 0x18) (leBytes v.toNat 4)).modCasm k.val fun c => c.setQueue u ((c.queueOf u).erase d)
      let w := if d.kind = 7 ∧ v = accOk ∧ d.n 0x20 1 < 8 then
        w.modCasm k.val fun c => c.setCtx (d.n 0x20 1) { c.ctxAt (d.n 0x20 1) with complete := true } else w
      let i := itemOf 0xFFFF d.kind (d.n 4 4) d.addr d.dstlen []
      let to_ := d.n 2 2
      let row (y : State) : Prop := exec (.accelComplete k u) s = .next ((y.retryStalls k.val (y.casm k.val).accStall).settleCas k.val)
      ((∀ t, w.task to_ = some t → t.cas ≠ k.val) → row w) ∧
      ∀ t, w.task to_ = some t → t.cas = k.val →
        (bit (d.n 1 1) 5 = false → row (w.setFlags to_ (BitVec.ofNat 32 (2 ^ bits (d.n 1 1) 0 5)))) ∧
        (bit (d.n 1 1) 5 = true → t.queue.length < t.qdepth → row (w.enqueue to_ i)) ∧
        (bit (d.n 1 1) 5 = true → t.qdepth ≤ t.queue.length →
          row (w.modCasm k.val fun c => { c with accHeld := c.accHeld ++ [(unitNo u, to_, i)] })))

/-- The memory commands: MEMCFG sets MAP while no region is valid and is refused ST_FIELD_BUSY after (R344); INVALIDATE drops regions of a
channel that no open fail set meets, or lines of an on-chip memory (R341, R346); REMAP gives an address a spare, DI_REMAP_FULL where none
is left, and REMAP OP 1 frees an entry (R352); MEMPOLICY writes the control word and posts a change of it (R355); MEMSTATUS answers the
record of R356 and with CLEAR zeroes its counters after it. What names no memory, lies out of range, or is in use is refused with nothing
changed. -/
def Obligations.MemoryCommandsSetMapSparesAndPolicy : Prop :=
  (∀ (s : State) (src : Nat) (q : Req), s.serves src { op := 0x0802, need := 1, cov := [(0, 1)] } = some q →
    exec (.memcfg src) s =
      .next (if 1 < q.n 0 1 then s.reply q Code.ST_BAD_PARAM [] 0
        else if s.mem.regions = [] then ({ s with mem := { s.mem with interleave := q.n 0 1 == 1 } } : State).reply q Code.ST_OK [] 0
        else s.reply q Code.ST_FIELD_BUSY [] 0)) ∧
  (∀ (s : State) (src : Nat) (q : Req), s.serves src { op := 0x0804, need := 0x18, cov := [(0, 2), (8, 16)], doms := memDoms } = some q →
    let m := q.n 0 2
    let a := q.n 8 8
    let n := q.n 0x10 8
    let no (e : Status) : Prop := exec (.invalidate src) s = .next (s.reply q e [] 0)
    (memIdOk m = false → no Code.ST_BAD_PARAM) ∧
    (memIdOk m = true → memKind m = 3 →
      if a % 65536 ≠ 0 ∨ n % 65536 ≠ 0 ∨ 2 ^ 38 < a + n then no Code.ST_BAD_PARAM
      else if s.openSetMeets a n then no Code.ST_SET_BUSY
      else ∃ t : State, exec (.invalidate src) s = .next (t.reply q Code.ST_OK [] 0) ∧
          t = { s with mem := { s.mem with regions := t.mem.regions } } ∧
          ∀ r, tget false t.mem.regions r =
            (tget false s.mem.regions r && !(decide (a / 65536 ≤ r) && decide (r < (a + n) / 65536) && s.mem.regionOn r (memIndex m)))) ∧
    (memIdOk m = true → memKind m ≠ 3 →
      if memLines m < a + n then no Code.ST_BAD_PARAM
      else if memKind m = 0 ∧ s.laneLive (memIndex m) = true then no Code.ST_SITE_BUSY
      else exec (.invalidate src) s = .next ((s.clearLines m a n).reply q Code.ST_OK [] 0))) ∧
  (∀ (s : State) (src : Nat) (q : Req),
    s.serves src { op := 0x0805, form := some (2, 0), need := 0x10, cov := [(0, 3), (4, 1), (8, 8)], doms := memDoms } = some q →
    let m := q.n 0 2
    exec (.remap src) s =
      .next (if memIdOk m = false ∨ s.memAt (q.n 8 8) ≠ some m then s.reply q Code.ST_BAD_PARAM [] 0
        else match (s.memSt m).entryOf (s.remapIndex m (q.n 8 8)), (s.memSt m).freeEntry m with
          | some e, _ => s.reply q Code.ST_OK (leBytes e 1) 0
          | none, some e => (s.remapInto m (q.n 8 8) e).reply q Code.ST_OK (leBytes e 1) 0
          | none, none => s.reply q Code.DI_REMAP_FULL [] 0)) ∧
  (∀ (s : State) (m a e : Nat), memIdOk m = true → e < remapSize m → tget none ((s.remapInto m a e).memSt m).remap e = some (s.remapIndex m a)) ∧
  (∀ (s : State) (src : Nat) (q : Req),
    s.serves src { op := 0x0805, form := some (2, 1), need := 5, cov := [(0, 3), (4, 1), (8, 8)], doms := memDoms } = some q →
    let m := q.n 0 2
    exec (.remapFree src) s =
      .next (if memIdOk m = false ∨ remapSize m ≤ q.n 4 1 ∨ tget none (s.memSt m).remap (q.n 4 1) = none then s.reply q Code.ST_BAD_PARAM [] 0
        else (s.modMemSt m fun t => { t with remap := tset none t.remap (q.n 4 1) none }).reply q Code.ST_OK (leBytes (q.n 4 1) 1) 0)) ∧
  (∀ (s : State) (src : Nat) (q : Req), s.serves src { op := 0x0806, need := 8, cov := [(0, 2), (4, 4)] } = some q →
    let m := q.n 0 2
    let v : BitVec 32 := BitVec.ofNat 32 (q.n 4 4)
    let t := s.modMemSt m fun t => { t with mctlX := v ^^^ mctlReset m }
    t.mctl m = v ∧
      exec (.mempolicy src) s =
        .next (if memIdOk m = false then s.reply q Code.ST_BAD_PARAM [] 0
          else if bits v.toNat 28 2 ≠ 0 ∨ bits v.toNat 16 8 ≠ 0 then s.reply q Code.ST_RESERVED_NONZERO [] 0
          else if mctlThr v = 0 then s.reply q Code.ST_BAD_PARAM [] 0
          else (if s.mctl m = v then s else t.postPolicy 7 m v.toNat).reply q Code.ST_OK [] 0)) ∧
  (∀ (s : State) (src : Nat) (q : Req), s.serves src { op := 0x0807, need := 3, cov := [(0, 3)] } = some q →
    let m := q.n 0 2
    (memIdOk m = false ∨ 1 < q.n 2 1 → exec (.memstatus src) s = .next (s.reply q Code.ST_BAD_PARAM [] 0)) ∧
    (memIdOk m = true → q.n 2 1 ≤ 1 →
      ∃ t : State, exec (.memstatus src) s = .next (t.reply q Code.ST_OK (s.memRecord m) 0) ∧
        (q.n 2 1 = 0 → t = s) ∧
        (q.n 2 1 = 1 →
          t = { s with mem := { s.mem with status := t.mem.status } } ∧ (∀ k, k ≠ m → t.memSt k = s.memSt k) ∧
            t.memSt m =
              { s.memSt m with corrected := 0, uncorrectable := 0, poisonReads := 0, poisonWrites := 0, laps := 0, fills := 0 })))

/-- The memories' own events. A region's fill that is the oldest of its channel ends: the region is valid and its held requests are
performed in arrival order (R347). With REMAP_AUTO an address that reached REMAP_THR errors gets a spare and is posted, and a full table
posts DI_REMAP_FULL once (R352). The scrubber, where no requester uses the port, first rewrites what earlier lines left to rewrite and was
not written since, then reads each valid word of a line: a clean word is left, a correctable one is counted and waits for its rewrite, an
uncorrectable one is posted and left (R353). A lap's end keeps its time and begins the next, and a lap over LAP_LIMIT raises
DI_SCRUB_STARVED once (R354), also when the firmware samples the lap counter (R180). In every other case these rows change nothing. -/
def Obligations.MemoryEventsFillRemapAndScrub : Prop :=
  (∀ (s : State) (r : BitVec 22),
    let oldest := s.mem.fills.find? fun x => s.mem.regionOn x (s.ddrMap (r.toNat * 65536)).1
    (oldest ≠ some r.toNat → exec (.regionFillDone r) s = .next s) ∧
    (oldest = some r.toNat →
      let u : State := { s with mem := { s.mem with fills := s.mem.fills.erase r.toNat, held := s.mem.held.filter fun h => h.region != r.toNat } }
      let ids := (s.mem.held.filter fun h => h.region == r.toNat).map (·.worm)
      exec (.regionFillDone r) s =
          .next (ids.foldl (fun u id => match u.worm id with | some w => u.perform w | none => u) (u.ensureRegion (r.toNat * 65536))) ∧
        tget false (u.ensureRegion (r.toNat * 65536)).mem.regions r.toNat = true)) ∧
  (∀ (s : State) (mem : BitVec 16) (addr : BitVec 64),
    let m := mem.toNat
    let a := addr.toNat
    let hits := match (s.memSt m).ceHist.find? (·.1 == a) with | some e => e.2 | none => 0
    let due := memIdOk m = true ∧ getBit (s.mctl m) 30 = true ∧ (s.dom (memDomain m)).state = .on ∧
      (s.memSt m).entryOf (s.remapIndex m a) = none ∧ bits (s.mctl m).toNat 24 4 ≤ hits
    (¬due → exec (.autoRemap mem addr) s = .next s) ∧
    (due →
      (∀ e, (s.memSt m).freeEntry m = some e → exec (.autoRemap mem addr) s = .next ((s.remapInto m a e).postPolicy 1 m a)) ∧
      ((s.memSt m).freeEntry m = none →
        ((s.memSt m).remapFull = true → exec (.autoRemap mem addr) s = .next s) ∧
        ((s.memSt m).remapFull = false →
          exec (.autoRemap mem addr) s = .next ((s.modMemSt m fun t => { t with remapFull := true }).postMemory Code.DI_REMAP_FULL m a false))))) ∧
  (∀ (s : State) (mem : BitVec 16) (line : Nat),
    let m := mem.toNat
    let runs := memIdOk m = true ∧ getBit (s.mctl m) 31 = true ∧ (s.dom (memDomain m)).state = .on ∧ s.scrubPort m = true
    let chip := memKind m ≠ 3 ∧ line < memLines m
    let ddr := memKind m = 3 ∧ (s.ddr (memIndex m)).trained = true ∧ 64 * line < (s.ddr (memIndex m)).cap
    (¬(runs ∧ (chip ∨ ddr)) → exec (.scrubLine mem line) s = .next s) ∧
    (runs → chip → exec (.scrubLine mem line) s = .next ((s.scrubRewrite m).scrubWords m (memLine m line / 8) 4)) ∧
    (runs → ddr → exec (.scrubLine mem line) s = .next ((s.scrubRewrite m).scrubWords m (s.ddrLine (memIndex m) line / 8) 8))) ∧
  (∀ (s : State) (m w n : Nat),
    ((∀ i, i < n → s.mem.wordValid (w + i) = false ∨ s.mem.wordCheck (w + i) = none) → s.scrubWords m w n = s) ∧
    s.scrubWords m w (n + 1) = (s.scrubWord m w).scrubWords m (w + 1) n ∧
    (s.mem.wordValid w = true → s.mem.wordCheck w = some .correctable →
      w ∈ ((s.scrubWord m w).memSt m).rewrite ∧ ((s.scrubWord m w).memSt m).corrected = satInc (s.memSt m).corrected ∧
        (s.scrubWord m w).mem.bytes = s.mem.bytes ∧ (s.scrubWord m w).mem.check = s.mem.check) ∧
    (s.mem.wordValid w = true → ∀ c, c = WordCheck.uncorrectable ∨ c = WordCheck.poison → s.mem.wordCheck w = some c →
      s.scrubWord m w = s.notePoison m (8 * w) (c == .poison)) ∧
    ((s.scrubRewrite m).memSt m).rewrite = [] ∧ (s.scrubRewrite m).mem.bytes = s.mem.bytes ∧
    (w ∈ (s.memSt m).rewrite → s.mem.wordValid w = true → s.mem.wordCheck w = some .correctable →
      (s.scrubRewrite m).mem.wordCheck w = none) ∧
    (w ∉ (s.memSt m).rewrite → (s.scrubRewrite m).mem.wordCheck w = s.mem.wordCheck w)) ∧
  (∀ (s : State) (mem : BitVec 16),
    let m := mem.toNat
    let ms := s.lapMs m
    let lim := bits (s.mctl m).toNat 0 16
    let over_ := lim ≠ 0 ∧ lim < ms ∧ (s.memSt m).starved = false
    let starve (u : State) : State := (u.modMemSt m fun t => { t with starved := true }).postMemory Code.DI_SCRUB_STARVED m 0 false
    (memIdOk m = false ∨ getBit (s.mctl m) 31 = false → exec (.scrubLapEnd mem) s = .next s ∧ exec (.lapCounterSample mem) s = .next s) ∧
    (memIdOk m = true → getBit (s.mctl m) 31 = true →
      let lap (t : MemStatus) : MemStatus :=
        { t with laps := satInc t.laps, lastLapMs := BitVec.ofNat 32 ms, lapFrom := s.power.ps, lapCarry := 0, starved := false }
      let u := s.modMemSt m fun t => { t with lapCarry := ms }
      (over_ → exec (.scrubLapEnd mem) s = .next ((starve s).modMemSt m lap) ∧ exec (.lapCounterSample mem) s = .next (starve u)) ∧
      (¬over_ → exec (.scrubLapEnd mem) s = .next (s.modMemSt m lap) ∧ exec (.lapCounterSample mem) s = .next u)))

/-- The lane commands that write: LANE_MODE enters a mode on a lane free of a site, of other users and of calibration (R182, R359);
LANE_CTL writes LCTL, its class S fields only while the lane does not run, and posts a change of FREEZE (R363, R365); DESKEW writes the
calibration record (R199); REFSPREAD sets the spread while every lane is idle and is refused ST_FIELD_BUSY otherwise (R361); MARGIN sets
H_MIN and V_MIN (R367). Each refuses a lane above 63 and values out of range or in use with nothing changed. The lane commands that act at
once, each refused ST_BAD_PARAM for a lane above 63: LANE IDLE OP 0 turns off the transmitter of a lane that does not run (R368), OP 1
starts the exit burst of a lane not in idle mode (R369), each refused ST_FIELD_BUSY while the lane runs; BITSLIP moves a locked
direct-mode lane by N of 32 bits, N bits being discarded, and refuses any other lane and an N of 0 or above 63 (R179, R373); PHY_STATUS
answers the record of R380 and with CLEAR zeroes its counters after it. -/
def Obligations.LaneCommandsWriteAndAct : Prop :=
  ((∀ (s : State) (src : Nat) (q : Req),
    s.serves src { op := 0x0901, need := 8, cov := [(0, 2), (4, 4)], doms := laneDoms } = some q →
    let i := q.n 0 1
    let keep (j : Nat) : Bool := j != i
    exec (.laneMode src) s =
      .next (match laneModeOf (q.n 1 1) with
        | none => s.reply q Code.ST_BAD_PARAM [] 0
        | some m =>
          if 64 ≤ i ∨ (m ≠ .idle ∧ rateOk (q.n 4 4) = false) then s.reply q Code.ST_BAD_PARAM [] 0
          else if s.siteOf i ≠ none ∨ s.laneTaken i = true then s.reply q Code.ST_FIELD_BUSY [] 0
          else if (s.lane i).calib ≠ none ∨ (m ≠ .idle ∧ s.quadsFit [(i, q.n 4 4)] keep = false) then s.reply q Code.ST_LANE_BUSY [] 0
          else if m = .idle then ((s.modLane i fun l => l.enter .idle 0).settleQuads).reply q Code.ST_OK [] 0
          else ((s.setQuadRates [(i, q.n 4 4)] keep).modLane i fun l => l.enter m (q.n 4 4)).reply q Code.ST_OK [] 0)) ∧
  (∀ (s : State) (src : Nat) (q : Req),
    s.serves src { op := 0x0902, need := 8, cov := [(0, 1), (4, 4)], doms := laneDoms } = some q →
    let i := q.n 0 1
    let v : BitVec 32 := BitVec.ofNat 32 (q.n 4 4)
    let u := if getBit v 18 && !(s.lane i).frozen then s.adapt i else s
    let t := u.modLane i fun l => { l with lctl := v }
    exec (.laneCtl src) s =
      .next (if 64 ≤ i then s.reply q Code.ST_BAD_PARAM [] 0
        else if bits v.toNat 20 12 ≠ 0 ∨ bits v.toNat 12 4 ≠ 0 then s.reply q Code.ST_RESERVED_NONZERO [] 0
        else if 18 < bits v.toNat 8 4 + bits v.toNat 4 4 ∨ (getBit v 19 = true ∧ s.hingeRole i = true) then s.reply q Code.ST_BAD_PARAM [] 0
        else if lctlS v ≠ lctlS (s.lane i).lctl ∧ s.laneRuns i = true then s.reply q Code.ST_FIELD_BUSY [] 0
        else (if getBit v 18 = (s.lane i).frozen then t else t.postPolicy 3 i (b2n (getBit v 18))).reply q Code.ST_OK [] 0)) ∧
  (∀ (s : State) (src : Nat) (q : Req), s.serves src { op := 0x0903, need := 0x2C, cov := [(0, 1), (2, 4), (8, 36)] } = some q →
    let i := q.n 0 1
    let r : CalRec :=
      { delayUi := q.n 2 2, delayFrac := q.n 4 1, off := tfill 0 [] 0 (bytesAt q.pay 0x0C 32), rate := q.n 8 4, plog := q.n 5 1 }
    exec (.deskew src) s =
      .next (if 64 ≤ i ∨ 1023 < q.n 2 2 ∨ 63 < q.n 4 1 ∨ 5 < q.n 5 1 ∨ rateOk (q.n 8 4) = false then s.reply q Code.ST_BAD_PARAM [] 0
        else if s.deskewBusy i then s.reply q Code.ST_LANE_BUSY [] 0
        else (s.modLane i fun l => { l with cal := some r }).reply q Code.ST_OK [] 0)) ∧
  (∀ (s : State) (src : Nat) (q : Req), s.serves src { op := 0x0904, need := 2, cov := [(0, 2)] } = some q →
    exec (.refspread src) s =
      .next (if 5000 < q.n 0 2 then s.reply q Code.ST_BAD_PARAM [] 0
        else if ∀ i ∈ List.range 64, (s.lane i).mode = .idle then
          ({ s with power := { s.power with clk := { s.power.clk with spread := q.n 0 2 } } } : State).reply q Code.ST_OK [] 0
        else s.reply q Code.ST_FIELD_BUSY [] 0)) ∧
  (∀ (s : State) (src : Nat) (q : Req), s.serves src { op := 0x0905, need := 6, cov := [(0, 1), (2, 1), (4, 2)] } = some q →
    exec (.margin src) s =
      .next (if 64 ≤ q.n 0 1 then s.reply q Code.ST_BAD_PARAM [] 0
        else (s.modLane (q.n 0 1) fun l =>
          { l with phy := { l.phy with hMin := BitVec.ofNat 8 (q.n 2 1), vMin := BitVec.ofNat 16 (q.n 4 2) } }).reply q Code.ST_OK [] 0))) ∧
  ((∀ (s : State) (src : Nat) (q : Req),
    s.serves src { op := 0x0906, form := some (1, 0), need := 2, cov := [(0, 2)], doms := laneDoms } = some q →
    exec (.laneIdleEnter src) s =
      .next (if 64 ≤ q.n 0 1 then s.reply q Code.ST_BAD_PARAM [] 0
        else if s.laneRuns (q.n 0 1) then s.reply q Code.ST_FIELD_BUSY [] 0
        else (s.modLane (q.n 0 1) fun l => { l with txIdle := true, exiting := false }).reply q Code.ST_OK [] 0)) ∧
  (∀ (s : State) (src : Nat) (q : Req),
    s.serves src { op := 0x0906, form := some (1, 1), need := 2, cov := [(0, 2)], doms := laneDoms } = some q →
    exec (.laneIdleExit src) s =
      .next (if 64 ≤ q.n 0 1 then s.reply q Code.ST_BAD_PARAM [] 0
        else if s.laneRuns (q.n 0 1) then s.reply q Code.ST_FIELD_BUSY [] 0
        else (s.modLane (q.n 0 1) fun l => { l with exiting := l.txIdle && l.mode != .idle }).reply q Code.ST_OK [] 0)) ∧
  (∀ (s : State) (src : Nat) (q : Req), s.serves src { op := 0x0907, need := 2, cov := [(0, 2)], doms := laneDoms } = some q →
    let i := q.n 0 1
    let n := q.n 1 1
    exec (.bitslip src) s =
      .next (if i < 64 ∧ 1 ≤ n ∧ n ≤ 63 ∧ (s.lane i).mode = .direct ∧ (s.lane i).lock = true then
          (s.modLane i fun l =>
            { l with slip := (l.slip + n) % 32, slipDue := l.slipDue + n, phy := { l.phy with slips := satAdd l.phy.slips n } }).reply q Code.ST_OK [] 0
        else s.reply q Code.ST_BAD_PARAM [] 0)) ∧
  (∀ (s : State) (src : Nat) (q : Req), s.serves src { op := 0x0908, need := 2, cov := [(0, 2)] } = some q →
    let i := q.n 0 1
    let u := s.adapt i
    exec (.phyStatus src) s =
      .next (if 64 ≤ i ∨ 1 < q.n 1 1 then s.reply q Code.ST_BAD_PARAM [] 0
        else (if q.n 1 1 = 1 then
          u.modLane i fun l => { l with phy := { l.phy with blockLoss := 0, idleExits := 0, slowExits := 0, slips := 0 } }
        else u).reply q Code.ST_OK (u.phyRecord i) 0)))

/-- The lanes' own events. A quad's PLL locks with a rate, its reference and its domain ON (R358); a lane of a running quad gains block or
CDR lock (R362). Loss of block lock counts and faults an ARMED or RUNNING site with TF_PIN_LANE_DOWN, on a link lane TF_LINK_DOWN, but not
over a stream lane, whose loss is its link's (R322, R362, R380); a pin lane's loss is posted in any other state (R197). At the far end's
idle the receiver holds its lock (R368); after the exit burst it goes on, counted, or with an invalid header searches again (R369, R370).
A link lane with LINK_IDLE idles in a gap of at least IDLE_LEAD and 64 steps and begins its exit before the next frame (R372). In every
other case these rows change nothing. An eye sweep of a locked lane keeps its values and posts a crossing of the limits once (R366, R367).
A keyhole frame carries the oldest 32 samples and the step of the first, is scrambled and stamped as it leaves, and only leaves with 32
samples (R506, R190, R374). -/
def Obligations.LaneEventsLockIdleAndMeasure : Prop :=
  ((∀ (s : State) (k : Fin 16),
    let on := (s.quad k.val).qrate ≠ 0 ∧ s.power.clk.refLane = true ∧ (s.dom (domQuad k.val)).state = .on
    (on → exec (.quadPllLock k) s = .next (s.setQuad k.val { s.quad k.val with lock := true })) ∧
    (¬on → exec (.quadPllLock k) s = .next s)) ∧
  (∀ (s : State) (i : Fin 64),
    let l := s.lane i.val
    let up := (s.quad (i.val / 4)).lock = true ∧ (s.dom (domQuad (i.val / 4))).state = .on
    let block := l.mode = .pin ∨ l.mode = .link ∨ l.mode = .stream
    let cdr := l.mode = .direct ∨ l.mode = .keyhole
    let locked := s.setLane i.val { l with lock := true, rxIdle := false }
    let gone (u : State) : State := (u.adapt i.val).modLane i.val fun l => { l with lock := false, rxFcnt := none }
    let down (u : State) : State :=
      if s.laneLive i.val = true ∧ l.mode ≠ .stream then
        (gone u).faultSashNow i.val (if l.mode = .link then Code.TF_LINK_DOWN else Code.TF_PIN_LANE_DOWN) 0xFF 0
      else if l.mode = .pin then (gone u).postLane Code.ST_OK ((s.siteOf i.val).getD 0xFF) i.val 3 0 0
      else gone u
    (up → l.lock = false → block → exec (.blockLockAcquired i) s = .next locked) ∧
    (¬(up ∧ l.lock = false ∧ block) → exec (.blockLockAcquired i) s = .next s) ∧
    (up → cdr → exec (.cdrLockAcquired i) s = .next locked) ∧
    (¬(up ∧ cdr) → exec (.cdrLockAcquired i) s = .next s) ∧
    (l.lock = true → block →
      exec (.blockLockLoss i) s = .next (down (s.modLane i.val fun l => { l with phy := { l.phy with blockLoss := satInc l.phy.blockLoss } }))) ∧
    (¬(l.lock = true ∧ block) → exec (.blockLockLoss i) s = .next s) ∧
    (l.lock = true → cdr → exec (.cdrLockLoss i) s = .next ((s.adapt i.val).modLane i.val fun l => { l with lock := false })) ∧
    (¬(l.lock = true ∧ cdr) → exec (.cdrLockLoss i) s = .next s) ∧
    (l.lock = true → l.mode = .pin ∨ l.mode = .link →
      exec (.farEndIdle i) s = .next ((s.adapt i.val).modLane i.val fun l => { l with rxIdle := true })) ∧
    (¬(l.lock = true ∧ (l.mode = .pin ∨ l.mode = .link)) → exec (.farEndIdle i) s = .next s) ∧
    (∀ h,
      let v := if l.exiting then s.modLane i.val fun l => { l with txIdle := false, exiting := false, fcnt := 0 } else s
      let u := v.modLane i.val fun l => { l with rxIdle := false, phy := { l.phy with idleExits := satInc l.phy.idleExits } }
      (l.rxIdle = false ∨ l.lock = false → exec (.idleExitBurstDone i h) s = .next v) ∧
      (l.rxIdle = true → l.lock = true → h = true → exec (.idleExitBurstDone i h) s = .next u) ∧
      (l.rxIdle = true → l.lock = true → h = false → exec (.idleExitBurstDone i h) s =
        .next (down (u.modLane i.val fun l => { l with phy := { l.phy with slowExits := satInc l.phy.slowExits } }))))) ∧
  (∀ (s : State) (i : Fin 64),
    let l := s.lane i.val
    let free := l.mode = .link ∧ l.linkIdle = true ∧ l.txIdle = false ∧ l.link.tx = [] ∧ s.hingeRole i.val = false ∧ l.rate ≠ 0
    (∀ n, s.siteOf i.val = some n → free → s.idleLead l.rate + 64 ≤ s.linkGap n i.val →
      exec (.linkIdleEntry i) s = .next (s.setLane i.val { l with txIdle := true, exiting := false })) ∧
    ((∀ n, s.siteOf i.val = some n → free → s.linkGap n i.val < s.idleLead l.rate + 64) → exec (.linkIdleEntry i) s = .next s) ∧
    (l.mode = .link → l.linkIdle = true → l.txIdle = true → exec (.linkIdleExit i) s = .next (s.setLane i.val { l with exiting := true })) ∧
    (¬(l.mode = .link ∧ l.linkIdle = true ∧ l.txIdle = true) → exec (.linkIdleExit i) s = .next s))) ∧
  ((∀ (s : State) (i : Fin 64) (h : BitVec 8) (v : BitVec 16),
    let l := s.lane i.val
    let low := (l.phy.hMin != 0 && decide (h.toNat < l.phy.hMin.toNat)) || (l.phy.vMin != 0 && decide (v.toNat < l.phy.vMin.toNat))
    let u := s.setLane i.val { l with phy := { l.phy with eyeH := h, eyeV := v, eyeAt := s.power.ps, under := low } }
    (l.lock = false → exec (.eyeSweepDone i h v) s = .next s) ∧
    (l.lock = true → exec (.eyeSweepDone i h v) s =
      .next (if low = l.phy.under then u else u.postLane Code.ST_OK ((s.siteOf i.val).getD 0xFF) i.val (if low then 1 else 2) h v))) ∧
  (∀ s : State,
    (s.power.key.lane = none ∨ s.power.key.samples.length < 32 → exec .keyholeFrame s = .next s) ∧
    ∀ i, s.power.key.lane = some i → 32 ≤ s.power.key.samples.length →
      ∃ (t : State) (h : BitVec 64) (p : BitVec 1024), exec .keyholeFrame s = .next t ∧ (t.lane i).txLast = some (h, p) ∧
        bits h.toNat 0 4 = 4 ∧ bits h.toNat 8 40 = ((s.power.key.samples.map fun e => e.1).headD 0) % 2 ^ 40 ∧
        (∀ j, j < 32 → bits p.toNat (32 * j) 32 = (s.power.key.samples.map fun e => e.2.toNat).getD j 0) ∧
        ((t.lane i).txBlocks, (t.lane i).txScr) = scrambleBlocks (s.lane i).txScr (frameBlocks h p.toNat 16) ∧
        (t.lane i).phy.lastTx = s.stamp ∧
        t.power.key.samples = s.power.key.samples.drop 32 ∧ t.power.key.frames = (h, p) :: s.power.key.frames))

/-- The chain commands: STICKY sets or clears the kept UA (R391); GATEWAY OP 0 makes the segment's one gateway and is refused
ST_RESOURCE_BUSY when there is one, OP 1 adds 1 to 40 peers, at most 254 in all, OP 2 ends the gateway (R399); CHAIN_STATUS answers its
records, with CLEAR zeroing counters after (R413); ENUM_MAP answers the head's map and is refused elsewhere (R390). -/
def Obligations.ChainCommandsAnswer : Prop :=
  (∀ (s : State) (src : Nat) (q : Req), s.serves src { op := 0x0A02, form := some (0, 1), need := 1, cov := [(0, 1)] } = some q →
    exec (.stickySet src) s =
      .next (({ s with chain := { s.chain with sticky := true, stickyUa := s.chain.ua } } : State).reply q Code.ST_OK [] 0)) ∧
  (∀ (s : State) (src : Nat) (q : Req), s.serves src { op := 0x0A02, form := some (0, 0), need := 1, cov := [(0, 1)] } = some q →
    exec (.stickyClear src) s =
      .next (({ s with chain := { s.chain with sticky := false, stickyUa := uaNone } } : State).reply q Code.ST_OK [] 0)) ∧
  (∀ (s : State) (src : Nat) (q : Req),
    s.serves src { op := 0x0A03, form := some (0, 0), need := 10, cov := [(0, 1), (4, 6)] } = some q →
    let port : BitVec 16 := BitVec.ofNat 16 (if q.n 8 2 = 0 then defaultPort else q.n 8 2)
    exec (.gatewayOwnAddress src) s =
      .next (if s.chain.gw.isSome || s.chain.otherGw then s.reply q Code.ST_RESOURCE_BUSY [] 0
        else (({ s with chain := { s.chain with gw := some (BitVec.ofNat 32 (q.n 4 4), port) } } : State).tellSegment ownGateway).reply q
          Code.ST_OK [] 0)) ∧
  (∀ (s : State) (src : Nat) (q : Req),
    s.serves src { op := 0x0A03, form := some (0, 1), need := 3, cov := [(0, 1), (2, 1), (8, 232)] } = some q →
    let k := q.n 2 1
    let es := peerEntries q
    let u : State := { s with
      chain := { s.chain with peers := es.foldl (fun t e => tset none t e.1 (some (BitVec.ofNat 32 e.2))) s.chain.peers } }
    exec (.gatewayAddPeers src) s =
      .next (if k = 0 ∨ 40 < k ∨ q.pay.length < 8 + 5 * k ∨ (∃ e ∈ es, e.1 = 255) ∨ 254 < u.chain.peers.length then
          s.reply q Code.ST_BAD_PARAM [] 0
        else if q.clean [(0, 1), (2, 1), (8, 5 * k)] = false then s.reply q Code.ST_RESERVED_NONZERO [] 0
        else (if s.chain.addressed && es.any (fun e => e.1 == uaSegment s.chain.ua) then u.conflict (uaSegment s.chain.ua) else u).reply q
          Code.ST_OK [] 0)) ∧
  (∀ (s : State) (src : Nat) (q : Req), s.serves src { op := 0x0A03, form := some (0, 2), need := 1, cov := [(0, 1)] } = some q →
    let u := if s.chain.gw.isSome then s.tellSegment ownNoGateway else s
    exec (.gatewayClear src) s =
      .next (({ u with chain := { u.chain with gw := none, peers := [], peerDown := [], segConflict := [] } } : State).reply q
        Code.ST_OK [] 0)) ∧
  (∀ (s : State) (src : Nat) (q : Req), s.serves src { op := 0x0A0B, need := 1, cov := [(0, 1)] } = some q →
    exec (.chainStatus src) s =
      .next (if 1 < q.n 0 1 then s.reply q Code.ST_BAD_PARAM [] 0
        else (if q.n 0 1 = 1 then s.clearChainCounts else s).reply q Code.ST_OK (s.timeRecord ++ s.chain.record) 0)) ∧
  (∀ (s : State) (src : Nat) (q : Req), s.serves src { op := 0x0A0C, need := 0 } = some q →
    exec (.enumMap src) s =
      .next (if s.chain.head then s.reply q Code.ST_OK (mapBytes s.chain.map) 0 else s.reply q Code.ST_BAD_PARAM [] 0))

/-- Enumeration (R390 to R392). A unit takes position POS + 1, or with KEEP_STICKY its sticky address of the segment, when its map bit is
clear, sets the bit, writes POS and the CRC and passes the frame on; with the bit set, or beyond 1,023, it takes no address and tells the
head so; the head counts the units when its frame comes back, ends the enumeration at the timeout, and steps down on another head's frame.
Its own frame otherwise, and a frame of another type, changes nothing; one received in reverse is retimed, and an invalid one passed on
and discarded (R385, R386). Breaks and gateways. A port that breaks goes idle, and its unit tells the head (R393), which posts
CH_CHAIN_BREAK, and CH_CHAIN_SPLIT at a second cut (R394). The port sends IDLE again, and heals after 16 exchanges unless a chain-hinged
site holds it back (R395). A gateway sends a peer's frame into its segment, checks its peers, answers a check, reports one that is silent
and a segment number reported twice, and answers ARP (R399). -/
def Obligations.SegmentsAreNumberedWrappedAndJoined : Prop :=
  ((∀ (s : State) (f : ChainFrame),
    let c := s.chain
    let q := bits f.aux 0 10 + 1
    let m := mapOf f.payload
    let seg := uaSegment f.src
    let twoHeads (u : State) : State := ({ u with chain := { u.chain.emit f with head := false } } : State).postChain Code.CH_TWO_HEADS 0 f.src 0
    (f.typ ≠ 0x31 → exec (.enumFrame f) s = .next s) ∧
    (f.typ = 0x31 → c.forwardRx f = false → exec (.enumFrame f) s = .next (({ s with chain := (c.countCrc f).emitBack f } : State).afterCrc f)) ∧
    (f.typ = 0x31 → c.forwardRx f = true → f.valid = false →
      exec (.enumFrame f) s = .next (({ s with chain := ((c.countCrc f).passOn f).discard } : State).afterCrc f)) ∧
    (f.typ = 0x31 → f.valid = true → c.forwardRx f = true →
      (∀ tk ua, c.enum = some (tk, ua) →
        (f.src = ua → exec (.enumFrame f) s = .next
          ((({ s with chain := { c with enum := none, nunits := BitVec.ofNat 16 q, map := m } } : State).headTakesRole).finish tk
            Code.ST_OK (leBytes q 2))) ∧
        (f.src ≠ ua → exec (.enumFrame f) s =
          .next (twoHeads (({ s with chain := { c with enum := none } } : State).finish tk Code.CH_TWO_HEADS [])))) ∧
      (c.enum = none → c.addressed = true → f.src = c.ua → exec (.enumFrame f) s = .next s) ∧
      (c.enum = none → (c.addressed = false ∨ f.src ≠ c.ua) →
        (c.head = true → exec (.enumFrame f) s = .next (twoHeads s)) ∧
        (c.head = false →
          let cand := if bit f.aux 10 && c.sticky && uaSegment c.stickyUa == seg then uaPosition c.stickyUa else q
          let ok := q ≤ 1023 ∧ getBit m cand = false
          let ua : BitVec 18 := if ok then uaOf seg cand else uaNone
          ∃ (v : State) (g : ChainFrame), v = { s with chain := v.chain } ∧
            v.chain = ({ c with ua := ua, phys := BitVec.ofNat 16 q, stickyUa := if ok ∧ c.sticky = true then ua else c.stickyUa } : ChainState).emit g ∧
            bits g.aux 0 10 = min q 1023 ∧ bit g.aux 10 = bit f.aux 10 ∧ g.crcOk = true ∧ g.typ = f.typ ∧ g.dst = f.dst ∧ g.src = f.src ∧
            (ok → ∀ p, p < 1024 → getBit (mapOf g.payload) p = (getBit m p || p == cand)) ∧ (¬ok → g.payload = f.payload) ∧
            exec (.enumFrame f) s = .next (if ok then v
              else v.reportNoAddress f.src (if 1023 < q then Code.CH_ENUM_INCOMPLETE else Code.CH_ADDR_CONFLICT) q))))) ∧
  (∀ s : State,
    (s.chain.enum = none → exec .enumTimeout s = .next s) ∧
    ∀ tk ua, s.chain.enum = some (tk, ua) →
      exec .enumTimeout s = .next (({ s with chain := { s.chain with enum := none } } : State).finish tk Code.CH_ENUM_INCOMPLETE []))) ∧
  ((∀ (s : State) (port phys : Nat) (ua : BitVec 18) (b : Bool),
    let c := s.chain
    let l := c.breaks.filter fun r => !(r.1 == ua && r.2.1 == port)
    let u : State := { s with chain := { c with breaks := l ++ [(ua, port, phys)] } }
    let v := u.postChain Code.CH_CHAIN_BREAK port ua phys
    s.breakReport ua port phys true =
      (if 2 ≤ u.chain.cuts.length ∧ c.cuts.length < u.chain.cuts.length then
        v.post 0x09 Code.CH_CHAIN_SPLIT 0xFF port 0
          (leBytes ua.toNat 4 ++ leBytes phys 2 ++ leBytes 0 2 ++ leBytes u.chain.reach.1 2 ++ leBytes u.chain.reach.2 2)
      else v) ∧
    s.breakReport ua port phys false = ({ s with chain := { c with breaks := l } } : State).postChain Code.ST_OK port ua phys ∧
    (c.addressed = false → s.tellHead port b = s) ∧
    (c.addressed = true → c.head = true → s.tellHead port b = s.breakReport c.ua port c.phys.toNat b) ∧
    (c.addressed = true → c.head = false → s.tellHead port b =
      s.send (s.frame 0x38 (uaOf (uaSegment c.ua) 0) (port + (if b then 2 else 0)) (leBytes c.phys.toNat 8)))) ∧
  (∀ (s : State) (p : ChainPort),
    let x := s.chain.port p
    (x.broken = true → exec (.portBreak p) s = .next s) ∧
    (x.broken = false →
      let c := s.chain.setPort p { x with lock := false, broken := true, idling := true, healed := 0, crcAt := [] }
      exec (.portBreak p) s = .next (({ s with chain := { c with breakCount := satInc c.breakCount } } : State).tellHead (portNum p) true)) ∧
    (x.idling = true →
      exec (.breakIdleEnd p) s = .next { s with chain := s.chain.setPort p { x with idling := false, lock := true, healed := 0 } }) ∧
    (x.idling = false → exec (.breakIdleEnd p) s = .next s) ∧
    (x.broken = false ∨ x.idling = true ∨ x.lock = false ∨ x.healed < 16 → exec (.portHeal p) s = .next s) ∧
    (x.broken = true → x.idling = false → x.lock = true → 16 ≤ x.healed →
      ((∃ n, n < 16 ∧ s.chainHinged n = true) → exec (.portHeal p) s = .next { s with chain := { s.chain with unwrapWait := true } }) ∧
      ((∀ n, n < 16 → s.chainHinged n = false) →
        let c := s.chain.setPort p { x with broken := false, healed := 0 }
        exec (.portHeal p) s = .next (({ s with chain := { c with unwrapWait := false } } : State).tellHead (portNum p) false)))) ∧
  (∀ (s : State) (peer : BitVec 8) (f : ChainFrame),
    let p := peer.toNat
    let has := s.chain.gw.isSome = true ∧ (tget none s.chain.peers p).isSome = true
    let u : State := { s with chain := { s.chain with peerDown := s.chain.peerDown.filter (· != p) } }
    let same := uaSegment f.src = uaSegment s.chain.ua ∨ p = uaSegment s.chain.ua
    (¬has → exec (.gatewayCheck peer) s = .next s ∧ exec (.gatewayPeerTimeout peer) s = .next s ∧ exec (.gatewayDatagram peer f) s = .next s) ∧
    (has → exec (.gatewayCheck peer) s = .next { s with chain := { s.chain with datagrams := (p, checkFrame false) :: s.chain.datagrams } }) ∧
    (has → p ∈ s.chain.peerDown → exec (.gatewayPeerTimeout peer) s = .next s) ∧
    (has → p ∉ s.chain.peerDown → exec (.gatewayPeerTimeout peer) s =
      .next (({ s with chain := { s.chain with peerDown := s.chain.peerDown ++ [p] } } : State).postChain Code.CH_GATEWAY_DOWN 0 (uaOf p 0) 0)) ∧
    (has → f = checkFrame false →
      exec (.gatewayDatagram peer f) s = .next { u with chain := { u.chain with datagrams := (p, checkFrame true) :: u.chain.datagrams } }) ∧
    (has → f = checkFrame true → exec (.gatewayDatagram peer f) s = .next u) ∧
    (has → f ≠ checkFrame false → f ≠ checkFrame true →
      (same → exec (.gatewayDatagram peer f) s = .next (if p ∈ s.chain.segConflict then u else
        ({ u with chain := { u.chain with segConflict := u.chain.segConflict ++ [p] } } : State).postChain Code.CH_SEGMENT_CONFLICT 0 (uaOf p 0) 0)) ∧
      (¬same →
        let carried := p ∉ s.chain.segConflict ∧ (f.typ ∈ [0x32, 0x33] ∨ f.typ = 0x35 ∧ fld f.payload 0 1 ≤ 2)
        (carried → exec (.gatewayDatagram peer f) s = .next { u with chain := u.chain.emit (f.mark false) }) ∧
        (¬carried → exec (.gatewayDatagram peer f) s = .next u)))) ∧
  (∀ (s : State) (ip : BitVec 32),
    (∀ port, s.chain.gw = some (ip, port) → exec (.arpRequest ip) s = .next { s with chain := { s.chain with arp := ip :: s.chain.arp } }) ∧
    ((∀ port, s.chain.gw ≠ some (ip, port)) → exec (.arpRequest ip) s = .next s)))

/-- What reception makes of a frame (R385 to R389, R399): one of another row's type changes nothing; one in the reverse direction is
retimed; the unit's own frame, gone round, is taken off; the head drops one marked SEEN; an invalid one is discarded at its destination
and otherwise passed on; a valid one is acted on at its destination, and a broadcast or a frame for others passed on, by a gateway to its
peers too. Each bad CRC32 is counted, and the 16th within 1 ms on a port breaks it (R387, R393). What a unit does with a valid frame that
reaches it in the forward direction for its own UA or for every unit (R385 to R387). A command's fragment is kept, joined and
acknowledged, a duplicate only acknowledged, a second fragment without the first neither (R396); an acknowledgement takes its fragment off
the relay; fragments without one are resent up to 8 times, then the command is answered CH_RELAY_TIMEOUT (R396). An EVENT frame starts the
ARMED sites it names, stops sites, fires the listening trigger units and sets mapped flags, or makes a part act on a rollback decision
(R241, R398; which cycles it takes is the model's choice, log entry 80); a BREAK frame is the head's report (R393); and a LINK_HINGE token
acts on the site at its cycle, a lost one as lost (R125, R398). -/
def Obligations.ChainFramesAreRelayedAndActedOn : Prop :=
  ((∀ (s : State) (f : ChainFrame),
    let back : State := ({ s with chain := (s.chain.countCrc f).emitBack f } : State).afterCrc f
    let u : State := { s with chain := (s.chain.arrive f).chain }
    let lost := f.typ = 0x36 ∧ s.chain.forwardRx f = true ∧ f.crcOk = false ∧ s.chain.addressed = true ∧ f.dst = s.chain.ua
    ∀ r ∈ [(Instr.mbxFrame f, 0x32, 0), (.mbxAckFrame f, 0x33, 0), (.chainStart f, 0x35, 1), (.chainStop f, 0x35, 2), (.chainTrigger f, 0x35, 3),
        (.siteRollback f, 0x35, 4), (.linkHinge f, 0x36, 0), (.breakFrame f, 0x38, 0)],
      let event := r.2.1 = 0x35 ∧ f.typ = 0x35
      let kind := fld f.payload 0 1
      let others := (f.typ ≠ r.2.1 ∧ 0x31 ≤ f.typ ∧ f.typ ≤ 0x38) ∨ (event ∧ kind ≠ r.2.2 ∧ 1 ≤ kind ∧ kind ≤ 4)
      (others → exec r.1 s = .next s) ∧
      (¬others → s.chain.forwardRx f = false → exec r.1 s = .next back) ∧
      (¬others → s.chain.forwardRx f = true → (r.2.1 = 0x36 → ¬lost) →
        ((s.chain.arrive f).own = true → exec r.1 s = .next (u.returned f)) ∧
        ((s.chain.arrive f).own = false → (s.chain.arrive f).act = false → exec r.1 s = .next (u.afterCrc f)) ∧
        ((s.chain.arrive f).own = false → (s.chain.arrive f).act = true → event → kind ≠ r.2.2 → exec r.1 s = .next u))) ∧
  (∀ (c : ChainState) (f : ChainFrame),
    let d := c.countCrc f
    let mine := d.destines f
    let takes := d.gatewayTakes f
    let home := uaSegment f.src == uaSegment c.ua
    let out := if takes && home || f.dst == uaBroadcast && home then (d.gwPeers f).map fun p => (p, f) else []
    (c.sentIt f = true → f.crcOk = true → c.arrive f = ⟨false, true, c⟩) ∧
    (¬(c.sentIt f = true ∧ f.crcOk = true) → c.head = true → f.seen = true →
      c.arrive f = ⟨false, false, { d with seenDrops := satInc d.seenDrops }⟩) ∧
    (¬(c.sentIt f = true ∧ f.crcOk = true) → (c.head = false ∨ f.seen = false) →
      (f.valid = true →
        c.arrive f = ⟨mine, false,
          let e := { d with datagrams := out ++ d.datagrams }
          if takes || (mine && f.dst != uaBroadcast) then e else e.passOn f⟩) ∧
      (f.valid = false →
        let e := if (f.crcOk && takes) || (mine && f.dst != uaBroadcast) then d else d.passOn f
        c.arrive f = ⟨false, false, if mine then e.discard else e⟩))) ∧
  (∀ (s : State) (f : ChainFrame),
    let p : ChainPort := if f.forward then .cynIn else .cynOut
    let l := ((s.power.ps :: (s.chain.port p).crcAt).filter fun t => decide (s.power.ps < t + 1000000000)).take 16
    let u : State := { s with chain := s.chain.setPort p { s.chain.port p with crcAt := l } }
    (f.crcOk = true → s.afterCrc f = s ∧ s.chain.countCrc f = s.chain) ∧
    (f.crcOk = false → s.afterCrc f = (if 16 ≤ l.length then u.portBreak p else u) ∧
      s.chain.countCrc f = s.chain.setPort p { s.chain.port p with crc := satInc (s.chain.port p).crc }))) ∧
  (let arrives (s : State) (f : ChainFrame) (u : State) : Prop :=
    s.chain.forwardRx f = true ∧ (s.chain.arrive f).own = false ∧ (s.chain.arrive f).act = true ∧ u = { s with chain := (s.chain.arrive f).chain }
  (∀ (s u : State) (f : ChainFrame), arrives s f u → f.typ = 0x32 →
    let t := if bit f.aux 10 then u.takeResponse f else u.takeCommand f
    let ack (t : State) : State := if f.dst = uaBroadcast ∨ f.src = uaNone then t else t.send (t.frame 0x33 f.src f.aux [])
    exec (.mbxFrame f) s = .next (if t.1 then ack t.2 else t.2)) ∧
  (∀ (u : State) (f : ChainFrame),
    let seq : BitVec 8 := BitVec.ofNat 8 f.aux
    let key := rxKey f
    let frag := bits f.aux 8 1
    let heard (c : ChainState) : ChainState := { c with rxSeq := tset none c.rxSeq key (some seq) }
    let held := u.chain.slots.find? fun e =>
      match e.2 with | some r => r.from_ == f.src && r.seq == seq && r.bcast == (f.dst == uaBroadcast) | none => false
    (tget none u.chain.rxSeq key = some seq → u.takeCommand f = (true, u)) ∧
    (tget none u.chain.rxSeq key ≠ some seq →
      (∀ n r, held = some (n, some r) →
        (frag = 0 → u.takeCommand f = (true, u)) ∧
        (frag ≠ 0 →
          let r' : RelaySlot := { r with cmd := r.cmd ++ f.payload, ready := true }
          u.takeCommand f = (true, ({ u with chain := heard { u.chain with slots := tset none u.chain.slots n (some r') } } : State).slotReady n r'))) ∧
      (held = none →
        (frag ≠ 0 → u.takeCommand f = (false, u)) ∧
        (frag = 0 →
          let n := u.chain.freeSlot
          let r : RelaySlot :=
            { from_ := f.src, seq := seq, cmd := f.payload, ready := bit f.aux 9, bcast := f.dst == uaBroadcast, waits := none }
          let c := { u.chain with slots := tset none u.chain.slots n (some r) }
          u.takeCommand f = (true, if bit f.aux 9 then ({ u with chain := heard c } : State).slotReady n r else { u with chain := c })))) ∧
    (u.relayOf f false = none → tget none u.chain.rxSeq key = some seq → u.takeResponse f = (true, u)) ∧
    (u.relayOf f false = none → tget none u.chain.rxSeq key ≠ some seq →
      u.takeResponse f = (true, ({ u with chain := heard u.chain } : State).takeReport f)) ∧
    (∀ r, u.relayOf f false = some r →
      let b := if frag = 0 then f.payload else r.resp ++ f.payload
      let same := fld b 0 2 = fld r.cmd 0 2 ∧ fld b 2 2 = fld r.cmd 2 2
      (frag ≠ 0 → r.resp = [] → u.takeResponse f = (false, u)) ∧
      (frag = 0 ∨ r.resp ≠ [] →
        (¬same → u.takeResponse f = (true, u.takeReport f)) ∧
        (same → bit f.aux 9 = true → u.takeResponse f = (true, (u.dropRelay r).answer r b)) ∧
        (same → bit f.aux 9 = false → u.takeResponse f = (true, u.setRelay r { r with resp := f.payload }))))) ∧
  (∀ (s u : State) (f : ChainFrame), arrives s f u → f.typ = 0x33 →
    (u.relayOf f (bit f.aux 10) = none → exec (.mbxAckFrame f) s = .next u) ∧
    ∀ r, u.relayOf f (bit f.aux 10) = some r →
      let left := r.unacked.filter (· != bits f.aux 8 1)
      exec (.mbxAckFrame f) s =
        .next (if left = [] ∧ (r.isResp = true ∨ r.owner = .none) then u.dropRelay r else u.setRelay r { r with unacked := left })) ∧
  (∀ (s : State) (i : Nat),
    ((∀ r, s.chain.relays[i]? = some r → r.unacked = []) → exec (.mbxRetransmit i) s = .next s) ∧
    ∀ r, s.chain.relays[i]? = some r → r.unacked ≠ [] →
      (9 ≤ r.tries → exec (.mbxRetransmit i) s = .next ((s.dropRelay r).failRelay r Code.CH_RELAY_TIMEOUT)) ∧
      (r.tries ≤ 8 → ∃ t, exec (.mbxRetransmit i) s = .next t ∧ t.chain.mbxRetry = satAdd s.chain.mbxRetry r.unacked.length ∧
        t.chain.sent.length = s.chain.sent.length + r.unacked.length ∧ t.chain.relays = s.chain.relays.map fun x =>
          if x = r then { r with tries := r.tries + 1 } else x)) ∧
  (∀ (s u : State) (f : ChainFrame), arrives s f u → f.typ = 0x35 →
    let image := fld f.payload 8 8
    let id := fld f.payload 1 1
    let named := u.namedSites (fld f.payload 2 2) image
    let tell := named.filter fun n => (u.site n).img.root && (u.site n).startAt.isSome
    (fld f.payload 0 1 = 1 →
      exec (.chainStart f) s = .next ((named.filter fun n => (u.site n).state == .armed).foldl (fun v n => v.startSite n) u)) ∧
    (fld f.payload 0 1 = 2 →
      exec (.chainStop f) s = .next (tell.foldl (fun v n => v.tellParts n 0x0305 (runPay (v.site n).img 0)) (u.stopSites named))) ∧
    (fld f.payload 0 1 = 3 →
      exec (.chainTrigger f) s = .next (((u.listeners id).foldl
        (fun v i => match v.siteOf i with | some n => v.fireExternal n i (v.trig i).slot 0x20 | none => v) u).mapFlags id)) ∧
    (fld f.payload 0 1 = 4 →
      let c := fld f.payload 16 6
      let acts (n : Nat) : Prop := (u.site n).state = .running ∧ (u.site n).img.depth ≠ 0 ∧ (u.site n).ra.oldest ≤ c ∧ c ≤ (u.site n).cycle.toNat
      (∀ n, u.ownSite image = some n → acts n → exec (.siteRollback f) s = .next (u.actOnDiv n c 0)) ∧
      ((∀ n, u.ownSite image = some n → ¬acts n) → exec (.siteRollback f) s = .next u))) ∧
  (∀ (s u : State) (f : ChainFrame), arrives s f u → f.typ = 0x38 →
    (u.chain.head = true → exec (.breakFrame f) s = .next (u.breakReport f.src (f.aux % 2) (fld f.payload 0 2) (bit f.aux 1))) ∧
    (u.chain.head = false → exec (.breakFrame f) s = .next u)) ∧
  (∀ (s : State) (f : ChainFrame), f.typ = 0x36 →
    let token (u : State) (good : Bool) : State :=
      match u.ownSite (fld f.payload 8 8) with
      | none => u
      | some n =>
        if fld f.payload 2 6 = (u.site n).cycle.toNat then
          u.hingeToken n (.chain (f.aux % 1024)) (fld f.payload 0 1 % 8) (BitVec.ofNat 16 (fld f.payload 2 2)) good
        else u
    (∀ u, arrives s f u → f.crcOk = true → exec (.linkHinge f) s = .next (token u true)) ∧
    (s.chain.forwardRx f = true → f.crcOk = false → s.chain.addressed = true → f.dst = s.chain.ua →
      exec (.linkHinge f) s = .next ((token { s with chain := (s.chain.countCrc f).discard } false).afterCrc f))) ∧
  (∀ (s : State) (i id : Nat),
    let t := s.trig i
    i ∈ s.listeners id ↔ i < 64 ∧ t.state = .ready ∧ t.cfg.exten = true ∧ id ≠ 0 ∧ t.cfg.listen.toNat = id ∧ (s.siteOf i).isSome = true))

/-- The time commands: TCTL writes its register, ROLE 1 starting UNLOCKED (R403, R404), its class S fields only while no site is ARMED or
RUNNING, and a role only while no other master is heard; TIME_SET steps a ROLE 1 master once and locks it, a second step being refused
CH_TIME_LOCKED (R404); TIME_UNLOCK starts a new epoch UNLOCKED and answers it, unless a site or something timed stands on the scale
(R402); RATE is written while FREEZE is set and refused ST_FIELD_BUSY otherwise (R401); PTP writes transport and addresses, class S too
(R408). -/
def Obligations.TimeCommandsSteerTheServo : Prop :=
  (∀ (s : State) (src : Nat) (q : Req), s.serves src { op := 0x0A04, need := 4, cov := [(0, 4)] } = some q →
    let v : BitVec 32 := BitVec.ofNat 32 (q.n 0 4)
    let u : State := { s with time := { s.time with tctl := v } }
    exec (.tctl src) s =
      .next (if v &&& 0xFF80F0CE ≠ 0 then s.reply q Code.ST_RESERVED_NONZERO [] 0
        else if bits v.toNat 4 2 = 3 ∨ 10 < bits v.toNat 8 4 then s.reply q Code.ST_BAD_PARAM [] 0
        else if (v ^^^ s.time.tctl) &&& 0x007F0F30 ≠ 0 ∧ s.siteLive = true then s.reply q Code.ST_FIELD_BUSY [] 0
        else if bits v.toNat 4 2 ≠ 0 ∧ s.time.otherMaster ≠ none then s.reply q Code.ST_RESOURCE_BUSY [] 0
        else (if bits v.toNat 4 2 = 1 ∧ s.time.role ≠ 1 then
          ({ u with time := { u.time with stepped := false } } : State).setServo .unlocked else u).reply q Code.ST_OK [] 0)) ∧
  (∀ (s : State) (src : Nat) (q : Req), s.serves src { op := 0x0A05, need := 16, cov := [(0, 16)] } = some q →
    let v : BitVec 128 := BitVec.ofNat 128 (q.n 0 16)
    exec (.timeSet src) s =
      .next (if s.time.role ≠ 1 then s.reply q Code.ST_BAD_PARAM [] 0
        else if s.time.stepped then s.reply q Code.CH_TIME_LOCKED [] 0
        else if bits v.toNat 46 2 ≠ 0 ∨ bits v.toNat 116 12 ≠ 0 then s.reply q Code.ST_RESERVED_NONZERO [] 0
        else if 1000000000 ≤ bits v.toNat 16 30 then s.reply q Code.ST_BAD_PARAM [] 0
        else (({ s with time := { s.time with counter := stampFine v * 2 ^ 24, stepped := true } } : State).setServo .locked).reply q
          Code.ST_OK [] 0)) ∧
  (∀ (s : State) (src : Nat) (q : Req), s.serves src { op := 0x0A06, need := 0 } = some q →
    exec (.timeUnlock src) s =
      .next (if s.siteLive then s.reply q Code.ST_SITE_BUSY [] 0
        else if s.timePending then s.reply q Code.ST_RESOURCE_BUSY [] 0
        else (({ s with time := { s.time with epoch := s.time.epoch + 1, stepped := false } } : State).setServo .unlocked).reply q Code.ST_OK
          (leBytes (s.time.epoch + 1).toNat 2) 0)) ∧
  (∀ (s : State) (src : Nat) (q : Req), s.serves src { op := 0x0A07, need := 4, cov := [(0, 4)] } = some q →
    exec (.rate src) s =
      .next (if s.time.frozen then
          ({ s with time := { s.time with rate := BitVec.ofNat 32 (q.n 0 4) } } : State).reply q Code.ST_OK [] 0
        else s.reply q Code.ST_FIELD_BUSY [] 0)) ∧
  (∀ (s : State) (src : Nat) (q : Req), s.serves src { op := 0x0A0A, need := 12, cov := [(0, 1), (4, 8)] } = some q →
    let new : Bool × BitVec 32 × BitVec 32 := (q.n 0 1 == 1, BitVec.ofNat 32 (q.n 4 4), BitVec.ofNat 32 (q.n 8 4))
    exec (.ptp src) s =
      .next (if 2 ≤ q.n 0 1 then s.reply q Code.ST_BAD_PARAM [] 0
        else if s.siteLive = true ∧ (s.time.ptpAnnexE, s.time.ptpIp, s.time.ptpMask) ≠ new then s.reply q Code.ST_FIELD_BUSY [] 0
        else ({ s with time := { s.time with ptpAnnexE := new.1, ptpIp := new.2.1, ptpMask := new.2.2 } } : State).reply q Code.ST_OK [] 0)) ∧
  (∀ (s : State) (x : Servo), (s.setServo x).time.servo = x)

/-- The servo (R402, R403). While FREEZE is 0 a measured offset moves it as R403 tables it, the UNLOCKED unit stepping once by the offset
(R402); with FREEZE the offset is only kept. A follower hands a TIME frame on with hop delay and residence added to CORR, the residence a
free value, and of a frame in the reverse direction the hop delay too (the model's choice, log entry 8), and measures its stamp against
ORIGIN + CORR + hop (R406); another master than the one followed, heard twice, ends TRACKING and LOCKED in HOLDOVER (R403); two masters
are posted (R404). A frame of its own, one marked SEEN at the head, and one of a bad length or CRC go the way of R386 to R388. A master
sends its time (R404, R406); without sync for 4 periods TRACKING and LOCKED turn HOLDOVER (R403). Hop delays and IEEE 1588. A HOPDLY
request is answered with both stamps and the matching response joins the last 16 exchanges; an invalid frame is discarded and counted, and
a frame of the other kind or direction changes nothing; the unit at the CYN_IN end of a hop measures it (R405). The 1588 client of ROLE 2
keeps the best Announce, measures a Sync and takes half the round trip as path delay (R408). -/
def Obligations.DeviceTimeFollowsItsMaster : Prop :=
  ((∀ (s : State) (off : Int) (m : BitVec 18),
    let t := (s.measured off m).time
    let far := off < -65536000 ∨ 65536000 < off
    let wide := off < -2097152 ∨ 2097152 < off
    let near := -262144 ≤ off ∧ off ≤ 262144
    (s.time.frozen = true → s.measured off m =
      { s with time := { s.time with offset := toBits 32 (clampInt (-(2 ^ 31)) (2 ^ 31 - 1) off), syncs := satInc s.time.syncs } }) ∧
    (s.time.frozen = false →
      (s.time.servo = .unlocked → t.servo = .tracking ∧ t.counter = ((s.time.counter : Int) - off * 2 ^ 24).toNat ∧ t.master = m) ∧
      (s.time.servo = .tracking → (far → t.servo = .holdover) ∧ (¬far → ¬near → t.servo = .tracking ∧ t.goodSyncs = 0) ∧
        (near → s.time.goodSyncs < 15 → t.servo = .tracking ∧ t.goodSyncs = s.time.goodSyncs + 1) ∧
        (near → 15 ≤ s.time.goodSyncs → t.servo = .locked)) ∧
      (s.time.servo = .locked → (far → t.servo = .holdover) ∧ (¬far → wide → t.servo = .tracking) ∧ (¬wide → t.servo = .locked)) ∧
      (s.time.servo = .holdover → (¬far → t.servo = .tracking ∧ t.counter = s.time.counter ∧ t.master = m) ∧
        (far → t.servo = .holdover ∧ t.jumps = if s.time.jumpFor = some m then s.time.jumps else satInc s.time.jumps)))) ∧
  (∀ (s : State) (f : ChainFrame) (rx : BitVec 128),
    let c := s.chain.countCrc f
    let fwd := s.chain.forwardRx f
    let own := fwd = true ∧ s.chain.addressed = true ∧ f.src = s.chain.ua ∧ f.crcOk = true
    let dropped := fwd = true ∧ s.chain.head = true ∧ f.seen = true
    (f.typ ≠ 0x34 ∨ own → exec (.timeFrame f rx) s = .next s) ∧
    (f.typ = 0x34 → ¬own →
      (dropped → exec (.timeFrame f rx) s = .next (({ s with chain := { c with seenDrops := satInc c.seenDrops } } : State).afterCrc f)) ∧
      (¬dropped →
        (f.len ≠ 4 ∨ f.payload.length ≠ 32 →
          exec (.timeFrame f rx) s = .next (({ s with chain := if fwd then (c.passOn f).discard else c.emitBack f } : State).afterCrc f)) ∧
        (f.len = 4 → f.payload.length = 32 →
          let hop : Int := if f.forward then s.time.hop else ((Config.freeWord s.freeCtr).toNat : Int)
          let k := if f.forward then s.freeCtr else s.freeCtr + 1
          ∃ (v : State) (g : ChainFrame), v = { s with chain := if fwd then c.passOn g else c.emitBack g, freeCtr := k + 1 } ∧
            (f.crcOk = true ↔ g.crcOk = true) ∧ g.hdr = f.hdr ∧
            g.payload = f.payload.take 16 ++
              leBytes (toBits 64 (sext (fld f.payload 16 8) 64 + (hop + ((Config.freeWord k).toNat : Int)))).toNat 8 ++ f.payload.drop 24 ∧
            (fwd = false → exec (.timeFrame f rx) s = .next (v.afterCrc f)) ∧
            (fwd = true → f.crcOk = false → exec (.timeFrame f rx) s = .next (({ v with chain := v.chain.discard } : State).afterCrc f)) ∧
            (fwd = true → f.crcOk = true → exec (.timeFrame f rx) s = .next (v.follow f (stampFine rx) hop)))))) ∧
  (∀ (s : State) (f : ChainFrame) (ing : Nat) (hop : Int),
    let m : BitVec 18 := BitVec.ofNat 18 (fld f.payload 24 4)
    let h : State := { s with time := { s.time with otherMaster := some m } }
    let two : Bool := match s.time.otherMaster with | some u => u != m | none => s.time.role != 0
    let u := if two then h.postChain Code.CH_TWO_MASTERS 0 m 0 else h
    let ours := s.time.servo = .unlocked ∨ s.time.servo = .holdover ∨ s.time.master = m
    (s.time.role ≠ 0 → s.follow f ing hop = u) ∧
    (s.time.role = 0 → ours → s.follow f ing hop =
      u.measured ((ing : Int) - ((stampFine (BitVec.ofNat 128 (fld f.payload 0 16)) : Int) + sext (fld f.payload 16 8) 64 + hop)) m) ∧
    (s.time.role = 0 → ¬ours → s.follow f ing hop =
      if s.time.otherMaster = some m ∧ s.time.frozen = false then u.setServo .holdover else u)) ∧
  (∀ (s : State),
    let info := s.chain.ua.toNat + s.time.servo.code * 2 ^ 18 + s.time.syncPer * 2 ^ 20
    let u := s.send (s.frame 0x34 uaBroadcast s.time.timeSeq.toNat (leBytes s.stamp.toNat 16 ++ leBytes 0 8 ++ leBytes info 8))
    let sends := s.time.role ≠ 0 ∧ s.time.servo ≠ .unlocked ∧ s.chain.addressed = true
    (sends → exec .timeSyncSend s = .next { u with time := { s.time with timeSeq := s.time.timeSeq + 1 } }) ∧
    (¬sends → exec .timeSyncSend s = .next s)) ∧
  (∀ (s : State), ∃ t, exec .syncLossTimeout s = .next t ∧ t.time.otherMaster = none ∧
    t.time.servo = if s.time.role ≠ 1 ∧ s.time.frozen = false ∧ (s.time.servo = .tracking ∨ s.time.servo = .locked) then .holdover else s.time.servo)) ∧
  ((∀ (s : State) (f : ChainFrame) (rx : BitVec 128),
    let bad : State := ({ s with chain := (s.chain.countCrc f).discard } : State).afterCrc f
    let request := f.typ = 0x37 ∧ f.forward = false ∧ bit f.aux 0 = false
    let response := f.typ = 0x37 ∧ f.forward = true ∧ bit f.aux 0 = true
    (¬request → exec (.hopdlyRequest f rx) s = .next s) ∧ (request → f.valid = false → exec (.hopdlyRequest f rx) s = .next bad) ∧
    (request → f.valid = true →
      exec (.hopdlyRequest f rx) s = .next { s with chain := { s.chain with
        sent := (true, s.frame 0x37 uaBroadcast (1 + f.aux / 2 % 2048 * 2) (leBytes (stampFine rx) 8 ++ leBytes s.time.fine 8)) :: s.chain.sent
        out := { s.chain.out with healed := s.chain.out.healed + 1 } } }) ∧
    (¬response → exec (.hopdlyResponse f rx) s = .next s) ∧ (response → f.valid = false → exec (.hopdlyResponse f rx) s = .next bad) ∧
    (response → f.valid = true →
      ((∀ t1 seq, s.time.hopReq = some (t1, seq) → f.aux / 2 ≠ seq.toNat) → exec (.hopdlyResponse f rx) s = .next s) ∧
      ∀ t1 seq, s.time.hopReq = some (t1, seq) → f.aux / 2 = seq.toNat →
        let d : Int := ((stampFine rx : Int) - t1) - ((fld f.payload 8 8 : Int) - fld f.payload 0 8)
        exec (.hopdlyResponse f rx) s = .next { s with
          chain := { s.chain with inp := { s.chain.inp with healed := s.chain.inp.healed + 1 } }
          time := { s.time with hops := (Int.fdiv d 2 :: s.time.hops).take 16, hopReq := none } })) ∧
  (∀ (s : State), (s.chain.inp.lock = true → ∃ (t : State) (g : ChainFrame), exec (.hopdlyMeasure .cynIn) s = .next t ∧
      t.chain.sent = (false, g) :: s.chain.sent ∧ g.typ = 0x37 ∧ g.valid = true ∧ g.aux = s.time.hopSeq.toNat % 2048 * 2 ∧
      t.time.hopReq = some (s.time.fine, s.time.hopSeq) ∧ t.time.hopSeq = s.time.hopSeq + 1) ∧
    (s.chain.inp.lock = false → exec (.hopdlyMeasure .cynIn) s = .next s) ∧
    exec (.hopdlyMeasure .cynOut) s = .next s) ∧
  (∀ (s : State) (a : PtpAnnounce) (mt rx t4 : Nat), s.time.role ≠ 2 →
    exec (.ptpAnnounce a) s = .next s ∧ exec (.ptpSync mt rx) s = .next s ∧ exec (.ptpDelayResp t4) s = .next s) ∧
  (∀ (s : State) (a : PtpAnnounce), s.time.role = 2 →
    exec (.ptpAnnounce a) s = .next { s with time := match s.time.ptpBest with
      | none => { s.time with ptpBest := some a }
      | some b =>
        if a.identity = b.identity then { s.time with ptpBest := some a }
        else if PtpAnnounce_rank a < PtpAnnounce_rank b then
          { s.time with ptpBest := some a, jumpFor := none, masterChanges := satInc s.time.masterChanges }
        else s.time }) ∧
  (∀ (s : State) (mt rx t4 : Nat), s.time.role = 2 →
    (s.time.ptpBest = none → exec (.ptpSync mt rx) s = .next s) ∧
    (s.time.ptpBest ≠ none →
      let off : Int := (rx : Int) - mt - s.time.ptpDelay
      let u := s.measured off s.chain.ua
      let a := if s.time.servo = .unlocked ∧ s.time.frozen = false then ((rx : Int) - off).toNat else rx
      exec (.ptpSync mt rx) s = .next { u with time := { u.time with ptpSyncAt := some (mt, a), ptpReqAt := some u.time.fine } }) ∧
    (s.time.ptpSyncAt = none ∨ s.time.ptpReqAt = none → exec (.ptpDelayResp t4) s = .next s) ∧
    ∀ t1 t2 t3 : Nat, s.time.ptpSyncAt = some (t1, t2) → s.time.ptpReqAt = some t3 →
      exec (.ptpDelayResp t4) s =
        .next { s with time := { s.time with ptpDelay := Int.fdiv (((t2 : Int) - t1) + ((t4 : Int) - t3)) 2, ptpReqAt := none } }))

/-- TIMED programs a generator: with its fields in range, the servo not UNLOCKED, the first occurrence at least 2 µs on and its TIME_OUT
pin free, it is on with its target, polarity, width, count, first time and period, and its pin's idle level is its polarity; otherwise it
is refused with nothing changed. TIMED_CLEAR stops a generator. Occurrence k takes place once the step that contains T_FIRST + k × PERIOD
has come, and not before: a pulse on the pin of WIDTH steps, or an event, and the last one frees the generator (R412). START_AT starts an
ARMED site at the step that contains T, and not before (R411). -/
def Obligations.TimedGeneratorsAndStartsFireAtTheirStep : Prop :=
  (∀ (s : State) (src : Nat) (q : Req), s.serves src { op := 0x0A08, need := 24, cov := [(0, 24)] } = some q →
    let t := q.n 0 1
    let tgt := q.n 1 1 % 8
    let pol := bit (q.n 1 1) 7
    let no (e : Status) : Prop := exec (.timed src) s = .next (s.reply q e [] 0)
    if bits (q.n 1 1) 3 4 ≠ 0 then no Code.ST_RESERVED_NONZERO
    else if 8 ≤ t ∨ 4 < tgt ∨ (q.n 2 2 = 0 ∧ tgt < 4) ∨ (q.n 2 2 ≠ 0 ∧ tgt = 4) ∨ (q.n 16 8 = 0 ∧ q.n 4 4 ≠ 1) ∨ (q.n 16 8 ≠ 0 ∧ q.n 4 4 = 1) ∨
        (q.n 4 4 ≠ 1 ∧ q.n 16 8 * 1000 ≤ q.n 2 2 * s.stepPs * 65536) then no Code.ST_BAD_PARAM
    else if s.time.servo = .unlocked then no Code.CH_TIME_UNLOCKED
    else if q.n 8 8 < s.time.ns + 2000 then no Code.CH_TIME_PAST
    else if tgt < 4 ∧ (s.pinHeld t tgt = true ∨ bit s.toutReserved tgt = true) then no Code.ST_RESOURCE_BUSY
    else ∃ u : State, exec (.timed src) s = .next (u.reply q Code.ST_OK [] 0) ∧
      u.tev t = { on := true, target := tgt, pol := pol, width := q.n 2 2, count := q.n 4 4, first := q.n 8 8, period := q.n 16 8 } ∧
      (∀ k, k ≠ t → u.tev k = s.tev k) ∧ (tgt < 4 → getBit u.time.toutIdle tgt = pol) ∧
      u = { s with time := { s.time with tevs := u.time.tevs, toutIdle := u.time.toutIdle } }) ∧
  (∀ (s : State) (src : Nat) (q : Req), s.serves src { op := 0x0A09, need := 1, cov := [(0, 1)] } = some q →
    exec (.timedClear src) s =
      .next (if 8 ≤ q.n 0 1 then s.reply q Code.ST_BAD_PARAM [] 0
        else (s.setTev (q.n 0 1) { s.tev (q.n 0 1) with on := false, pulsing := false }).reply q Code.ST_OK [] 0)) ∧
  (∀ (s : State) (k : Fin 8),
    let e := s.tev k.val
    let e1 : Tev := { e with done := e.done + 1 }
    let left := e.count = 0 ∨ e.done < e.count
    let due := (e.first * 65536 + e.done * e.period) * 2 ^ 24 * 1000 < s.time.counter * 1000 + s.stepPs * 2 ^ 40
    (e.on = true → left → due → e.target ≠ 4 →
      exec (.timedOccurrence k) s = .next (s.setTev k.val { e1 with pulsing := true, until_ := s.power.steps + e.width })) ∧
    (e.on = true → left → due → e.target = 4 → exec (.timedOccurrence k) s =
        .next ((s.setTev k.val { e1 with on := decide (e.count = 0 ∨ e.done + 1 < e.count) }).post 0x08 Code.ST_OK 0xFF k.val 0 (leBytes e.done 8))) ∧
    ((e.on = false ∨ ¬left ∨ ¬due) → exec (.timedOccurrence k) s = .next s) ∧
    exec (.timedPulseEnd k) s =
      .next (if e.pulsing = true ∧ e.until_ ≤ s.power.steps then s.setTev k.val { e with pulsing := false, on := decide left } else s)) ∧
  (∀ (s : State) (n : Fin 16),
    exec (.startAtFire n) s =
      .next (match (s.site n.val).startAt with
        | none => s
        | some t =>
          if (s.site n.val).state = .armed ∧ (s.site n.val).unloading = false ∧
              t * 65536 * 2 ^ 24 * 1000 < s.time.counter * 1000 + s.stepPs * 2 ^ 40 then s.startSite n.val
          else s))

/-- The power commands (R464): DOMAIN_LOCK OP 0 unlocks, OP 1 locks a domain that is OFF and is refused ST_FIELD_BUSY otherwise (R478), OP
2 and 3 set and end the hold; POWER_POLICY writes the idle policy of one domain, or with 0xFF of every domain that accepts the target
(R484); POWER_STATUS and THERMAL OP 0 answer their records; THERMAL OP 1 sets ALARM to 240 to 416 (R465). A domain that does not exist and
values out of range are refused ST_BAD_PARAM. -/
def Obligations.PowerCommandsSetTheirDomain : Prop :=
  (∀ (s : State) (src : Nat) (q : Req),
    let d := q.n 0 1
    let set (f : Domain → Domain) : State :=
      if domIdOk d = false then s.reply q Code.ST_BAD_PARAM [] 0 else (s.modDom d f).reply q Code.ST_OK [] 0
    (s.serves src { op := 0x0B02, form := some (1, 0), need := 2, cov := [(0, 2)] } = some q →
      exec (.domainUnlock src) s = .next (set fun x => { x with locked := false })) ∧
    (s.serves src { op := 0x0B02, form := some (1, 1), need := 2, cov := [(0, 2)] } = some q →
      exec (.domainLockOff src) s =
        .next (if domIdOk d = true ∧ (s.dom d).state ≠ .off then s.reply q Code.ST_FIELD_BUSY [] 0
          else set fun x => { x with locked := true, waking := false })) ∧
    (s.serves src { op := 0x0B02, form := some (1, 2), need := 2, cov := [(0, 2)] } = some q →
      exec (.domainHoldOn src) s = .next (set fun x => { x with held := true })) ∧
    (s.serves src { op := 0x0B02, form := some (1, 3), need := 2, cov := [(0, 2)] } = some q →
      exec (.domainHoldRelease src) s = .next (set fun x => { x with held := false }))) ∧
  (∀ (s : State) (src : Nat) (q : Req), s.serves src { op := 0x0B03, need := 8, cov := [(0, 3), (4, 4)] } = some q →
    let t := q.n 2 1
    let ds := if q.n 0 1 = 0xFF then allDoms.filter fun k => domAccepts k (domStateOf t) else [q.n 0 1]
    exec (.powerPolicy src) s =
      .next (if (q.n 0 1 ≠ 0xFF ∧ domAccepts (q.n 0 1) (domStateOf t) = false) ∨ 1 < q.n 1 1 ∨ t = 0 ∨ 3 < t ∨ q.n 4 4 = 0 ∨ 1000000 < q.n 4 4 then
          s.reply q Code.ST_BAD_PARAM [] 0
        else (ds.foldl (fun s k => s.modDom k fun x =>
          { x with auto := q.n 1 1 == 1, target := BitVec.ofNat 8 t, idleUs := BitVec.ofNat 32 (q.n 4 4) }) s).reply q Code.ST_OK [] 0)) ∧
  (∀ (s : State) (src : Nat) (q : Req), s.serves src { op := 0x0B04, need := 1, cov := [(0, 1)] } = some q →
    let x := s.dom (q.n 0 1)
    exec (.powerStatus src) s =
      .next (if domIdOk (q.n 0 1) = false then s.reply q Code.ST_BAD_PARAM [] 0
        else s.reply q Code.ST_OK
        (leBytes x.state.code 1 ++ leBytes (b2n x.locked + 2 * b2n (x.held || x.keyHeld) + 4 * b2n x.auto) 1 ++
          leBytes x.refusals.toNat 2 ++ leBytes x.lastRefuser.code 1 ++ leBytes 0 1 ++ leBytes x.wakes.toNat 2) 0)) ∧
  (∀ (s : State) (src : Nat) (q : Req), s.serves src { op := 0x0B05, form := some (0, 0), need := 1, cov := [(0, 1), (2, 2)] } = some q →
    exec (.thermalRead src) s = .next (s.reply q Code.ST_OK s.power.thermalRecord 0)) ∧
  (∀ (s : State) (src : Nat) (q : Req), s.serves src { op := 0x0B05, form := some (0, 1), need := 4, cov := [(0, 1), (2, 2)] } = some q →
    let p := { s.power with alarm := BitVec.ofNat 16 (q.n 2 2) }
    exec (.thermalSetAlarm src) s =
      .next (if 240 ≤ q.n 2 2 ∧ q.n 2 2 ≤ 416 then ({ s with power := p } : State).reply q Code.ST_OK p.thermalRecord 0
        else s.reply q Code.ST_BAD_PARAM [] 0))

/-- The power events. A domain left idle starts an entry to its target (R484); E1 checks the refusers and starts the drain, which ends in
the new state, or with the rail's off request for a mapped domain (R471, R482), and is refused RING_BUSY when the stop does not drain
(R471). A wake turns the rail on first, then releases the domain ON, counted in WAKES (R474, R475, R482); a wake over its time answers
those that wait with PW_WAKE_TIMEOUT (R476). An acknowledged request ends the entry or the wake, one that is not is posted and rolled
back, and a rollback that is not leaves the domain locked OFF (R483). An event with nothing to act on changes nothing. What a state keeps,
and the thermal policy. RETAIN loses a sash's net bits, exchange and results, OFF loses a DDR channel's contents and its training (R468,
R469), and a sash back from OFF is as reset, with its trigger unit, its lane idle and its scratchpad never written (R474). The hottest
sensor gives T_J; the thermal state goes to critical at T_CRIT, to alarm at ALARM, and back 10 and 5 degrees below them, each change
posted (R487); at critical the policy of `State.critical` acts, and a sample with no reading changes nothing (the model's choice).
PMB_ALERT_N is counted (R481), THERM_TRIP_N is asserted (R487). -/
def Obligations.PowerEventsMoveDomains : Prop :=
  ((∀ (s : State) (dom : BitVec 8),
    let d := dom.toNat
    let x := s.dom d
    let t := domStateOf x.target.toNat
    exec (.idlePolicyTimeout dom) s = .next (if x.auto = true ∧ x.state = .on ∧ x.entry = none ∧ x.waking = false ∧ domAccepts d t = true
      then s.setDom d { x with entry := some { target := t, ticket := none, draining := false } } else s) ∧
    (x.entry = none → exec (.shutterClosing dom) s = .next s ∧ exec (.shutterDrainTimeout dom) s = .next s ∧
      exec (.shutterDrainDone dom) s = .next s) ∧
    (∀ e, x.entry = some e →
      (e.draining = false → x.state = .on → x.waking = false →
        exec (.shutterClosing dom) s = .next (if s.refuser d e.target = .none then s.setDom d { x with entry := some { e with draining := true } }
          else s.refuseEntry d (s.refuser d e.target) e.ticket)) ∧
      ((e.draining = true ∨ x.state ≠ .on ∨ x.waking = true) → exec (.shutterClosing dom) s = .next s) ∧
      (e.draining = true → e.isolated = false → exec (.shutterDrainTimeout dom) s = .next (s.refuseEntry d .ringBusy e.ticket)) ∧
      ((e.draining = false ∨ e.isolated = true) → exec (.shutterDrainTimeout dom) s = .next s ∧ exec (.shutterDrainDone dom) s = .next s) ∧
      (s.domDrained d = false → exec (.shutterDrainDone dom) s = .next s) ∧
      (e.draining = true → e.isolated = false → s.domDrained d = true →
        ((e.target ≠ .off ∨ s.power.railOf d = none) →
          ∃ t, exec (.shutterDrainDone dom) s = .next t ∧ (t.dom d).state = e.target ∧ (t.dom d).entry = none) ∧
        (e.target = .off → ∀ i v, s.power.railOf d = some (i, v) →
          exec (.shutterDrainDone dom) s = .next (if (s.vreqOf (railBus v)).isSome then s else
            (s.setDom d { x with entry := some { e with isolated := true } }).setVreq (railBus v)
              (some { rail := i, on := false, rollback := false }))))) ∧
    ((x.waking = false ∨ x.state = .on ∨ x.locked = true) → exec (.domainWake dom) s = .next s) ∧
    (x.waking = true → x.state ≠ .on → x.locked = false →
      ((∀ i v, s.power.railOf d = some (i, v) → i ∉ s.power.railOff) → exec (.domainWake dom) s = .next (s.release d)) ∧
      (∀ i v, s.power.railOf d = some (i, v) → i ∈ s.power.railOff → exec (.domainWake dom) s =
        .next (if (s.vreqOf (railBus v)).isSome then s else s.setVreq (railBus v) (some { rail := i, on := true, rollback := false })))) ∧
    (x.state = .clockOff → s.chain.slots = [] →
      ((s.release d).dom d).state = .on ∧ ((s.release d).dom d).waking = false ∧ ((s.release d).dom d).wakes = satInc x.wakes) ∧
    (x.waking = false → exec (.wakeTimeout dom) s = .next s) ∧
    (x.waking = true →
      let srcs := ((List.range 16).filter fun c => (s.chan c).waits == some d) ++
        s.chain.slots.filterMap fun e => match e.2 with | some r => if r.waits = some d then some e.1 else none | none => none
      let u := srcs.foldl (fun u n => match u.request n with | some q => u.reply q Code.PW_WAKE_TIMEOUT [] 0 | none => u) s
      exec (.wakeTimeout dom) s = .next
        ((u.ring.worms.filter fun w => w.place == .source && u.wormDomain w == some d).foldl
          (fun v w => v.setWorm { w.answer 10 Code.PW_WAKE_TIMEOUT [] with place := .target }) u))) ∧
  (∀ (s : State) (b : Fin 2), s.vreqOf b.val = none → exec (.vreqAck b) s = .next s ∧ exec (.vreqTimeout b) s = .next s) ∧
  (∀ (s : State) (b : Fin 2) (r : Vreq), s.vreqOf b.val = some r →
    let off := s.power.railOff.filter (· != r.rail)
    let u := s.setVreq b.val none
    let w : State := { u with power := { u.power with railOff := if r.on then off else off ++ [r.rail] } }
    (tget none s.power.rails r.rail = none → exec (.vreqAck b) s = .next w ∧ exec (.vreqTimeout b) s = .next u) ∧
    ∀ v, tget none s.power.rails r.rail = some v →
      let d := railDom v
      (r.rollback = true → exec (.vreqAck b) s = .next (w.modDom d fun x => { x with entry := none, waking := false })) ∧
      (r.rollback = false →
        exec (.vreqAck b) s = .next (if r.on then (if d = 0xFE then w else w.release d) else w.entryDone d)) ∧
      (r.rollback = true → d ≠ 0xFE → ∃ t, exec (.vreqTimeout b) s = .next t ∧ (t.dom d).state = .off ∧ (t.dom d).locked = true ∧
        (t.dom d).entry = none ∧ t.vreqOf b.val = none) ∧
      (r.rollback = false → d ≠ 0xFE →
        let tk := match (s.dom d).entry with | some e => e.ticket | none => (s.dom d).wakeTicket
        let t := ((s.postVreq v).setVreq b.val (some { rail := r.rail, on := !r.on, rollback := true })).modDom d fun x =>
          { x with wakeTicket := none, entry := x.entry.map fun e => { e with ticket := none } }
        exec (.vreqTimeout b) s = .next (match tk with | some k => t.finish k Code.PW_VREQ_TIMEOUT (leBytes 0 1) | none => t)) ∧
      (d = 0xFE → exec (.vreqTimeout b) s = .next ((s.postVreq v).setVreq b.val none)))) ∧
  ((∀ (s : State) (n : Nat), n < 64 →
    (let t := s.lowerDomain (domSash n) .retain
     (t.sash n).net = [] ∧ (t.sash n).exch = 0 ∧ (t.sash n).results = 0 ∧ (t.sash n).st = (s.sash n).st ∧ t.mem = s.mem) ∧
    (let t := s.lowerDomain (domSash n) .clockOff
     t = s) ∧
    (let t := s.raiseDomain (domSash n) .off
     t.sash n = {} ∧ t.trig n = {} ∧ (t.lane n).mode = .idle ∧ (t.lane n).txIdle = true) ∧
    (let t := s.raiseDomain (domSash n) .clockOff
     t = s)) ∧
  (∀ (s : State) (c : Nat), c < 8 → ((s.lowerDomain (domDdr c) .off).ddr c).trained = false) ∧
  (∀ (s : State), exec (.thermalSample []) s = .next s) ∧
  (∀ (s : State) (a : Int) (l : List Int),
    let tj := l.foldl max a
    let old := s.power.thermal
    let crit := (tCrit : Int)
    let alarm := (s.power.alarm.toNat : Int)
    ∃ new, exec (.thermalSample (a :: l)) s = .next
        (let u : State := { s with power := { s.power with tj := tj, thermal := new } }
         if new = old then u else
           let v := u.post 0x0D (if new = 0 then Code.ST_OK else if new = 1 then Code.PW_THERMAL_ALARM else Code.TF_THERMAL) 0xFF 0 new
             (leBytes (toBits 16 tj).toNat 2)
           if new = 2 then v.critical else v) ∧
      (crit ≤ tj → new = 2) ∧ (old = 0 → tj < crit → (new = 1 ↔ alarm ≤ tj) ∧ new ≤ 1) ∧
      (old = 1 → tj < crit → (new = 0 ↔ tj ≤ alarm - 20) ∧ new ≤ 1) ∧
      (old = 2 → tj < crit → (new = 1 ↔ tj ≤ crit - 40) ∧ 1 ≤ new ∧ new ≤ 2) ∧ (∀ x ∈ a :: l, x ≤ tj) ∧ tj ∈ a :: l) ∧
  (∀ (s : State), exec .thermTrip s = .next { s with power := { s.power with tripped := true } } ∧
    exec .pmbAlert s = .next { s with power := { s.power with pmbAlerts := satInc s.power.pmbAlerts } }))

/-- The debug commands (R466): SASH_STATUS answers R71 and its clear form then clears the counters; WCELL_STATUS answers R95; PEEK answers
a store of a sash of no ARMED or RUNNING site, zeros for a free sash, and is refused ST_SITE_STATE while the site is ARMED or RUNNING;
KEYHOLE_SEL sets the source of a pin or tap, at most 8 sources in a sash (R503); KEYHOLE_LANE takes a free lane into keyhole mode, refuses
one in use with ST_LANE_BUSY, and gives it back (R505). Sashes, lanes and selections out of range are refused. -/
def Obligations.DebugCommandsLookAndSelect : Prop :=
  (∀ (s : State) (src : Nat) (q : Req), s.serves src { op := 0x0C01, need := 2, cov := [(0, 2)], doms := laneDomain } = some q →
    exec (.sashStatus src) s =
      .next (if 64 ≤ q.n 0 1 then s.reply q Code.ST_BAD_PARAM [] 0
        else if 2 ≤ q.n 1 1 then s.reply q Code.ST_RESERVED_NONZERO [] 0
        else (if q.n 1 1 = 1 then s.modSash (q.n 0 1) fun x => { x with ctr := {} } else s).reply q Code.ST_OK (s.sashRecord (q.n 0 1)) 0)) ∧
  (∀ (s : State) (src : Nat) (q : Req), s.serves src { op := 0x0C02, need := 1, cov := [(0, 1)], doms := laneDomain } = some q →
    exec (.wcellStatus src) s =
      .next (if 64 ≤ q.n 0 1 then s.reply q Code.ST_BAD_PARAM [] 0
        else s.reply q Code.ST_OK ((s.sash (q.n 0 1)).wcRecord (q.n 0 1)) 0)) ∧
  (∀ (s : State) (src : Nat) (q : Req), s.serves src { op := 0x0C05, need := 3, cov := [(0, 3)], doms := laneDomain } = some q →
    exec (.peek src) s =
      .next (if 64 ≤ q.n 0 1 ∨ 4 < q.n 2 1 ∨ (q.n 2 1 = 3 ∧ 64 ≤ q.n 1 1) then s.reply q Code.ST_BAD_PARAM [] 0
        else match s.siteOf (q.n 0 1) with
        | none => s.reply q Code.ST_OK (List.replicate 64 0) 0
        | some n =>
          if (s.site n).state = .armed ∨ (s.site n).state = .running then s.reply q Code.ST_SITE_STATE [] 0
          else s.reply q Code.ST_OK ((s.sash (q.n 0 1)).peek (q.n 2 1) (q.n 1 1)) 0)) ∧
  (∀ (s : State) (src : Nat) (q : Req), s.serves src { op := 0x0C03, need := 8, cov := [(0, 1), (4, 4)] } = some q →
    let o := q.n 0 1
    let w : BitVec 32 := BitVec.ofNat 32 (q.n 4 4)
    let k := { s.power.key with src := tset 0 s.power.key.src o w }
    exec (.keyholeSel src) s =
      .next (if ¬(o < 16 ∨ (0x20 ≤ o ∧ o < 0x40)) then s.reply q Code.ST_BAD_PARAM [] 0
        else match sourceBad w with
          | some st => s.reply q st [] 0
          | none =>
            if (sourceSash w).any (fun i => decide (8 < (k.sourcesOf i).length)) then s.reply q Code.ST_RESOURCE_BUSY [] 0
            else ({ s with power := { s.power with key := s.startPane k w } } : State).reply q Code.ST_OK [] 0)) ∧
  (∀ (s : State) (src : Nat) (q : Req),
    s.serves src { op := 0x0C04, form := some (1, 1), need := 8, cov := [(0, 2), (4, 4)], doms := keyholeDomains } = some q →
    let i := q.n 0 1
    let rate := q.n 4 4
    if 64 ≤ i ∨ rateOk rate = false then exec (.keyholeLaneTake src) s = .next (s.reply q Code.ST_BAD_PARAM [] 0)
    else if s.siteOf i ≠ none ∨ s.power.key.lane ≠ none ∨ s.laneTaken i = true ∨ (s.lane i).calib ≠ none ∨ s.power.clk.paced = false ∨
        s.quadsFit [(i, rate)] (fun j => j != i) = false then exec (.keyholeLaneTake src) s = .next (s.reply q Code.ST_LANE_BUSY [] 0)
    else ∃ t : State, exec (.keyholeLaneTake src) s = .next (t.reply q Code.ST_OK [] 0) ∧ t.power.key.lane = some i ∧
      t.power.key.samples = [] ∧ t.power.key.src = s.power.key.src ∧ (t.dom (domSash i)).keyHeld = true ∧
      t.lane i = (s.lane i).enter .keyhole rate) ∧
  (∀ (s : State) (src : Nat) (q : Req),
    s.serves src { op := 0x0C04, form := some (1, 0), need := 2, cov := [(0, 2), (4, 4)] } = some q →
    exec (.keyholeLaneRelease src) s =
      .next (if 64 ≤ q.n 0 1 then s.reply q Code.ST_BAD_PARAM [] 0
        else if s.siteOf (q.n 0 1) ≠ none then s.reply q Code.ST_LANE_BUSY [] 0
        else (if s.power.key.lane = some (q.n 0 1) then s.releaseKeyhole else s).reply q Code.ST_OK [] 0))

/-- Resets and boot; where a pin or a lock finds nothing to change, nothing changes. After power-on every site is EMPTY, nothing is
written in memory and time is zero, unlocked, at epoch 0 (R402, R500); SYS_RST_N resets all but AON, so time, EPOCH and a sticky address
survive (R391, R500), and so does the VDD monitor (R517); at the release the strap is sampled and a TRACKING or LOCKED servo is in
HOLDOVER (R489, R501). PERST_N and FLR reset the host interface alone (R438) and stop the transfers it serves, other configuration writes
change what may be written (R414). An image that passes goes to RUNNING, one refused leaves its code in BOOT_ERR (R436, R437), and with
the system PLL locked FW_READY is set with every channel IDLE (R437, R488). -/
def Obligations.ResetsAndBootBringTheUnitUp : Prop :=
  (∀ (s : State) (b : BitVec 2),
    ∃ t, exec (.powerOnReset b) s = .next t ∧ (∀ n, (t.site n).state = .empty) ∧ t.mem.bytes = [] ∧ t.mem.regions = [] ∧ t.chain.ua = 0x3FC00 ∧
      t.time.counter = 0 ∧ t.time.epoch = 0 ∧ t.time.servo = .unlocked ∧ t.time.tctl = 0x300 ∧ t.host.fwReady = false ∧
      t.power.bootSrc = b ∧ t.power.sysRst = false ∧ t.host.bootState = (if b = 1 then 1 else 0) ∧ t.host.linkUp = (!s.host.perst) ∧
      t.host.mem = s.host.mem) ∧
  (∀ (s : State),
    (∀ t, (s.power.sysRst = false ∧ exec .sysRstN s = .next t) ∨ (s.power.sysRst = true ∧ exec .vddUndervoltage s = .next t) →
      (∀ n, (t.site n).state = .empty) ∧ t.mem.bytes = [] ∧ t.mem.valid = [] ∧ t.mem.regions = [] ∧ t.host.fwReady = false ∧ t.power.sysRst = true ∧
        t.time.counter = s.time.counter ∧ t.time.epoch = s.time.epoch ∧ t.time.rate = s.time.rate ∧ t.time.tevs = [] ∧ t.time.toutIdle = 0 ∧
        t.chain.ua = (if s.chain.sticky then s.chain.stickyUa else 0x3FC00) ∧ t.chain.out = s.chain.out ∧ t.power.tap = s.power.tap) ∧
    (s.power.sysRst = true → exec .sysRstN s = .next s) ∧
    (s.power.sysRst = false → ∀ b, exec (.sysRstNRelease b) s = .next s) ∧
    (∃ t, exec .sysRstN s = .next t) ∧ (∃ t, exec .vddUndervoltage s = .next t ∧ (∀ n, (t.site n).state = .empty) ∧
      t.power.sysRst = s.power.sysRst ∧ t.power.bootSrc = s.power.bootSrc) ∧
    ∀ b, s.power.sysRst = true → ∃ t, exec (.sysRstNRelease b) s = .next t ∧ t.power.bootSrc = b ∧ t.power.sysRst = false ∧
      t.time.servo = (if s.time.servo = .tracking ∨ s.time.servo = .locked then .holdover else s.time.servo) ∧
      t.time.counter = s.time.counter ∧ t.time.epoch = s.time.epoch ∧ t.sites = s.sites ∧ (b = 1 → t.host.bootState = 1)) ∧
  (∀ (s : State) (t : State),
    (exec .perstN s = .next t ∨ (s.host.linkUp = true ∧ exec (.pcieConfigAccess 0x78 (some 0x8000)) s = .next t) →
      (s.host.fwReady = true → ∀ c, c < 16 → (t.chan c).state = .idle ∧ (t.chan c).last = 0xFFFF) ∧
        (s.host.fwReady = false → ∀ c, c < 16 → (t.chan c).last = 0xFFFF ∧ (t.chan c).state =
          (if c = 0 ∧ (s.host.bootState = 1 ∨ s.host.bootState = 2 ∨ s.host.bootState = 4) then .idle else .closed)) ∧
        t.host.tickets = tmapv none (fun _ x => x.map Ticket.hostStop) s.host.tickets ∧ getBit t.host.evqCtl 31 = false ∧
        t.host.irqStatus = 0 ∧ t.host.irqMask = 0x000FFFFF ∧ t.host.winBase = 0 ∧ t.host.bar2 = [] ∧ t.host.held = s.host.held ∧
        t.sites = s.sites ∧ t.cas = s.cas ∧ t.time = s.time ∧ t.mem = s.mem)) ∧
  (∀ (s : State), (∃ t, exec .perstN s = .next t ∧ t.host.perst = true ∧ t.host.linkUp = false) ∧
    exec .perstNRelease s = .next { s with host := { s.host with perst := false, linkUp := !s.power.sysRst } } ∧
    ∀ (off : BitVec 12) (v : BitVec 32),
      let o := off.toNat / 4 * 4
      exec (.pcieConfigAccess off none) s = .next s ∧
      (s.host.linkUp = false → exec (.pcieConfigAccess off (some v)) s = .next s) ∧
      (s.host.linkUp = true → (o ≠ 0x78 ∨ getBit v 15 = false) → ∃ t, exec (.pcieConfigAccess off (some v)) s = .next t ∧
        t.cfgRead o = ((s.cfgRead o &&& ~~~cfgMask o) ||| (v &&& cfgMask o)) ∧ ∀ p, p / 4 ≠ o / 4 → t.cfgRead p = s.cfgRead p) ∧
      (s.host.linkUp = true → ∃ t, exec (.pcieConfigAccess 0x78 (some 0x8000)) s = .next t)) ∧
  (∀ (s : State) (r : AuthResult), s.booting = false → exec (.bootAuthDone r) s = .next s) ∧
  (∀ (s : State), s.power.sysRst = false → (s.host.bootState = 0 ∨ s.booting = true) →
    (∀ v, ∃ t, exec (.bootAuthDone (.pass v)) s = .next t ∧ t.host.bootState = 3 ∧ t.host.bootErr = 0 ∧ t.id.fwVersion = v) ∧
    (∀ r code, AuthResult.code r = some code → ∃ t, exec (.bootAuthDone r) s = .next t ∧ t.host.bootErr = code ∧
      t.host.bootState = (if s.host.bootTicket.isSome ∨ s.power.bootSrc = 2 then 4 else 1)) ∧
    (s.host.bootTicket = none → ∃ t, exec (.bootAuthDone .noImage) s = .next t ∧ t.host.bootErr = s.host.bootErr ∧
      t.host.bootState = (if s.power.bootSrc = 2 then 4 else 1) ∧ (t.chan 0).state = .idle)) ∧
  (∀ (s : State), (s.host.bootState ≠ 3 ∨ s.host.fwReady = true ∨ s.power.clk.refSys = false ∨ s.power.sysRst = true) →
    exec .systemPllLock s = .next s) ∧
  (∀ (s : State), s.host.bootState = 3 → s.host.fwReady = false → s.power.clk.refSys = true → s.power.sysRst = false →
    ∃ t, exec .systemPllLock s = .next t ∧ t.host.fwReady = true ∧ t.power.clk.sys = true ∧ t.power.clk.oscillator = false ∧
      ∀ c, c < 16 → (t.chan c).state = .idle ∧ (t.chan c).last = 0xFFFF) ∧
  (∀ (s : State), (s.power.clk.refSys = false ∨ s.power.clk.aon = true) → exec .aonPllLock s = .next s) ∧
  (∀ (s : State), s.power.clk.refSys = true → s.power.clk.aon = false →
    exec .aonPllLock s = .next { s with
      power := { s.power with clk := { s.power.clk with aon := true } }
      chain := { s.chain with
        inp := { s.chain.inp with lock := !s.chain.inp.broken }
        out := { s.chain.out with lock := !s.chain.out.broken } } })

/-- Lost clocks and the TAP. A clock that sites or jobs run on faults them with TF_CLOCK_LOSS, REFCLK_SYS also takes the AON clock, the
chain ports and a locked servo, REFCLK_LANE the quads' and lanes' lock, and a clock already lost changes nothing (R498); a reference that
returns relocks AON, and the other islands go back when no site is ARMED or RUNNING (R498). An instruction scan captures 0b00000001 and
selects the boundary register, the identification or one bypass bit; while SYS_RST_N is high the test instructions act as BYPASS (R507).
What the boundary register captures and its length are free values, and how a scan is cut up is the model's choice (log entry 15). -/
def Obligations.LostClocksFaultAndTheTapScans : Prop :=
  (∀ (s : State),
    let clk := s.power.clk
    let drop (u : State) : State := { u with power := { u.power with clk := { u.power.clk with sys := false, oscillator := true } } }
    let lost (u : State) : State := (List.range 12).foldl (fun v k => v.settleCas k) ((drop u).clockFaults.endAllJobs Code.TF_CLOCK_LOSS)
    let dark (u : State) : State := { u with
      power := { u.power with clk := { u.power.clk with refSys := false, aon := false } }
      chain := { u.chain with inp := { u.chain.inp with lock := false }, out := { u.chain.out with lock := false } } }
    let stepLost : State :=
      let u := s.clockFaults
      (({ u with power := { u.power with clk := { u.power.clk with laneStep := false } } } : State).releaseKeyhole).postPolicy 0 0 0
    let noStep : State := if clk.stepSrc = true ∧ clk.laneStep = true then stepLost else s
    let unlocked (u : State) : State :=
      let v : State := { u with power := { u.power with clk := { u.power.clk with refLane := false } } }
      (List.range 16).foldl (fun w q => w.setQuad q { w.quad q with lock := false }) v
    exec (.pllLoss .system) s = .next (if clk.sys then lost s else s) ∧
    exec (.pllLoss .refSys) s = .next (if clk.refSys then
        (let u := dark (lost s)
         if u.time.servo = .tracking ∨ u.time.servo = .locked then u.setServo .holdover else u)
      else s) ∧
    exec (.pllLoss .laneStep) s = .next noStep ∧
    exec (.pllLoss .refLane) s = .next (if clk.refLane then
      (List.range 64).foldl (fun u i => if (u.lane i).lock then u.laneDown i else u) (unlocked noStep) else s)) ∧
  (∀ (s : State), s.clockFaults = (List.range 16).foldl (fun u n =>
    if (u.site n).state = .armed ∨ (u.site n).state = .running then u.faultNow n (faultOf Code.TF_CLOCK_LOSS 0xFF 0xFF 0 0) else u) s) ∧
  (∀ (s : State) (p : Pll),
    let back (u : State) : State := if s.quiet = true ∧ s.host.fwReady = true then
      { u with power := { u.power with clk := { u.power.clk with
          sys := u.power.clk.refSys, oscillator := !u.power.clk.refSys, laneStep := u.power.clk.stepSrc && u.power.clk.refLane } } } else u
    let clk := s.power.clk
    let refBack : State := { s with
      power := { s.power with clk := { clk with refSys := true, aon := true } }
      chain := { s.chain with
        inp := { s.chain.inp with lock := !s.chain.inp.broken }
        out := { s.chain.out with lock := !s.chain.out.broken } } }
    exec (.pllRestore p) s = .next (back (
      if p = .refLane then { s with power := { s.power with clk := { clk with refLane := true } } }
      else if p = .refSys ∧ clk.refSys = false then refBack else s))) ∧
  (∀ (s : State) (tdi : List Bool),
    let scan : List Bool := [true, false, false, false, false, false, false, false]
    let bypass (code : BitVec 8) : State := { s with power := { s.power with tap := { s.power.tap with
      ir := code, bypass := (false :: tdi).getD tdi.length false, tdo := scan ++ (false :: tdi).take tdi.length } } }
    let caught := (List.range Config.boundaryLen).map fun j => getBit (Config.freeWord (s.freeCtr + j)) 0
    let bound (code : BitVec 8) : State := { s with
      power := { s.power with tap := { s.power.tap with
        ir := code, boundary := (caught ++ tdi).drop tdi.length, tdo := scan ++ (caught ++ tdi).take tdi.length } }
      freeCtr := s.freeCtr + Config.boundaryLen }
    let test (code : BitVec 8) : State := if s.power.sysRst then bound code else bypass code
    exec .tapReset s = .next { s with power := { s.power with tap := { s.power.tap with ir := 0x01 } } } ∧
      exec (.jtagExtest tdi) s = .next (test 0x00) ∧
      exec (.jtagIdcode tdi) s = .next { s with power := { s.power with tap := { s.power.tap with
        ir := 0x01, tdo := scan ++ ((List.range 32).map (fun j => ((if s.id.b0 then 0x264005AF else 0x164005AF) : Nat).testBit j) ++ tdi).take tdi.length } } } ∧
      exec (.jtagSamplePreload tdi) s = .next (bound 0x02) ∧ exec (.jtagClamp tdi) s = .next (bypass 0x03) ∧
      exec (.jtagHighz tdi) s = .next (bypass 0x04) ∧ exec (.jtagExtestPulse tdi) s = .next (test 0x05) ∧
      exec (.jtagExtestTrain tdi) s = .next (test 0x06) ∧ exec (.jtagBypass tdi) s = .next (bypass 0xFF))
end

