-- ==== Sys2Proof/Laws/Tab.lean ====
section
/-! SUPPORT. Laws of the sparse store: reading after a write, and that every operation keeps the canonical form. -/

namespace Sys2Proof.Machine

variable {α : Type}

@[simp] theorem tget_nil (d : α) (k : Nat) : tget d [] k = d := rfl

theorem tget_terase (d : α) (t : Tab α) (k j : Nat) : tget d (terase t k) j = if j = k then d else tget d t j := by
  induction t with
  | nil => simp [terase, tget]
  | cons e t ih =>
    obtain ⟨i, v⟩ := e
    simp only [terase, tget]
    split <;> [skip; simp only [tget]] <;> split_ifs <;> simp_all

theorem tget_tinsert (d : α) (t : Tab α) (k : Nat) (v : α) (j : Nat) :
    tget d (tinsert t k v) j = if j = k then v else tget d t j := by
  induction t with
  | nil => simp only [tinsert, tget]; split_ifs <;> simp_all
  | cons e t ih =>
    obtain ⟨i, w⟩ := e
    by_cases h1 : i = k
    · subst h1
      by_cases hj : i = j
      · simp [tinsert, tget, hj]
      · have hj' : ¬j = i := fun h => hj h.symm
        simp [tinsert, tget, hj, hj']
    · by_cases h2 : k < i
      · rw [tinsert, if_neg h1, if_pos h2]
        by_cases hj : k = j
        · simp [tget, hj]
        · have hj' : ¬j = k := fun h => hj h.symm
          simp [tget, hj, hj']
      · rw [tinsert, if_neg h1, if_neg h2]
        by_cases hj : i = j
        · subst hj; simp [tget, h1]
        · simp [tget, hj, ih]

/-- A read after a write: the value written at its key, the old entry at every other. -/
@[simp] theorem tget_tset [DecidableEq α] (d : α) (t : Tab α) (k : Nat) (v : α) (j : Nat) :
    tget d (tset d t k v) j = if j = k then v else tget d t j := by
  simp only [tset]
  split
  · simp_all [tget_terase]
  · simp [tget_tinsert]

theorem tget_tfill_lt [DecidableEq α] (d : α) (vs : List α) (t : Tab α) (k j : Nat) (h : j < k) :
    tget d (tfill d t k vs) j = tget d t j := by
  induction vs generalizing t k with
  | nil => rfl
  | cons v vs ih => simp only [tfill]; rw [ih _ _ (by omega), tget_tset, if_neg (by omega)]

/-- A read after a run of writes. -/
theorem tget_tfill [DecidableEq α] (d : α) (vs : List α) (t : Tab α) (k j : Nat) :
    tget d (tfill d t k vs) j = if k ≤ j then (match vs[j - k]? with | some v => v | none => tget d t j) else tget d t j := by
  induction vs generalizing t k with
  | nil => simp [tfill]
  | cons v vs ih =>
    simp only [tfill]
    rw [ih]
    by_cases h : k + 1 ≤ j
    · obtain ⟨n, rfl⟩ : ∃ n, j = k + 1 + n := ⟨j - (k + 1), by omega⟩
      have e1 : k + 1 + n - k = n + 1 := by omega
      have e2 : k + 1 + n - (k + 1) = n := by omega
      simp [e1, e2]
      rw [if_neg (by omega), if_pos (by omega)]
    · by_cases h2 : k = j
      · subst h2; simp
      · rw [if_neg h, if_neg (by omega), tget_tset, if_neg (by omega)]

theorem all_terase (p : Nat × α → Bool) (t : Tab α) (k : Nat) (h : t.all p = true) : (terase t k).all p = true := by
  induction t with
  | nil => rfl
  | cons e t ih =>
    obtain ⟨i, v⟩ := e
    simp only [List.all_cons, Bool.and_eq_true] at h
    simp only [terase]
    split
    · exact ih h.2
    · simp [h.1]; simpa using ih h.2

theorem all_tinsert (p : Nat × α → Bool) (t : Tab α) (k : Nat) (v : α) (h : t.all p = true) (hk : p (k, v) = true) :
    (tinsert t k v).all p = true := by
  induction t with
  | nil => simp [tinsert, hk]
  | cons e t ih =>
    obtain ⟨i, w⟩ := e
    simp only [List.all_cons, Bool.and_eq_true] at h
    have ih := ih h.2
    simp only [tinsert]
    split_ifs <;> simp only [List.all_cons, Bool.and_eq_true] <;> simp_all

/-- Every write keeps the canonical form. -/
theorem tabWf_tset [DecidableEq α] (d : α) (t : Tab α) (k : Nat) (v : α) (h : tabWf d t = true) :
    tabWf d (tset d t k v) = true := by
  have key : tabWf d (terase t k) = true ∧ (v ≠ d → tabWf d (tinsert t k v) = true) := by
    induction t with
    | nil => simp [terase, tinsert, tabWf]
    | cons e t ih =>
      obtain ⟨i, w⟩ := e
      simp only [tabWf, Bool.and_eq_true, decide_eq_true_eq] at h
      obtain ⟨⟨hw, hlt⟩, ht⟩ := h
      obtain ⟨ih1, ih2⟩ := ih ht
      refine ⟨?_, fun hv => ?_⟩
      · simp only [terase]
        split
        · exact ih1
        · simp only [tabWf, Bool.and_eq_true, decide_eq_true_eq]
          exact ⟨⟨hw, all_terase _ _ _ hlt⟩, ih1⟩
      · simp only [tinsert]
        split_ifs with h1 h2
        · subst h1
          simp only [tabWf, Bool.and_eq_true, decide_eq_true_eq]
          exact ⟨⟨hv, hlt⟩, ht⟩
        · simp only [tabWf, Bool.and_eq_true, decide_eq_true_eq, List.all_cons]
          refine ⟨⟨hv, h2, ?_⟩, ⟨hw, hlt⟩, ht⟩
          simp only [List.all_eq_true, decide_eq_true_eq] at hlt ⊢
          intro x hx
          have := hlt x hx
          omega
        · simp only [tabWf, Bool.and_eq_true, decide_eq_true_eq]
          refine ⟨⟨hw, all_tinsert _ _ _ _ hlt ?_⟩, ih2 hv⟩
          simp only [decide_eq_true_eq]
          omega
  simp only [tset]
  split
  · exact key.1
  · exact key.2 ‹_›

/-- A run of writes keeps the canonical form. -/
theorem tabWf_tfill [DecidableEq α] (d : α) (vs : List α) (t : Tab α) (k : Nat) (h : tabWf d t = true) :
    tabWf d (tfill d t k vs) = true := by
  induction vs generalizing t k with
  | nil => exact h
  | cons v vs ih => exact ih _ _ (tabWf_tset d t k v h)

/-- Dropping entries keeps the canonical form. -/
theorem tabWf_filter [DecidableEq α] (d : α) (p : Nat × α → Bool) (t : Tab α) (h : tabWf d t = true) :
    tabWf d (t.filter p) = true := by
  induction t with
  | nil => rfl
  | cons e t ih =>
    obtain ⟨i, w⟩ := e
    simp only [tabWf, Bool.and_eq_true, decide_eq_true_eq] at h
    obtain ⟨⟨hw, hlt⟩, ht⟩ := h
    simp only [List.filter_cons]
    split
    · simp only [tabWf, Bool.and_eq_true, decide_eq_true_eq]
      refine ⟨⟨hw, ?_⟩, ih ht⟩
      simp only [List.all_eq_true] at hlt ⊢
      exact fun x hx => hlt x (List.mem_of_mem_filter hx)
    · exact ih ht

end Sys2Proof.Machine
end

