-- ==== Sys2Proof/Laws/State.lean ====
section
/-! SUPPORT. One lemma per field per update of a numbered block: what it changes and what it leaves. -/

namespace Sys2Proof.Machine

/-! ### setSash -/

@[simp] theorem State.setSash_id (s : State) (n : Nat) (x : Sash) : (s.setSash n x).id = s.id := rfl
@[simp] theorem State.setSash_lanes (s : State) (n : Nat) (x : Sash) : (s.setSash n x).lanes = s.lanes := rfl
@[simp] theorem State.setSash_trigs (s : State) (n : Nat) (x : Sash) : (s.setSash n x).trigs = s.trigs := rfl
@[simp] theorem State.setSash_quads (s : State) (n : Nat) (x : Sash) : (s.setSash n x).quads = s.quads := rfl
@[simp] theorem State.setSash_sites (s : State) (n : Nat) (x : Sash) : (s.setSash n x).sites = s.sites := rfl
@[simp] theorem State.setSash_groups (s : State) (n : Nat) (x : Sash) : (s.setSash n x).groups = s.groups := rfl
@[simp] theorem State.setSash_ring (s : State) (n : Nat) (x : Sash) : (s.setSash n x).ring = s.ring := rfl
@[simp] theorem State.setSash_mem (s : State) (n : Nat) (x : Sash) : (s.setSash n x).mem = s.mem := rfl
@[simp] theorem State.setSash_cas (s : State) (n : Nat) (x : Sash) : (s.setSash n x).cas = s.cas := rfl
@[simp] theorem State.setSash_chain (s : State) (n : Nat) (x : Sash) : (s.setSash n x).chain = s.chain := rfl
@[simp] theorem State.setSash_time (s : State) (n : Nat) (x : Sash) : (s.setSash n x).time = s.time := rfl
@[simp] theorem State.setSash_host (s : State) (n : Nat) (x : Sash) : (s.setSash n x).host = s.host := rfl
@[simp] theorem State.setSash_power (s : State) (n : Nat) (x : Sash) : (s.setSash n x).power = s.power := rfl
@[simp] theorem State.setSash_freeCtr (s : State) (n : Nat) (x : Sash) : (s.setSash n x).freeCtr = s.freeCtr := rfl
@[simp] theorem State.setSash_pending (s : State) (n : Nat) (x : Sash) : (s.setSash n x).pending = s.pending := rfl

/-- Reading after writing. -/
@[simp] theorem State.sash_setSash (s : State) (n : Nat) (x : Sash) (m : Nat) :
    (s.setSash n x).sash m = if m = n then x else s.sash m := by
  simp [State.sash, State.setSash]
@[simp] theorem State.setSash_lane (s : State) (n : Nat) (x : Sash) (m : Nat) : (s.setSash n x).lane m = s.lane m := rfl
@[simp] theorem State.setSash_trig (s : State) (n : Nat) (x : Sash) (m : Nat) : (s.setSash n x).trig m = s.trig m := rfl
@[simp] theorem State.setSash_quad (s : State) (n : Nat) (x : Sash) (m : Nat) : (s.setSash n x).quad m = s.quad m := rfl
@[simp] theorem State.setSash_site (s : State) (n : Nat) (x : Sash) (m : Nat) : (s.setSash n x).site m = s.site m := rfl
@[simp] theorem State.setSash_stop (s : State) (n : Nat) (x : Sash) (m : Nat) : (s.setSash n x).stop m = s.stop m := rfl
@[simp] theorem State.setSash_casm (s : State) (n : Nat) (x : Sash) (m : Nat) : (s.setSash n x).casm m = s.casm m := rfl
@[simp] theorem State.setSash_task (s : State) (n : Nat) (x : Sash) (m : Nat) : (s.setSash n x).task m = s.task m := rfl
@[simp] theorem State.setSash_stream (s : State) (n : Nat) (x : Sash) (m : Nat) : (s.setSash n x).stream m = s.stream m := rfl
@[simp] theorem State.setSash_slink (s : State) (n : Nat) (x : Sash) (m : Nat) : (s.setSash n x).slink m = s.slink m := rfl
@[simp] theorem State.setSash_fePort (s : State) (n : Nat) (x : Sash) (m : Nat) : (s.setSash n x).fePort m = s.fePort m := rfl
@[simp] theorem State.setSash_chan (s : State) (n : Nat) (x : Sash) (m : Nat) : (s.setSash n x).chan m = s.chan m := rfl
@[simp] theorem State.setSash_ticket (s : State) (n : Nat) (x : Sash) (m : BitVec 32) : (s.setSash n x).ticket m = s.ticket m := rfl
@[simp] theorem State.setSash_dom (s : State) (n : Nat) (x : Sash) (m : Nat) : (s.setSash n x).dom m = s.dom m := rfl
@[simp] theorem State.setSash_tev (s : State) (n : Nat) (x : Sash) (m : Nat) : (s.setSash n x).tev m = s.tev m := rfl
@[simp] theorem State.setSash_memSt (s : State) (n : Nat) (x : Sash) (m : Nat) : (s.setSash n x).memSt m = s.memSt m := rfl
@[simp] theorem State.setSash_ddr (s : State) (n : Nat) (x : Sash) (m : Nat) : (s.setSash n x).ddr m = s.ddr m := rfl

/-! ### setLane -/

@[simp] theorem State.setLane_id (s : State) (n : Nat) (x : Lane) : (s.setLane n x).id = s.id := rfl
@[simp] theorem State.setLane_sashes (s : State) (n : Nat) (x : Lane) : (s.setLane n x).sashes = s.sashes := rfl
@[simp] theorem State.setLane_trigs (s : State) (n : Nat) (x : Lane) : (s.setLane n x).trigs = s.trigs := rfl
@[simp] theorem State.setLane_quads (s : State) (n : Nat) (x : Lane) : (s.setLane n x).quads = s.quads := rfl
@[simp] theorem State.setLane_sites (s : State) (n : Nat) (x : Lane) : (s.setLane n x).sites = s.sites := rfl
@[simp] theorem State.setLane_groups (s : State) (n : Nat) (x : Lane) : (s.setLane n x).groups = s.groups := rfl
@[simp] theorem State.setLane_ring (s : State) (n : Nat) (x : Lane) : (s.setLane n x).ring = s.ring := rfl
@[simp] theorem State.setLane_mem (s : State) (n : Nat) (x : Lane) : (s.setLane n x).mem = s.mem := rfl
@[simp] theorem State.setLane_cas (s : State) (n : Nat) (x : Lane) : (s.setLane n x).cas = s.cas := rfl
@[simp] theorem State.setLane_chain (s : State) (n : Nat) (x : Lane) : (s.setLane n x).chain = s.chain := rfl
@[simp] theorem State.setLane_time (s : State) (n : Nat) (x : Lane) : (s.setLane n x).time = s.time := rfl
@[simp] theorem State.setLane_host (s : State) (n : Nat) (x : Lane) : (s.setLane n x).host = s.host := rfl
@[simp] theorem State.setLane_power (s : State) (n : Nat) (x : Lane) : (s.setLane n x).power = s.power := rfl
@[simp] theorem State.setLane_freeCtr (s : State) (n : Nat) (x : Lane) : (s.setLane n x).freeCtr = s.freeCtr := rfl
@[simp] theorem State.setLane_pending (s : State) (n : Nat) (x : Lane) : (s.setLane n x).pending = s.pending := rfl

@[simp] theorem State.setLane_sash (s : State) (n : Nat) (x : Lane) (m : Nat) : (s.setLane n x).sash m = s.sash m := rfl
/-- Reading after writing. -/
@[simp] theorem State.lane_setLane (s : State) (n : Nat) (x : Lane) (m : Nat) :
    (s.setLane n x).lane m = if m = n then x else s.lane m := by
  simp [State.lane, State.setLane]
@[simp] theorem State.setLane_trig (s : State) (n : Nat) (x : Lane) (m : Nat) : (s.setLane n x).trig m = s.trig m := rfl
@[simp] theorem State.setLane_quad (s : State) (n : Nat) (x : Lane) (m : Nat) : (s.setLane n x).quad m = s.quad m := rfl
@[simp] theorem State.setLane_site (s : State) (n : Nat) (x : Lane) (m : Nat) : (s.setLane n x).site m = s.site m := rfl
@[simp] theorem State.setLane_stop (s : State) (n : Nat) (x : Lane) (m : Nat) : (s.setLane n x).stop m = s.stop m := rfl
@[simp] theorem State.setLane_casm (s : State) (n : Nat) (x : Lane) (m : Nat) : (s.setLane n x).casm m = s.casm m := rfl
@[simp] theorem State.setLane_task (s : State) (n : Nat) (x : Lane) (m : Nat) : (s.setLane n x).task m = s.task m := rfl
@[simp] theorem State.setLane_stream (s : State) (n : Nat) (x : Lane) (m : Nat) : (s.setLane n x).stream m = s.stream m := rfl
@[simp] theorem State.setLane_slink (s : State) (n : Nat) (x : Lane) (m : Nat) : (s.setLane n x).slink m = s.slink m := rfl
@[simp] theorem State.setLane_fePort (s : State) (n : Nat) (x : Lane) (m : Nat) : (s.setLane n x).fePort m = s.fePort m := rfl
@[simp] theorem State.setLane_chan (s : State) (n : Nat) (x : Lane) (m : Nat) : (s.setLane n x).chan m = s.chan m := rfl
@[simp] theorem State.setLane_ticket (s : State) (n : Nat) (x : Lane) (m : BitVec 32) : (s.setLane n x).ticket m = s.ticket m := rfl
@[simp] theorem State.setLane_dom (s : State) (n : Nat) (x : Lane) (m : Nat) : (s.setLane n x).dom m = s.dom m := rfl
@[simp] theorem State.setLane_tev (s : State) (n : Nat) (x : Lane) (m : Nat) : (s.setLane n x).tev m = s.tev m := rfl
@[simp] theorem State.setLane_memSt (s : State) (n : Nat) (x : Lane) (m : Nat) : (s.setLane n x).memSt m = s.memSt m := rfl
@[simp] theorem State.setLane_ddr (s : State) (n : Nat) (x : Lane) (m : Nat) : (s.setLane n x).ddr m = s.ddr m := rfl

/-! ### setTrig -/

@[simp] theorem State.setTrig_id (s : State) (n : Nat) (x : Trig) : (s.setTrig n x).id = s.id := rfl
@[simp] theorem State.setTrig_sashes (s : State) (n : Nat) (x : Trig) : (s.setTrig n x).sashes = s.sashes := rfl
@[simp] theorem State.setTrig_lanes (s : State) (n : Nat) (x : Trig) : (s.setTrig n x).lanes = s.lanes := rfl
@[simp] theorem State.setTrig_quads (s : State) (n : Nat) (x : Trig) : (s.setTrig n x).quads = s.quads := rfl
@[simp] theorem State.setTrig_sites (s : State) (n : Nat) (x : Trig) : (s.setTrig n x).sites = s.sites := rfl
@[simp] theorem State.setTrig_groups (s : State) (n : Nat) (x : Trig) : (s.setTrig n x).groups = s.groups := rfl
@[simp] theorem State.setTrig_ring (s : State) (n : Nat) (x : Trig) : (s.setTrig n x).ring = s.ring := rfl
@[simp] theorem State.setTrig_mem (s : State) (n : Nat) (x : Trig) : (s.setTrig n x).mem = s.mem := rfl
@[simp] theorem State.setTrig_cas (s : State) (n : Nat) (x : Trig) : (s.setTrig n x).cas = s.cas := rfl
@[simp] theorem State.setTrig_chain (s : State) (n : Nat) (x : Trig) : (s.setTrig n x).chain = s.chain := rfl
@[simp] theorem State.setTrig_time (s : State) (n : Nat) (x : Trig) : (s.setTrig n x).time = s.time := rfl
@[simp] theorem State.setTrig_host (s : State) (n : Nat) (x : Trig) : (s.setTrig n x).host = s.host := rfl
@[simp] theorem State.setTrig_power (s : State) (n : Nat) (x : Trig) : (s.setTrig n x).power = s.power := rfl
@[simp] theorem State.setTrig_freeCtr (s : State) (n : Nat) (x : Trig) : (s.setTrig n x).freeCtr = s.freeCtr := rfl
@[simp] theorem State.setTrig_pending (s : State) (n : Nat) (x : Trig) : (s.setTrig n x).pending = s.pending := rfl

@[simp] theorem State.setTrig_sash (s : State) (n : Nat) (x : Trig) (m : Nat) : (s.setTrig n x).sash m = s.sash m := rfl
@[simp] theorem State.setTrig_lane (s : State) (n : Nat) (x : Trig) (m : Nat) : (s.setTrig n x).lane m = s.lane m := rfl
/-- Reading after writing. -/
@[simp] theorem State.trig_setTrig (s : State) (n : Nat) (x : Trig) (m : Nat) :
    (s.setTrig n x).trig m = if m = n then x else s.trig m := by
  simp [State.trig, State.setTrig]
@[simp] theorem State.setTrig_quad (s : State) (n : Nat) (x : Trig) (m : Nat) : (s.setTrig n x).quad m = s.quad m := rfl
@[simp] theorem State.setTrig_site (s : State) (n : Nat) (x : Trig) (m : Nat) : (s.setTrig n x).site m = s.site m := rfl
@[simp] theorem State.setTrig_stop (s : State) (n : Nat) (x : Trig) (m : Nat) : (s.setTrig n x).stop m = s.stop m := rfl
@[simp] theorem State.setTrig_casm (s : State) (n : Nat) (x : Trig) (m : Nat) : (s.setTrig n x).casm m = s.casm m := rfl
@[simp] theorem State.setTrig_task (s : State) (n : Nat) (x : Trig) (m : Nat) : (s.setTrig n x).task m = s.task m := rfl
@[simp] theorem State.setTrig_stream (s : State) (n : Nat) (x : Trig) (m : Nat) : (s.setTrig n x).stream m = s.stream m := rfl
@[simp] theorem State.setTrig_slink (s : State) (n : Nat) (x : Trig) (m : Nat) : (s.setTrig n x).slink m = s.slink m := rfl
@[simp] theorem State.setTrig_fePort (s : State) (n : Nat) (x : Trig) (m : Nat) : (s.setTrig n x).fePort m = s.fePort m := rfl
@[simp] theorem State.setTrig_chan (s : State) (n : Nat) (x : Trig) (m : Nat) : (s.setTrig n x).chan m = s.chan m := rfl
@[simp] theorem State.setTrig_ticket (s : State) (n : Nat) (x : Trig) (m : BitVec 32) : (s.setTrig n x).ticket m = s.ticket m := rfl
@[simp] theorem State.setTrig_dom (s : State) (n : Nat) (x : Trig) (m : Nat) : (s.setTrig n x).dom m = s.dom m := rfl
@[simp] theorem State.setTrig_tev (s : State) (n : Nat) (x : Trig) (m : Nat) : (s.setTrig n x).tev m = s.tev m := rfl
@[simp] theorem State.setTrig_memSt (s : State) (n : Nat) (x : Trig) (m : Nat) : (s.setTrig n x).memSt m = s.memSt m := rfl
@[simp] theorem State.setTrig_ddr (s : State) (n : Nat) (x : Trig) (m : Nat) : (s.setTrig n x).ddr m = s.ddr m := rfl

/-! ### setQuad -/

@[simp] theorem State.setQuad_id (s : State) (n : Nat) (x : Quad) : (s.setQuad n x).id = s.id := rfl
@[simp] theorem State.setQuad_sashes (s : State) (n : Nat) (x : Quad) : (s.setQuad n x).sashes = s.sashes := rfl
@[simp] theorem State.setQuad_lanes (s : State) (n : Nat) (x : Quad) : (s.setQuad n x).lanes = s.lanes := rfl
@[simp] theorem State.setQuad_trigs (s : State) (n : Nat) (x : Quad) : (s.setQuad n x).trigs = s.trigs := rfl
@[simp] theorem State.setQuad_sites (s : State) (n : Nat) (x : Quad) : (s.setQuad n x).sites = s.sites := rfl
@[simp] theorem State.setQuad_groups (s : State) (n : Nat) (x : Quad) : (s.setQuad n x).groups = s.groups := rfl
@[simp] theorem State.setQuad_ring (s : State) (n : Nat) (x : Quad) : (s.setQuad n x).ring = s.ring := rfl
@[simp] theorem State.setQuad_mem (s : State) (n : Nat) (x : Quad) : (s.setQuad n x).mem = s.mem := rfl
@[simp] theorem State.setQuad_cas (s : State) (n : Nat) (x : Quad) : (s.setQuad n x).cas = s.cas := rfl
@[simp] theorem State.setQuad_chain (s : State) (n : Nat) (x : Quad) : (s.setQuad n x).chain = s.chain := rfl
@[simp] theorem State.setQuad_time (s : State) (n : Nat) (x : Quad) : (s.setQuad n x).time = s.time := rfl
@[simp] theorem State.setQuad_host (s : State) (n : Nat) (x : Quad) : (s.setQuad n x).host = s.host := rfl
@[simp] theorem State.setQuad_power (s : State) (n : Nat) (x : Quad) : (s.setQuad n x).power = s.power := rfl
@[simp] theorem State.setQuad_freeCtr (s : State) (n : Nat) (x : Quad) : (s.setQuad n x).freeCtr = s.freeCtr := rfl
@[simp] theorem State.setQuad_pending (s : State) (n : Nat) (x : Quad) : (s.setQuad n x).pending = s.pending := rfl

@[simp] theorem State.setQuad_sash (s : State) (n : Nat) (x : Quad) (m : Nat) : (s.setQuad n x).sash m = s.sash m := rfl
@[simp] theorem State.setQuad_lane (s : State) (n : Nat) (x : Quad) (m : Nat) : (s.setQuad n x).lane m = s.lane m := rfl
@[simp] theorem State.setQuad_trig (s : State) (n : Nat) (x : Quad) (m : Nat) : (s.setQuad n x).trig m = s.trig m := rfl
/-- Reading after writing. -/
@[simp] theorem State.quad_setQuad (s : State) (n : Nat) (x : Quad) (m : Nat) :
    (s.setQuad n x).quad m = if m = n then x else s.quad m := by
  simp [State.quad, State.setQuad]
@[simp] theorem State.setQuad_site (s : State) (n : Nat) (x : Quad) (m : Nat) : (s.setQuad n x).site m = s.site m := rfl
@[simp] theorem State.setQuad_stop (s : State) (n : Nat) (x : Quad) (m : Nat) : (s.setQuad n x).stop m = s.stop m := rfl
@[simp] theorem State.setQuad_casm (s : State) (n : Nat) (x : Quad) (m : Nat) : (s.setQuad n x).casm m = s.casm m := rfl
@[simp] theorem State.setQuad_task (s : State) (n : Nat) (x : Quad) (m : Nat) : (s.setQuad n x).task m = s.task m := rfl
@[simp] theorem State.setQuad_stream (s : State) (n : Nat) (x : Quad) (m : Nat) : (s.setQuad n x).stream m = s.stream m := rfl
@[simp] theorem State.setQuad_slink (s : State) (n : Nat) (x : Quad) (m : Nat) : (s.setQuad n x).slink m = s.slink m := rfl
@[simp] theorem State.setQuad_fePort (s : State) (n : Nat) (x : Quad) (m : Nat) : (s.setQuad n x).fePort m = s.fePort m := rfl
@[simp] theorem State.setQuad_chan (s : State) (n : Nat) (x : Quad) (m : Nat) : (s.setQuad n x).chan m = s.chan m := rfl
@[simp] theorem State.setQuad_ticket (s : State) (n : Nat) (x : Quad) (m : BitVec 32) : (s.setQuad n x).ticket m = s.ticket m := rfl
@[simp] theorem State.setQuad_dom (s : State) (n : Nat) (x : Quad) (m : Nat) : (s.setQuad n x).dom m = s.dom m := rfl
@[simp] theorem State.setQuad_tev (s : State) (n : Nat) (x : Quad) (m : Nat) : (s.setQuad n x).tev m = s.tev m := rfl
@[simp] theorem State.setQuad_memSt (s : State) (n : Nat) (x : Quad) (m : Nat) : (s.setQuad n x).memSt m = s.memSt m := rfl
@[simp] theorem State.setQuad_ddr (s : State) (n : Nat) (x : Quad) (m : Nat) : (s.setQuad n x).ddr m = s.ddr m := rfl

/-! ### setSite -/

@[simp] theorem State.setSite_id (s : State) (n : Nat) (x : Site) : (s.setSite n x).id = s.id := rfl
@[simp] theorem State.setSite_sashes (s : State) (n : Nat) (x : Site) : (s.setSite n x).sashes = s.sashes := rfl
@[simp] theorem State.setSite_lanes (s : State) (n : Nat) (x : Site) : (s.setSite n x).lanes = s.lanes := rfl
@[simp] theorem State.setSite_trigs (s : State) (n : Nat) (x : Site) : (s.setSite n x).trigs = s.trigs := rfl
@[simp] theorem State.setSite_quads (s : State) (n : Nat) (x : Site) : (s.setSite n x).quads = s.quads := rfl
@[simp] theorem State.setSite_groups (s : State) (n : Nat) (x : Site) : (s.setSite n x).groups = s.groups := rfl
@[simp] theorem State.setSite_ring (s : State) (n : Nat) (x : Site) : (s.setSite n x).ring = s.ring := rfl
@[simp] theorem State.setSite_mem (s : State) (n : Nat) (x : Site) : (s.setSite n x).mem = s.mem := rfl
@[simp] theorem State.setSite_cas (s : State) (n : Nat) (x : Site) : (s.setSite n x).cas = s.cas := rfl
@[simp] theorem State.setSite_chain (s : State) (n : Nat) (x : Site) : (s.setSite n x).chain = s.chain := rfl
@[simp] theorem State.setSite_time (s : State) (n : Nat) (x : Site) : (s.setSite n x).time = s.time := rfl
@[simp] theorem State.setSite_host (s : State) (n : Nat) (x : Site) : (s.setSite n x).host = s.host := rfl
@[simp] theorem State.setSite_power (s : State) (n : Nat) (x : Site) : (s.setSite n x).power = s.power := rfl
@[simp] theorem State.setSite_freeCtr (s : State) (n : Nat) (x : Site) : (s.setSite n x).freeCtr = s.freeCtr := rfl
@[simp] theorem State.setSite_pending (s : State) (n : Nat) (x : Site) : (s.setSite n x).pending = s.pending := rfl

@[simp] theorem State.setSite_sash (s : State) (n : Nat) (x : Site) (m : Nat) : (s.setSite n x).sash m = s.sash m := rfl
@[simp] theorem State.setSite_lane (s : State) (n : Nat) (x : Site) (m : Nat) : (s.setSite n x).lane m = s.lane m := rfl
@[simp] theorem State.setSite_trig (s : State) (n : Nat) (x : Site) (m : Nat) : (s.setSite n x).trig m = s.trig m := rfl
@[simp] theorem State.setSite_quad (s : State) (n : Nat) (x : Site) (m : Nat) : (s.setSite n x).quad m = s.quad m := rfl
/-- Reading after writing. -/
@[simp] theorem State.site_setSite (s : State) (n : Nat) (x : Site) (m : Nat) :
    (s.setSite n x).site m = if m = n then x else s.site m := by
  simp [State.site, State.setSite]
@[simp] theorem State.setSite_stop (s : State) (n : Nat) (x : Site) (m : Nat) : (s.setSite n x).stop m = s.stop m := rfl
@[simp] theorem State.setSite_casm (s : State) (n : Nat) (x : Site) (m : Nat) : (s.setSite n x).casm m = s.casm m := rfl
@[simp] theorem State.setSite_task (s : State) (n : Nat) (x : Site) (m : Nat) : (s.setSite n x).task m = s.task m := rfl
@[simp] theorem State.setSite_stream (s : State) (n : Nat) (x : Site) (m : Nat) : (s.setSite n x).stream m = s.stream m := rfl
@[simp] theorem State.setSite_slink (s : State) (n : Nat) (x : Site) (m : Nat) : (s.setSite n x).slink m = s.slink m := rfl
@[simp] theorem State.setSite_fePort (s : State) (n : Nat) (x : Site) (m : Nat) : (s.setSite n x).fePort m = s.fePort m := rfl
@[simp] theorem State.setSite_chan (s : State) (n : Nat) (x : Site) (m : Nat) : (s.setSite n x).chan m = s.chan m := rfl
@[simp] theorem State.setSite_ticket (s : State) (n : Nat) (x : Site) (m : BitVec 32) : (s.setSite n x).ticket m = s.ticket m := rfl
@[simp] theorem State.setSite_dom (s : State) (n : Nat) (x : Site) (m : Nat) : (s.setSite n x).dom m = s.dom m := rfl
@[simp] theorem State.setSite_tev (s : State) (n : Nat) (x : Site) (m : Nat) : (s.setSite n x).tev m = s.tev m := rfl
@[simp] theorem State.setSite_memSt (s : State) (n : Nat) (x : Site) (m : Nat) : (s.setSite n x).memSt m = s.memSt m := rfl
@[simp] theorem State.setSite_ddr (s : State) (n : Nat) (x : Site) (m : Nat) : (s.setSite n x).ddr m = s.ddr m := rfl

/-! ### setStop -/

@[simp] theorem State.setStop_id (s : State) (n : Nat) (x : Stop) : (s.setStop n x).id = s.id := rfl
@[simp] theorem State.setStop_sashes (s : State) (n : Nat) (x : Stop) : (s.setStop n x).sashes = s.sashes := rfl
@[simp] theorem State.setStop_lanes (s : State) (n : Nat) (x : Stop) : (s.setStop n x).lanes = s.lanes := rfl
@[simp] theorem State.setStop_trigs (s : State) (n : Nat) (x : Stop) : (s.setStop n x).trigs = s.trigs := rfl
@[simp] theorem State.setStop_quads (s : State) (n : Nat) (x : Stop) : (s.setStop n x).quads = s.quads := rfl
@[simp] theorem State.setStop_sites (s : State) (n : Nat) (x : Stop) : (s.setStop n x).sites = s.sites := rfl
@[simp] theorem State.setStop_groups (s : State) (n : Nat) (x : Stop) : (s.setStop n x).groups = s.groups := rfl
@[simp] theorem State.setStop_mem (s : State) (n : Nat) (x : Stop) : (s.setStop n x).mem = s.mem := rfl
@[simp] theorem State.setStop_cas (s : State) (n : Nat) (x : Stop) : (s.setStop n x).cas = s.cas := rfl
@[simp] theorem State.setStop_chain (s : State) (n : Nat) (x : Stop) : (s.setStop n x).chain = s.chain := rfl
@[simp] theorem State.setStop_time (s : State) (n : Nat) (x : Stop) : (s.setStop n x).time = s.time := rfl
@[simp] theorem State.setStop_host (s : State) (n : Nat) (x : Stop) : (s.setStop n x).host = s.host := rfl
@[simp] theorem State.setStop_power (s : State) (n : Nat) (x : Stop) : (s.setStop n x).power = s.power := rfl
@[simp] theorem State.setStop_freeCtr (s : State) (n : Nat) (x : Stop) : (s.setStop n x).freeCtr = s.freeCtr := rfl
@[simp] theorem State.setStop_pending (s : State) (n : Nat) (x : Stop) : (s.setStop n x).pending = s.pending := rfl

@[simp] theorem State.setStop_sash (s : State) (n : Nat) (x : Stop) (m : Nat) : (s.setStop n x).sash m = s.sash m := rfl
@[simp] theorem State.setStop_lane (s : State) (n : Nat) (x : Stop) (m : Nat) : (s.setStop n x).lane m = s.lane m := rfl
@[simp] theorem State.setStop_trig (s : State) (n : Nat) (x : Stop) (m : Nat) : (s.setStop n x).trig m = s.trig m := rfl
@[simp] theorem State.setStop_quad (s : State) (n : Nat) (x : Stop) (m : Nat) : (s.setStop n x).quad m = s.quad m := rfl
@[simp] theorem State.setStop_site (s : State) (n : Nat) (x : Stop) (m : Nat) : (s.setStop n x).site m = s.site m := rfl
/-- Reading after writing. -/
@[simp] theorem State.stop_setStop (s : State) (n : Nat) (x : Stop) (m : Nat) :
    (s.setStop n x).stop m = if m = n then x else s.stop m := by
  simp [State.stop, State.setStop]
@[simp] theorem State.setStop_casm (s : State) (n : Nat) (x : Stop) (m : Nat) : (s.setStop n x).casm m = s.casm m := rfl
@[simp] theorem State.setStop_task (s : State) (n : Nat) (x : Stop) (m : Nat) : (s.setStop n x).task m = s.task m := rfl
@[simp] theorem State.setStop_stream (s : State) (n : Nat) (x : Stop) (m : Nat) : (s.setStop n x).stream m = s.stream m := rfl
@[simp] theorem State.setStop_slink (s : State) (n : Nat) (x : Stop) (m : Nat) : (s.setStop n x).slink m = s.slink m := rfl
@[simp] theorem State.setStop_fePort (s : State) (n : Nat) (x : Stop) (m : Nat) : (s.setStop n x).fePort m = s.fePort m := rfl
@[simp] theorem State.setStop_chan (s : State) (n : Nat) (x : Stop) (m : Nat) : (s.setStop n x).chan m = s.chan m := rfl
@[simp] theorem State.setStop_ticket (s : State) (n : Nat) (x : Stop) (m : BitVec 32) : (s.setStop n x).ticket m = s.ticket m := rfl
@[simp] theorem State.setStop_dom (s : State) (n : Nat) (x : Stop) (m : Nat) : (s.setStop n x).dom m = s.dom m := rfl
@[simp] theorem State.setStop_tev (s : State) (n : Nat) (x : Stop) (m : Nat) : (s.setStop n x).tev m = s.tev m := rfl
@[simp] theorem State.setStop_memSt (s : State) (n : Nat) (x : Stop) (m : Nat) : (s.setStop n x).memSt m = s.memSt m := rfl
@[simp] theorem State.setStop_ddr (s : State) (n : Nat) (x : Stop) (m : Nat) : (s.setStop n x).ddr m = s.ddr m := rfl

/-! ### setCasm -/

@[simp] theorem State.setCasm_id (s : State) (n : Nat) (x : Casement) : (s.setCasm n x).id = s.id := rfl
@[simp] theorem State.setCasm_sashes (s : State) (n : Nat) (x : Casement) : (s.setCasm n x).sashes = s.sashes := rfl
@[simp] theorem State.setCasm_lanes (s : State) (n : Nat) (x : Casement) : (s.setCasm n x).lanes = s.lanes := rfl
@[simp] theorem State.setCasm_trigs (s : State) (n : Nat) (x : Casement) : (s.setCasm n x).trigs = s.trigs := rfl
@[simp] theorem State.setCasm_quads (s : State) (n : Nat) (x : Casement) : (s.setCasm n x).quads = s.quads := rfl
@[simp] theorem State.setCasm_sites (s : State) (n : Nat) (x : Casement) : (s.setCasm n x).sites = s.sites := rfl
@[simp] theorem State.setCasm_groups (s : State) (n : Nat) (x : Casement) : (s.setCasm n x).groups = s.groups := rfl
@[simp] theorem State.setCasm_ring (s : State) (n : Nat) (x : Casement) : (s.setCasm n x).ring = s.ring := rfl
@[simp] theorem State.setCasm_mem (s : State) (n : Nat) (x : Casement) : (s.setCasm n x).mem = s.mem := rfl
@[simp] theorem State.setCasm_chain (s : State) (n : Nat) (x : Casement) : (s.setCasm n x).chain = s.chain := rfl
@[simp] theorem State.setCasm_time (s : State) (n : Nat) (x : Casement) : (s.setCasm n x).time = s.time := rfl
@[simp] theorem State.setCasm_host (s : State) (n : Nat) (x : Casement) : (s.setCasm n x).host = s.host := rfl
@[simp] theorem State.setCasm_power (s : State) (n : Nat) (x : Casement) : (s.setCasm n x).power = s.power := rfl
@[simp] theorem State.setCasm_freeCtr (s : State) (n : Nat) (x : Casement) : (s.setCasm n x).freeCtr = s.freeCtr := rfl
@[simp] theorem State.setCasm_pending (s : State) (n : Nat) (x : Casement) : (s.setCasm n x).pending = s.pending := rfl

@[simp] theorem State.setCasm_sash (s : State) (n : Nat) (x : Casement) (m : Nat) : (s.setCasm n x).sash m = s.sash m := rfl
@[simp] theorem State.setCasm_lane (s : State) (n : Nat) (x : Casement) (m : Nat) : (s.setCasm n x).lane m = s.lane m := rfl
@[simp] theorem State.setCasm_trig (s : State) (n : Nat) (x : Casement) (m : Nat) : (s.setCasm n x).trig m = s.trig m := rfl
@[simp] theorem State.setCasm_quad (s : State) (n : Nat) (x : Casement) (m : Nat) : (s.setCasm n x).quad m = s.quad m := rfl
@[simp] theorem State.setCasm_site (s : State) (n : Nat) (x : Casement) (m : Nat) : (s.setCasm n x).site m = s.site m := rfl
@[simp] theorem State.setCasm_stop (s : State) (n : Nat) (x : Casement) (m : Nat) : (s.setCasm n x).stop m = s.stop m := rfl
/-- Reading after writing. -/
@[simp] theorem State.casm_setCasm (s : State) (n : Nat) (x : Casement) (m : Nat) :
    (s.setCasm n x).casm m = if m = n then x else s.casm m := by
  simp [State.casm, State.setCasm]
@[simp] theorem State.setCasm_task (s : State) (n : Nat) (x : Casement) (m : Nat) : (s.setCasm n x).task m = s.task m := rfl
@[simp] theorem State.setCasm_stream (s : State) (n : Nat) (x : Casement) (m : Nat) : (s.setCasm n x).stream m = s.stream m := rfl
@[simp] theorem State.setCasm_slink (s : State) (n : Nat) (x : Casement) (m : Nat) : (s.setCasm n x).slink m = s.slink m := rfl
@[simp] theorem State.setCasm_fePort (s : State) (n : Nat) (x : Casement) (m : Nat) : (s.setCasm n x).fePort m = s.fePort m := rfl
@[simp] theorem State.setCasm_chan (s : State) (n : Nat) (x : Casement) (m : Nat) : (s.setCasm n x).chan m = s.chan m := rfl
@[simp] theorem State.setCasm_ticket (s : State) (n : Nat) (x : Casement) (m : BitVec 32) : (s.setCasm n x).ticket m = s.ticket m := rfl
@[simp] theorem State.setCasm_dom (s : State) (n : Nat) (x : Casement) (m : Nat) : (s.setCasm n x).dom m = s.dom m := rfl
@[simp] theorem State.setCasm_tev (s : State) (n : Nat) (x : Casement) (m : Nat) : (s.setCasm n x).tev m = s.tev m := rfl
@[simp] theorem State.setCasm_memSt (s : State) (n : Nat) (x : Casement) (m : Nat) : (s.setCasm n x).memSt m = s.memSt m := rfl
@[simp] theorem State.setCasm_ddr (s : State) (n : Nat) (x : Casement) (m : Nat) : (s.setCasm n x).ddr m = s.ddr m := rfl

/-! ### setTask -/

@[simp] theorem State.setTask_id (s : State) (n : Nat) (x : Option TaskCtx) : (s.setTask n x).id = s.id := rfl
@[simp] theorem State.setTask_sashes (s : State) (n : Nat) (x : Option TaskCtx) : (s.setTask n x).sashes = s.sashes := rfl
@[simp] theorem State.setTask_lanes (s : State) (n : Nat) (x : Option TaskCtx) : (s.setTask n x).lanes = s.lanes := rfl
@[simp] theorem State.setTask_trigs (s : State) (n : Nat) (x : Option TaskCtx) : (s.setTask n x).trigs = s.trigs := rfl
@[simp] theorem State.setTask_quads (s : State) (n : Nat) (x : Option TaskCtx) : (s.setTask n x).quads = s.quads := rfl
@[simp] theorem State.setTask_sites (s : State) (n : Nat) (x : Option TaskCtx) : (s.setTask n x).sites = s.sites := rfl
@[simp] theorem State.setTask_groups (s : State) (n : Nat) (x : Option TaskCtx) : (s.setTask n x).groups = s.groups := rfl
@[simp] theorem State.setTask_ring (s : State) (n : Nat) (x : Option TaskCtx) : (s.setTask n x).ring = s.ring := rfl
@[simp] theorem State.setTask_mem (s : State) (n : Nat) (x : Option TaskCtx) : (s.setTask n x).mem = s.mem := rfl
@[simp] theorem State.setTask_chain (s : State) (n : Nat) (x : Option TaskCtx) : (s.setTask n x).chain = s.chain := rfl
@[simp] theorem State.setTask_time (s : State) (n : Nat) (x : Option TaskCtx) : (s.setTask n x).time = s.time := rfl
@[simp] theorem State.setTask_host (s : State) (n : Nat) (x : Option TaskCtx) : (s.setTask n x).host = s.host := rfl
@[simp] theorem State.setTask_power (s : State) (n : Nat) (x : Option TaskCtx) : (s.setTask n x).power = s.power := rfl
@[simp] theorem State.setTask_freeCtr (s : State) (n : Nat) (x : Option TaskCtx) : (s.setTask n x).freeCtr = s.freeCtr := rfl
@[simp] theorem State.setTask_pending (s : State) (n : Nat) (x : Option TaskCtx) : (s.setTask n x).pending = s.pending := rfl

@[simp] theorem State.setTask_sash (s : State) (n : Nat) (x : Option TaskCtx) (m : Nat) : (s.setTask n x).sash m = s.sash m := rfl
@[simp] theorem State.setTask_lane (s : State) (n : Nat) (x : Option TaskCtx) (m : Nat) : (s.setTask n x).lane m = s.lane m := rfl
@[simp] theorem State.setTask_trig (s : State) (n : Nat) (x : Option TaskCtx) (m : Nat) : (s.setTask n x).trig m = s.trig m := rfl
@[simp] theorem State.setTask_quad (s : State) (n : Nat) (x : Option TaskCtx) (m : Nat) : (s.setTask n x).quad m = s.quad m := rfl
@[simp] theorem State.setTask_site (s : State) (n : Nat) (x : Option TaskCtx) (m : Nat) : (s.setTask n x).site m = s.site m := rfl
@[simp] theorem State.setTask_stop (s : State) (n : Nat) (x : Option TaskCtx) (m : Nat) : (s.setTask n x).stop m = s.stop m := rfl
@[simp] theorem State.setTask_casm (s : State) (n : Nat) (x : Option TaskCtx) (m : Nat) : (s.setTask n x).casm m = s.casm m := rfl
/-- Reading after writing. -/
@[simp] theorem State.task_setTask (s : State) (n : Nat) (x : Option TaskCtx) (m : Nat) :
    (s.setTask n x).task m = if m = n then x else s.task m := by
  simp [State.task, State.setTask]
@[simp] theorem State.setTask_stream (s : State) (n : Nat) (x : Option TaskCtx) (m : Nat) : (s.setTask n x).stream m = s.stream m := rfl
@[simp] theorem State.setTask_slink (s : State) (n : Nat) (x : Option TaskCtx) (m : Nat) : (s.setTask n x).slink m = s.slink m := rfl
@[simp] theorem State.setTask_fePort (s : State) (n : Nat) (x : Option TaskCtx) (m : Nat) : (s.setTask n x).fePort m = s.fePort m := rfl
@[simp] theorem State.setTask_chan (s : State) (n : Nat) (x : Option TaskCtx) (m : Nat) : (s.setTask n x).chan m = s.chan m := rfl
@[simp] theorem State.setTask_ticket (s : State) (n : Nat) (x : Option TaskCtx) (m : BitVec 32) : (s.setTask n x).ticket m = s.ticket m := rfl
@[simp] theorem State.setTask_dom (s : State) (n : Nat) (x : Option TaskCtx) (m : Nat) : (s.setTask n x).dom m = s.dom m := rfl
@[simp] theorem State.setTask_tev (s : State) (n : Nat) (x : Option TaskCtx) (m : Nat) : (s.setTask n x).tev m = s.tev m := rfl
@[simp] theorem State.setTask_memSt (s : State) (n : Nat) (x : Option TaskCtx) (m : Nat) : (s.setTask n x).memSt m = s.memSt m := rfl
@[simp] theorem State.setTask_ddr (s : State) (n : Nat) (x : Option TaskCtx) (m : Nat) : (s.setTask n x).ddr m = s.ddr m := rfl

/-! ### setStream -/

@[simp] theorem State.setStream_id (s : State) (n : Nat) (x : Option Stream) : (s.setStream n x).id = s.id := rfl
@[simp] theorem State.setStream_sashes (s : State) (n : Nat) (x : Option Stream) : (s.setStream n x).sashes = s.sashes := rfl
@[simp] theorem State.setStream_lanes (s : State) (n : Nat) (x : Option Stream) : (s.setStream n x).lanes = s.lanes := rfl
@[simp] theorem State.setStream_trigs (s : State) (n : Nat) (x : Option Stream) : (s.setStream n x).trigs = s.trigs := rfl
@[simp] theorem State.setStream_quads (s : State) (n : Nat) (x : Option Stream) : (s.setStream n x).quads = s.quads := rfl
@[simp] theorem State.setStream_sites (s : State) (n : Nat) (x : Option Stream) : (s.setStream n x).sites = s.sites := rfl
@[simp] theorem State.setStream_groups (s : State) (n : Nat) (x : Option Stream) : (s.setStream n x).groups = s.groups := rfl
@[simp] theorem State.setStream_ring (s : State) (n : Nat) (x : Option Stream) : (s.setStream n x).ring = s.ring := rfl
@[simp] theorem State.setStream_mem (s : State) (n : Nat) (x : Option Stream) : (s.setStream n x).mem = s.mem := rfl
@[simp] theorem State.setStream_chain (s : State) (n : Nat) (x : Option Stream) : (s.setStream n x).chain = s.chain := rfl
@[simp] theorem State.setStream_time (s : State) (n : Nat) (x : Option Stream) : (s.setStream n x).time = s.time := rfl
@[simp] theorem State.setStream_host (s : State) (n : Nat) (x : Option Stream) : (s.setStream n x).host = s.host := rfl
@[simp] theorem State.setStream_power (s : State) (n : Nat) (x : Option Stream) : (s.setStream n x).power = s.power := rfl
@[simp] theorem State.setStream_freeCtr (s : State) (n : Nat) (x : Option Stream) : (s.setStream n x).freeCtr = s.freeCtr := rfl
@[simp] theorem State.setStream_pending (s : State) (n : Nat) (x : Option Stream) : (s.setStream n x).pending = s.pending := rfl

@[simp] theorem State.setStream_sash (s : State) (n : Nat) (x : Option Stream) (m : Nat) : (s.setStream n x).sash m = s.sash m := rfl
@[simp] theorem State.setStream_lane (s : State) (n : Nat) (x : Option Stream) (m : Nat) : (s.setStream n x).lane m = s.lane m := rfl
@[simp] theorem State.setStream_trig (s : State) (n : Nat) (x : Option Stream) (m : Nat) : (s.setStream n x).trig m = s.trig m := rfl
@[simp] theorem State.setStream_quad (s : State) (n : Nat) (x : Option Stream) (m : Nat) : (s.setStream n x).quad m = s.quad m := rfl
@[simp] theorem State.setStream_site (s : State) (n : Nat) (x : Option Stream) (m : Nat) : (s.setStream n x).site m = s.site m := rfl
@[simp] theorem State.setStream_stop (s : State) (n : Nat) (x : Option Stream) (m : Nat) : (s.setStream n x).stop m = s.stop m := rfl
@[simp] theorem State.setStream_casm (s : State) (n : Nat) (x : Option Stream) (m : Nat) : (s.setStream n x).casm m = s.casm m := rfl
@[simp] theorem State.setStream_task (s : State) (n : Nat) (x : Option Stream) (m : Nat) : (s.setStream n x).task m = s.task m := rfl
/-- Reading after writing. -/
@[simp] theorem State.stream_setStream (s : State) (n : Nat) (x : Option Stream) (m : Nat) :
    (s.setStream n x).stream m = if m = n then x else s.stream m := by
  simp [State.stream, State.setStream]
@[simp] theorem State.setStream_slink (s : State) (n : Nat) (x : Option Stream) (m : Nat) : (s.setStream n x).slink m = s.slink m := rfl
@[simp] theorem State.setStream_fePort (s : State) (n : Nat) (x : Option Stream) (m : Nat) : (s.setStream n x).fePort m = s.fePort m := rfl
@[simp] theorem State.setStream_chan (s : State) (n : Nat) (x : Option Stream) (m : Nat) : (s.setStream n x).chan m = s.chan m := rfl
@[simp] theorem State.setStream_ticket (s : State) (n : Nat) (x : Option Stream) (m : BitVec 32) : (s.setStream n x).ticket m = s.ticket m := rfl
@[simp] theorem State.setStream_dom (s : State) (n : Nat) (x : Option Stream) (m : Nat) : (s.setStream n x).dom m = s.dom m := rfl
@[simp] theorem State.setStream_tev (s : State) (n : Nat) (x : Option Stream) (m : Nat) : (s.setStream n x).tev m = s.tev m := rfl
@[simp] theorem State.setStream_memSt (s : State) (n : Nat) (x : Option Stream) (m : Nat) : (s.setStream n x).memSt m = s.memSt m := rfl
@[simp] theorem State.setStream_ddr (s : State) (n : Nat) (x : Option Stream) (m : Nat) : (s.setStream n x).ddr m = s.ddr m := rfl

/-! ### setSlink -/

@[simp] theorem State.setSlink_id (s : State) (n : Nat) (x : Option StreamLink) : (s.setSlink n x).id = s.id := rfl
@[simp] theorem State.setSlink_sashes (s : State) (n : Nat) (x : Option StreamLink) : (s.setSlink n x).sashes = s.sashes := rfl
@[simp] theorem State.setSlink_lanes (s : State) (n : Nat) (x : Option StreamLink) : (s.setSlink n x).lanes = s.lanes := rfl
@[simp] theorem State.setSlink_trigs (s : State) (n : Nat) (x : Option StreamLink) : (s.setSlink n x).trigs = s.trigs := rfl
@[simp] theorem State.setSlink_quads (s : State) (n : Nat) (x : Option StreamLink) : (s.setSlink n x).quads = s.quads := rfl
@[simp] theorem State.setSlink_sites (s : State) (n : Nat) (x : Option StreamLink) : (s.setSlink n x).sites = s.sites := rfl
@[simp] theorem State.setSlink_groups (s : State) (n : Nat) (x : Option StreamLink) : (s.setSlink n x).groups = s.groups := rfl
@[simp] theorem State.setSlink_ring (s : State) (n : Nat) (x : Option StreamLink) : (s.setSlink n x).ring = s.ring := rfl
@[simp] theorem State.setSlink_mem (s : State) (n : Nat) (x : Option StreamLink) : (s.setSlink n x).mem = s.mem := rfl
@[simp] theorem State.setSlink_chain (s : State) (n : Nat) (x : Option StreamLink) : (s.setSlink n x).chain = s.chain := rfl
@[simp] theorem State.setSlink_time (s : State) (n : Nat) (x : Option StreamLink) : (s.setSlink n x).time = s.time := rfl
@[simp] theorem State.setSlink_host (s : State) (n : Nat) (x : Option StreamLink) : (s.setSlink n x).host = s.host := rfl
@[simp] theorem State.setSlink_power (s : State) (n : Nat) (x : Option StreamLink) : (s.setSlink n x).power = s.power := rfl
@[simp] theorem State.setSlink_freeCtr (s : State) (n : Nat) (x : Option StreamLink) : (s.setSlink n x).freeCtr = s.freeCtr := rfl
@[simp] theorem State.setSlink_pending (s : State) (n : Nat) (x : Option StreamLink) : (s.setSlink n x).pending = s.pending := rfl

@[simp] theorem State.setSlink_sash (s : State) (n : Nat) (x : Option StreamLink) (m : Nat) : (s.setSlink n x).sash m = s.sash m := rfl
@[simp] theorem State.setSlink_lane (s : State) (n : Nat) (x : Option StreamLink) (m : Nat) : (s.setSlink n x).lane m = s.lane m := rfl
@[simp] theorem State.setSlink_trig (s : State) (n : Nat) (x : Option StreamLink) (m : Nat) : (s.setSlink n x).trig m = s.trig m := rfl
@[simp] theorem State.setSlink_quad (s : State) (n : Nat) (x : Option StreamLink) (m : Nat) : (s.setSlink n x).quad m = s.quad m := rfl
@[simp] theorem State.setSlink_site (s : State) (n : Nat) (x : Option StreamLink) (m : Nat) : (s.setSlink n x).site m = s.site m := rfl
@[simp] theorem State.setSlink_stop (s : State) (n : Nat) (x : Option StreamLink) (m : Nat) : (s.setSlink n x).stop m = s.stop m := rfl
@[simp] theorem State.setSlink_casm (s : State) (n : Nat) (x : Option StreamLink) (m : Nat) : (s.setSlink n x).casm m = s.casm m := rfl
@[simp] theorem State.setSlink_task (s : State) (n : Nat) (x : Option StreamLink) (m : Nat) : (s.setSlink n x).task m = s.task m := rfl
@[simp] theorem State.setSlink_stream (s : State) (n : Nat) (x : Option StreamLink) (m : Nat) : (s.setSlink n x).stream m = s.stream m := rfl
/-- Reading after writing. -/
@[simp] theorem State.slink_setSlink (s : State) (n : Nat) (x : Option StreamLink) (m : Nat) :
    (s.setSlink n x).slink m = if m = n then x else s.slink m := by
  simp [State.slink, State.setSlink]
@[simp] theorem State.setSlink_fePort (s : State) (n : Nat) (x : Option StreamLink) (m : Nat) : (s.setSlink n x).fePort m = s.fePort m := rfl
@[simp] theorem State.setSlink_chan (s : State) (n : Nat) (x : Option StreamLink) (m : Nat) : (s.setSlink n x).chan m = s.chan m := rfl
@[simp] theorem State.setSlink_ticket (s : State) (n : Nat) (x : Option StreamLink) (m : BitVec 32) : (s.setSlink n x).ticket m = s.ticket m := rfl
@[simp] theorem State.setSlink_dom (s : State) (n : Nat) (x : Option StreamLink) (m : Nat) : (s.setSlink n x).dom m = s.dom m := rfl
@[simp] theorem State.setSlink_tev (s : State) (n : Nat) (x : Option StreamLink) (m : Nat) : (s.setSlink n x).tev m = s.tev m := rfl
@[simp] theorem State.setSlink_memSt (s : State) (n : Nat) (x : Option StreamLink) (m : Nat) : (s.setSlink n x).memSt m = s.memSt m := rfl
@[simp] theorem State.setSlink_ddr (s : State) (n : Nat) (x : Option StreamLink) (m : Nat) : (s.setSlink n x).ddr m = s.ddr m := rfl

/-! ### setFePort -/

@[simp] theorem State.setFePort_id (s : State) (n : Nat) (x : FePort) : (s.setFePort n x).id = s.id := rfl
@[simp] theorem State.setFePort_sashes (s : State) (n : Nat) (x : FePort) : (s.setFePort n x).sashes = s.sashes := rfl
@[simp] theorem State.setFePort_lanes (s : State) (n : Nat) (x : FePort) : (s.setFePort n x).lanes = s.lanes := rfl
@[simp] theorem State.setFePort_trigs (s : State) (n : Nat) (x : FePort) : (s.setFePort n x).trigs = s.trigs := rfl
@[simp] theorem State.setFePort_quads (s : State) (n : Nat) (x : FePort) : (s.setFePort n x).quads = s.quads := rfl
@[simp] theorem State.setFePort_sites (s : State) (n : Nat) (x : FePort) : (s.setFePort n x).sites = s.sites := rfl
@[simp] theorem State.setFePort_groups (s : State) (n : Nat) (x : FePort) : (s.setFePort n x).groups = s.groups := rfl
@[simp] theorem State.setFePort_ring (s : State) (n : Nat) (x : FePort) : (s.setFePort n x).ring = s.ring := rfl
@[simp] theorem State.setFePort_mem (s : State) (n : Nat) (x : FePort) : (s.setFePort n x).mem = s.mem := rfl
@[simp] theorem State.setFePort_chain (s : State) (n : Nat) (x : FePort) : (s.setFePort n x).chain = s.chain := rfl
@[simp] theorem State.setFePort_time (s : State) (n : Nat) (x : FePort) : (s.setFePort n x).time = s.time := rfl
@[simp] theorem State.setFePort_host (s : State) (n : Nat) (x : FePort) : (s.setFePort n x).host = s.host := rfl
@[simp] theorem State.setFePort_power (s : State) (n : Nat) (x : FePort) : (s.setFePort n x).power = s.power := rfl
@[simp] theorem State.setFePort_freeCtr (s : State) (n : Nat) (x : FePort) : (s.setFePort n x).freeCtr = s.freeCtr := rfl
@[simp] theorem State.setFePort_pending (s : State) (n : Nat) (x : FePort) : (s.setFePort n x).pending = s.pending := rfl

@[simp] theorem State.setFePort_sash (s : State) (n : Nat) (x : FePort) (m : Nat) : (s.setFePort n x).sash m = s.sash m := rfl
@[simp] theorem State.setFePort_lane (s : State) (n : Nat) (x : FePort) (m : Nat) : (s.setFePort n x).lane m = s.lane m := rfl
@[simp] theorem State.setFePort_trig (s : State) (n : Nat) (x : FePort) (m : Nat) : (s.setFePort n x).trig m = s.trig m := rfl
@[simp] theorem State.setFePort_quad (s : State) (n : Nat) (x : FePort) (m : Nat) : (s.setFePort n x).quad m = s.quad m := rfl
@[simp] theorem State.setFePort_site (s : State) (n : Nat) (x : FePort) (m : Nat) : (s.setFePort n x).site m = s.site m := rfl
@[simp] theorem State.setFePort_stop (s : State) (n : Nat) (x : FePort) (m : Nat) : (s.setFePort n x).stop m = s.stop m := rfl
@[simp] theorem State.setFePort_casm (s : State) (n : Nat) (x : FePort) (m : Nat) : (s.setFePort n x).casm m = s.casm m := rfl
@[simp] theorem State.setFePort_task (s : State) (n : Nat) (x : FePort) (m : Nat) : (s.setFePort n x).task m = s.task m := rfl
@[simp] theorem State.setFePort_stream (s : State) (n : Nat) (x : FePort) (m : Nat) : (s.setFePort n x).stream m = s.stream m := rfl
@[simp] theorem State.setFePort_slink (s : State) (n : Nat) (x : FePort) (m : Nat) : (s.setFePort n x).slink m = s.slink m := rfl
/-- Reading after writing. -/
@[simp] theorem State.fePort_setFePort (s : State) (n : Nat) (x : FePort) (m : Nat) :
    (s.setFePort n x).fePort m = if m = n then x else s.fePort m := by
  simp [State.fePort, State.setFePort]
@[simp] theorem State.setFePort_chan (s : State) (n : Nat) (x : FePort) (m : Nat) : (s.setFePort n x).chan m = s.chan m := rfl
@[simp] theorem State.setFePort_ticket (s : State) (n : Nat) (x : FePort) (m : BitVec 32) : (s.setFePort n x).ticket m = s.ticket m := rfl
@[simp] theorem State.setFePort_dom (s : State) (n : Nat) (x : FePort) (m : Nat) : (s.setFePort n x).dom m = s.dom m := rfl
@[simp] theorem State.setFePort_tev (s : State) (n : Nat) (x : FePort) (m : Nat) : (s.setFePort n x).tev m = s.tev m := rfl
@[simp] theorem State.setFePort_memSt (s : State) (n : Nat) (x : FePort) (m : Nat) : (s.setFePort n x).memSt m = s.memSt m := rfl
@[simp] theorem State.setFePort_ddr (s : State) (n : Nat) (x : FePort) (m : Nat) : (s.setFePort n x).ddr m = s.ddr m := rfl

/-! ### setChan -/

@[simp] theorem State.setChan_id (s : State) (n : Nat) (x : Channel) : (s.setChan n x).id = s.id := rfl
@[simp] theorem State.setChan_sashes (s : State) (n : Nat) (x : Channel) : (s.setChan n x).sashes = s.sashes := rfl
@[simp] theorem State.setChan_lanes (s : State) (n : Nat) (x : Channel) : (s.setChan n x).lanes = s.lanes := rfl
@[simp] theorem State.setChan_trigs (s : State) (n : Nat) (x : Channel) : (s.setChan n x).trigs = s.trigs := rfl
@[simp] theorem State.setChan_quads (s : State) (n : Nat) (x : Channel) : (s.setChan n x).quads = s.quads := rfl
@[simp] theorem State.setChan_sites (s : State) (n : Nat) (x : Channel) : (s.setChan n x).sites = s.sites := rfl
@[simp] theorem State.setChan_groups (s : State) (n : Nat) (x : Channel) : (s.setChan n x).groups = s.groups := rfl
@[simp] theorem State.setChan_ring (s : State) (n : Nat) (x : Channel) : (s.setChan n x).ring = s.ring := rfl
@[simp] theorem State.setChan_mem (s : State) (n : Nat) (x : Channel) : (s.setChan n x).mem = s.mem := rfl
@[simp] theorem State.setChan_cas (s : State) (n : Nat) (x : Channel) : (s.setChan n x).cas = s.cas := rfl
@[simp] theorem State.setChan_chain (s : State) (n : Nat) (x : Channel) : (s.setChan n x).chain = s.chain := rfl
@[simp] theorem State.setChan_time (s : State) (n : Nat) (x : Channel) : (s.setChan n x).time = s.time := rfl
@[simp] theorem State.setChan_power (s : State) (n : Nat) (x : Channel) : (s.setChan n x).power = s.power := rfl
@[simp] theorem State.setChan_freeCtr (s : State) (n : Nat) (x : Channel) : (s.setChan n x).freeCtr = s.freeCtr := rfl
@[simp] theorem State.setChan_pending (s : State) (n : Nat) (x : Channel) : (s.setChan n x).pending = s.pending := rfl

@[simp] theorem State.setChan_sash (s : State) (n : Nat) (x : Channel) (m : Nat) : (s.setChan n x).sash m = s.sash m := rfl
@[simp] theorem State.setChan_lane (s : State) (n : Nat) (x : Channel) (m : Nat) : (s.setChan n x).lane m = s.lane m := rfl
@[simp] theorem State.setChan_trig (s : State) (n : Nat) (x : Channel) (m : Nat) : (s.setChan n x).trig m = s.trig m := rfl
@[simp] theorem State.setChan_quad (s : State) (n : Nat) (x : Channel) (m : Nat) : (s.setChan n x).quad m = s.quad m := rfl
@[simp] theorem State.setChan_site (s : State) (n : Nat) (x : Channel) (m : Nat) : (s.setChan n x).site m = s.site m := rfl
@[simp] theorem State.setChan_stop (s : State) (n : Nat) (x : Channel) (m : Nat) : (s.setChan n x).stop m = s.stop m := rfl
@[simp] theorem State.setChan_casm (s : State) (n : Nat) (x : Channel) (m : Nat) : (s.setChan n x).casm m = s.casm m := rfl
@[simp] theorem State.setChan_task (s : State) (n : Nat) (x : Channel) (m : Nat) : (s.setChan n x).task m = s.task m := rfl
@[simp] theorem State.setChan_stream (s : State) (n : Nat) (x : Channel) (m : Nat) : (s.setChan n x).stream m = s.stream m := rfl
@[simp] theorem State.setChan_slink (s : State) (n : Nat) (x : Channel) (m : Nat) : (s.setChan n x).slink m = s.slink m := rfl
@[simp] theorem State.setChan_fePort (s : State) (n : Nat) (x : Channel) (m : Nat) : (s.setChan n x).fePort m = s.fePort m := rfl
/-- Reading after writing. -/
@[simp] theorem State.chan_setChan (s : State) (n : Nat) (x : Channel) (m : Nat) :
    (s.setChan n x).chan m = if m = n then x else s.chan m := by
  simp [State.chan, State.setChan]
@[simp] theorem State.setChan_ticket (s : State) (n : Nat) (x : Channel) (m : BitVec 32) : (s.setChan n x).ticket m = s.ticket m := rfl
@[simp] theorem State.setChan_dom (s : State) (n : Nat) (x : Channel) (m : Nat) : (s.setChan n x).dom m = s.dom m := rfl
@[simp] theorem State.setChan_tev (s : State) (n : Nat) (x : Channel) (m : Nat) : (s.setChan n x).tev m = s.tev m := rfl
@[simp] theorem State.setChan_memSt (s : State) (n : Nat) (x : Channel) (m : Nat) : (s.setChan n x).memSt m = s.memSt m := rfl
@[simp] theorem State.setChan_ddr (s : State) (n : Nat) (x : Channel) (m : Nat) : (s.setChan n x).ddr m = s.ddr m := rfl

/-! ### setTicket -/

@[simp] theorem State.setTicket_id (s : State) (n : BitVec 32) (x : Option Ticket) : (s.setTicket n x).id = s.id := rfl
@[simp] theorem State.setTicket_sashes (s : State) (n : BitVec 32) (x : Option Ticket) : (s.setTicket n x).sashes = s.sashes := rfl
@[simp] theorem State.setTicket_lanes (s : State) (n : BitVec 32) (x : Option Ticket) : (s.setTicket n x).lanes = s.lanes := rfl
@[simp] theorem State.setTicket_trigs (s : State) (n : BitVec 32) (x : Option Ticket) : (s.setTicket n x).trigs = s.trigs := rfl
@[simp] theorem State.setTicket_quads (s : State) (n : BitVec 32) (x : Option Ticket) : (s.setTicket n x).quads = s.quads := rfl
@[simp] theorem State.setTicket_sites (s : State) (n : BitVec 32) (x : Option Ticket) : (s.setTicket n x).sites = s.sites := rfl
@[simp] theorem State.setTicket_groups (s : State) (n : BitVec 32) (x : Option Ticket) : (s.setTicket n x).groups = s.groups := rfl
@[simp] theorem State.setTicket_ring (s : State) (n : BitVec 32) (x : Option Ticket) : (s.setTicket n x).ring = s.ring := rfl
@[simp] theorem State.setTicket_mem (s : State) (n : BitVec 32) (x : Option Ticket) : (s.setTicket n x).mem = s.mem := rfl
@[simp] theorem State.setTicket_cas (s : State) (n : BitVec 32) (x : Option Ticket) : (s.setTicket n x).cas = s.cas := rfl
@[simp] theorem State.setTicket_chain (s : State) (n : BitVec 32) (x : Option Ticket) : (s.setTicket n x).chain = s.chain := rfl
@[simp] theorem State.setTicket_time (s : State) (n : BitVec 32) (x : Option Ticket) : (s.setTicket n x).time = s.time := rfl
@[simp] theorem State.setTicket_power (s : State) (n : BitVec 32) (x : Option Ticket) : (s.setTicket n x).power = s.power := rfl
@[simp] theorem State.setTicket_freeCtr (s : State) (n : BitVec 32) (x : Option Ticket) : (s.setTicket n x).freeCtr = s.freeCtr := rfl
@[simp] theorem State.setTicket_pending (s : State) (n : BitVec 32) (x : Option Ticket) : (s.setTicket n x).pending = s.pending := rfl

@[simp] theorem State.setTicket_sash (s : State) (n : BitVec 32) (x : Option Ticket) (m : Nat) : (s.setTicket n x).sash m = s.sash m := rfl
@[simp] theorem State.setTicket_lane (s : State) (n : BitVec 32) (x : Option Ticket) (m : Nat) : (s.setTicket n x).lane m = s.lane m := rfl
@[simp] theorem State.setTicket_trig (s : State) (n : BitVec 32) (x : Option Ticket) (m : Nat) : (s.setTicket n x).trig m = s.trig m := rfl
@[simp] theorem State.setTicket_quad (s : State) (n : BitVec 32) (x : Option Ticket) (m : Nat) : (s.setTicket n x).quad m = s.quad m := rfl
@[simp] theorem State.setTicket_site (s : State) (n : BitVec 32) (x : Option Ticket) (m : Nat) : (s.setTicket n x).site m = s.site m := rfl
@[simp] theorem State.setTicket_stop (s : State) (n : BitVec 32) (x : Option Ticket) (m : Nat) : (s.setTicket n x).stop m = s.stop m := rfl
@[simp] theorem State.setTicket_casm (s : State) (n : BitVec 32) (x : Option Ticket) (m : Nat) : (s.setTicket n x).casm m = s.casm m := rfl
@[simp] theorem State.setTicket_task (s : State) (n : BitVec 32) (x : Option Ticket) (m : Nat) : (s.setTicket n x).task m = s.task m := rfl
@[simp] theorem State.setTicket_stream (s : State) (n : BitVec 32) (x : Option Ticket) (m : Nat) : (s.setTicket n x).stream m = s.stream m := rfl
@[simp] theorem State.setTicket_slink (s : State) (n : BitVec 32) (x : Option Ticket) (m : Nat) : (s.setTicket n x).slink m = s.slink m := rfl
@[simp] theorem State.setTicket_fePort (s : State) (n : BitVec 32) (x : Option Ticket) (m : Nat) : (s.setTicket n x).fePort m = s.fePort m := rfl
@[simp] theorem State.setTicket_chan (s : State) (n : BitVec 32) (x : Option Ticket) (m : Nat) : (s.setTicket n x).chan m = s.chan m := rfl
/-- Reading after writing. -/
@[simp] theorem State.ticket_setTicket (s : State) (n : BitVec 32) (x : Option Ticket) (m : BitVec 32) :
    (s.setTicket n x).ticket m = if m = n then x else s.ticket m := by
  simp [State.ticket, State.setTicket, BitVec.toNat_inj]
@[simp] theorem State.setTicket_dom (s : State) (n : BitVec 32) (x : Option Ticket) (m : Nat) : (s.setTicket n x).dom m = s.dom m := rfl
@[simp] theorem State.setTicket_tev (s : State) (n : BitVec 32) (x : Option Ticket) (m : Nat) : (s.setTicket n x).tev m = s.tev m := rfl
@[simp] theorem State.setTicket_memSt (s : State) (n : BitVec 32) (x : Option Ticket) (m : Nat) : (s.setTicket n x).memSt m = s.memSt m := rfl
@[simp] theorem State.setTicket_ddr (s : State) (n : BitVec 32) (x : Option Ticket) (m : Nat) : (s.setTicket n x).ddr m = s.ddr m := rfl

/-! ### setDom -/

@[simp] theorem State.setDom_id (s : State) (n : Nat) (x : Domain) : (s.setDom n x).id = s.id := rfl
@[simp] theorem State.setDom_sashes (s : State) (n : Nat) (x : Domain) : (s.setDom n x).sashes = s.sashes := rfl
@[simp] theorem State.setDom_lanes (s : State) (n : Nat) (x : Domain) : (s.setDom n x).lanes = s.lanes := rfl
@[simp] theorem State.setDom_trigs (s : State) (n : Nat) (x : Domain) : (s.setDom n x).trigs = s.trigs := rfl
@[simp] theorem State.setDom_quads (s : State) (n : Nat) (x : Domain) : (s.setDom n x).quads = s.quads := rfl
@[simp] theorem State.setDom_sites (s : State) (n : Nat) (x : Domain) : (s.setDom n x).sites = s.sites := rfl
@[simp] theorem State.setDom_groups (s : State) (n : Nat) (x : Domain) : (s.setDom n x).groups = s.groups := rfl
@[simp] theorem State.setDom_ring (s : State) (n : Nat) (x : Domain) : (s.setDom n x).ring = s.ring := rfl
@[simp] theorem State.setDom_mem (s : State) (n : Nat) (x : Domain) : (s.setDom n x).mem = s.mem := rfl
@[simp] theorem State.setDom_cas (s : State) (n : Nat) (x : Domain) : (s.setDom n x).cas = s.cas := rfl
@[simp] theorem State.setDom_chain (s : State) (n : Nat) (x : Domain) : (s.setDom n x).chain = s.chain := rfl
@[simp] theorem State.setDom_time (s : State) (n : Nat) (x : Domain) : (s.setDom n x).time = s.time := rfl
@[simp] theorem State.setDom_host (s : State) (n : Nat) (x : Domain) : (s.setDom n x).host = s.host := rfl
@[simp] theorem State.setDom_freeCtr (s : State) (n : Nat) (x : Domain) : (s.setDom n x).freeCtr = s.freeCtr := rfl
@[simp] theorem State.setDom_pending (s : State) (n : Nat) (x : Domain) : (s.setDom n x).pending = s.pending := rfl

@[simp] theorem State.setDom_sash (s : State) (n : Nat) (x : Domain) (m : Nat) : (s.setDom n x).sash m = s.sash m := rfl
@[simp] theorem State.setDom_lane (s : State) (n : Nat) (x : Domain) (m : Nat) : (s.setDom n x).lane m = s.lane m := rfl
@[simp] theorem State.setDom_trig (s : State) (n : Nat) (x : Domain) (m : Nat) : (s.setDom n x).trig m = s.trig m := rfl
@[simp] theorem State.setDom_quad (s : State) (n : Nat) (x : Domain) (m : Nat) : (s.setDom n x).quad m = s.quad m := rfl
@[simp] theorem State.setDom_site (s : State) (n : Nat) (x : Domain) (m : Nat) : (s.setDom n x).site m = s.site m := rfl
@[simp] theorem State.setDom_stop (s : State) (n : Nat) (x : Domain) (m : Nat) : (s.setDom n x).stop m = s.stop m := rfl
@[simp] theorem State.setDom_casm (s : State) (n : Nat) (x : Domain) (m : Nat) : (s.setDom n x).casm m = s.casm m := rfl
@[simp] theorem State.setDom_task (s : State) (n : Nat) (x : Domain) (m : Nat) : (s.setDom n x).task m = s.task m := rfl
@[simp] theorem State.setDom_stream (s : State) (n : Nat) (x : Domain) (m : Nat) : (s.setDom n x).stream m = s.stream m := rfl
@[simp] theorem State.setDom_slink (s : State) (n : Nat) (x : Domain) (m : Nat) : (s.setDom n x).slink m = s.slink m := rfl
@[simp] theorem State.setDom_fePort (s : State) (n : Nat) (x : Domain) (m : Nat) : (s.setDom n x).fePort m = s.fePort m := rfl
@[simp] theorem State.setDom_chan (s : State) (n : Nat) (x : Domain) (m : Nat) : (s.setDom n x).chan m = s.chan m := rfl
@[simp] theorem State.setDom_ticket (s : State) (n : Nat) (x : Domain) (m : BitVec 32) : (s.setDom n x).ticket m = s.ticket m := rfl
/-- Reading after writing. -/
@[simp] theorem State.dom_setDom (s : State) (n : Nat) (x : Domain) (m : Nat) :
    (s.setDom n x).dom m = if m = n then x else s.dom m := by
  simp [State.dom, State.setDom]
@[simp] theorem State.setDom_tev (s : State) (n : Nat) (x : Domain) (m : Nat) : (s.setDom n x).tev m = s.tev m := rfl
@[simp] theorem State.setDom_memSt (s : State) (n : Nat) (x : Domain) (m : Nat) : (s.setDom n x).memSt m = s.memSt m := rfl
@[simp] theorem State.setDom_ddr (s : State) (n : Nat) (x : Domain) (m : Nat) : (s.setDom n x).ddr m = s.ddr m := rfl

/-! ### setTev -/

@[simp] theorem State.setTev_id (s : State) (n : Nat) (x : Tev) : (s.setTev n x).id = s.id := rfl
@[simp] theorem State.setTev_sashes (s : State) (n : Nat) (x : Tev) : (s.setTev n x).sashes = s.sashes := rfl
@[simp] theorem State.setTev_lanes (s : State) (n : Nat) (x : Tev) : (s.setTev n x).lanes = s.lanes := rfl
@[simp] theorem State.setTev_trigs (s : State) (n : Nat) (x : Tev) : (s.setTev n x).trigs = s.trigs := rfl
@[simp] theorem State.setTev_quads (s : State) (n : Nat) (x : Tev) : (s.setTev n x).quads = s.quads := rfl
@[simp] theorem State.setTev_sites (s : State) (n : Nat) (x : Tev) : (s.setTev n x).sites = s.sites := rfl
@[simp] theorem State.setTev_groups (s : State) (n : Nat) (x : Tev) : (s.setTev n x).groups = s.groups := rfl
@[simp] theorem State.setTev_ring (s : State) (n : Nat) (x : Tev) : (s.setTev n x).ring = s.ring := rfl
@[simp] theorem State.setTev_mem (s : State) (n : Nat) (x : Tev) : (s.setTev n x).mem = s.mem := rfl
@[simp] theorem State.setTev_cas (s : State) (n : Nat) (x : Tev) : (s.setTev n x).cas = s.cas := rfl
@[simp] theorem State.setTev_chain (s : State) (n : Nat) (x : Tev) : (s.setTev n x).chain = s.chain := rfl
@[simp] theorem State.setTev_host (s : State) (n : Nat) (x : Tev) : (s.setTev n x).host = s.host := rfl
@[simp] theorem State.setTev_power (s : State) (n : Nat) (x : Tev) : (s.setTev n x).power = s.power := rfl
@[simp] theorem State.setTev_freeCtr (s : State) (n : Nat) (x : Tev) : (s.setTev n x).freeCtr = s.freeCtr := rfl
@[simp] theorem State.setTev_pending (s : State) (n : Nat) (x : Tev) : (s.setTev n x).pending = s.pending := rfl

@[simp] theorem State.setTev_sash (s : State) (n : Nat) (x : Tev) (m : Nat) : (s.setTev n x).sash m = s.sash m := rfl
@[simp] theorem State.setTev_lane (s : State) (n : Nat) (x : Tev) (m : Nat) : (s.setTev n x).lane m = s.lane m := rfl
@[simp] theorem State.setTev_trig (s : State) (n : Nat) (x : Tev) (m : Nat) : (s.setTev n x).trig m = s.trig m := rfl
@[simp] theorem State.setTev_quad (s : State) (n : Nat) (x : Tev) (m : Nat) : (s.setTev n x).quad m = s.quad m := rfl
@[simp] theorem State.setTev_site (s : State) (n : Nat) (x : Tev) (m : Nat) : (s.setTev n x).site m = s.site m := rfl
@[simp] theorem State.setTev_stop (s : State) (n : Nat) (x : Tev) (m : Nat) : (s.setTev n x).stop m = s.stop m := rfl
@[simp] theorem State.setTev_casm (s : State) (n : Nat) (x : Tev) (m : Nat) : (s.setTev n x).casm m = s.casm m := rfl
@[simp] theorem State.setTev_task (s : State) (n : Nat) (x : Tev) (m : Nat) : (s.setTev n x).task m = s.task m := rfl
@[simp] theorem State.setTev_stream (s : State) (n : Nat) (x : Tev) (m : Nat) : (s.setTev n x).stream m = s.stream m := rfl
@[simp] theorem State.setTev_slink (s : State) (n : Nat) (x : Tev) (m : Nat) : (s.setTev n x).slink m = s.slink m := rfl
@[simp] theorem State.setTev_fePort (s : State) (n : Nat) (x : Tev) (m : Nat) : (s.setTev n x).fePort m = s.fePort m := rfl
@[simp] theorem State.setTev_chan (s : State) (n : Nat) (x : Tev) (m : Nat) : (s.setTev n x).chan m = s.chan m := rfl
@[simp] theorem State.setTev_ticket (s : State) (n : Nat) (x : Tev) (m : BitVec 32) : (s.setTev n x).ticket m = s.ticket m := rfl
@[simp] theorem State.setTev_dom (s : State) (n : Nat) (x : Tev) (m : Nat) : (s.setTev n x).dom m = s.dom m := rfl
/-- Reading after writing. -/
@[simp] theorem State.tev_setTev (s : State) (n : Nat) (x : Tev) (m : Nat) :
    (s.setTev n x).tev m = if m = n then x else s.tev m := by
  simp [State.tev, State.setTev]
@[simp] theorem State.setTev_memSt (s : State) (n : Nat) (x : Tev) (m : Nat) : (s.setTev n x).memSt m = s.memSt m := rfl
@[simp] theorem State.setTev_ddr (s : State) (n : Nat) (x : Tev) (m : Nat) : (s.setTev n x).ddr m = s.ddr m := rfl

/-! ### setMemSt -/

@[simp] theorem State.setMemSt_id (s : State) (n : Nat) (x : MemStatus) : (s.setMemSt n x).id = s.id := rfl
@[simp] theorem State.setMemSt_sashes (s : State) (n : Nat) (x : MemStatus) : (s.setMemSt n x).sashes = s.sashes := rfl
@[simp] theorem State.setMemSt_lanes (s : State) (n : Nat) (x : MemStatus) : (s.setMemSt n x).lanes = s.lanes := rfl
@[simp] theorem State.setMemSt_trigs (s : State) (n : Nat) (x : MemStatus) : (s.setMemSt n x).trigs = s.trigs := rfl
@[simp] theorem State.setMemSt_quads (s : State) (n : Nat) (x : MemStatus) : (s.setMemSt n x).quads = s.quads := rfl
@[simp] theorem State.setMemSt_sites (s : State) (n : Nat) (x : MemStatus) : (s.setMemSt n x).sites = s.sites := rfl
@[simp] theorem State.setMemSt_groups (s : State) (n : Nat) (x : MemStatus) : (s.setMemSt n x).groups = s.groups := rfl
@[simp] theorem State.setMemSt_ring (s : State) (n : Nat) (x : MemStatus) : (s.setMemSt n x).ring = s.ring := rfl
@[simp] theorem State.setMemSt_cas (s : State) (n : Nat) (x : MemStatus) : (s.setMemSt n x).cas = s.cas := rfl
@[simp] theorem State.setMemSt_chain (s : State) (n : Nat) (x : MemStatus) : (s.setMemSt n x).chain = s.chain := rfl
@[simp] theorem State.setMemSt_time (s : State) (n : Nat) (x : MemStatus) : (s.setMemSt n x).time = s.time := rfl
@[simp] theorem State.setMemSt_host (s : State) (n : Nat) (x : MemStatus) : (s.setMemSt n x).host = s.host := rfl
@[simp] theorem State.setMemSt_power (s : State) (n : Nat) (x : MemStatus) : (s.setMemSt n x).power = s.power := rfl
@[simp] theorem State.setMemSt_freeCtr (s : State) (n : Nat) (x : MemStatus) : (s.setMemSt n x).freeCtr = s.freeCtr := rfl
@[simp] theorem State.setMemSt_pending (s : State) (n : Nat) (x : MemStatus) : (s.setMemSt n x).pending = s.pending := rfl

@[simp] theorem State.setMemSt_sash (s : State) (n : Nat) (x : MemStatus) (m : Nat) : (s.setMemSt n x).sash m = s.sash m := rfl
@[simp] theorem State.setMemSt_lane (s : State) (n : Nat) (x : MemStatus) (m : Nat) : (s.setMemSt n x).lane m = s.lane m := rfl
@[simp] theorem State.setMemSt_trig (s : State) (n : Nat) (x : MemStatus) (m : Nat) : (s.setMemSt n x).trig m = s.trig m := rfl
@[simp] theorem State.setMemSt_quad (s : State) (n : Nat) (x : MemStatus) (m : Nat) : (s.setMemSt n x).quad m = s.quad m := rfl
@[simp] theorem State.setMemSt_site (s : State) (n : Nat) (x : MemStatus) (m : Nat) : (s.setMemSt n x).site m = s.site m := rfl
@[simp] theorem State.setMemSt_stop (s : State) (n : Nat) (x : MemStatus) (m : Nat) : (s.setMemSt n x).stop m = s.stop m := rfl
@[simp] theorem State.setMemSt_casm (s : State) (n : Nat) (x : MemStatus) (m : Nat) : (s.setMemSt n x).casm m = s.casm m := rfl
@[simp] theorem State.setMemSt_task (s : State) (n : Nat) (x : MemStatus) (m : Nat) : (s.setMemSt n x).task m = s.task m := rfl
@[simp] theorem State.setMemSt_stream (s : State) (n : Nat) (x : MemStatus) (m : Nat) : (s.setMemSt n x).stream m = s.stream m := rfl
@[simp] theorem State.setMemSt_slink (s : State) (n : Nat) (x : MemStatus) (m : Nat) : (s.setMemSt n x).slink m = s.slink m := rfl
@[simp] theorem State.setMemSt_fePort (s : State) (n : Nat) (x : MemStatus) (m : Nat) : (s.setMemSt n x).fePort m = s.fePort m := rfl
@[simp] theorem State.setMemSt_chan (s : State) (n : Nat) (x : MemStatus) (m : Nat) : (s.setMemSt n x).chan m = s.chan m := rfl
@[simp] theorem State.setMemSt_ticket (s : State) (n : Nat) (x : MemStatus) (m : BitVec 32) : (s.setMemSt n x).ticket m = s.ticket m := rfl
@[simp] theorem State.setMemSt_dom (s : State) (n : Nat) (x : MemStatus) (m : Nat) : (s.setMemSt n x).dom m = s.dom m := rfl
@[simp] theorem State.setMemSt_tev (s : State) (n : Nat) (x : MemStatus) (m : Nat) : (s.setMemSt n x).tev m = s.tev m := rfl
/-- Reading after writing. -/
@[simp] theorem State.memSt_setMemSt (s : State) (n : Nat) (x : MemStatus) (m : Nat) :
    (s.setMemSt n x).memSt m = if m = n then x else s.memSt m := by
  simp [State.memSt, State.setMemSt]
@[simp] theorem State.setMemSt_ddr (s : State) (n : Nat) (x : MemStatus) (m : Nat) : (s.setMemSt n x).ddr m = s.ddr m := rfl

/-! ### setDdr -/

@[simp] theorem State.setDdr_id (s : State) (n : Nat) (x : DdrChan) : (s.setDdr n x).id = s.id := rfl
@[simp] theorem State.setDdr_sashes (s : State) (n : Nat) (x : DdrChan) : (s.setDdr n x).sashes = s.sashes := rfl
@[simp] theorem State.setDdr_lanes (s : State) (n : Nat) (x : DdrChan) : (s.setDdr n x).lanes = s.lanes := rfl
@[simp] theorem State.setDdr_trigs (s : State) (n : Nat) (x : DdrChan) : (s.setDdr n x).trigs = s.trigs := rfl
@[simp] theorem State.setDdr_quads (s : State) (n : Nat) (x : DdrChan) : (s.setDdr n x).quads = s.quads := rfl
@[simp] theorem State.setDdr_sites (s : State) (n : Nat) (x : DdrChan) : (s.setDdr n x).sites = s.sites := rfl
@[simp] theorem State.setDdr_groups (s : State) (n : Nat) (x : DdrChan) : (s.setDdr n x).groups = s.groups := rfl
@[simp] theorem State.setDdr_ring (s : State) (n : Nat) (x : DdrChan) : (s.setDdr n x).ring = s.ring := rfl
@[simp] theorem State.setDdr_cas (s : State) (n : Nat) (x : DdrChan) : (s.setDdr n x).cas = s.cas := rfl
@[simp] theorem State.setDdr_chain (s : State) (n : Nat) (x : DdrChan) : (s.setDdr n x).chain = s.chain := rfl
@[simp] theorem State.setDdr_time (s : State) (n : Nat) (x : DdrChan) : (s.setDdr n x).time = s.time := rfl
@[simp] theorem State.setDdr_host (s : State) (n : Nat) (x : DdrChan) : (s.setDdr n x).host = s.host := rfl
@[simp] theorem State.setDdr_power (s : State) (n : Nat) (x : DdrChan) : (s.setDdr n x).power = s.power := rfl
@[simp] theorem State.setDdr_freeCtr (s : State) (n : Nat) (x : DdrChan) : (s.setDdr n x).freeCtr = s.freeCtr := rfl
@[simp] theorem State.setDdr_pending (s : State) (n : Nat) (x : DdrChan) : (s.setDdr n x).pending = s.pending := rfl

@[simp] theorem State.setDdr_sash (s : State) (n : Nat) (x : DdrChan) (m : Nat) : (s.setDdr n x).sash m = s.sash m := rfl
@[simp] theorem State.setDdr_lane (s : State) (n : Nat) (x : DdrChan) (m : Nat) : (s.setDdr n x).lane m = s.lane m := rfl
@[simp] theorem State.setDdr_trig (s : State) (n : Nat) (x : DdrChan) (m : Nat) : (s.setDdr n x).trig m = s.trig m := rfl
@[simp] theorem State.setDdr_quad (s : State) (n : Nat) (x : DdrChan) (m : Nat) : (s.setDdr n x).quad m = s.quad m := rfl
@[simp] theorem State.setDdr_site (s : State) (n : Nat) (x : DdrChan) (m : Nat) : (s.setDdr n x).site m = s.site m := rfl
@[simp] theorem State.setDdr_stop (s : State) (n : Nat) (x : DdrChan) (m : Nat) : (s.setDdr n x).stop m = s.stop m := rfl
@[simp] theorem State.setDdr_casm (s : State) (n : Nat) (x : DdrChan) (m : Nat) : (s.setDdr n x).casm m = s.casm m := rfl
@[simp] theorem State.setDdr_task (s : State) (n : Nat) (x : DdrChan) (m : Nat) : (s.setDdr n x).task m = s.task m := rfl
@[simp] theorem State.setDdr_stream (s : State) (n : Nat) (x : DdrChan) (m : Nat) : (s.setDdr n x).stream m = s.stream m := rfl
@[simp] theorem State.setDdr_slink (s : State) (n : Nat) (x : DdrChan) (m : Nat) : (s.setDdr n x).slink m = s.slink m := rfl
@[simp] theorem State.setDdr_fePort (s : State) (n : Nat) (x : DdrChan) (m : Nat) : (s.setDdr n x).fePort m = s.fePort m := rfl
@[simp] theorem State.setDdr_chan (s : State) (n : Nat) (x : DdrChan) (m : Nat) : (s.setDdr n x).chan m = s.chan m := rfl
@[simp] theorem State.setDdr_ticket (s : State) (n : Nat) (x : DdrChan) (m : BitVec 32) : (s.setDdr n x).ticket m = s.ticket m := rfl
@[simp] theorem State.setDdr_dom (s : State) (n : Nat) (x : DdrChan) (m : Nat) : (s.setDdr n x).dom m = s.dom m := rfl
@[simp] theorem State.setDdr_tev (s : State) (n : Nat) (x : DdrChan) (m : Nat) : (s.setDdr n x).tev m = s.tev m := rfl
@[simp] theorem State.setDdr_memSt (s : State) (n : Nat) (x : DdrChan) (m : Nat) : (s.setDdr n x).memSt m = s.memSt m := rfl
/-- Reading after writing. -/
@[simp] theorem State.ddr_setDdr (s : State) (n : Nat) (x : DdrChan) (m : Nat) :
    (s.setDdr n x).ddr m = if m = n then x else s.ddr m := by
  simp [State.ddr, State.setDdr]

/-! ### A change of a block is a write of the changed block -/

@[simp] theorem State.modSash_eq (s : State) (n : Nat) (f : Sash → Sash) : s.modSash n f = s.setSash n (f (s.sash n)) := rfl
@[simp] theorem State.modLane_eq (s : State) (n : Nat) (f : Lane → Lane) : s.modLane n f = s.setLane n (f (s.lane n)) := rfl
@[simp] theorem State.modTrig_eq (s : State) (n : Nat) (f : Trig → Trig) : s.modTrig n f = s.setTrig n (f (s.trig n)) := rfl
@[simp] theorem State.modSite_eq (s : State) (n : Nat) (f : Site → Site) : s.modSite n f = s.setSite n (f (s.site n)) := rfl
@[simp] theorem State.modStop_eq (s : State) (n : Nat) (f : Stop → Stop) : s.modStop n f = s.setStop n (f (s.stop n)) := rfl
@[simp] theorem State.modCasm_eq (s : State) (n : Nat) (f : Casement → Casement) : s.modCasm n f = s.setCasm n (f (s.casm n)) := rfl
@[simp] theorem State.modChan_eq (s : State) (n : Nat) (f : Channel → Channel) : s.modChan n f = s.setChan n (f (s.chan n)) := rfl
@[simp] theorem State.modDom_eq (s : State) (n : Nat) (f : Domain → Domain) : s.modDom n f = s.setDom n (f (s.dom n)) := rfl
@[simp] theorem State.modMemSt_eq (s : State) (n : Nat) (f : MemStatus → MemStatus) : s.modMemSt n f = s.setMemSt n (f (s.memSt n)) := rfl

end Sys2Proof.Machine
end

