-- ==== Sys2Proof/Laws/Commands.lean ====
section
/-! SUPPORT. What a served command answers, and what the accesses to domains that are ON do. -/

namespace Sys2Proof.Machine

theorem access_awake (s : State) (d : Nat) (dma : Bool) (h : s.awake d = true) : s.access d dma = (.go, s) := by
  simp only [State.awake, Bool.and_eq_true, beq_iff_eq, Bool.not_eq_true', Option.isNone_iff_eq_none] at h
  obtain ⟨⟨h1, h2⟩, h3⟩ := h
  simp [State.access, h1, h2, h3]

/-- Accesses to domains that are ON change nothing. -/
theorem accessAll_awake (s : State) (ds : List Nat) (h : ds.all s.awake = true) : s.accessAll ds = (.go, s) := by
  unfold State.accessAll
  induction ds with
  | nil => rfl
  | cons d ds ih =>
    simp only [List.all_cons, Bool.and_eq_true] at h
    simp [access_awake s d false h.1, ih h.2]

/-- What a body's reply makes of the unit. -/
def Reply.answer (r : Reply) (q : Req) : State := if r.hold then r.s else r.s.reply q r.st r.pay r.tk

@[simp] theorem answer_done (s : State) (p : List Byte) (q : Req) : (done s p).answer q = s.reply q Code.ST_OK p 0 := rfl
@[simp] theorem answer_refuse (s : State) (c : Status) (q : Req) : (refuse s c).answer q = s.reply q c [] 0 := rfl

/-- A served command runs its body, and answers with what the body says. -/
theorem command_served {s : State} {src : Nat} {sp : CmdSpec} {q : Req} (h : s.serves src sp = some q)
    (body : State → Req → Reply) :
    s.command src sp body = (body s q).answer q := by
  unfold State.serves at h
  split at h
  · cases h
  · rename_i q' hq
    split at h
    · rename_i hc
      cases h
      simp only [Bool.and_eq_true, decide_eq_true_eq, Option.isNone_iff_eq_none] at hc
      obtain ⟨⟨⟨⟨⟨h1, h2⟩, h3⟩, h4⟩, h5⟩, h6⟩ := hc
      simp only [State.command, hq, h1, h2, h3, if_true, State.runLocal, if_neg (Nat.not_lt.mpr h4), h5]
      simp only [accessAll_awake s _ h6, Bool.true_eq_false, if_false, Reply.answer]
    · cases h

/-- A served request is the one that waits at its source. -/
theorem served_request {s : State} {src : Nat} {sp : CmdSpec} {q : Req} (h : s.serves src sp = some q) : s.request src = some q := by
  unfold State.serves at h
  split at h
  · cases h
  · rename_i hq
    split at h
    · cases h; exact hq
    · cases h

/-- A served request has the form byte of its row. -/
theorem serves_form {s : State} {src : Nat} {sp : CmdSpec} {q : Req} (h : s.serves src sp = some q) : sp.fits q = true := by
  unfold State.serves at h
  split at h
  · cases h
  · split at h
    · rename_i hc
      cases h
      simp only [Bool.and_eq_true] at hc
      exact hc.1.1.1.1.1
    · cases h

@[simp] theorem done_hold (s : State) (p : List Byte) : (done s p).hold = false := rfl
@[simp] theorem done_st (s : State) (p : List Byte) : (done s p).st = Code.ST_OK := rfl
@[simp] theorem done_pay (s : State) (p : List Byte) : (done s p).pay = p := rfl
@[simp] theorem done_tk (s : State) (p : List Byte) : (done s p).tk = 0 := rfl
@[simp] theorem done_s (s : State) (p : List Byte) : (done s p).s = s := rfl
@[simp] theorem refuse_hold (s : State) (c : Status) : (refuse s c).hold = false := rfl
@[simp] theorem refuse_st (s : State) (c : Status) : (refuse s c).st = c := rfl
@[simp] theorem refuse_pay (s : State) (c : Status) : (refuse s c).pay = [] := rfl
@[simp] theorem refuse_tk (s : State) (c : Status) : (refuse s c).tk = 0 := rfl
@[simp] theorem refuse_s (s : State) (c : Status) : (refuse s c).s = s := rfl

/-- A command whose body is done with payload `p` in state `t`. -/
theorem command_done {s t : State} {src : Nat} {sp : CmdSpec} {q : Req} {p : List Byte} (h : s.serves src sp = some q)
    {body : State → Req → Reply} (hb : body s q = done t p) : s.command src sp body = t.reply q Code.ST_OK p 0 := by
  rw [command_served h, hb]; rfl

/-- What accepting a long command answers. -/
theorem accept_issue {s : State} {q : Req} {w : Work} {b : Bool} {n : Nat} (h : s.accepts w = true) :
    s.accept q w b n = { st := Code.ST_ACCEPTED, tk := s.host.nextTicket, s := s.issue q w b n } := by
  simp only [State.accepts, Bool.and_eq_true, Bool.not_eq_true'] at h
  simp [State.accept, h.1, h.2, State.issue]

/-- Accepting a long command: its ticket is issued, or ST_BUSY. -/
theorem accept_cases (s : State) (q : Req) (w : Work) (b : Bool) (n : Nat) :
    s.accept q w b n =
      if s.accepts w then { st := Code.ST_ACCEPTED, tk := s.host.nextTicket, s := s.issue q w b n } else refuse s Code.ST_BUSY := by
  by_cases h : s.accepts w = true
  · rw [if_pos h, accept_issue h]
  · rw [if_neg h]
    unfold State.accept
    rw [if_pos]
    simp only [State.accepts] at h
    cases h1 : s.host.ticketsFull <;> simp_all

/-- The answer of a body that accepts a long command and does nothing else. -/
theorem accept_answer (s : State) (q : Req) (w : Work) (b : Bool) (n : Nat) :
    (s.accept q w b n).answer q = s.acceptedOrBusy q w b n id := by
  rw [accept_cases, State.acceptedOrBusy]
  split <;> simp [Reply.answer, refuse, State.acceptedAs]

/-- A command whose body accepts. -/
theorem command_accepted {s t : State} {src : Nat} {sp : CmdSpec} {q : Req} {tk : BitVec 32} (h : s.serves src sp = some q)
    {body : State → Req → Reply} (hb : body s q = { st := Code.ST_ACCEPTED, tk := tk, s := t }) :
    s.command src sp body = t.acceptedAs q tk := by
  rw [command_served h, hb]; rfl

end Sys2Proof.Machine
end

