-- ==== Sys2Proof/Laws/Memory.lean ====
section
/-! SUPPORT. Every operation on unit memory keeps its canonical form. -/

namespace Sys2Proof.Machine

@[simp] theorem postMemory_mem (s : State) (c : Status) (m a : Nat) (b : Bool) : (s.postMemory c m a b).mem = s.mem := by
  simp only [State.postMemory, State.post, State.postEvent, State.retain]; (repeat' split) <;> rfl

@[simp] theorem setMemSt_bytes (s : State) (m : Nat) (x : MemStatus) : (s.setMemSt m x).mem.bytes = s.mem.bytes := rfl

@[simp] theorem modMemSt_bytes (s : State) (m : Nat) (f : MemStatus → MemStatus) : (s.modMemSt m f).mem.bytes = s.mem.bytes := rfl

@[simp] theorem noteCe_bytes (s : State) (m a : Nat) : (s.noteCe m a).mem.bytes = s.mem.bytes := rfl

@[simp] theorem notePoison_bytes (s : State) (m a : Nat) (b : Bool) : (s.notePoison m a b).mem.bytes = s.mem.bytes := by
  simp [State.notePoison, State.modMemSt]

/-- A read changes no byte. -/
@[simp] theorem readWord_bytes (s : State) (w : Nat) : (s.readWord w).2.2.mem.bytes = s.mem.bytes := by
  simp only [State.readWord]; (repeat' split) <;> simp

@[simp] theorem readWords_bytes (n : Nat) (s : State) (w : Nat) : (s.readWords w n).2.2.mem.bytes = s.mem.bytes := by
  induction n generalizing s w with
  | zero => rfl
  | succ n ih => simp only [State.readWords]; rw [ih]; simp

@[simp] theorem memRead_bytes (s : State) (a n : Nat) : (s.memRead a n).2.2.mem.bytes = s.mem.bytes := by
  simp [State.memRead]

theorem storeWord_wf (m : MemState) (w : Nat) (bs : List Byte) (c : Option WordCheck) (h : Memory.wf m.bytes = true) :
    Memory.wf (m.storeWord w bs c).bytes = true := by
  simp only [MemState.storeWord, Memory.wf]; exact tabWf_tfill _ _ _ _ h

theorem mergeWord_wf (s : State) (w : Nat) (f : List Byte → List Byte) (h : Memory.wf s.mem.bytes = true) :
    Memory.wf (s.mergeWord w f).mem.bytes = true := by
  simp only [State.mergeWord]; (repeat' split) <;> (try simp only [postMemory_mem]) <;> apply storeWord_wf <;> simpa using h

theorem writeWord_wf (s : State) (w : Nat) (bs : List (Option Byte)) (h : Memory.wf s.mem.bytes = true) :
    Memory.wf (s.writeWord w bs).mem.bytes = true := by
  simp only [State.writeWord]
  split
  · exact storeWord_wf _ _ _ _ h
  · split
    · exact h
    · exact mergeWord_wf _ _ _ h

theorem writeWords_wf (n : Nat) (s : State) (w : Nat) (bs : List (Option Byte)) (h : Memory.wf s.mem.bytes = true) :
    Memory.wf (s.writeWords w bs n).mem.bytes = true := by
  induction n generalizing s w bs with
  | zero => exact h
  | succ n ih => exact ih _ _ _ (writeWord_wf _ _ _ h)

theorem fillRegion_wf (m : MemState) (r : Nat) (h : Memory.wf m.bytes = true) : Memory.wf (m.fillRegion r).bytes = true :=
  tabWf_filter _ _ _ h

theorem clearRange_wf (m : MemState) (lo hi : Nat) (h : Memory.wf m.bytes = true) : Memory.wf (m.clearRange lo hi).bytes = true :=
  tabWf_filter _ _ _ h

theorem ensureRegion_wf (s : State) (a : Nat) (h : Memory.wf s.mem.bytes = true) :
    Memory.wf (s.ensureRegion a).mem.bytes = true := by
  simp only [State.ensureRegion]
  split
  · exact fillRegion_wf _ _ h
  · exact h

theorem ensureRegions_wf (n : Nat) (s : State) (r : Nat) (h : Memory.wf s.mem.bytes = true) :
    Memory.wf (s.ensureRegions r n).mem.bytes = true := by
  induction n generalizing s r with
  | zero => exact h
  | succ n ih => exact ih _ _ (ensureRegion_wf _ _ h)

/-- A write of enabled bytes keeps the form. -/
theorem memWriteBE_wf (s : State) (a : Nat) (bs : List (Option Byte)) (h : Memory.wf s.mem.bytes = true) :
    Memory.wf (s.memWriteBE a bs).mem.bytes = true := by
  simp only [State.memWriteBE]
  apply writeWords_wf
  split
  · exact ensureRegions_wf _ _ _ h
  · exact h

theorem memWrite_wf (s : State) (a : Nat) (bs : List Byte) (h : Memory.wf s.mem.bytes = true) :
    Memory.wf (s.memWrite a bs).mem.bytes = true := memWriteBE_wf _ _ _ h

theorem writeBitAt_wf (s : State) (w i : Nat) (v : Bool) (h : Memory.wf s.mem.bytes = true) :
    Memory.wf (s.writeBitAt w i v).mem.bytes = true := mergeWord_wf _ _ _ h

/-- An atomic keeps the form. -/
theorem atomic_wf (s : State) (op : AtomicOp) (a : Nat) (pay : BitVec 512) (be : BitVec 64) (h : Memory.wf s.mem.bytes = true) :
    Memory.wf (s.atomic op a pay be).2.2.mem.bytes = true := by
  simp only [State.atomic]
  split
  · exact h
  · split
    · simpa using h
    · exact memWriteBE_wf _ _ _ (by simpa using h)

/-- Clearing a memory keeps the form. -/
theorem clearMemory_wf (s : State) (m : Nat) (h : Memory.wf s.mem.bytes = true) : Memory.wf (s.clearMemory m).mem.bytes = true := by
  simp only [State.clearMemory]
  split
  · exact clearRange_wf _ _ _ h
  · exact clearRange_wf _ _ _ h
  · exact tabWf_filter _ _ _ h
  · exact h

theorem clearLine_wf (s : State) (m i : Nat) (h : Memory.wf s.mem.bytes = true) : Memory.wf (s.clearLine m i).mem.bytes = true :=
  clearRange_wf _ _ _ h

/-! ### Read after write -/

/-- A word stored is the word read, and every other word keeps its bytes. -/
theorem storeWord_getByte (m : MemState) (w : Nat) (bs : List Byte) (c : Option WordCheck) (hb : bs.length = 8) (a : Nat) :
    (m.storeWord w bs c).getByte a = if a / 8 = w then bs.getD (a % 8) 0 else m.getByte a := by
  have hl : (bytesAt bs 0 8).length = 8 := by simp [bytesAt, hb]
  simp only [MemState.storeWord, MemState.getByte, tget_tfill]
  by_cases h : 8 * w ≤ a
  · by_cases h2 : a / 8 = w
    · have e : a - 8 * w = a % 8 := by omega
      have e3 : a % 8 < bs.length := by omega
      have e2 : (bytesAt bs 0 8)[a % 8]? = some (bs[a % 8]'e3) := by
        simp only [bytesAt, List.drop_zero]; rw [List.getElem?_append_left (by simp; omega), List.getElem?_take_of_lt (by omega)]; simp
      simp [h, h2, e, e2, List.getD, e3]
    · have : (bytesAt bs 0 8)[a - 8 * w]? = none := by rw [List.getElem?_eq_none]; omega
      simp [h, h2, this]
  · have : ¬ a / 8 = w := by omega
    simp [h, this]

end Sys2Proof.Machine
end

