-- ==== Sys2Proof/Laws/Sash.lean ====
section
/-! SUPPORT. What the shared step of a pane and of a word cell does when nothing is against it. -/

namespace Sys2Proof.Machine

/-! ### Bits -/

theorem getBit_eq {w : Nat} (x : BitVec w) (i : Nat) : getBit x i = x.getLsbD i := by
  simp [getBit, BitVec.getLsbD]

/-! ### Panes -/

/-- Operands with nothing against them are used without effect. -/
theorem useOperands_clean (s : State) (c : PaneAt) (fs : List Nat)
    (h : ∀ f ∈ fs, (s.sash c.sash).operandBad c.pane f = false ∧
      ((s.site c.site).img.scoreboard && (s.sash c.sash).operandEarly c.pane f) = false) : s.useOperands c fs = s := by
  unfold State.useOperands
  induction fs with
  | nil => rfl
  | cons f fs ih =>
    have hf := h f (by simp)
    have hu : s.useOperand c f = s := by simp [State.useOperand, hf.1, hf.2]
    simp only [List.foldl_cons, hu]
    exact ih fun g hg => h g (by simp [hg])

/-- A pane row acts on exactly what its pane executes. -/
theorem pane_clear {s : State} {i p op : Nat} {c : PaneAt} (h : s.paneClear i p op = some c)
    (act : State → PaneAt → State) : s.pane i p op act = act (s.paneReady i p) c := by
  unfold State.paneClear at h
  simp only at h
  split at h
  · cases h
  · rename_i n hn
    split at h
    · rename_i hc
      simp only [Bool.and_eq_true, Bool.or_eq_true, Bool.not_eq_true'] at hc
      obtain ⟨⟨h1, h2⟩, h3⟩ := hc
      simp only [Option.some.injEq] at h
      subst h
      simp only [State.pane, hn, h1, if_true, h2, Bool.false_eq_true, if_false, State.checkOnce, State.paneReady]
      by_cases hk : getBit (s.sash i).checked p = true
      · simp [hk]
      · obtain ⟨h4, h5⟩ := h3.resolve_left hk
        have h4 : (s.sash i).wordErr p (s.sash i).k = 0#2 := by simpa using h4
        have hf : s.fetchCheck
            { sash := i, pane := p, k := (s.sash i).k, w := (s.sash i).fetch p (s.sash i).k, site := n.val } = (true, s) := by
          simp [State.fetchCheck, h4]
        simp only [hk, if_false, hf, Bool.false_eq_true]
        rw [useOperands_clean]
        intro f hf
        have := List.any_eq_false.mp h5 f hf
        simp_all [State.modSash, Sash.operandBad, Sash.operandEarly]
    · cases h

/-- What a pane executes: its sash, its number, the sash's step and the word fetched there. -/
theorem paneClear_at {s : State} {i p op : Nat} {c : PaneAt} (h : s.paneClear i p op = some c) :
    c.sash = i ∧ c.pane = p ∧ c.k = (s.sash i).k ∧ c.w = (s.sash i).fetch p (s.sash i).k ∧
      (s.sash i).cfg.site.map (·.val) = some c.site := by
  unfold State.paneClear at h
  simp only at h
  split at h
  · cases h
  · rename_i n hn
    split at h
    · cases h; simp [hn]
    · cases h

/-! ### Word cells -/

@[simp] theorem Sash.cell_setCell (x : Sash) (c d : Nat) (v : WordCell) : (x.setCell c v).cell d = if d = c then v else x.cell d := by
  simp [Sash.cell, Sash.setCell]

/-- The sash with a cell's step taken: executed, PC on the next entry (R73, R74). -/
def Sash.cellStep (x : Sash) (c : Nat) : Sash :=
  x.setCell c
    { x.cell c with
      done := true
      pc := BitVec.ofNat 3 (((x.cell c).pc.toNat + 1) % (x.cell c).len.toNat)
      wrote := 0
      drove := 0 }

/-- A word-cell row acts on exactly what its cell executes. -/
theorem wcell_clear {s : State} {i c op : Nat} {a : CellAt} (h : s.cellClear i c op = some a) (act : State → CellAt → State) :
    s.wcell i c op act = act (s.setSash i ((s.sash i).cellStep c)) a := by
  unfold State.cellClear at h
  simp only at h
  split at h
  · cases h
  · rename_i n hn
    split at h
    · rename_i hc
      simp only [Option.some.injEq] at h
      subst h
      simp only [Bool.and_eq_true, Bool.not_eq_true'] at hc
      obtain ⟨⟨⟨⟨⟨⟨h1, h2⟩, h3⟩, h4⟩, h5⟩, h6⟩, h7⟩ := hc
      simp only [State.wcell, hn, h1, h2, h3, h4, h5, h6, h7, Bool.not_false, Bool.and_self, if_true, Bool.false_eq_true, if_false]
      rfl
    · cases h

/-- What a cell executes. -/
theorem cellClear_at {s : State} {i c op : Nat} {a : CellAt} (h : s.cellClear i c op = some a) :
    a.sash = i ∧ a.cell = c ∧ a.w = ((s.sash i).cell c).entry := by
  unfold State.cellClear at h
  simp only at h
  split at h
  · cases h
  · split at h
    · cases h; simp
    · cases h

@[simp] theorem pendFault_sash (s : State) (n j : Nat) (p : PendFault) : (s.pendFault n p).sash j = s.sash j := rfl

@[simp] theorem pendSash_sash (s : State) (i j : Nat) (c : Status) (p d : Nat) : (s.pendSash i c p d).sash j = s.sash j := by
  unfold State.pendSash; split <;> rfl

/-- A sash replaced by one with the same cells keeps every cell. -/
theorem setSash_cells {s : State} {i : Nat} {x : Sash} (h : x.cells = (s.sash i).cells) (j c : Nat) :
    ((s.setSash i x).sash j).cell c = (s.sash j).cell c := by
  by_cases hj : j = i
  · subst hj; simp [Sash.cell, h]
  · simp [hj]

/-- A cell that executes has LEN 1 to 8. -/
theorem cellClear_len {s : State} {i c op : Nat} {a : CellAt} (h : s.cellClear i c op = some a) :
   1 ≤ ((s.sash i).cell c).len.toNat ∧ ((s.sash i).cell c).len.toNat ≤ 8 := by
  unfold State.cellClear at h
  simp only at h
  split at h
  · cases h
  · split at h
    · rename_i hc; simp [WordCell.live] at hc; omega
    · cases h

/-- A pending fault changes no memory and no lane. -/
theorem pendSash_mem_lanes (s : State) (i : Nat) (st : Status) (p d : Nat) : (s.pendSash i st p d).mem = s.mem ∧ (s.pendSash i st p d).lanes = s.lanes := by
  unfold State.pendSash; split <;> exact ⟨rfl, rfl⟩

/-- Driving a wire changes no memory and no lane. -/
theorem driveWire_mem_lanes (s : State) (i n d : Nat) (v : Word) : (s.driveWire i n d v).mem = s.mem ∧ (s.driveWire i n d v).lanes = s.lanes := by
  unfold State.driveWire; simp only
  generalize (if d = 64 then getBit (tget 0 (s.sash i).wen n) 64 else getBit (tget 0 (s.sash i).wen n) d) = en
  split
  · exact ⟨rfl, rfl⟩
  split
  · exact pendSash_mem_lanes _ _ _ _ _
  · exact ⟨rfl, rfl⟩

/-- Driving a wire changes no cell and no bit of a pane. -/
theorem driveWire_sash (s : State) (i n d : Nat) (v : Word) (j : Nat) : ((s.driveWire i n d v).sash j).cells = (s.sash j).cells ∧ ((s.driveWire i n d v).sash j).net = (s.sash j).net ∧ ((s.driveWire i n d v).sash j).st = (s.sash j).st := by
  have h : ∀ x : Sash, (x.cells = (s.sash i).cells ∧ x.net = (s.sash i).net ∧ x.st = (s.sash i).st) → (((s.setSash i x).sash j).cells = (s.sash j).cells ∧ ((s.setSash i x).sash j).net = (s.sash j).net ∧ ((s.setSash i x).sash j).st = (s.sash j).st) := by
    intro x hx; by_cases hj : j = i <;> simp [hj, hx]
  unfold State.driveWire; simp only
  generalize (if d = 64 then getBit (tget 0 (s.sash i).wen n) 64 else getBit (tget 0 (s.sash i).wen n) d) = en
  split
  · simp
  split
  · simp only [pendSash_sash]; exact h _ ⟨rfl, rfl, rfl⟩
  · exact h _ ⟨rfl, rfl, rfl⟩

/-- A row with a result and flags runs as its operation and its flag function say. -/
theorem wcellAlu_ran {s : State} {i c op : Nat} {a : CellAt} (h : s.cellClear i c op = some a) (f : Word → Word → Word) (fl : Word → Word → WordCell → WordCell)
   (z n cy : Bool) (hfl : ∀ v : WordCell, v.z = ((s.sash i).cell c).z → v.n = ((s.sash i).cell c).n → v.c = ((s.sash i).cell c).c → fl a.a a.b v = { v with z := z, n := n, c := cy }) :
   s.cellRan (s.wcellAlu i c op f fl) i c a (some (f a.a a.b)) z n cy := by
  unfold State.wcellAlu
  rw [wcell_clear h]
  obtain ⟨h1, h2, h3⟩ := cellClear_at h
  have hl := cellClear_len h
  unfold State.cellResult
  simp only [State.modCell, State.modSash, h1, h2]
  have hv := hfl ((s.sash i).cellStep c |>.cell c) (by simp [Sash.cellStep]) (by simp [Sash.cellStep]) (by simp [Sash.cellStep])
  simp only [State.sash_setSash, if_true]
  rw [hv]
  set t0 := (s.setSash i ((s.sash i).cellStep c)).setSash i _ with ht0
  have key : ∀ t : State, (∀ j, (t.sash j).cells = (t0.sash j).cells ∧ (t.sash j).net = (t0.sash j).net ∧ (t.sash j).st = (t0.sash j).st) → t.mem = t0.mem → t.lanes = t0.lanes → s.cellRan t i c a (some (f a.a a.b)) z n cy := by
    intro t hc hm hlan
    have hcell : ∀ j d, (t.sash j).cell d = (t0.sash j).cell d := by intro j d; simp [Sash.cell, (hc j).1]
    have hself : (t0.sash i).cell c = { ((s.sash i).cellStep c |>.cell c) with z := z, n := n, c := cy, regs := tset 0 ((s.sash i).cellStep c |>.cell c).regs (wRD a.w) (f a.a a.b), wrote := putBit ((s.sash i).cellStep c |>.cell c).wrote (wRD a.w) true, drove := if wDV a.w then putBit ((s.sash i).cellStep c |>.cell c).drove (wWS a.w) true else ((s.sash i).cellStep c |>.cell c).drove } := by
      simp [ht0, State.sash_setSash, Sash.cell_setCell]
    have hst : ((s.sash i).cellStep c).cell c = { (s.sash i).cell c with done := true, pc := BitVec.ofNat 3 ((((s.sash i).cell c).pc.toNat + 1) % ((s.sash i).cell c).len.toNat), wrote := 0, drove := 0 } := by
      simp [Sash.cellStep, Sash.cell_setCell]
    unfold State.cellRan
    simp only [hcell, hself]
    simp only [hst]
    refine ⟨trivial, ?_, ?_, trivial, trivial, trivial, trivial, trivial, trivial, ?_, ?_, ?_, ?_⟩
    · simp
      have := Nat.mod_lt (((s.sash i).cell c).pc.toNat + 1) (show 0 < ((s.sash i).cell c).len.toNat by omega)
      omega
    · intro k; simp [WordCell.reg]
    · intro j d hjd
      by_cases hj : j = i
      · subst hj; have hd : d ≠ c := by tauto
        simp [ht0, Sash.cellStep, Sash.cell_setCell, hd]
      · simp [ht0, hj]
    · intro j; rw [(hc j).2.1, (hc j).2.2]
      by_cases hj : j = i
      · subst hj; simp [ht0, Sash.cellStep, Sash.setCell]
      · simp [ht0, hj]
    · rw [hm]; rfl
    · rw [hlan]; rfl
  split
  · apply key
    · intro j; exact driveWire_sash _ _ _ _ _ j
    · exact (driveWire_mem_lanes _ _ _ _ _).1
    · exact (driveWire_mem_lanes _ _ _ _ _).2
  · exact key _ (fun _ => ⟨rfl, rfl, rfl⟩) rfl rfl

end Sys2Proof.Machine
end

