-- ==== Sys2Proof/WellFormed.lean ====
section
/-! DEFINITION. Which command terms are well formed: what the operand types cannot say. -/

namespace Sys2Proof

/-- A received chain frame carries LEN payload blocks of 8 bytes, at most 16 (R383, R384). -/
def frameOk (f : ChainFrame) : Bool := decide (f.payload.length ≤ 128) && decide (f.payload.length % 8 = 0)

/-- The operand ranges of a command. -/
def wellFormed : Instr → Bool
  | .bar2Read _ n => decide (1 ≤ n)
  | .bar2Write _ d => decide (1 ≤ d.length)
  | .dspRep _ _ n => decide (1 ≤ n ∧ n ≤ 65536)
  | .dspSignal _ _ t m => decide (t < 4096) && decide (m.toNat < 2 ^ 28)
  | .dspEnq _ _ t _ => decide (t < 4096)
  | .dspEnqn _ _ t _ => decide (t < 4096)
  | .dspSleep _ _ n => decide (1 ≤ n ∧ n < 2 ^ 24)
  | .jobPreempt _ _ t => decide (t < 4096)
  | .enumFrame f => frameOk f
  | .mbxFrame f => frameOk f
  | .mbxAckFrame f => frameOk f
  | .timeFrame f _ => frameOk f
  | .chainStart f => frameOk f
  | .chainStop f => frameOk f
  | .chainTrigger f => frameOk f
  | .siteRollback f => frameOk f
  | .linkHinge f => frameOk f
  | .hopdlyRequest f _ => frameOk f
  | .hopdlyResponse f _ => frameOk f
  | .breakFrame f => frameOk f
  | .gatewayDatagram _ f => frameOk f
  | .identity _ | .bootLoad _ | .ticket _ | .cancel _ | .descriptor _ | .inventory _ | .keyslotInstall _ | .keyslotRevoke _ => true
  | .keyslotRead _ | .keyslotSignedOnly _ | .louvre _ | .load _ | .unload _ | .rewind _ | .transom _ | .siteStatus _ => true
  | .siteReset _ | .arm _ | .disarm _ | .start _ | .startAt _ | .stop _ | .policy _ | .watchdog _ => true
  | .raStatus _ | .calibrate _ | .mask _ | .maskSwap _ | .pinfield _ | .pinStatus _ | .failClear _ | .failSummary _ => true
  | .failReadout _ | .repair _ | .filter _ | .filterSwap _ | .trigfield _ | .trigforce _ | .rearm _ | .trigStatus _ => true
  | .trigReadout _ | .jobLoad _ | .jobUnload _ | .submit _ | .jobStop _ | .signal _ | .item _ | .evmapMap _ => true
  | .evmapUnmap _ | .ccw _ | .contextGeometry _ | .contextScale _ | .contextThreshold _ | .contextBitTable _ | .linkCfg _ | .streamOpen _ => true
  | .streamClose _ | .firCoefficients _ | .firBankSelect _ | .rampUpTable _ | .rampDownTable _ | .maskMonitorCfg _ | .hypothesisCfg _ | .capturePolicy _ => true
  | .gain _ | .train _ | .memcfg _ | .sweep _ | .invalidate _ | .remap _ | .remapFree _ | .mempolicy _ => true
  | .memstatus _ | .copy _ | .laneMode _ | .laneCtl _ | .deskew _ | .refspread _ | .margin _ | .laneIdleEnter _ => true
  | .laneIdleExit _ | .bitslip _ | .phyStatus _ | .enumerate _ | .stickySet _ | .stickyClear _ | .gatewayOwnAddress _ | .gatewayAddPeers _ => true
  | .gatewayClear _ | .tctl _ | .timeSet _ | .timeUnlock _ | .rate _ | .timed _ | .timedClear _ | .ptp _ => true
  | .chainStatus _ | .enumMap _ | .domainSet _ | .domainUnlock _ | .domainLockOff _ | .domainHoldOn _ | .domainHoldRelease _ | .powerPolicy _ => true
  | .powerStatus _ | .thermalRead _ | .thermalSetAlarm _ | .sashStatus _ | .wcellStatus _ | .keyholeSel _ | .keyholeLaneTake _ | .keyholeLaneRelease _ => true
  | .peek _ | .mbxDoorbell _ _ | .mbxChannelReset _ | .hifIrqStatusClear _ | .hifIrqMaskWrite _ | .hifWinBaseWrite _ | .hifEvqCtlWrite _ | .hifEvqConsWrite _ => true
  | .bar0BadAccess _ _ _ | .registerWrite _ _ _ | .commitGroupCommit _ | .commitGroupDiscard _ | .bar2Timeout _ | .eventPost | .ticketExpiry _ | .paneNop _ _ => true
  | .lut4 _ _ | .lut3s _ _ | .send _ _ | .recv _ _ | .memrd _ _ | .memwr _ _ | .pinout _ _ | .pinin _ _ => true
  | .paneCmpPin _ _ | .paneCmpModelCheck _ _ | .wput _ _ | .wget _ _ | .probe _ _ | .memrdLanding _ _ | .wcNop _ _ | .wcAdd _ _ => true
  | .wcSub _ _ | .wcAnd _ _ | .wcOr _ _ | .wcXor _ _ | .wcAndn _ _ | .wcShl _ _ | .wcShr _ _ | .wcSar _ _ => true
  | .wcRol _ _ | .wcMulu _ _ | .wcMuls _ _ | .mulProductLand _ _ | .wcCmp _ _ | .wcMov _ _ | .wcBrev _ _ | .wcScr _ _ => true
  | .wcPopc _ _ | .wcClz _ _ | .wcIn _ _ | .wcOut _ _ | .wcMal _ _ | .hinge _ | .hingeRelease _ | .transomCommit _ => true
  | .patchRetire _ _ _ | .bundleLaunch _ _ | .flitHop _ _ | .bundleEject _ | .bundleWatchdogExpiry _ _ | .wormInject _ | .ringRetry _ _ _ | .ringRead _ => true
  | .ringWrite _ | .ringAdd32 _ | .ringAdd64 _ | .ringSwap _ | .ringOr _ | .ringRespData _ | .ringRespAck _ | .ringRespErr _ => true
  | .ringCtrl _ | .stopDrainDone _ | .stopDrainTimeout _ | .stopReconfigRetry _ | .bundleFrame _ _ _ | .hingeArrive _ _ _ _ | .hingeArriveFault _ _ _ _ | .hingeReleaseContinue _ _ _ _ => true
  | .hingeReleaseHalt _ _ _ _ | .hingeReleaseFault _ _ _ _ | .codeOrigin _ | .frameAssembly _ | .rxDataFrame _ _ _ | .rxIdleFrame _ _ _ | .rxLoopbackFrame _ _ _ | .rxFrameTimeout _ => true
  | .directRxWord _ _ | .failBufferWrite _ | .failChunkSend _ | .failFlushTimeout _ | .failClose _ | .cycleCommit _ | .divergenceDecided _ | .rollback _ => true
  | .deltaWrite _ | .trigRecordStore _ | .trigSpillChunk _ | .toutPulseEnd _ _ | .postSlotsExpiry _ | .dspVld _ _ _ _ _ | .dspVst _ _ _ _ _ | .dspSld _ _ _ _ _ => true
  | .dspSst _ _ _ _ _ | .dspMul _ _ _ _ | .dspMac _ _ _ _ | .dspMsu _ _ _ _ | .dspCmac _ _ _ _ | .dspNarrow _ _ _ _ | .dspVectorAlu _ _ _ _ _ _ | .dspScalarAlu _ _ _ _ _ _ => true
  | .dspSetAddress _ _ _ _ _ | .dspBranch _ _ _ _ | .dspTime _ _ _ | .dspWait _ _ _ _ _ | .dspDeq _ _ | .dspSubmit _ _ _ | .dspDone _ _ | .dspXfer _ _ _ => true
  | .dspAccel _ _ _ | .tickBoundary _ | .budgetStop _ _ | .accelFft _ | .accelEncode _ | .accelDecode _ | .accelModulate _ | .accelDemap _ => true
  | .accelNmeas _ | .accelRebuild _ | .accelSwap _ | .accelBurst _ | .accelPsrel _ | .accelGain _ | .accelComplete _ _ | .xferComplete _ => true
  | .sysrefEdge _ | .streamRxMultiblock _ _ _ | .streamRxBlock _ | .streamTxFetch _ _ | .streamLockLoss _ | .maskMonitorAverage _ _ | .packetDetect _ _ _ _ | .captureTruncate _ _ => true
  | .gainWordSend _ | .regionFillDone _ | .autoRemap _ _ | .scrubLine _ _ | .scrubLapEnd _ | .blockLockAcquired _ | .blockLockLoss _ | .farEndIdle _ => true
  | .idleExitBurstDone _ _ | .linkIdleEntry _ | .linkIdleExit _ | .eyeSweepDone _ _ _ | .keyholeFrame | .enumTimeout | .mbxRetransmit _ | .timeSyncSend => true
  | .syncLossTimeout | .hopdlyMeasure _ | .portBreak _ | .breakIdleEnd _ | .portHeal _ | .gatewayCheck _ | .gatewayPeerTimeout _ | .ptpSync _ _ => true
  | .ptpAnnounce _ | .ptpDelayResp _ | .startAtFire _ | .timedOccurrence _ | .timedPulseEnd _ | .idlePolicyTimeout _ | .shutterClosing _ | .shutterDrainDone _ => true
  | .shutterDrainTimeout _ | .domainWake _ | .wakeTimeout _ | .vreqAck _ | .vreqTimeout _ | .thermalSample _ | .thermTrip | .pmbAlert => true
  | .powerOnReset _ | .bootAuthDone _ | .aonPllLock | .systemPllLock | .sysRstN | .perstN | .vddUndervoltage | .pllLoss _ => true
  | .pllRestore _ | .tapReset | .jtagExtest _ | .jtagIdcode _ | .jtagSamplePreload _ | .jtagClamp _ | .jtagHighz _ | .jtagExtestPulse _ => true
  | .jtagExtestTrain _ | .jtagBypass _ | .longCommandSlice _ | .dmaHostCompletion _ _ | .extendedMultiblockLockReturn _ | .cdrLockAcquired _ | .cdrLockLoss _ | .quadPllLock _ => true
  | .lapCounterSample _ | .sysRstNRelease _ | .perstNRelease | .pcieConfigAccess _ _ | .arpRequest _ => true

end Sys2Proof
end

