-- ==== Sys2Proof/Tests/Slice0.lean ====
section
/-! SUPPORT. The model's own tests: worked examples of the spec, the smoke test of the well-formedness checks, and for every statement a
witness that its hypotheses can be met. -/

namespace Sys2Proof.Machine

set_option Elab.async false

/-! ### Check values of the spec -/

/-- The check value R133 gives. -/
theorem test_crc32c : crc32c [0x31, 0x32, 0x33, 0x34, 0x35, 0x36, 0x37, 0x38, 0x39] = 0xE3069283 := by decide +kernel
/-- The check value R383 gives. -/
theorem test_crc32 : crc32 [0x31, 0x32, 0x33, 0x34, 0x35, 0x36, 0x37, 0x38, 0x39] = 0xCBF43926 := by decide +kernel

/-! ### An ill-formed term for each check of WellFormed -/

theorem test_wf_window_accesses : wellFormed (.bar2Read 0 0) = false ∧ wellFormed (.bar2Read 0 1) = true ∧
    wellFormed (.bar2Write 0 []) = false ∧ wellFormed (.bar2Write 0 [0]) = true := by decide
theorem test_wf_rep : wellFormed (.dspRep 0 0 0) = false ∧ wellFormed (.dspRep 0 0 65537) = false ∧
    wellFormed (.dspRep 0 0 65536) = true := by decide
theorem test_wf_sleep : wellFormed (.dspSleep 0 0 0) = false ∧ wellFormed (.dspSleep 0 0 (2 ^ 24)) = false ∧
    wellFormed (.dspSleep 0 0 (2 ^ 24 - 1)) = true := by decide
theorem test_wf_signal : wellFormed (.dspSignal 0 0 4096 0) = false ∧ wellFormed (.dspSignal 0 0 4095 0x10000000) = false ∧
    wellFormed (.dspSignal 0 0 4095 0x0FFFFFFF) = true := by decide
theorem test_wf_task : wellFormed (.dspEnq 0 0 4096 0) = false ∧ wellFormed (.dspEnqn 0 0 4096 0) = false ∧
    wellFormed (.jobPreempt 0 0 4096) = false ∧ wellFormed (.jobPreempt 0 0 4095) = true := by decide
/-- A payload is whole blocks of 8 bytes, at most 16 of them (R383, R384). -/
theorem test_wf_frame_payload : frameOk ⟨0, [0], 0, true⟩ = false ∧ frameOk ⟨0, List.replicate 136 0, 0, true⟩ = false ∧
    frameOk ⟨0, List.replicate 128 0, 0, true⟩ = true := by decide +kernel
theorem test_wf_enum_frame : wellFormed (.enumFrame ⟨0, [0], 0, true⟩) = false := by decide
theorem test_wf_mbx_frame : wellFormed (.mbxFrame ⟨0, [0], 0, true⟩) = false := by decide
theorem test_wf_mbx_ack_frame : wellFormed (.mbxAckFrame ⟨0, [0], 0, true⟩) = false := by decide
theorem test_wf_time_frame : wellFormed (.timeFrame ⟨0, [0], 0, true⟩ 0) = false := by decide
theorem test_wf_chain_start : wellFormed (.chainStart ⟨0, [0], 0, true⟩) = false := by decide
theorem test_wf_chain_stop : wellFormed (.chainStop ⟨0, [0], 0, true⟩) = false := by decide
theorem test_wf_chain_trigger : wellFormed (.chainTrigger ⟨0, [0], 0, true⟩) = false := by decide
theorem test_wf_site_rollback : wellFormed (.siteRollback ⟨0, [0], 0, true⟩) = false := by decide
theorem test_wf_link_hinge : wellFormed (.linkHinge ⟨0, [0], 0, true⟩) = false := by decide
theorem test_wf_hopdly_request : wellFormed (.hopdlyRequest ⟨0, [0], 0, true⟩ 0) = false := by decide
theorem test_wf_hopdly_response : wellFormed (.hopdlyResponse ⟨0, [0], 0, true⟩ 0) = false := by decide
theorem test_wf_break_frame : wellFormed (.breakFrame ⟨0, [0], 0, true⟩) = false := by decide
theorem test_wf_gateway_datagram : wellFormed (.gatewayDatagram 0 ⟨0, [0], 0, true⟩) = false := by decide

/-! ### Witnesses, one group per part of Certificates/Slice0/Obligations.lean -/

/-- Firmware runs and the record of a command waits in channel 0, for this unit: opcode, payload. -/
def tCmd (s : State) (op : Nat) (pay : List Byte) : State :=
  ({ s with host := { s.host with bootState := 3, fwReady := true } } : State).setChan 0
    { state := .busy, copy := leBytes op 2 ++ leBytes 7 2 ++ leBytes s.chain.ua.toNat 4 ++ leBytes pay.length 2 ++ leBytes 1 2 ++
        leBytes 0 4 ++ pay }

/-- The row `sp` serves the command in channel 0, and `p` holds of the request. -/
def tServes (s : State) (sp : CmdSpec) (p : Req → Bool) : Bool := (s.serves 0 sp).any p


/-- Firmware runs and a message of another unit's own waits in slot 16: opcode, payload. -/
def tOwn (s : State) (op : Nat) (pay : List Byte) : State :=
  let rec_ : List Byte := leBytes op 2 ++ leBytes 0 2 ++ leBytes 0 4 ++ leBytes pay.length 2 ++ leBytes 0 2 ++ leBytes ownMessage 4 ++ pay
  { s with
    host := { s.host with bootState := 3, fwReady := true }
    chain := { s.chain with slots := [(16, some ⟨5, 0, rec_, true, false, none⟩)] } }

theorem test_step_premises :
    ({ State.reset with pending := [.wcNop 0 0] } : State).pending = .wcNop 0 0 :: [] ∧ State.reset.pending = [] := ⟨rfl, rfl⟩

/-- A step of a state with a command in front answers a next state. -/
theorem test_step_next : goesOn (step { State.reset with pending := [.wcNop 0 0] }) := ⟨_, rfl⟩

theorem test_memory_form : Memory.wf State.reset.mem.bytes = true ∧ Memory.wf [(3, 1), (9, 255)] = true ∧
    Memory.wf [(9, 255), (3, 1)] = false ∧ Memory.wf [(3, 0)] = false := by decide

/-- Pane 255 of sash 63, a member of RUNNING site 3, is about to execute the word `w` at step 0. -/
def tPane (w : DWord) : State :=
  (State.reset.setSash 63 { cfg := { site := some 3 }, phase := .step, istore := [(255 * 512, w)] }).setSite 3
    { state := .running, img := { sashes := [63], sched := 64 } }

/-- Instruction word: OP, TT, A, B, C and D. -/
def tWord (op tt a b c d : Nat) : DWord :=
  BitVec.ofNat 64 (op * 2 ^ 60 + tt * 2 ^ 44 + a * 2 ^ 33 + b * 2 ^ 22 + c * 2 ^ 11 + d)

theorem test_pane_premises : (63 : Nat) < 512 ∧ (255 : Nat) < 256 ∧
    ((tPane (tWord 1 0x8000 1 2 3 511)).paneClear 63 255 1).isSome = true ∧
    ((tPane (tWord 2 0x80 1 2 3 511)).paneClear 63 255 2).isSome = true ∧
    ((tPane (tWord 0xC 31 1 0 0 0)).paneClear 63 255 0xC).isSome = true ∧
    ((tPane (tWord 3 63 1 511 0 0)).paneClear 63 255 3).isSome = true ∧
    ((tPane (tWord 0xA 0x7FF 1 0 0 0)).paneClear 63 255 0xA).isSome = true ∧
    ((tPane (tWord 0xB 0x7FF 0 0 0 0)).paneClear 63 255 0xB).isSome = true ∧
    ((tPane (tWord 0 0 0 0 0 0)).paneClear 63 254 0).isSome = true := by
  decide +kernel

/-- A PROBE row that is not due, one whose operand's data is late, one whose word cannot be corrected, and one with a bit store error. -/
theorem test_pane_check_premises :
    (let x := (tPane (tWord 0xC 31 5 0 0 0)).sash 63
     x.cfg.site = some 3 ∧ x.paneDue 255 11 = false ∧ x.paneDue 255 12 = true ∧ pUsed (x.fetch 255 x.k) = [5]) ∧
    (let x := ((tPane (tWord 0xC 31 5 0 0 0)).modSash 63 fun x => { x with landings := [⟨255, 5, true, 0, 1⟩] }).sash 63
     x.paneDue 255 12 = true ∧ x.awaits 255 5 = true) ∧
    (let x := ((tPane (tWord 0xC 31 5 0 0 0)).modSash 63 fun x => { x with istoreErr := [(255 * 512, 2)] }).sash 63
     x.paneDue 255 12 = true ∧ x.awaits 255 5 = false ∧ getBit x.checked 255 = false ∧ x.wordErr 255 x.k = 2) ∧
    (let s := (tPane (tWord 0xC 31 5 0 0 0)).modSash 63 fun x => { x with bitErr := [(255 * 16, true)] }
     let x := s.sash 63
     x.paneDue 255 12 = true ∧ x.awaits 255 5 = false ∧ getBit x.checked 255 = false ∧ x.wordErr 255 x.k = 0 ∧
       x.operandBad 255 5 = true ∧ ((s.site 3).img.scoreboard && x.operandEarly 255 5) = false) := by
  decide +kernel

theorem test_pane_memory_premises :
    (let s := tPane (tWord 6 0 1 0 255 0)
     (s.paneClear 63 255 6).any (fun c => !(s.sash 63).outOfLines c.w) = true) ∧
    (let s := tPane (tWord 5 0 1 0 255 0)
     (s.paneClear 63 255 5).any (fun c => !(s.sash 63).outOfLines c.w) = true) ∧
    (let s := (tPane (tWord 5 0x8000 0 0 0 0)).modSash 63 fun x => { x with mal := [(0, 0x7FFF)] }
     (s.paneClear 63 255 5).any (fun c => (s.sash 63).outOfLines c.w) = true) ∧
    (let s := (tPane (tWord 6 0x8000 0 0 0 0)).modSash 63 fun x => { x with mal := [(0, 0x7FFF)] }
     (s.paneClear 63 255 6).any (fun c => (s.sash 63).outOfLines c.w) = true) ∧
    (let s := (tPane 0).modSash 63 fun x => { x with landings := [⟨255, 511, true, 0, 0⟩] }
     (s.sash 63).landings.find? (fun l => l.pane == 255 && l.due) = some ⟨255, 511, true, 0, 0⟩) ∧
    (let s := (tPane 0).modSash 63 fun x => { x with landings := [⟨255, 511, true, 0, 1⟩] }
     (s.sash 63).landings.find? (fun l => l.pane == 255 && l.due) = none) := by
  decide +kernel

theorem test_recv_premises :
    (let s := (tPane (tWord 4 63 0 511 0 0)).modSash 63 fun x => { x with inFlag := 1#128 <<< 126 }
     (s.paneClear 63 255 4).isSome = true ∧ getBit (s.sash 63).inFlag (bankOf 63 (s.site 3).cycle.toNat) = true) ∧
    (let s := (tPane (tWord 4 63 0 511 0 0)).modSash 63 fun x => { x with inUnsat := 1#128 <<< 126 }
     (s.paneClear 63 255 4).isSome = true ∧ getBit (s.sash 63).inUnsat (bankOf 63 (s.site 3).cycle.toNat) = true) ∧
    (let s := tPane (tWord 4 63 0 511 0 0)
     (s.paneClear 63 255 4).isSome = true ∧ getBit (s.sash 63).inFlag (bankOf 63 (s.site 3).cycle.toNat) = false ∧
       getBit (s.sash 63).inUnsat (bankOf 63 (s.site 3).cycle.toNat) = false) := by
  decide +kernel

/-- A pane of a site of depth 4 whose lane has sent the frames before `f`. -/
def tAhead (w : DWord) (f : Nat) : State :=
  ((tPane w).modSite 3 fun x => { x with img := { x.img with depth := 4 } }).modLane 63 fun l => { l with frame := f }

theorem test_pane_pin_premises :
    (let s := tPane (tWord 7 0 1 0 0 0)
     (s.paneClear 63 255 7).isSome = true ∧ (s.site 3).img.depth = 0) ∧
    (let s := tAhead (tWord 7 0 1 0 0 0) 0
     (s.paneClear 63 255 7).isSome = true ∧ (s.site 3).img.depth = 4 ∧ (s.lane 63).source0 = true ∧
       (s.lane 63).sent (s.site 3).c0 0 0 = false) ∧
    (let s := tAhead (tWord 7 0 1 0 0 0) 99
     (s.paneClear 63 255 7).isSome = true ∧ (s.lane 63).sent (s.site 3).c0 0 0 = true) ∧
    ((tPane (tWord 8 0 1 0 0 0)).paneClear 63 255 8).isSome = true := by
  decide +kernel

theorem test_pane_cmp_premises :
    ((tAhead (tWord 9 0 0 1 2 3) 0).paneClear 63 255 9).any (fun c => ttSel c.w == 0) = true ∧
    ((tPane (tWord 9 0x2000 0 1 2 3)).paneClear 63 255 9).any (fun c => ttSel c.w == 1) = true := by
  decide +kernel

/-- A ticket with nothing done yet. -/
def tTicket (w : Work) : Ticket :=
  ⟨0, w, false, none, 0, 0, 0, [], false, false, false, 0, [], none, 0⟩

theorem test_response_premises : (parseReq 3 0 []).src < 16 ∧ (State.reset.chan 3).resetPend = false ∧
    ((State.reset.setChan 3 { resetPend := true }).chan 3).resetPend = true := by decide

theorem test_system_commands_premises :
    tServes (tCmd .reset 0x0101 []) { op := 0x0101, need := 0 } (fun _ => true) = true ∧
    tServes ((tCmd .reset 0x0103 [1, 0, 0, 0]).setTicket 1 (some (tTicket (.unload 0))))
      { op := 0x0103, need := 4, cov := [(0, 4)] } (fun q => q.n 0 4 == 1) = true ∧
    ((tCmd .reset 0x0103 [1, 0, 0, 0]).setTicket 1 (some (tTicket (.unload 0)))).ticket 1 = some (tTicket (.unload 0)) ∧
    tServes ((tCmd .reset 0x0104 [1, 0, 0, 0]).setTicket 1 (some (tTicket (.unload 0))))
      { op := 0x0104, need := 4, cov := [(0, 4)] } (fun q => q.n 0 4 == 1) = true ∧
    tServes (tCmd .reset 0x0105 []) { op := 0x0105, need := 0 } (fun _ => true) = true ∧
    tServes (tCmd .reset 0x0106 [0, 0x30, 224]) { op := 0x0106, need := 3, cov := [(0, 3)] }
      (fun q => memIdOk (q.n 0 2) && q.n 2 1 == 224) = true ∧
    tServes (tCmd .reset 0x0108 [81, 2, 0, 0, 0, 0, 0, 1]) { op := 0x0108, need := 8, cov := [(0, 2), (4, 4)] }
      (fun q => q.n 0 1 == 81 && q.n 1 1 == 2 && bits (q.n 4 4) 25 6 == 0 && lvwBurst (BitVec.ofNat 32 (q.n 4 4)) == 256) = true ∧
    (let s := tCmd .reset 0x0102 [0, 0, 0, 0, 0, 0, 0, 0, 0, 0, 0x30, 0]
     tServes { s with host := { s.host with bootState := 1 } } { op := 0x0102, need := 12, cov := [(0, 12)] }
      (fun q => q.n 8 4 == 0x300000) = true ∧ s.host.ticketsFull = false) := by decide +kernel

theorem test_key_slots_premises :
    tServes (tCmd .reset 0x0107 ([3, 0, 0, 0] ++ List.replicate 97 1))
      { op := 0x0107, form := some (1, 0), need := 101, cov := [(0, 2), (4, 97)] } (fun q => q.n 0 1 == 3) = true ∧
    tServes (tCmd .reset 0x0107 [3, 1]) { op := 0x0107, form := some (1, 1), need := 2, cov := [(0, 2)] } (fun q => q.n 0 1 == 3) = true ∧
    tServes (tCmd .reset 0x0107 [3, 2]) { op := 0x0107, form := some (1, 2), need := 2, cov := [(0, 2)] } (fun q => q.n 0 1 == 3) = true ∧
    tServes (tCmd .reset 0x0107 [3, 3]) { op := 0x0107, form := some (1, 3), need := 2, cov := [(0, 2)] } (fun q => q.n 0 1 == 3) = true := by
  decide +kernel

/-- Refusals: a stop and a word of LOUVRE out of range, a LENGTH above 3 MiB, a full ticket table, a key slot above 3. -/
theorem test_system_refusal_premises :
    tServes (tCmd .reset 0x0108 [82, 1, 0, 0, 9, 0, 0, 0]) { op := 0x0108, need := 8, cov := [(0, 2), (4, 4)] }
      (fun q => decide (82 ≤ q.n 0 1)) = true ∧
    tServes (tCmd .reset 0x0108 [81, 1, 0, 0, 9, 0, 0, 2]) { op := 0x0108, need := 8, cov := [(0, 2), (4, 4)] }
      (fun q => bits (q.n 4 4) 25 6 != 0) = true ∧
    (let s := tCmd .reset 0x0102 [0, 0, 0, 0, 0, 0, 0, 0, 1, 0, 0x30, 0]
     tServes { s with host := { s.host with bootState := 4 } } { op := 0x0102, need := 12, cov := [(0, 12)] }
      (fun q => decide (0x300000 < q.n 8 4)) = true) ∧
    (let s := tCmd .reset 0x0102 [0, 0, 0, 0, 0, 0, 0, 0, 0, 0, 0x30, 0]
     let u : State := { s with host := { s.host with
       bootState := 1, tickets := (List.range 256).map fun i => (i + 2, some (tTicket (.unload 0))) } }
     tServes u { op := 0x0102, need := 12, cov := [(0, 12)] } (fun q => q.n 8 4 == 0x300000) = true ∧ u.host.ticketsFull = true) ∧
    tServes (tCmd .reset 0x0107 ([4, 0, 0, 0] ++ List.replicate 97 1))
      { op := 0x0107, form := some (1, 0), need := 101, cov := [(0, 2), (4, 97)] } (fun q => q.n 0 1 == 4) = true ∧
    tServes (tCmd .reset 0x0107 [4, 1]) { op := 0x0107, form := some (1, 1), need := 2, cov := [(0, 2)] } (fun q => q.n 0 1 == 4) = true ∧
    tServes (tCmd .reset 0x0107 [4, 2]) { op := 0x0107, form := some (1, 2), need := 2, cov := [(0, 2)] } (fun q => q.n 0 1 == 4) = true ∧
    tServes (tCmd .reset 0x0107 [4, 3]) { op := 0x0107, form := some (1, 3), need := 2, cov := [(0, 2)] } (fun q => q.n 0 1 == 4) = true := by
  decide +kernel

/-- A trained DDR channel A that holds a fail set header: magic, STATE CLOSED, BITMAP and MRC with a legal geometry. -/
def tHdr (s : State) : State :=
  { s with mem := { s.mem with
      chans := [(0, { trained := true })], regions := [(0, true)]
      bytes := [(0, 0x46), (1, 0x41), (2, 0x49), (3, 0x4C), (4, 4), (0x80, 4), (0x81, 4), (0x85, 1), (0x86, 1), (0x87, 0x0E)] } }

/-- A site in the given state, with a prepared fail configuration of one set. -/
def tSite (s : State) (st : SiteState) : State :=
  s.setSite 3 { state := st, img := { failcfg := { present := true, nsets := 1 } } }

theorem test_long_commands_premises :
    (let s := tCmd .reset 0x0201 (3 :: List.replicate 23 0)
     tServes s { op := 0x0201, need := 0x18, cov := [(0, 0x20)] } (fun q => q.n 0 1 == 3 && s.accepts (.load 3 (bytesAt q.pay 0 32))) = true ∧
       s.siteBusy 3 = false) ∧
    (let s := tSite (tCmd .reset 0x0202 [3]) .loaded
     tServes s { op := 0x0202, need := 1, cov := [(0, 1)] } (fun q => q.n 0 1 == 3 && s.accepts (.unload 3)) = true ∧
       (s.site 3).state ≠ .running) ∧
    (let s := tCmd .reset 0x0204 (3 :: List.replicate 15 0 ++ List.replicate 8 0xFF)
     tServes s { op := 0x0204, need := 0x18, cov := [(0, 1), (3, 21), (0x18, 8)] }
       (fun q => q.n 0x10 8 == 2 ^ 64 - 1 && !q.own && s.accepts (.transom 3 (bytesAt q.pay 0 24))) = true) ∧
    (let s := tSite (tCmd .reset 0x0301 [3, 0xFF]) .halted
     tServes s { op := 0x0301, need := 2, cov := [(0, 2)] } (fun q => s.accepts (.arm 3 (bytesAt q.pay 0 2))) = true ∧
       (s.site 3).state = .halted ∧ (s.site 3).loadPhase = 0 ∧ (s.site 3).unloading = false) ∧
    (let s := (tCmd .reset 0x0401 ([1, 0, 0, 0, 0, 0, 0, 0] ++ leBytes 28050 4 ++ [0, 0])).setDom (domQuad 0) {}
     tServes s { op := 0x0401, need := 14, cov := [(0, 14)], doms := lanesDomains }
       (fun q => rateOk (q.n 8 4) && !s.calBusy (maskBits (q.n 0 8)) (q.n 8 4) && s.accepts (.calibrate (bytesAt q.pay 0 14))) = true) ∧
    (let s := tHdr (tSite (tCmd .reset 0x0501 [3, 0]) .loaded)
     tServes s { op := 0x0501, need := 2, cov := [(0, 2)] } (fun _ => s.accepts (.failClear 3 0)) = true ∧
       (s.site 3).fl.set = none ∧ s.setInUse 0 = false ∧
       (((s.site 3).img.failcfg.setRegions 0).all fun r => (s.memAt (r * 65536)).isSome) = true) ∧
    (let s := tHdr (tCmd .reset 0x0503 (List.replicate 32 0))
     tServes s { op := 0x0503, need := 0x20, cov := [(0, 0x20)], doms := hdrDomain 0 } (fun q => q.n 0x10 8 == 0 && !s.clearing 0) = true ∧
       (match s.readHeader 0 with | (.ok b, u) => hdrClosed b && u.accepts (.failReadout (List.replicate 32 0)) | _ => false) = true) := by
  decide +kernel

theorem test_long_commands_premises_2 :
    (let s := tHdr (tCmd .reset 0x0504 ([0, 0, 0, 0, 0, 0, 0, 0, 16, 16, 0xFF] ++ List.replicate 13 0))
     tServes s { op := 0x0504, need := 0x18, cov := [(0, 11), (12, 12)], doms := hdrDomain 0 }
       (fun q => q.n 10 1 == 0xFF && isDdr (q.n 0x10 8) && (s.memAt (q.n 0x10 8)).isSome && !s.clearing 0) = true ∧
       (match s.readHeader 0 with
        | (.ok b, u) => hdrClosed b && (hdrCfg b).bitmap && (hdrCfg b).mrc && (hdrCfg b).geomOk && u.accepts (.repair (List.replicate 24 0))
        | _ => false) = true) ∧
    (let s := (tCmd .reset 0x0605 (63 :: List.replicate 23 0)).setTrig 63 { state := .done }
     tServes s { op := 0x0605, need := 0x18, cov := [(0, 1), (8, 16)], doms := laneDomain }
       (fun q => q.n 0 1 == 63 && s.accepts (.trigReadout (bytesAt q.pay 0 0x18))) = true) ∧
    (let s := tCmd .reset 0x0701 (11 :: List.replicate 15 0)
     tServes s { op := 0x0701, need := 16, cov := [(0, 1), (3, 13)], doms := casDoms }
       (fun q => q.n 0 1 == 11 && s.accepts (.jobLoad (bytesAt q.pay 0 16))) = true ∧ (s.casm 11).images = []) ∧
    (let s := tCmd .reset 0x0801 ([0x81, 0] ++ leBytes 6400 2)
     tServes s { op := 0x0801, need := 4, cov := [(0, 1), (2, 2)], doms := chanDoms }
       (fun q => chansOf (q.n 0 1) == [0, 7] && q.n 2 2 == 6400 && s.accepts (.train (bytesAt q.pay 0 4))) = true ∧
       s.mem.validRegions 0 = 0 ∧ s.mem.validRegions 7 = 0) ∧
    (let s := tCmd .reset 0x0803 [1]
     tServes s { op := 0x0803, need := 1, cov := [(0, 1)], doms := chanDoms }
       (fun q => q.n 0 1 == 1 && s.accepts (.sweep (bytesAt q.pay 0 1))) = true) ∧
    (let s := tCmd .reset 0x0808 (List.replicate 16 0 ++ [64, 0, 0, 0, 1])
     tServes s { op := 0x0808, need := 0x15, cov := [(0, 0x15)] }
       (fun q => q.n 0x10 4 == 64 && s.accepts (.copy (bytesAt q.pay 0 0x15))) = true ∧ s.host.copies = []) ∧
    (let s := tCmd .reset 0x0A01 [254, 1]
     tServes s { op := 0x0A01, need := 2, cov := [(0, 2)] } (fun q => s.accepts (.enumerate (bytesAt q.pay 0 2))) = true) ∧
    (let s := tCmd .reset 0x0B01 [0x10, 1]
     tServes s { op := 0x0B01, need := 2, cov := [(0, 2)] }
       (fun q => domAccepts (q.n 0 1) (domStateOf (q.n 1 1)) && s.accepts (.domainSet 0x10 1)) = true) := by
  decide +kernel

/-- A TRANSOM that part 0 passes on. -/
theorem test_own_transom_premises :
    ((tOwn .reset 0x0204 (3 :: List.replicate 15 0 ++ List.replicate 8 0xFF ++ List.replicate 8 0)).serves 16
      { op := 0x0204, need := 0x18, cov := [(0, 1), (3, 21), (0x18, 8)] }).any
        (fun q => q.own && q.n 0 1 == 3 && q.n 8 8 == 0 && q.n 0x10 8 == 2 ^ 64 - 1) = true := by
  decide +kernel

theorem test_site_commands_premises :
    tServes (tCmd .reset 0x0205 [15]) { op := 0x0205, need := 1, cov := [(0, 1)] } (fun q => q.n 0 1 == 15) = true ∧
    tServes (tCmd .reset 0x0206 [0]) { op := 0x0206, need := 1, cov := [(0, 1)] } (fun q => q.n 0 1 == 0) = true ∧
    (let s := tSite (tCmd .reset 0x0203 [3]) .faulted
     tServes s { op := 0x0203, need := 1, cov := [(0, 1)] } (fun q => q.n 0 1 == 3) = true ∧ (s.site 3).loadPhase = 0 ∧
       (s.site 3).unloading = false ∧ (s.site 3).img.hasScratch = false ∧ (s.site 3).transomed = false ∧ (s.site 3).img.loadFailed = false) ∧
    (let s := tSite (tCmd .reset 0x0302 [3]) .armed
     tServes s { op := 0x0302, need := 1, cov := [(0, 1)] } (fun q => q.n 0 1 == 3) = true ∧ (s.site 3).state = .armed) := by
  decide +kernel

/-- SITES names site 3, IMAGE_ID any. -/
def tMask3 : List Byte := 8 :: List.replicate 15 0

theorem test_run_control_premises :
    (let s := tSite (tCmd .reset 0x0303 tMask3) .armed
     tServes s { op := 0x0303, need := 16, cov := [(0, 2), (8, 8)], bcast := true } (fun q => s.namedSites (q.n 0 2) (q.n 8 8) == [3]) = true ∧
       (s.site 3).img.nparts = 0 ∧ (s.site 3).state = .armed) ∧
    (let s := tSite (tCmd { State.reset with time := { servo := .locked } } 0x0304 (tMask3 ++ leBytes 2000 8)) .armed
     tServes s { op := 0x0304, need := 24, cov := [(0, 2), (8, 16)], bcast := true }
       (fun q => s.namedSites (q.n 0 2) (q.n 8 8) == [3] && q.n 16 8 == 2000) = true ∧ s.time.servo ≠ .unlocked ∧ s.time.ns = 0) ∧
    (let s := tSite (tCmd .reset 0x0305 tMask3) .running
     tServes s { op := 0x0305, need := 16, cov := [(0, 2), (8, 8)], bcast := true } (fun q => !q.own) = true ∧
       (s.site 3).state = .running ∧ (s.site 3).img.nparts = 0) := by
  decide +kernel

theorem test_site_settings_premises :
    (let s := tSite (tCmd .reset 0x0306 [3, 1]) .halted
     tServes s { op := 0x0306, need := 2, cov := [(0, 2)] } (fun q => s.policyOk (q.n 0 1) (q.n 1 1)) = true ∧ (s.site 3).state = .halted) ∧
    (let s := tSite (tCmd .reset 0x0307 ([3, 0, 0, 0] ++ leBytes 1048576 4)) .loaded
     tServes s { op := 0x0307, need := 8, cov := [(0, 1), (4, 4)] } (fun q => q.n 4 4 == 1048576) = true) ∧
    tServes ((tCmd .reset 0x0308 [3]).setSite 3 { img := { depth := 1 } }) { op := 0x0308, need := 1, cov := [(0, 1)] }
      (fun q => q.n 0 1 == 3) = true := by
  decide +kernel

/-- Lane 12 in pin mode, its sash a member of site 3. -/
def tPin (s : State) : State := (s.setSash 12 { cfg := { site := some 3 } }).setLane 12 { mode := .pin, cfg := { plog := 6 } }

theorem test_pin_commands_premises :
    (let s := tPin (tCmd .reset 0x0402 ([12, 58, 6, 1] ++ List.replicate 204 0))
     tServes s { op := 0x0402, need := 48, cov := [(0, 4), (16, 192)], doms := laneDomain }
       (fun q => zeroAt q.pay (16 + 32 * 6) 240 && decide (q.n 1 1 + 6 ≤ (s.lane 12).pins)) = true ∧ (s.siteOf 12).isSome = true) ∧
    (let s := tPin (tCmd .reset 0x0403 (leBytes 4096 8 ++ leBytes (2 ^ 48 - 1) 8))
     tServes s { op := 0x0403, need := 16, cov := [(0, 16)] } (fun q => (maskBits (q.n 0 8)).all fun i => (s.siteOf i).isSome) = true) ∧
    (let s := tPin (tCmd .reset 0x0404 [12, 63, 1, 0, 1, 0, 0, 0])
     tServes s { op := 0x0404, need := 8, cov := [(0, 3), (4, 4)], doms := laneDomain }
       (fun q => pinFieldOk (s.lane 12).cfg (q.n 1 1) (q.n 2 1) (q.n 4 4) true && !s.rwireBad 12 (q.n 2 1) (q.n 4 4)) = true ∧
       s.siteOf 12 = some 3) ∧
    tServes (tCmd .reset 0x0405 [63]) { op := 0x0405, need := 1, cov := [(0, 1)] } (fun q => q.n 0 1 == 63) = true := by
  decide +kernel

theorem test_fail_commands_premises :
    (let s := ({ tHdr (tCmd .reset 0x0502 ([0, 0, 3, 0, 0, 0, 0, 0] ++ leBytes 64 8)) with mem := { bytes := [(64, 0x46), (65, 0x41), (66, 0x49), (67, 0x4C)], chans := [(0, { trained := true })], regions := [(0, true)] } } : State)
     tServes s { op := 0x0502, need := 16, cov := [(0, 3), (8, 8)], doms := hdrDomain 8 } (fun q => q.n 8 8 == 64) = true ∧
       (match s.readHeader 64 with | (.ok _, _) => true | _ => false) = true ∧ ∀ m, m < 16 → (s.site m).fl.open_ = false) ∧
    (let s := (tCmd .reset 0x0502 ([3, 0, 3, 0, 0, 0, 0, 0] ++ leBytes 0 8)).setSite 3
       { state := .running, img := { failcfg := { present := true, nsets := 1 } }, fl := { set := some 0, open_ := true } }
     tServes s { op := 0x0502, need := 16, cov := [(0, 3), (8, 8)], doms := hdrDomain 8 } (fun q => q.n 0 1 == 3) = true ∧
       (s.site 3).recBase = 0 ∧ ∀ m, m < 3 → (s.site m).fl.open_ = false) ∧
    (let s := (tCmd .reset 0x0505 ([3, 1, 0xE4, 1, 28, 0, 0, 0] ++ List.replicate 224 7)).setSite 3
       { state := .loaded, img := { failcfg := { present := true, capctl := 0x08 } } }
     tServes s { op := 0x0505, need := 8, cov := [(0, 5), (8, 232)] }
       (fun q => q.n 2 2 + q.n 4 1 == 512 && zeroAt q.pay (8 + 8 * 28) 240 && q.pay.length == 232) = true) ∧
    (let s := (tCmd .reset 0x0506 ([3, 0, 0, 0, 0, 0, 0, 0] ++ leBytes 5 8)).setSite 3
       { state := .loaded, img := { failcfg := { present := true, capctl := 0x08 } } }
     tServes s { op := 0x0506, need := 16, cov := [(0, 1), (8, 8)] } (fun q => q.n 8 8 == 5) = true ∧ s.filterSite 3 = none) := by
  decide +kernel

/-- The other clauses: a SITE of 16, a START of a multi-unit site, a PART of 4, a set of an address that no site has open. -/
theorem test_site_clause_premises :
    tServes (tCmd .reset 0x0206 [16]) { op := 0x0206, need := 1, cov := [(0, 1)] } (fun q => q.n 0 1 == 16) = true ∧
    (let s := (tCmd .reset 0x0303 tMask3).setSite 3 { state := .armed, img := { nparts := 2 } }
     tServes s { op := 0x0303, need := 16, cov := [(0, 2), (8, 8)], bcast := true } (fun q => s.namedSites (q.n 0 2) (q.n 8 8) == [3]) = true ∧
       (s.site 3).img.nparts = 2) ∧
    tServes (tCmd .reset 0x0502 ([0, 0, 4, 0, 0, 0, 0, 0] ++ leBytes 64 8)) { op := 0x0502, need := 16, cov := [(0, 3), (8, 8)], doms := hdrDomain 8 }
      (fun q => q.n 2 1 == 4) = true ∧
    (State.reset.site 15).state ≠ .running ∧ (tSite .reset .running |>.site 3).img.farPart = false := by
  decide +kernel

/-- Lane 12 with a trigger unit in the given state, its sash a member of RUNNING site 3. -/
def tTrig (s : State) (st : TrigState) : State :=
  (((s.setSash 12 { cfg := { site := some 3, hasTrig := true } }).setTrig 12 { state := st }).setLane 12 { mode := .pin }).setSite 3
    { state := .running }

/-- A living task of casement 3. -/
def tTask : TaskCtx :=
  ⟨3, 5, 0, false, 0, 1, none, 0, 0, 0, 0, 0, true, .ready, 0, [], 4, none, 0, {}, false⟩

theorem test_trigger_commands_premises :
    (let s := tTrig (tCmd .reset 0x0601 ([12, 1, 0, 0, 0, 0, 0, 0, 3] ++ List.replicate 15 0)) .disarmed
     tServes s { op := 0x0601, need := 24, cov := [(0, 2), (8, 16)], doms := laneDomain }
       (fun q => trigFieldOk (s.lane 12).cfg (q.n 1 1) (q.n 8 16) && !s.toutBusy (q.n 1 1) (q.n 8 16)) = true ∧
       s.siteOf 12 = some 3 ∧ (s.sash 12).cfg.hasTrig = true) ∧
    (let s := tTrig (tCmd .reset 0x0602 [12]) .ready
     tServes s { op := 0x0602, need := 1, cov := [(0, 1)], doms := laneDomain } (fun q => s.siteOf (q.n 0 1) == some 3) = true) ∧
    (let s := tTrig (tCmd .reset 0x0603 [12]) .done
     tServes s { op := 0x0603, need := 1, cov := [(0, 1)], doms := laneDomain } (fun q => s.siteOf (q.n 0 1) == some 3) = true) ∧
    tServes (tCmd .reset 0x0604 [63]) { op := 0x0604, need := 1, cov := [(0, 1)] } (fun q => q.n 0 1 == 63) = true := by
  decide +kernel

theorem test_job_commands_premises :
    (let s := (tCmd .reset 0x0702 (3 :: List.replicate 7 0 ++ leBytes 5 8)).setCasm 3 { images := [⟨5, [⟨0, 1, true, 4, 0, 0⟩], 0, [], []⟩] }
     tServes s { op := 0x0702, need := 16, cov := [(0, 1), (8, 8)] } (fun q => q.n 0 1 == 3 && q.n 8 8 == 5) = true) ∧
    (let s := (tCmd .reset 0x0703 (3 :: List.replicate 7 0 ++ leBytes 5 8 ++ [0, 0, 0, 0, 1, 0] ++ List.replicate 58 0)).setCasm 3
       { images := [⟨5, [⟨0, 1, true, 4, 0, 0⟩], 0, [], []⟩] }
     tServes s { op := 0x0703, need := 80, cov := [(0, 1), (8, 72)] }
       (fun q => q.n 0 1 == 3 && (s.submit 3 (bytesAt q.pay 8 72) false).1 == Code.ST_OK) = true ∧ s.awake (domCas 3) = true) ∧
    tServes ((tCmd .reset 0x0704 [7, 0]).setTask 7 (some tTask)) { op := 0x0704, need := 2, cov := [(0, 2)], doms := taskDoms 0 }
      (fun q => q.n 0 2 == 7) = true ∧
    tServes ((tCmd .reset 0x0705 [7, 0, 0, 0, 0xFF, 0xFF, 0xFF, 0x0F]).setTask 7 (some tTask))
      { op := 0x0705, need := 8, cov := [(0, 2), (4, 4)], doms := taskDoms 0 } (fun q => q.n 4 4 == 2 ^ 28 - 1) = true ∧
    tServes ((tCmd .reset 0x0706 ([7, 0, 0, 0, 0, 0, 0, 0, 0xFF, 0xFF, 1, 0] ++ List.replicate 28 0)).setTask 7 (some tTask))
      { op := 0x0706, need := 40, cov := [(0, 2), (8, 32)], doms := taskDoms 0 }
      (fun q => q.n 0x0B 1 == 0 && itemFlow (BitVec.ofNat 256 (q.n 8 32)) == 0xFFFF) = true := by
  decide +kernel

theorem test_event_map_premises :
    tServes ((tCmd .reset 0x0707 [1, 0, 7, 0, 27]).setTask 7 (some tTask)) { op := 0x0707, form := some (1, 0), need := 5, cov := [(0, 5)] }
      (fun q => q.n 0 1 == 1 && q.n 2 2 == 7 && q.n 4 1 == 27) = true ∧
    tServes ((tCmd .reset 0x0707 [1, 1, 7, 0, 27]).setTask 7 (some tTask)) { op := 0x0707, form := some (1, 1), need := 5, cov := [(0, 5)] }
      (fun q => q.n 0 1 == 1 && q.n 2 2 == 7 && q.n 4 1 == 27) = true ∧
    tServes (tCmd .reset 0x0708 [11, 0, 0, 0, 0x04, 0xA0, 0, 0]) { op := 0x0708, need := 8, cov := [(0, 1), (4, 4)], doms := casDoms }
      (fun q => q.n 0 1 == 11 && bits (q.n 4 4) 12 10 == 10 && bits (q.n 4 4) 0 8 == 4 && bits (q.n 4 4) 8 4 == 0) = true := by
  decide +kernel

theorem test_context_commands_premises :
    tServes (tCmd .reset 0x0709 [11, 7, 1, 0, 0, 0, 0, 0x10])
      { op := 0x0709, form := some (2, 1), need := 8, cov := [(0, 3), (4, 4)], doms := casDoms } (fun q => q.n 6 2 == 4096) = true ∧
    tServes (tCmd .reset 0x0709 ([11, 7, 2, 0, 0, 0, 0, 0] ++ List.replicate 24 1))
      { op := 0x0709, form := some (2, 2), need := 32, cov := [(0, 3), (8, 24)], doms := casDoms } (fun q => q.n 1 1 == 7) = true ∧
    tServes (tCmd .reset 0x0709 ([11, 7, 3, 0, 0, 0, 0, 0] ++ List.replicate 24 1))
      { op := 0x0709, form := some (2, 3), need := 32, cov := [(0, 3), (8, 24)], doms := casDoms } (fun q => q.n 1 1 == 7) = true ∧
    (let s := (tCmd .reset 0x0709 [11, 7, 4, 0, 99, 0, 1, 0, 12, 0]).setCasm 11 { ctx := [(7, { nsc := 100 })] }
     tServes s { op := 0x0709, form := some (2, 4), need := 8, cov := [(0, 3), (4, 3), (8, 232)], doms := casDoms }
       (fun q => q.n 4 2 + q.n 6 1 == ((s.casm 11).ctxAt 7).nsc && q.clean [(0, 3), (4, 3), (8, 2)] && q.pay.length == 10 &&
         (q.halves 1).all fun e => decide (entryBits e ≤ 12)) = true) := by
  decide +kernel

/-- SUBMIT to no casement, and to one that is locked off. -/
theorem test_submit_clause_premises :
    tServes (tCmd .reset 0x0703 (12 :: List.replicate 79 0)) { op := 0x0703, need := 80, cov := [(0, 1), (8, 72)] }
      (fun q => decide (12 ≤ q.n 0 1)) = true ∧
    (let s := (tCmd .reset 0x0703 (3 :: List.replicate 79 0)).setDom (domCas 3) { state := .off, locked := true }
     tServes s { op := 0x0703, need := 80, cov := [(0, 1), (8, 72)] } (fun q => q.n 0 1 == 3) = true ∧
       (s.access (domCas 3) false).1 = .locked) := by
  decide +kernel

/-- LINK_CFG of link 1, receive, lane 8 alone, RATE as given. -/
def tLinkRec (rate : Nat) : List Byte := [1, 0, 8, 1, 2, 1, 16, 1, 0, 0, 0, 0] ++ leBytes rate 4

/-- The link that record makes. -/
def tLink (rx : Bool) : StreamLink := ⟨8, 1, 2, 1, 16, 1, 0, 28050, 0, rx, true, none, true, false, 0⟩

/-- STREAM_OPEN on casement 3, link 1, converter 0, transmit, task 7; ring in shared memory. -/
def tStreamRec : List Byte :=
  [3, 1, 0, 1, 7, 0, 27, 1] ++ leBytes 0x200000 4 ++ leBytes 256 4 ++ leBytes 0x200800 4 ++ leBytes 128 4 ++ leBytes 0 8 ++ leBytes 80 4 ++ [1]

/-- A stream of casement 3. -/
def tStream (rx : Bool) : Stream :=
  { streamOf (parseReq 0 0 (List.replicate 8 0 ++ [37] ++ List.replicate 7 0 ++ tStreamRec)) with rx := rx, avg := 1 }

theorem test_stream_commands_premises :
    (let s := (tCmd .reset 0x070A (tLinkRec 28050)).setLane 8 { mode := .stream }
     tServes s { op := 0x070A, need := 16, cov := [(0, 11), (12, 4)] }
       (fun q => (linkOf q).ok && !s.linkBusy 1 (linkOf q) && s.quadsFit [(8, 28050)] (fun i => i != 8) && (s.streamsOf 1).isEmpty) = true) ∧
    tServes (tCmd .reset 0x070A (tLinkRec 0)) { op := 0x070A, need := 16, cov := [(0, 11), (12, 4)] } (fun q => (linkOf q).rate == 0) = true ∧
    (let s := (((tCmd .reset 0x070B tStreamRec).setSlink 1 (some (tLink false))).setLane 8 { mode := .stream }).setTask 7 (some tTask)
     tServes s { op := 0x070B, need := 37, cov := [(0, 37)], doms := casDoms }
       (fun q => (streamOf q).ok q && (streamOf q).rx == false && (s.task 7).any (·.cas == 3) && !s.streamTooFast 3 (tLink false) true 1) = true ∧
       s.stream 0 = none) ∧
    (let s := (tCmd .reset 0x070C [4]).setStream 4 (some (tStream true))
     tServes s { op := 0x070C, need := 1, cov := [(0, 1)], doms := streamDoms } (fun q => (s.stream (q.n 0 1)).isSome) = true) ∧
    tServes (tCmd .reset 0x070E ([3, 8, 4, 0] ++ List.replicate 12 0)) { op := 0x070E, need := 16, cov := [(0, 3), (4, 12)] }
      (fun q => q.n 0 1 == 3 && q.n 1 1 == 8 && q.n 2 1 == 4 && q.n 8 8 == 0) = true := by
  decide +kernel

theorem test_stream_settings_premises :
    (let s := (tCmd .reset 0x070D [4, 1, 3, 0, 127, 0, 1, 0, 5, 0]).setStream 4 (some (tStream false))
     tServes s { op := 0x070D, form := some (1, 1), need := 8, cov := [(0, 240)], doms := streamDoms }
       (fun q => (q.tableRefusal [(0, 3), (4, 3)] 1).isNone && q.n 2 1 != (tStream false).bank && q.n 4 2 + q.n 6 1 == 128) = true) ∧
    (let s := (tCmd .reset 0x070D [4, 2, 3]).setStream 4 (some (tStream false))
     tServes s { op := 0x070D, form := some (1, 2), need := 3, cov := [(0, 3)], doms := streamDoms } (fun q => q.n 2 1 == 3) = true) ∧
    (let s := (tCmd .reset 0x070D [4, 3, 63, 1, 0, 0, 0, 0, 0, 0x80]).setStream 4 (some (tStream false))
     tServes s { op := 0x070D, form := some (1, 3), need := 8, cov := [(0, 240)], doms := streamDoms }
       (fun q => (q.tableRefusal [(0, 4)] 1).isNone && (q.halves 1).all fun v => decide (v.toNat ≤ 32768)) = true) ∧
    (let s := (tCmd .reset 0x070D [4, 4, 63, 1, 0, 0, 0, 0, 0, 0x80]).setStream 4 (some (tStream false))
     tServes s { op := 0x070D, form := some (1, 4), need := 8, cov := [(0, 240)], doms := streamDoms }
       (fun q => (q.tableRefusal [(0, 4)] 1).isNone) = true) ∧
    (let s := (tCmd .reset 0x070D [4, 5, 0, 1, 255, 0, 1, 0, 9, 9]).setStream 4 (some (tStream false))
     tServes s { op := 0x070D, form := some (1, 5), need := 8, cov := [(0, 240)], doms := streamDoms }
       (fun q => (q.tableRefusal [(0, 7)] 1).isNone && (tStream false).avg != 0 && q.n 2 2 == 256 && q.n 4 2 + q.n 6 1 == 256) = true) ∧
    (let s := (tCmd .reset 0x070D [4, 7, 2, 24, 0, 0, 0, 0]).setStream 4 (some (tStream true))
     tServes s { op := 0x070D, form := some (1, 7), need := 8, cov := [(0, 8)], doms := streamDoms } (fun q => q.n 2 1 == 2) = true) ∧
    (let s := (tCmd .reset 0x070D [4, 6, 7, 0]).setStream 4 (some (tStream true))
     tServes s { op := 0x070D, form := some (1, 6), need := 4, cov := [(0, 11), (12, 4)], doms := streamDoms } (fun q => q.n 2 1 == 7) = true) ∧
    (let st := { tStream true with hyp := [(1, { reflen := 16 })] }
     let s := (tCmd .reset 0x070D ([4, 6, 0, 1] ++ leBytes 0x200000 4 ++ [16, 0, 1, 0, 1, 0, 0, 0])).setStream 4 (some st)
     tServes s { op := 0x070D, form := some (1, 6), need := 4, cov := [(0, 11), (12, 4)], doms := streamDoms }
       (fun q => inShared (q.n 4 4) (4 * q.n 8 2) && st.searched) = true ∧ (s.memRead (casAddr 3 0x200000) 64).2.1 = false) := by
  decide +kernel

/-- STREAM_OPEN with a flag out of range, and on a link that is not configured; a hypothesis of no stream. -/
theorem test_stream_clause_premises :
    tServes (tCmd .reset 0x070B ([3, 1, 0, 8] ++ List.replicate 33 0)) { op := 0x070B, need := 37, cov := [(0, 37)], doms := casDoms }
      (fun q => decide (8 ≤ q.n 3 1)) = true ∧
    (let s := tCmd .reset 0x070B tStreamRec
     tServes s { op := 0x070B, need := 37, cov := [(0, 37)], doms := casDoms }
       (fun q => decide (q.n 3 1 < 8) && (s.slink (streamOf q).link).isNone) = true) ∧
    (let s := tCmd .reset 0x070D [4, 6, 7, 0]
     tServes s { op := 0x070D, form := some (1, 6), need := 4, cov := [(0, 11), (12, 4)], doms := streamDoms }
       (fun q => (s.stream (q.n 0 1)).isNone) = true) := by
  decide +kernel

theorem test_memory_commands_premises :
    tServes (tCmd .reset 0x0802 [1]) { op := 0x0802, need := 1, cov := [(0, 1)] } (fun q => q.n 0 1 == 1) = true ∧
    (let s := tCmd .reset 0x0804 ([7, 0x30, 0, 0, 0, 0, 0, 0] ++ leBytes 65536 8 ++ leBytes 65536 8)
     tServes s { op := 0x0804, need := 0x18, cov := [(0, 2), (8, 16)], doms := memDoms }
       (fun q => memIdOk (q.n 0 2) && memKind (q.n 0 2) == 3 && !s.openSetMeets 65536 65536) = true) ∧
    (let s := tCmd .reset 0x0804 ([63, 0, 0, 0, 0, 0, 0, 0] ++ leBytes 32767 8 ++ leBytes 1 8)
     tServes s { op := 0x0804, need := 0x18, cov := [(0, 2), (8, 16)], doms := memDoms }
       (fun q => memIdOk (q.n 0 2) && memKind (q.n 0 2) == 0 && decide (q.n 8 8 + q.n 0x10 8 ≤ memLines 63) && !s.laneLive 63) = true) ∧
    (let s := tCmd .reset 0x0805 ([63, 0, 0, 0, 0, 0, 0, 0] ++ leBytes (sashBase + 63 * 0x1000000) 8)
     tServes s { op := 0x0805, form := some (2, 0), need := 0x10, cov := [(0, 3), (4, 1), (8, 8)], doms := memDoms }
       (fun q => s.memAt (q.n 8 8) == some 63 && (s.memSt 63).freeEntry 63 == some 0) = true) ∧
    (let s := (tCmd .reset 0x0805 [63, 0, 1, 0, 0]).setMemSt 63 { remap := [(0, some 5)] }
     tServes s { op := 0x0805, form := some (2, 1), need := 5, cov := [(0, 3), (4, 1), (8, 8)], doms := memDoms }
       (fun q => decide (q.n 4 1 < remapSize 63) && (tget none (s.memSt 63).remap 0).isSome) = true) ∧
    tServes (tCmd .reset 0x0806 [63, 0, 0, 0, 1, 1, 0, 1]) { op := 0x0806, need := 8, cov := [(0, 2), (4, 4)] }
      (fun q => memIdOk (q.n 0 2) && mctlThr (BitVec.ofNat 32 (q.n 4 4)) != 0) = true ∧
    tServes (tCmd .reset 0x0807 [63, 0, 1]) { op := 0x0807, need := 3, cov := [(0, 3)] } (fun q => memIdOk (q.n 0 2)) = true := by
  decide +kernel

/-- INVALIDATE and MEMSTATUS of no memory, and MEMSTATUS without CLEAR. -/
theorem test_memory_clause_premises :
    tServes (tCmd .reset 0x0804 ([0xFF, 0xFF, 0, 0, 0, 0, 0, 0] ++ List.replicate 16 0)) { op := 0x0804, need := 0x18, cov := [(0, 2), (8, 16)], doms := memDoms }
      (fun q => !memIdOk (q.n 0 2)) = true ∧
    tServes (tCmd .reset 0x0807 [0xFF, 0xFF, 0]) { op := 0x0807, need := 3, cov := [(0, 3)] } (fun q => !memIdOk (q.n 0 2)) = true ∧
    tServes (tCmd .reset 0x0807 [63, 0, 0]) { op := 0x0807, need := 3, cov := [(0, 3)] } (fun q => memIdOk (q.n 0 2) && q.n 2 1 == 0) = true := by
  decide +kernel

/-- All quads ON. -/
def tQuads (s : State) : State := { s with power := { s.power with doms := [] } }

theorem test_lane_settings_premises :
    (let s := tQuads (tCmd .reset 0x0901 ([63, 2, 0, 0] ++ leBytes 32000 4))
     tServes s { op := 0x0901, need := 8, cov := [(0, 2), (4, 4)], doms := laneDoms }
       (fun q => (laneModeOf (q.n 1 1)).isSome && rateOk (q.n 4 4) && s.quadsFit [(63, 32000)] (fun j => j != 63)) = true ∧
       s.siteOf 63 = none ∧ s.laneTaken 63 = false ∧ (s.lane 63).calib = none) ∧
    tServes (tQuads (tCmd .reset 0x0901 [63, 0, 0, 0, 0, 0, 0, 0])) { op := 0x0901, need := 8, cov := [(0, 2), (4, 4)], doms := laneDoms }
      (fun q => laneModeOf (q.n 1 1) == some .idle) = true ∧
    (let s := tQuads (tCmd .reset 0x0902 [63, 0, 0, 0, 0x90, 0x09, 0x04, 0])
     tServes s { op := 0x0902, need := 8, cov := [(0, 1), (4, 4)], doms := laneDoms }
       (fun q => bits (q.n 4 4) 8 4 + bits (q.n 4 4) 4 4 == 18 && bits (q.n 4 4) 12 4 == 0 && !bit (q.n 4 4) 19) = true ∧
       s.laneRuns 63 = false) ∧
    (let s := tCmd .reset 0x0903 ([63, 0, 0xFF, 3, 63, 5, 0, 0] ++ leBytes 1250 4 ++ List.replicate 32 7)
     tServes s { op := 0x0903, need := 0x2C, cov := [(0, 1), (2, 4), (8, 36)] } (fun q => rateOk (q.n 8 4) && q.n 2 2 == 1023) = true ∧
       s.deskewBusy 63 = false) ∧
    (let s := tCmd .reset 0x0904 (leBytes 5000 2)
     tServes s { op := 0x0904, need := 2, cov := [(0, 2)] } (fun q => q.n 0 2 == 5000) = true ∧ ∀ i, i < 64 → (s.lane i).mode = .idle) ∧
    ((tPin .reset).lane 12).mode ≠ .idle ∧
    tServes (tCmd .reset 0x0905 [63, 0, 200, 0, 1, 2]) { op := 0x0905, need := 6, cov := [(0, 1), (2, 1), (4, 2)] } (fun q => q.n 0 1 == 63) = true := by
  decide +kernel

theorem test_lane_actions_premises :
    tServes (tQuads (tCmd .reset 0x0906 [63, 0])) { op := 0x0906, form := some (1, 0), need := 2, cov := [(0, 2)], doms := laneDoms }
      (fun q => q.n 0 1 == 63) = true ∧
    tServes (tQuads (tCmd .reset 0x0906 [63, 1])) { op := 0x0906, form := some (1, 1), need := 2, cov := [(0, 2)], doms := laneDoms }
      (fun q => q.n 0 1 == 63) = true ∧
    (let s := (tQuads (tCmd .reset 0x0907 [63, 63])).setLane 63 { mode := .direct, lock := true }
     tServes s { op := 0x0907, need := 2, cov := [(0, 2)], doms := laneDoms } (fun q => q.n 1 1 == 63) = true) ∧
    tServes (tCmd .reset 0x0908 [63, 1]) { op := 0x0908, need := 2, cov := [(0, 2)] } (fun q => q.n 1 1 == 1) = true := by
  decide +kernel

theorem test_chain_commands_premises :
    tServes (tCmd .reset 0x0A02 [1]) { op := 0x0A02, form := some (0, 1), need := 1, cov := [(0, 1)] } (fun _ => true) = true ∧
    tServes (tCmd .reset 0x0A02 [0]) { op := 0x0A02, form := some (0, 0), need := 1, cov := [(0, 1)] } (fun _ => true) = true ∧
    tServes (tCmd .reset 0x0A03 [0, 0, 0, 0, 10, 0, 0, 1, 0, 0]) { op := 0x0A03, form := some (0, 0), need := 10, cov := [(0, 1), (4, 6)] }
      (fun _ => true) = true ∧
    (let s := tCmd .reset 0x0A03 ([1, 0, 40, 0, 0, 0, 0, 0] ++ List.replicate 200 9)
     tServes s { op := 0x0A03, form := some (0, 1), need := 3, cov := [(0, 1), (2, 1), (8, 232)] }
       (fun q => (peerEntries q).all (fun e => e.1 != 255) && q.clean [(0, 1), (2, 1), (8, 200)] && q.pay.length == 208) = true) ∧
    tServes (tCmd .reset 0x0A03 [2]) { op := 0x0A03, form := some (0, 2), need := 1, cov := [(0, 1)] } (fun _ => true) = true ∧
    tServes (tCmd .reset 0x0A0B [1]) { op := 0x0A0B, need := 1, cov := [(0, 1)] } (fun q => q.n 0 1 == 1) = true ∧
    (let s := tCmd { State.reset with chain := { head := true } } 0x0A0C []
     tServes s { op := 0x0A0C, need := 0 } (fun _ => s.chain.head) = true) := by
  decide +kernel

theorem test_time_commands_premises :
    (let s := tCmd .reset 0x0A04 [0x10, 3, 0, 0]
     tServes s { op := 0x0A04, need := 4, cov := [(0, 4)] }
       (fun q => BitVec.ofNat 32 (q.n 0 4) &&& 0xFF80F0CE == 0#32 && bits (q.n 0 4) 4 2 == 1 && !s.siteLive) = true ∧ s.time.otherMaster = none) ∧
    (let s := tCmd { State.reset with time := { tctl := 0x310 } } 0x0A05 (leBytes 0 2 ++ leBytes 999999999 4 ++ List.replicate 10 0)
     tServes s { op := 0x0A05, need := 16, cov := [(0, 16)] }
       (fun q => s.time.role == 1 && bits (q.n 0 16) 16 30 == 999999999 && bits (q.n 0 16) 46 2 == 0 && bits (q.n 0 16) 116 12 == 0) = true) ∧
    (let s := tCmd .reset 0x0A06 []
     tServes s { op := 0x0A06, need := 0 } (fun _ => !s.siteLive && !s.timePending) = true) ∧
    tServes (tCmd .reset 0x0A07 [1, 2, 3, 4]) { op := 0x0A07, need := 4, cov := [(0, 4)] } (fun _ => true) = true ∧
    (let s := tCmd .reset 0x0A0A ([1, 0, 0, 0] ++ List.replicate 8 5)
     tServes s { op := 0x0A0A, need := 12, cov := [(0, 1), (4, 8)] } (fun q => q.n 0 1 == 1 && !s.siteLive) = true) := by
  decide +kernel

theorem test_timed_generators_premises :
    (let s := tCmd { State.reset with time := { servo := .locked } } 0x0A08 ([7, 0x83, 4, 0] ++ leBytes 1 4 ++ leBytes 2000 8 ++ leBytes 0 8)
     tServes s { op := 0x0A08, need := 24, cov := [(0, 24)] }
       (fun q => q.n 1 1 % 8 == 3 && q.n 4 4 == 1 && q.n 16 8 == 0 && !s.pinHeld 7 3 && !bit s.toutReserved 3 && s.time.ns == 0) = true) ∧
    tServes (tCmd .reset 0x0A09 [7]) { op := 0x0A09, need := 1, cov := [(0, 1)] } (fun q => q.n 0 1 == 7) = true := by
  decide +kernel

/-- Generators that are due at time 0, one to a pin and one to an event, and one whose time has not come. -/
theorem test_timed_occurrence_premises :
    (let s : State := { State.reset with time := { tevs := [(6, { on := true, target := 3, width := 4, count := 1 }), (7, { on := true, target := 4, count := 1 }),
       (5, { on := true, target := 4, count := 1, first := 3000 })] } }
     let due (e : Tev) : Bool := decide ((e.first * 65536 + e.done * e.period) * 2 ^ 24 * 1000 < s.time.counter * 1000 + s.stepPs * 2 ^ 40)
     (s.tev 6).on = true ∧ (s.tev 6).done < (s.tev 6).count ∧ due (s.tev 6) = true ∧ (s.tev 6).target ≠ 4 ∧
       (s.tev 7).on = true ∧ (s.tev 7).done < (s.tev 7).count ∧ due (s.tev 7) = true ∧ (s.tev 7).target = 4 ∧
       due (s.tev 5) = false ∧ (s.tev 0).on = false) := by
  decide +kernel

theorem test_power_commands_premises :
    tServes (tCmd .reset 0x0B02 [0x7F, 0]) { op := 0x0B02, form := some (1, 0), need := 2, cov := [(0, 2)] } (fun q => domIdOk (q.n 0 1)) = true ∧
    tServes (tCmd .reset 0x0B02 [0x7F, 1]) { op := 0x0B02, form := some (1, 1), need := 2, cov := [(0, 2)] } (fun q => domIdOk (q.n 0 1)) = true ∧
    (State.reset.dom 0x7F).state = .off ∧
    tServes (tCmd .reset 0x0B02 [0x10, 2]) { op := 0x0B02, form := some (1, 2), need := 2, cov := [(0, 2)] } (fun q => domIdOk (q.n 0 1)) = true ∧
    tServes (tCmd .reset 0x0B02 [0x10, 3]) { op := 0x0B02, form := some (1, 3), need := 2, cov := [(0, 2)] } (fun q => domIdOk (q.n 0 1)) = true ∧
    tServes (tCmd .reset 0x0B03 ([0xFF, 1, 3, 0] ++ leBytes 1000000 4)) { op := 0x0B03, need := 8, cov := [(0, 3), (4, 4)] }
      (fun q => q.n 0 1 == 0xFF && q.n 2 1 == 3 && q.n 4 4 == 1000000) = true ∧
    tServes (tCmd .reset 0x0B03 ([0x10, 0, 1, 0] ++ leBytes 1 4)) { op := 0x0B03, need := 8, cov := [(0, 3), (4, 4)] }
      (fun q => domAccepts (q.n 0 1) (domStateOf (q.n 2 1))) = true ∧
    tServes (tCmd .reset 0x0B04 [0x70]) { op := 0x0B04, need := 1, cov := [(0, 1)] } (fun q => domIdOk (q.n 0 1)) = true ∧
    tServes (tCmd .reset 0x0B05 [0]) { op := 0x0B05, form := some (0, 0), need := 1, cov := [(0, 1), (2, 2)] } (fun _ => true) = true ∧
    tServes (tCmd .reset 0x0B05 [1, 0, 0xA0, 1]) { op := 0x0B05, form := some (0, 1), need := 4, cov := [(0, 1), (2, 2)] }
      (fun q => q.n 2 2 == 416) = true := by
  decide +kernel

theorem test_debug_commands_premises :
    tServes (tCmd .reset 0x0C01 [63, 1]) { op := 0x0C01, need := 2, cov := [(0, 2)], doms := laneDomain } (fun q => q.n 1 1 == 1) = true ∧
    tServes (tCmd .reset 0x0C02 [63]) { op := 0x0C02, need := 1, cov := [(0, 1)], doms := laneDomain } (fun q => q.n 0 1 == 63) = true ∧
    tServes (tPin (tCmd .reset 0x0C05 [12, 63, 3])) { op := 0x0C05, need := 3, cov := [(0, 3)], doms := laneDomain }
      (fun q => q.n 1 1 == 63 && q.n 2 1 == 3) = true ∧
    (let s := tCmd .reset 0x0C03 ([0x3F, 0, 0, 0] ++ leBytes (2 * 2 ^ 28 + 63 * 2 ^ 20) 4)
     tServes s { op := 0x0C03, need := 8, cov := [(0, 1), (4, 4)] }
       (fun q => (sourceBad (BitVec.ofNat 32 (q.n 4 4))).isNone && sourceSash (BitVec.ofNat 32 (q.n 4 4)) == some 63 && q.n 0 1 == 0x3F) = true) ∧
    (let s := tQuads (tCmd .reset 0x0C04 ([63, 1, 0, 0] ++ leBytes 28050 4))
     let s : State := { s with power := { s.power with clk := { s.power.clk with stepSrc := true, laneStep := true } } }
     tServes s { op := 0x0C04, form := some (1, 1), need := 8, cov := [(0, 2), (4, 4)], doms := keyholeDomains }
       (fun q => rateOk (q.n 4 4) && s.quadsFit [(63, 28050)] (fun j => j != 63) && s.power.clk.paced && !s.laneTaken 63) = true ∧
       s.power.key.lane = none ∧ s.siteOf 63 = none ∧ (s.lane 63).calib = none) ∧
    tServes (tCmd .reset 0x0C04 [63, 0]) { op := 0x0C04, form := some (1, 0), need := 2, cov := [(0, 2), (4, 4)] } (fun q => q.n 0 1 == 63) = true := by
  decide +kernel

/-- Site 3 of the one sash 63, RUNNING in cycle `c`; the sash is in phase `p`. -/
def tHinge (p : SashPhase) (c : BitVec 48) : State :=
  (State.reset.setSash 63 { cfg := { site := some 3 }, phase := p }).setSite 3
    { state := .running, cycle := c, hingeRun := 6, img := { sashes := [63] } }

theorem test_hinge_premises :
    (let s := tHinge .h0 7
     s.siteOf 63 = some 3 ∧ s.hingeReady 63 = true ∧ (s.sash 63).inUnsat &&& bankMask 1 = 0 ∧ ((1#128 <<< 127) &&& bankMask 1 ≠ 0)) ∧
    (tHinge .step 7).hingeReady 63 = false ∧
    (let s := tHinge .arrived 7
     let x := s.site 3
     s.releaseDue 3 = true ∧ x.relPend = none ∧ x.img.farPart = false ∧ x.faultDue = false ∧ x.haltDue = false ∧
       x.cycle ≠ BitVec.allOnes 48 ∧ x.transomDue x.cycle.toNat = false) ∧
    (let s := (tHinge .arrived 7).modSite 3 fun x => { x with haltPend := true }
     s.releaseDue 3 = true ∧ (s.site 3).faultDue = false ∧ (s.site 3).haltDue = true) ∧
    (let s := (tHinge .arrived 7).modSite 3 fun x => { x with pend := [faultOf Code.TF_RECV_TIMEOUT 63 0xFF 0 0] }
     s.releaseDue 3 = true ∧ (s.site 3).faultDue = true) ∧
    (let s := (tHinge .arrived 7).modSite 3 fun x => { x with img := { x.img with nparts := 2, part := 1 } }
     s.releaseDue 3 = true ∧ (s.site 3).img.farPart = true) ∧
    (let s := (tHinge .arrived 7).modSite 3 fun x => { x with relPend := some 3 }
     s.releaseDue 3 = true ∧ (s.site 3).relPend = some 3) ∧
    (tHinge .h0 7).releaseDue 3 = false := by
  decide +kernel

theorem test_transom_premises :
    (let x : Transom := ⟨1, 7, 1, [], false⟩
     let s := (tHinge .step 7).modSite 3 fun y => { y with transom := some x }
     (s.site 3).transom = some x ∧ x.hinge = (s.site 3).cycle.toNat ∧ (s.site 3).hingeBegun = false ∧ x.committed = false ∧
       ({ s.site 3 with hingeBegun := true } : Site).hingeBegun = true) ∧
    ((tHinge .step 7).site 3).transom = none ∧
    (let s := (tHinge .step 7).modSash 63 fun x => { x with patches := [(63, some ⟨255, 511, 9, 0⟩)] }
     tget none (s.sash 63).patches (patchSlot (s.sash 63).patches 255 511) = some ⟨255, 511, 9, 0⟩ ∧
       tget none (s.sash 63).patches (patchSlot (s.sash 63).patches 0 0) = none) := by
  decide +kernel

theorem test_token_premises :
    let s := (tHinge .arrived 7).modSite 3 fun x => { x with arriveSent := true, img := { x.img with nparts := 2 } }
    (s.site 3).state = .running ∧ (s.site 3).img.nparts ≠ 0 ∧ (7 : BitVec 16).toNat = (s.site 3).cycle.toNat % 65536 ∧
      (8 : BitVec 16).toNat ≠ (s.site 3).cycle.toNat % 65536 ∧
      (s.site 3).arriveSent = true ∧ (s.lane 63).link.lastToken ≠ some (tkArrive, 7) ∧ (s.lane 63).link.lastToken ≠ some (tkContinue, 7) ∧
      ({ link := { badCopies := 2 } } : Lane).link.badCopies = 2 ∧
      ({ link := { lastToken := some (tkArrive, 7) } } : Lane).link.lastToken = some (tkArrive, 7) := by
  decide +kernel

/-- The host link is up. -/
def tHost (h : HostState) : State := { State.reset with host := { h with linkUp := true } }

theorem test_doorbell_premises :
    (let s := (tHost {}).setChan 3 { state := .done, last := 4, cmd := [(0, 1), (1, 1)] }
     s.host.linkUp = true ∧ getBit (5 : BitVec 32) 31 = false ∧ (s.chan 3).state = .done ∧ (s.chan 3).resetPend = false ∧
       BitVec.ofNat 16 5 = (s.chan 3).last + 1 ∧ BitVec.ofNat 16 4 = (s.chan 3).last ∧
       (parseReq 3 s.chain.ua (s.chan 3).area).noRow = none ∧ (parseReq 3 s.chain.ua ({} : Channel).area).noRow ≠ none) ∧
    ((tHost {}).setChan 3 { state := .busy, relayed := true }).chan 3 = { state := .busy, relayed := true } ∧ ((tHost {}).chan 3).state = .closed ∧
    State.reset.host.linkUp = false := by
  decide +kernel

theorem test_host_registers_premises :
    (tHost {}).host.linkUp = true ∧ getBit (0x800A0000 : BitVec 32) 31 = true ∧ bits (0x800A0000 : BitVec 32).toNat 16 5 = 10 ∧
    (tHost {}).host.evqOn = false ∧ (tHost {}).host.fwEvent = false ∧ (tHost {}).host.boardEvent = false := by decide

theorem test_register_access_premises :
    (tHost {}).host.linkUp = true ∧ (0x5008 : BitVec 16).toNat % 8 = 0 ∧ (0x5004 : BitVec 16).toNat % 4 = 0 ∧
    (0x5002 : BitVec 16).toNat % 4 ≠ 0 := by decide

theorem test_commit_words_premises :
    let g (c : GroupClass) (n : Nat) (p : Bool) : CommitGroup := ⟨c, n, 0x6000, [0x6004], [(0x6004, 5)], [(0x6004, 6)], p, 0⟩
    let s : State := { ((tHost {}).setSite 3 { state := .running }) with
      groups := [(0, some (g .h 3 false)), (1, some (g .s 3 false)), (2, some (g .l 3 false)), (3, some (g .h 4 false)), (4, some (g .h 3 true))] }
    tget none s.groups 0 = some (g .h 3 false) ∧ tget none s.groups 1 = some (g .s 3 false) ∧ tget none s.groups 2 = some (g .l 3 false) ∧
      tget none s.groups 3 = some (g .h 4 false) ∧ tget none s.groups 4 = some (g .h 3 true) ∧ tget none s.groups 5 = none ∧
      (s.site 3).state = .running ∧ (s.site 4).state ≠ .running ∧
      s.groupAt 0x6004 = some (0, g .h 3 false) ∧ s.host.linkUp = true ∧
      ({ s with groups := [(4, some (g .h 3 true))] } : State).groupAt 0x6004 = some (4, g .h 3 true) := by
  decide +kernel

theorem test_window_premises :
    (let s := tHost {}
     s.host.linkUp = true ∧ s.host.bufBad = false ∧ hasOwner (s.bar2Addr 64) = true ∧ hasOwner (s.bar2Addr 64 + 8 - 1) = true) ∧
    (tHost { bufBad := true }).host.bufBad = true ∧ (tHost { bufBad := true }).host.linkUp = true ∧
    (let s := tHost { winBase := 15 }
     hasOwner (s.bar2Addr 64) = false ∧ s.host.bufBad = false ∧ s.host.bar2 = []) ∧
    (let r : Bar2Req := ⟨7, false, 64, 8, List.replicate 8 0, 1, false, true⟩
     ({ bar2 := [r] } : HostState).bar2.find? (·.id == 7) = some r ∧ ({ bar2 := [r] } : HostState).bar2.find? (·.id == 6) = none) := by decide +kernel

theorem test_held_events_premises :
    (let e : Event := ⟨2, 0, 0, 0, 0, 0, []⟩
     let s := tHost { held := [e, e], evqCtl := 0x800A0000 }
     s.host.held = [e, e] ∧ s.host.evqRoom = true) ∧ State.reset.host.held = [] ∧ State.reset.ticket 9 = none ∧
    (State.reset.setTicket 9 (some (tTicket (.unload 0)))).ticket 9 = some (tTicket (.unload 0)) := by decide +kernel

/-- Cell 5 of sash 63, a member of site 3, is about to execute the entry `w` of an only-entry loop. -/
def tCell (w : Word) : State :=
  (State.reset.setSash 63 { cfg := { site := some 3 }, wrun := true, wen := [(7, 0x20)], cells := [(5, { entries := [(0, w)], len := 1 })] }).setSite 3
    { state := .running, img := { sashes := [63] } }

/-- Entry with operation `op`, RD 15, RA 1, RB 2, DV and WS 7. -/
def tEntry (op : Nat) : Word := BitVec.ofNat 32 (op * 2 ^ 27 + 2 ^ 23 + 7 * 2 ^ 20 + 15 * 2 ^ 16 + 2 ^ 12 + 2 * 2 ^ 7)

theorem test_cell_operations_premises :
    ((List.range 0x16).all fun op => ((tCell (tEntry op)).cellClear 63 5 op).any fun a => wRD a.w == 15) = true := by
  decide +kernel

theorem test_bit_operations_premises : (31 : Nat) < 32 ∧ (1 : Word) ≠ 0 := by decide

theorem test_cell_wire_premises :
    ((tCell (tEntry 0x0E)).cellClear 63 5 0x0E).any (fun a => wDV a.w && wWS a.w == 7) = true ∧
    getBit (tget 0 ((tCell (tEntry 0x0E)).sash 63).wen 7) 5 = true ∧
    getBit ((tCell (tEntry 0x0E)).sash 63).wrec.contendWires 7 = false ∧ ((tCell (tEntry 0x0E)).sash 63).drives = [] := by
  decide +kernel

theorem test_product_landing_premises :
    (let s := (tCell (tEntry 0)).modCell 63 5 fun v => { v with done := true, muls := [⟨15, 7, some 7, 9, 9, false⟩] }
     (s.sash 63).cfg.site = some 3 ∧ s.mulDue 3 63 5 = some ⟨15, 7, some 7, 9, 9, false⟩ ∧ getBit (tget 0 (s.sash 63).wen 7) 5 = true ∧
       getBit ((s.sash 63).cell 5).drove 7 = false) ∧
    (let s := tCell (tEntry 0)
     (s.sash 63).cfg.site = some 3 ∧ s.mulDue 3 63 5 = none) := by
  decide +kernel

/-- The products, OUT and MAL; an entry with a parity error; a cell that is done. -/
theorem test_cell_other_premises :
    ([0x0B, 0x0C, 0x14, 0x15].all fun op => ((tCell (tEntry op)).cellClear 63 5 op).isSome) = true ∧
    (let s := (tCell (tEntry 1)).modCell 63 5 fun v => { v with parityBad := 1 }
     let x := s.sash 63
     let u := x.cell 5
     s.cellsRun 3 63 = true ∧ u.live = true ∧ u.done = false ∧ x.mulHold (s.mulContract 3) = false ∧ wOpc u.entry = 1 ∧
       getBit u.parityBad u.pc.toNat = true) ∧
    (((tCell (tEntry 1)).modCell 63 5 fun v => { v with done := true }).sash 63 |>.cell 5).done = true := by
  decide +kernel

/-- Sash 63 of RUNNING site 3 at step 5 has sent bundle tag 63 with this tag entry launched there. -/
def tLaunch (e : BitVec 32) (l : Lane) : State :=
  (((State.reset.setSash 63 { cfg := { site := some 3 }, phase := .step, k := 5 }).setSite 3
    { state := .running, img := { sashes := [63] } }).setStop 63 { active := { tags := [(63, e)] } }).setLane 63 l

/-- A flit with ROUTE 4095: number, channel, worm, ring, stop and place. -/
def tFlit (id vc : Nat) (worm : Option Nat) (ring stop : Nat) (p : FlitPlace) : Flit :=
  ⟨id, vc, true, true, 0x07FF8000, 0, worm, none, ring, stop, p, 0, false, 0⟩

/-- The unit with these flits on its rings. -/
def tFlits (l : List Flit) : State := { State.reset with ring := { flits := l } }

theorem test_launch_premises :
    (let s := tLaunch 0x8CFFF005 {}
     s.siteOf 63 = some 3 ∧ (s.sash 63).launchNow 63 0x8CFFF005 = true ∧ tgLnk 0x8CFFF005 = false ∧ s.ring.flits = [] ∧
       (s.sash 63).launchNow 62 0 = false) ∧
    (let l : Lane := { mode := .link, txIdle := true }
     let s := tLaunch 0x82FFF005 l
     (s.sash 63).launchNow 63 0x82FFF005 = true ∧ tgLnk 0x82FFF005 = true ∧ (s.lane 63).mode = .link ∧ (s.lane 63).txIdle = true ∧
       (({ l with txIdle := false } : Lane).txIdle = false) ∧ (s.lane 63).link.tx = []) ∧
    (let f := tFlit 0 0 none 3 63 .queue
     4 ≤ (([f, f, f, f] : List Flit).filter fun g => g.vc == 0 && g.place == .queue && g.stop == 63 && g.ring == tgRing 0x8CFFF005).length) ∧
    4 ≤ (([(0xE1, 0), (0xE1, 0), (0xE1, 0), (0xE1, 0)] : List (BitVec 64 × BitVec 512)).filter fun f => isBundleFrame f.1).length := by
  decide +kernel

theorem test_link_premises :
    (let f := tFlit 0 0 none 3 63 .through
     let g := tFlit 1 0 none 3 63 .queue
     let s := tFlits [g, f]
     s.linkFree 3 63 = true ∧ s.pickFlit 3 63 = some f ∧ f.vc = 0 ∧ g ∈ s.waiting 3 63 0 ∧ s.pickFlit 3 62 = none) ∧
    (let f := tFlit 0 2 (some 7) 3 63 .queue
     let w : Worm := ⟨7, .rings, nextStop 3 63, 63, 9, 0, 0, 0, 0, 0, [], none, .ctl⟩
     let s : State := { State.reset with ring := { flits := [f], worms := [w] } }
     s.linkFree 3 63 = true ∧ s.pickFlit 3 63 = some f ∧ f.vc ≠ 0 ∧ f.worm = some 7 ∧ s.waiting 3 63 0 = [] ∧ s.pickWorm 3 63 2 = some f) ∧
    (tFlit 0 2 (some 7) 3 63 .queue).tries < 15 ∧ 15 ≤ ({ tFlit 0 2 (some 7) 3 63 .queue with tries := 15 } : Flit).tries := by
  decide +kernel

theorem test_flit_premises :
    rtValid (State.reset.route 63 4095) = false ∧
    (rtValid 0x80000000 = true ∧ rtAct 0x80000000 = 0 ∧ rtAct 0x82000000 = 1 ∧ rtAct 0x84000000 = 2) ∧
    ((tLaunch 0 { mode := .link, lock := true }).lane 63).mode = .link ∧ ((tLaunch 0 { mode := .link, lock := true }).lane 63).lock = true ∧
    isBundleFrame 0xE1 = true ∧ isBundleFrame 0 = false ∧ (State.reset.lane 63).mode ≠ .link := by
  decide +kernel

/-- A flit to eject at stop 63, whose route 4095 has this entry. -/
def tEject (e : BitVec 32) : State := (tFlits [tFlit 0 0 none 3 63 .eject]).setStop 63 { active := { routes := [(4095, e)] } }

theorem test_arrival_premises :
    ([0x82F80000, 0x84000000, 0].all fun e => (tEject e).flit 0 == some (tFlit 0 0 none 3 63 .eject) &&
      (tEject e).ejectDue (tFlit 0 0 none 3 63 .eject) && (tEject e).route 63 4095 == e) = true ∧
    (tFlit 0 0 none 3 63 .eject).route = 4095 ∧
    (tEject 0).flit 1 = none ∧
    (let s := ((tLaunch 0 {}).modSite 3 fun x => { x with img := { x.img with watchdog := 1024 } }).modSash 63
       fun x => { x with recvWait := [(255, 1024)] }
     s.siteOf 63 = some 3 ∧ (s.site 3).img.watchdog ≤ tget 0 (s.sash 63).recvWait 255 ∧ (s.sash 63).k < 512) ∧
    (tLaunch 0 {}).siteOf 62 ≠ some 3 := by
  decide +kernel

/-- A worm of this place, TYPE and LEN from the control complex (stop 80) to scratchpad 63 with this address. -/
def tWorm (p : WormPlace) (typ : BitVec 4) (len : Nat) (a : BitVec 40) : Worm :=
  ⟨0, p, 63, 80, typ, len, 0, a, BitVec.allOnes 64, 0, [], none, .ctl⟩

/-- The unit with that worm on its rings. -/
def tWorms (w : Worm) : State := { State.reset with ring := { worms := [w] } }

/-- An empty ring buffer has room for a worm without payload. -/
theorem test_worm_room (w : Worm) (h : w.payload = []) : (tWorms w).wormRoom w = true := by
  have hb : (tWorms w).buffered ((tWorms w).ring.wormRing w.src w.dest) w.src w.vc = 0 := rfl
  simp only [State.wormRoom, State.ringRoom, hb, h, List.length_nil, Bool.or_eq_true, decide_eq_true_eq]
  omega

theorem test_worm_premises :
    (let w := tWorm .source 0 8 0x403F000000
     let s := tWorms w
     s.worm 0 = some w ∧ w.place = .source ∧ s.held w = false ∧ s.turn w = true ∧ s.wormDomain w = some 0x4F ∧ (s.access 0x4F w.dma).1 = .go ∧
       getBit ((s.stop 80).lvw 80 w.resp) 31 = false ∧ w.src ≠ w.dest ∧ s.worm 1 = none) ∧
    (let w := { tWorm .source 0 8 0x403F000000 with src := 5 }
     let s := tWorms w
     s.worm 0 = some w ∧ s.held w = false ∧ getBit ((s.stop 5).lvw 5 w.resp) 31 = true ∧ (1 + w.len) * 65536 ≤ (s.stop 5).content 5 w.resp ∧
       ({ spent1 := 32 * 65536 } : Stop).content 5 false < (1 + w.len) * 65536) ∧
    (let w := tWorm .source 0 8 0x403F000000
     (((tWorms w).setDom 0x4F { state := .clockOff }).access 0x4F w.dma).1 = .wait ∧
       (((tWorms w).setDom 0x4F { state := .off, locked := true }).access 0x4F w.dma).1 = .locked) ∧
    (tWorms (tWorm .target 0 8 0)).worm 0 = some (tWorm .target 0 8 0) := by
  decide +kernel

theorem test_request_premises :
    (let ok (w : Worm) : Bool :=
       let s := tWorms w
       s.worm 0 == some w && s.turn w && !s.mem.held.any (fun h => h.worm == 0) && s.mayReach w && !s.unmapped w && !w.badAtomic &&
         !s.padWaits w && !s.waitsFill w
     ok (tWorm .target 0 8 0x403F0FFE00) = true ∧ ok { tWorm .target 1 1 0x403F0FFFC0 with payload := [0] } = true ∧
       ok { tWorm .target 4 1 0x403F0FFFF8 with payload := [0] } = true ∧ ok { tWorm .target 5 1 0x403F0FFFC0 with payload := [0] } = true) ∧
    (let w := { tWorm .target 0 1 0x403F000000 with src := 66 }
     (tWorms w).mayReach w = false ∧ 64 ≤ w.src) ∧
    (let w := { tWorm .target 0 1 0x403F000000 with src := 62 }
     let s := ((tWorms w).setSash 62 { cfg := { site := some 3 } }).setSite 3 { state := .running }
     s.mayReach w = false ∧ s.siteOf 62 = some 3 ∧ (s.site 3).state = .running) ∧
    (let w := tWorm .target 0 1 0x403F0FFFF8
     (tWorms w).mayReach w = true ∧ (tWorms w).unmapped w = true) ∧
    (let w := tWorm .target 2 1 0x403F000002
     (tWorms w).unmapped w = false ∧ w.badAtomic = true) := by
  decide +kernel

theorem test_request_wait_premises :
    (let w := tWorm .target 0 1 0x403F000000
     let s := (tWorms w).setSash 63 { cfg := { site := some 3 }, portUsed := true }
     s.mayReach w = true ∧ s.unmapped w = false ∧ w.badAtomic = false ∧ s.padWaits w = true) ∧
    (let w := { tWorm .target 1 1 0x40 with dest := 76, payload := [0] }
     let s : State := { tWorms w with mem := { chans := [(0, { trained := true })] } }
     let full : State := { s with mem := { s.mem with fills := [1, 2, 3, 4, 5, 6, 7, 8, 9] } }
     s.mayReach w = true ∧ s.unmapped w = false ∧ w.badAtomic = false ∧ s.padWaits w = false ∧ s.waitsFill w = true ∧ s.fillsFull w = false ∧
       full.fillsFull w = true) := by
  decide +kernel

theorem test_answer_premises :
    ([8, 9, 10, 15].all fun t =>
      let w := { tWorm .target t 0 0 with dest := 80, src := 63 }
      (tWorms w).worm 0 == some w && w.place == .target && (tWorms w).turn w && w.owner == .ctl) = true ∧
    (tWorms (tWorm .source 8 0 0)).worm 0 = some (tWorm .source 8 0 0) ∧
    (let s := State.reset.setStop 81 { drain := .draining 8 }
     (s.stop 81).drain = .draining 8 ∧ s.stopEmpty 81 = true) ∧
    ((State.reset.setStop 81 { drain := .waiting 1 }).stop 81).drain = .waiting 1 ∧ (State.reset.stop 81).drain = .idle := by
  decide +kernel

/-- Lane 63 as given, its sash the only one of site 3 in this state. -/
def tLane (l : Lane) (st : SiteState) : State :=
  ((State.reset.setSash 63 { cfg := { site := some 3 } }).setSite 3 { state := st, origin := l.origin, img := { sashes := [63] } }).setLane 63 l

theorem test_origin_premises :
    (let s := tLane { mode := .pin } .running
     (s.site 3).state = .running ∧ (s.site 3).origin = false ∧ s.codedLanes 3 = [63] ∧ (s.lane 63).cfg.lead ≤ (s.site 3).sinceStart ∧
       (s.lane 63).filled = true) ∧
    (tLane {} .running).codedLanes 3 = [] ∧ ((tLane {} .armed).site 3).state ≠ .running := by
  decide +kernel

theorem test_send_premises :
    (let l : Lane := { mode := .pin, txIdle := false, origin := true, cfg := { k := 1, rpt := 1 } }
     let s := tLane l .running
     s.siteOf 63 = some 3 ∧ (s.lane 63).mode = .pin ∧ (s.lane 63).txIdle = false ∧ s.dataDue 3 63 = true ∧ (tLane l .halted).dataDue 3 63 = false ∧
       (tLane l .faulted).dataDue 3 63 = false ∧ ((tLane l .halted).site 3).state = .halted ∧ ((tLane l .halted).lane 63).calib = none ∧
       State.reset.siteOf 63 = none) ∧
    (let s := tLane { mode := .link, txIdle := false, link := { tx := [(0xE2, 0)] } } .running
     (s.lane 63).mode = .link ∧ (s.lane 63).link.tx = [(0xE2, 0)] ∧ ({} : LinkState).tx = []) ∧
    (let l : Lane := { mode := .direct, origin := true, patFifo := [(5, 0)], cfg := { source := 1, k := 1, rpt := 1 } }
     let s := tLane l .running
     s.siteOf 63 = some 3 ∧ s.dataDue 3 63 = true ∧ (s.lane 63).cfg.source ≠ 2 ∧ (s.lane 63).patFifo = [(5, 0)] ∧
       ({ l with patFifo := [] } : Lane).patFifo = [] ∧ (tLane l .halted).dataDue 3 63 = false) ∧
    ({ cfg := { source := 2 } } : Lane).cfg.source = 2 ∧ (State.reset.lane 63).mode = .idle := by
  decide +kernel

/-- A calibration owes a LOOPBACK frame in its steps 2 and 4 (R200). -/
theorem test_loopback_premises :
    (let l : Lane := { mode := .pin, txIdle := false, calib := some { stage := 2, sent := 255 }, cfg := { k := 1, rpt := 1 } }
     let s := tLane l .armed
     (s.lane 63).mode = .pin ∧ (s.lane 63).txIdle = false ∧ s.dataDue 3 63 = false ∧
       ((s.lane 63).applyLater 0).calib = some { stage := 2, sent := 255 }) ∧
    (({ stage := 2, sent := 255 } : CalRun).frameDue 512).isSome = true ∧ ({ stage := 2, sent := 256 } : CalRun).frameDue 512 = none ∧
    (({ stage := 4 } : CalRun).frameDue 512).any (fun r => r.2 == 8) = true := by
  decide +kernel

theorem test_pin_crc_data : pinCrc 0xD94D00000000FFF1 0 = 0xD94D := by decide +kernel
theorem test_pin_crc_idle : pinCrc 0x94B0080000000002 0 = 0x94B0 := by decide +kernel
theorem test_pin_crc_loopback : pinCrc 0xC53C00000000FFF3 0 = 0xC53C := by decide +kernel
theorem test_pin_crc_plain_idle : pinCrc 0xFDDE00000000FFF2 0 = 0xFDDE := by decide +kernel

theorem test_receive_premises :
    (let s := tLane { mode := .pin, lock := true, origin := true, rxFcnt := some 0xFFF } .running
     (s.lane 63).mode = .pin ∧ (s.lane 63).lock = true ∧ s.siteOf 63 = some 3 ∧ (s.site 3).state = .running ∧ (s.lane 63).origin = true ∧
       (s.lane 63).rxFcnt = some 0xFFF ∧ (State.reset.lane 63).mode ≠ .pin) ∧
    (let h := 0xD94D00000000FFF1
     bits h 0 4 = 1 ∧ bits h 4 12 = 0xFFF ∧ bit h 43 = false ∧ bit h 44 = false ∧ bits h 48 16 = 0xD94D) ∧
    (let h := 0x94B0080000000002
     bits h 0 4 = 2 ∧ bits h 4 12 ≠ 0xFFF ∧ bit h 43 = true ∧ bits h 48 16 = 0x94B0) ∧
    (let h := 0xC53C00000000FFF3
     bits h 0 4 = 3 ∧ bits h 4 12 = 0xFFF ∧ bit h 43 = false) ∧
    (let h := 0xFDDE00000000FFF2
     bits h 0 4 = 2 ∧ bits h 4 12 = 0xFFF ∧ bit h 43 = false) ∧
    (4 : Nat) ∉ [1, 2, 3] := by
  decide +kernel

theorem test_direct_premises :
    (let l : Lane := { mode := .direct, lock := true, origin := true, rxWords := 1023, txWords := 1024, echo := List.replicate 1024 7,
                       cfg := { rawcmp := 2, dcmpOff := 1023 } }
     let s := tLane l .running
     s.siteOf 63 = some 3 ∧ (s.site 3).state = .running ∧ (s.lane 63).mode = .direct ∧ (s.lane 63).lock = true ∧
       (s.lane 63).slipDue = 0 ∧ (s.lane 63).rxRest = 0 ∧ (s.lane 63).rxRestLen = 0 ∧
       (let r := (s.lane 63).rxBits 9
        r.2 = some 9 ∧ r.1.origin = true ∧ r.1.cfg.rawcmp = 2 ∧ r.1.cfg.dcmpOff ≤ r.1.rxWords ∧
          r.1.rxWords - r.1.cfg.dcmpOff < r.1.txWords ∧
          r.1.echo[r.1.txWords - 1 - (r.1.rxWords - r.1.cfg.dcmpOff)]? = some 7) ∧
       ({ l with rxWords := 1022 } : Lane).rxWords < l.cfg.dcmpOff) ∧
    (({ slipDue := 1 } : Lane).rxBits 9).2 = none ∧ ((({ origin := false } : Lane).rxBits 9).1).origin = false ∧
    (({ cfg := { rawcmp := 1 }, chk := { locked := true } } : Lane).rxBits 9).1.cfg.rawcmp = 1 ∧
    ((State.reset.lane 63).rxBits 9).1.cfg.rawcmp ≠ 1 ∧ ((State.reset.lane 63).rxBits 9).1.cfg.rawcmp ≠ 2 ∧
    ((State.reset.lane 63).mode ≠ .direct) := by
  decide +kernel

/-- Site 3 of sash 63 RUNNING with this fail path on lane 63 and one buffer line. -/
def tFail (p : FailPath) : State :=
  ((State.reset.setSash 63 { cfg := { site := some 3 } }).setSite 3
    { state := .running, img := { sashes := [63], failcfg := { present := true, fbufLines := 1 } } }).setLane 63 { mode := .pin, fail := p }

theorem test_fail_premises :
    State.reset.siteOf 63 = none ∧ (State.reset.lane 63).fail.fifo = [] ∧ (State.reset.lane 63).fail.buf = [] ∧
    ((State.reset.modSash 63 fun x => { x with portUsed := true }).sash 63).portFree = false ∧
    (let s := tFail { fifo := [5] }
     s.siteOf 63 = some 3 ∧ (s.lane 63).fail.fifo ≠ [] ∧ (s.sash 63).portFree = true ∧
       ((s.setSite 3 { s.site 3 with img := {} }).site 3).img.failcfg.present = false ∧ (s.site 3).img.failcfg.present = true ∧
       (s.lane 63).fail.lines < (s.site 3).img.failcfg.fbufLines) ∧
    (let s := tFail { buf := List.replicate 32 (0, 5) }
     s.siteOf 63 = some 3 ∧ (s.sash 63).portFree = true ∧ 32 ≤ (s.lane 63).fail.buf.length ∧ (s.lane 63).fail.buf ≠ []) ∧
    (let s := (tFail {}).modFl 3 fun f => { f with closing := true, open_ := true }
     (s.site 3).fl.closing = true ∧ s.failWorms (s.site 3).img.sashes = false ∧ (s.site 3).img.sashes = [63] ∧ (s.lane 63).fail.fifo = [] ∧
       (s.lane 63).fail.buf = [] ∧ (State.reset.site 3).fl.closing = false) := by
  decide +kernel

/-- Site 3 RUNNING in cycle `c` with depth 4 and this run-ahead state, of the one sash 63. -/
def tRun (c : BitVec 48) (r : RunAhead) (pol : BitVec 8) : State :=
  (State.reset.setSash 63 { cfg := { site := some 3 } }).setSite 3
    { state := .running, cycle := c, ra := r, img := { sashes := [63], depth := 4, policy := pol, ckptLines := 64 } }

theorem test_run_ahead_premises :
    (let s := tRun 8 { oldest := 7 } 0
     let x := s.site 3
     x.img.depth ≠ 0 ∧ x.state = .running ∧ x.ra.state ≠ .rollback ∧ s.cycleDone 3 x.ra.oldest = true ∧ s.cycleChecked 3 x.ra.oldest = true ∧
       s.cycleDecoded 3 x.ra.oldest = true ∧
       (State.reset.site 3).state ≠ .running ∧
       (let u := (s.siteSashes 3).foldl (fun s i => (s.runCompares 3 i fun e => e.cycle == x.ra.oldest).captureChecks 3 i x.ra.oldest true) s
        (u.site 3).ra.stopAt = none)) ∧
    (tRun 8 { oldest := 7, stopAt := some 7 } 0).cycleDone 3 7 = true ∧
    (let s := tRun 8 { oldest := 7, found := [(7, 0, 0, 0, 0)], transomHinges := [6] } 2
     lowestDiv (s.site 3).ra.found = some (7, 0, 0, 0, 0) ∧ s.checksBefore 3 0 = true ∧ (s.site 3).img.policy = 2 ∧
       (s.site 3).draining = false ∧ (∀ h ∈ (s.site 3).ra.transomHinges, h < 7) ∧ (∃ h ∈ [7], 7 ≤ h) ∧
       ((s.modSite 3 fun x => { x with draining := true }).site 3).draining = true ∧ ((tRun 8 {} 1).site 3).img.policy = 1 ∧
       ((tRun 8 {} 0).site 3).img.policy = 0 ∧ lowestDiv ((tRun 8 {} 0).site 3).ra.found = none) ∧
    (let s := tRun 8 { state := .rollback, target := some 7 } 2
     (s.site 3).ra.state = .rollback ∧ (s.site 3).ra.target = some 7 ∧ s.flitsOf 3 = false ∧ ((s.undoSite 3 7).site 3).state = .running ∧ (State.reset.site 3).ra.target = none) ∧
    (let s := (tRun 8 {} 2).modSash 63 fun x => { x with delta := x.delta.close 7 }
     s.siteOf 63 = some 3 ∧ (s.sash 63).portFree = true ∧ s.failPortDue 63 63 = false ∧ s.failPortDue 3 63 = false ∧
       ((State.reset.sash 63).delta.next false = 0) ∧ (s.sash 63).delta.next false ≠ 0 ∧ (s.sash 63).delta.full (s.site 3).img.ckptLines = false) := by
  decide +kernel

theorem test_trigger_premises :
    (let u : Trig := { state := .ready, fifo := [1, 2, 3] }
     u.fifo ≠ [] ∧ u.state = .ready ∧ State.reset.trigPort 63 = true ∧ ({} : Trig).fifo = [] ∧
       (State.reset.modSash 63 fun x => { x with portUsed := true }).trigPort 63 = false) ∧
    (let u : Trig := { cfg := { spill := true }, stage := [(0, 1)] }
     u.cfg.spill = true ∧ u.stage ≠ []) ∧
    (let u : Trig := { cfg := { postSlots := 5 }, state := .post, trigGrid := 5, slot := 11 }
     u.state = .post ∧ u.cfg.postSlots ≠ 0 ∧ u.trigGrid + u.cfg.postSlots < u.slot ∧ ({} : Trig).state ≠ .post ∧ ({} : Trig).cfg.spill = false ∧
       (State.reset.sash 63).portFree = true) := by
  decide +kernel

/-- Core 7 of casement 3 runs task 9 with these registers. -/
def tCore (r : CoreRegs) : State :=
  (State.reset.setTask 9 (some { tTask with state := .running 7, qdepth := 1 })).modCasm 3 fun c =>
    { c with cores := [(7, r)], running := [(7, some 9)] }

theorem test_dsp_register_premises :
    (tCore {}).issuing 3 7 = some 9 ∧ State.reset.issuing 3 7 = none ∧ (15 : Nat) < 16 ∧ (1 : Nat) ≤ 24 ∧ vamount 15 0 < 16 := by decide +kernel

theorem test_dsp_memory_premises :
    (let r : CoreRegs := { a := [(7, 0x3FFFE0)], b := [(7, 0x3FFFC0)], l := [(7, 64)] }
     let s := tCore r
     s.issuing 3 7 = some 9 ∧ (s.core 3 7).rep = 1 ∧ (s.core 3 7).genOk 7 32 (-64) = true ∧ (s.core 3 7).genOk 7 4 4 = true ∧
       (s.core 3 7).genOk 7 32 65 = false ∧ (s.memRead (coreAddr 3 7 0x3FFFE0) 32).2.1 = false) ∧
    (let s := tCore { a := [(7, 0x200000)] }
     let s : State := { s with mem := { s.mem with valid := [(casAddr 3 0x200000 / 8, true)], check := [(casAddr 3 0x200000 / 8, some .poison)] } }
     (s.core 3 7).genOk 7 32 0 = true ∧ (s.memRead (coreAddr 3 7 0x200000) 32).2.1 = true) ∧
    (let r : CoreRegs := { z := true, l := [(7, 64)] }
     r.z = true ∧ r.n = false ∧ tget 0 r.l 7 ≠ 0 ∧ tget 0 r.l 6 = 0) := by
  decide +kernel

theorem test_dsp_dispatcher_premises :
    (let s := (tCore {}).setTask 10 (some { tTask with qdepth := 1 })
     s.issuing 3 7 = some 9 ∧ (s.task 9).isSome = true ∧ (s.task 10).any (fun y => y.cas == 3 && decide (y.queue.length < y.qdepth)) = true ∧
       ((s.enqueue 10 5).task 10).any (fun y => decide (y.qdepth ≤ y.queue.length)) = true ∧
       ((s.issued 3 7 9 4 {}).task 10).any (·.cas == 3) = true ∧ waitOk 1 true 1 = true ∧ waitOk 2 false 1 = false ∧
       s.nextItem 3 [0xFFFF] = some 0xFFFF ∧ s.nextItem 3 [] = none ∧ coreRange 0x3FFFB8 72 = true ∧
       (s.memRead (coreAddr 3 7 0x3FFFB8) 72).2.1 = false ∧ coreRange 0x3FFFC0 72 = false ∧ coreRange 0x3FFFE0 64 = false ∧
       kindUnit 0 = none ∧ s.task 11 = none ∧ (s.task 9).any (fun y => decide (y.qdepth ≠ 5)) = true) ∧
    (let s := tCore {}
     let s : State := { s with mem := { s.mem with valid := [(casAddr 3 0x200000 / 8, true)], check := [(casAddr 3 0x200000 / 8, some .poison)] } }
     coreRange 0x200000 72 = true ∧ (s.memRead (coreAddr 3 7 0x200000) 72).2.1 = true ∧ (s.memRead (coreAddr 3 7 0x200000) 64).2.1 = true) ∧
    (let s := (tCore {}).memWrite (coreAddr 3 7 0x200000) (1 :: List.replicate 63 0)
     let m := s.memRead (coreAddr 3 7 0x200000) 64
     coreRange 0x200000 64 = true ∧ m.2.1 = false ∧ kindUnit (fld m.1 0 1) = some .fft ∧
       (m.2.2.setTask 0 (some tTask)).accelOk 3 m.1 = true ∧ ((m.2.2.casm 3).queueOf .fft).length < 32 ∧
       ((({} : Casement).setQueue .fft (List.replicate 32 ⟨0, m.1, 9, 7, none, false, false⟩)).queueOf .fft).length = 32) := by
  decide +kernel

theorem test_dispatcher_events_premises :
    (let s := ((tCore {}).setTask 10 (some { tTask with prio := 9, cores := 0x80 })).modCasm 3 fun c => { c with ready := [10] }
     s.issuing 3 7 = some 9 ∧ (s.task 10).any (fun t => t.cas == 3 && s.mayRun 7 t && s.victim t == some 7) = true ∧ (s.core 3 7).rep = 1) ∧
    (let s := (tCore {}).modTask 9 fun t => { t with deadlineClass := true, budget := 5, used := 5 }
     s.onCore 3 7 = some 9 ∧ (s.task 9).any (fun t => t.deadlineClass && decide (t.budget ≤ t.used)) = true) ∧
    (let x : XferPend := ⟨true, 0x3FFFC0, sashBase, 1, 9, 27, 9, 7, true, 0, none⟩
     let s := (tCore {}).modCasm 3 fun c => { c with xfers := [x] }
     (s.casm 3).xfers = [x] ∧ x.sent = true ∧ x.left = 0 ∧ x.bad = none ∧ ({ x with bad := some (Code.DI_POISON_READ, 5) } : XferPend).bad ≠ none ∧
       ({ x with left := 1 } : XferPend).left ≠ 0 ∧ (State.reset.casm 3).xfers = []) ∧
    (tCore {}).task 9 ≠ none ∧ State.reset.task 9 = none ∧ State.reset.issuing 3 7 = none ∧ State.reset.onCore 3 7 = none := by
  decide +kernel

/-- Casement 3 with this one descriptor in the queue of `u`, and a stream of it. -/
def tDesc (u : AccelUnit) (b : List Byte) : AccelDesc × State :=
  let d : AccelDesc := ⟨0x200000, bytesAt b 0 64, 9, 7, none, false, false⟩
  (d, (tCore {}).modCasm 3 fun c => ({ c with ctx := [(7, { nsc := 1 })] } : Casement).setQueue u [d])

theorem test_accel_premises :
    (let x := tDesc .fft [1]
     x.2.toServe 3 .fft = some x.1 ∧ x.1.kind = 1 ∧ (x.2.memRead (casAddr 3 (x.1.n 8 4)) x.1.srclen).2.1 = false) ∧
    (let x := tDesc .encoder [2]
     x.2.toServe 3 .encoder = some x.1 ∧ x.1.kind = 2) ∧
    (let x := tDesc .decoder [3]
     x.2.toServe 3 .decoder = some x.1 ∧ x.1.kind = 3) ∧
    (let x := tDesc .mapper (4 :: List.replicate 11 0 ++ leBytes 4 4 ++ leBytes 0 4 ++ leBytes 4 4 ++ List.replicate 8 0 ++ [7])
     x.2.toServe 3 .mapper = some x.1 ∧ x.1.kind = 4 ∧ x.1.n 0x20 1 < 8 ∧ ((x.2.casm 3).ctxAt 7).nsc ≠ 0 ∧ ((x.2.casm 3).ctxAt 7).swap = false ∧
       x.1.paramClean [(0x20, 1)] = true ∧ bitSum ((x.2.casm 3).ctxAt 7).entries ≤ 8 * x.1.srclen ∧ 4 * ((x.2.casm 3).ctxAt 7).nsc ≤ x.1.dstlen ∧
       4 * ((x.2.casm 3).ctxAt 7).nsc ≤ x.1.srclen ∧ (x.2.memRead (casAddr 3 (x.1.n 8 4)) x.1.srclen).2.1 = false) ∧
    (let x := tDesc .mapper (6 :: List.replicate 11 0 ++ leBytes 4 4 ++ leBytes 0 4 ++ leBytes 2 4 ++ List.replicate 8 0 ++ [7, 0, 0, 0, 1, 0])
     x.2.toServe 3 .mapper = some x.1 ∧ x.1.kind = 6 ∧ x.1.paramClean [(0x20, 1), (0x24, 2)] = true ∧ x.1.n 0x24 2 = 1 ∧
       4 * ((x.2.casm 3).ctxAt 7).nsc * x.1.n 0x24 2 ≤ x.1.srclen ∧ 2 * ((x.2.casm 3).ctxAt 7).nsc ≤ x.1.dstlen) ∧
    (let x := tDesc .rebuilder (7 :: List.replicate 11 0 ++ leBytes 2 4 ++ List.replicate 16 0 ++ [7, 0, 0xFF, 0xFF, 12])
     x.2.toServe 3 .rebuilder = some x.1 ∧ x.1.kind = 7 ∧ x.1.paramClean [(0x20, 1), (0x22, 3)] = true ∧ x.1.n 0x24 1 ≤ 12 ∧
       2 * ((x.2.casm 3).ctxAt 7).nsc ≤ x.1.srclen) ∧
    (let x := tDesc .rebuilder (8 :: List.replicate 31 0 ++ [7])
     x.2.toServe 3 .rebuilder = some x.1 ∧ x.1.kind = 8 ∧ x.1.n 0x20 1 < 8 ∧ x.1.paramClean [(0x20, 1)] = true) := by
  decide +kernel

theorem test_accel_stream_premises :
    (let x := tDesc .burst (9 :: List.replicate 31 0 ++ [4, 0, 0, 0] ++ leBytes 128 4 ++ leBytes 5 8)
     let st := { tStream false with ramp := true }
     let s := x.2.setStream 4 (some st)
     s.toServe 3 .burst = some x.1 ∧ x.1.kind = 9 ∧ s.stream (x.1.n 0x20 1) = some st ∧ st.cas = 3 ∧ st.rx = false ∧ 128 ≤ x.1.n 0x24 4 ∧
       st.idx * st.interp ≤ x.1.n 0x28 8 ∧ st.bursts.any (·.overlaps ⟨x.1.n 0x28 8, x.1.n 0x24 4⟩) = false ∧
       x.1.paramClean [(0x20, 1), (0x24, 12)] = true) ∧
    (let x := tDesc .psrel (10 :: List.replicate 31 0 ++ [4, 1])
     let s := x.2.setStream 4 (some (tStream true))
     s.toServe 3 .psrel = some x.1 ∧ x.1.kind = 0xA ∧ s.stream (x.1.n 0x20 1) = some (tStream true) ∧ x.1.n 0x21 1 < 2 ∧
       x.1.paramClean [(0x20, 2)] = true) ∧
    (let x := tDesc .gain (11 :: List.replicate 31 0 ++ [3, 32, 64])
     x.2.toServe 3 .gain = some x.1 ∧ x.1.kind = 0xB ∧ x.1.n 0x20 1 ≤ 3 ∧ x.1.n 0x21 1 = 32 ∧ x.1.n 0x22 1 = 64 ∧ x.1.n 0x28 8 = 0 ∧
       x.1.paramClean [(0x20, 3), (0x24, 12)] = true ∧ (x.2.fePort 3).queue.length < 16) ∧
    (let d : AccelDesc := ⟨0x200000, bytesAt [1, 27, 9, 0] 0 64, 9, 7, some 0, false, false⟩
     let s := (tCore {}).modCasm 3 fun c => c.setQueue .fft [d]
     ((s.casm 3).queueOf .fft).find? (·.result.isSome) = some d ∧ d.result = some 0 ∧ (s.casm 3).accHeld.any (·.1 == unitNo .fft) = false ∧
       d.kind ≠ 7 ∧ bit (d.n 1 1) 5 = false ∧ (s.task (d.n 2 2)).any (·.cas == 3) = true) := by
  decide +kernel

/-- The other answers of the accelerators: no descriptor, a rule broken, a poisoned input, a full port, a past AT, an item completion. -/
theorem test_accel_other_premises :
    State.reset.toServe 3 .fft = none ∧ ((State.reset.casm 3).queueOf .fft).find? (·.result.isSome) = none ∧
    (let x := tDesc .mapper (5 :: List.replicate 31 0 ++ [8])
     x.2.toServe 3 .mapper = some x.1 ∧ x.1.kind = 5 ∧ 8 ≤ x.1.n 0x20 1) ∧
    (let x := tDesc .rebuilder (8 :: List.replicate 31 0 ++ [8])
     x.2.toServe 3 .rebuilder = some x.1 ∧ x.1.kind = 8 ∧ 8 ≤ x.1.n 0x20 1) ∧
    (let x := tDesc .burst (9 :: List.replicate 31 0 ++ [4])
     x.2.toServe 3 .burst = some x.1 ∧ x.1.kind = 9 ∧ x.2.stream (x.1.n 0x20 1) = none) ∧
    (let x := tDesc .psrel (10 :: List.replicate 31 0 ++ [4, 2])
     x.2.toServe 3 .psrel = some x.1 ∧ x.1.kind = 0xA ∧ ¬x.1.n 0x21 1 < 2) ∧
    (let x := tDesc .gain (11 :: List.replicate 31 0 ++ [3, 32, 64, 0, 0, 0, 0, 0] ++ leBytes 5 8)
     let s : State := { x.2 with time := { x.2.time with counter := 6 * 2 ^ 40 } }
     s.toServe 3 .gain = some x.1 ∧ x.1.kind = 0xB ∧ x.1.n 0x28 8 = 5 ∧ x.1.n 0x28 8 < s.time.ns ∧ ¬x.1.n 0x28 8 < State.reset.time.ns) ∧
    (let x := tDesc .gain (11 :: List.replicate 31 0 ++ [4])
     x.2.toServe 3 .gain = some x.1 ∧ x.1.kind = 0xB ∧ ¬x.1.n 0x20 1 ≤ 3) ∧
    (let s := (tCore {}).modCasm 3 fun c => { c with accHeld := [(unitNo .fft, 9, 0)] }
     (s.casm 3).accHeld.any (·.1 == unitNo .fft) = true) ∧
    (let d : AccelDesc := ⟨0x200000, bytesAt [1, 32, 9, 0] 0 64, 9, 7, some 0, false, false⟩
     let s := (tCore {}).modCasm 3 fun c => c.setQueue .fft [d]
     bit (d.n 1 1) 5 = true ∧ (s.task (d.n 2 2)).any (fun t => decide (t.queue.length < t.qdepth)) = true) := by
  decide +kernel

theorem test_stream_block_premises :
    (let l : StreamLink := { tLink true with lemc := some 4, monitor := true, lock := true, mb := 1 }
     let st : Stream := { tStream true with started := true, rxBuf := List.replicate 128 7 }
     let s := (State.reset.setSlink 1 (some l)).setStream 4 (some st)
     s.slink 1 = some l ∧ l.rx = true ∧ l.mb ≠ 0 ∧ (List.replicate (64 * l.lanes) (0 : BitVec 32)).length = 64 * l.lanes ∧
       l.onLemc (5 - 4) = false ∧ l.onLemc (4 - 4) = true ∧
       s.stream 4 = some st ∧ 128 ≤ st.rxBuf.length ∧ s.streamHeld st = false ∧ (s.louvreTake (s.streamStop st).1 false 9).isSome = true ∧
       ((s.setStop 8 ((s.stop 8).setSpent false 0x7FFFFFFF)).louvreTake (s.streamStop st).1 false 9).isNone = true) ∧
    (let l : StreamLink := { tLink true with lock := false }
     let s := State.reset.setSlink 1 (some l)
     s.slink 1 = some l ∧ l.lemc = none ∧ l.lock = false ∧ State.reset.slink 1 = none ∧ State.reset.stream 4 = none) ∧
    (let st : Stream := { tStream false with started := true }
     let s := State.reset.setStream 4 (some st)
     s.stream 4 = some st ∧ (s.louvreTake (s.streamStop st).1 true 9).isSome = true ∧ s.streamHeld st = false) ∧
    (let st : Stream := { tStream false with start := 5 }
     st.started = false ∧ State.reset.time.ns < st.start) ∧
    (let st : Stream := tStream true
     let s := (State.reset.setSlink 1 (some (tLink true))).setStop 8 { drain := .draining 3 }
     (s.slink st.link).isSome = true && s.streamHeld st) := by
  decide +kernel

theorem test_stream_monitor_premises :
    (let st := { tStream false with avg := 1, idx := 256, interp := 1 }
     let s := State.reset.setStream 4 (some st)
     let b : List Int := 3 :: List.replicate 255 0
     s.stream 4 = some st ∧ b.length = 256 ∧ st.monAt + 256 * st.avg ≤ st.idx * st.interp ∧
       (let excess (j : Nat) : Int := b.getD j 0 - (tget 0 st.mask j).toInt
        0 < excess 0 ∧ ∀ i, i < 256 → excess i ≤ excess 0 ∧ (i < 0 → excess i < excess 0))) ∧
    (let st := { tStream true with hyp := [(1, { reflen := 16, th := 2 })], idx := 9 }
     let s := State.reset.setStream 4 (some st)
     s.stream 4 = some st ∧ (8 : BitVec 64).toNat < st.idx + st.rxBuf.length ∧ (tget {} st.hyp 1).reflen ≠ 0 ∧
       (tget {} st.hyp 1).th.toNat * 65536 ≤ (0x20000 : BitVec 32).toNat ∧ (5 : BitVec 32).toNat < (tget {} st.hyp 1).th.toNat * 65536 ∧
       st.path0 = none ∧ st.heldItems = [] ∧
       ({ st with heldItems := [0, 1, 2, 3] } : Stream).heldItems.length = 4) ∧
    (let c : Capture := { p := 3, strength := 4 }
     let st (pol : BitVec 8) : Stream := { tStream true with path0 := some c, path1 := some { c with strength := 3 }, policy := pol, swm := 1 }
     (st 0).choosePath 9 = none ∧ (st 1).choosePath 5 = some (0, some c) ∧ (st 1).choosePath 4 = none ∧
       (st 2).choosePath 4 = some (1, some { c with strength := 3 }) ∧ ({ st 2 with path1 := none } : Stream).choosePath 0 = some (1, none)) ∧
    (let c : Capture := { p := 3, strength := 4 }
     let st := { tStream true with hyp := [(1, { reflen := 16, th := 2 })], path0 := some c, path1 := some c, policy := 0, idx := 9, maxlen := 6 }
     let s := State.reset.setStream 4 (some st)
     s.stream 4 = some st ∧ (8 : BitVec 64).toNat < st.idx ∧ c.p + st.maxlen ≤ st.idx + st.rxBuf.length) ∧
    (let s := State.reset.setFePort 2 { State.reset.fePort 2 with queue := [⟨8, 3, 7, none⟩, ⟨8, 3, 7, some 5⟩] }
     (s.fePort 2).queue = [⟨8, 3, 7, none⟩, ⟨8, 3, 7, some 5⟩] ∧ (0 : Nat) ≤ s.time.ns ∧ s.time.ns < 5) := by
  decide +kernel

theorem test_memory_event_premises :
    (let s : State := { State.reset with mem := { State.reset.mem with fills := [5] } }
     (s.mem.fills.find? fun x => s.mem.regionOn x (s.ddrMap ((5 : BitVec 22).toNat * 65536)).1) = some 5 ∧ State.reset.mem.fills = []) ∧
    (let t (full : Bool) (n : Nat) : MemStatus :=
       { ceHist := [(sashBase, 3)], remapFull := full, remap := (List.range n).map fun e => (e, some (e + 1)) }
     let s (full : Bool) (n : Nat) : State :=
       (State.reset.setMemSt 0 (t full n)).modDom 0x10 fun d => { d with state := .on }
     memIdOk 0 = true ∧ ((s false 0).dom (memDomain 0)).state = .on ∧ getBit ((s false 0).mctl 0) 30 = true ∧
       ((s false 0).memSt 0).entryOf ((s false 0).remapIndex 0 sashBase) = none ∧
       (((s false 0).memSt 0).ceHist.find? (·.1 == sashBase) = some (sashBase, 3) ∧ bits ((s false 0).mctl 0).toNat 24 4 ≤ 3) ∧
       ((s false 0).memSt 0).freeEntry 0 = some 0 ∧ ((s false 64).memSt 0).freeEntry 0 = none ∧ ((s true 64).memSt 0).freeEntry 0 = none) := by
  decide +kernel

theorem test_scrub_premises :
    (let s : State := (State.reset.modDom 0x10 fun d => { d with state := .on }).memWrite (padAddr 0 0) [1]
     let w := padAddr 0 0 / 8
     let c (x : WordCheck) : State := { s with mem := { s.mem with check := [(w, some x)] } }
     memIdOk 0 = true ∧ getBit (s.mctl 0) 31 = true ∧ (s.dom (memDomain 0)).state = .on ∧ s.scrubPort 0 = true ∧ memIdOk 0xFFFF = false ∧ memKind 0 ≠ 3 ∧ 0 < memLines 0 ∧
       memLine 0 0 / 8 = w ∧ s.mem.wordValid w = true ∧ s.mem.wordCheck w = none ∧ s.mem.wordValid (w + 1) = false ∧
       (c .correctable).mem.wordCheck w = some .correctable ∧ (c .uncorrectable).mem.wordCheck w = some .uncorrectable ∧
       (c .poison).mem.wordCheck w = some .poison ∧ (c .poison).mem.wordValid w = true ∧
       w ∈ (((c .correctable).scrubWord 0 w).memSt 0).rewrite) ∧
    (let s := (State.reset.setDdr 7 { State.reset.ddr 7 with trained := true, capGiB := 16 }).modDom 0x67 fun d => { d with state := .on }
     memKind 0x3007 = 3 ∧ memIdOk 0x3007 = true ∧ getBit (s.mctl 0x3007) 31 = true ∧ (s.dom (memDomain 0x3007)).state = .on ∧
       s.scrubPort 0x3007 = true ∧ (s.ddr (memIndex 0x3007)).trained = true ∧ 64 * 0 < (s.ddr (memIndex 0x3007)).cap) ∧
    (let s (ms : Nat) : State := { State.reset with power := { State.reset.power with ps := ms * 1000000000 } }
     (s 1001).lapMs 0 = 1001 ∧ (s 1000).lapMs 0 = 1000 ∧ bits ((s 1001).mctl 0).toNat 0 16 = 1000 ∧ ((s 1001).memSt 0).starved = false) := by
  decide +kernel

/-- Lane 8 in quad 2, which runs. -/
def tLane8 (l : Lane) : State :=
  ((State.reset.setQuad 2 { State.reset.quad 2 with lock := true, qrate := 28050 }).modDom (domQuad 2) fun d => { d with state := .on }).setLane 8 l

theorem test_lane_event_premises :
    (let s := tLane8 {}
     let u : State := { s with power := { s.power with clk := { s.power.clk with refLane := true } } }
     (u.quad 2).qrate ≠ 0 ∧ u.power.clk.refLane = true ∧ (u.dom (domQuad 2)).state = .on) ∧
    (let s (m : LaneMode) : State := tLane8 { mode := m }
     ((s .pin).quad (8 / 4)).lock = true ∧ ((s .pin).dom (domQuad (8 / 4))).state = .on ∧ ((s .pin).lane 8).lock = false ∧
       ((s .pin).lane 8).mode = .pin ∧ ((s .direct).lane 8).mode = .direct) ∧
    (let s (m : LaneMode) (x r : Bool) : State := tLane8 { mode := m, lock := true, exiting := x, rxIdle := r }
     ((s .pin false true).lane 8).lock = true ∧ ((s .pin false true).lane 8).exiting = false ∧ ((s .pin false true).lane 8).rxIdle = true ∧
       ((s .direct true false).lane 8).exiting = true ∧ ((s .direct true false).lane 8).rxIdle = false ∧ (s .pin false true).laneLive 8 = false) ∧
    (let l : Lane := { mode := .link, rate := 28050, txIdle := false, lctl := 0x00080000 }
     let s := ((tLane8 l).modSite 1 fun x => { x with img := { x.img with sashes := [8], sched := 400 } }).modSash 8 fun x =>
       { x with cfg := { x.cfg with site := some 1 } }
     (s.lane 8).mode = .link ∧ (s.lane 8).linkIdle = true ∧ s.siteOf 8 = some 1 ∧ (s.lane 8).link.tx = [] ∧ s.hingeRole 8 = false ∧
       s.idleLead 28050 + 64 ≤ s.linkGap 1 8) ∧
    (let s : State := { State.reset with power := { State.reset.power with key := { lane := some 9, samples := List.replicate 32 (3, 4) } } }
     s.power.key.lane = some 9 ∧ 32 ≤ s.power.key.samples.length ∧ State.reset.power.key.lane = none) ∧
    State.reset.siteOf 8 = none ∧ (State.reset.lane 8).lock = false ∧ (State.reset.quad 2).qrate = 0 := by
  decide +kernel

/-- This unit at position 3 of segment 0. -/
def tSeg (c : ChainState) : State := { State.reset with chain := { c with ua := 3, phys := 3 } }

/-- A frame of the unit at position 5. -/
def tFrom (typ : Nat) (dst : BitVec 18) (aux : Nat) (pay : List Byte) : ChainFrame :=
  ({ State.reset with chain := { ua := 5 } } : State).frame typ dst aux pay

/-- The ENUM frame of the unit at position 5, its first three positions taken, POS 2. -/
def tEnum : ChainFrame :=
  { hdr := frameHdr 0x31 16 uaBroadcast 5 2, payload := 7 :: List.replicate 127 0, crc := 1664398073, forward := true }

/-- One byte of its CRC. -/
def tCrcStep (r : Nat) (b : Byte) : Nat := (bitsLow b.toNat 8).foldl (crcRefl 0xEDB88320) r

theorem crc32_fold (bs : List Byte) : crc32 bs = bs.foldl tCrcStep 0xFFFFFFFF ^^^ 0xFFFFFFFF := rfl

theorem test_crc_head : (leBytes (frameHdr 0x31 16 uaBroadcast 5 2).toNat 8 ++ (7 :: List.replicate 31 0)).foldl tCrcStep 0xFFFFFFFF = 182876823 := by
  decide +kernel

theorem test_crc_middle : (List.replicate 48 (0 : Byte)).foldl tCrcStep 182876823 = 391569286 := by decide +kernel

theorem test_crc_tail : (List.replicate 48 (0 : Byte)).foldl tCrcStep 391569286 = 2630569222 := by decide +kernel

theorem test_enum_crc : frameCrc tEnum.hdr tEnum.payload = 1664398073 := by
  have h : leBytes tEnum.hdr.toNat 8 ++ tEnum.payload =
      (leBytes (frameHdr 0x31 16 uaBroadcast 5 2).toNat 8 ++ (7 :: List.replicate 31 0)) ++ (List.replicate 48 0 ++ List.replicate 48 0) := by
    decide +kernel
  rw [frameCrc, crc32_fold, h, List.foldl_append, List.foldl_append, test_crc_head, test_crc_middle, test_crc_tail]
  decide

theorem test_enum_premises :
    tEnum.typ = 0x31 ∧ tEnum.valid = true ∧ (tSeg {}).chain.forwardRx tEnum = true ∧ bit tEnum.aux 10 = false ∧
      bits tEnum.aux 0 10 + 1 ≤ 1023 ∧ getBit (mapOf tEnum.payload) (bits tEnum.aux 0 10 + 1) = false ∧
      getBit (mapOf (mapBytes 8)) 3 = true ∧ tEnum.src ≠ (tSeg {}).chain.ua ∧ (tSeg {}).chain.enum = none ∧
      (tSeg {}).chain.head = false ∧ (tSeg { head := true }).chain.head = true ∧
      (tSeg { enum := some (9, 5) }).chain.enum = some (9, tEnum.src) := by
  have v : tEnum.valid = true := by
    simp only [ChainFrame.valid, ChainFrame.crcOk, test_enum_crc]
    decide +kernel
  refine ⟨by decide +kernel, v, ?_⟩
  decide +kernel

theorem test_break_premises :
    (let b : Port := { State.reset.chain.inp with broken := true, idling := false, lock := true, healed := 16 }
     let s := tSeg { inp := b }
     (tSeg {}).chain.inp.broken = false ∧ (tSeg {}).chain.addressed = true ∧ (tSeg {}).chain.head = false ∧
       (s.chain.port .cynIn).broken = true ∧ (s.chain.port .cynIn).idling = false ∧ (s.chain.port .cynIn).lock = true ∧
       16 ≤ (s.chain.port .cynIn).healed ∧ (∀ n, n < 16 → s.chainHinged n = false) ∧
       ((tSeg { inp := { b with idling := true } }).chain.port .cynIn).idling = true) ∧
    (let f (aux : Nat) := tFrom 0x38 3 aux (leBytes 5 8)
     let s := tSeg { head := true, nunits := 9, breaks := [(4, 1, 3)] }
     (f 2).typ = 0x38 ∧ (f 2).valid = true ∧ (f 0).valid = true ∧ s.chain.forwardRx (f 2) = true ∧ s.chain.gw = none ∧
       s.chain.addressed = true ∧ (f 2).src ≠ s.chain.ua ∧ (f 2).seen = false ∧ (f 2).dst = s.chain.ua ∧ (f 2).dst ≠ uaBroadcast ∧
       bit (f 2).aux 1 = true ∧ bit (f 0).aux 1 = false) ∧
    (let s := tSeg { gw := some (1, 2), peers := [(7, some 4)] }
     let f := (({ State.reset with chain := { ua := 7 * 1024 + 5 } } : State).frame 0x33 3 0 [])
     s.chain.gw.isSome = true ∧ (tget none s.chain.peers (7 : BitVec 8).toNat).isSome = true ∧ (7 : BitVec 8).toNat ∉ s.chain.peerDown ∧
       f ≠ checkFrame false ∧ f ≠ checkFrame true ∧ f.typ ∈ [0x32, 0x33] ∧ uaSegment f.src ≠ uaSegment s.chain.ua ∧
       (7 : BitVec 8).toNat ≠ uaSegment s.chain.ua ∧ (7 : BitVec 8).toNat ∉ s.chain.segConflict) ∧
    (let s := (tSeg {}).modSite 2 fun x => { x with state := .armed, img := { x.img with nparts := 2, part := 1, parent := 0 } }
     s.chainHinged 2 = true) := by
  decide +kernel

theorem test_relay_premises :
    (let f := tFrom 0x32 3 0x203 [1, 2, 3, 4, 5, 6, 7, 8]
     let s := tSeg { rxSeq := [(5, some 3)] }
     f.valid = true ∧ f.typ = 0x32 ∧ bit f.aux 10 = false ∧ s.chain.forwardRx f = true ∧ s.chain.gw = none ∧ s.chain.addressed = true ∧
       f.src ≠ s.chain.ua ∧ s.chain.head = false ∧ f.dst = s.chain.ua ∧ f.dst ≠ uaBroadcast ∧
       tget none s.chain.rxSeq (rxKey f) = some (BitVec.ofNat 8 f.aux) ∧ tget none (tSeg {}).chain.rxSeq (rxKey f) ≠ some (BitVec.ofNat 8 f.aux) ∧
       bits f.aux 8 1 = 0 ∧ bit f.aux 9 = true ∧ bit (tFrom 0x32 3 3 [1, 2, 3, 4, 5, 6, 7, 8]).aux 9 = false) ∧
    (let f := tFrom 0x33 3 0x403 []
     let r : Relay := { owner := .none, ua := 5, seq := 3, isResp := true, unacked := [0], tries := 8, cmd := [], resp := [] }
     let s := tSeg { relays := [r, { r with tries := 9 }] }
     f.valid = true ∧ f.typ = 0x33 ∧ s.relayOf f (bit f.aux 10) = some r ∧ s.chain.relays[0]? = some r ∧
       s.chain.relays[1]? = some { r with tries := 9 } ∧ r.unacked ≠ []) := by
  decide +kernel

theorem test_chain_event_premises :
    (let f (k : Nat) := tFrom 0x35 uaBroadcast 0 (leBytes k 1 ++ [9] ++ leBytes 4 2 ++ leBytes 0 4 ++ leBytes 77 8 ++ leBytes 6 8)
     let x (st : SiteState) : Site := { state := st, cycle := 8, img := { nparts := 2, id := 77, depth := 4 } }
     let s (st : SiteState) := (tSeg {}).setSite 2 (x st)
     (f 1).valid = true ∧ (f 4).valid = true ∧ (f 1).typ = 0x35 ∧ fld (f 1).payload 0 1 = 1 ∧ (s .armed).namedSites 4 77 = [2] ∧
       ((s .armed).site 2).state = .armed ∧ ((s .armed).site 2).startAt = none ∧ fld (f 4).payload 0 1 = 4 ∧ (s .running).ownSite 77 = some 2 ∧
       ((s .running).site 2).state = .running ∧ ((s .running).site 2).ra.oldest ≤ fld (f 4).payload 16 6 ∧
       fld (f 4).payload 16 6 ≤ ((s .running).site 2).cycle.toNat) ∧
    (let f := tFrom 0x36 3 0 (leBytes 2 1 ++ [0] ++ leBytes 8 6 ++ leBytes 77 8)
     let s := (tSeg {}).setSite 2 { cycle := 8, img := { nparts := 2, id := 77, depth := 4 } }
     f.valid = true ∧ f.typ = 0x36 ∧ s.ownSite (fld f.payload 8 8) = some 2 ∧ fld f.payload 2 6 = (s.site 2).cycle.toNat) := by
  decide +kernel


theorem test_enum_other_premises :
    ({ tEnum with crc := 0 } : ChainFrame).valid = false ∧ (tSeg {}).chain.forwardRx { tEnum with forward := false } = false ∧
    (let f : ChainFrame := { tEnum with hdr := frameHdr 0x31 16 uaBroadcast 5 (1023 + 1024) }
     f.typ = 0x31 ∧ bits f.aux 0 10 = 1023 ∧ bit f.aux 10 = true ∧
       (tSeg { sticky := true, stickyUa := 9 }).chain.sticky = true ∧ uaSegment (9 : BitVec 18) = uaSegment f.src ∧
       getBit (mapOf (mapBytes 8)) (uaPosition 9) = false) ∧
    (tSeg { enum := some (9, 6) }).chain.enum = some (9, 6) ∧ tEnum.src ≠ 6 ∧ (tFrom 0x32 3 0 []).typ ≠ 0x31 := by
  have v : ({ tEnum with crc := 0 } : ChainFrame).valid = false := by
    have h : frameCrc ({ tEnum with crc := 0 } : ChainFrame).hdr ({ tEnum with crc := 0 } : ChainFrame).payload = 1664398073 := test_enum_crc
    simp only [ChainFrame.valid, ChainFrame.crcOk, h]
    decide +kernel
  refine ⟨v, ?_⟩
  decide +kernel

/-- The ways a frame is received that are no action: the reverse direction, the unit's own, SEEN at the head, a bad CRC32, a gateway's. -/
theorem test_arrive_premises :
    (let f := tFrom 0x36 3 0 (leBytes 0 16)
     let g : ChainFrame := { f with crc := f.crc ^^^ 1 }
     (tSeg {}).chain.forwardRx { f with forward := false } = false ∧ f.crcOk = true ∧ g.crcOk = false ∧ f.valid = true ∧ g.valid = false ∧
       (tSeg {}).chain.addressed = true ∧ g.dst = (tSeg {}).chain.ua ∧ ((tSeg {}).chain.arrive g).act = false ∧
       ((tSeg {}).chain.arrive g).own = false ∧ ((tSeg {}).chain.arrive f).act = true ∧
       (tSeg { head := true }).chain.head = true ∧ (f.mark true).seen = true ∧ ((tSeg {}).chain.arrive { f with hdr := frameHdr 0x36 2 4 3 0 }).act = false) ∧
    (let f := (tSeg {}).frame 0x36 5 0 (leBytes 0 16)
     (tSeg {}).chain.sentIt f = true ∧ f.crcOk = true ∧ ((tSeg {}).chain.arrive f).own = true) ∧
    (let s := tSeg { gw := some (1, 2), peers := [(7, some 4)] }
     s.chain.gatewayTakes (tFrom 0x33 (7 * 1024 + 4) 0 []) = true) ∧
    ((tFrom 0x36 3 0 (leBytes 0 16)).typ = 0x36 ∧ (0x31 : Nat) ≤ 0x36) := by
  decide +kernel

theorem test_relay_other_premises :
    (let f (aux : Nat) := tFrom 0x32 3 aux [1, 2, 3, 4, 5, 6, 7, 8]
     let r : Relay := { owner := .none, ua := 5, seq := 3, isResp := false, unacked := [], tries := 1, cmd := [1, 2, 3, 4], resp := [1, 2, 3, 4] }
     let s := tSeg { relays := [r] }
     s.relayOf (f 0x603) false = some r ∧ bits (f 0x703).aux 8 1 = 1 ∧ bits (f 0x603).aux 8 1 = 0 ∧ bit (f 0x603).aux 9 = true ∧
       bit (f 0x403).aux 9 = false ∧ fld (f 0x603).payload 0 2 = fld r.cmd 0 2 ∧ fld (f 0x603).payload 2 2 = fld r.cmd 2 2 ∧ r.resp ≠ [] ∧
       ({ r with resp := [] } : Relay).resp = [] ∧ fld (f 0x603).payload 0 2 ≠ fld [9, 9] 0 2 ∧ (tSeg {}).relayOf (f 0x603) false = none) ∧
    (let f := tFrom 0x32 3 0x303 [1, 2, 3, 4, 5, 6, 7, 8]
     let r : RelaySlot := ⟨5, 3, [1], false, false, none⟩
     ((tSeg { slots := [(16, some r)] }).chain.slots.find? fun e =>
         match e.2 with | some r => r.from_ == f.src && r.seq == 3 && r.bcast == (f.dst == uaBroadcast) | none => false) = some (16, some r) ∧
       (tSeg {}).chain.slots = [] ∧ bits f.aux 8 1 ≠ 0) ∧
    (tSeg {}).chain.relays[0]? = none ∧ (tSeg {}).relayOf (tFrom 0x33 3 3 []) false = none := by
  decide +kernel

theorem test_event_other_premises :
    (let u : Trig := { cfg := { exten := true, listen := 255 }, state := .ready }
     let s := ((tSeg {}).setSash 63 { cfg := { site := some 3 } }).setTrig 63 u
     63 ∈ s.listeners 255 ∧ 63 ∉ s.listeners 254) ∧
    (let f := tFrom 0x35 uaBroadcast 0 (leBytes 2 1 ++ [9] ++ leBytes 4 2 ++ leBytes 0 4 ++ leBytes 77 8 ++ leBytes 6 8)
     f.valid = true ∧ fld f.payload 0 1 = 2 ∧ ((tSeg {}).chain.arrive f).act = true) ∧
    (let f := tFrom 0x38 3 2 (leBytes 5 8)
     f.typ = 0x38 ∧ ((tSeg { head := true }).chain.arrive f).act = true ∧ (tSeg { head := true }).chain.head = true ∧ (tSeg {}).chain.head = false) ∧
    (tSeg {}).ownSite 77 = none := by
  decide +kernel

/-- Device time with role `r` and servo state `v`. -/
def tTime (r : Nat) (v : Servo) : TimeState := { tctl := BitVec.ofNat 32 (0x300 + 16 * r), servo := v }

theorem test_time_premises :
    (∀ v : Servo, (tTime 0 v).frozen = false ∧ (tTime 0 v).role = 0 ∧ (tTime 1 v).role = 1 ∧ (tTime 2 v).role = 2) ∧
    (let f := tFrom 0x34 uaBroadcast 0 (leBytes 0 24 ++ leBytes 5 8)
     let s : State := { tSeg {} with time := tTime 0 .unlocked }
     f.typ = 0x34 ∧ f.forward = true ∧ f.src ≠ s.chain.ua ∧ s.chain.head = false ∧ f.len = 4 ∧ f.payload.length = 32 ∧ f.crcOk = true ∧
       s.time.role = 0 ∧ s.time.servo = .unlocked ∧ s.chain.addressed = true) ∧
    (let f (aux : Nat) : ChainFrame := tFrom 0x37 uaBroadcast aux (leBytes 0 16)
     let s : State := { tSeg { inp := { State.reset.chain.inp with lock := true } } with time := { tTime 0 .locked with hopReq := some (3, 7) } }
     (f 14).typ = 0x37 ∧ (f 14).valid = true ∧ ({ f 14 with forward := false } : ChainFrame).valid = true ∧ bit (f 14).aux 0 = false ∧
       bit (f 15).aux 0 = true ∧ (f 15).valid = true ∧ s.time.hopReq = some (3, 7) ∧ (f 15).aux / 2 = (7 : BitVec 11).toNat ∧
       s.chain.inp.lock = true) ∧
    (let t : TimeState := { tTime 2 .locked with ptpBest := some ⟨1, 2, 3, 4, 5, 6⟩, ptpSyncAt := some (1, 2), ptpReqAt := some 3 }
     t.role = 2 ∧ t.ptpBest ≠ none ∧ t.ptpSyncAt = some (1, 2) ∧ t.ptpReqAt = some 3 ∧ t.servo ≠ .unlocked) := by
  refine ⟨fun v => by cases v <;> decide +kernel, ?_⟩
  decide +kernel

theorem test_timed_event_premises :
    (let e (tgt n : Nat) : Tev := { on := true, target := tgt, pol := false, width := 2, count := n, first := 3, period := 65536, done := 1, pulsing := true }
     let s (tgt n c : Nat) : State := ({ State.reset with time := { State.reset.time with counter := c } } : State).setTev 2 (e tgt n)
     ((s 1 2 (2 ^ 43)).tev 2).on = true ∧ ((s 1 2 0).tev 2).done < ((s 1 2 0).tev 2).count ∧ ((s 1 2 0).tev 2).target ≠ 4 ∧
       ((s 4 0 0).tev 2).target = 4 ∧ ((s 1 2 0).tev 2).pulsing = true ∧
       (3 * 65536 + 1 * 65536) * 2 ^ 24 * 1000 < (s 1 2 (2 ^ 43)).time.counter * 1000 + (s 1 2 0).stepPs * 2 ^ 40 ∧
       (s 1 2 0).time.counter * 1000 + (s 1 2 0).stepPs * 2 ^ 40 ≤ (3 * 65536 + 1 * 65536) * 2 ^ 24 * 1000) ∧
    (let s := State.reset.setSite 3 { state := .armed, startAt := some 9 }
     (s.site 3).startAt = some 9 ∧ (s.site 3).state = .armed) := by
  decide +kernel


/-- The other cases of the time rows: the servo's windows, a frame of its own, SEEN or badly formed, another master, no master. -/
theorem test_time_other_premises :
    (let off (x : Int) : Bool := decide (x < -65536000 ∨ 65536000 < x)
     off 65536001 = true ∧ off (-65536000) = false ∧ decide (-2097152 ≤ (2097152 : Int) ∧ ¬(2097152 : Int) < 2097152) = true) ∧
    ({ tctl := 0x301 } : TimeState).frozen = true ∧ ({ tTime 0 .tracking with goodSyncs := 15 } : TimeState).goodSyncs = 15 ∧
    (let f := tFrom 0x34 uaBroadcast 0 (leBytes 0 24 ++ leBytes 5 8)
     let s : State := tSeg { head := true }
     s.chain.head = true ∧ (f.mark true).seen = true ∧ s.chain.forwardRx f = true ∧ ((tSeg {}).frame 0x34 uaBroadcast 0 []).src = (tSeg {}).chain.ua ∧
       ((tSeg {}).frame 0x34 uaBroadcast 0 []).crcOk = true ∧ (tFrom 0x34 uaBroadcast 0 []).len ≠ 4 ∧
       (tSeg {}).chain.forwardRx { f with forward := false } = false ∧ ({ f with crc := f.crc ^^^ 1 } : ChainFrame).crcOk = false) ∧
    (let t : TimeState := { tTime 0 .locked with master := 4, otherMaster := some 5 }
     t.servo ≠ .unlocked ∧ t.master ≠ 5 ∧ t.otherMaster = some 5 ∧ t.frozen = false ∧ t.role = 0) ∧
    (let s : State := { tSeg {} with time := tTime 1 .locked }
     s.time.role ≠ 0 ∧ s.time.servo ≠ .unlocked ∧ s.chain.addressed = true ∧ State.reset.time.role = 0) ∧
    (tTime 0 .locked).hopReq = none ∧ (tSeg {}).chain.inp.lock = false ∧ (tTime 2 .locked).ptpBest = none ∧
      (tTime 2 .locked).ptpSyncAt = none ∧ (tTime 0 .unlocked).role ≠ 2 := by
  decide +kernel

theorem test_timed_other_premises :
    (State.reset.tev 2).on = false ∧ (State.reset.site 3).startAt = none := by
  decide +kernel

/-- The domain of sash 0 in this condition, and rail 1 on bus 1 when `mapped`. -/
def tDom (x : Domain) (mapped : Bool) : State :=
  let s := State.reset.setDom 0x10 x
  { s with power := { s.power with rails := if mapped then [(1, some 0x010110)] else [] } }

theorem test_power_event_premises :
    (let x : Domain := { auto := true, target := 1 }
     let s := tDom x false
     (s.dom 0x10).auto = true ∧ (s.dom 0x10).state = .on ∧ (s.dom 0x10).entry = none ∧ (s.dom 0x10).waking = false ∧
       domAccepts 0x10 (domStateOf (s.dom 0x10).target.toNat) = true) ∧
    (let e (d : Bool) : Entry := { target := .off, ticket := none, draining := d }
     let s (d m : Bool) : State := tDom { entry := some (e d) } m
     ((s false false).dom 0x10).entry = some (e false) ∧ (s false false).refuser 0x10 .off = .none ∧ (e true).isolated = false ∧
       (s true true).domDrained 0x10 = true ∧ (s true false).power.railOf 0x10 = none ∧
       (s true true).power.railOf 0x10 = some (1, 0x010110) ∧ (s true true).vreqOf (railBus 0x010110) = none) ∧
    (let s (m : Bool) : State := tDom { waking := true, state := .clockOff } m
     let u : State := { s true with power := { (s true).power with railOff := [1] } }
     ((s false).dom 0x10).waking = true ∧ ((s false).dom 0x10).state = .clockOff ∧ ((s false).dom 0x10).locked = false ∧
       (s false).power.railOf 0x10 = none ∧ u.power.railOf 0x10 = some (1, 0x010110) ∧ 1 ∈ u.power.railOff ∧
       u.vreqOf (railBus 0x010110) = none ∧ (s false).chain.slots = []) ∧
    (let s (r : Bool) : State := (tDom { state := .off } true).setVreq 1 (some { rail := 1, on := false, rollback := r })
     (s true).vreqOf 1 = some { rail := 1, on := false, rollback := true } ∧ (s false).vreqOf 1 = some { rail := 1, on := false, rollback := false } ∧
       tget none (s true).power.rails 1 = some 0x010110 ∧ railDom 0x010110 = 0x10) ∧
    (let s := ({ State.reset with power := { State.reset.power with rails := [(0, some 0xFE)] } } : State).setVreq 0 (some { rail := 0, on := true, rollback := false })
     s.vreqOf 0 = some { rail := 0, on := true, rollback := false } ∧ tget none s.power.rails 0 = some 0xFE ∧ railDom 0xFE = 0xFE) := by
  decide +kernel


/-- The other cases of the power events: no entry, no wake, no request, and the thermal state's windows. -/
theorem test_power_other_premises :
    (State.reset.dom 0x10).entry = none ∧ (State.reset.dom 0x10).waking = false ∧ State.reset.vreqOf 1 = none ∧
    (let s := (tDom {} false).setVreq 1 (some { rail := 1, on := true, rollback := false })
     s.vreqOf 1 = some { rail := 1, on := true, rollback := false } ∧ tget none s.power.rails 1 = none) ∧
    (let e (d i : Bool) : Entry := { target := .off, ticket := none, draining := d, isolated := i }
     (e true true).isolated = true ∧ (e false false).draining = false ∧
       (tDom { entry := some (e true false) } false).domDrained 0x10 = true) ∧
    ((tDom { waking := true, locked := true } false).dom 0x10).locked = true ∧
    State.reset.power.thermal = 0 ∧ State.reset.power.alarm.toNat < tCrit := by
  decide +kernel

theorem test_reset_premises :
    State.reset.power.sysRst = false ∧ (let s : State := { State.reset with power := { State.reset.power with sysRst := true } }
     s.power.sysRst = true) ∧
    (let s : State := { State.reset with host := { State.reset.host with linkUp := true, fwReady := true } }
     s.host.linkUp = true ∧ s.host.fwReady = true ∧ (0x10 : BitVec 12).toNat / 4 * 4 ≠ 0x78 ∧ getBit (0x7FFF : BitVec 32) 15 = false) ∧
    State.reset.host.bootState = 0 ∧ State.reset.booting = true ∧ State.reset.host.bootTicket = none ∧
    AuthResult.code .badFormat = some Code.SC_FW_FORMAT ∧
    (let s : State := { State.reset with
       host := { State.reset.host with bootState := 3 }
       power := { State.reset.power with clk := { State.reset.power.clk with refSys := true, aon := false } } }
     s.host.bootState = 3 ∧ s.host.fwReady = false ∧ s.power.clk.refSys = true ∧ s.power.sysRst = false ∧ s.power.clk.aon = false) := by
  decide +kernel

theorem test_clock_premises :
    (let s : State := { State.reset with power := { State.reset.power with
       clk := { State.reset.power.clk with sys := true, refSys := true, refLane := true, stepSrc := true, laneStep := true } } }
     let u : State := { State.reset with
       host := { State.reset.host with fwReady := true }
       power := { State.reset.power with clk := { State.reset.power.clk with refLane := true, stepSrc := false } } }
     s.power.clk.sys = true ∧ s.power.clk.refSys = true ∧ s.power.clk.stepSrc = true ∧ s.power.clk.laneStep = true ∧
       u.power.clk.refLane = true ∧ u.power.clk.stepSrc = false ∧ (∀ i, i < 64 → (u.lane i).lock = false) ∧ u.quiet = true ∧
       u.host.fwReady = true ∧ (u.setSite 3 { state := .armed }).quiet = false) := by
  decide +kernel


theorem test_startup_other_premises :
    (let s : State := { State.reset with power := { State.reset.power with sysRst := true } }
     s.power.sysRst = true ∧ s.power.sysRst ≠ State.reset.power.sysRst) ∧
    (let s : State := { State.reset with host := { State.reset.host with bootState := 3 } }
     s.booting = false) ∧
    State.reset.host.linkUp = false ∧ State.reset.host.bootState ≠ 3 ∧ (0x7C : BitVec 12).toNat / 4 * 4 ≠ 0x78 ∧
    (let s : State := { State.reset with power := { State.reset.power with clk := { State.reset.power.clk with aon := true } } }
     s.power.clk.aon = true) := by
  decide +kernel

/-- A live ticket 5 of this work. -/
def tWork (w : Work) (q : Bool) : Ticket :=
  { opcode := 1, work := w, queued := q, final := none, progress := 0, total := 0, phase := 0, data := [], cancel := false,
    retained := false, hostErr := false, source := uaNone }

/-- A copy of 128 bytes between host address 0 and shared memory of casement 0; OP 1 goes toward the host. -/
def tCopy (op : Nat) : List Byte := leBytes 0 8 ++ leBytes (casAddr 0 0x200000) 8 ++ leBytes 128 4 ++ leBytes op 1

theorem test_slice_premises :
    State.reset.ticket 5 = none ∧ State.reset.power.sysRst = false ∧
    (let t : Ticket := { tWork (.copy (tCopy 1)) false with final := some 0 }
     let s := State.reset.setTicket 5 (some t)
     s.ticket 5 = some t ∧ t.final.isSome = true) ∧
    (let t : Ticket := tWork (.copy (tCopy 0)) false
     let s := State.reset.setTicket 5 (some t)
     s.ticket 5 = some t ∧ t.hostDma = true ∧ t.final = none) ∧
    (let t (w : Work) : Ticket := { tWork w false with cancel := true }
     (t (.sweep [1])).cancel = true ∧ (t (.transom 0 [])).phase = 0) ∧
    (let t := tWork (.train (leBytes 1 2 ++ leBytes 5600 2)) false
     let s := (State.reset.setTicket 5 (some t)).modDom (domDdr 0) fun d => { d with state := .on }
     s.ticket 5 = some t ∧ (chansOf 1)[t.phase]? = some 0 ∧ (s.accessAll [domDdr 0]).1 = .go ∧
       (chansOf (fld (leBytes 0 4) 0 1)).length ≤ t.phase) ∧
    (let t : Ticket := { tWork (.sweep [1]) false with phase := 2 ^ 22 }
     let s := (State.reset.setTicket 5 (some t)).modDom (domDdr 0) fun d => { d with state := .on }
     (s.accessAll ((chansOf (fld [1] 0 1)).map domDdr)).1 = .go ∧ s.nextSweep [0] t.phase (2 ^ 22 - t.phase) = none) ∧
    (let s := (State.reset.modDom (domDdr 0) fun d => { d with state := .on }).setDdr 0 { State.reset.ddr 0 with trained := true }
     s.nextSweep [0] 0 (2 ^ 22 - 0) = some 0) ∧
    (let t (op : Nat) := tWork (.copy (tCopy op)) false
     let s (op : Nat) : State := ((State.reset.setTicket 5 (some (t op))).modDom
       0x50 fun d => { d with state := .on }).memWrite (casAddr 0 0x200000) (leBytes 7 64)
     (s 1).ticket 5 = some (t 1) ∧ (s 1).host.copyRuns 5 = true ∧ (s 1).memAt (casAddr 0 0x200000) = some 0x2000 ∧
       (s 1).memAt (casAddr 0 0x200000 + 63) = some 0x2001 ∧ ((s 1).access (memDomain 0x2000) true).1 = .go ∧
       ((s 1).memRead (casAddr 0 0x200000) 64).2.1 = false ∧ fld (tCopy 1) 0x14 1 = 1 ∧ fld (tCopy 0) 0x14 1 = 0) := by
  decide +kernel


/-- The other cases of the slices: a host reset, a work that waits or is locked, a copy out of unmapped memory, a line in flight, a line answered. -/
theorem test_slice_other_premises :
    (let t : Ticket := { tWork (.copy (tCopy 1)) false with hostErr := true }
     t.hostErr = true ∧ t.cancel = false) ∧
    (let s : State := { State.reset with power := { State.reset.power with sysRst := true } }
     s.power.sysRst = true) ∧
    (let s (l : Bool) := State.reset.modDom (domDdr 0) fun d => { d with state := .clockOff, locked := l }
     ((s true).accessAll [domDdr 0]).1 = .locked ∧ ((s false).accessAll [domDdr 0]).1 = .wait) ∧
    State.reset.host.copyRuns 5 = false ∧ State.reset.memAt (2 ^ 40) = none ∧
    (let w (typ : BitVec 4) : Worm := ⟨3, .target, 80, 5, typ, 1, 0, 0, 0, Code.DI_POISON_READ, [7], none, .dma 5 64⟩
     let s : State := State.reset.setTicket 5 (some (tWork (.copy (tCopy 1)) false))
     let s : State := { s with ring := { s.ring with worms := [w 8] } }
     w 8 ∈ s.ring.worms ∧ (w 8).owner = .dma 5 64 ∧ (s.ticket 5).isSome = true ∧ (w 8).typ.toNat = 8 ∧ (w 10).typ.toNat = 10 ∧
       (w 8).status = Code.DI_POISON_READ ∧ fld (tCopy 1) 0x10 4 ≤ 64 + 64) := by
  decide +kernel

theorem test_false_predicate_premises :
    ((List.range 0x16).all fun op =>
      let s := tCell (tEntry op ||| 0x01000000)
      let x := s.sash 63
      let u := x.cell 5
      x.cfg.site == some 3 && s.cellsRun 3 63 && u.live && !u.done && !x.mulHold (s.mulContract 3) && !getBit u.parityBad u.pc.toNat &&
        !u.pred (wPred u.entry) (u.pace x.paceFlag) && wOpc u.entry == op) = true := by
  decide +kernel

theorem test_canonical_step : Memory.wf State.reset.mem.bytes = true ∧ goesOn (step State.reset) := ⟨by decide, ⟨_, rfl⟩⟩

/-- The command 0x0308 (RA_STATUS) of payload `pay` for unit `target` waits in channel 0. -/
def tFor (op target : Nat) (pay : List Byte) (ua : BitVec 18) : State :=
  let s : State := { State.reset with host := { State.reset.host with bootState := 3, fwReady := true }, chain := { ua := ua } }
  s.setChan 0
    { state := .busy, copy := leBytes op 2 ++ leBytes 7 2 ++ leBytes target 4 ++ leBytes pay.length 2 ++ leBytes 1 2 ++ leBytes 0 4 ++ pay }

/-- What comes before a row's body: no request, another row's, an early refusal, a short or unclean payload, a locked domain or one that
must wake, another unit, every unit. -/
theorem test_routing_premises :
    State.reset.request 0 = none ∧
    (let q (op target : Nat) (pay : List Byte) (p : Req → State → Bool) : Bool :=
       let s := tFor op target pay 3
       (s.request 0).any fun r => p r s
     let sash : CmdSpec := { op := 0x0C01, need := 2, cov := [(0, 2)], doms := laneDomain }
     q 0x0C01 3 [63, 0] (fun r s => sash.fits r && (r.early s false).isNone && r.here s.chain.ua && decide (sash.need ≤ r.pay.length) &&
         r.clean sash.cov && (sash.doms s r == [domSash 63])) = true ∧
       q 0x0308 3 [63, 0] (fun r _ => !sash.fits r) = true ∧
       q 0x0102 3 [] (fun r s => (r.early s false).isSome) = true ∧
       q 0x0C01 3 [63] (fun r s => r.here s.chain.ua && decide (r.pay.length < sash.need)) = true ∧
       q 0x0C01 3 [63, 0, 1] (fun r s => r.here s.chain.ua && decide (sash.need ≤ r.pay.length) && !r.clean sash.cov) = true ∧
       q 0x0C01 4 [63, 0] (fun r s => !r.here s.chain.ua && !r.everywhere && (r.early s false).isNone) = true ∧
       q 0x0305 0x3FFFF (List.replicate 16 0) (fun r s => !r.here s.chain.ua && r.everywhere && (r.early s true).isNone &&
         r.clean [(0, 2), (8, 8)] && s.accepts (.bcast r.pay)) = true) ∧
    (let s (l : Bool) : State := (tFor 0x0C01 3 [63, 0] 3).modDom (domSash 63) fun d => { d with state := .clockOff, locked := l }
     ((s true).accessAll [domSash 63]).1 = .locked ∧ ((s false).accessAll [domSash 63]).1 = .wait) := by
  decide +kernel

/-- With 256 live tickets no long command is accepted (R429). -/
theorem test_tickets_full :
    (let s : State := { State.reset with
       host := { State.reset.host with tickets := (List.range 256).map fun n => (n + 1, some (tTicket (.unload 0))) } }
     s.accepts (.bcast []) = false) ∧ State.reset.accepts (.bcast []) = true := by
  decide +kernel

/-! ### Worked examples of the spec -/

/-! ### Examples and tables of the spec, worked by hand there -/

/-- R7's example: the scratchpad window of sash 5. -/
theorem test_scratchpad_window : padAddr 5 0 = 0x4005000000 := by decide

/-- R39: TT[n] at n = A + 2B + 4C + 8D; with every operand 0 that is TT[0]. -/
theorem test_lut4_index :
    (match exec (.lut4 63 255) (tPane (tWord 1 0x0001 1 2 3 4)) with | .next t => getBit (tget 0 (t.sash 63).net 255) 0 | _ => false) = true := by
  decide +kernel

/-- R80: ADD wraps, with Z and C set. -/
theorem test_add_wraps :
    (let s := (tCell (tEntry 0x01)).modCell 63 5 fun v => { v with regs := [(1, 0xFFFFFFFF), (2, 1)] }
     match exec (.wcAdd 63 5) s with
     | .next t => let v := (t.sash 63).cell 5; v.reg 15 == 0 && v.z && v.c && !v.n
     | _ => false) = true := by
  decide +kernel

/-- R80: SUB sets N for signed A < B and C for unsigned A < B. -/
theorem test_sub_flags :
    (let s := (tCell (tEntry 0x02)).modCell 63 5 fun v => { v with regs := [(1, 0x80000000), (2, 1)] }
     match exec (.wcSub 63 5) s with
     | .next t => let v := (t.sash 63).cell 5; v.reg 15 == 0x7FFFFFFF && v.n && !v.c && !v.z
     | _ => false) = true := by
  decide +kernel

/-- R268's example: row 5, columns 4 and 6, no search. -/
theorem test_repair_example :
    repairCells [(5, 1), (5, 7), (5, 9), (2, 4), (3, 4), (8, 4), (10, 6), (12, 6)] 2 2 1000 = (0, { cells := [], rows := [5], cols := [4, 6] }, 0) := by
  decide +kernel

/-- R536's example: row 291, column 69, IO 5. -/
theorem test_bitmap_index :
    (let f : FailCfg := { rowb := 13, colb := 10, iob := 3, brb := 11, bcb := 13, capctl := 6 }
     f.bitIndex 291 69 5 = 2384429 ∧ f.counters = 40960 ∧ f.counterLines = 5120 ∧ f.bmBytes = 2 ^ 23 ∧ f.repCol 69 5 = 557) := by
  decide +kernel

/-- R322's example: SYSREF at 50 periods of REFCLK_LANE is on LEMC, at 49 it is not. -/
theorem test_lemc_example : ({ tLink true with rate := 19800, e := 3 } : StreamLink).onLemc 50 = true ∧
    ({ tLink true with rate := 19800, e := 3 } : StreamLink).onLemc 49 = false := by decide +kernel

/-- R328's example: SWM 6 dB, path 0 at −31.25 dBFS; −25.50 is ignored and −25.25 takes the path. -/
theorem test_switch_example :
    (let st : Stream := { tStream true with policy := 1, swm := 24, path0 := some ⟨0, -125⟩ }
     st.choosePath (-102) = none ∧ st.choosePath (-101) = some (0, some ⟨0, -125⟩)) := by
  decide +kernel

/-- R348's example: the line at 0x1D_4003_2040 lies in channel D at 0x5_4003_2040. -/
theorem test_linear_map : State.reset.ddrMap 0x1D40032040 = (3, 0x540032040) ∧ (0x1D40032040 : Nat) / 65536 = 1916931 := by decide

/-- R380's example: 16,000 fits a quad at 32,000, and 19,800 does not. -/
theorem test_quad_rates :
    (let s := (State.reset.setQuadRates [(8, 32000), (9, 32000)] fun j => j != 8 && j != 9).modLanes [8, 9] fun l => { l with mode := .link, rate := 32000 }
     s.quadsFit [(10, 16000)] (fun j => j != 10) = true ∧ s.quadsFit [(11, 19800)] (fun j => j != 11) = false) := by
  decide +kernel

/-- R406's example: 3.50 ns behind at 1 ms takes +3.5 ppm, 3,848,291 units of RATE. -/
theorem test_phase_term : phaseTerm (-229376) ({ tctl := 0x300 } : TimeState).period = 3848291 := by decide +kernel

/-- R506's example: lane 5 at 32,000 Mbit/s, -12: NUM/DEN = 2,048/2,805. -/
theorem test_keyhole_pace :
    ({ State.reset with id := { State.reset.id with grade12 := true } } : State).keyholePace 32000 = (2048, 2805) := by decide +kernel

/-- R467's example of START_AT in the command area: SITES 0x000C and T = 1,000 s. -/
theorem test_start_at_bytes :
    (let q := parseReq 5 0x402 ([4, 3, 0x10, 0, 2, 4, 0, 0, 0x18, 0, 1, 0, 0, 0, 0, 0, 0x0C, 0] ++ List.replicate 14 0 ++
       [0, 0x10, 0xA5, 0xD4, 0xE8, 0, 0, 0])
     q.opcode = 0x0304 ∧ q.target = 0x402 ∧ q.n 0 2 = 0x0C ∧ q.n 16 8 = 1000000000000) := by
  decide +kernel

/-- R507: the identification on A1, least significant bit first, after the 8 captured bits of the instruction scan. -/
theorem test_idcode :
    (match exec (.jtagIdcode (List.replicate 32 false)) State.reset with
     | .next t => (t.power.tap.tdo.drop 8).foldr (fun b n => b2n b + 2 * n) 0 == 0x164005AF && (t.power.tap.tdo.take 8) == irCapture
     | _ => false) = true := by
  decide +kernel

/-- R373: a slip of 31 after one of 2 leaves the position at 1. -/
theorem test_bitslip :
    (let s := (tCmd .reset 0x0907 [8, 31]).setLane 8 { mode := .direct, lock := true, slip := 2 }
     match exec (.bitslip 0) (s.modDom (domQuad 2) fun d => { d with state := .on }) with | .next t => (t.lane 8).slip == 1 | _ => false) = true := by
  decide +kernel

/-- R487: 105 °C is critical, and 95 °C or less is the way back to alarm. -/
theorem test_thermal_steps : thermalNext 0 420 380 = 2 ∧ thermalNext 2 381 380 = 2 ∧ thermalNext 2 380 380 = 1 ∧ thermalNext 1 360 380 = 0 := by decide

/-- R180: the raw lap time wraps on A1 and saturates on B0. -/
theorem test_lap_raw : lapRaw false 65536 = 0 ∧ lapRaw true 65536 = 65535 := by decide

end Sys2Proof.Machine
end

section
/-! The pane rows that evaluate a truth table (R39). -/

namespace Sys2Proof.Machine

/-- Noting the check of a pane's word changes no operand value of the pane. -/
@[simp] theorem operand_paneReady (s : State) (i p f : Nat) :
    ((s.paneReady i p).sash i).operand p f = (s.sash i).operand p f := by
  unfold State.paneReady
  split
  · rfl
  · rw [State.modSash_eq, State.sash_setSash, if_pos rfl]
    rfl

/-- What a pane row reads as operand `f` is what the pane held before the row. -/
theorem opv_paneReady {s : State} {i p op : Nat} {c : PaneAt} (h : s.paneClear i p op = some c) (f : Nat) :
    (s.paneReady i p).opv c f = (s.sash i).operand p f := by
  obtain ⟨hsash, hpane, -⟩ := paneClear_at h
  simp [State.opv, hsash, hpane]

theorem exec_lut4 (i : Fin 64) (p : Fin 256) (s : State) : exec (.lut4 i p) s = execLut4 i p s := rfl

theorem exec_lut3s (i : Fin 64) (p : Fin 256) (s : State) : exec (.lut3s i p) s = execLut3s i p s := rfl

/-- Settles O7: nothing stands against the pane, so its row acts on the state with the check noted, whose operands are the pane's. -/
theorem lutsEvaluateTheirTruthTable : Obligations.LutsEvaluateTheirTruthTable := by
  unfold Obligations.LutsEvaluateTheirTruthTable
  refine ⟨fun s i p c h => ?lut4, fun s i p c h => ?lut3s⟩
  case lut4 => simp only [exec_lut4, execLut4, pane_clear h, opv_paneReady h]
  case lut3s =>
    obtain ⟨hsash, hpane, -⟩ := paneClear_at h
    simp only [exec_lut3s, execLut3s, pane_clear h, opv_paneReady h, State.modSash_eq, hsash, hpane]

end Sys2Proof.Machine
end

section
/-! A word-cell step with a false predicate (R74). -/

namespace Sys2Proof.Machine

/-- The word-cell rows of a cell, each with the operation it stands for (R80). -/
def wcellRows (i c : Fin 64) : List (Nat × Instr) :=
  [(0x00, .wcNop i c), (0x01, .wcAdd i c), (0x02, .wcSub i c), (0x03, .wcAnd i c), (0x04, .wcOr i c), (0x05, .wcXor i c),
   (0x06, .wcAndn i c), (0x07, .wcShl i c), (0x08, .wcShr i c), (0x09, .wcSar i c), (0x0A, .wcRol i c), (0x0B, .wcMulu i c),
   (0x0C, .wcMuls i c), (0x0D, .wcCmp i c), (0x0E, .wcMov i c), (0x0F, .wcBrev i c), (0x10, .wcScr i c), (0x11, .wcPopc i c),
   (0x12, .wcClz i c), (0x13, .wcIn i c), (0x14, .wcOut i c), (0x15, .wcMal i c)]

/-- The rows differ in their action alone: each is the shared step of its operation, and its action does not depend on the state the
row starts in. -/
theorem exec_wcellRow (i c : Fin 64) :
    ∀ row ∈ wcellRows i c, ∃ act : State → CellAt → State, ∀ s, exec row.2 s = .next (s.wcell i c row.1 act) := by
  simp only [wcellRows, List.forall_mem_cons, List.not_mem_nil, false_implies, implies_true, and_true]
  and_intros
  all_goals exact ⟨_, fun _ => rfl⟩

/-- With a false predicate the shared step takes the cell's step and never comes to its action (R74). -/
theorem wcell_pred_false {s : State} {i c op : Nat} {n : Fin 16} (hsite : (s.sash i).cfg.site = some n)
    (hrun : s.cellsRun n.val i = true) (hlive : ((s.sash i).cell c).live = true) (hdone : ((s.sash i).cell c).done = false)
    (hhold : (s.sash i).mulHold (s.mulContract n.val) = false)
    (hpar : getBit ((s.sash i).cell c).parityBad ((s.sash i).cell c).pc.toNat = false)
    (hpred : ((s.sash i).cell c).pred (wPred ((s.sash i).cell c).entry) (((s.sash i).cell c).pace (s.sash i).paceFlag) = false)
    (hop : wOpc ((s.sash i).cell c).entry = op) (act : State → CellAt → State) :
    s.wcell i c op act = s.setSash i ((s.sash i).cellStep c) := by
  simp [State.wcell, Sash.cellStep, hsite, hrun, hlive, hdone, hhold, hpar, hpred, hop]

/-- Settles O11: every row is the shared step with an action of its own, and a false predicate keeps the step from its action. -/
theorem falsePredicateOnlyAdvancesPc : Obligations.FalsePredicateOnlyAdvancesPc := by
  unfold Obligations.FalsePredicateOnlyAdvancesPc
  intro s i c n x u t rows hsite hrun hlive hdone hhold hpar hpred row hrow hop
  obtain ⟨act, hexec⟩ := exec_wcellRow i c row hrow
  rw [hexec, wcell_pred_false hsite hrun hlive hdone hhold hpar hpred hop]
  rfl

end Sys2Proof.Machine
end

section
-- One proof after another: elaborated side by side, the proofs of the whole text run out of memory for their threads.
set_option Elab.async false
/-! What every step keeps: no command reaches into the queue, and unit memory stays in its canonical form. `Keeps r t` says so of
a state `t` that grew out of `r`; the sections that follow show it of every function the step of a command is made of. -/

namespace Sys2Proof.Machine

/-- What a step carries from `r` to `t`: the same queue, and the canonical form of unit memory where `r` has it. -/
def Keeps (r t : State) : Prop :=
  t.pending = r.pending ∧ (Memory.wf r.mem.bytes = true → Memory.wf t.mem.bytes = true)

variable {r s : State}

theorem keeps_mk {id sashes lanes trigs quads sites groups ring cas chain time host power ctl fr} (h : Keeps r s) :
    Keeps r ⟨id, sashes, lanes, trigs, quads, sites, groups, ring, s.mem, cas, chain, time, host, power, ctl, fr, s.pending⟩ := h

theorem keeps_mkMem {id sashes lanes trigs quads sites groups ring cas chain time host power ctl fr m} (h : Keeps r s)
    (e : m.bytes = s.mem.bytes) :
    Keeps r ⟨id, sashes, lanes, trigs, quads, sites, groups, ring, m, cas, chain, time, host, power, ctl, fr, s.pending⟩ := by
  unfold Keeps at *
  simp_all

theorem keeps_foldl {α} {f : State → α → State} (hf : ∀ s x, Keeps r s → Keeps r (f s x)) (l : List α)
    {s} (h : Keeps r s) : Keeps r (l.foldl f s) := by
  induction l generalizing s with
  | nil => exact h
  | cons a l ih => exact ih (hf s a h)

theorem keeps_foldr {α} {f : α → State → State} (hf : ∀ s x, Keeps r s → Keeps r (f x s)) (l : List α)
    {s} (h : Keeps r s) : Keeps r (l.foldr f s) := by
  induction l with
  | nil => exact h
  | cons a l ih => exact hf _ a ih

theorem Keeps.of_mem {t : State} (h : Keeps r s) (hp : t.pending = s.pending)
    (hm : Memory.wf s.mem.bytes = true → Memory.wf t.mem.bytes = true) : Keeps r t :=
  ⟨hp.trans h.1, fun hr => hm (h.2 hr)⟩

theorem keeps_foldl_snd {α β} {f : β × State → α → β × State}
    (hf : ∀ b s x, Keeps r s → Keeps r (f (b, s) x).2) (l : List α) {b s}
    (h : Keeps r s) : Keeps r (l.foldl f (b, s)).2 := by
  induction l generalizing b s with
  | nil => exact h
  | cons a l ih => exact ih (hf b s a h)

theorem keeps_foldl_snd_snd {α β γ} {f : β × γ × State → α → β × γ × State}
    (hf : ∀ b c s x, Keeps r s → Keeps r (f (b, c, s) x).2.2)
    (l : List α) {b c s} (h : Keeps r s) : Keeps r (l.foldl f (b, c, s)).2.2 := by
  induction l generalizing b c s with
  | nil => exact h
  | cons a l ih => exact ih (hf b c s a h)

theorem keeps_ite {c : Prop} [Decidable c] {a b : State} (ha : Keeps r a) (hb : Keeps r b) :
    Keeps r (if c then a else b) := by
  split
  · exact ha
  · exact hb

theorem keeps_ite_snd_snd {α β} {c : Prop} [Decidable c] {a b : α × β × State} (ha : Keeps r a.2.2) (hb : Keeps r b.2.2) :
    Keeps r (if c then a else b).2.2 := by
  split
  · exact ha
  · exact hb

theorem keeps_ite_reply {c : Prop} [Decidable c] {a b : Reply} (ha : Keeps r a.s) (hb : Keeps r b.s) :
    Keeps r (if c then a else b).s := by
  split
  · exact ha
  · exact hb

end Sys2Proof.Machine
end

section
set_option Elab.async false
/-! What every step keeps: the numbered blocks, interrupts, host memory and the event ring. -/

namespace Sys2Proof.Machine

variable {r s : State}

theorem keeps_setSash (h : Keeps r s) (n x) : Keeps r (s.setSash n x) := by
  grind [State.setSash, keeps_mk, keeps_mkMem]

theorem keeps_modSash (h : Keeps r s) (n f) : Keeps r (s.modSash n f) := by
  grind [State.modSash, keeps_setSash]

theorem keeps_setLane (h : Keeps r s) (n x) : Keeps r (s.setLane n x) := by
  grind [State.setLane, keeps_mk, keeps_mkMem]

theorem keeps_modLane (h : Keeps r s) (n f) : Keeps r (s.modLane n f) := by
  grind [State.modLane, keeps_setLane]

theorem keeps_setTrig (h : Keeps r s) (n x) : Keeps r (s.setTrig n x) := by
  grind [State.setTrig, keeps_mk, keeps_mkMem]

theorem keeps_modTrig (h : Keeps r s) (n f) : Keeps r (s.modTrig n f) := by
  grind [State.modTrig, keeps_setTrig]

theorem keeps_setQuad (h : Keeps r s) (n x) : Keeps r (s.setQuad n x) := by
  grind [State.setQuad, keeps_mk, keeps_mkMem]

theorem keeps_setSite (h : Keeps r s) (n x) : Keeps r (s.setSite n x) := by
  grind [State.setSite, keeps_mk, keeps_mkMem]

theorem keeps_modSite (h : Keeps r s) (n f) : Keeps r (s.modSite n f) := by
  grind [State.modSite, keeps_setSite]

theorem keeps_setStop (h : Keeps r s) (n x) : Keeps r (s.setStop n x) := by
  grind [State.setStop, keeps_mk, keeps_mkMem]

theorem keeps_modStop (h : Keeps r s) (n f) : Keeps r (s.modStop n f) := by
  grind [State.modStop, keeps_setStop]

theorem keeps_setCasm (h : Keeps r s) (n x) : Keeps r (s.setCasm n x) := by
  grind [State.setCasm, keeps_mk, keeps_mkMem]

theorem keeps_modCasm (h : Keeps r s) (n f) : Keeps r (s.modCasm n f) := by
  grind [State.modCasm, keeps_setCasm]

theorem keeps_setTask (h : Keeps r s) (n x) : Keeps r (s.setTask n x) := by
  grind [State.setTask, keeps_mk, keeps_mkMem]

theorem keeps_setStream (h : Keeps r s) (n x) : Keeps r (s.setStream n x) := by
  grind [State.setStream, keeps_mk, keeps_mkMem]

theorem keeps_setSlink (h : Keeps r s) (n x) : Keeps r (s.setSlink n x) := by
  grind [State.setSlink, keeps_mk, keeps_mkMem]

theorem keeps_setFePort (h : Keeps r s) (n x) : Keeps r (s.setFePort n x) := by
  grind [State.setFePort, keeps_mk, keeps_mkMem]

theorem keeps_setChan (h : Keeps r s) (n x) : Keeps r (s.setChan n x) := by
  grind [State.setChan, keeps_mk, keeps_mkMem]

theorem keeps_modChan (h : Keeps r s) (n f) : Keeps r (s.modChan n f) := by
  grind [State.modChan, keeps_setChan]

theorem keeps_setTicket (h : Keeps r s) (n x) : Keeps r (s.setTicket n x) := by
  grind [State.setTicket, keeps_mk, keeps_mkMem]

theorem keeps_setDom (h : Keeps r s) (n x) : Keeps r (s.setDom n x) := by
  grind [State.setDom, keeps_mk, keeps_mkMem]

theorem keeps_modDom (h : Keeps r s) (n f) : Keeps r (s.modDom n f) := by
  grind [State.modDom, keeps_setDom]

theorem keeps_setTev (h : Keeps r s) (n x) : Keeps r (s.setTev n x) := by
  grind [State.setTev, keeps_mk, keeps_mkMem]

theorem keeps_setMemSt (h : Keeps r s) (n x) : Keeps r (s.setMemSt n x) := by
  grind [State.setMemSt, keeps_mk, keeps_mkMem]

theorem keeps_modMemSt (h : Keeps r s) (n f) : Keeps r (s.modMemSt n f) := by
  grind [State.modMemSt, keeps_setMemSt]

theorem keeps_setDdr (h : Keeps r s) (n x) : Keeps r (s.setDdr n x) := by
  grind [State.setDdr, keeps_mk, keeps_mkMem]

theorem keeps_modLanes (h : Keeps r s) (l f) : Keeps r (s.modLanes l f) := by
  grind [State.modLanes, keeps_foldl, keeps_modLane]

theorem keeps_modSashes (h : Keeps r s) (l f) : Keeps r (s.modSashes l f) := by
  grind [State.modSashes, keeps_foldl, keeps_modSash]

theorem keeps_modTrigs (h : Keeps r s) (l f) : Keeps r (s.modTrigs l f) := by
  grind [State.modTrigs, keeps_foldl, keeps_modTrig]

theorem keeps_drawFree (h : Keeps r s) : Keeps r (s.drawFree).2 := by
  grind [State.drawFree, keeps_mk, keeps_mkMem]

theorem keeps_setIrq (h : Keeps r s) (i) : Keeps r (s.setIrq i) := by
  grind [State.setIrq, keeps_mk, keeps_mkMem]

theorem keeps_retain (h : Keeps r s) (n) : Keeps r (s.retain n) := by
  grind [State.retain, keeps_setTicket]

theorem keeps_postEvent (h : Keeps r s) (e') : Keeps r (s.postEvent e') := by
  grind [State.postEvent, keeps_mk, keeps_mkMem, keeps_retain, keeps_setIrq]

theorem keeps_post (h : Keeps r s) (kind st site obj hi data) : Keeps r (s.post kind st site obj hi data) := by
  grind [State.post, keeps_postEvent]

theorem keeps_postFault (h : Keeps r s) (st site obj cycle step pane detail) :
    Keeps r (s.postFault st site obj cycle step pane detail) := by
  grind [State.postFault, keeps_post]

theorem keeps_postPolicy (h : Keeps r s) (action what value) : Keeps r (s.postPolicy action what value) := by
  grind [State.postPolicy, keeps_post]

theorem keeps_postNotice (h : Keeps r s) (st site obj action cycle detail) :
    Keeps r (s.postNotice st site obj action cycle detail) := by
  grind [State.postNotice, keeps_post]

theorem keeps_postMemory (h : Keeps r s) (st memid addr marker) : Keeps r (s.postMemory st memid addr marker) := by
  grind [State.postMemory, keeps_post]

theorem keeps_postChain (h : Keeps r s) (st port ua phys) : Keeps r (s.postChain st port ua phys) := by
  grind [State.postChain, keeps_post]

theorem keeps_postLane (h : Keeps r s) (st site lane action eyeH eyeV) :
    Keeps r (s.postLane st site lane action eyeH eyeV) := by
  grind [State.postLane, keeps_post]

theorem keeps_hifErr (h : Keeps r s) : Keeps r (s.hifErr) := by
  grind [State.hifErr, keeps_setIrq]

end Sys2Proof.Machine
end

section
set_option Elab.async false
/-! What every step keeps: chain frames. -/

namespace Sys2Proof.Machine

variable {r s : State}

theorem keeps_send (h : Keeps r s) (f) : Keeps r (s.send f) := by
  grind [State.send, keeps_mk, keeps_mkMem]

theorem keeps_sendFragment (h : Keeps r s) (ua seq resp bs i) : Keeps r (s.sendFragment ua seq resp bs i) := by
  grind [State.sendFragment, keeps_send]

theorem keeps_sendMbx (h : Keeps r s) (ua seq resp bs) : Keeps r (s.sendMbx ua seq resp bs) := by
  grind [State.sendMbx, keeps_sendFragment]

theorem keeps_message (h : Keeps r s) (owner ua seq isResp bs) : Keeps r (s.message owner ua seq isResp bs) := by
  grind [State.message, keeps_sendMbx, keeps_mk, keeps_mkMem]

theorem keeps_nextSeq (h : Keeps r s) (ua) : Keeps r (s.nextSeq ua).2 := by
  grind [State.nextSeq, keeps_mk, keeps_mkMem]

theorem keeps_ownCommand (h : Keeps r s) (owner ua op pay) : Keeps r (s.ownCommand owner ua op pay) := by
  grind [State.ownCommand, keeps_mk, keeps_mkMem, keeps_message]

theorem keeps_passComplete (h : Keeps r s) (ua e') : Keeps r (s.passComplete ua e') := by
  grind [State.passComplete, keeps_mk, keeps_mkMem, keeps_message]

end Sys2Proof.Machine
end

section
set_option Elab.async false
/-! What every step keeps: the addressed memories. -/

namespace Sys2Proof.Machine

variable {r s : State}

theorem keeps_noteCe (h : Keeps r s) (m a) : Keeps r (s.noteCe m a) := by
  grind [State.noteCe, keeps_modMemSt]

theorem keeps_notePoison (h : Keeps r s) (m a marker) : Keeps r (s.notePoison m a marker) := by
  grind [State.notePoison, keeps_modMemSt, keeps_postMemory]

theorem keeps_readWord (h : Keeps r s) (w) : Keeps r (s.readWord w).2.2 := by
  grind [State.readWord, keeps_noteCe, keeps_notePoison]

theorem keeps_readWords (h : Keeps r s) (w n) : Keeps r (s.readWords w n).2.2 := by
  induction n generalizing s w with
  | zero => exact h
  | succ n ih => exact ih (keeps_readWord h w) (w + 1)

theorem keeps_memRead (h : Keeps r s) (a n) : Keeps r (s.memRead a n).2.2 := by
  grind [State.memRead, keeps_readWords]

theorem keeps_storeWord (h : Keeps r s) (w bs c) : Keeps r { s with mem := s.mem.storeWord w bs c } :=
  h.of_mem rfl (storeWord_wf s.mem w bs c)
theorem keeps_mergeWord (h : Keeps r s) (w f) : Keeps r (s.mergeWord w f) := by
  grind [State.mergeWord, keeps_storeWord, keeps_noteCe, keeps_modMemSt, keeps_postMemory]

theorem keeps_writeWord (h : Keeps r s) (w bs) : Keeps r (s.writeWord w bs) := by
  grind [State.writeWord, keeps_storeWord, keeps_mergeWord]

theorem keeps_writeWords (h : Keeps r s) (w bs n) : Keeps r (s.writeWords w bs n) := by
  induction n generalizing s w bs with
  | zero => exact h
  | succ n ih => exact ih (keeps_writeWord h w _) _ _

theorem keeps_fillRegion (h : Keeps r s) (g) : Keeps r { s with mem := s.mem.fillRegion g } :=
  h.of_mem rfl (fillRegion_wf s.mem g)
theorem keeps_ensureRegion (h : Keeps r s) (a) : Keeps r (s.ensureRegion a) := by
  grind [State.ensureRegion, keeps_fillRegion, keeps_modMemSt]

theorem keeps_ensureRegions (h : Keeps r s) (a n) : Keeps r (s.ensureRegions a n) := by
  induction n generalizing s a with
  | zero => exact h
  | succ n ih => exact ih (keeps_ensureRegion h _) _

theorem keeps_memWriteBE (h : Keeps r s) (a bs) : Keeps r (s.memWriteBE a bs) := by
  grind [State.memWriteBE, keeps_ensureRegions, keeps_writeWords]

theorem keeps_memWrite (h : Keeps r s) (a bs) : Keeps r (s.memWrite a bs) := by
  grind [State.memWrite, keeps_memWriteBE]

theorem keeps_writeBitAt (h : Keeps r s) (w i v) : Keeps r (s.writeBitAt w i v) := by
  grind [State.writeBitAt, keeps_mergeWord]

theorem keeps_orHalf (h : Keeps r s) (upper a pay be) : Keeps r (s.orHalf upper a pay be).2.2 := by
  grind [State.orHalf, keeps_memRead, keeps_memWriteBE]

theorem keeps_atomic (h : Keeps r s) (op a pay be) : Keeps r (s.atomic op a pay be).2.2 := by
  grind [State.atomic, keeps_memRead, keeps_memWriteBE]

theorem padBit_eq (s : State) (n l i : Nat) :
    ∃ b e t, s.readWord (padWord n l + i / 64) = (b, e, t) ∧ s.padBit n l i = (!e && (leNat b).testBit (i % 64), e, t) := by
  suffices H : ∀ f, State.padBit = f → ∃ b e t, s.readWord (padWord n l + i / 64) = (b, e, t) ∧
      f s n l i = (!e && (leNat b).testBit (i % 64), e, t) from H _ rfl
  intro f hf
  delta State.padBit at hf
  rw [← hf]
  beta_reduce
  generalize s.readWord (padWord n l + i / 64) = x
  obtain ⟨b, e, t⟩ := x
  exact ⟨b, e, t, rfl, rfl⟩
theorem keeps_padBit (h : Keeps r s) (n l i) : Keeps r (s.padBit n l i).2.2 := by
  have hm := keeps_readWord h (padWord n l + i / 64)
  obtain ⟨b, e, t, hw, hp⟩ := padBit_eq s n l i
  rw [hw] at hm
  rw [hp]
  exact hm

theorem keeps_setPadBit (h : Keeps r s) (n l i v) : Keeps r (s.setPadBit n l i v) := by
  grind [State.setPadBit, keeps_writeBitAt]

theorem keeps_setPadLine (h : Keeps r s) (n l bs) : Keeps r (s.setPadLine n l bs) := by
  grind [State.setPadLine, keeps_memWrite]

theorem keeps_clearLine (h : Keeps r s) (m i) : Keeps r (s.clearLine m i) :=
  h.of_mem rfl (clearLine_wf s m i)

theorem keeps_clearMemory (h : Keeps r s) (m) : Keeps r (s.clearMemory m) :=
  h.of_mem (by unfold State.clearMemory; split <;> rfl) (clearMemory_wf s m)

theorem keeps_dropChannel (h : Keeps r s) (c) : Keeps r (s.dropChannel c) := by
  grind [State.dropChannel, keeps_mk, keeps_mkMem]

theorem keeps_newWorm (h : Keeps r s) (src typ len addr be pay owner) :
    Keeps r (s.newWorm src typ len addr be pay owner) := by
  grind [State.newWorm, keeps_mk, keeps_mkMem]

theorem keeps_postAddr (h : Keeps r s) (st a) : Keeps r (s.postAddr st a) := by
  grind [State.postAddr, keeps_postMemory]

end Sys2Proof.Machine
end

section
set_option Elab.async false
/-! What every step keeps: tickets, sites, faults, halts and clearing. -/

namespace Sys2Proof.Machine

variable {r s : State}

theorem keeps_dropOldest (h : Keeps r s) : Keeps r (s.dropOldest) := by
  grind [State.dropOldest, keeps_setTicket]

theorem keeps_finish (h : Keeps r s) (tk st data) : Keeps r (s.finish tk st data) := by
  grind [State.finish, keeps_setTicket, keeps_dropOldest, keeps_postEvent, keeps_passComplete]

theorem keeps_modTicket (h : Keeps r s) (tk f) : Keeps r (s.modTicket tk f) := by
  grind [State.modTicket, keeps_setTicket]

theorem keeps_postSite (h : Keeps r s) (n old new st) : Keeps r (s.postSite n old new st) := by
  grind [State.postSite, keeps_post]

theorem keeps_moveSite (h : Keeps r s) (n new st) : Keeps r (s.moveSite n new st) := by
  grind [State.moveSite, keeps_modSite, keeps_postSite]

theorem keeps_stopRun (h : Keeps r s) (n) : Keeps r (s.stopRun n) := by
  grind [State.stopRun, keeps_modLanes, keeps_modTrigs, keeps_modSashes]

theorem keeps_dropTransom (h : Keeps r s) (n) : Keeps r (s.dropTransom n) := by
  grind [State.dropTransom, keeps_finish, keeps_modSite]

theorem keeps_cancelStartAt (h : Keeps r s) (n) : Keeps r (s.cancelStartAt n) := by
  grind [State.cancelStartAt, keeps_postNotice, keeps_modSite]

theorem keeps_postUnreported (h : Keeps r s) (n ps) : Keeps r (s.postUnreported n ps) := by
  grind [State.postUnreported, keeps_foldl, keeps_postNotice]

theorem keeps_enterFaulted (h : Keeps r s) (n p others) : Keeps r (s.enterFaulted n p others) := by
  have h := keeps_dropTransom (keeps_cancelStartAt (keeps_stopRun h n) n) n
  exact keeps_moveSite (keeps_postUnreported (keeps_postFault (keeps_modSite h _ _) ..) ..) ..

theorem keeps_faultNow (h : Keeps r s) (n p) : Keeps r (s.faultNow n p) := by
  grind [State.faultNow, keeps_enterFaulted]

theorem keeps_pendFault (h : Keeps r s) (n p) : Keeps r (s.pendFault n p) := by
  grind [State.pendFault, keeps_modSite]

theorem keeps_faultSashNow (h : Keeps r s) (i code pane detail) : Keeps r (s.faultSashNow i code pane detail) := by
  grind [State.faultSashNow, keeps_faultNow]

theorem keeps_pendSash (h : Keeps r s) (i code pane detail) : Keeps r (s.pendSash i code pane detail) := by
  grind [State.pendSash, keeps_pendFault]

theorem keeps_askHalt (h : Keeps r s) (n) : Keeps r (s.askHalt n) := by
  grind [State.askHalt, keeps_send, keeps_modSite]

theorem keeps_enterHalted (h : Keeps r s) (n) : Keeps r (s.enterHalted n) := by
  grind [State.enterHalted, keeps_stopRun, keeps_modSite, keeps_moveSite]

theorem keeps_dropStops (h : Keeps r s) (n) : Keeps r (s.dropStops n) := by
  grind [State.dropStops, keeps_mk, keeps_mkMem]

theorem keeps_dropFlits (h : Keeps r s) (n) : Keeps r (s.dropFlits n) := by
  grind [State.dropFlits, keeps_mk, keeps_mkMem]

theorem keeps_settleQuads (h : Keeps r s) : Keeps r (s.settleQuads) := by
  grind [State.settleQuads, keeps_mk, keeps_mkMem]

theorem keeps_restLanes (h : Keeps r s) (n) : Keeps r (s.restLanes n) := by
  grind [State.restLanes, keeps_modLanes]

theorem keeps_emptySite (h : Keeps r s) (n) : Keeps r (s.emptySite n) := by
  have h := keeps_dropFlits (keeps_dropStops h n) n
  exact keeps_setSite (keeps_settleQuads (keeps_modLanes (keeps_modTrigs (keeps_modSashes h ..) ..) ..)) ..

end Sys2Proof.Machine
end

section
set_option Elab.async false
/-! What every step keeps: access to power domains. -/

namespace Sys2Proof.Machine

variable {r s : State}

theorem keeps_refuseEntry (h : Keeps r s) (d x tk) : Keeps r (s.refuseEntry d x tk) := by
  have hd := fun y => keeps_setDom h d y
  unfold State.refuseEntry
  grind [keeps_post, keeps_finish]

theorem keeps_access (h : Keeps r s) (d dma) : Keeps r (s.access d dma).2 := by
  grind [State.access, keeps_setDom, keeps_refuseEntry]

theorem keeps_accessAll (h : Keeps r s) (ds) : Keeps r (s.accessAll ds).2 := by
  unfold State.accessAll
  refine keeps_foldl_snd (fun a s d h => ?_) _ h
  grind [keeps_access]

end Sys2Proof.Machine
end

section
set_option Elab.async false
/-! What every step keeps: the dispatcher. -/

namespace Sys2Proof.Machine

variable {r s : State}

theorem keeps_modTask (h : Keeps r s) (n f) : Keeps r (s.modTask n f) := by
  grind [State.modTask, keeps_setTask]

theorem keeps_makeReady (h : Keeps r s) (n head) : Keeps r (s.makeReady n head) := by
  grind [State.makeReady, keeps_modCasm, keeps_setTask]

theorem keeps_setFlags (h : Keeps r s) (n mask) : Keeps r (s.setFlags n mask) := by
  grind [State.setFlags, keeps_modTask]

theorem keeps_setCore (h : Keeps r s) (k c r') : Keeps r (s.setCore k c r') := by
  grind [State.setCore, keeps_modCasm]

theorem keeps_modRegs (h : Keeps r s) (n f) : Keeps r (s.modRegs n f) := by
  grind [State.modRegs, keeps_setCore, keeps_setTask]

theorem keeps_takeItem (h : Keeps r s) (n i) : Keeps r (s.takeItem n i) := by
  grind [State.takeItem, keeps_modTask, keeps_modRegs]

theorem keeps_enqueue (h : Keeps r s) (n i) : Keeps r (s.enqueue n i) := by
  grind [State.enqueue, keeps_modTask]

theorem keeps_runTask (h : Keeps r s) (k c n) : Keeps r (s.runTask k c n) := by
  grind [State.runTask, keeps_modCasm, keeps_setTask]

theorem keeps_leaveCore (h : Keeps r s) (k c n) : Keeps r (s.leaveCore k c n) := by
  grind [State.leaveCore, keeps_modCasm, keeps_modTask]

theorem keeps_casStep (h : Keeps r s) (k) {t} (e : s.casStep k = some t) : Keeps r t := by
  have hi := fun n i => keeps_makeReady (keeps_takeItem h n i) n false
  have hr := fun q n => keeps_runTask h k q n
  have he := fun m i n => keeps_makeReady (keeps_enqueue h m i) n false
  unfold State.casStep at e
  dsimp only at e
  repeat' split at e
  all_goals simp only [Option.map_eq_some_iff, Option.some.injEq, reduceCtorEq] at e
  all_goals grind [keeps_makeReady, keeps_setTask, keeps_modCasm, keeps_enqueue, keeps_setStream]

theorem keeps_casRun (h : Keeps r s) (k n) : Keeps r (s.casRun k n) := by
  induction n generalizing s with
  | zero => exact h
  | succ n ih => grind [State.casRun, keeps_casStep]

theorem keeps_settleCas (h : Keeps r s) (k) : Keeps r (s.settleCas k) := by
  grind [State.settleCas, keeps_casRun]

theorem keeps_endTask (h : Keeps r s) (n st) : Keeps r (s.endTask n st) := by
  grind [State.endTask, keeps_setTask, keeps_modCasm, keeps_post]

theorem keeps_faultTask (h : Keeps r s) (n code pc addr) : Keeps r (s.faultTask n code pc addr) := by
  grind [State.faultTask, keeps_settleCas, keeps_endTask, keeps_postFault]

theorem keeps_endAllJobs (h : Keeps r s) (st) : Keeps r (s.endAllJobs st) := by
  grind [State.endAllJobs, keeps_foldl, keeps_endTask]

theorem keeps_submit (h : Keeps r s) (k b off) : Keeps r (s.submit k b off).2.2.2 := by
  have hs : ∀ u c n x l f, Keeps r (({ s with freeCtr := u, cas := c }.setTask n x).modCasm l f) :=
    fun u c n x l f => keeps_modCasm (keeps_setTask (keeps_mk h) n x) l f
  unfold State.submit
  dsimp only
  repeat' split
  all_goals solve_by_elim [keeps_makeReady]

theorem keeps_tellStream (h : Keeps r s) (st code) : Keeps r (s.tellStream st code) := by
  grind [State.tellStream, keeps_settleCas, keeps_postNotice, keeps_setFlags]

theorem keeps_closeStream (h : Keeps r s) (j) : Keeps r (s.closeStream j) := by
  grind [State.closeStream, keeps_tellStream, keeps_setStream]

theorem keeps_closeStreams (h : Keeps r s) (ls) : Keeps r (s.closeStreams ls) := by
  grind [State.closeStreams, keeps_foldl, keeps_closeStream]

end Sys2Proof.Machine
end

section
set_option Elab.async false
/-! What every step keeps: the mailbox protocol. -/

namespace Sys2Proof.Machine

variable {r s : State}

theorem keeps_channelDone (h : Keeps r s) (ch resp irq) : Keeps r (s.channelDone ch resp irq) := by
  grind [State.channelDone, keeps_setChan, keeps_setIrq]

theorem keeps_reply (h : Keeps r s) (q st pay tk) : Keeps r (s.reply q st pay tk) := by
  grind [State.reply, keeps_channelDone, keeps_mk, keeps_mkMem, keeps_message]

theorem keeps_refuse (h : Keeps r s) (st) : Keeps r (refuse s st).s := by
  grind [refuse]

theorem keeps_done (h : Keeps r s) (pay) : Keeps r (done s pay).s := by
  grind [done]

theorem keeps_accept (h : Keeps r s) (q w queued total) : Keeps r (s.accept q w queued total).s := by
  grind [State.accept, keeps_refuse, keeps_mk, keeps_mkMem, keeps_setTicket]

theorem keeps_setWaits (h : Keeps r s) (src d) : Keeps r (s.setWaits src d) := by
  grind [State.setWaits, keeps_modChan, keeps_mk, keeps_mkMem]

theorem keeps_runLocal {body : State → Req → Reply} (hb : ∀ s q, Keeps r s → Keeps r (body s q).s) (h :
    Keeps r s) (q sp) :
    Keeps r (s.runLocal q sp body) := by
  grind [State.runLocal, keeps_reply, keeps_accessAll, keeps_setWaits]

theorem keeps_relay (h : Keeps r s) (q) : Keeps r (s.relay q) := by
  grind [State.relay, keeps_nextSeq, keeps_message, keeps_modChan]

theorem keeps_broadcast {body : State → Req → Reply} (hb : ∀ s q, Keeps r s → Keeps r (body s q).s) (h :
    Keeps r s) (q) :
    Keeps r (s.broadcast q body) := by
  grind [State.broadcast, keeps_reply, keeps_accept, keeps_nextSeq, keeps_mk, keeps_sendMbx]

theorem keeps_command {body : State → Req → Reply} (hb : ∀ s q, Keeps r s → Keeps r (body s q).s) (h :
    Keeps r s) (src sp) :
    Keeps r (s.command src sp body) := by
  grind [State.command, keeps_reply, keeps_runLocal, keeps_broadcast, keeps_relay]

theorem keeps_screen (h : Keeps r s) (src) : Keeps r (s.screen src) := by
  grind [State.screen, keeps_reply]

end Sys2Proof.Machine
end

section
set_option Elab.async false
/-! What every step keeps: the grid, fail records, compares and speculation. -/

namespace Sys2Proof.Machine

variable {r s : State}

theorem keeps_formRecord (h : Keeps r s) (n i r') : Keeps r (s.formRecord n i r') := by
  grind [State.formRecord, keeps_setSite, keeps_modLane, keeps_postNotice]

theorem keeps_noteModelCheck (h : Keeps r s) (i m) : Keeps r (s.noteModelCheck i m) := by
  grind [State.noteModelCheck, keeps_modLane]

theorem keeps_captureChecks (h : Keeps r s) (n i c fresh) : Keeps r (s.captureChecks n i c fresh) := by
  grind [State.captureChecks, keeps_modLane, keeps_modSite, keeps_pendFault]

theorem keeps_decideStop (h : Keeps r s) (n c) : Keeps r (s.decideStop n c) := by
  grind [State.decideStop, keeps_modSite]

theorem keeps_mismatchPolicy (h : Keeps r s) (n c) : Keeps r (s.mismatchPolicy n c) := by
  grind [State.mismatchPolicy, keeps_askHalt, keeps_decideStop]

theorem keeps_compare (h : Keeps r s) (n i e' r') : Keeps r (s.compare n i e' r') := by
  grind [State.compare, keeps_setLane, keeps_mismatchPolicy, keeps_formRecord]

theorem keeps_runCompares (h : Keeps r s) (n i due) : Keeps r (s.runCompares n i due) := by
  grind [State.runCompares, keeps_setLane, keeps_foldl, keeps_compare]

theorem keeps_checkSpecs (h : Keeps r s) (n i) : Keeps r (s.checkSpecs n i) := by
  grind [State.checkSpecs, keeps_setLane, keeps_modSite]

end Sys2Proof.Machine
end

section
set_option Elab.async false
/-! What every step keeps: the pane instructions. -/

namespace Sys2Proof.Machine

variable {r s : State}

theorem keeps_beginStallAs (h : Keeps r s) (n i c f) : Keeps r (s.beginStallAs n i c f) := by
  unfold State.beginStallAs
  have hs := keeps_setSash h i
  extract_lets
  split
  · exact h
  split
  · exact keeps_pendSash (hs _) ..
  · exact hs _

theorem keeps_beginStall (h : Keeps r s) (n i c) : Keeps r (s.beginStall n i c) := by
  grind [State.beginStall, keeps_beginStallAs]

theorem keeps_useOperand (h : Keeps r s) (c f) : Keeps r (s.useOperand c f) := by
  grind [State.useOperand, keeps_pendSash, keeps_setSash]

theorem keeps_useOperands (h : Keeps r s) (c fs) : Keeps r (s.useOperands c fs) := by
  grind [State.useOperands, keeps_foldl, keeps_useOperand]

theorem keeps_latchPane (h : Keeps r s) (sash k pane v) : Keeps r (s.latchPane sash k pane v) := by
  grind [State.latchPane, keeps_mk, keeps_mkMem]

theorem keeps_paneResult (h : Keeps r s) (c v) : Keeps r (s.paneResult c v) := by
  grind [State.paneResult, keeps_latchPane, keeps_setSash]

theorem keeps_fetchCheck (h : Keeps r s) (c) : Keeps r (s.fetchCheck c).2 := by
  grind [State.fetchCheck, keeps_faultSashNow, keeps_setSash, keeps_postNotice]

theorem keeps_checkOnce (h : Keeps r s) (c) : Keeps r (s.checkOnce c).2 := by
  grind [State.checkOnce, keeps_fetchCheck, keeps_useOperands, keeps_modSash]

theorem keeps_pane {act : State → PaneAt → State} (ha : ∀ s c, Keeps r s → Keeps r (act s c)) (h : Keeps r s) (i p op) :
    Keeps r (s.pane i p op act) := by
  grind [State.pane, keeps_beginStall, keeps_checkOnce]

theorem keeps_execPaneNop (h : Keeps r s) (sash pane) {t} (e : execPaneNop sash pane s = .next t) : Keeps r t := by
  grind [execPaneNop, keeps_pane, keeps_paneResult]

theorem keeps_execLut4 (h : Keeps r s) (sash pane) {t} (e : execLut4 sash pane s = .next t) : Keeps r t := by
  grind [execLut4, keeps_pane, keeps_paneResult]

theorem keeps_execLut3s (h : Keeps r s) (sash pane) {t} (e : execLut3s sash pane s = .next t) : Keeps r t := by
  grind [execLut3s, keeps_pane, keeps_modSash, keeps_paneResult]

theorem keeps_execProbe (h : Keeps r s) (sash pane) {t} (e : execProbe sash pane s = .next t) : Keeps r t := by
  grind [execProbe, keeps_pane, keeps_paneResult, keeps_modSash]

theorem keeps_execSend (h : Keeps r s) (sash pane) {t} (e : execSend sash pane s = .next t) : Keeps r t := by
  grind [execSend, keeps_pane, keeps_modSash, keeps_paneResult]

theorem keeps_recvTake (h : Keeps r s) (c) : Keeps r (s.recvTake c) := by
  unfold State.recvTake
  extract_lets t x b v rest s1 s2 s3
  have h1 : Keeps r s1 := keeps_setSash h ..
  have h2 : Keeps r s2 := by grind [keeps_pendSash]
  have h3 : Keeps r s3 := by grind [keeps_pendSash]
  exact keeps_paneResult h3 ..

theorem keeps_execRecv (h : Keeps r s) (i p) {t} (e : execRecv i p s = .next t) : Keeps r t := by
  cases e
  refine keeps_pane (fun s c h => ?_) h ..
  dsimp only
  split
  · exact keeps_recvTake h c
  · exact keeps_modSash (keeps_beginStall h ..) ..

theorem keeps_execMemrd (h : Keeps r s) (i p) {t} (e : execMemrd i p s = .next t) : Keeps r t := by
  cases e
  refine keeps_pane (fun s c h => ?_) h ..
  extract_lets x l b v
  clear_value v
  refine keeps_ite (keeps_faultSashNow h ..) ?_
  have hb := keeps_padBit h c.sash l b
  generalize s.padBit c.sash l b = y at hb ⊢
  obtain ⟨w, bad, u⟩ := y
  exact keeps_modSash (keeps_ite (keeps_pendSash hb ..) hb) ..

theorem keeps_execMemwr (h : Keeps r s) (i p) {t} (e : execMemwr i p s = .next t) : Keeps r t := by
  cases e
  refine keeps_pane (fun s c h => ?_) h ..
  dsimp only
  split
  · exact keeps_faultSashNow h ..
  · exact keeps_paneResult (keeps_modSash h ..) ..

theorem keeps_execMemrdLanding (h : Keeps r s) (i p) {t} (e : execMemrdLanding i p s = .next t) : Keeps r t := by
  cases e
  dsimp only
  split
  · exact h
  · exact keeps_latchPane (keeps_setSash h ..) ..

theorem keeps_execPinout (h : Keeps r s) (i p) {t} (e : execPinout i p s = .next t) : Keeps r t := by
  cases e
  refine keeps_pane (fun s c h => ?_) h ..
  extract_lets x l cyc i p v a pos
  clear_value a
  refine keeps_ite ?_ (keeps_paneResult (keeps_ite (keeps_pendSash (keeps_setLane h ..) ..) (keeps_setLane h ..)) ..)
  have hm := keeps_memRead h (a + pos / 64 * 8) 8
  generalize s.memRead (a + pos / 64 * 8) 8 = y at hm ⊢
  obtain ⟨b, bad, u⟩ := y
  exact keeps_ite (keeps_faultSashNow hm ..) (keeps_paneResult hm ..)

theorem keeps_execPinin (h : Keeps r s) (sash pane) {t} (e : execPinin sash pane s = .next t) : Keeps r t := by
  grind [execPinin, keeps_pane, keeps_paneResult, keeps_modSash, keeps_setLane, keeps_checkSpecs]

theorem keeps_execPaneCmpPin (h : Keeps r s) (sash pane)
    {t} (e : execPaneCmpPin sash pane s = .next t) : Keeps r t := by
  grind [execPaneCmpPin, keeps_pane, keeps_modSash, keeps_paneResult, keeps_modLane, keeps_runCompares]

theorem keeps_execPaneCmpModelCheck (h : Keeps r s) (sash pane)
    {t} (e : execPaneCmpModelCheck sash pane s = .next t) : Keeps r t := by
  grind [execPaneCmpModelCheck, keeps_pane, keeps_noteModelCheck, keeps_paneResult]

theorem keeps_execWput (h : Keeps r s) (sash pane) {t} (e : execWput sash pane s = .next t) : Keeps r t := by
  grind [execWput, keeps_pane, keeps_paneResult, keeps_modSash]

theorem keeps_execWget (h : Keeps r s) (sash pane) {t} (e : execWget sash pane s = .next t) : Keeps r t := by
  grind [execWget, keeps_pane, keeps_paneResult]

end Sys2Proof.Machine
end

section
set_option Elab.async false
/-! What every step keeps: the word-cell instructions. -/

namespace Sys2Proof.Machine

variable {r s : State}

theorem keeps_modCell (h : Keeps r s) (i c f) : Keeps r (s.modCell i c f) := by
  grind [State.modCell, keeps_modSash]

theorem keeps_driveWire (h : Keeps r s) (i n driver v) : Keeps r (s.driveWire i n driver v) := by
  grind [State.driveWire, keeps_pendSash, keeps_setSash]

theorem keeps_cellResult (h : Keeps r s) (c r' flags) : Keeps r (s.cellResult c r' flags) := by
  grind [State.cellResult, keeps_modCell, keeps_driveWire]

theorem keeps_cellParity (h : Keeps r s) (i c) : Keeps r (s.cellParity i c) := by
  grind [State.cellParity, keeps_modSash, keeps_faultSashNow]

theorem keeps_wcell {act : State → CellAt → State} (ha : ∀ s c, Keeps r s → Keeps r (act s c)) (h :
    Keeps r s) (i c op) :
    Keeps r (s.wcell i c op act) := by
  grind [State.wcell, keeps_setSash, keeps_cellParity]

theorem keeps_wcellAlu (h : Keeps r s) (i c op f fl) : Keeps r (s.wcellAlu i c op f fl) := by
  grind [State.wcellAlu, keeps_wcell, keeps_cellResult]

theorem keeps_execWcNop (h : Keeps r s) (sash cell) {t} (e : execWcNop sash cell s = .next t) : Keeps r t := by
  grind [execWcNop, keeps_wcell]

theorem keeps_execWcAdd (h : Keeps r s) (sash cell) {t} (e : execWcAdd sash cell s = .next t) : Keeps r t := by
  grind [execWcAdd, keeps_wcellAlu]

theorem keeps_execWcSub (h : Keeps r s) (sash cell) {t} (e : execWcSub sash cell s = .next t) : Keeps r t := by
  grind [execWcSub, keeps_wcellAlu]

theorem keeps_execWcAnd (h : Keeps r s) (sash cell) {t} (e : execWcAnd sash cell s = .next t) : Keeps r t := by
  grind [execWcAnd, keeps_wcellAlu]

theorem keeps_execWcOr (h : Keeps r s) (sash cell) {t} (e : execWcOr sash cell s = .next t) : Keeps r t := by
  grind [execWcOr, keeps_wcellAlu]

theorem keeps_execWcXor (h : Keeps r s) (sash cell) {t} (e : execWcXor sash cell s = .next t) : Keeps r t := by
  grind [execWcXor, keeps_wcellAlu]

theorem keeps_execWcAndn (h : Keeps r s) (sash cell) {t} (e : execWcAndn sash cell s = .next t) : Keeps r t := by
  grind [execWcAndn, keeps_wcellAlu]

theorem keeps_execWcShl (h : Keeps r s) (sash cell) {t} (e : execWcShl sash cell s = .next t) : Keeps r t := by
  grind [execWcShl, keeps_wcellAlu]

theorem keeps_execWcShr (h : Keeps r s) (sash cell) {t} (e : execWcShr sash cell s = .next t) : Keeps r t := by
  grind [execWcShr, keeps_wcellAlu]

theorem keeps_execWcSar (h : Keeps r s) (sash cell) {t} (e : execWcSar sash cell s = .next t) : Keeps r t := by
  grind [execWcSar, keeps_wcellAlu]

theorem keeps_execWcRol (h : Keeps r s) (sash cell) {t} (e : execWcRol sash cell s = .next t) : Keeps r t := by
  grind [execWcRol, keeps_wcellAlu]

theorem keeps_startMul (h : Keeps r s) (c p) : Keeps r (s.startMul c p) := by
  grind [State.startMul, keeps_modCell]

theorem keeps_execWcMulu (h : Keeps r s) (sash cell) {t} (e : execWcMulu sash cell s = .next t) : Keeps r t := by
  grind [execWcMulu, keeps_wcell, keeps_startMul]

theorem keeps_execWcMuls (h : Keeps r s) (sash cell) {t} (e : execWcMuls sash cell s = .next t) : Keeps r t := by
  grind [execWcMuls, keeps_wcell, keeps_startMul]

theorem keeps_execMulProductLand (h : Keeps r s) (i c) {t} (e : execMulProductLand i c s = .next t) : Keeps r t := by
  cases e
  dsimp only
  repeat' split
  all_goals solve_by_elim [keeps_modCell, keeps_driveWire]

theorem keeps_execWcCmp (h : Keeps r s) (sash cell) {t} (e : execWcCmp sash cell s = .next t) : Keeps r t := by
  grind [execWcCmp, keeps_wcell, keeps_modCell]

theorem keeps_execWcMov (h : Keeps r s) (sash cell) {t} (e : execWcMov sash cell s = .next t) : Keeps r t := by
  grind [execWcMov, keeps_wcellAlu]

theorem keeps_execWcBrev (h : Keeps r s) (sash cell) {t} (e : execWcBrev sash cell s = .next t) : Keeps r t := by
  grind [execWcBrev, keeps_wcellAlu]

theorem keeps_execWcScr (h : Keeps r s) (sash cell) {t} (e : execWcScr sash cell s = .next t) : Keeps r t := by
  grind [execWcScr, keeps_wcell, keeps_cellResult, keeps_foldl]

theorem keeps_execWcPopc (h : Keeps r s) (sash cell) {t} (e : execWcPopc sash cell s = .next t) : Keeps r t := by
  grind [execWcPopc, keeps_wcellAlu]

theorem keeps_execWcClz (h : Keeps r s) (sash cell) {t} (e : execWcClz sash cell s = .next t) : Keeps r t := by
  grind [execWcClz, keeps_wcellAlu]

theorem keeps_execWcIn (h : Keeps r s) (sash cell) {t} (e : execWcIn sash cell s = .next t) : Keeps r t := by
  grind [execWcIn, keeps_wcell, keeps_cellResult]

theorem keeps_execWcOut (h : Keeps r s) (sash cell) {t} (e : execWcOut sash cell s = .next t) : Keeps r t := by
  grind [execWcOut, keeps_wcell, keeps_modCell]

theorem keeps_execWcMal (h : Keeps r s) (sash cell) {t} (e : execWcMal sash cell s = .next t) : Keeps r t := by
  grind [execWcMal, keeps_wcell, keeps_modSash]

end Sys2Proof.Machine
end

section
set_option Elab.async false
/-! What every step keeps: the trigger unit. -/

namespace Sys2Proof.Machine

variable {r s : State}

theorem keeps_toutPulse (h : Keeps r s) (i mask w) : Keeps r (s.toutPulse i mask w) := by
  grind [State.toutPulse, keeps_foldl, keeps_mk, keeps_mkMem]

theorem keeps_triggerHalt (h : Keeps r s) (n) : Keeps r (s.triggerHalt n) := by
  grind [State.triggerHalt, keeps_cancelStartAt, keeps_askHalt]

theorem keeps_triggerActions (h : Keeps r s) (n i) : Keeps r (s.triggerActions n i) := by
  grind [State.triggerActions, keeps_triggerHalt, keeps_foldl, keeps_askHalt, keeps_post, keeps_toutPulse, keeps_send]

theorem keeps_keySignal (h : Keeps r s) (i sel) : Keeps r (s.keySignal i sel) := by
  grind [State.keySignal, keeps_mk, keeps_mkMem]

theorem keeps_rewrite (h : Keeps r s) (at_ old l) : Keeps r (s.rewrite at_ old l) := by
  grind [State.rewrite, keeps_foldl, keeps_memWrite]

theorem keeps_takeRecs (h : Keeps r s) (i t') : Keeps r (s.takeRecs i t') := by
  grind [State.takeRecs, keeps_rewrite, keeps_setTrig]

theorem keeps_fireUnit (h : Keeps r s) (n i grid info p) : Keeps r (s.fireUnit n i grid info p) := by
  grind [State.fireUnit, keeps_triggerActions, keeps_keySignal, keeps_modTrig, keeps_takeRecs]

theorem keeps_fireExternal (h : Keeps r s) (n i grid info) : Keeps r (s.fireExternal n i grid info) := by
  grind [State.fireExternal, keeps_fireUnit, keeps_setTrig]

theorem keeps_fireSite (h : Keeps r s) (n i grid) : Keeps r (s.fireSite n i grid) := by
  grind [State.fireSite, keeps_foldl, keeps_fireExternal]

theorem keeps_trigSlot (h : Keeps r s) (n i g) : Keeps r (s.trigSlot n i g) := by
  grind [State.trigSlot, keeps_foldl, keeps_keySignal, keeps_setTrig, keeps_fireSite, keeps_fireUnit]

theorem keeps_trigRun (h : Keeps r s) (n i fuel) : Keeps r (s.trigRun n i fuel) := by
  induction fuel generalizing s with
  | zero => exact h
  | succ fuel ih => grind [State.trigRun, keeps_trigSlot]

theorem keeps_trigAll (h : Keeps r s) (n i) : Keeps r (s.trigAll n i) := by
  grind [State.trigAll, keeps_trigRun]

end Sys2Proof.Machine
end

section
set_option Elab.async false
/-! What every step keeps: the pin engine. -/

namespace Sys2Proof.Machine

variable {r s : State}

theorem keeps_postRunStart (h : Keeps r s) (n off) : Keeps r (s.postRunStart n off) := by
  grind [State.postRunStart, keeps_modSite, keeps_postEvent]

theorem keeps_execCodeOrigin (h : Keeps r s) (site) {t} (e : execCodeOrigin site s = .next t) : Keeps r t := by
  grind [execCodeOrigin, keeps_foldl, keeps_drawFree, keeps_modLanes, keeps_modSite, keeps_postRunStart]

theorem keeps_logCodes (h : Keeps r s) (n i f codes) : Keeps r (s.logCodes n i f codes) := by
  grind [State.logCodes, keeps_foldl, keeps_mergeWord]

theorem keeps_settle (h : Keeps r s) (n) : Keeps r (s.settle n) := by
  grind [State.settle, keeps_enterHalted, keeps_foldl, keeps_trigAll]

theorem keeps_cycleBoundaries (h : Keeps r s) (n i f) : Keeps r (s.cycleBoundaries n i f) := by
  grind [State.cycleBoundaries, keeps_foldl, keeps_modLane, keeps_modSite]

theorem keeps_dataFrame (h : Keeps r s) (n i) : Keeps r (s.dataFrame n i) := by
  unfold State.dataFrame
  have hb := fun f => keeps_cycleBoundaries h n i f
  dsimp only
  split
  · exact keeps_modLane (keeps_logCodes (keeps_modLane (hb _) ..) ..) ..
  · exact keeps_faultSashNow (keeps_modLane (keeps_modLane (keeps_logCodes (keeps_modLane (hb _) ..) ..) ..) ..) ..

theorem keeps_directWord (h : Keeps r s) (i) : Keeps r (s.directWord i) := by
  grind [State.directWord, keeps_setLane, keeps_faultSashNow]

theorem keeps_linkFrame (h : Keeps r s) (i) : Keeps r (s.linkFrame i) := by
  grind [State.linkFrame, keeps_setLane]

theorem keeps_restFrame (h : Keeps r s) (i) : Keeps r (s.restFrame i) := by
  grind [State.restFrame, keeps_setLane]

theorem keeps_execFrameAssembly (h : Keeps r s) (lane) {t} (e : execFrameAssembly lane s = .next t) : Keeps r t := by
  grind [execFrameAssembly, keeps_settle, keeps_dataFrame, keeps_restFrame, keeps_directWord, keeps_setLane,
    keeps_linkFrame]

theorem keeps_pinFrameError (h : Keeps r s) (i fcnt err asic) : Keeps r (s.pinFrameError i fcnt err asic) := by
  grind [State.pinFrameError, keeps_modLane, keeps_faultSashNow, keeps_postLane]

theorem keeps_peAlarm (h : Keeps r s) (i) : Keeps r (s.peAlarm i) := by
  grind [State.peAlarm, keeps_postNotice, keeps_modLane]

theorem keeps_rxFrame {next : State → State} (hn : ∀ s, Keeps r s → Keeps r (next s)) (h : Keeps r s) (i hdr pay typ) :
    Keeps r (s.rxFrame i hdr pay typ next) := by
  grind [State.rxFrame, keeps_modLane, keeps_pinFrameError, keeps_peAlarm]

theorem keeps_decodeFrame (h : Keeps r s) (n i pay) : Keeps r (s.decodeFrame n i pay) := by
  grind [State.decodeFrame, keeps_modLane, keeps_modSash, keeps_runCompares, keeps_checkSpecs, keeps_settle]

theorem keeps_execRxDataFrame (h : Keeps r s) (lane hdr payload)
    {t} (e : execRxDataFrame lane hdr payload s = .next t) : Keeps r t := by
  grind [execRxDataFrame, keeps_rxFrame, keeps_decodeFrame]

theorem keeps_execRxIdleFrame (h : Keeps r s) (lane hdr payload)
    {t} (e : execRxIdleFrame lane hdr payload s = .next t) : Keeps r t := by
  grind [execRxIdleFrame, keeps_rxFrame, keeps_decodeFrame]

theorem keeps_execRxLoopbackFrame (h : Keeps r s) (lane hdr payload)
    {t} (e : execRxLoopbackFrame lane hdr payload s = .next t) : Keeps r t := by
  grind [execRxLoopbackFrame, keeps_rxFrame, keeps_modLane]

theorem keeps_execRxFrameTimeout (h : Keeps r s) (lane) {t} (e : execRxFrameTimeout lane s = .next t) : Keeps r t := by
  grind [execRxFrameTimeout, keeps_pinFrameError]

theorem keeps_wordMismatch (h : Keeps r s) (n i word x) : Keeps r (s.wordMismatch n i word x) := by
  grind [State.wordMismatch, keeps_modLane, keeps_formRecord]

theorem keeps_directRx (h : Keeps r s) (n i w) : Keeps r (s.directRx n i w) := by
  grind [State.directRx, keeps_setLane, keeps_wordMismatch]

theorem keeps_execDirectRxWord (h : Keeps r s) (lane w) {t} (e : execDirectRxWord lane w s = .next t) : Keeps r t := by
  grind [execDirectRxWord, keeps_setLane, keeps_directRx]

end Sys2Proof.Machine
end

section
set_option Elab.async false
/-! What every step keeps: run-ahead. -/

namespace Sys2Proof.Machine

variable {r s : State}

theorem keeps_deltaLine (h : Keeps r s) (n i all) : Keeps r (s.deltaLine n i all) := by
  grind [State.deltaLine, keeps_setPadLine, keeps_modSash]

theorem keeps_deltaFlush (h : Keeps r s) (n i fuel) : Keeps r (s.deltaFlush n i fuel) := by
  induction fuel generalizing s with
  | zero => exact h
  | succ fuel ih => exact ih (keeps_deltaLine h n i true)

theorem keeps_execDeltaWrite (h : Keeps r s) (sash) {t} (e : execDeltaWrite sash s = .next t) : Keeps r t := by
  grind [execDeltaWrite, keeps_modSash, keeps_deltaLine]

theorem keeps_undoRec (h : Keeps r s) (i r') : Keeps r (s.undoRec i r') := by
  grind [State.undoRec, keeps_modSash, keeps_setPadBit]

theorem keeps_undoRecs (h : Keeps r s) (i rs) : Keeps r (s.undoRecs i rs) := by
  grind [State.undoRecs, keeps_foldr, keeps_undoRec]

theorem keeps_undoPart (h : Keeps r s) (n i c k) : Keeps r (s.undoPart n i c k) := by
  grind [State.undoPart, keeps_modSash, keeps_foldl, keeps_undoRecs]

theorem keeps_undoSash (h : Keeps r s) (n i c) : Keeps r (s.undoSash n i c) := by
  grind [State.undoSash, keeps_undoPart, keeps_modSash]

theorem keeps_undoSite (h : Keeps r s) (n c) : Keeps r (s.undoSite n c) := by
  have hf := fun l : List Nat => keeps_foldl (f := fun s i => s.deltaFlush n i ((s.sash i).delta.queue.length + 1))
    (fun s i h => keeps_deltaFlush h ..) l h
  unfold State.undoSite
  dsimp only
  split
  · exact keeps_faultNow (keeps_foldl (fun s i h => keeps_undoPart h ..) _ (hf _)) ..
  · exact keeps_modSite (keeps_foldl (fun s i h => keeps_undoSash h ..) _ (hf _)) ..

theorem keeps_stopAfter (h : Keeps r s) (n c) : Keeps r (s.stopAfter n c) := by
  grind [State.stopAfter, keeps_decideStop, keeps_undoSite, keeps_modSashes, keeps_modLanes, keeps_modSite,
    keeps_settle]

theorem keeps_sendRollback (h : Keeps r s) (n c) : Keeps r (s.sendRollback n c) := by
  grind [State.sendRollback, keeps_foldl, keeps_send]

theorem keeps_commitSash (h : Keeps r s) (n c) (ls : List Nat) :
    Keeps r (ls.foldl (fun s i => (s.runCompares n i fun e => e.cycle == c).captureChecks n i c true) s) :=
  keeps_foldl (fun _ _ h => keeps_captureChecks (keeps_runCompares h ..) ..) _ h
theorem keeps_execCycleCommit (h : Keeps r s) (n) {t} (e : execCycleCommit n s = .next t) : Keeps r t := by
  cases e
  extract_lets n x c ls s1 s2 s3 s4
  split
  · exact h
  split
  · have h3 : Keeps r s3 := keeps_modSite (keeps_modSashes (keeps_commitSash h n c ls) ..) ..
    have h4 : Keeps r s4 := by
      unfold s4
      split
      · exact keeps_sendRollback h3 ..
      · exact h3
    split
    · split
      · exact keeps_stopAfter h4 ..
      · exact h4
    · exact keeps_settle h4 _
  · exact h

theorem keeps_startRollback (h : Keeps r s) (n c) : Keeps r (s.startRollback n c) := by
  grind [State.startRollback, keeps_modSashes, keeps_modSite]

theorem keeps_actOnDiv (h : Keeps r s) (n c pin) : Keeps r (s.actOnDiv n c pin) := by
  grind [State.actOnDiv, keeps_stopAfter, keeps_postNotice, keeps_startRollback]

theorem keeps_execDivergenceDecided (h : Keeps r s) (site)
    {t} (e : execDivergenceDecided site s = .next t) : Keeps r t := by
  grind [execDivergenceDecided, keeps_setSite, keeps_postNotice, keeps_sendRollback, keeps_actOnDiv]

theorem keeps_execRollback (h : Keeps r s) (site) {t} (e : execRollback site s = .next t) : Keeps r t := by
  grind [execRollback, keeps_undoSite, keeps_modSashes, keeps_modLanes, keeps_modSite]

end Sys2Proof.Machine
end

section
set_option Elab.async false
/-! What every step keeps: the hinge, tokens and transoms. -/

namespace Sys2Proof.Machine

variable {r s : State}

theorem keeps_applyRec (h : Keeps r s) (k i x) : Keeps r (s.applyRec k i x) := by
  cases x with
  | wpatch c m b =>
    unfold State.applyRec
    dsimp only
    split
    · exact keeps_modCell h ..
    · exact keeps_modSash h ..
  | ipatch p a w => exact keeps_modSash h ..
  | deposit p k v => exact keeps_modSash h ..
  | pinpatch p f v row => exact keeps_modLane h ..
  | trigpatch f v => exact keeps_modTrig h ..

theorem keeps_applyTransom (h : Keeps r s) (n h') : Keeps r (s.applyTransom n h') := by
  grind [State.applyTransom, keeps_foldl, keeps_applyRec, keeps_modSite, keeps_finish]

theorem keeps_execTransomCommit (h : Keeps r s) (site) {t} (e : execTransomCommit site s = .next t) : Keeps r t := by
  grind [execTransomCommit, keeps_finish, keeps_modSite]

theorem keeps_execPatchRetire (h : Keeps r s) (sash pane addr)
    {t} (e : execPatchRetire sash pane addr s = .next t) : Keeps r t := by
  grind [execPatchRetire, keeps_setSash]

theorem keeps_modGroups (h : Keeps r s) (n f) : Keeps r (s.modGroups n f) := by
  grind [State.modGroups, keeps_mk, keeps_mkMem]

theorem keeps_applyGroups (h : Keeps r s) (n) : Keeps r (s.applyGroups n) := by
  grind [State.applyGroups, keeps_modGroups]

theorem keeps_resetGroups (h : Keeps r s) (n) : Keeps r (s.resetGroups n) := by
  grind [State.resetGroups, keeps_modGroups]

theorem keeps_execHinge (h : Keeps r s) (sash) {t} (e : execHinge sash s = .next t) : Keeps r t := by
  grind [execHinge, keeps_setSash, keeps_modSite, keeps_pendSash]

theorem keeps_sendToken (h : Keeps r s) (n p role kind) : Keeps r (s.sendToken n p role kind) := by
  grind [State.sendToken, keeps_modLane, keeps_send]

theorem keeps_releaseDown (h : Keeps r s) (n kind) : Keeps r (s.releaseDown n kind) := by
  grind [State.releaseDown, keeps_foldl, keeps_sendToken]

theorem keeps_hingeApply (h : Keeps r s) (n) : Keeps r (s.hingeApply n) := by
  grind [State.hingeApply, keeps_modSashes, keeps_modSite, keeps_foldl, keeps_modLanes, keeps_applyGroups,
    keeps_applyTransom]

theorem keeps_releaseContinue (h : Keeps r s) (n left) : Keeps r (s.releaseContinue n left) := by
  grind [State.releaseContinue, keeps_releaseDown, keeps_hingeApply, keeps_modSashes]

theorem keeps_releaseHalt (h : Keeps r s) (n) : Keeps r (s.releaseHalt n) := by
  grind [State.releaseHalt, keeps_releaseDown, keeps_hingeApply, keeps_modSashes, keeps_modLanes, keeps_modSite,
    keeps_settle]

theorem keeps_releaseFault (h : Keeps r s) (n) : Keeps r (s.releaseFault n) := by
  grind [State.releaseFault, keeps_releaseDown, keeps_enterFaulted]

theorem keeps_execHingeRelease (h : Keeps r s) (site) {t} (e : execHingeRelease site s = .next t) : Keeps r t := by
  grind [execHingeRelease, keeps_releaseHalt, keeps_releaseContinue, keeps_sendToken, keeps_modSite, keeps_releaseFault]

theorem keeps_linkSeq (h : Keeps r s) (i seq) : Keeps r (s.linkSeq i seq) := by
  grind [State.linkSeq, keeps_setLane, keeps_pendSash]

theorem keeps_skipSeq (h : Keeps r s) (i) : Keeps r (s.skipSeq i) := by
  grind [State.skipSeq, keeps_modLane]

theorem keeps_token {act lost : State → Nat → State} (ha : ∀ s p, Keeps r s → Keeps r (act s p))
    (hl : ∀ s p, Keeps r s → Keeps r (lost s p)) (h : Keeps r s) (n via kind hinge good) :
    Keeps r (s.token n via kind hinge good act lost) := by
  grind [State.token, keeps_pendFault, keeps_linkSeq, keeps_modLane, keeps_skipSeq]

theorem keeps_childArrives (h : Keeps r s) (n part fault) : Keeps r (s.childArrives n part fault) := by
  grind [State.childArrives, keeps_modSite]

theorem keeps_releaseTaken (h : Keeps r s) (n k) : Keeps r (s.releaseTaken n k) := by
  grind [State.releaseTaken, keeps_modSite, keeps_releaseHalt, keeps_releaseContinue]

theorem keeps_released {f : State → State} (hf : ∀ s, Keeps r s → Keeps r (f s)) (h : Keeps r s) (n) :
    Keeps r (s.released n f) := by
  grind [State.released]

theorem keeps_noteRemote (h : Keeps r s) (n) : Keeps r (s.noteRemote n) := by
  grind [State.noteRemote, keeps_drawFree, keeps_modSite]

theorem keeps_hingeToken (h : Keeps r s) (n via kind hinge good) : Keeps r (s.hingeToken n via kind hinge good) := by
  have hlost : ∀ (s : State) (_ : Nat), Keeps r s → Keeps r (s.released n (·.releaseFault n)) :=
    fun s _ h => keeps_released (fun s h => keeps_releaseFault h n) h n
  have hchild := fun b s p (h : Keeps r s) => keeps_childArrives h n p b
  unfold State.hingeToken
  dsimp only
  split
  · exact keeps_token (hchild _) (hchild _) h ..
  · exact keeps_token (fun s p h => keeps_childArrives (keeps_noteRemote h n) ..) (hchild _) h ..
  · exact keeps_token (fun s _ h => keeps_released (fun s h => keeps_releaseTaken h n _) h n) hlost h ..
  · exact keeps_token (fun s _ h => keeps_released (fun s h => keeps_releaseTaken h n _) h n) hlost h ..
  · exact keeps_token (fun s _ h => keeps_released (fun s h => keeps_releaseFault (keeps_noteRemote h n) n) h n) hlost h ..
  · exact h

theorem keeps_execHingeArrive (h : Keeps r s) (site via hinge good)
    {t} (e : execHingeArrive site via hinge good s = .next t) : Keeps r t := by
  grind [execHingeArrive, keeps_hingeToken]

theorem keeps_execHingeArriveFault (h : Keeps r s) (site via hinge good)
    {t} (e : execHingeArriveFault site via hinge good s = .next t) : Keeps r t := by
  grind [execHingeArriveFault, keeps_hingeToken]

theorem keeps_execHingeReleaseContinue (h : Keeps r s) (site via hinge good)
    {t} (e : execHingeReleaseContinue site via hinge good s = .next t) : Keeps r t := by
  grind [execHingeReleaseContinue, keeps_hingeToken]

theorem keeps_execHingeReleaseHalt (h : Keeps r s) (site via hinge good)
    {t} (e : execHingeReleaseHalt site via hinge good s = .next t) : Keeps r t := by
  grind [execHingeReleaseHalt, keeps_hingeToken]

theorem keeps_execHingeReleaseFault (h : Keeps r s) (site via hinge good)
    {t} (e : execHingeReleaseFault site via hinge good s = .next t) : Keeps r t := by
  grind [execHingeReleaseFault, keeps_hingeToken]

end Sys2Proof.Machine
end

section
set_option Elab.async false
/-! What every step keeps: the fail path. -/

namespace Sys2Proof.Machine

variable {r s : State}

theorem keeps_modFl (h : Keeps r s) (n f) : Keeps r (s.modFl n f) := by
  grind [State.modFl, keeps_modSite]

theorem keeps_postFailSet (h : Keeps r s) (n st action stb) : Keeps r (s.postFailSet n st action stb) := by
  grind [State.postFailSet, keeps_post]

theorem keeps_failPoison (h : Keeps r s) (n i a) : Keeps r (s.failPoison n i a) := by
  grind [State.failPoison, keeps_faultSashNow]

theorem keeps_failStore (h : Keeps r s) (n i recs) : Keeps r (s.failStore n i recs) := by
  grind [State.failStore, keeps_modLane, keeps_modFl, keeps_postFailSet, keeps_askHalt, keeps_newWorm]

theorem keeps_failBit (h : Keeps r s) (n i r') : Keeps r (s.failBit n i r') := by
  grind [State.failBit, keeps_newWorm]

theorem keeps_failSend (h : Keeps r s) (n i) : Keeps r (s.failSend n i) := by
  grind [State.failSend, keeps_modLane, keeps_modFl, keeps_foldl, keeps_failPoison, keeps_memRead, keeps_failStore,
    keeps_failBit]

theorem keeps_failChunkDone (h : Keeps r s) (i k st a) : Keeps r (s.failChunkDone i k st a) := by
  grind [State.failChunkDone, keeps_modFl, keeps_postAddr]

theorem keeps_failOrDone (h : Keeps r s) (i byte bit rw cw st a pay) :
    Keeps r (s.failOrDone i byte bit rw cw st a pay) := by
  grind [State.failOrDone, keeps_modFl, keeps_newWorm, keeps_postAddr]

theorem keeps_failAddDone (h : Keeps r s) (i st a) : Keeps r (s.failAddDone i st a) := by
  grind [State.failAddDone, keeps_modFl, keeps_failPoison, keeps_postAddr]

theorem keeps_execFailBufferWrite (h : Keeps r s) (sash)
    {t} (e : execFailBufferWrite sash s = .next t) : Keeps r t := by
  grind [execFailBufferWrite, keeps_modLane, keeps_setPadLine, keeps_modSash]

theorem keeps_streamTakes (h : Keeps r s) (n i) : Keeps r (s.streamTakes n i) := by
  grind [State.streamTakes, keeps_modSash, keeps_failSend]

theorem keeps_execFailChunkSend (h : Keeps r s) (sash) {t} (e : execFailChunkSend sash s = .next t) : Keeps r t := by
  grind [execFailChunkSend, keeps_streamTakes]

theorem keeps_execFailFlushTimeout (h : Keeps r s) (sash)
    {t} (e : execFailFlushTimeout sash s = .next t) : Keeps r t := by
  grind [execFailFlushTimeout, keeps_streamTakes]

theorem keeps_copyCounterLine (h : Keeps r s) (n j) : Keeps r (s.copyCounterLine n j) := by
  unfold State.copyCounterLine
  extract_lets x i src dst bad
  clear_value src dst bad
  refine keeps_ite (keeps_postAddr (keeps_modFl h ..) ..) ?_
  have hm := keeps_memRead h src 32
  generalize s.memRead src 32 = y at hm ⊢
  obtain ⟨b, e, t⟩ := y
  have hw := keeps_memWrite hm dst b
  exact keeps_ite (keeps_mkMem (keeps_modFl hw n _) rfl) hw

theorem keeps_copyCounters (h : Keeps r s) (n) : Keeps r (s.copyCounters n) := by
  grind [State.copyCounters, keeps_foldl, keeps_copyCounterLine]

theorem keeps_failCloseEnd (h : Keeps r s) (n) : Keeps r (s.failCloseEnd n) := by
  grind [State.failCloseEnd, keeps_copyCounters, keeps_modFl, keeps_memWrite, keeps_postFailSet]

theorem keeps_execFailClose (h : Keeps r s) (site) {t} (e : execFailClose site s = .next t) : Keeps r t := by
  grind [execFailClose, keeps_failCloseEnd]

theorem keeps_failDrain (h : Keeps r s) (n i fuel) : Keeps r (s.failDrain n i fuel) := by
  induction fuel generalizing s with
  | zero => exact h
  | succ fuel ih => grind [State.failDrain, keeps_failSend, keeps_modLane]

end Sys2Proof.Machine
end

section
set_option Elab.async false
/-! What every step keeps: the ring exchange. -/

namespace Sys2Proof.Machine

variable {r s : State}

theorem keeps_execBundleLaunch (h : Keeps r s) (sash tag)
    {t} (e : execBundleLaunch sash tag s = .next t) : Keeps r t := by
  grind [execBundleLaunch, keeps_setLane, keeps_beginStall, keeps_modSash, keeps_mk, keeps_mkMem]

theorem keeps_setFlit (h : Keeps r s) (f) : Keeps r (s.setFlit f) := by
  grind [State.setFlit, keeps_mk, keeps_mkMem]

theorem keeps_dropFlit (h : Keeps r s) (id) : Keeps r (s.dropFlit id) := by
  grind [State.dropFlit, keeps_mk, keeps_mkMem]

theorem keeps_useLink (h : Keeps r s) (r' a) : Keeps r (s.useLink r' a) := by
  grind [State.useLink, keeps_mk, keeps_mkMem]

theorem keeps_atStop (h : Keeps r s) (f owner) : Keeps r (s.atStop f owner) := by
  grind [State.atStop, keeps_dropFlit, keeps_pendFault, keeps_setFlit]

theorem keeps_slotCheck (h : Keeps r s) (f) : Keeps r (s.slotCheck f) := by
  grind [State.slotCheck, keeps_setStop, keeps_pendFault]

theorem keeps_crossBundle (h : Keeps r s) (f errs) : Keeps r (s.crossBundle f errs) := by
  grind [State.crossBundle, keeps_slotCheck, keeps_atStop]

theorem keeps_wormArrives (h : Keeps r s) (id) : Keeps r (s.wormArrives id) := by
  grind [State.wormArrives, keeps_mk, keeps_mkMem]

theorem keeps_crossWorm (h : Keeps r s) (f) : Keeps r (s.crossWorm f) := by
  grind [State.crossWorm, keeps_mk, keeps_mkMem, keeps_dropFlit, keeps_wormArrives, keeps_setFlit]

theorem keeps_linkFails (h : Keeps r s) (r' a) : Keeps r (s.linkFails r' a) := by
  grind [State.linkFails, keeps_mk, keeps_mkMem, keeps_postNotice, keeps_foldl, keeps_faultNow]

theorem keeps_flitFails (h : Keeps r s) (f) : Keeps r (s.flitFails f) := by
  grind [State.flitFails, keeps_setFlit, keeps_linkFails]

theorem keeps_execFlitHop (h : Keeps r s) (link errs) {t} (e : execFlitHop link errs s = .next t) : Keeps r t := by
  grind [execFlitHop, keeps_useLink, keeps_crossBundle, keeps_flitFails, keeps_crossWorm]

theorem keeps_execRingRetry (h : Keeps r s) (worm ring stop)
    {t} (e : execRingRetry worm ring stop s = .next t) : Keeps r t := by
  grind [execRingRetry, keeps_flitFails, keeps_useLink]

theorem keeps_ejectBundle (h : Keeps r s) (f tag) : Keeps r (s.ejectBundle f tag) := by
  grind [State.ejectBundle, keeps_setSash, keeps_dropFlit]

theorem keeps_execBundleEject (h : Keeps r s) (flit) {t} (e : execBundleEject flit s = .next t) : Keeps r t := by
  grind [execBundleEject, keeps_dropFlit, keeps_modLane, keeps_ejectBundle]

theorem keeps_execBundleFrame (h : Keeps r s) (lane hdr bits)
    {t} (e : execBundleFrame lane hdr bits s = .next t) : Keeps r t := by
  grind [execBundleFrame, keeps_modLane, keeps_linkSeq, keeps_skipSeq, keeps_mk, keeps_mkMem, keeps_atStop]

theorem keeps_execBundleWatchdogExpiry (h : Keeps r s) (site w)
    {t} (e : execBundleWatchdogExpiry site w s = .next t) : Keeps r t := by
  grind [execBundleWatchdogExpiry, keeps_recvTake, keeps_setSash, keeps_faultNow, keeps_releaseDown]

theorem keeps_louvreTake (h : Keeps r s) (d vc2 n) {t} (e : s.louvreTake d vc2 n = some t) : Keeps r t := by
  grind [State.louvreTake, keeps_setStop]

theorem keeps_setWorm (h : Keeps r s) (w) : Keeps r (s.setWorm w) := by
  grind [State.setWorm, keeps_mk, keeps_mkMem]

theorem keeps_dropWorm (h : Keeps r s) (id) : Keeps r (s.dropWorm id) := by
  grind [State.dropWorm, keeps_mk, keeps_mkMem]

theorem keeps_putWorm (h : Keeps r s) (w) : Keeps r (s.putWorm w) := by
  grind [State.putWorm, keeps_mk, keeps_mkMem]

theorem keeps_enterRing (h : Keeps r s) (w) : Keeps r (s.enterRing w) := by
  grind [State.enterRing, keeps_wormArrives, keeps_setWorm, keeps_mk, keeps_mkMem]

theorem keeps_wormGo (h : Keeps r s) (w : Worm) :
    Keeps r (match s.louvreTake w.src w.resp (1 + w.len) with | some s => s.enterRing w | none => s) := by
  split
  · exact keeps_enterRing (keeps_louvreTake h _ _ _ ‹_›) w
  · exact h
theorem keeps_execWormInject (h : Keeps r s) (id) {t} (e : execWormInject id s = .next t) : Keeps r t := by
  cases e
  dsimp only
  split
  · exact h
  split
  · exact h
  split
  · exact keeps_wormGo h _
  have ha := fun w d => keeps_access h d (w : Worm).dma
  split <;> rename_i hd <;> have ha := congrArg Prod.snd hd ▸ ha _ _
  · exact keeps_wormGo ha _
  · exact ha
  · exact keeps_putWorm ha _

theorem keeps_bar2Issue (h : Keeps r s) (r') : Keeps r (s.bar2Issue r') := by
  grind [State.bar2Issue, keeps_foldl, keeps_newWorm]

theorem keeps_bar2Release (h : Keeps r s) : Keeps r (s.bar2Release) := by
  grind [State.bar2Release, keeps_mk, keeps_mkMem, keeps_foldl, keeps_bar2Issue]

theorem keeps_bar2Finish (h : Keeps r s) (r') : Keeps r (s.bar2Finish r') := by
  grind [State.bar2Finish, keeps_bar2Release, keeps_mk, keeps_mkMem]

theorem keeps_bar2Answer (h : Keeps r s) (id off typ st a pay) : Keeps r (s.bar2Answer id off typ st a pay) := by
  grind [State.bar2Answer, keeps_postAddr, keeps_bar2Finish, keeps_mk, keeps_mkMem]

theorem keeps_performOr (h : Keeps r s) (w) : Keeps r (s.performOr w) := by
  grind [State.performOr, keeps_putWorm, keeps_atomic, keeps_orHalf]

theorem keeps_perform (h : Keeps r s) (w) : Keeps r (s.perform w) := by
  grind [State.perform, keeps_memRead, keeps_putWorm, keeps_memWriteBE, keeps_performOr, keeps_atomic]

theorem keeps_padTakes (h : Keeps r s) (w) : Keeps r (s.padTakes w) := by
  grind [State.padTakes, keeps_modSash]

theorem keeps_serve (h : Keeps r s) (id typ) : Keeps r (s.serve id typ) := by
  grind [State.serve, keeps_putWorm, keeps_faultNow, keeps_mk, keeps_mkMem, keeps_padTakes, keeps_perform]

theorem keeps_execRingRead (h : Keeps r s) (worm) {t} (e : execRingRead worm s = .next t) : Keeps r t := by
  grind [execRingRead, keeps_serve]

theorem keeps_execRingWrite (h : Keeps r s) (worm) {t} (e : execRingWrite worm s = .next t) : Keeps r t := by
  grind [execRingWrite, keeps_serve]

theorem keeps_execRingAdd32 (h : Keeps r s) (worm) {t} (e : execRingAdd32 worm s = .next t) : Keeps r t := by
  grind [execRingAdd32, keeps_serve]

theorem keeps_execRingAdd64 (h : Keeps r s) (worm) {t} (e : execRingAdd64 worm s = .next t) : Keeps r t := by
  grind [execRingAdd64, keeps_serve]

theorem keeps_execRingSwap (h : Keeps r s) (worm) {t} (e : execRingSwap worm s = .next t) : Keeps r t := by
  grind [execRingSwap, keeps_serve]

theorem keeps_execRingOr (h : Keeps r s) (worm) {t} (e : execRingOr worm s = .next t) : Keeps r t := by
  grind [execRingOr, keeps_serve]

theorem keeps_execRegionFillDone (h : Keeps r s) (region)
    {t} (e : execRegionFillDone region s = .next t) : Keeps r t := by
  grind [execRegionFillDone, keeps_mk, keeps_mkMem, keeps_ensureRegion, keeps_foldl, keeps_perform]

theorem keeps_xferAnswer (h : Keeps r s) (k off typ st a pay) : Keeps r (s.xferAnswer k off typ st a pay) := by
  grind [State.xferAnswer, keeps_memWrite, keeps_modCasm]

theorem keeps_copyAnswer (h : Keeps r s) (tk off typ st pay) : Keeps r (s.copyAnswer tk off typ st pay) := by
  grind [State.copyAnswer, keeps_finish, keeps_mk, keeps_mkMem, keeps_modTicket]

theorem keeps_deliver (h : Keeps r s) (w) : Keeps r (s.deliver w) := by
  grind [State.deliver, keeps_dropWorm, keeps_bar2Answer, keeps_failChunkDone, keeps_failOrDone, keeps_failAddDone,
    keeps_postAddr, keeps_xferAnswer, keeps_copyAnswer]

theorem keeps_deliverRow (h : Keeps r s) (id typ) : Keeps r (s.deliverRow id typ) := by
  grind [State.deliverRow, keeps_deliver]

theorem keeps_execRingRespData (h : Keeps r s) (worm) {t} (e : execRingRespData worm s = .next t) : Keeps r t := by
  grind [execRingRespData, keeps_deliverRow]

theorem keeps_execRingRespAck (h : Keeps r s) (worm) {t} (e : execRingRespAck worm s = .next t) : Keeps r t := by
  grind [execRingRespAck, keeps_deliverRow]

theorem keeps_execRingRespErr (h : Keeps r s) (worm) {t} (e : execRingRespErr worm s = .next t) : Keeps r t := by
  grind [execRingRespErr, keeps_deliverRow]

theorem keeps_execRingCtrl (h : Keeps r s) (worm) {t} (e : execRingCtrl worm s = .next t) : Keeps r t := by
  grind [execRingCtrl, keeps_deliverRow]

theorem keeps_flushFailWorms (h : Keeps r s) (l fuel) : Keeps r (s.flushFailWorms l fuel) := by
  induction fuel generalizing s with
  | zero => exact h
  | succ fuel ih => grind [State.flushFailWorms, keeps_putWorm, keeps_perform, keeps_deliver]

theorem keeps_execStopDrainDone (h : Keeps r s) (stop) {t} (e : execStopDrainDone stop s = .next t) : Keeps r t := by
  grind [execStopDrainDone, keeps_setStop]

theorem keeps_execStopDrainTimeout (h : Keeps r s) (stop)
    {t} (e : execStopDrainTimeout stop s = .next t) : Keeps r t := by
  grind [execStopDrainTimeout, keeps_setStop]

theorem keeps_execStopReconfigRetry (h : Keeps r s) (stop)
    {t} (e : execStopReconfigRetry stop s = .next t) : Keeps r t := by
  grind [execStopReconfigRetry, keeps_setStop]

end Sys2Proof.Machine
end

section
set_option Elab.async false
/-! What every step keeps: what a step clock does by itself. -/

namespace Sys2Proof.Machine

variable {r s : State}

theorem keeps_takePattern (h : Keeps r s) (i) : Keeps r (s.takePattern i) := by
  grind [State.takePattern, keeps_faultSashNow, keeps_setLane, keeps_setSash]

theorem keeps_driveResp (h : Keeps r s) (i) : Keeps r (s.driveResp i) := by
  unfold State.driveResp
  dsimp only
  split
  · exact keeps_driveWire h ..
  · exact h

theorem keeps_tickCells (h : Keeps r s) (n i) : Keeps r (s.tickCells n i) := by
  unfold State.tickCells
  dsimp only
  repeat' split
  all_goals solve_by_elim [keeps_setSash, keeps_modSash, keeps_takePattern]

theorem keeps_applyMemw (h : Keeps r s) (n i) : Keeps r (s.applyMemw n i) := by
  refine keeps_foldl (fun s m h => ?_) _ (keeps_modSash h ..)
  have hp := keeps_padBit h i m.line m.bit
  rcases hd : s.padBit i m.line m.bit with ⟨old, bad, t⟩
  rw [hd] at hp
  have hv := keeps_setPadBit (keeps_ite (c := bad = true) (keeps_pendSash hp i Code.DI_POISON_READ m.pane (padAddr i (32 * m.line))) hp)
    i m.line m.bit m.val
  exact keeps_ite hv (keeps_modSash hv ..)

theorem keeps_sampleWires (h : Keeps r s) (n i k) : Keeps r (s.sampleWires n i k) := by
  grind [State.sampleWires, keeps_setLane, keeps_foldl]

theorem keeps_endPanes (h : Keeps r s) (n i) : Keeps r (s.endPanes n i) := by
  grind [State.endPanes, keeps_applyMemw, keeps_mk, keeps_mkMem, keeps_sampleWires, keeps_captureChecks, keeps_modSash]

theorem keeps_stallStep (h : Keeps r s) (n i) : Keeps r (s.stallStep n i) := by
  grind [State.stallStep, keeps_modSash, keeps_setSash]

theorem keeps_tickPanes (h : Keeps r s) (n i) : Keeps r (s.tickPanes n i) := by
  grind [State.tickPanes, keeps_stallStep, keeps_endPanes, keeps_setSash, keeps_beginStall, keeps_modSash,
    keeps_sampleWires]

theorem keeps_tickSash (h : Keeps r s) (n i) : Keeps r (s.tickSash n i) := by
  grind [State.tickSash, keeps_tickPanes, keeps_tickCells, keeps_driveResp]

theorem keeps_paceStep (h : Keeps r s) (n) : Keeps r (s.paceStep n) := by
  grind [State.paceStep, keeps_modSashes]

theorem keeps_waitDeltas (h : Keeps r s) (n) : Keeps r (s.waitDeltas n) := by
  grind [State.waitDeltas, keeps_foldl, keeps_modSash, keeps_beginStallAs]

theorem keeps_lateTokens (h : Keeps r s) (n) : Keeps r (s.lateTokens n) := by
  grind [State.lateTokens, keeps_modSash, keeps_modSite, keeps_pendSash]

theorem keeps_tickHinge (h : Keeps r s) (n) : Keeps r (s.tickHinge n) := by
  grind [State.tickHinge, keeps_modSite, keeps_paceStep, keeps_lateTokens, keeps_waitDeltas]

theorem keeps_tickPeak (h : Keeps r s) (n) : Keeps r (s.tickPeak n) := by
  grind [State.tickPeak, keeps_modSite, keeps_foldl]

theorem keeps_tickSite (h : Keeps r s) (n) : Keeps r (s.tickSite n) := by
  grind [State.tickSite, keeps_tickHinge, keeps_tickPeak, keeps_foldl, keeps_tickSash, keeps_modSite]

theorem keeps_tickKeyhole (h : Keeps r s) : Keeps r (s.tickKeyhole) := by
  grind [State.tickKeyhole, keeps_mk, keeps_mkMem]

theorem keeps_tickTime (h : Keeps r s) : Keeps r (s.tickTime) := by
  grind [State.tickTime, keeps_mk, keeps_mkMem]

theorem keeps_tickTrigs (h : Keeps r s) (n) : Keeps r (s.tickTrigs n) := by
  grind [State.tickTrigs, keeps_foldl, keeps_trigRun]

theorem keeps_tick (h : Keeps r s) : Keeps r (s.tick) := by
  grind [State.tick, keeps_foldl, keeps_tickTrigs, keeps_tickSite, keeps_mk, keeps_mkMem, keeps_tickTime,
    keeps_tickKeyhole]

end Sys2Proof.Machine
end

section
set_option Elab.async false
/-! What every step keeps: the host interface. -/

namespace Sys2Proof.Machine

variable {r s : State}

theorem keeps_wrongSeq (h : Keeps r s) (ch) : Keeps r (s.wrongSeq ch) := by
  grind [State.wrongSeq, keeps_channelDone]

theorem keeps_channelReset (h : Keeps r s) (ch) : Keeps r (s.channelReset ch) := by
  grind [State.channelReset, keeps_setChan, keeps_mk, keeps_mkMem]

theorem keeps_doorbell (h : Keeps r s) (ch v) : Keeps r (s.doorbell ch v) := by
  grind [State.doorbell, keeps_channelReset, keeps_setChan, keeps_screen, keeps_setIrq, keeps_wrongSeq]

theorem keeps_execMbxDoorbell (h : Keeps r s) (ch v) {t} (e : execMbxDoorbell ch v s = .next t) : Keeps r t := by
  grind [execMbxDoorbell, keeps_doorbell]

theorem keeps_execMbxChannelReset (h : Keeps r s) (ch) {t} (e : execMbxChannelReset ch s = .next t) : Keeps r t := by
  grind [execMbxChannelReset, keeps_channelReset]

theorem keeps_execHifIrqStatusClear (h : Keeps r s) (v) {t} (e : execHifIrqStatusClear v s = .next t) : Keeps r t := by
  grind [execHifIrqStatusClear, keeps_mk, keeps_mkMem]

theorem keeps_execHifIrqMaskWrite (h : Keeps r s) (v) {t} (e : execHifIrqMaskWrite v s = .next t) : Keeps r t := by
  grind [execHifIrqMaskWrite, keeps_mk, keeps_mkMem]

theorem keeps_execHifWinBaseWrite (h : Keeps r s) (v) {t} (e : execHifWinBaseWrite v s = .next t) : Keeps r t := by
  grind [execHifWinBaseWrite, keeps_mk, keeps_mkMem]

theorem keeps_ringEnabled (h : Keeps r s) : Keeps r (s.ringEnabled) := by
  grind [State.ringEnabled, keeps_post, keeps_mk, keeps_mkMem, keeps_postFault]

theorem keeps_evqCtlWrite (h : Keeps r s) (v) : Keeps r (s.evqCtlWrite v) := by
  grind [State.evqCtlWrite, keeps_ringEnabled, keeps_mk, keeps_mkMem]

theorem keeps_execHifEvqCtlWrite (h : Keeps r s) (v) {t} (e : execHifEvqCtlWrite v s = .next t) : Keeps r t := by
  grind [execHifEvqCtlWrite, keeps_evqCtlWrite]

theorem keeps_execHifEvqConsWrite (h : Keeps r s) (v) {t} (e : execHifEvqConsWrite v s = .next t) : Keeps r t := by
  grind [execHifEvqConsWrite, keeps_mk, keeps_mkMem]

theorem keeps_execEventPost (h : Keeps r s) {t} (e : execEventPost s = .next t) : Keeps r t := by
  grind [execEventPost, keeps_mk, keeps_mkMem, keeps_retain]

theorem keeps_execTicketExpiry (h : Keeps r s) (ticket) {t} (e : execTicketExpiry ticket s = .next t) : Keeps r t := by
  grind [execTicketExpiry, keeps_setTicket]

theorem keeps_execBar0BadAccess (h : Keeps r s) (off size fuel)
    {t} (e : execBar0BadAccess off size fuel s = .next t) : Keeps r t := by
  grind [execBar0BadAccess, keeps_hifErr]

theorem keeps_groupOp (h : Keeps r s) (k f) : Keeps r (s.groupOp k f).2 := by
  grind [State.groupOp, keeps_mk, keeps_mkMem]

theorem keeps_commitGroup (h : Keeps r s) (k) : Keeps r (s.commitGroup k).2 := by
  grind [State.commitGroup, keeps_groupOp]

theorem keeps_discardGroup (h : Keeps r s) (k) : Keeps r (s.discardGroup k).2 := by
  grind [State.discardGroup, keeps_groupOp]

theorem keeps_groupWrite (h : Keeps r s) (k off v g) : Keeps r (s.groupWrite k off v g).2 := by
  grind [State.groupWrite, keeps_groupOp, keeps_commitGroup, keeps_discardGroup]

theorem keeps_write32 (h : Keeps r s) (off v) : Keeps r (s.write32 off v) := by
  unfold State.write32
  refine keeps_ite (keeps_mk h) (keeps_ite (keeps_mk h) (keeps_ite (keeps_mk h) ?_))
  refine keeps_ite (keeps_ite h (keeps_mk h)) (keeps_ite (keeps_ite h (keeps_mk h)) ?_)
  refine keeps_ite (keeps_evqCtlWrite h v) (keeps_ite (keeps_mk h) (keeps_ite ?_ ?_))
  · exact keeps_ite (keeps_modChan h ..) (keeps_ite (keeps_doorbell h ..) h)
  · split
    · exact keeps_groupWrite h ..
    · exact h

theorem keeps_execRegisterWrite (h : Keeps r s) (off size v)
    {t} (e : execRegisterWrite off size v s = .next t) : Keeps r t := by
  grind [execRegisterWrite, keeps_hifErr, keeps_write32]

theorem keeps_execCommitGroupCommit (h : Keeps r s) (group)
    {t} (e : execCommitGroupCommit group s = .next t) : Keeps r t := by
  grind [execCommitGroupCommit, keeps_commitGroup]

theorem keeps_execCommitGroupDiscard (h : Keeps r s) (group)
    {t} (e : execCommitGroupDiscard group s = .next t) : Keeps r t := by
  grind [execCommitGroupDiscard, keeps_discardGroup]

theorem keeps_bar2New (h : Keeps r s) (r') : Keeps r (s.bar2New r') := by
  grind [State.bar2New, keeps_mk, keeps_mkMem]

theorem keeps_bar2Zero (h : Keeps r s) (r') : Keeps r (s.bar2Zero r') := by
  grind [State.bar2Zero, keeps_mk, keeps_mkMem]

theorem keeps_bufRead (h : Keeps r s) : Keeps r (s.bufRead) := by
  grind [State.bufRead, keeps_mk, keeps_mkMem]

theorem keeps_execBar2Read (h : Keeps r s) (off len) {t} (e : execBar2Read off len s = .next t) : Keeps r t := by
  cases e
  refine keeps_ite h (keeps_ite ?_ (keeps_ite ?_ ?_))
  · exact keeps_hifErr (keeps_postAddr (keeps_bar2Zero (keeps_bufRead h) _) ..)
  · exact keeps_postAddr (keeps_bar2Zero h _) ..
  · exact keeps_bar2Release (keeps_bar2New h _)

theorem keeps_execBar2Write (h : Keeps r s) (off data) {t} (e : execBar2Write off data s = .next t) : Keeps r t := by
  cases e
  refine keeps_ite h (keeps_ite ?_ (keeps_ite ?_ ?_))
  · exact keeps_hifErr (keeps_postAddr (keeps_bufRead h) ..)
  · exact keeps_postAddr h ..
  · exact keeps_bar2Issue (keeps_bar2New h _) _

theorem keeps_execBar2Timeout (h : Keeps r s) (req) {t} (e : execBar2Timeout req s = .next t) : Keeps r t := by
  grind [execBar2Timeout, keeps_hifErr, keeps_postAddr, keeps_bar2Finish]

end Sys2Proof.Machine
end

section
set_option Elab.async false
/-! What every step keeps: loading a site. -/

namespace Sys2Proof.Machine

variable {r s : State}

theorem keeps_fetchImage (h : Keeps r s) (unit a n) : Keeps r (s.fetchImage unit a n).2.2 := by
  grind [State.fetchImage, keeps_memRead]

theorem keeps_readParts (h : Keeps r s) (a l) : Keeps r (s.readParts a l).2 :=
  keeps_foldl_snd (fun _ _ _ h => keeps_memRead h ..) l h

theorem keeps_fetchChecked (h : Keeps r s) (unit a n) : Keeps r (s.fetchChecked unit a n).2.2 := by
  grind [State.fetchChecked, keeps_fetchImage, keeps_memRead, keeps_readParts]

theorem keeps_setQuadRates (h : Keeps r s) (l keep) : Keeps r (s.setQuadRates l keep) := by
  grind [State.setQuadRates, keeps_foldl, keeps_setQuad]

theorem keeps_beginDrain (h : Keeps r s) (tk a bank) : Keeps r (s.beginDrain tk a bank) := by
  grind [State.beginDrain, keeps_modStop]

theorem keeps_giveBack (h : Keeps r s) (tk l) : Keeps r (s.giveBack tk l) := by
  grind [State.giveBack, keeps_foldl, keeps_modStop]

theorem keeps_closeSet (h : Keeps r s) (n) : Keeps r (s.closeSet n) := by
  grind [State.closeSet, keeps_foldl, keeps_failDrain, keeps_failCloseEnd, keeps_flushFailWorms]

theorem keeps_configureSash (h : Keeps r s) (b h' ds p site i v r') :
    Keeps r (s.configureSash b h' ds p site i v r') := by
  grind [State.configureSash, keeps_modSash, keeps_modLane, keeps_clearMemory, keeps_setTrig]

theorem keeps_beginWrite (h : Keeps r s) (n site b p) : Keeps r (s.beginWrite n site b p) := by
  have h := fun l => keeps_resetGroups (keeps_dropFlits (keeps_closeStreams (keeps_dropTransom (keeps_closeSet h n) n) l) n) n
  have h := fun l l1 l2 l3 => keeps_modLanes (keeps_modTrigs (keeps_modSashes (h l) l1 Sash.free) l2 Trig.disarm) l3 Lane.leave
  have h := fun l l1 l2 l3 (m : List (Nat × Nat)) (v : Nat × Nat → Nat) => keeps_foldl
    (f := fun s e => s.configureSash b (readHdr b) (readDir b (readHdr b)) p site e.1 (v e) e.2) (fun s e h => keeps_configureSash h ..) m (h l l1 l2 l3)
  exact keeps_moveSite (keeps_setSite (keeps_settleQuads (keeps_setQuadRates (h _ _ _ _ _ fun e => _) ..)) ..) ..

theorem keeps_writeSash (h : Keeps r s) (b ds i v) : Keeps r (s.writeSash b ds i v) := by
  grind [State.writeSash, keeps_modSash, keeps_foldl, keeps_memWrite]

theorem keeps_writeStores (h : Keeps r s) (n b p) : Keeps r (s.writeStores n b p).1 := by
  have hf := fun l : List (Nat × Nat) => keeps_foldl (f := fun s e => s.writeSash b (readDir b (readHdr b)) e.1 (if (readHdr b).elastic then 0 else e.2))
    (fun s e h => keeps_writeSash h ..) l h
  unfold State.writeStores
  dsimp only
  split <;> exact hf _

theorem keeps_loadKeep (h : Keeps r s) (tk n st data) : Keeps r (s.loadKeep tk n st data) := by
  grind [State.loadKeep, keeps_finish, keeps_modSite]

theorem keeps_loadBack (h : Keeps r s) (tk n st p) : Keeps r (s.loadBack tk n st p) := by
  grind [State.loadBack, keeps_giveBack, keeps_loadKeep, keeps_modTicket]

theorem keeps_drainAgain (h : Keeps r s) (l) : Keeps r (s.drainAgain l) := by
  grind [State.drainAgain, keeps_foldl, keeps_modStop]

theorem keeps_loadFault (h : Keeps r s) (tk n r' detail) : Keeps r (s.loadFault tk n r' detail) := by
  grind [State.loadFault, keeps_modSite, keeps_postFault, keeps_finish, keeps_moveSite]

theorem keeps_loadPhase1 (h : Keeps r s) (tk n cmd) : Keeps r (s.loadPhase1 tk n cmd) := by
  unfold State.loadPhase1
  refine keeps_ite (keeps_modTicket h ..) ?_
  have hf := keeps_fetchChecked h (cmdUnit cmd) (cmdAddr cmd) (cmdLen cmd)
  generalize s.fetchChecked (cmdUnit cmd) (cmdAddr cmd) (cmdLen cmd) = x at hf ⊢
  obtain ⟨b, _ | st, t⟩ := x
  · dsimp only
    cases t.loadCheck n cmd b with
    | error st => exact keeps_loadKeep hf ..
    | ok p =>
      dsimp only
      have hg := fun c np => keeps_ite_snd_snd (c := c = true) (b := ([], none, t)) (keeps_fetchImage hf (cmdUnit cmd) (fld cmd 0x18 8) np) hf
      split <;> rename_i he <;> have hg := congrArg (fun x : _ × _ × State => x.2.2) he ▸ hg _ _
      · exact keeps_loadKeep hg ..
      · exact keeps_ite (keeps_loadKeep hg ..) (keeps_foldl (fun s a h => keeps_beginDrain h ..) _ (keeps_modTicket hg ..))
  · exact keeps_loadKeep hf ..

theorem keeps_loadPhase2 (h : Keeps r s) (tk n site cmd p) : Keeps r (s.loadPhase2 tk n site cmd p) := by
  grind [State.loadPhase2, keeps_loadKeep, keeps_drainAgain, keeps_loadBack, keeps_fetchChecked, keeps_modTicket,
    keeps_beginWrite]

theorem keeps_loadStream (h : Keeps r s) (tk n cmd buf p) : Keeps r (s.loadStream tk n cmd buf p) := by
  grind [State.loadStream, keeps_fetchImage, keeps_loadFault, keeps_modTicket, keeps_writeStores, keeps_modSite]

theorem keeps_loadPhase3 (h : Keeps r s) (tk n cmd buf p) : Keeps r (s.loadPhase3 tk n cmd buf p) := by
  grind [State.loadPhase3, keeps_accessAll, keeps_loadFault, keeps_loadStream]

theorem keeps_loadStop (h : Keeps r s) (tk n st) : Keeps r (s.loadStop tk n st) := by
  grind [State.loadStop, keeps_finish, keeps_modSite, keeps_loadFault]

theorem keeps_loadPhase4 (h : Keeps r s) (tk n b p) : Keeps r (s.loadPhase4 tk n b p) := by
  grind [State.loadPhase4, keeps_loadFault, keeps_modSite, keeps_finish, keeps_moveSite]

theorem keeps_loadSlice (h : Keeps r s) (tk t' site cmd) : Keeps r (s.loadSlice tk t' site cmd) := by
  grind [State.loadSlice, keeps_loadStop, keeps_loadPhase2, keeps_loadBack, keeps_loadKeep, keeps_loadPhase3,
    keeps_loadPhase4, keeps_loadPhase1]

theorem keeps_writeSetState (h : Keeps r s) (n st) : Keeps r (s.writeSetState n st) := by
  grind [State.writeSetState, keeps_memWriteBE]

theorem keeps_unarmSet (h : Keeps r s) (n) : Keeps r (s.unarmSet n) := by
  grind [State.unarmSet, keeps_modSite, keeps_writeSetState]

theorem keeps_unloadCancel (h : Keeps r s) (tk n) : Keeps r (s.unloadCancel tk n) := by
  grind [State.unloadCancel, keeps_finish, keeps_modSite, keeps_moveSite, keeps_postFault]

theorem keeps_unloadSlice (h : Keeps r s) (tk t' n) : Keeps r (s.unloadSlice tk t' n) := by
  grind [State.unloadSlice, keeps_unloadCancel, keeps_modTicket, keeps_foldl, keeps_beginDrain, keeps_drainAgain,
    keeps_closeSet, keeps_dropTransom, keeps_closeStreams, keeps_unarmSet, keeps_postSite, keeps_finish,
    keeps_emptySite]

theorem keeps_stopLoads (h : Keeps r s) (n) : Keeps r (s.stopLoads n) := by
  grind [State.stopLoads, keeps_foldl, keeps_modTicket]

theorem keeps_revertStops (h : Keeps r s) (tk p) : Keeps r (s.revertStops tk p) := by
  grind [State.revertStops, keeps_foldl, keeps_modStop]

theorem keeps_endLoads (h : Keeps r s) (n) : Keeps r (s.endLoads n) := by
  refine keeps_foldl (fun s e h => ?_) _ h
  grind [keeps_revertStops, keeps_modSite, keeps_finish]

theorem keeps_unloadBody (h : Keeps r s) (q) : Keeps r (unloadBody s q).s := by
  grind [unloadBody, keeps_refuse, keeps_accept, keeps_modSite, keeps_cancelStartAt, keeps_stopLoads]

theorem keeps_execUnload (h : Keeps r s) (src) {t} (e : execUnload src s = .next t) : Keeps r t := by
  grind [execUnload, keeps_command, keeps_unloadBody]

theorem keeps_loadBody (h : Keeps r s) (q) : Keeps r (loadBody s q).s := by
  grind [loadBody, keeps_refuse, keeps_accept, keeps_finish, keeps_modSite]

theorem keeps_execLoad (h : Keeps r s) (src) {t} (e : execLoad src s = .next t) : Keeps r t := by
  grind [execLoad, keeps_command, keeps_loadBody]

theorem keeps_rewindSite (h : Keeps r s) (n) : Keeps r (s.rewindSite n) := by
  have h := keeps_resetGroups (keeps_dropFlits (keeps_dropTransom (keeps_closeSet h n) n) n) n
  have h := keeps_foldl (fun _ i h => keeps_clearMemory h i) (s.siteSashes n) (keeps_modSashes h (s.siteSashes n) Sash.rewind)
  exact keeps_moveSite (keeps_restLanes (keeps_modSite (keeps_modTrigs (keeps_modLanes h ..) ..) ..) ..) ..

theorem keeps_rewindBody (h : Keeps r s) (q) : Keeps r (rewindBody s q).s := by
  grind [rewindBody, keeps_refuse, keeps_done, keeps_rewindSite]

theorem keeps_execRewind (h : Keeps r s) (src) {t} (e : execRewind src s = .next t) : Keeps r t := by
  grind [execRewind, keeps_command, keeps_rewindBody]

end Sys2Proof.Machine
end

section
set_option Elab.async false
/-! What every step keeps: the system commands. -/

namespace Sys2Proof.Machine

variable {r s : State}

theorem keeps_identityBody (h : Keeps r s) (fuel) : Keeps r (identityBody s fuel).s := by
  grind [identityBody, keeps_done]

theorem keeps_execIdentity (h : Keeps r s) (src) {t} (e : execIdentity src s = .next t) : Keeps r t := by
  grind [execIdentity, keeps_command, keeps_identityBody]

theorem keeps_bootLoadBody (h : Keeps r s) (q) : Keeps r (bootLoadBody s q).s := by
  grind [bootLoadBody, keeps_refuse, keeps_accept, keeps_mk, keeps_mkMem]

theorem keeps_execBootLoad (h : Keeps r s) (src) {t} (e : execBootLoad src s = .next t) : Keeps r t := by
  grind [execBootLoad, keeps_command, keeps_bootLoadBody]

theorem keeps_ticketBody (h : Keeps r s) (q) : Keeps r (ticketBody s q).s := by
  grind [ticketBody, keeps_refuse, keeps_done, keeps_setTicket]

theorem keeps_execTicket (h : Keeps r s) (src) {t} (e : execTicket src s = .next t) : Keeps r t := by
  grind [execTicket, keeps_command, keeps_ticketBody]

theorem keeps_cancelBody (h : Keeps r s) (q) : Keeps r (cancelBody s q).s := by
  grind [cancelBody, keeps_refuse, keeps_done, keeps_setTicket]

theorem keeps_execCancel (h : Keeps r s) (src) {t} (e : execCancel src s = .next t) : Keeps r t := by
  grind [execCancel, keeps_command, keeps_cancelBody]

theorem keeps_descriptorBody (h : Keeps r s) (fuel) : Keeps r (descriptorBody s fuel).s := by
  grind [descriptorBody, keeps_done]

theorem keeps_execDescriptor (h : Keeps r s) (src) {t} (e : execDescriptor src s = .next t) : Keeps r t := by
  grind [execDescriptor, keeps_command, keeps_descriptorBody]

theorem keeps_inventoryBody (h : Keeps r s) (q) : Keeps r (inventoryBody s q).s := by
  grind [inventoryBody, keeps_refuse, keeps_done]

theorem keeps_execInventory (h : Keeps r s) (src) {t} (e : execInventory src s = .next t) : Keeps r t := by
  grind [execInventory, keeps_command, keeps_inventoryBody]

theorem keeps_keyslotInstallBody (h : Keeps r s) (q) : Keeps r (keyslotInstallBody s q).s := by
  grind [keyslotInstallBody, keeps_refuse, keeps_done, keeps_mk, keeps_mkMem]

theorem keeps_execKeyslotInstall (h : Keeps r s) (src) {t} (e : execKeyslotInstall src s = .next t) : Keeps r t := by
  grind [execKeyslotInstall, keeps_command, keeps_keyslotInstallBody]

theorem keeps_keyslotRevokeBody (h : Keeps r s) (q) : Keeps r (keyslotRevokeBody s q).s := by
  grind [keyslotRevokeBody, keeps_refuse, keeps_done, keeps_mk, keeps_mkMem]

theorem keeps_execKeyslotRevoke (h : Keeps r s) (src) {t} (e : execKeyslotRevoke src s = .next t) : Keeps r t := by
  grind [execKeyslotRevoke, keeps_command, keeps_keyslotRevokeBody]

theorem keeps_keyslotReadBody (h : Keeps r s) (q) : Keeps r (keyslotReadBody s q).s := by
  grind [keyslotReadBody, keeps_refuse, keeps_done]

theorem keeps_execKeyslotRead (h : Keeps r s) (src) {t} (e : execKeyslotRead src s = .next t) : Keeps r t := by
  grind [execKeyslotRead, keeps_command, keeps_keyslotReadBody]

theorem keeps_keyslotSignedOnlyBody (h : Keeps r s) (q) : Keeps r (keyslotSignedOnlyBody s q).s := by
  grind [keyslotSignedOnlyBody, keeps_refuse, keeps_done, keeps_mk, keeps_mkMem]

theorem keeps_execKeyslotSignedOnly (h : Keeps r s) (src)
    {t} (e : execKeyslotSignedOnly src s = .next t) : Keeps r t := by
  grind [execKeyslotSignedOnly, keeps_command, keeps_keyslotSignedOnlyBody]

theorem keeps_louvreBody (h : Keeps r s) (q) : Keeps r (louvreBody s q).s := by
  grind [louvreBody, keeps_refuse, keeps_modStop, keeps_done, keeps_postPolicy]

theorem keeps_execLouvre (h : Keeps r s) (src) {t} (e : execLouvre src s = .next t) : Keeps r t := by
  grind [execLouvre, keeps_command, keeps_louvreBody]

end Sys2Proof.Machine
end

section
set_option Elab.async false
/-! What every step keeps: TRANSOM, SITE_STATUS and SITE_RESET. -/

namespace Sys2Proof.Machine

variable {r s : State}

theorem keeps_askParts (h : Keeps r s) (id src n op pay) : Keeps r (s.askParts id src n op pay) := by
  grind [State.askParts, keeps_mk, keeps_mkMem, keeps_foldl, keeps_ownCommand]

theorem keeps_tellParts (h : Keeps r s) (n op pay) : Keeps r (s.tellParts n op pay) := by
  grind [State.tellParts, keeps_foldl, keeps_ownCommand]

theorem keeps_endGather (h : Keeps r s) (id) : Keeps r (s.endGather id) := by
  grind [State.endGather, keeps_mk, keeps_mkMem]

theorem keeps_stageTransom (h : Keeps r s) (n tk hinge h' ps) : Keeps r (s.stageTransom n tk hinge h' ps) := by
  grind [State.stageTransom, keeps_modSite]

theorem keeps_transomStart (h : Keeps r s) (tk n cmd) : Keeps r (s.transomStart tk n cmd) := by
  have hf := keeps_fetchImage h (cmdUnit cmd) (cmdAddr cmd) (cmdLen cmd)
  unfold State.transomStart
  split <;> rename_i hd <;> rw [hd] at hf
  · exact keeps_finish hf ..
  split
  · exact keeps_finish hf ..
  extract_lets x now s1 s2
  have h2 : Keeps r s2 := keeps_modTicket (keeps_stageTransom hf ..) ..
  grind [keeps_askParts, keeps_applyTransom]

theorem keeps_transomWait (h : Keeps r s) (tk t n) : Keeps r (s.transomWait tk t n) := by
  have hg := keeps_endGather h tk.toNat
  unfold State.transomWait
  extract_lets mine s1 form
  split
  · exact h
  split
  · exact keeps_dropTransom (keeps_endGather (keeps_tellParts h ..) ..) ..
  split
  · exact h
  split
  · exact h
  split <;> split
  · exact keeps_finish (keeps_modSite (keeps_tellParts hg ..) ..) ..
  · exact keeps_applyTransom (keeps_finish hg ..) ..
  · exact keeps_modTicket (keeps_askParts hg ..) ..
  · exact keeps_applyTransom hg ..

theorem keeps_transomSlice (h : Keeps r s) (tk t' n cmd) : Keeps r (s.transomSlice tk t' n cmd) := by
  grind [State.transomSlice, keeps_finish, keeps_transomStart, keeps_transomWait]

theorem keeps_transomPart (h : Keeps r s) (q) : Keeps r (transomPart s q).s := by
  grind [transomPart, keeps_fetchImage, keeps_refuse, keeps_done, keeps_stageTransom]

theorem keeps_transomBody (h : Keeps r s) (q) : Keeps r (transomBody s q).s := by
  grind [transomBody, keeps_refuse, keeps_transomPart, keeps_accept]

theorem keeps_execTransom (h : Keeps r s) (src) {t} (e : execTransom src s = .next t) : Keeps r t := by
  grind [execTransom, keeps_command, keeps_transomBody]

theorem keeps_siteStatusBody (h : Keeps r s) (q) : Keeps r (siteStatusBody s q).s := by
  grind [siteStatusBody, keeps_refuse, keeps_done]

theorem keeps_execSiteStatus (h : Keeps r s) (src) {t} (e : execSiteStatus src s = .next t) : Keeps r t := by
  grind [execSiteStatus, keeps_command, keeps_siteStatusBody]

theorem keeps_endArms (h : Keeps r s) (n) : Keeps r (s.endArms n) := by
  grind [State.endArms, keeps_foldl, keeps_finish]

theorem keeps_endUnloads (h : Keeps r s) (n) : Keeps r (s.endUnloads n) := by
  grind [State.endUnloads, keeps_foldl, keeps_finish, keeps_giveBack]

theorem keeps_resetSite (h : Keeps r s) (n) : Keeps r (s.resetSite n) := by
  have h := keeps_dropTransom (keeps_cancelStartAt (keeps_stopRun (keeps_endArms (keeps_endLoads h n) n) n) n) n
  have hu : ∀ s : State, Keeps r s → ∀ l f, Keeps r (((s.modFl n f).closeSet n).closeStreams l) :=
    fun s h l f => keeps_closeStreams (keeps_closeSet (keeps_modFl h ..) ..) ..
  unfold State.resetSite
  refine keeps_endUnloads (keeps_emptySite ?_ _) _
  grind [keeps_unarmSet, keeps_postSite]

theorem keeps_siteResetBody (h : Keeps r s) (q) : Keeps r (siteResetBody s q).s := by
  grind [siteResetBody, keeps_refuse, keeps_done, keeps_resetSite]

theorem keeps_execSiteReset (h : Keeps r s) (src) {t} (e : execSiteReset src s = .next t) : Keeps r t := by
  grind [execSiteReset, keeps_command, keeps_siteResetBody]

end Sys2Proof.Machine
end

section
set_option Elab.async false
/-! What every step keeps: run control. -/

namespace Sys2Proof.Machine

variable {r s : State}

theorem keeps_clearCounters (h : Keeps r s) (n) : Keeps r (s.clearCounters n) := by
  grind [State.clearCounters, keeps_foldl, keeps_setPadLine]

theorem keeps_restoreCounters (h : Keeps r s) (n) : Keeps r (s.restoreCounters n) := by
  have hm := fun s (h : Keeps r s) a n => keeps_memRead h a n
  obtain ⟨f, hf⟩ : ∃ f, State.restoreCounters = f := ⟨_, rfl⟩
  obtain ⟨pa, hp⟩ : ∃ p, padAddr = p := ⟨_, rfl⟩
  obtain ⟨g, hg⟩ : ∃ g, State.memRead = g := ⟨_, rfl⟩
  rw [hf]
  delta State.restoreCounters at hf
  rw [hp, hg] at hf
  rw [hg] at hm
  rw [← hf]
  grind [keeps_foldl, keeps_memWrite, keeps_mk, keeps_mkMem]

theorem keeps_openSet (h : Keeps r s) (n k again) : Keeps r (s.openSet n k again) := by
  grind [State.openSet, keeps_restoreCounters, keeps_writeSetState, keeps_modFl, keeps_modSite, keeps_clearCounters,
    keeps_memWrite]

theorem keeps_armCheck (h : Keeps r s) (n k late) : Keeps r (s.armCheck n k late).2 := by
  grind [State.armCheck, keeps_accessAll]

theorem keeps_armLane (h : Keeps r s) (n i) : Keeps r (s.armLane n i) := by
  grind [State.armLane, keeps_drawFree, keeps_setLane, keeps_postNotice]

theorem keeps_armPace (h : Keeps r s) (i) : Keeps r (s.armPace i) := by
  grind [State.armPace, keeps_modSash]

theorem keeps_armSite (h : Keeps r s) (n k) : Keeps r (s.armSite n k) := by
  have h := keeps_foldl (f := fun s i => (s.modLane i fun x => { x with fail := {} }).armPace i)
    (fun s i h => keeps_armPace (keeps_modLane h ..) i) (s.siteSashes n) h
  exact keeps_moveSite (keeps_modSite (keeps_modTrigs (keeps_openSet h ..) ..) ..) ..

theorem keeps_armNow (h : Keeps r s) (n k) : Keeps r (s.armNow n k).2 := by
  grind [State.armNow, keeps_foldl, keeps_armLane, keeps_armSite]

theorem keeps_measureHinge (h : Keeps r s) (n) : Keeps r (s.measureHinge n).2 := by
  grind [State.measureHinge, keeps_drawFree, keeps_modSite]

theorem keeps_wakeLanes (h : Keeps r s) (n) : Keeps r (s.wakeLanes n) := by
  grind [State.wakeLanes, keeps_modSite, keeps_modLanes]

theorem keeps_armRefused (h : Keeps r s) (tk n st) : Keeps r (s.armRefused tk n st) := by
  grind [State.armRefused, keeps_tellParts, keeps_finish, keeps_endGather, keeps_restLanes]

theorem keeps_armSlice2 (h : Keeps r s) (tk t n k) : Keeps r (s.armSlice2 tk t n k) := by
  have hc := keeps_armCheck h n k (decide (1000000000 ≤ s.power.ps - t.since))
  unfold State.armSlice2
  split <;> rename_i hd <;> rw [hd] at hc
  · exact keeps_armRefused hc ..
  · exact hc
  have hm := keeps_measureHinge hc n
  have hn := fun s (h : Keeps r s) => keeps_armNow h n k
  dsimp only
  grind [keeps_armRefused, keeps_finish, keeps_askParts, keeps_modTicket]

theorem keeps_armSlice3 (h : Keeps r s) (tk t n k) : Keeps r (s.armSlice3 tk t n k) := by
  have hn := keeps_armNow h n k
  grind [State.armSlice3, keeps_armRefused, keeps_finish, keeps_endGather]

theorem keeps_armRun (h : Keeps r s) (tk t' n cmd) : Keeps r (s.armRun tk t' n cmd) := by
  grind [State.armRun, keeps_armRefused, keeps_modTicket, keeps_wakeLanes, keeps_askParts, keeps_modSite,
    keeps_endGather, keeps_armSlice2, keeps_armSlice3]

theorem keeps_armBody (h : Keeps r s) (q) : Keeps r (armBody s q).s := by
  grind [armBody, keeps_refuse, keeps_accept]

theorem keeps_execArm (h : Keeps r s) (src) {t} (e : execArm src s = .next t) : Keeps r t := by
  grind [execArm, keeps_command, keeps_armBody]

theorem keeps_disarmSite (h : Keeps r s) (n) : Keeps r (s.disarmSite n) := by
  grind [State.disarmSite, keeps_unarmSet, keeps_cancelStartAt, keeps_modTrigs, keeps_moveSite, keeps_restLanes]

theorem keeps_disarmBody (h : Keeps r s) (q) : Keeps r (disarmBody s q).s := by
  grind [disarmBody, keeps_refuse, keeps_done, keeps_disarmSite, keeps_tellParts]

theorem keeps_execDisarm (h : Keeps r s) (src) {t} (e : execDisarm src s = .next t) : Keeps r t := by
  grind [execDisarm, keeps_command, keeps_disarmBody]

theorem keeps_startSite (h : Keeps r s) (n) : Keeps r (s.startSite n) := by
  have hr := fun l f g k x => keeps_moveSite (keeps_modSite (keeps_modTrigs (keeps_modLanes (keeps_modSashes h l f) l g) l k) n x) n .running Code.ST_OK
  unfold State.startSite
  dsimp only
  split
  · exact keeps_postRunStart (hr ..) ..
  · exact hr ..

theorem keeps_setStartAt (h : Keeps r s) (l t') : Keeps r (s.setStartAt l t') := by
  grind [State.setStartAt, keeps_foldl, keeps_modSite]

theorem keeps_park (h : Keeps r s) (src) : Keeps r (s.park src) := by
  grind [State.park, keeps_modChan, keeps_mk, keeps_mkMem]

theorem keeps_askFor (h : Keeps r s) (src sites l) : Keeps r (s.askFor src sites l) := by
  grind [State.askFor, keeps_mk, keeps_mkMem, keeps_park, keeps_foldl, keeps_ownCommand]

theorem keeps_waitParts (h : Keeps r s) : Keeps r (waitParts s).s := by
  grind [waitParts]

theorem keeps_startAtSites (h : Keeps r s) (q l t' op) : Keeps r (s.startAtSites q l t' op).s := by
  grind [State.startAtSites, keeps_refuse, keeps_setStartAt, keeps_done, keeps_waitParts, keeps_askFor]

theorem keeps_startBody (h : Keeps r s) (q) : Keeps r (startBody s q).s := by
  grind [startBody, keeps_startAtSites, keeps_refuse, keeps_done, keeps_foldl, keeps_startSite]

theorem keeps_execStart (h : Keeps r s) (src) {t} (e : execStart src s = .next t) : Keeps r t := by
  grind [execStart, keeps_command, keeps_startBody]

theorem keeps_startAtBody (h : Keeps r s) (q) : Keeps r (startAtBody s q).s := by
  grind [startAtBody, keeps_startAtSites]

theorem keeps_execStartAt (h : Keeps r s) (src) {t} (e : execStartAt src s = .next t) : Keeps r t := by
  grind [execStartAt, keeps_command, keeps_startAtBody]

theorem keeps_stopSites (h : Keeps r s) (l) : Keeps r (s.stopSites l) := by
  grind [State.stopSites, keeps_foldl, keeps_cancelStartAt, keeps_askHalt]

theorem keeps_stopBody (h : Keeps r s) (q) : Keeps r (stopBody s q).s := by
  grind [stopBody, keeps_done, keeps_stopSites, keeps_foldl, keeps_tellParts, keeps_waitParts, keeps_askFor]

theorem keeps_execStop (h : Keeps r s) (src) {t} (e : execStop src s = .next t) : Keeps r t := by
  grind [execStop, keeps_command, keeps_stopBody]

theorem keeps_policyBody (h : Keeps r s) (q) : Keeps r (policyBody s q).s := by
  grind [policyBody, keeps_refuse, keeps_done, keeps_modSite]

theorem keeps_execPolicy (h : Keeps r s) (src) {t} (e : execPolicy src s = .next t) : Keeps r t := by
  grind [execPolicy, keeps_command, keeps_policyBody]

theorem keeps_watchdogBody (h : Keeps r s) (q) : Keeps r (watchdogBody s q).s := by
  grind [watchdogBody, keeps_refuse, keeps_done, keeps_modSite]

theorem keeps_execWatchdog (h : Keeps r s) (src) {t} (e : execWatchdog src s = .next t) : Keeps r t := by
  grind [execWatchdog, keeps_command, keeps_watchdogBody]

theorem keeps_raStatusBody (h : Keeps r s) (q) : Keeps r (raStatusBody s q).s := by
  grind [raStatusBody, keeps_refuse, keeps_done]

theorem keeps_execRaStatus (h : Keeps r s) (src) {t} (e : execRaStatus src s = .next t) : Keeps r t := by
  grind [execRaStatus, keeps_command, keeps_raStatusBody]

end Sys2Proof.Machine
end

section
set_option Elab.async false
/-! What every step keeps: the pin commands. -/

namespace Sys2Proof.Machine

variable {r s : State}

theorem keeps_calBegin (h : Keeps r s) (l rate plog) : Keeps r (s.calBegin l rate plog) := by
  grind [State.calBegin, keeps_setQuadRates, keeps_modLanes]

theorem keeps_calRestore (h : Keeps r s) (l) : Keeps r (s.calRestore l) := by
  grind [State.calRestore, keeps_settleQuads, keeps_modLanes]

theorem keeps_calFail (h : Keeps r s) (tk l i st) : Keeps r (s.calFail tk l i st) := by
  grind [State.calFail, keeps_finish, keeps_calRestore]

theorem keeps_calMeasure (h : Keeps r s) (l rate plog) : Keeps r (s.calMeasure l rate plog) := by
  grind [State.calMeasure, keeps_foldl, keeps_drawFree, keeps_modLane, keeps_modLanes]

theorem keeps_calStore (h : Keeps r s) (tk l rate plog loop) : Keeps r (s.calStore tk l rate plog loop) := by
  grind [State.calStore, keeps_finish, keeps_calRestore, keeps_calMeasure]

theorem keeps_calSlice (h : Keeps r s) (tk t' cmd) : Keeps r (s.calSlice tk t' cmd) := by
  grind [State.calSlice, keeps_modTicket, keeps_finish, keeps_calRestore, keeps_calBegin, keeps_calFail,
    keeps_modLanes, keeps_calStore]

theorem keeps_calibrateBody (h : Keeps r s) (q) : Keeps r (calibrateBody s q).s := by
  grind [calibrateBody, keeps_refuse, keeps_accept]

theorem keeps_execCalibrate (h : Keeps r s) (src) {t} (e : execCalibrate src s = .next t) : Keeps r t := by
  grind [execCalibrate, keeps_command, keeps_calibrateBody]

theorem keeps_maskBody (h : Keeps r s) (q) : Keeps r (maskBody s q).s := by
  grind [maskBody, keeps_refuse, keeps_done, keeps_modLane]

theorem keeps_execMask (h : Keeps r s) (src) {t} (e : execMask src s = .next t) : Keeps r t := by
  grind [execMask, keeps_command, keeps_maskBody]

theorem keeps_maskSwapBody (h : Keeps r s) (q) : Keeps r (maskSwapBody s q).s := by
  grind [maskSwapBody, keeps_refuse, keeps_done, keeps_modLanes]

theorem keeps_execMaskSwap (h : Keeps r s) (src) {t} (e : execMaskSwap src s = .next t) : Keeps r t := by
  grind [execMaskSwap, keeps_command, keeps_maskSwapBody]

theorem keeps_pinfieldBody (h : Keeps r s) (q) : Keeps r (pinfieldBody s q).s := by
  grind [pinfieldBody, keeps_refuse, keeps_done, keeps_modLane]

theorem keeps_execPinfield (h : Keeps r s) (src) {t} (e : execPinfield src s = .next t) : Keeps r t := by
  grind [execPinfield, keeps_command, keeps_pinfieldBody]

theorem keeps_pinStatusBody (h : Keeps r s) (q) : Keeps r (pinStatusBody s q).s := by
  grind [pinStatusBody, keeps_refuse, keeps_done]

theorem keeps_execPinStatus (h : Keeps r s) (src) {t} (e : execPinStatus src s = .next t) : Keeps r t := by
  grind [execPinStatus, keeps_command, keeps_pinStatusBody]

end Sys2Proof.Machine
end

section
set_option Elab.async false
/-! What every step keeps: the fail commands. -/

namespace Sys2Proof.Machine

variable {r s : State}

theorem keeps_readHeader (h : Keeps r s) (a) : Keeps r (s.readHeader a).2 := by
  grind [State.readHeader, keeps_memRead]

theorem keeps_failClearBody (h : Keeps r s) (q) : Keeps r (failClearBody s q).s := by
  grind [failClearBody, keeps_refuse, keeps_accept, keeps_modTicket]

theorem keeps_execFailClear (h : Keeps r s) (src) {t} (e : execFailClear src s = .next t) : Keeps r t := by
  grind [execFailClear, keeps_command, keeps_failClearBody]

theorem keeps_failClearSlice (h : Keeps r s) (tk t) : Keeps r (s.failClearSlice tk t) := by
  unfold State.failClearSlice
  extract_lets j rs
  split
  · exact keeps_finish h ..
  split
  · exact keeps_finish h ..
  have ha := fun ds => keeps_accessAll h ds
  split <;> rename_i hd <;> have ha := congrArg Prod.snd hd ▸ ha _
  · exact keeps_finish ha ..
  · exact ha
  have hm := fun g f => keeps_modTicket (keeps_fillRegion ha g) tk f
  dsimp only
  split
  · exact hm ..
  · exact keeps_finish (keeps_memWrite (hm ..) ..) ..

theorem keeps_failSummaryBody (h : Keeps r s) (q) : Keeps r (failSummaryBody s q).s := by
  grind [failSummaryBody, keeps_refuse, keeps_done, keeps_readHeader]

theorem keeps_execFailSummary (h : Keeps r s) (src) {t} (e : execFailSummary src s = .next t) : Keeps r t := by
  grind [execFailSummary, keeps_command, keeps_failSummaryBody]

theorem keeps_readoutKeep {x : Readout} (h : Keeps r x.s) (tk k) : Keeps r (x.keep tk k) := keeps_modTicket h ..
theorem keeps_readoutPut {x : Readout} (h : Keeps r x.s) (a n k b) : Keeps r (x.put a n k b).s := by
  grind [Readout.put, keeps_mk]
theorem keeps_readoutFold {α} {f : Readout → α → Readout} (hf : ∀ x a, Keeps r x.s → Keeps r (f x a).s) (l : List α) {x : Readout}
    (h : Keeps r x.s) : Keeps r (l.foldl f x).s := by
  induction l generalizing x with
  | nil => exact h
  | cons a l ih => exact ih (hf x a h)
theorem keeps_readoutLine {x : Readout} (h : Keeps r x.s) (ha n k a) : Keeps r (x.line ha n k a).s := by
  unfold Readout.line
  split
  · exact h
  have hm := keeps_memRead h a 64
  dsimp only
  split
  · exact hm
  · exact keeps_readoutFold (fun x j h => keeps_readoutPut h ..) _ hm
theorem keeps_readoutClose {x : Readout} (h : Keeps r x.s) (tk a st) :
    Keeps r (x.close tk a st) := keeps_finish (keeps_mk h) ..
theorem keeps_readoutEnd {x : Readout} (h : Keeps r x.s) (tk a b k) (c : Bool) :
    Keeps r (if c then x.close tk a b else x.keep tk k) := by
  split
  · exact keeps_readoutClose h ..
  · exact keeps_readoutKeep h ..
theorem keeps_failReadoutSlice (h : Keeps r s) (tk t cmd) : Keeps r (s.failReadoutSlice tk t cmd) := by
  unfold State.failReadoutSlice
  extract_lets
  split
  · exact keeps_readoutClose h ..
  have ha := fun ds => keeps_accessAll h ds
  split <;> rename_i hd <;> have ha := congrArg Prod.snd hd ▸ ha _
  · exact keeps_readoutClose ha ..
  · exact ha
  split
  · exact keeps_readoutClose ha ..
  split
  · exact keeps_readoutClose ha ..
  have hb := fun ds => keeps_accessAll ha ds
  split <;> rename_i hd' <;> have hb := congrArg Prod.snd hd' ▸ hb _
  · exact keeps_readoutClose hb ..
  · exact hb
  · exact keeps_readoutEnd (keeps_readoutFold (fun x j h => keeps_readoutLine h ..) _ hb) ..

theorem keeps_failReadoutBody (h : Keeps r s) (q) : Keeps r (failReadoutBody s q).s := by
  grind [failReadoutBody, keeps_refuse, keeps_readHeader, keeps_accept]

theorem keeps_execFailReadout (h : Keeps r s) (src) {t} (e : execFailReadout src s = .next t) : Keeps r t := by
  grind [execFailReadout, keeps_command, keeps_failReadoutBody]

theorem keeps_readCounter (h : Keeps r s) (base w) : Keeps r (s.readCounter base w).2.2 := by
  grind [State.readCounter, keeps_memRead]

theorem keeps_readCounters (h : Keeps r s) (base ws) : Keeps r (s.readCounters base ws).2.2 := by
  unfold State.readCounters
  refine keeps_foldl_snd_snd (fun a b s w h => ?_) _ h
  exact keeps_readCounter h ..

theorem keeps_readRow (h : Keeps r s) (bm i0 n) : Keeps r (s.readRow bm i0 n).2.2 := by
  grind [State.readRow, keeps_memRead]

theorem keeps_repairBlock (h : Keeps r s) (f bm mrc b sr sc budget) :
    Keeps r (s.repairBlock f bm mrc b sr sc budget).2.2.2.2 := by
  have hrc := fun ws ws' => keeps_readCounters (keeps_readCounters h mrc ws) mrc ws'
  unfold State.repairBlock
  dsimp only
  split
  · exact hrc ..
  split
  · exact hrc ..
  split
  · exact keeps_foldl_snd_snd (fun _ _ _ _ h => keeps_readRow h ..) _ (hrc ..)
  · exact keeps_foldl_snd_snd (fun _ _ _ _ h => keeps_readRow h ..) _ (hrc ..)

theorem keeps_filterBody (h : Keeps r s) (q) : Keeps r (filterBody s q).s := by
  grind [filterBody, keeps_refuse, keeps_done, keeps_modSite]

theorem keeps_execFilter (h : Keeps r s) (src) {t} (e : execFilter src s = .next t) : Keeps r t := by
  grind [execFilter, keeps_command, keeps_filterBody]

theorem keeps_filterSwapBody (h : Keeps r s) (q) : Keeps r (filterSwapBody s q).s := by
  grind [filterSwapBody, keeps_refuse, keeps_done, keeps_modSite]

theorem keeps_execFilterSwap (h : Keeps r s) (src) {t} (e : execFilterSwap src s = .next t) : Keeps r t := by
  grind [execFilterSwap, keeps_command, keeps_filterSwapBody]

theorem keeps_repairEnd (h : Keeps r s) (tk t' fsite) : Keeps r (s.repairEnd tk t' fsite) := by
  grind [State.repairEnd, keeps_modSite, keeps_finish]

theorem keeps_repairSlice (h : Keeps r s) (tk t' cmd) : Keeps r (s.repairSlice tk t' cmd) := by
  grind [State.repairSlice, keeps_finish, keeps_accessAll, keeps_repairBlock, keeps_memWrite, keeps_setTicket,
    keeps_repairEnd]

theorem keeps_repairBody (h : Keeps r s) (q) : Keeps r (repairBody s q).s := by
  grind [repairBody, keeps_refuse, keeps_readHeader, keeps_accept]

theorem keeps_execRepair (h : Keeps r s) (src) {t} (e : execRepair src s = .next t) : Keeps r t := by
  grind [execRepair, keeps_command, keeps_repairBody]

end Sys2Proof.Machine
end

section
set_option Elab.async false
/-! What every step keeps: the trigger commands. -/

namespace Sys2Proof.Machine

variable {r s : State}

theorem keeps_trigWrite (h : Keeps r s) (n i field v) : Keeps r (s.trigWrite n i field v) := by
  grind [State.trigWrite, keeps_modTrig]

theorem keeps_trigfieldBody (h : Keeps r s) (q) : Keeps r (trigfieldBody s q).s := by
  grind [trigfieldBody, keeps_refuse, keeps_done, keeps_trigWrite]

theorem keeps_execTrigfield (h : Keeps r s) (src) {t} (e : execTrigfield src s = .next t) : Keeps r t := by
  grind [execTrigfield, keeps_command, keeps_trigfieldBody]

theorem keeps_trigforceBody (h : Keeps r s) (q) : Keeps r (trigforceBody s q).s := by
  grind [trigforceBody, keeps_refuse, keeps_done, keeps_fireExternal]

theorem keeps_execTrigforce (h : Keeps r s) (src) {t} (e : execTrigforce src s = .next t) : Keeps r t := by
  grind [execTrigforce, keeps_command, keeps_trigforceBody]

theorem keeps_rearmBody (h : Keeps r s) (q) : Keeps r (rearmBody s q).s := by
  grind [rearmBody, keeps_refuse, keeps_done, keeps_modTrig]

theorem keeps_execRearm (h : Keeps r s) (src) {t} (e : execRearm src s = .next t) : Keeps r t := by
  grind [execRearm, keeps_command, keeps_rearmBody]

theorem keeps_trigStatusBody (h : Keeps r s) (q) : Keeps r (trigStatusBody s q).s := by
  grind [trigStatusBody, keeps_refuse, keeps_done]

theorem keeps_execTrigStatus (h : Keeps r s) (src) {t} (e : execTrigStatus src s = .next t) : Keeps r t := by
  grind [execTrigStatus, keeps_command, keeps_trigStatusBody]

theorem keeps_readoutAcqLine {x : Readout} (h : Keeps r x.s) (i a n l) : Keeps r (x.acqLine i a n l).s := by
  unfold Readout.acqLine
  split
  · exact h
  have hm := fun a => keeps_memRead h a 64
  dsimp only
  split
  · exact hm _
  · refine keeps_readoutFold (fun x j h => ?_) _ (hm _)
    split
    · exact keeps_readoutPut h ..
    · exact h
theorem keeps_trigReadoutSlice (h : Keeps r s) (tk t cmd) : Keeps r (s.trigReadoutSlice tk t cmd) := by
  unfold State.trigReadoutSlice
  extract_lets
  split
  · exact keeps_readoutClose h ..
  have ha := fun ds => keeps_accessAll h ds
  split <;> rename_i hd <;> have ha := congrArg Prod.snd hd ▸ ha _
  · exact keeps_readoutClose ha ..
  · exact ha
  · exact keeps_readoutEnd (keeps_readoutFold (fun x j h => keeps_readoutAcqLine h ..) _ ha) ..

theorem keeps_trigReadoutBody (h : Keeps r s) (q) : Keeps r (trigReadoutBody s q).s := by
  grind [trigReadoutBody, keeps_refuse, keeps_accept]

theorem keeps_execTrigReadout (h : Keeps r s) (src) {t} (e : execTrigReadout src s = .next t) : Keeps r t := by
  grind [execTrigReadout, keeps_command, keeps_trigReadoutBody]

theorem keeps_execTrigRecordStore (h : Keeps r s) (sash)
    {t} (e : execTrigRecordStore sash s = .next t) : Keeps r t := by
  grind [execTrigRecordStore, keeps_setPadLine, keeps_modSash, keeps_setTrig]

theorem keeps_execTrigSpillChunk (h : Keeps r s) (sash) {t} (e : execTrigSpillChunk sash s = .next t) : Keeps r t := by
  grind [execTrigSpillChunk, keeps_newWorm, keeps_modSash, keeps_setTrig]

theorem keeps_execToutPulseEnd (h : Keeps r s) (sash pin)
    {t} (e : execToutPulseEnd sash pin s = .next t) : Keeps r t := by
  grind [execToutPulseEnd, keeps_mk, keeps_mkMem]

theorem keeps_execPostSlotsExpiry (h : Keeps r s) (sash)
    {t} (e : execPostSlotsExpiry sash s = .next t) : Keeps r t := by
  grind [execPostSlotsExpiry, keeps_setTrig]

end Sys2Proof.Machine
end

section
set_option Elab.async false
/-! What every step keeps: the DSP core and its dispatcher instructions. -/

namespace Sys2Proof.Machine

variable {r s : State}

theorem keeps_issued (h : Keeps r s) (k c n cycles r') : Keeps r (s.issued k c n cycles r') := by
  grind [State.issued, keeps_modTask, keeps_setCore]

theorem keeps_stopAtEnd (h : Keeps r s) (n) : Keeps r (s.stopAtEnd n) := by
  grind [State.stopAtEnd, keeps_settleCas, keeps_endTask]

theorem keeps_dspOp (h : Keeps r s) (k c cycles f) : Keeps r (s.dspOp k c cycles f) := by
  grind [State.dspOp, keeps_stopAtEnd, keeps_issued]

theorem keeps_dspMemReps {act : State → Nat → CoreRegs → CoreRegs × Bool × State} (ha : ∀ s a q, Keeps r s → Keeps r (act s a q).2.2)
    (h : Keeps r s) (k c n w g d m q) : Keeps r (s.dspMemReps k c n w g d act m q) := by
  induction m generalizing s q with
  | zero => exact keeps_stopAtEnd (keeps_issued h ..) _
  | succ m ih => grind [State.dspMemReps, keeps_faultTask]

theorem keeps_dspMem {act : State → Nat → CoreRegs → CoreRegs × Bool × State} (ha : ∀ s a q, Keeps r s → Keeps r (act s a q).2.2)
    (h : Keeps r s) (k c w g d) : Keeps r (s.dspMem k c w g d act) := by
  grind [State.dspMem, keeps_dspMemReps]

theorem keeps_execDspVld (h : Keeps r s) (cas core v g d)
    {t} (e : execDspVld cas core v g d s = .next t) : Keeps r t := by
  grind [execDspVld, keeps_dspMem, keeps_memRead]

theorem keeps_execDspVst (h : Keeps r s) (cas core v g d)
    {t} (e : execDspVst cas core v g d s = .next t) : Keeps r t := by
  grind [execDspVst, keeps_dspMem, keeps_memWrite]

theorem keeps_execDspSld (h : Keeps r s) (cas core r' g d)
    {t} (e : execDspSld cas core r' g d s = .next t) : Keeps r t := by
  grind [execDspSld, keeps_dspMem, keeps_memRead]

theorem keeps_execDspSst (h : Keeps r s) (cas core r' g d)
    {t} (e : execDspSst cas core r' g d s = .next t) : Keeps r t := by
  grind [execDspSst, keeps_dspMem, keeps_memWrite]

theorem keeps_execDspMul (h : Keeps r s) (cas core x y) {t} (e : execDspMul cas core x y s = .next t) : Keeps r t := by
  grind [execDspMul, keeps_dspOp]

theorem keeps_execDspMac (h : Keeps r s) (cas core x y) {t} (e : execDspMac cas core x y s = .next t) : Keeps r t := by
  grind [execDspMac, keeps_dspOp]

theorem keeps_execDspMsu (h : Keeps r s) (cas core x y) {t} (e : execDspMsu cas core x y s = .next t) : Keeps r t := by
  grind [execDspMsu, keeps_dspOp]

theorem keeps_execDspCmac (h : Keeps r s) (cas core x y)
    {t} (e : execDspCmac cas core x y s = .next t) : Keeps r t := by
  grind [execDspCmac, keeps_dspOp]

theorem keeps_execDspNarrow (h : Keeps r s) (cas core v n)
    {t} (e : execDspNarrow cas core v n s = .next t) : Keeps r t := by
  grind [execDspNarrow, keeps_dspOp]

theorem keeps_execDspVectorAlu (h : Keeps r s) (cas core op vd va vb)
    {t} (e : execDspVectorAlu cas core op vd va vb s = .next t) : Keeps r t := by
  grind [execDspVectorAlu, keeps_dspOp, keeps_mk, keeps_mkMem]

theorem keeps_execDspScalarAlu (h : Keeps r s) (cas core op rd ra b)
    {t} (e : execDspScalarAlu cas core op rd ra b s = .next t) : Keeps r t := by
  grind [execDspScalarAlu, keeps_dspOp, keeps_mk, keeps_mkMem]

theorem keeps_execDspSetAddress (h : Keeps r s) (cas core which g b)
    {t} (e : execDspSetAddress cas core which g b s = .next t) : Keeps r t := by
  grind [execDspSetAddress, keeps_dspOp]

theorem keeps_execDspBranch (h : Keeps r s) (cas core k target)
    {t} (e : execDspBranch cas core k target s = .next t) : Keeps r t := by
  grind [execDspBranch, keeps_drawFree, keeps_modTask, keeps_setCore, keeps_issued]

theorem keeps_execDspRep (h : Keeps r s) (cas core n) {t} (e : execDspRep cas core n s = .next t) : Keeps r t := by
  grind [execDspRep, keeps_modTask, keeps_setCore]

theorem keeps_execDspTime (h : Keeps r s) (cas core r') {t} (e : execDspTime cas core r' s = .next t) : Keeps r t := by
  grind [execDspTime, keeps_dspOp]

theorem keeps_suspend (h : Keeps r s) (k c n st) : Keeps r (s.suspend k c n st) := by
  grind [State.suspend, keeps_modTask, keeps_leaveCore, keeps_issued]

theorem keeps_dspCall {f : State → Nat → TaskCtx → State} (hf : ∀ s n t, Keeps r s → Keeps r (f s n t)) (h :
    Keeps r s) (k c) :
    Keeps r (s.dspCall k c f) := by
  grind [State.dspCall, keeps_settleCas]

theorem keeps_execDspWait (h : Keeps r s) (cas core mask andMode keep)
    {t} (e : execDspWait cas core mask andMode keep s = .next t) : Keeps r t := by
  grind [execDspWait, keeps_dspCall, keeps_issued, keeps_setTask, keeps_suspend]

theorem keeps_execDspSignal (h : Keeps r s) (cas core task mask)
    {t} (e : execDspSignal cas core task mask s = .next t) : Keeps r t := by
  grind [execDspSignal, keeps_dspCall, keeps_issued, keeps_setFlags]

theorem keeps_execDspEnq (h : Keeps r s) (cas core task item)
    {t} (e : execDspEnq cas core task item s = .next t) : Keeps r t := by
  grind [execDspEnq, keeps_dspCall, keeps_issued, keeps_enqueue, keeps_suspend]

theorem keeps_execDspEnqn (h : Keeps r s) (cas core task item)
    {t} (e : execDspEnqn cas core task item s = .next t) : Keeps r t := by
  grind [execDspEnqn, keeps_dspCall, keeps_issued, keeps_enqueue]

theorem keeps_execDspDeq (h : Keeps r s) (cas core) {t} (e : execDspDeq cas core s = .next t) : Keeps r t := by
  grind [execDspDeq, keeps_dspCall, keeps_setTask, keeps_takeItem, keeps_issued, keeps_suspend]

theorem keeps_execDspSleep (h : Keeps r s) (cas core n) {t} (e : execDspSleep cas core n s = .next t) : Keeps r t := by
  grind [execDspSleep, keeps_dspCall, keeps_modCasm, keeps_suspend]

theorem keeps_execDspSubmit (h : Keeps r s) (cas core a)
    {t} (e : execDspSubmit cas core a s = .next t) : Keeps r t := by
  obtain ⟨f, hf⟩ : ∃ f, execDspSubmit = f := ⟨_, rfl⟩
  obtain ⟨ca, hc⟩ : ∃ p, coreAddr = p := ⟨_, rfl⟩
  rw [hf] at e
  delta execDspSubmit at hf
  rw [hc] at hf
  rw [← hf] at e
  grind [keeps_dspCall, keeps_faultTask, keeps_memRead, keeps_submit, keeps_issued]

theorem keeps_execDspDone (h : Keeps r s) (cas core) {t} (e : execDspDone cas core s = .next t) : Keeps r t := by
  grind [execDspDone, keeps_dspCall, keeps_endTask, keeps_modTask]

theorem keeps_xferSend (h : Keeps r s) (k x off) : Keeps r (s.xferSend k x off) := by
  obtain ⟨f, hf⟩ : ∃ f, State.xferSend = f := ⟨_, rfl⟩
  obtain ⟨ca, hc⟩ : ∃ p, coreAddr = p := ⟨_, rfl⟩
  rw [hf]
  delta State.xferSend at hf
  rw [hc] at hf
  rw [← hf]
  grind [keeps_memRead, keeps_modCasm, keeps_newWorm]

theorem keeps_xferIssue (h : Keeps r s) (k) : Keeps r (s.xferIssue k) := by
  grind [State.xferIssue, keeps_modCasm, keeps_foldl, keeps_xferSend, keeps_newWorm]

theorem keeps_execDspXfer (h : Keeps r s) (cas core x) {t} (e : execDspXfer cas core x s = .next t) : Keeps r t := by
  grind [execDspXfer, keeps_dspCall, keeps_xferIssue, keeps_modCasm, keeps_issued]

theorem keeps_execXferComplete (h : Keeps r s) (cas) {t} (e : execXferComplete cas s = .next t) : Keeps r t := by
  grind [execXferComplete, keeps_modCasm, keeps_faultTask, keeps_settleCas, keeps_setFlags, keeps_xferIssue]

theorem keeps_execTickBoundary (h : Keeps r s) (cas) {t} (e : execTickBoundary cas s = .next t) : Keeps r t := by
  grind [execTickBoundary, keeps_settleCas, keeps_foldl, keeps_makeReady, keeps_modTask]

theorem keeps_execJobPreempt (h : Keeps r s) (cas core task)
    {t} (e : execJobPreempt cas core task s = .next t) : Keeps r t := by
  grind [execJobPreempt, keeps_settleCas, keeps_runTask, keeps_makeReady, keeps_leaveCore]

theorem keeps_execBudgetStop (h : Keeps r s) (cas core) {t} (e : execBudgetStop cas core s = .next t) : Keeps r t := by
  grind [execBudgetStop, keeps_settleCas, keeps_endTask]

end Sys2Proof.Machine
end

section
set_option Elab.async false
/-! What every step keeps: the accelerators. -/

namespace Sys2Proof.Machine

variable {r s : State}

theorem keeps_accelPost (h : Keeps r s) (k c n a) : Keeps r (s.accelPost k c n a) := by
  obtain ⟨f, hf⟩ : ∃ f, State.accelPost = f := ⟨_, rfl⟩
  obtain ⟨ca, hc⟩ : ∃ p, coreAddr = p := ⟨_, rfl⟩
  rw [hf]
  delta State.accelPost at hf
  rw [hc] at hf
  rw [← hf]
  grind [keeps_faultTask, keeps_memRead, keeps_modCasm, keeps_issued]

theorem keeps_execDspAccel (h : Keeps r s) (cas core a) {t} (e : execDspAccel cas core a s = .next t) : Keeps r t := by
  grind [execDspAccel, keeps_dspCall, keeps_accelPost]

theorem keeps_served (h : Keeps r s) (k u d st) : Keeps r (s.served k u d st) := by
  grind [State.served, keeps_modCasm]

theorem keeps_accelServe (h : Keeps r s) (k u kind f) : Keeps r (s.accelServe k u kind f) := by
  unfold State.accelServe
  cases s.toServe k u with
  | none => exact h
  | some d =>
    refine keeps_ite h ?_
    have hm := keeps_memRead h (casAddr k (d.n 8 4)) d.srclen
    extract_lets a
    rcases hd : s.memRead a d.srclen with ⟨x, bad, t⟩
    rw [hd] at hm
    cases bad with
    | true => exact keeps_faultTask (keeps_served (keeps_drawFree hm) ..) ..
    | false =>
      rcases hy : f t d x with _ | ⟨st, out⟩
      · simp only [hy]
        exact keeps_served hm ..
      · simp only [hy]
        exact keeps_served (keeps_memWrite hm ..) ..

theorem keeps_execAccelFft (h : Keeps r s) (cas) {t} (e : execAccelFft cas s = .next t) : Keeps r t := by
  grind [execAccelFft, keeps_accelServe]

theorem keeps_execAccelEncode (h : Keeps r s) (cas) {t} (e : execAccelEncode cas s = .next t) : Keeps r t := by
  grind [execAccelEncode, keeps_accelServe]

theorem keeps_execAccelDecode (h : Keeps r s) (cas) {t} (e : execAccelDecode cas s = .next t) : Keeps r t := by
  grind [execAccelDecode, keeps_accelServe]

theorem keeps_boundary (h : Keeps r s) (k x) : Keeps r (s.boundary k x) := by
  grind [State.boundary, keeps_modCasm]

theorem keeps_serveMapper (h : Keeps r s) (k kind f) : Keeps r (s.serveMapper k kind f) := by
  grind [State.serveMapper, keeps_boundary, keeps_accelServe]

theorem keeps_execAccelModulate (h : Keeps r s) (cas) {t} (e : execAccelModulate cas s = .next t) : Keeps r t := by
  grind [execAccelModulate, keeps_serveMapper]

theorem keeps_execAccelDemap (h : Keeps r s) (cas) {t} (e : execAccelDemap cas s = .next t) : Keeps r t := by
  grind [execAccelDemap, keeps_serveMapper, keeps_mk, keeps_mkMem]

theorem keeps_execAccelNmeas (h : Keeps r s) (cas) {t} (e : execAccelNmeas cas s = .next t) : Keeps r t := by
  grind [execAccelNmeas, keeps_serveMapper, keeps_mk, keeps_mkMem]

theorem keeps_execAccelRebuild (h : Keeps r s) (k) {t} (e : execAccelRebuild k s = .next t) : Keeps r t := by
  unfold execAccelRebuild at e
  generalize casAddr = f at e
  grind [keeps_accelServe, keeps_modCasm]

theorem keeps_execAccelSwap (h : Keeps r s) (cas) {t} (e : execAccelSwap cas s = .next t) : Keeps r t := by
  grind [execAccelSwap, keeps_served, keeps_modCasm]

theorem keeps_serveNow {f : State → AccelDesc → Option (BitVec 32 × State)} (hf : ∀ s d st t, Keeps r s → f s d = some (st, t) → Keeps r t)
    (h : Keeps r s) (k u kind) : Keeps r (s.serveNow k u kind f) := by
  grind [State.serveNow, keeps_served]

theorem keeps_execAccelBurst (h : Keeps r s) (cas) {t} (e : execAccelBurst cas s = .next t) : Keeps r t := by
  grind [execAccelBurst, keeps_serveNow, keeps_setStream]

theorem keeps_execAccelPsrel (h : Keeps r s) (cas) {t} (e : execAccelPsrel cas s = .next t) : Keeps r t := by
  grind [execAccelPsrel, keeps_serveNow, keeps_setStream]

theorem keeps_queueGain (h : Keeps r s) (p bits div word at_) : Keeps r (s.queueGain p bits div word at_) := by
  grind [State.queueGain, keeps_setFePort]

theorem keeps_execAccelGain (h : Keeps r s) (cas) {t} (e : execAccelGain cas s = .next t) : Keeps r t := by
  grind [execAccelGain, keeps_serveNow, keeps_postNotice, keeps_queueGain]

theorem keeps_retryStalls (h : Keeps r s) (k l) : Keeps r (s.retryStalls k l) := by
  induction l generalizing s with
  | nil => exact h
  | cons a l ih => grind [State.retryStalls, keeps_accelPost]

theorem keeps_execAccelComplete (h : Keeps r s) (k u) {t} (e : execAccelComplete k u s = .next t) : Keeps r t := by
  cases e
  dsimp only
  split
  · exact h
  refine keeps_ite h (keeps_settleCas (keeps_retryStalls ?_ ..) _)
  have hq := fun a b f => keeps_modCasm (keeps_memWrite h a b) k f
  have hc := fun (c : Prop) [Decidable c] a b f g => keeps_ite (c := c) (keeps_modCasm (hq a b f) k g) (hq a b f)
  refine keeps_ite ?_ (keeps_ite (keeps_setFlags (hc ..) ..) (hc ..))
  split
  · exact keeps_ite (keeps_enqueue (hc ..) ..) (keeps_modCasm (hc ..) ..)
  · exact hc ..

end Sys2Proof.Machine
end

section
set_option Elab.async false
/-! What every step keeps: streams. -/

namespace Sys2Proof.Machine

variable {r s : State}

theorem cbRead_eq (s : State) (st : Stream) (o n : Nat) :
    ∃ b e t, s.memRead (casAddr st.cas st.cb + o) n = (b, e, t) ∧ s.cbRead st o n = (leNat b, t) := by
  suffices H : ∀ f, State.cbRead = f → ∃ b e t, s.memRead (casAddr st.cas st.cb + o) n = (b, e, t) ∧ f s st o n = (leNat b, t) from H _ rfl
  intro f hf
  delta State.cbRead at hf
  rw [← hf]
  beta_reduce
  generalize s.memRead (casAddr st.cas st.cb + o) n = x
  obtain ⟨b, e, t⟩ := x
  exact ⟨b, e, t, rfl, rfl⟩
theorem keeps_cbRead (h : Keeps r s) (st o n) : Keeps r (s.cbRead st o n).2 := by
  have hm := keeps_memRead h (casAddr st.cas st.cb + o) n
  obtain ⟨b, e, t, hr, hc⟩ := cbRead_eq s st o n
  rw [hr] at hm
  rw [hc]
  exact hm

theorem keeps_cbWrite (h : Keeps r s) (st o n v) : Keeps r (s.cbWrite st o n v) := by
  grind [State.cbWrite, keeps_memWrite]

theorem cbFlag_eq (s : State) (st : Stream) (m : Nat) :
    ∃ v t, s.cbRead st 0x34 4 = (v, t) ∧ s.cbFlag st m = t.cbWrite st 0x34 4 (v ||| m) := by
  suffices H : ∀ f, State.cbFlag = f → ∃ v t, s.cbRead st 0x34 4 = (v, t) ∧ f s st m = t.cbWrite st 0x34 4 (v ||| m) from H _ rfl
  intro f hf
  delta State.cbFlag at hf
  rw [← hf]
  beta_reduce
  generalize s.cbRead st 0x34 4 = x
  obtain ⟨v, t⟩ := x
  exact ⟨v, t, rfl, rfl⟩
theorem keeps_cbFlag (h : Keeps r s) (st m) : Keeps r (s.cbFlag st m) := by
  have hm := keeps_cbRead h st 0x34 4
  obtain ⟨v, t, hr, hc⟩ := cbFlag_eq s st m
  rw [hr] at hm
  rw [hc]
  exact keeps_cbWrite hm ..

theorem keeps_streamFlag (h : Keeps r s) (st) : Keeps r (s.streamFlag st) := by
  grind [State.streamFlag, keeps_settleCas, keeps_setFlags]

theorem streamLoss_eq (s : State) (st : Stream) (i n : Nat) :
    ∃ v t, s.cbRead st 0x20 8 = (v, t) ∧
      s.streamLoss st i n = (((t.cbWrite st 0x20 8 (v + n)).cbWrite st 0x28 8 i).cbFlag st 2).streamFlag st := by
  suffices H : ∀ f, State.streamLoss = f → ∃ v t, s.cbRead st 0x20 8 = (v, t) ∧
      f s st i n = (((t.cbWrite st 0x20 8 (v + n)).cbWrite st 0x28 8 i).cbFlag st 2).streamFlag st from H _ rfl
  intro f hf
  delta State.streamLoss at hf
  rw [← hf]
  beta_reduce
  generalize s.cbRead st 0x20 8 = x
  obtain ⟨v, t⟩ := x
  exact ⟨v, t, rfl, rfl⟩
theorem keeps_streamLoss (h : Keeps r s) (st i n) : Keeps r (s.streamLoss st i n) := by
  have hm := keeps_cbRead h st 0x20 8
  obtain ⟨v, t, hr, hc⟩ := streamLoss_eq s st i n
  rw [hr] at hm
  rw [hc]
  exact keeps_streamFlag (keeps_cbFlag (keeps_cbWrite (keeps_cbWrite hm ..) ..) ..) _

theorem keeps_streamStart (h : Keeps r s) (st) : Keeps r (s.streamStart st) := by
  grind [State.streamStart, keeps_cbWrite]

theorem keeps_forStreams {f : State → Nat → Stream → State} (hf : ∀ s j x, Keeps r s → Keeps r (f s j x)) (h :
    Keeps r s) (js) :
    Keeps r (s.forStreams js f) := by
  grind [State.forStreams, keeps_foldl]

theorem keeps_sysrefLink (h : Keeps r s) (clk i) : Keeps r (s.sysrefLink clk i) := by
  grind [State.sysrefLink, keeps_setSlink, keeps_postLane]

theorem keeps_execSysrefEdge (h : Keeps r s) (clk) {t} (e : execSysrefEdge clk s = .next t) : Keeps r t := by
  grind [execSysrefEdge, keeps_foldl, keeps_sysrefLink]

theorem keeps_execStreamLockLoss (h : Keeps r s) (link) {t} (e : execStreamLockLoss link s = .next t) : Keeps r t := by
  grind [execStreamLockLoss, keeps_setSlink, keeps_forStreams, keeps_cbFlag, keeps_postLane]

theorem keeps_execExtendedMultiblockLockReturn (h : Keeps r s) (link)
    {t} (e : execExtendedMultiblockLockReturn link s = .next t) :
    Keeps r t := by
  have hc := fun s (h : Keeps r s) st o n => keeps_cbRead h st o n
  unfold execExtendedMultiblockLockReturn at e
  generalize State.cbRead = f at e hc
  grind [keeps_forStreams, keeps_setSlink, keeps_cbWrite]

theorem keeps_rxDeliver (h : Keeps r s) (l crcOk ws k st) : Keeps r (s.rxDeliver l crcOk ws k st) := by
  have hc := fun s (h : Keeps r s) st o n => keeps_cbRead h st o n
  suffices H : ∀ f, f = State.rxDeliver → Keeps r (f s l crcOk ws k st) from H _ rfl
  intro f hf
  delta State.rxDeliver at hf
  rw [hf]
  generalize State.cbRead = g at hc ⊢
  grind [keeps_streamStart, keeps_setStream, keeps_streamLoss, keeps_streamFlag, keeps_cbFlag, keeps_cbWrite]

theorem keeps_execStreamRxMultiblock (h : Keeps r s) (link crcOk words)
    {t} (e : execStreamRxMultiblock link crcOk words s = .next t) : Keeps r t := by
  grind [execStreamRxMultiblock, keeps_modLanes, keeps_forStreams, keeps_rxDeliver, keeps_setSlink]

theorem keeps_ringWrite (h : Keeps r s) (st i xs) : Keeps r (s.ringWrite st i xs) := by
  grind [State.ringWrite, keeps_memWrite]

theorem keeps_rxBlock (h : Keeps r s) (k st) : Keeps r (s.rxBlock k st) := by
  have hm := keeps_cbRead h st 8 8
  suffices H : ∀ f, State.rxBlock = f → Keeps r (f s k st) from H _ rfl
  intro f hf
  delta State.rxBlock at hf
  rw [← hf]
  beta_reduce
  generalize s.cbRead st 8 8 = y at hm ⊢
  obtain ⟨rd, t⟩ := y
  have h1 := fun x => keeps_setStream hm k x
  have h2 := fun (c : Prop) [Decidable c] x i n v =>
    keeps_cbWrite (keeps_ite (c := c) (keeps_ringWrite (h1 x) st st.idx (st.rxBuf.take 128)) (keeps_streamLoss (h1 x) st st.idx 128)) st i n v
  exact keeps_ite (keeps_streamFlag (h2 ..) _) (h2 ..)

theorem keeps_execStreamRxBlock (h : Keeps r s) (stream)
    {t} (e : execStreamRxBlock stream s = .next t) : Keeps r t := by
  grind [execStreamRxBlock, keeps_louvreTake, keeps_rxBlock]

theorem keeps_execStreamTxFetch (h : Keeps r s) (k late)
    {t} (e : execStreamTxFetch k late s = .next t) : Keeps r t := by
  have hc := fun s (h : Keeps r s) st o n => keeps_cbRead h st o n
  have hm := fun s (h : Keeps r s) a n => keeps_memRead h a n
  have hl := fun d c n t => keeps_louvreTake h d c n (t := t)
  obtain ⟨x, hx⟩ : ∃ f, execStreamTxFetch = f := ⟨_, rfl⟩
  obtain ⟨f, hf⟩ : ∃ f, State.cbRead = f := ⟨_, rfl⟩
  obtain ⟨g, hg⟩ : ∃ f, State.memRead = f := ⟨_, rfl⟩
  obtain ⟨l, hL⟩ : ∃ f, State.louvreTake = f := ⟨_, rfl⟩
  obtain ⟨ca, ha⟩ : ∃ f, casAddr = f := ⟨_, rfl⟩
  rw [hx] at e
  delta execStreamTxFetch at hx
  rw [hf] at hc
  rw [hg] at hm
  rw [hL] at hl
  rw [hf, hg, hL, ha] at hx
  rw [← hx] at e
  grind [keeps_cbWrite, keeps_streamLoss, keeps_setStream, keeps_streamStart, keeps_modLanes]

theorem keeps_streamItem (h : Keeps r s) (j kind user) : Keeps r (s.streamItem j kind user) := by
  grind [State.streamItem, keeps_settleCas, keeps_enqueue, keeps_setStream]

theorem keeps_execMaskMonitorAverage (h : Keeps r s) (stream bins)
    {t} (e : execMaskMonitorAverage stream bins s = .next t) : Keeps r t := by
  grind [execMaskMonitorAverage, keeps_setStream, keeps_streamItem]

theorem keeps_execPacketDetect (h : Keeps r s) (k p x cs)
    {t} (e : execPacketDetect k p x cs s = .next t) : Keeps r t := by
  cases e
  have hp := fun v => keeps_setStream h k v
  dsimp only
  split
  · exact h
  split
  · exact h
  refine keeps_ite h (keeps_ite (hp _) ?_)
  split
  · exact hp _
  refine keeps_ite (hp _) (keeps_streamItem ?_ ..)
  split
  · exact keeps_streamItem (hp _) ..
  · exact hp _

theorem keeps_execCaptureTruncate (h : Keeps r s) (stream path)
    {t} (e : execCaptureTruncate stream path s = .next t) : Keeps r t := by
  grind [execCaptureTruncate, keeps_streamItem, keeps_setStream]

theorem keeps_execGainWordSend (h : Keeps r s) (port) {t} (e : execGainWordSend port s = .next t) : Keeps r t := by
  grind [execGainWordSend, keeps_setFePort]

end Sys2Proof.Machine
end

section
set_option Elab.async false
/-! What every step keeps: the casement commands. -/

namespace Sys2Proof.Machine

variable {r s : State}

theorem keeps_jobWrite (h : Keeps r s) (k b) : Keeps r (s.jobWrite k b) := by
  grind [State.jobWrite, keeps_foldl, keeps_modCasm, keeps_memWrite]

theorem keeps_jobLoadSlice (h : Keeps r s) (tk t cmd) : Keeps r (s.jobLoadSlice tk t cmd) := by
  have hf := fun a n => keeps_fetchImage h (cmdUnit cmd) a n
  unfold State.jobLoadSlice
  refine keeps_ite (keeps_finish h ..) (keeps_ite (keeps_finish h ..) ?_)
  split <;> rename_i hd <;> have hf := congrArg (fun x : _ × _ × State => x.2.2) hd ▸ hf _ _
  · exact keeps_finish hf ..
  refine keeps_ite (keeps_modTicket hf ..) ?_
  split
  · exact keeps_finish hf ..
  have ha := keeps_accessAll hf [domCas (fld cmd 0 1)]
  split <;> rename_i hd <;> rw [hd] at ha
  · exact keeps_finish ha ..
  · exact ha
  · exact keeps_finish (keeps_jobWrite ha ..) ..

theorem keeps_jobLoadBody (h : Keeps r s) (q) : Keeps r (jobLoadBody s q).s := by
  grind [jobLoadBody, keeps_refuse, keeps_accept]

theorem keeps_execJobLoad (h : Keeps r s) (src) {t} (e : execJobLoad src s = .next t) : Keeps r t := by
  grind [execJobLoad, keeps_command, keeps_jobLoadBody]

theorem keeps_jobUnloadBody (h : Keeps r s) (q) : Keeps r (jobUnloadBody s q).s := by
  grind [jobUnloadBody, keeps_refuse, keeps_done, keeps_modCasm]

theorem keeps_execJobUnload (h : Keeps r s) (src) {t} (e : execJobUnload src s = .next t) : Keeps r t := by
  grind [execJobUnload, keeps_command, keeps_jobUnloadBody]

theorem keeps_submitBody (h : Keeps r s) (q) : Keeps r (submitBody s q).s := by
  grind [submitBody, keeps_refuse, keeps_submit, keeps_done, keeps_settleCas, keeps_access]

theorem keeps_execSubmit (h : Keeps r s) (src) {t} (e : execSubmit src s = .next t) : Keeps r t := by
  grind [execSubmit, keeps_command, keeps_submitBody]

theorem keeps_jobStopBody (h : Keeps r s) (q) : Keeps r (jobStopBody s q).s := by
  grind [jobStopBody, keeps_done, keeps_setTask, keeps_settleCas, keeps_endTask, keeps_refuse]

theorem keeps_execJobStop (h : Keeps r s) (src) {t} (e : execJobStop src s = .next t) : Keeps r t := by
  grind [execJobStop, keeps_command, keeps_jobStopBody]

theorem keeps_signalBody (h : Keeps r s) (q) : Keeps r (signalBody s q).s := by
  grind [signalBody, keeps_refuse, keeps_done, keeps_settleCas, keeps_setFlags]

theorem keeps_execSignal (h : Keeps r s) (src) {t} (e : execSignal src s = .next t) : Keeps r t := by
  grind [execSignal, keeps_command, keeps_signalBody]

theorem keeps_itemBody (h : Keeps r s) (q) : Keeps r (itemBody s q).s := by
  grind [itemBody, keeps_refuse, keeps_done, keeps_settleCas, keeps_enqueue]

theorem keeps_execItem (h : Keeps r s) (src) {t} (e : execItem src s = .next t) : Keeps r t := by
  grind [execItem, keeps_command, keeps_itemBody]

theorem keeps_evmapBody (h : Keeps r s) (q) : Keeps r (evmapBody s q).s := by
  grind [evmapBody, keeps_refuse, keeps_done, keeps_modCasm]

theorem keeps_execEvmapMap (h : Keeps r s) (src) {t} (e : execEvmapMap src s = .next t) : Keeps r t := by
  grind [execEvmapMap, keeps_command, keeps_evmapBody]

theorem keeps_execEvmapUnmap (h : Keeps r s) (src) {t} (e : execEvmapUnmap src s = .next t) : Keeps r t := by
  grind [execEvmapUnmap, keeps_command, keeps_evmapBody]

theorem keeps_ccwBody (h : Keeps r s) (q) : Keeps r (ccwBody s q).s := by
  grind [ccwBody, keeps_refuse, keeps_done, keeps_modCasm]

theorem keeps_execCcw (h : Keeps r s) (src) {t} (e : execCcw src s = .next t) : Keeps r t := by
  grind [execCcw, keeps_command, keeps_ccwBody]

theorem keeps_contextBody (h : Keeps r s) (f q) : Keeps r (contextBody f s q).s := by
  grind [contextBody, keeps_refuse, keeps_done, keeps_modCasm]

theorem keeps_contextGeometryBody (h : Keeps r s) (q) : Keeps r (contextGeometryBody s q).s := keeps_contextBody h ..

theorem keeps_execContextGeometry (h : Keeps r s) (src) {t} (e : execContextGeometry src s = .next t) : Keeps r t := by
  grind [execContextGeometry, keeps_command, keeps_contextGeometryBody]

theorem keeps_contextScaleBody (h : Keeps r s) (q) : Keeps r (contextScaleBody s q).s := keeps_contextBody h ..

theorem keeps_execContextScale (h : Keeps r s) (src) {t} (e : execContextScale src s = .next t) : Keeps r t := by
  grind [execContextScale, keeps_command, keeps_contextScaleBody]

theorem keeps_contextThresholdBody (h : Keeps r s) (q) : Keeps r (contextThresholdBody s q).s := keeps_contextBody h ..

theorem keeps_execContextThreshold (h : Keeps r s) (src)
    {t} (e : execContextThreshold src s = .next t) : Keeps r t := by
  grind [execContextThreshold, keeps_command, keeps_contextThresholdBody]

theorem keeps_contextBitTableBody (h : Keeps r s) (q) : Keeps r (contextBitTableBody s q).s := by
  grind [contextBitTableBody, keeps_refuse, keeps_done, keeps_modCasm]

theorem keeps_execContextBitTable (h : Keeps r s) (src) {t} (e : execContextBitTable src s = .next t) : Keeps r t := by
  grind [execContextBitTable, keeps_command, keeps_contextBitTableBody]

theorem keeps_linkCfgBody (h : Keeps r s) (q) : Keeps r (linkCfgBody s q).s := by
  grind [linkCfgBody, keeps_refuse, keeps_done, keeps_setSlink, keeps_modLanes, keeps_setQuadRates]

theorem keeps_execLinkCfg (h : Keeps r s) (src) {t} (e : execLinkCfg src s = .next t) : Keeps r t := by
  grind [execLinkCfg, keeps_command, keeps_linkCfgBody]

theorem keeps_streamOpenBody (h : Keeps r s) (q) : Keeps r (streamOpenBody s q).s := by
  grind [streamOpenBody, keeps_refuse, keeps_done, keeps_setStream]

theorem keeps_execStreamOpen (h : Keeps r s) (src) {t} (e : execStreamOpen src s = .next t) : Keeps r t := by
  grind [execStreamOpen, keeps_command, keeps_streamOpenBody]

theorem keeps_streamCloseBody (h : Keeps r s) (q) : Keeps r (streamCloseBody s q).s := by
  grind [streamCloseBody, keeps_refuse, keeps_done, keeps_closeStream, keeps_rxBlock]

theorem keeps_execStreamClose (h : Keeps r s) (src) {t} (e : execStreamClose src s = .next t) : Keeps r t := by
  grind [execStreamClose, keeps_command, keeps_streamCloseBody]

theorem keeps_streamCfgBody (h : Keeps r s) (rx f q) : Keeps r (streamCfgBody rx f s q).s := by
  grind [streamCfgBody, keeps_refuse, keeps_done, keeps_setStream]

theorem keeps_firCoefficientsBody (h : Keeps r s) (q) : Keeps r (firCoefficientsBody s q).s := keeps_streamCfgBody h ..

theorem keeps_execFirCoefficients (h : Keeps r s) (src) {t} (e : execFirCoefficients src s = .next t) : Keeps r t := by
  grind [execFirCoefficients, keeps_command, keeps_firCoefficientsBody]

theorem keeps_firBankSelectBody (h : Keeps r s) (q) : Keeps r (firBankSelectBody s q).s := keeps_streamCfgBody h ..

theorem keeps_execFirBankSelect (h : Keeps r s) (src) {t} (e : execFirBankSelect src s = .next t) : Keeps r t := by
  grind [execFirBankSelect, keeps_command, keeps_firBankSelectBody]

theorem keeps_rampBody (h : Keeps r s) (base q) : Keeps r (rampBody base s q).s := keeps_streamCfgBody h ..

theorem keeps_execRampUpTable (h : Keeps r s) (src) {t} (e : execRampUpTable src s = .next t) : Keeps r t := by
  grind [execRampUpTable, keeps_command, keeps_rampBody]

theorem keeps_execRampDownTable (h : Keeps r s) (src) {t} (e : execRampDownTable src s = .next t) : Keeps r t := by
  grind [execRampDownTable, keeps_command, keeps_rampBody]

theorem keeps_maskMonitorBody (h : Keeps r s) (q) : Keeps r (maskMonitorBody s q).s := keeps_streamCfgBody h ..

theorem keeps_execMaskMonitorCfg (h : Keeps r s) (src) {t} (e : execMaskMonitorCfg src s = .next t) : Keeps r t := by
  grind [execMaskMonitorCfg, keeps_command, keeps_maskMonitorBody]

theorem keeps_hypothesisBody (h : Keeps r s) (q) : Keeps r (hypothesisBody s q).s := by
  unfold hypothesisBody
  extract_lets j k n a
  split
  · exact h
  rename_i st _
  refine keeps_ite_reply h (keeps_ite_reply (keeps_setStream h ..) (keeps_ite_reply h (keeps_ite_reply h ?_)))
  have hm := keeps_memRead h (casAddr st.cas a) (4 * n)
  generalize s.memRead (casAddr st.cas a) (4 * n) = y at hm ⊢
  obtain ⟨b, _ | _, t⟩ := y
  · exact keeps_setStream hm ..
  · exact hm

theorem keeps_execHypothesisCfg (h : Keeps r s) (src) {t} (e : execHypothesisCfg src s = .next t) : Keeps r t := by
  grind [execHypothesisCfg, keeps_command, keeps_hypothesisBody]

theorem keeps_capturePolicyBody (h : Keeps r s) (q) : Keeps r (capturePolicyBody s q).s := keeps_streamCfgBody h ..

theorem keeps_execCapturePolicy (h : Keeps r s) (src) {t} (e : execCapturePolicy src s = .next t) : Keeps r t := by
  grind [execCapturePolicy, keeps_command, keeps_capturePolicyBody]

theorem keeps_gainBody (h : Keeps r s) (q) : Keeps r (gainBody s q).s := by
  grind [gainBody, keeps_refuse, keeps_done, keeps_queueGain]

theorem keeps_execGain (h : Keeps r s) (src) {t} (e : execGain src s = .next t) : Keeps r t := by
  grind [execGain, keeps_command, keeps_gainBody]

end Sys2Proof.Machine
end

section
set_option Elab.async false
/-! What every step keeps: the memory commands. -/

namespace Sys2Proof.Machine

variable {r s : State}

theorem keeps_trainChannel (h : Keeps r s) (c rate) : Keeps r (s.trainChannel c rate) := by
  grind [State.trainChannel, keeps_setDdr]

theorem keeps_trainSlice (h : Keeps r s) (tk t' cmd) : Keeps r (s.trainSlice tk t' cmd) := by
  grind [State.trainSlice, keeps_accessAll, keeps_finish, keeps_modTicket, keeps_trainChannel]

theorem keeps_trainBody (h : Keeps r s) (q) : Keeps r (trainBody s q).s := by
  grind [trainBody, keeps_refuse, keeps_accept]

theorem keeps_execTrain (h : Keeps r s) (src) {t} (e : execTrain src s = .next t) : Keeps r t := by
  grind [execTrain, keeps_command, keeps_trainBody]

theorem keeps_memcfgBody (h : Keeps r s) (q) : Keeps r (memcfgBody s q).s := by
  grind [memcfgBody, keeps_refuse, keeps_done, keeps_mk, keeps_mkMem]

theorem keeps_execMemcfg (h : Keeps r s) (src) {t} (e : execMemcfg src s = .next t) : Keeps r t := by
  grind [execMemcfg, keeps_command, keeps_memcfgBody]

theorem keeps_sweepSlice (h : Keeps r s) (tk t' cmd) : Keeps r (s.sweepSlice tk t' cmd) := by
  grind [State.sweepSlice, keeps_finish, keeps_accessAll, keeps_modTicket, keeps_ensureRegion]

theorem keeps_sweepBody (h : Keeps r s) (q) : Keeps r (sweepBody s q).s := by
  grind [sweepBody, keeps_refuse, keeps_accept]

theorem keeps_execSweep (h : Keeps r s) (src) {t} (e : execSweep src s = .next t) : Keeps r t := by
  grind [execSweep, keeps_command, keeps_sweepBody]

theorem keeps_clearLines (h : Keeps r s) (m i n) : Keeps r (s.clearLines m i n) := by
  induction n generalizing s i with
  | zero => exact h
  | succ n ih => exact ih (keeps_clearLine h m i) _

theorem keeps_invalidateBody (h : Keeps r s) (q) : Keeps r (invalidateBody s q).s := by
  grind [invalidateBody, keeps_refuse, keeps_done, keeps_mk, keeps_mkMem, keeps_clearLines]

theorem keeps_execInvalidate (h : Keeps r s) (src) {t} (e : execInvalidate src s = .next t) : Keeps r t := by
  grind [execInvalidate, keeps_command, keeps_invalidateBody]

theorem keeps_copyToSpare (h : Keeps r s) (m w) : Keeps r (s.copyToSpare m w) := by
  grind [State.copyToSpare, keeps_noteCe, keeps_mk, keeps_mkMem, keeps_notePoison]

theorem keeps_copyWords (h : Keeps r s) (m w n) : Keeps r (s.copyWords m w n) := by
  induction n generalizing s w with
  | zero => exact h
  | succ n ih => exact ih (keeps_copyToSpare h m w) _

theorem keeps_remapInto (h : Keeps r s) (m a e') : Keeps r (s.remapInto m a e') := by
  grind [State.remapInto, keeps_modMemSt, keeps_copyWords]

theorem keeps_remapBody (h : Keeps r s) (q) : Keeps r (remapBody s q).s := by
  grind [remapBody, keeps_refuse, keeps_done, keeps_remapInto]

theorem keeps_execRemap (h : Keeps r s) (src) {t} (e : execRemap src s = .next t) : Keeps r t := by
  grind [execRemap, keeps_command, keeps_remapBody]

theorem keeps_remapFreeBody (h : Keeps r s) (q) : Keeps r (remapFreeBody s q).s := by
  grind [remapFreeBody, keeps_refuse, keeps_done, keeps_modMemSt]

theorem keeps_execRemapFree (h : Keeps r s) (src) {t} (e : execRemapFree src s = .next t) : Keeps r t := by
  grind [execRemapFree, keeps_command, keeps_remapFreeBody]

theorem keeps_execAutoRemap (h : Keeps r s) (mem addr) {t} (e : execAutoRemap mem addr s = .next t) : Keeps r t := by
  grind [execAutoRemap, keeps_postPolicy, keeps_remapInto, keeps_postMemory, keeps_modMemSt]

theorem keeps_scrubWord (h : Keeps r s) (m w) : Keeps r (s.scrubWord m w) := by
  grind [State.scrubWord, keeps_modMemSt, keeps_noteCe, keeps_notePoison]

theorem keeps_scrubWords (h : Keeps r s) (m w n) : Keeps r (s.scrubWords m w n) := by
  induction n generalizing s w with
  | zero => exact h
  | succ n ih => exact ih (keeps_scrubWord h m w) _

theorem keeps_scrubRewrite (h : Keeps r s) (m) : Keeps r (s.scrubRewrite m) := by
  grind [State.scrubRewrite, keeps_mk, keeps_mkMem, keeps_foldl, keeps_modMemSt]

theorem keeps_execScrubLine (h : Keeps r s) (mem line) {t} (e : execScrubLine mem line s = .next t) : Keeps r t := by
  grind [execScrubLine, keeps_scrubWords, keeps_scrubRewrite]

theorem keeps_lapCheck (h : Keeps r s) (m ms) : Keeps r (s.lapCheck m ms) := by
  grind [State.lapCheck, keeps_postMemory, keeps_modMemSt]

theorem keeps_execScrubLapEnd (h : Keeps r s) (mem) {t} (e : execScrubLapEnd mem s = .next t) : Keeps r t := by
  grind [execScrubLapEnd, keeps_modMemSt, keeps_lapCheck]

theorem keeps_execLapCounterSample (h : Keeps r s) (mem)
    {t} (e : execLapCounterSample mem s = .next t) : Keeps r t := by
  grind [execLapCounterSample, keeps_lapCheck, keeps_modMemSt]

theorem keeps_mempolicyBody (h : Keeps r s) (q) : Keeps r (mempolicyBody s q).s := by
  grind [mempolicyBody, keeps_refuse, keeps_done, keeps_postPolicy, keeps_modMemSt]

theorem keeps_execMempolicy (h : Keeps r s) (src) {t} (e : execMempolicy src s = .next t) : Keeps r t := by
  grind [execMempolicy, keeps_command, keeps_mempolicyBody]

theorem keeps_memstatusBody (h : Keeps r s) (q) : Keeps r (memstatusBody s q).s := by
  grind [memstatusBody, keeps_refuse, keeps_done, keeps_modMemSt]

theorem keeps_execMemstatus (h : Keeps r s) (src) {t} (e : execMemstatus src s = .next t) : Keeps r t := by
  grind [execMemstatus, keeps_command, keeps_memstatusBody]

theorem keeps_copyLine (h : Keeps r s) (tk t' cmd) : Keeps r (s.copyLine tk t' cmd) := by
  grind [State.copyLine, keeps_finish, keeps_modTicket, keeps_newWorm]

theorem keeps_copySlice (h : Keeps r s) (tk t' cmd) : Keeps r (s.copySlice tk t' cmd) := by
  grind [State.copySlice, keeps_finish, keeps_copyLine, keeps_modTicket]

theorem keeps_copyBody (h : Keeps r s) (q) : Keeps r (copyBody s q).s := by
  grind [copyBody, keeps_refuse, keeps_accept]

theorem keeps_execCopy (h : Keeps r s) (src) {t} (e : execCopy src s = .next t) : Keeps r t := by
  grind [execCopy, keeps_command, keeps_copyBody]

end Sys2Proof.Machine
end

section
set_option Elab.async false
/-! What every step keeps: the lane commands and events. -/

namespace Sys2Proof.Machine

variable {r s : State}

theorem keeps_adapt (h : Keeps r s) (i) : Keeps r (s.adapt i) := by
  grind [State.adapt, keeps_foldl, keeps_modLane, keeps_mk, keeps_mkMem]

theorem keeps_laneModeBody (h : Keeps r s) (q) : Keeps r (laneModeBody s q).s := by
  grind [laneModeBody, keeps_refuse, keeps_done, keeps_settleQuads, keeps_modLane, keeps_setQuadRates]

theorem keeps_execLaneMode (h : Keeps r s) (src) {t} (e : execLaneMode src s = .next t) : Keeps r t := by
  grind [execLaneMode, keeps_command, keeps_laneModeBody]

theorem keeps_laneCtlBody (h : Keeps r s) (q) : Keeps r (laneCtlBody s q).s := by
  grind [laneCtlBody, keeps_refuse, keeps_adapt, keeps_modLane, keeps_done, keeps_postPolicy]

theorem keeps_execLaneCtl (h : Keeps r s) (src) {t} (e : execLaneCtl src s = .next t) : Keeps r t := by
  grind [execLaneCtl, keeps_command, keeps_laneCtlBody]

theorem keeps_deskewBody (h : Keeps r s) (q) : Keeps r (deskewBody s q).s := by
  grind [deskewBody, keeps_refuse, keeps_done, keeps_modLane]

theorem keeps_execDeskew (h : Keeps r s) (src) {t} (e : execDeskew src s = .next t) : Keeps r t := by
  grind [execDeskew, keeps_command, keeps_deskewBody]

theorem keeps_refspreadBody (h : Keeps r s) (q) : Keeps r (refspreadBody s q).s := by
  grind [refspreadBody, keeps_refuse, keeps_done, keeps_mk, keeps_mkMem]

theorem keeps_execRefspread (h : Keeps r s) (src) {t} (e : execRefspread src s = .next t) : Keeps r t := by
  grind [execRefspread, keeps_command, keeps_refspreadBody]

theorem keeps_marginBody (h : Keeps r s) (q) : Keeps r (marginBody s q).s := by
  grind [marginBody, keeps_refuse, keeps_done, keeps_modLane]

theorem keeps_execMargin (h : Keeps r s) (src) {t} (e : execMargin src s = .next t) : Keeps r t := by
  grind [execMargin, keeps_command, keeps_marginBody]

theorem keeps_laneIdleEnterBody (h : Keeps r s) (q) : Keeps r (laneIdleEnterBody s q).s := by
  grind [laneIdleEnterBody, keeps_refuse, keeps_done, keeps_modLane]

theorem keeps_execLaneIdleEnter (h : Keeps r s) (src) {t} (e : execLaneIdleEnter src s = .next t) : Keeps r t := by
  grind [execLaneIdleEnter, keeps_command, keeps_laneIdleEnterBody]

theorem keeps_laneIdleExitBody (h : Keeps r s) (q) : Keeps r (laneIdleExitBody s q).s := by
  grind [laneIdleExitBody, keeps_refuse, keeps_done, keeps_modLane]

theorem keeps_execLaneIdleExit (h : Keeps r s) (src) {t} (e : execLaneIdleExit src s = .next t) : Keeps r t := by
  grind [execLaneIdleExit, keeps_command, keeps_laneIdleExitBody]

theorem keeps_laneDown (h : Keeps r s) (i) : Keeps r (s.laneDown i) := by
  grind [State.laneDown, keeps_modLane, keeps_adapt, keeps_faultSashNow, keeps_postLane]

theorem keeps_execFarEndIdle (h : Keeps r s) (lane) {t} (e : execFarEndIdle lane s = .next t) : Keeps r t := by
  grind [execFarEndIdle, keeps_modLane, keeps_adapt]

theorem keeps_execIdleExitBurstDone (h : Keeps r s) (lane headersValid)
    {t} (e : execIdleExitBurstDone lane headersValid s = .next t) : Keeps r t := by
  grind [execIdleExitBurstDone, keeps_modLane, keeps_laneDown]

theorem keeps_execLinkIdleEntry (h : Keeps r s) (lane) {t} (e : execLinkIdleEntry lane s = .next t) : Keeps r t := by
  grind [execLinkIdleEntry, keeps_modLane]

theorem keeps_execLinkIdleExit (h : Keeps r s) (lane) {t} (e : execLinkIdleExit lane s = .next t) : Keeps r t := by
  grind [execLinkIdleExit, keeps_modLane]

theorem keeps_execBlockLockAcquired (h : Keeps r s) (lane)
    {t} (e : execBlockLockAcquired lane s = .next t) : Keeps r t := by
  grind [execBlockLockAcquired, keeps_modLane]

theorem keeps_execBlockLockLoss (h : Keeps r s) (lane) {t} (e : execBlockLockLoss lane s = .next t) : Keeps r t := by
  grind [execBlockLockLoss, keeps_laneDown, keeps_modLane]

theorem keeps_execCdrLockAcquired (h : Keeps r s) (lane)
    {t} (e : execCdrLockAcquired lane s = .next t) : Keeps r t := by
  grind [execCdrLockAcquired, keeps_modLane]

theorem keeps_execCdrLockLoss (h : Keeps r s) (lane) {t} (e : execCdrLockLoss lane s = .next t) : Keeps r t := by
  grind [execCdrLockLoss, keeps_modLane, keeps_adapt]

theorem keeps_execQuadPllLock (h : Keeps r s) (quad) {t} (e : execQuadPllLock quad s = .next t) : Keeps r t := by
  grind [execQuadPllLock, keeps_setQuad]

theorem keeps_execEyeSweepDone (h : Keeps r s) (lane eyeH eyeV)
    {t} (e : execEyeSweepDone lane eyeH eyeV s = .next t) : Keeps r t := by
  grind [execEyeSweepDone, keeps_modLane, keeps_postLane]

theorem keeps_bitslipBody (h : Keeps r s) (q) : Keeps r (bitslipBody s q).s := by
  grind [bitslipBody, keeps_refuse, keeps_done, keeps_modLane]

theorem keeps_execBitslip (h : Keeps r s) (src) {t} (e : execBitslip src s = .next t) : Keeps r t := by
  grind [execBitslip, keeps_command, keeps_bitslipBody]

theorem keeps_phyStatusBody (h : Keeps r s) (q) : Keeps r (phyStatusBody s q).s := by
  grind [phyStatusBody, keeps_refuse, keeps_adapt, keeps_done, keeps_modLane]

theorem keeps_execPhyStatus (h : Keeps r s) (src) {t} (e : execPhyStatus src s = .next t) : Keeps r t := by
  grind [execPhyStatus, keeps_command, keeps_phyStatusBody]

end Sys2Proof.Machine
end

section
set_option Elab.async false
/-! What every step keeps: chain frames received and relayed commands. -/

namespace Sys2Proof.Machine

variable {r s : State}

theorem keeps_breakReport (h : Keeps r s) (ua port phys broken) : Keeps r (s.breakReport ua port phys broken) := by
  grind [State.breakReport, keeps_mk, keeps_mkMem, keeps_postChain, keeps_post]

theorem keeps_tellHead (h : Keeps r s) (port broken) : Keeps r (s.tellHead port broken) := by
  grind [State.tellHead, keeps_breakReport, keeps_send]

theorem keeps_portBreak (h : Keeps r s) (port) : Keeps r (s.portBreak port) := by
  grind [State.portBreak, keeps_tellHead, keeps_mk, keeps_mkMem]

theorem keeps_afterCrc (h : Keeps r s) (f) : Keeps r (s.afterCrc f) := by
  grind [State.afterCrc, keeps_mk, keeps_mkMem, keeps_portBreak]

theorem keeps_gathered (h : Keeps r s) (id) : Keeps r (s.gathered id) := by
  have hg := keeps_endGather h id
  unfold State.gathered
  obtain ⟨k, hk⟩ : ∃ k, 2 ^ 32 = k := ⟨_, rfl⟩
  rw [hk]
  split
  · exact h
  · refine keeps_ite h ?_
    dsimp only
    split
    · exact hg
    split
    · exact keeps_reply hg ..
    · exact keeps_reply (keeps_foldl (fun s n h => keeps_cancelStartAt (keeps_ite (keeps_tellParts h ..) h) n) _ hg) ..

theorem keeps_gatherAnswer (h : Keeps r s) (id part st pay) : Keeps r (s.gatherAnswer id part st pay) := by
  grind [State.gatherAnswer, keeps_gathered, keeps_mk, keeps_mkMem]

theorem keeps_answer (h : Keeps r s) (r' resp) : Keeps r (s.answer r' resp) := by
  grind [State.answer, keeps_channelDone, keeps_reply, keeps_gatherAnswer]

theorem keeps_failRelay (h : Keeps r s) (r' st) : Keeps r (s.failRelay r' st) := by
  grind [State.failRelay, keeps_answer]

theorem keeps_dropRelay (h : Keeps r s) (r') : Keeps r (s.dropRelay r') := by
  grind [State.dropRelay, keeps_mk, keeps_mkMem]

theorem keeps_setRelay (h : Keeps r s) (r' r'') : Keeps r (s.setRelay r' r'') := by
  grind [State.setRelay, keeps_mk, keeps_mkMem]

theorem keeps_reached (h : Keeps r s) : Keeps r (s.reached).2 := by
  grind [State.reached, keeps_drawFree]

theorem keeps_bcastReturned (h : Keeps r s) (seq) : Keeps r (s.bcastReturned seq) := by
  grind [State.bcastReturned, keeps_reached, keeps_mk, keeps_mkMem, keeps_finish]

theorem keeps_bcastRefused (h : Keeps r s) (seq resp) : Keeps r (s.bcastRefused seq resp) := by
  grind [State.bcastRefused, keeps_modTicket]

theorem keeps_returned (h : Keeps r s) (f) : Keeps r (s.returned f) := by
  grind [State.returned, keeps_bcastReturned, keeps_mk, keeps_mkMem, keeps_postChain, keeps_dropRelay, keeps_failRelay]

theorem keeps_chainRx {act : State → State} (ha : ∀ s, Keeps r s → Keeps r (act s)) (h : Keeps r s) (f typ) :
    Keeps r (s.chainRx f typ act) := by
  grind [State.chainRx, keeps_mk, keeps_afterCrc, keeps_returned]

theorem keeps_armPart (h : Keeps r s) (n k) : Keeps r (s.armPart n k).2 := by
  grind [State.armPart, keeps_armCheck, keeps_armNow]

theorem keeps_ownRequest (h : Keeps r s) (src) : Keeps r (s.ownRequest src) := by
  have ha := fun n f k => keeps_armPart (keeps_modSite h n f) n k
  unfold State.ownRequest
  split
  · exact h
  split
  · exact h
  dsimp only
  split
  · exact keeps_reply (keeps_mk h) ..
  split
  · exact keeps_reply (keeps_mk h) ..
  split
  · exact keeps_reply h ..
  split
  · split
    · exact keeps_reply (keeps_wakeLanes h _) ..
    · exact keeps_reply h ..
  · exact keeps_reply (keeps_applyTransom h ..) ..
  · exact keeps_reply (keeps_modSite h ..) ..
  · split
    · exact keeps_reply h ..
    split <;> rename_i hd <;> have ha := congrArg Prod.snd hd ▸ ha _ _ _
    · exact keeps_reply ha ..
    · exact ha
  · exact keeps_reply (by grind [keeps_disarmSite, keeps_restLanes]) ..
  · exact keeps_reply h ..

theorem keeps_slotReady (h : Keeps r s) (n r') : Keeps r (s.slotReady n r') := by
  grind [State.slotReady, keeps_message, keeps_mk, keeps_mkMem, keeps_ownRequest, keeps_screen]

theorem keeps_takeCommand (h : Keeps r s) (f) : Keeps r (s.takeCommand f).2 := by
  grind [State.takeCommand, keeps_slotReady, keeps_mk, keeps_mkMem]

theorem keeps_takeReport (h : Keeps r s) (f) : Keeps r (s.takeReport f) := by
  grind [State.takeReport, keeps_postEvent, keeps_postChain, keeps_bcastRefused]

theorem keeps_takeResponse (h : Keeps r s) (f) : Keeps r (s.takeResponse f).2 := by
  grind [State.takeResponse, keeps_takeReport, keeps_answer, keeps_dropRelay, keeps_setRelay, keeps_mk, keeps_mkMem]

theorem keeps_ackMbx (h : Keeps r s) (f) : Keeps r (s.ackMbx f) := by
  grind [State.ackMbx, keeps_send]

theorem keeps_execMbxFrame (h : Keeps r s) (f) {t} (e : execMbxFrame f s = .next t) : Keeps r t := by
  grind [execMbxFrame, keeps_chainRx, keeps_takeResponse, keeps_takeCommand, keeps_ackMbx]

theorem keeps_execMbxAckFrame (h : Keeps r s) (f) {t} (e : execMbxAckFrame f s = .next t) : Keeps r t := by
  grind [execMbxAckFrame, keeps_chainRx, keeps_dropRelay, keeps_setRelay]

theorem keeps_execMbxRetransmit (h : Keeps r s) (i) {t} (e : execMbxRetransmit i s = .next t) : Keeps r t := by
  grind [execMbxRetransmit, keeps_failRelay, keeps_dropRelay, keeps_setRelay, keeps_mk, keeps_mkMem, keeps_foldl,
    keeps_sendFragment]

end Sys2Proof.Machine
end

section
set_option Elab.async false
/-! What every step keeps: enumeration, breaks, events and gateways. -/

namespace Sys2Proof.Machine

variable {r s : State}

theorem keeps_enumStart (h : Keeps r s) (tk seg keep) : Keeps r (s.enumStart tk seg keep) := by
  grind [State.enumStart, keeps_mk, keeps_mkMem, keeps_send]

theorem keeps_enumSlice (h : Keeps r s) (tk t' cmd) : Keeps r (s.enumSlice tk t' cmd) := by
  grind [State.enumSlice, keeps_enumStart, keeps_modTicket]

theorem keeps_enumFail (h : Keeps r s) (st) : Keeps r (s.enumFail st) := by
  grind [State.enumFail, keeps_finish, keeps_mk, keeps_mkMem]

theorem keeps_headTakesRole (h : Keeps r s) : Keeps r (s.headTakesRole) := by
  grind [State.headTakesRole, keeps_postPolicy, keeps_mk, keeps_mkMem]

theorem keeps_enumDone (h : Keeps r s) (f tk) : Keeps r (s.enumDone f tk) := by
  grind [State.enumDone, keeps_finish, keeps_headTakesRole, keeps_mk, keeps_mkMem]

theorem keeps_reportNoAddress (h : Keeps r s) (head st q) : Keeps r (s.reportNoAddress head st q) := by
  grind [State.reportNoAddress, keeps_nextSeq, keeps_sendMbx]

theorem keeps_enumTake (h : Keeps r s) (f) : Keeps r (s.enumTake f) := by
  grind [State.enumTake, keeps_mk, keeps_mkMem, keeps_reportNoAddress]

theorem keeps_enumTwoHeads (h : Keeps r s) (f) : Keeps r (s.enumTwoHeads f) := by
  grind [State.enumTwoHeads, keeps_enumFail, keeps_mk, keeps_mkMem, keeps_postChain]

theorem keeps_execEnumFrame (h : Keeps r s) (f) {t} (e : execEnumFrame f s = .next t) : Keeps r t := by
  grind [execEnumFrame, keeps_afterCrc, keeps_mk, keeps_mkMem, keeps_enumDone, keeps_enumTwoHeads, keeps_enumTake]

theorem keeps_execEnumTimeout (h : Keeps r s) {t} (e : execEnumTimeout s = .next t) : Keeps r t := by
  grind [execEnumTimeout, keeps_enumFail]

theorem keeps_rxEvent {act : State → State} (ha : ∀ s, Keeps r s → Keeps r (act s)) (h : Keeps r s) (f kind) :
    Keeps r (s.rxEvent f kind act) := by
  grind [State.rxEvent, keeps_chainRx]

theorem keeps_execChainStart (h : Keeps r s) (f) {t} (e : execChainStart f s = .next t) : Keeps r t := by
  grind [execChainStart, keeps_rxEvent, keeps_foldl, keeps_startSite]

theorem keeps_execChainStop (h : Keeps r s) (f) {t} (e : execChainStop f s = .next t) : Keeps r t := by
  grind [execChainStop, keeps_rxEvent, keeps_foldl, keeps_tellParts, keeps_stopSites]

theorem keeps_mapFlags (h : Keeps r s) (id) : Keeps r (s.mapFlags id) := by
  grind [State.mapFlags, keeps_foldl, keeps_settleCas, keeps_setFlags]

theorem keeps_execChainTrigger (h : Keeps r s) (f) {t} (e : execChainTrigger f s = .next t) : Keeps r t := by
  grind [execChainTrigger, keeps_rxEvent, keeps_mapFlags, keeps_foldl, keeps_fireExternal]

theorem keeps_execSiteRollback (h : Keeps r s) (f) {t} (e : execSiteRollback f s = .next t) : Keeps r t := by
  grind [execSiteRollback, keeps_rxEvent, keeps_actOnDiv]

theorem keeps_rxToken (h : Keeps r s) (f good) : Keeps r (s.rxToken f good) := by
  grind [State.rxToken, keeps_hingeToken]

theorem keeps_execLinkHinge (h : Keeps r s) (f) {t} (e : execLinkHinge f s = .next t) : Keeps r t := by
  grind [execLinkHinge, keeps_afterCrc, keeps_rxToken, keeps_mk, keeps_mkMem, keeps_chainRx]

theorem keeps_execBreakFrame (h : Keeps r s) (f) {t} (e : execBreakFrame f s = .next t) : Keeps r t := by
  grind [execBreakFrame, keeps_chainRx, keeps_breakReport]

theorem keeps_execPortBreak (h : Keeps r s) (port) {t} (e : execPortBreak port s = .next t) : Keeps r t := by
  grind [execPortBreak, keeps_portBreak]

theorem keeps_execBreakIdleEnd (h : Keeps r s) (port) {t} (e : execBreakIdleEnd port s = .next t) : Keeps r t := by
  grind [execBreakIdleEnd, keeps_mk, keeps_mkMem]

theorem keeps_execPortHeal (h : Keeps r s) (port) {t} (e : execPortHeal port s = .next t) : Keeps r t := by
  grind [execPortHeal, keeps_mk, keeps_mkMem, keeps_tellHead]

theorem keeps_datagram (h : Keeps r s) (peer f) : Keeps r (s.datagram peer f) := by
  grind [State.datagram, keeps_mk, keeps_mkMem]

theorem keeps_conflict (h : Keeps r s) (peer) : Keeps r (s.conflict peer) := by
  grind [State.conflict, keeps_postChain, keeps_mk, keeps_mkMem]

theorem keeps_peerUp (h : Keeps r s) (peer) : Keeps r (s.peerUp peer) := by
  grind [State.peerUp, keeps_mk, keeps_mkMem]

theorem keeps_execGatewayDatagram (h : Keeps r s) (peer f)
    {t} (e : execGatewayDatagram peer f s = .next t) : Keeps r t := by
  grind [execGatewayDatagram, keeps_peerUp, keeps_datagram, keeps_conflict, keeps_mk, keeps_mkMem]

theorem keeps_execGatewayCheck (h : Keeps r s) (peer) {t} (e : execGatewayCheck peer s = .next t) : Keeps r t := by
  grind [execGatewayCheck, keeps_datagram]

theorem keeps_execGatewayPeerTimeout (h : Keeps r s) (peer)
    {t} (e : execGatewayPeerTimeout peer s = .next t) : Keeps r t := by
  grind [execGatewayPeerTimeout, keeps_postChain, keeps_mk, keeps_mkMem]

theorem keeps_execArpRequest (h : Keeps r s) (ip) {t} (e : execArpRequest ip s = .next t) : Keeps r t := by
  grind [execArpRequest, keeps_mk, keeps_mkMem]

theorem keeps_enumerateBody (h : Keeps r s) (q) : Keeps r (enumerateBody s q).s := by
  grind [enumerateBody, keeps_refuse, keeps_accept]

theorem keeps_execEnumerate (h : Keeps r s) (src) {t} (e : execEnumerate src s = .next t) : Keeps r t := by
  grind [execEnumerate, keeps_command, keeps_enumerateBody]

theorem keeps_stickySetBody (h : Keeps r s) (fuel) : Keeps r (stickySetBody s fuel).s := by
  grind [stickySetBody, keeps_done, keeps_mk, keeps_mkMem]

theorem keeps_execStickySet (h : Keeps r s) (src) {t} (e : execStickySet src s = .next t) : Keeps r t := by
  grind [execStickySet, keeps_command, keeps_stickySetBody]

theorem keeps_stickyClearBody (h : Keeps r s) (fuel) : Keeps r (stickyClearBody s fuel).s := by
  grind [stickyClearBody, keeps_done, keeps_mk, keeps_mkMem]

theorem keeps_execStickyClear (h : Keeps r s) (src) {t} (e : execStickyClear src s = .next t) : Keeps r t := by
  grind [execStickyClear, keeps_command, keeps_stickyClearBody]

theorem keeps_tellSegment (h : Keeps r s) (form) : Keeps r (s.tellSegment form) := by
  grind [State.tellSegment, keeps_nextSeq, keeps_mk, keeps_mkMem]

theorem keeps_gatewayOwnAddressBody (h : Keeps r s) (q) : Keeps r (gatewayOwnAddressBody s q).s := by
  grind [gatewayOwnAddressBody, keeps_refuse, keeps_done, keeps_tellSegment, keeps_mk, keeps_mkMem]

theorem keeps_execGatewayOwnAddress (h : Keeps r s) (src)
    {t} (e : execGatewayOwnAddress src s = .next t) : Keeps r t := by
  grind [execGatewayOwnAddress, keeps_command, keeps_gatewayOwnAddressBody]

theorem keeps_gatewayAddPeersBody (h : Keeps r s) (q) : Keeps r (gatewayAddPeersBody s q).s := by
  grind [gatewayAddPeersBody, keeps_foldl, keeps_refuse, keeps_mk, keeps_mkMem, keeps_done, keeps_conflict]

theorem keeps_execGatewayAddPeers (h : Keeps r s) (src) {t} (e : execGatewayAddPeers src s = .next t) : Keeps r t := by
  grind [execGatewayAddPeers, keeps_command, keeps_gatewayAddPeersBody]

theorem keeps_gatewayClearBody (h : Keeps r s) (fuel) : Keeps r (gatewayClearBody s fuel).s := by
  grind [gatewayClearBody, keeps_tellSegment, keeps_done, keeps_mk, keeps_mkMem]

theorem keeps_execGatewayClear (h : Keeps r s) (src) {t} (e : execGatewayClear src s = .next t) : Keeps r t := by
  grind [execGatewayClear, keeps_command, keeps_gatewayClearBody]

theorem keeps_enumMapBody (h : Keeps r s) (fuel) : Keeps r (enumMapBody s fuel).s := by
  grind [enumMapBody, keeps_done, keeps_refuse]

theorem keeps_execEnumMap (h : Keeps r s) (src) {t} (e : execEnumMap src s = .next t) : Keeps r t := by
  grind [execEnumMap, keeps_command, keeps_enumMapBody]

end Sys2Proof.Machine
end

section
set_option Elab.async false
/-! What every step keeps: device time. -/

namespace Sys2Proof.Machine

variable {r s : State}

theorem keeps_setServo (h : Keeps r s) (v) : Keeps r (s.setServo v) := by
  grind [State.setServo, keeps_postChain, keeps_mk, keeps_mkMem, keeps_postPolicy]

theorem keeps_steer (h : Keeps r s) (off) : Keeps r (s.steer off) := by
  grind [State.steer, keeps_drawFree, keeps_mk, keeps_mkMem]

theorem keeps_stepTime (h : Keeps r s) (off) : Keeps r (s.stepTime off) := by
  grind [State.stepTime, keeps_mk, keeps_mkMem]

theorem keeps_followMaster (h : Keeps r s) (m) : Keeps r (s.followMaster m) := by
  grind [State.followMaster, keeps_mk, keeps_mkMem]

theorem keeps_measured (h : Keeps r s) (off m) : Keeps r (s.measured off m) := by
  grind [State.measured, keeps_mk, keeps_mkMem, keeps_setServo, keeps_stepTime, keeps_followMaster, keeps_steer,
    keeps_postChain]

theorem keeps_hearMaster (h : Keeps r s) (m) : Keeps r (s.hearMaster m) := by
  grind [State.hearMaster, keeps_mk, keeps_mkMem, keeps_postChain]

theorem keeps_follow (h : Keeps r s) (f ing hop) : Keeps r (s.follow f ing hop) := by
  grind [State.follow, keeps_hearMaster, keeps_measured, keeps_setServo]

theorem keeps_ingressHop (h : Keeps r s) (f) : Keeps r (s.ingressHop f).2 := by
  grind [State.ingressHop, keeps_drawFree]

theorem keeps_execTimeFrame (h : Keeps r s) (f rx) {t} (e : execTimeFrame f rx s = .next t) : Keeps r t := by
  grind [execTimeFrame, keeps_afterCrc, keeps_mk, keeps_mkMem, keeps_ingressHop, keeps_drawFree, keeps_follow]

theorem keeps_execTimeSyncSend (h : Keeps r s) {t} (e : execTimeSyncSend s = .next t) : Keeps r t := by
  grind [execTimeSyncSend, keeps_send, keeps_mk, keeps_mkMem]

theorem keeps_execSyncLossTimeout (h : Keeps r s) {t} (e : execSyncLossTimeout s = .next t) : Keeps r t := by
  grind [execSyncLossTimeout, keeps_mk, keeps_mkMem, keeps_setServo]

theorem keeps_execHopdlyRequest (h : Keeps r s) (f rx) {t} (e : execHopdlyRequest f rx s = .next t) : Keeps r t := by
  grind [execHopdlyRequest, keeps_afterCrc, keeps_mk, keeps_mkMem]

theorem keeps_execHopdlyResponse (h : Keeps r s) (f rx) {t} (e : execHopdlyResponse f rx s = .next t) : Keeps r t := by
  cases e
  dsimp only
  split
  · exact h
  split
  · exact keeps_afterCrc (keeps_mk h) _
  split
  · exact h
  split <;> exact h

theorem keeps_execHopdlyMeasure (h : Keeps r s) (p) {t} (e : execHopdlyMeasure p s = .next t) : Keeps r t := by
  cases e
  dsimp only
  split
  · exact h
  · split <;> exact h

theorem keeps_execPtpAnnounce (h : Keeps r s) (a) {t} (e : execPtpAnnounce a s = .next t) : Keeps r t := by
  cases e
  dsimp only
  repeat' split
  all_goals exact h

theorem keeps_execPtpSync (h : Keeps r s) (masterTime rx)
    {t} (e : execPtpSync masterTime rx s = .next t) : Keeps r t := by
  grind [execPtpSync, keeps_measured, keeps_mk, keeps_mkMem]

theorem keeps_execPtpDelayResp (h : Keeps r s) (t4) {t} (e : execPtpDelayResp t4 s = .next t) : Keeps r t := by
  grind [execPtpDelayResp, keeps_mk, keeps_mkMem]

theorem keeps_startAtFire (h : Keeps r s) (n) : Keeps r (s.startAtFire n) := by
  grind [State.startAtFire, keeps_startSite]

theorem keeps_execStartAtFire (h : Keeps r s) (site) {t} (e : execStartAtFire site s = .next t) : Keeps r t := by
  grind [execStartAtFire, keeps_startAtFire]

theorem keeps_timedOccurrence (h : Keeps r s) (k) : Keeps r (s.timedOccurrence k) := by
  grind [State.timedOccurrence, keeps_post, keeps_setTev]

theorem keeps_execTimedOccurrence (h : Keeps r s) (tev) {t} (e : execTimedOccurrence tev s = .next t) : Keeps r t := by
  grind [execTimedOccurrence, keeps_timedOccurrence]

theorem keeps_timedPulseEnd (h : Keeps r s) (k) : Keeps r (s.timedPulseEnd k) := by
  grind [State.timedPulseEnd, keeps_setTev]

theorem keeps_triggerPulses (h : Keeps r s) : Keeps r (s.triggerPulses) := by
  grind [State.triggerPulses, keeps_mk, keeps_mkMem]

theorem keeps_stepClock (h : Keeps r s) : Keeps r (s.stepClock) := by
  grind [State.stepClock, keeps_foldl, keeps_startAtFire, keeps_timedPulseEnd, keeps_tick, keeps_triggerPulses,
    keeps_timedOccurrence]

theorem keeps_execTimedPulseEnd (h : Keeps r s) (tev) {t} (e : execTimedPulseEnd tev s = .next t) : Keeps r t := by
  grind [execTimedPulseEnd, keeps_timedPulseEnd]

theorem keeps_timedBody (h : Keeps r s) (q) : Keeps r (timedBody s q).s := by
  grind [timedBody, keeps_refuse, keeps_setTev, keeps_done, keeps_mk, keeps_mkMem]

theorem keeps_execTimed (h : Keeps r s) (src) {t} (e : execTimed src s = .next t) : Keeps r t := by
  grind [execTimed, keeps_command, keeps_timedBody]

theorem keeps_timedClearBody (h : Keeps r s) (q) : Keeps r (timedClearBody s q).s := by
  grind [timedClearBody, keeps_refuse, keeps_done, keeps_setTev]

theorem keeps_execTimedClear (h : Keeps r s) (src) {t} (e : execTimedClear src s = .next t) : Keeps r t := by
  grind [execTimedClear, keeps_command, keeps_timedClearBody]

theorem keeps_tctlBody (h : Keeps r s) (q) : Keeps r (tctlBody s q).s := by
  grind [tctlBody, keeps_refuse, keeps_mk, keeps_mkMem, keeps_done, keeps_setServo]

theorem keeps_execTctl (h : Keeps r s) (src) {t} (e : execTctl src s = .next t) : Keeps r t := by
  grind [execTctl, keeps_command, keeps_tctlBody]

theorem keeps_timeSetBody (h : Keeps r s) (q) : Keeps r (timeSetBody s q).s := by
  grind [timeSetBody, keeps_refuse, keeps_done, keeps_setServo, keeps_mk, keeps_mkMem]

theorem keeps_execTimeSet (h : Keeps r s) (src) {t} (e : execTimeSet src s = .next t) : Keeps r t := by
  grind [execTimeSet, keeps_command, keeps_timeSetBody]

theorem keeps_timeUnlockBody (h : Keeps r s) (fuel) : Keeps r (timeUnlockBody s fuel).s := by
  grind [timeUnlockBody, keeps_refuse, keeps_done, keeps_setServo, keeps_mk, keeps_mkMem]

theorem keeps_execTimeUnlock (h : Keeps r s) (src) {t} (e : execTimeUnlock src s = .next t) : Keeps r t := by
  grind [execTimeUnlock, keeps_command, keeps_timeUnlockBody]

theorem keeps_rateBody (h : Keeps r s) (q) : Keeps r (rateBody s q).s := by
  grind [rateBody, keeps_done, keeps_mk, keeps_mkMem, keeps_refuse]

theorem keeps_execRate (h : Keeps r s) (src) {t} (e : execRate src s = .next t) : Keeps r t := by
  grind [execRate, keeps_command, keeps_rateBody]

theorem keeps_ptpBody (h : Keeps r s) (q) : Keeps r (ptpBody s q).s := by
  grind [ptpBody, keeps_refuse, keeps_done, keeps_mk, keeps_mkMem]

theorem keeps_execPtp (h : Keeps r s) (src) {t} (e : execPtp src s = .next t) : Keeps r t := by
  grind [execPtp, keeps_command, keeps_ptpBody]

theorem keeps_clearChainCounts (h : Keeps r s) : Keeps r (s.clearChainCounts) := by
  grind [State.clearChainCounts, keeps_mk, keeps_mkMem]

theorem keeps_chainStatusBody (h : Keeps r s) (q) : Keeps r (chainStatusBody s q).s := by
  grind [chainStatusBody, keeps_refuse, keeps_done, keeps_clearChainCounts]

theorem keeps_execChainStatus (h : Keeps r s) (src) {t} (e : execChainStatus src s = .next t) : Keeps r t := by
  grind [execChainStatus, keeps_command, keeps_chainStatusBody]

end Sys2Proof.Machine
end

section
set_option Elab.async false
/-! What every step keeps: power domains. -/

namespace Sys2Proof.Machine

variable {r s : State}

theorem keeps_lowerDomain (h : Keeps r s) (d t') : Keeps r (s.lowerDomain d t') := by
  grind [State.lowerDomain, keeps_modSash, keeps_setDdr, keeps_dropChannel, keeps_setQuad]

theorem keeps_sweepBank (h : Keeps r s) (m) : Keeps r (s.sweepBank m).2 := by
  grind [State.sweepBank, keeps_foldl, keeps_scrubWord, keeps_postMemory, keeps_clearMemory]

theorem keeps_sweepBanks (h : Keeps r s) (l) : Keeps r (s.sweepBanks l).2 :=
  keeps_foldl_snd (fun _ _ m h => keeps_sweepBank h m) l h

theorem keeps_sweepSash (h : Keeps r s) (n) : Keeps r (s.sweepSash n) := by
  grind [State.sweepSash, keeps_sweepBank, keeps_setSash, keeps_faultSashNow]

theorem keeps_sweepCas (h : Keeps r s) (k) : Keeps r (s.sweepCas k) := by
  grind [State.sweepCas, keeps_sweepBanks, keeps_foldl, keeps_endTask, keeps_settleCas, keeps_modCasm]

theorem keeps_raiseDomain (h : Keeps r s) (d x) : Keeps r (s.raiseDomain d x) := by
  unfold State.raiseDomain
  repeat' split
  · exact keeps_settleQuads (keeps_modLane (keeps_setTrig (keeps_setSash (keeps_clearMemory h _) ..) ..) ..)
  · exact keeps_sweepSash h _
  · exact h
  · exact keeps_setCasm (keeps_foldl (fun s m h => keeps_clearMemory h m) _ h) ..
  · exact keeps_sweepCas h _
  · exact h
  · exact h

theorem keeps_setVreq (h : Keeps r s) (b v) : Keeps r (s.setVreq b v) := by
  grind [State.setVreq, keeps_mk, keeps_mkMem]

theorem keeps_entryDone (h : Keeps r s) (d) : Keeps r (s.entryDone d) := by
  grind [State.entryDone, keeps_modDom, keeps_lowerDomain, keeps_finish, keeps_postPolicy]

theorem keeps_execShutterClosing (h : Keeps r s) (dom) {t} (e : execShutterClosing dom s = .next t) : Keeps r t := by
  grind [execShutterClosing, keeps_setDom, keeps_refuseEntry]

theorem keeps_execShutterDrainDone (h : Keeps r s) (dom)
    {t} (e : execShutterDrainDone dom s = .next t) : Keeps r t := by
  grind [execShutterDrainDone, keeps_setDom, keeps_entryDone, keeps_setVreq]

theorem keeps_execShutterDrainTimeout (h : Keeps r s) (dom)
    {t} (e : execShutterDrainTimeout dom s = .next t) : Keeps r t := by
  grind [execShutterDrainTimeout, keeps_refuseEntry]

theorem keeps_execIdlePolicyTimeout (h : Keeps r s) (dom)
    {t} (e : execIdlePolicyTimeout dom s = .next t) : Keeps r t := by
  grind [execIdlePolicyTimeout, keeps_setDom]

theorem keeps_clearWaits (h : Keeps r s) (d) : Keeps r (s.clearWaits d) := by
  grind [State.clearWaits, keeps_mk, keeps_mkMem]

theorem keeps_retryOwn (h : Keeps r s) : Keeps r (s.retryOwn) := by
  grind [State.retryOwn, keeps_foldl, keeps_ownRequest]

theorem keeps_release (h : Keeps r s) (d) : Keeps r (s.release d) := by
  grind [State.release, keeps_modDom, keeps_raiseDomain, keeps_postPolicy, keeps_finish, keeps_retryOwn,
    keeps_clearWaits]

theorem keeps_execDomainWake (h : Keeps r s) (dom) {t} (e : execDomainWake dom s = .next t) : Keeps r t := by
  grind [execDomainWake, keeps_release, keeps_setVreq]

theorem keeps_execWakeTimeout (h : Keeps r s) (dom) {t} (e : execWakeTimeout dom s = .next t) : Keeps r t := by
  grind [execWakeTimeout, keeps_foldl, keeps_reply, keeps_setWorm]

theorem keeps_postVreq (h : Keeps r s) (v) : Keeps r (s.postVreq v) := by
  grind [State.postVreq, keeps_post]

theorem keeps_execVreqAck (h : Keeps r s) (bus) {t} (e : execVreqAck bus s = .next t) : Keeps r t := by
  grind [execVreqAck, keeps_setVreq, keeps_mk, keeps_mkMem, keeps_modDom, keeps_release, keeps_entryDone]

theorem keeps_execVreqTimeout (h : Keeps r s) (bus) {t} (e : execVreqTimeout bus s = .next t) : Keeps r t := by
  cases e
  dsimp only
  split
  · exact h
  split
  · exact keeps_setVreq h ..
  have hp := fun v x => keeps_setVreq (keeps_postVreq h v) bus x
  refine keeps_ite (hp ..) (keeps_ite ?_ ?_)
  · exact keeps_post (keeps_modDom (keeps_lowerDomain (hp ..) ..) ..) ..
  · have hm := fun v x d f => keeps_modDom (hp v x) d f
    split
    · exact keeps_finish (hm ..) ..
    · exact hm ..

theorem keeps_execPmbAlert (h : Keeps r s) {t} (e : execPmbAlert s = .next t) : Keeps r t := by
  grind [execPmbAlert, keeps_mk, keeps_mkMem]

theorem keeps_domainOn (h : Keeps r s) (d tk) : Keeps r (s.domainOn d tk) := by
  grind [State.domainOn, keeps_access, keeps_finish, keeps_modDom]

theorem keeps_domainLow (h : Keeps r s) (d t' tk) : Keeps r (s.domainLow d t' tk) := by
  grind [State.domainLow, keeps_finish, keeps_setDom]

theorem keeps_domainSetBody (h : Keeps r s) (q) : Keeps r (domainSetBody s q).s := by
  grind [domainSetBody, keeps_refuse, keeps_accept, keeps_domainOn, keeps_domainLow]

theorem keeps_execDomainSet (h : Keeps r s) (src) {t} (e : execDomainSet src s = .next t) : Keeps r t := by
  grind [execDomainSet, keeps_command, keeps_domainSetBody]

theorem keeps_domainUnlockBody (h : Keeps r s) (q) : Keeps r (domainUnlockBody s q).s := by
  grind [domainUnlockBody, keeps_refuse, keeps_done, keeps_modDom]

theorem keeps_execDomainUnlock (h : Keeps r s) (src) {t} (e : execDomainUnlock src s = .next t) : Keeps r t := by
  grind [execDomainUnlock, keeps_command, keeps_domainUnlockBody]

theorem keeps_domainLockOffBody (h : Keeps r s) (q) : Keeps r (domainLockOffBody s q).s := by
  grind [domainLockOffBody, keeps_refuse, keeps_done, keeps_modDom]

theorem keeps_execDomainLockOff (h : Keeps r s) (src) {t} (e : execDomainLockOff src s = .next t) : Keeps r t := by
  grind [execDomainLockOff, keeps_command, keeps_domainLockOffBody]

theorem keeps_domainHoldOnBody (h : Keeps r s) (q) : Keeps r (domainHoldOnBody s q).s := by
  grind [domainHoldOnBody, keeps_refuse, keeps_done, keeps_modDom]

theorem keeps_execDomainHoldOn (h : Keeps r s) (src) {t} (e : execDomainHoldOn src s = .next t) : Keeps r t := by
  grind [execDomainHoldOn, keeps_command, keeps_domainHoldOnBody]

theorem keeps_domainHoldReleaseBody (h : Keeps r s) (q) : Keeps r (domainHoldReleaseBody s q).s := by
  grind [domainHoldReleaseBody, keeps_refuse, keeps_done, keeps_modDom]

theorem keeps_execDomainHoldRelease (h : Keeps r s) (src)
    {t} (e : execDomainHoldRelease src s = .next t) : Keeps r t := by
  grind [execDomainHoldRelease, keeps_command, keeps_domainHoldReleaseBody]

theorem keeps_powerPolicyBody (h : Keeps r s) (q) : Keeps r (powerPolicyBody s q).s := by
  grind [powerPolicyBody, keeps_refuse, keeps_done, keeps_foldl, keeps_modDom]

theorem keeps_execPowerPolicy (h : Keeps r s) (src) {t} (e : execPowerPolicy src s = .next t) : Keeps r t := by
  grind [execPowerPolicy, keeps_command, keeps_powerPolicyBody]

theorem keeps_powerStatusBody (h : Keeps r s) (q) : Keeps r (powerStatusBody s q).s := by
  grind [powerStatusBody, keeps_refuse, keeps_done]

theorem keeps_execPowerStatus (h : Keeps r s) (src) {t} (e : execPowerStatus src s = .next t) : Keeps r t := by
  grind [execPowerStatus, keeps_command, keeps_powerStatusBody]

theorem keeps_thermalReadBody (h : Keeps r s) (fuel) : Keeps r (thermalReadBody s fuel).s := by
  grind [thermalReadBody, keeps_done]

theorem keeps_execThermalRead (h : Keeps r s) (src) {t} (e : execThermalRead src s = .next t) : Keeps r t := by
  grind [execThermalRead, keeps_command, keeps_thermalReadBody]

theorem keeps_thermalSetAlarmBody (h : Keeps r s) (q) : Keeps r (thermalSetAlarmBody s q).s := by
  grind [thermalSetAlarmBody, keeps_refuse, keeps_done, keeps_mk, keeps_mkMem]

theorem keeps_execThermalSetAlarm (h : Keeps r s) (src) {t} (e : execThermalSetAlarm src s = .next t) : Keeps r t := by
  grind [execThermalSetAlarm, keeps_command, keeps_thermalSetAlarmBody]

theorem keeps_thermalEntry (h : Keeps r s) (d t') : Keeps r (s.thermalEntry d t') := by
  grind [State.thermalEntry, keeps_setDom]

theorem keeps_critical (h : Keeps r s) : Keeps r (s.critical) := by
  grind [State.critical, keeps_foldl, keeps_faultNow, keeps_disarmSite, keeps_endAllJobs, keeps_settleCas,
    keeps_thermalEntry]

theorem keeps_execThermalSample (h : Keeps r s) (l) {t} (e : execThermalSample l s = .next t) : Keeps r t := by
  cases e
  dsimp only
  split
  · exact h
  split
  · exact h
  split
  · exact keeps_critical (keeps_post (keeps_mk h) ..)
  · exact keeps_post (keeps_mk h) ..

theorem keeps_execThermTrip (h : Keeps r s) {t} (e : execThermTrip s = .next t) : Keeps r t := by
  grind [execThermTrip, keeps_mk, keeps_mkMem]

end Sys2Proof.Machine
end

section
set_option Elab.async false
/-! What every step keeps: the debug commands. -/

namespace Sys2Proof.Machine

variable {r s : State}

theorem keeps_sashStatusBody (h : Keeps r s) (q) : Keeps r (sashStatusBody s q).s := by
  grind [sashStatusBody, keeps_refuse, keeps_done, keeps_modSash]

theorem keeps_execSashStatus (h : Keeps r s) (src) {t} (e : execSashStatus src s = .next t) : Keeps r t := by
  grind [execSashStatus, keeps_command, keeps_sashStatusBody]

theorem keeps_wcellStatusBody (h : Keeps r s) (q) : Keeps r (wcellStatusBody s q).s := by
  grind [wcellStatusBody, keeps_refuse, keeps_done]

theorem keeps_execWcellStatus (h : Keeps r s) (src) {t} (e : execWcellStatus src s = .next t) : Keeps r t := by
  grind [execWcellStatus, keeps_command, keeps_wcellStatusBody]

theorem keeps_keyholeSelBody (h : Keeps r s) (q) : Keeps r (keyholeSelBody s q).s := by
  grind [keyholeSelBody, keeps_refuse, keeps_done, keeps_mk, keeps_mkMem]

theorem keeps_execKeyholeSel (h : Keeps r s) (src) {t} (e : execKeyholeSel src s = .next t) : Keeps r t := by
  grind [execKeyholeSel, keeps_command, keeps_keyholeSelBody]

theorem keeps_keyholeLaneTakeBody (h : Keeps r s) (q) : Keeps r (keyholeLaneTakeBody s q).s := by
  grind [keyholeLaneTakeBody, keeps_refuse, keeps_modLane, keeps_setQuadRates, keeps_modDom, keeps_done, keeps_mk,
    keeps_mkMem]

theorem keeps_execKeyholeLaneTake (h : Keeps r s) (src) {t} (e : execKeyholeLaneTake src s = .next t) : Keeps r t := by
  grind [execKeyholeLaneTake, keeps_command, keeps_keyholeLaneTakeBody]

theorem keeps_releaseKeyhole (h : Keeps r s) : Keeps r (s.releaseKeyhole) := by
  grind [State.releaseKeyhole, keeps_settleQuads, keeps_modLane, keeps_modDom, keeps_mk, keeps_mkMem]

theorem keeps_keyholeLaneReleaseBody (h : Keeps r s) (q) : Keeps r (keyholeLaneReleaseBody s q).s := by
  grind [keyholeLaneReleaseBody, keeps_refuse, keeps_done, keeps_releaseKeyhole]

theorem keeps_execKeyholeLaneRelease (h : Keeps r s) (src)
    {t} (e : execKeyholeLaneRelease src s = .next t) : Keeps r t := by
  grind [execKeyholeLaneRelease, keeps_command, keeps_keyholeLaneReleaseBody]

theorem keeps_execKeyholeFrame (h : Keeps r s) {t} (e : execKeyholeFrame s = .next t) : Keeps r t := by
  grind [execKeyholeFrame, keeps_foldr, keeps_modLane, keeps_mk, keeps_mkMem]

theorem keeps_peekBody (h : Keeps r s) (q) : Keeps r (peekBody s q).s := by
  grind [peekBody, keeps_refuse, keeps_done]

theorem keeps_execPeek (h : Keeps r s) (src) {t} (e : execPeek src s = .next t) : Keeps r t := by
  grind [execPeek, keeps_command, keeps_peekBody]

end Sys2Proof.Machine
end

section
set_option Elab.async false
/-! What every step keeps: resets, boot, clocks and the TAP. -/

namespace Sys2Proof.Machine

variable {r s : State}

theorem keeps_powerOn (h : Keeps r s) : Keeps r s.powerOn := h.of_mem rfl fun _ => rfl

theorem keeps_sysReset (h : Keeps r s) (low) : Keeps r (s.sysReset low) := h.of_mem rfl fun _ => rfl

theorem keeps_startUp (h : Keeps r s) (bootSrc) : Keeps r (s.startUp bootSrc) := by
  grind [State.startUp, keeps_mk, keeps_mkMem]

theorem keeps_execPowerOnReset (h : Keeps r s) (bootSrc)
    {t} (e : execPowerOnReset bootSrc s = .next t) : Keeps r t := by
  grind [execPowerOnReset, keeps_startUp, keeps_powerOn]

theorem keeps_execSysRstN (h : Keeps r s) {t} (e : execSysRstN s = .next t) : Keeps r t := by
  grind [execSysRstN, keeps_sysReset]

theorem keeps_execSysRstNRelease (h : Keeps r s) (bootSrc)
    {t} (e : execSysRstNRelease bootSrc s = .next t) : Keeps r t := by
  grind [execSysRstNRelease, keeps_startUp]

theorem keeps_execVddUndervoltage (h : Keeps r s) {t} (e : execVddUndervoltage s = .next t) : Keeps r t := by
  grind [execVddUndervoltage, keeps_sysReset, keeps_startUp]

theorem keeps_hostReset (h : Keeps r s) : Keeps r (s.hostReset) := by
  grind [State.hostReset, keeps_foldl, keeps_mk, keeps_mkMem]

theorem keeps_execPerstN (h : Keeps r s) {t} (e : execPerstN s = .next t) : Keeps r t := by
  grind [execPerstN, keeps_hostReset, keeps_mk, keeps_mkMem]

theorem keeps_execPerstNRelease (h : Keeps r s) {t} (e : execPerstNRelease s = .next t) : Keeps r t := by
  grind [execPerstNRelease, keeps_mk, keeps_mkMem]

theorem keeps_execPcieConfigAccess (h : Keeps r s) (off wr)
    {t} (e : execPcieConfigAccess off wr s = .next t) : Keeps r t := by
  grind [execPcieConfigAccess, keeps_hostReset, keeps_mk, keeps_mkMem]

theorem keeps_readBoard (h : Keeps r s) : Keeps r (s.readBoard) := by
  grind [State.readBoard, keeps_foldl, keeps_mk, keeps_mkMem]

theorem keeps_requestVdd (h : Keeps r s) : Keeps r (s.requestVdd) := by
  grind [State.requestVdd, keeps_setVreq]

theorem keeps_handover (h : Keeps r s) (version) : Keeps r (s.handover version) := by
  grind [State.handover, keeps_mk, keeps_mkMem, keeps_finish, keeps_requestVdd, keeps_readBoard]

theorem keeps_bootRefused (h : Keeps r s) (c) : Keeps r (s.bootRefused c) := by
  unfold State.bootRefused
  dsimp only
  split
  · exact keeps_finish (keeps_mk h) ..
  · exact h

theorem keeps_execBootAuthDone (h : Keeps r s) (x) {t} (e : execBootAuthDone x s = .next t) : Keeps r t := by
  cases e
  split
  · exact h
  split
  · exact keeps_handover h _
  · exact keeps_bootRefused h _

theorem keeps_execAonPllLock (h : Keeps r s) {t} (e : execAonPllLock s = .next t) : Keeps r t := by
  grind [execAonPllLock, keeps_mk, keeps_mkMem]

theorem keeps_ready (h : Keeps r s) : Keeps r (s.ready) := by
  grind [State.ready, keeps_foldl, keeps_ringEnabled, keeps_mk, keeps_mkMem]

theorem keeps_execSystemPllLock (h : Keeps r s) {t} (e : execSystemPllLock s = .next t) : Keeps r t := by
  grind [execSystemPllLock, keeps_ready]

theorem keeps_clockFaults (h : Keeps r s) : Keeps r (s.clockFaults) := by
  grind [State.clockFaults, keeps_foldl, keeps_faultNow]

theorem keeps_loseLaneStep (h : Keeps r s) : Keeps r (s.loseLaneStep) := by
  grind [State.loseLaneStep, keeps_clockFaults, keeps_mk, keeps_mkMem, keeps_postPolicy, keeps_releaseKeyhole]

theorem keeps_loseRefLane (h : Keeps r s) : Keeps r (s.loseRefLane) := by
  grind [State.loseRefLane, keeps_loseLaneStep, keeps_mk, keeps_mkMem, keeps_foldl, keeps_setQuad, keeps_laneDown]

theorem keeps_loseSystem (h : Keeps r s) : Keeps r (s.loseSystem) := by
  grind [State.loseSystem, keeps_mk, keeps_mkMem, keeps_endAllJobs, keeps_clockFaults, keeps_foldl, keeps_settleCas]

theorem keeps_loseRefSys (h : Keeps r s) : Keeps r (s.loseRefSys) := by
  grind [State.loseRefSys, keeps_loseSystem, keeps_mk, keeps_mkMem, keeps_setServo]

theorem keeps_execPllLoss (h : Keeps r s) (p) {t} (e : execPllLoss p s = .next t) : Keeps r t := by
  cases e
  cases p <;> dsimp only <;> grind [keeps_loseLaneStep, keeps_loseRefLane, keeps_loseSystem, keeps_loseRefSys]

theorem keeps_restoreIslands (h : Keeps r s) : Keeps r (s.restoreIslands) := by
  grind [State.restoreIslands, keeps_mk, keeps_mkMem]

theorem keeps_execPllRestore (h : Keeps r s) (pll) {t} (e : execPllRestore pll s = .next t) : Keeps r t := by
  grind [execPllRestore, keeps_restoreIslands, keeps_mk, keeps_mkMem]

theorem keeps_execTapReset (h : Keeps r s) {t} (e : execTapReset s = .next t) : Keeps r t := by
  grind [execTapReset, keeps_mk, keeps_mkMem]

theorem keeps_scanBoundary (h : Keeps r s) (code tdi) : Keeps r (s.scanBoundary code tdi) := by
  grind [State.scanBoundary, keeps_mk, keeps_mkMem]

theorem keeps_modTap (h : Keeps r s) (f) : Keeps r (s.modTap f) := by
  grind [State.modTap, keeps_mk, keeps_mkMem]

theorem keeps_testScan (h : Keeps r s) (code tdi) : Keeps r (s.testScan code tdi) := by
  grind [State.testScan, keeps_scanBoundary, keeps_modTap]

theorem keeps_execJtagExtest (h : Keeps r s) (tdi) {t} (e : execJtagExtest tdi s = .next t) : Keeps r t := by
  grind [execJtagExtest, keeps_testScan]

theorem keeps_execJtagIdcode (h : Keeps r s) (tdi) {t} (e : execJtagIdcode tdi s = .next t) : Keeps r t := by
  grind [execJtagIdcode, keeps_modTap]

theorem keeps_execJtagSamplePreload (h : Keeps r s) (tdi)
    {t} (e : execJtagSamplePreload tdi s = .next t) : Keeps r t := by
  grind [execJtagSamplePreload, keeps_scanBoundary]

theorem keeps_execJtagClamp (h : Keeps r s) (tdi) {t} (e : execJtagClamp tdi s = .next t) : Keeps r t := by
  grind [execJtagClamp, keeps_modTap]

theorem keeps_execJtagHighz (h : Keeps r s) (tdi) {t} (e : execJtagHighz tdi s = .next t) : Keeps r t := by
  grind [execJtagHighz, keeps_modTap]

theorem keeps_execJtagExtestPulse (h : Keeps r s) (tdi) {t} (e : execJtagExtestPulse tdi s = .next t) : Keeps r t := by
  grind [execJtagExtestPulse, keeps_testScan]

theorem keeps_execJtagExtestTrain (h : Keeps r s) (tdi) {t} (e : execJtagExtestTrain tdi s = .next t) : Keeps r t := by
  grind [execJtagExtestTrain, keeps_testScan]

theorem keeps_execJtagBypass (h : Keeps r s) (tdi) {t} (e : execJtagBypass tdi s = .next t) : Keeps r t := by
  grind [execJtagBypass, keeps_modTap]

end Sys2Proof.Machine
end

section
set_option Elab.async false
/-! What every step keeps: slices and completions. -/

namespace Sys2Proof.Machine

variable {r s : State}

theorem keeps_bootSlice (h : Keeps r s) (tk t') : Keeps r (s.bootSlice tk t') := by
  grind [State.bootSlice, keeps_mk, keeps_mkMem, keeps_finish]

theorem keeps_bcastSlice (h : Keeps r s) (tk t') : Keeps r (s.bcastSlice tk t') := by
  grind [State.bcastSlice, keeps_finish, keeps_mk, keeps_mkMem]

theorem keeps_runSlice (h : Keeps r s) (tk t') : Keeps r (s.runSlice tk t') := by
  grind [State.runSlice, keeps_bootSlice, keeps_loadSlice, keeps_unloadSlice, keeps_transomSlice, keeps_armRun,
    keeps_calSlice, keeps_failClearSlice, keeps_failReadoutSlice, keeps_repairSlice, keeps_trigReadoutSlice,
    keeps_jobLoadSlice, keeps_trainSlice, keeps_sweepSlice, keeps_copySlice, keeps_enumSlice, keeps_bcastSlice]

theorem keeps_execLongCommandSlice (h : Keeps r s) (ticket)
    {t} (e : execLongCommandSlice ticket s = .next t) : Keeps r t := by
  grind [execLongCommandSlice, keeps_runSlice]

theorem keeps_execDmaHostCompletion (h : Keeps r s) (ticket ok)
    {t} (e : execDmaHostCompletion ticket ok s = .next t) : Keeps r t := by
  grind [execDmaHostCompletion, keeps_setTicket, keeps_copyLine]

end Sys2Proof.Machine
end

section
set_option Elab.async false
/-! What every step keeps: every command. -/

namespace Sys2Proof.Machine

variable {r s : State}

theorem keeps_exec (h : Keeps r s) (i) {t} (e : exec i s = .next t) : Keeps r t := by
  cases i with
  | identity src => exact keeps_execIdentity h src e
  | bootLoad src => exact keeps_execBootLoad h src e
  | ticket src => exact keeps_execTicket h src e
  | cancel src => exact keeps_execCancel h src e
  | descriptor src => exact keeps_execDescriptor h src e
  | inventory src => exact keeps_execInventory h src e
  | keyslotInstall src => exact keeps_execKeyslotInstall h src e
  | keyslotRevoke src => exact keeps_execKeyslotRevoke h src e
  | keyslotRead src => exact keeps_execKeyslotRead h src e
  | keyslotSignedOnly src => exact keeps_execKeyslotSignedOnly h src e
  | louvre src => exact keeps_execLouvre h src e
  | load src => exact keeps_execLoad h src e
  | unload src => exact keeps_execUnload h src e
  | rewind src => exact keeps_execRewind h src e
  | transom src => exact keeps_execTransom h src e
  | siteStatus src => exact keeps_execSiteStatus h src e
  | siteReset src => exact keeps_execSiteReset h src e
  | arm src => exact keeps_execArm h src e
  | disarm src => exact keeps_execDisarm h src e
  | start src => exact keeps_execStart h src e
  | startAt src => exact keeps_execStartAt h src e
  | stop src => exact keeps_execStop h src e
  | policy src => exact keeps_execPolicy h src e
  | watchdog src => exact keeps_execWatchdog h src e
  | raStatus src => exact keeps_execRaStatus h src e
  | calibrate src => exact keeps_execCalibrate h src e
  | mask src => exact keeps_execMask h src e
  | maskSwap src => exact keeps_execMaskSwap h src e
  | pinfield src => exact keeps_execPinfield h src e
  | pinStatus src => exact keeps_execPinStatus h src e
  | failClear src => exact keeps_execFailClear h src e
  | failSummary src => exact keeps_execFailSummary h src e
  | failReadout src => exact keeps_execFailReadout h src e
  | repair src => exact keeps_execRepair h src e
  | filter src => exact keeps_execFilter h src e
  | filterSwap src => exact keeps_execFilterSwap h src e
  | trigfield src => exact keeps_execTrigfield h src e
  | trigforce src => exact keeps_execTrigforce h src e
  | rearm src => exact keeps_execRearm h src e
  | trigStatus src => exact keeps_execTrigStatus h src e
  | trigReadout src => exact keeps_execTrigReadout h src e
  | jobLoad src => exact keeps_execJobLoad h src e
  | jobUnload src => exact keeps_execJobUnload h src e
  | submit src => exact keeps_execSubmit h src e
  | jobStop src => exact keeps_execJobStop h src e
  | signal src => exact keeps_execSignal h src e
  | item src => exact keeps_execItem h src e
  | evmapMap src => exact keeps_execEvmapMap h src e
  | evmapUnmap src => exact keeps_execEvmapUnmap h src e
  | ccw src => exact keeps_execCcw h src e
  | contextGeometry src => exact keeps_execContextGeometry h src e
  | contextScale src => exact keeps_execContextScale h src e
  | contextThreshold src => exact keeps_execContextThreshold h src e
  | contextBitTable src => exact keeps_execContextBitTable h src e
  | linkCfg src => exact keeps_execLinkCfg h src e
  | streamOpen src => exact keeps_execStreamOpen h src e
  | streamClose src => exact keeps_execStreamClose h src e
  | firCoefficients src => exact keeps_execFirCoefficients h src e
  | firBankSelect src => exact keeps_execFirBankSelect h src e
  | rampUpTable src => exact keeps_execRampUpTable h src e
  | rampDownTable src => exact keeps_execRampDownTable h src e
  | maskMonitorCfg src => exact keeps_execMaskMonitorCfg h src e
  | hypothesisCfg src => exact keeps_execHypothesisCfg h src e
  | capturePolicy src => exact keeps_execCapturePolicy h src e
  | gain src => exact keeps_execGain h src e
  | train src => exact keeps_execTrain h src e
  | memcfg src => exact keeps_execMemcfg h src e
  | sweep src => exact keeps_execSweep h src e
  | invalidate src => exact keeps_execInvalidate h src e
  | remap src => exact keeps_execRemap h src e
  | remapFree src => exact keeps_execRemapFree h src e
  | mempolicy src => exact keeps_execMempolicy h src e
  | memstatus src => exact keeps_execMemstatus h src e
  | copy src => exact keeps_execCopy h src e
  | laneMode src => exact keeps_execLaneMode h src e
  | laneCtl src => exact keeps_execLaneCtl h src e
  | deskew src => exact keeps_execDeskew h src e
  | refspread src => exact keeps_execRefspread h src e
  | margin src => exact keeps_execMargin h src e
  | laneIdleEnter src => exact keeps_execLaneIdleEnter h src e
  | laneIdleExit src => exact keeps_execLaneIdleExit h src e
  | bitslip src => exact keeps_execBitslip h src e
  | phyStatus src => exact keeps_execPhyStatus h src e
  | enumerate src => exact keeps_execEnumerate h src e
  | stickySet src => exact keeps_execStickySet h src e
  | stickyClear src => exact keeps_execStickyClear h src e
  | gatewayOwnAddress src => exact keeps_execGatewayOwnAddress h src e
  | gatewayAddPeers src => exact keeps_execGatewayAddPeers h src e
  | gatewayClear src => exact keeps_execGatewayClear h src e
  | tctl src => exact keeps_execTctl h src e
  | timeSet src => exact keeps_execTimeSet h src e
  | timeUnlock src => exact keeps_execTimeUnlock h src e
  | rate src => exact keeps_execRate h src e
  | timed src => exact keeps_execTimed h src e
  | timedClear src => exact keeps_execTimedClear h src e
  | ptp src => exact keeps_execPtp h src e
  | chainStatus src => exact keeps_execChainStatus h src e
  | enumMap src => exact keeps_execEnumMap h src e
  | domainSet src => exact keeps_execDomainSet h src e
  | domainUnlock src => exact keeps_execDomainUnlock h src e
  | domainLockOff src => exact keeps_execDomainLockOff h src e
  | domainHoldOn src => exact keeps_execDomainHoldOn h src e
  | domainHoldRelease src => exact keeps_execDomainHoldRelease h src e
  | powerPolicy src => exact keeps_execPowerPolicy h src e
  | powerStatus src => exact keeps_execPowerStatus h src e
  | thermalRead src => exact keeps_execThermalRead h src e
  | thermalSetAlarm src => exact keeps_execThermalSetAlarm h src e
  | sashStatus src => exact keeps_execSashStatus h src e
  | wcellStatus src => exact keeps_execWcellStatus h src e
  | keyholeSel src => exact keeps_execKeyholeSel h src e
  | keyholeLaneTake src => exact keeps_execKeyholeLaneTake h src e
  | keyholeLaneRelease src => exact keeps_execKeyholeLaneRelease h src e
  | peek src => exact keeps_execPeek h src e
  | mbxDoorbell ch v => exact keeps_execMbxDoorbell h ch v e
  | mbxChannelReset ch => exact keeps_execMbxChannelReset h ch e
  | hifIrqStatusClear v => exact keeps_execHifIrqStatusClear h v e
  | hifIrqMaskWrite v => exact keeps_execHifIrqMaskWrite h v e
  | hifWinBaseWrite v => exact keeps_execHifWinBaseWrite h v e
  | hifEvqCtlWrite v => exact keeps_execHifEvqCtlWrite h v e
  | hifEvqConsWrite v => exact keeps_execHifEvqConsWrite h v e
  | bar0BadAccess off size write => exact keeps_execBar0BadAccess h off size write e
  | registerWrite off size v => exact keeps_execRegisterWrite h off size v e
  | commitGroupCommit group => exact keeps_execCommitGroupCommit h group e
  | commitGroupDiscard group => exact keeps_execCommitGroupDiscard h group e
  | bar2Read off len => exact keeps_execBar2Read h off len e
  | bar2Write off data => exact keeps_execBar2Write h off data e
  | bar2Timeout req => exact keeps_execBar2Timeout h req e
  | eventPost => exact keeps_execEventPost h e
  | ticketExpiry ticket => exact keeps_execTicketExpiry h ticket e
  | paneNop sash pane => exact keeps_execPaneNop h sash pane e
  | lut4 sash pane => exact keeps_execLut4 h sash pane e
  | lut3s sash pane => exact keeps_execLut3s h sash pane e
  | send sash pane => exact keeps_execSend h sash pane e
  | recv sash pane => exact keeps_execRecv h sash pane e
  | memrd sash pane => exact keeps_execMemrd h sash pane e
  | memwr sash pane => exact keeps_execMemwr h sash pane e
  | pinout sash pane => exact keeps_execPinout h sash pane e
  | pinin sash pane => exact keeps_execPinin h sash pane e
  | paneCmpPin sash pane => exact keeps_execPaneCmpPin h sash pane e
  | paneCmpModelCheck sash pane => exact keeps_execPaneCmpModelCheck h sash pane e
  | wput sash pane => exact keeps_execWput h sash pane e
  | wget sash pane => exact keeps_execWget h sash pane e
  | probe sash pane => exact keeps_execProbe h sash pane e
  | memrdLanding sash pane => exact keeps_execMemrdLanding h sash pane e
  | wcNop sash cell => exact keeps_execWcNop h sash cell e
  | wcAdd sash cell => exact keeps_execWcAdd h sash cell e
  | wcSub sash cell => exact keeps_execWcSub h sash cell e
  | wcAnd sash cell => exact keeps_execWcAnd h sash cell e
  | wcOr sash cell => exact keeps_execWcOr h sash cell e
  | wcXor sash cell => exact keeps_execWcXor h sash cell e
  | wcAndn sash cell => exact keeps_execWcAndn h sash cell e
  | wcShl sash cell => exact keeps_execWcShl h sash cell e
  | wcShr sash cell => exact keeps_execWcShr h sash cell e
  | wcSar sash cell => exact keeps_execWcSar h sash cell e
  | wcRol sash cell => exact keeps_execWcRol h sash cell e
  | wcMulu sash cell => exact keeps_execWcMulu h sash cell e
  | wcMuls sash cell => exact keeps_execWcMuls h sash cell e
  | mulProductLand sash cell => exact keeps_execMulProductLand h sash cell e
  | wcCmp sash cell => exact keeps_execWcCmp h sash cell e
  | wcMov sash cell => exact keeps_execWcMov h sash cell e
  | wcBrev sash cell => exact keeps_execWcBrev h sash cell e
  | wcScr sash cell => exact keeps_execWcScr h sash cell e
  | wcPopc sash cell => exact keeps_execWcPopc h sash cell e
  | wcClz sash cell => exact keeps_execWcClz h sash cell e
  | wcIn sash cell => exact keeps_execWcIn h sash cell e
  | wcOut sash cell => exact keeps_execWcOut h sash cell e
  | wcMal sash cell => exact keeps_execWcMal h sash cell e
  | hinge sash => exact keeps_execHinge h sash e
  | hingeRelease site => exact keeps_execHingeRelease h site e
  | transomCommit site => exact keeps_execTransomCommit h site e
  | patchRetire sash pane addr => exact keeps_execPatchRetire h sash pane addr e
  | bundleLaunch sash tag => exact keeps_execBundleLaunch h sash tag e
  | flitHop link errs => exact keeps_execFlitHop h link errs e
  | bundleEject flit => exact keeps_execBundleEject h flit e
  | bundleWatchdogExpiry site w => exact keeps_execBundleWatchdogExpiry h site w e
  | wormInject worm => exact keeps_execWormInject h worm e
  | ringRetry worm ring stop => exact keeps_execRingRetry h worm ring stop e
  | ringRead worm => exact keeps_execRingRead h worm e
  | ringWrite worm => exact keeps_execRingWrite h worm e
  | ringAdd32 worm => exact keeps_execRingAdd32 h worm e
  | ringAdd64 worm => exact keeps_execRingAdd64 h worm e
  | ringSwap worm => exact keeps_execRingSwap h worm e
  | ringOr worm => exact keeps_execRingOr h worm e
  | ringRespData worm => exact keeps_execRingRespData h worm e
  | ringRespAck worm => exact keeps_execRingRespAck h worm e
  | ringRespErr worm => exact keeps_execRingRespErr h worm e
  | ringCtrl worm => exact keeps_execRingCtrl h worm e
  | stopDrainDone stop => exact keeps_execStopDrainDone h stop e
  | stopDrainTimeout stop => exact keeps_execStopDrainTimeout h stop e
  | stopReconfigRetry stop => exact keeps_execStopReconfigRetry h stop e
  | bundleFrame lane hdr bits => exact keeps_execBundleFrame h lane hdr bits e
  | hingeArrive site via hinge good => exact keeps_execHingeArrive h site via hinge good e
  | hingeArriveFault site via hinge good => exact keeps_execHingeArriveFault h site via hinge good e
  | hingeReleaseContinue site via hinge good => exact keeps_execHingeReleaseContinue h site via hinge good e
  | hingeReleaseHalt site via hinge good => exact keeps_execHingeReleaseHalt h site via hinge good e
  | hingeReleaseFault site via hinge good => exact keeps_execHingeReleaseFault h site via hinge good e
  | codeOrigin site => exact keeps_execCodeOrigin h site e
  | frameAssembly lane => exact keeps_execFrameAssembly h lane e
  | rxDataFrame lane hdr payload => exact keeps_execRxDataFrame h lane hdr payload e
  | rxIdleFrame lane hdr payload => exact keeps_execRxIdleFrame h lane hdr payload e
  | rxLoopbackFrame lane hdr payload => exact keeps_execRxLoopbackFrame h lane hdr payload e
  | rxFrameTimeout lane => exact keeps_execRxFrameTimeout h lane e
  | directRxWord lane w => exact keeps_execDirectRxWord h lane w e
  | failBufferWrite sash => exact keeps_execFailBufferWrite h sash e
  | failChunkSend sash => exact keeps_execFailChunkSend h sash e
  | failFlushTimeout sash => exact keeps_execFailFlushTimeout h sash e
  | failClose site => exact keeps_execFailClose h site e
  | cycleCommit site => exact keeps_execCycleCommit h site e
  | divergenceDecided site => exact keeps_execDivergenceDecided h site e
  | rollback site => exact keeps_execRollback h site e
  | deltaWrite sash => exact keeps_execDeltaWrite h sash e
  | trigRecordStore sash => exact keeps_execTrigRecordStore h sash e
  | trigSpillChunk sash => exact keeps_execTrigSpillChunk h sash e
  | toutPulseEnd sash pin => exact keeps_execToutPulseEnd h sash pin e
  | postSlotsExpiry sash => exact keeps_execPostSlotsExpiry h sash e
  | dspVld cas core v g d => exact keeps_execDspVld h cas core v g d e
  | dspVst cas core v g d => exact keeps_execDspVst h cas core v g d e
  | dspSld cas core r g d => exact keeps_execDspSld h cas core r g d e
  | dspSst cas core r g d => exact keeps_execDspSst h cas core r g d e
  | dspMul cas core x y => exact keeps_execDspMul h cas core x y e
  | dspMac cas core x y => exact keeps_execDspMac h cas core x y e
  | dspMsu cas core x y => exact keeps_execDspMsu h cas core x y e
  | dspCmac cas core x y => exact keeps_execDspCmac h cas core x y e
  | dspNarrow cas core v n => exact keeps_execDspNarrow h cas core v n e
  | dspVectorAlu cas core op vd va vb => exact keeps_execDspVectorAlu h cas core op vd va vb e
  | dspScalarAlu cas core op rd ra b => exact keeps_execDspScalarAlu h cas core op rd ra b e
  | dspSetAddress cas core which g b => exact keeps_execDspSetAddress h cas core which g b e
  | dspBranch cas core k target => exact keeps_execDspBranch h cas core k target e
  | dspRep cas core n => exact keeps_execDspRep h cas core n e
  | dspTime cas core r => exact keeps_execDspTime h cas core r e
  | dspWait cas core mask andMode keep => exact keeps_execDspWait h cas core mask andMode keep e
  | dspSignal cas core task mask => exact keeps_execDspSignal h cas core task mask e
  | dspEnq cas core task item => exact keeps_execDspEnq h cas core task item e
  | dspEnqn cas core task item => exact keeps_execDspEnqn h cas core task item e
  | dspDeq cas core => exact keeps_execDspDeq h cas core e
  | dspSleep cas core n => exact keeps_execDspSleep h cas core n e
  | dspSubmit cas core a => exact keeps_execDspSubmit h cas core a e
  | dspDone cas core => exact keeps_execDspDone h cas core e
  | dspXfer cas core x => exact keeps_execDspXfer h cas core x e
  | dspAccel cas core a => exact keeps_execDspAccel h cas core a e
  | tickBoundary cas => exact keeps_execTickBoundary h cas e
  | jobPreempt cas core task => exact keeps_execJobPreempt h cas core task e
  | budgetStop cas core => exact keeps_execBudgetStop h cas core e
  | accelFft cas => exact keeps_execAccelFft h cas e
  | accelEncode cas => exact keeps_execAccelEncode h cas e
  | accelDecode cas => exact keeps_execAccelDecode h cas e
  | accelModulate cas => exact keeps_execAccelModulate h cas e
  | accelDemap cas => exact keeps_execAccelDemap h cas e
  | accelNmeas cas => exact keeps_execAccelNmeas h cas e
  | accelRebuild cas => exact keeps_execAccelRebuild h cas e
  | accelSwap cas => exact keeps_execAccelSwap h cas e
  | accelBurst cas => exact keeps_execAccelBurst h cas e
  | accelPsrel cas => exact keeps_execAccelPsrel h cas e
  | accelGain cas => exact keeps_execAccelGain h cas e
  | accelComplete cas k => exact keeps_execAccelComplete h cas k e
  | xferComplete cas => exact keeps_execXferComplete h cas e
  | sysrefEdge clk => exact keeps_execSysrefEdge h clk e
  | streamRxMultiblock link crcOk words => exact keeps_execStreamRxMultiblock h link crcOk words e
  | streamRxBlock stream => exact keeps_execStreamRxBlock h stream e
  | streamTxFetch stream late => exact keeps_execStreamTxFetch h stream late e
  | streamLockLoss link => exact keeps_execStreamLockLoss h link e
  | maskMonitorAverage stream bins => exact keeps_execMaskMonitorAverage h stream bins e
  | packetDetect stream p strength cands => exact keeps_execPacketDetect h stream p strength cands e
  | captureTruncate stream path => exact keeps_execCaptureTruncate h stream path e
  | gainWordSend port => exact keeps_execGainWordSend h port e
  | regionFillDone region => exact keeps_execRegionFillDone h region e
  | autoRemap mem addr => exact keeps_execAutoRemap h mem addr e
  | scrubLine mem line => exact keeps_execScrubLine h mem line e
  | scrubLapEnd mem => exact keeps_execScrubLapEnd h mem e
  | blockLockAcquired lane => exact keeps_execBlockLockAcquired h lane e
  | blockLockLoss lane => exact keeps_execBlockLockLoss h lane e
  | farEndIdle lane => exact keeps_execFarEndIdle h lane e
  | idleExitBurstDone lane headersValid => exact keeps_execIdleExitBurstDone h lane headersValid e
  | linkIdleEntry lane => exact keeps_execLinkIdleEntry h lane e
  | linkIdleExit lane => exact keeps_execLinkIdleExit h lane e
  | eyeSweepDone lane eyeH eyeV => exact keeps_execEyeSweepDone h lane eyeH eyeV e
  | keyholeFrame => exact keeps_execKeyholeFrame h e
  | enumFrame f => exact keeps_execEnumFrame h f e
  | enumTimeout => exact keeps_execEnumTimeout h e
  | mbxFrame f => exact keeps_execMbxFrame h f e
  | mbxAckFrame f => exact keeps_execMbxAckFrame h f e
  | mbxRetransmit n => exact keeps_execMbxRetransmit h n e
  | timeFrame f rx => exact keeps_execTimeFrame h f rx e
  | timeSyncSend => exact keeps_execTimeSyncSend h e
  | syncLossTimeout => exact keeps_execSyncLossTimeout h e
  | chainStart f => exact keeps_execChainStart h f e
  | chainStop f => exact keeps_execChainStop h f e
  | chainTrigger f => exact keeps_execChainTrigger h f e
  | siteRollback f => exact keeps_execSiteRollback h f e
  | linkHinge f => exact keeps_execLinkHinge h f e
  | hopdlyRequest f rx => exact keeps_execHopdlyRequest h f rx e
  | hopdlyResponse f rx => exact keeps_execHopdlyResponse h f rx e
  | hopdlyMeasure port => exact keeps_execHopdlyMeasure h port e
  | breakFrame f => exact keeps_execBreakFrame h f e
  | portBreak port => exact keeps_execPortBreak h port e
  | breakIdleEnd port => exact keeps_execBreakIdleEnd h port e
  | portHeal port => exact keeps_execPortHeal h port e
  | gatewayDatagram peer f => exact keeps_execGatewayDatagram h peer f e
  | gatewayCheck peer => exact keeps_execGatewayCheck h peer e
  | gatewayPeerTimeout peer => exact keeps_execGatewayPeerTimeout h peer e
  | ptpSync masterTime rx => exact keeps_execPtpSync h masterTime rx e
  | ptpAnnounce a => exact keeps_execPtpAnnounce h a e
  | ptpDelayResp t4 => exact keeps_execPtpDelayResp h t4 e
  | startAtFire site => exact keeps_execStartAtFire h site e
  | timedOccurrence tev => exact keeps_execTimedOccurrence h tev e
  | timedPulseEnd tev => exact keeps_execTimedPulseEnd h tev e
  | idlePolicyTimeout dom => exact keeps_execIdlePolicyTimeout h dom e
  | shutterClosing dom => exact keeps_execShutterClosing h dom e
  | shutterDrainDone dom => exact keeps_execShutterDrainDone h dom e
  | shutterDrainTimeout dom => exact keeps_execShutterDrainTimeout h dom e
  | domainWake dom => exact keeps_execDomainWake h dom e
  | wakeTimeout dom => exact keeps_execWakeTimeout h dom e
  | vreqAck bus => exact keeps_execVreqAck h bus e
  | vreqTimeout bus => exact keeps_execVreqTimeout h bus e
  | thermalSample sensors => exact keeps_execThermalSample h sensors e
  | thermTrip => exact keeps_execThermTrip h e
  | pmbAlert => exact keeps_execPmbAlert h e
  | powerOnReset bootSrc => exact keeps_execPowerOnReset h bootSrc e
  | bootAuthDone r => exact keeps_execBootAuthDone h r e
  | aonPllLock => exact keeps_execAonPllLock h e
  | systemPllLock => exact keeps_execSystemPllLock h e
  | sysRstN => exact keeps_execSysRstN h e
  | perstN => exact keeps_execPerstN h e
  | vddUndervoltage => exact keeps_execVddUndervoltage h e
  | pllLoss pll => exact keeps_execPllLoss h pll e
  | pllRestore pll => exact keeps_execPllRestore h pll e
  | tapReset => exact keeps_execTapReset h e
  | jtagExtest tdi => exact keeps_execJtagExtest h tdi e
  | jtagIdcode tdi => exact keeps_execJtagIdcode h tdi e
  | jtagSamplePreload tdi => exact keeps_execJtagSamplePreload h tdi e
  | jtagClamp tdi => exact keeps_execJtagClamp h tdi e
  | jtagHighz tdi => exact keeps_execJtagHighz h tdi e
  | jtagExtestPulse tdi => exact keeps_execJtagExtestPulse h tdi e
  | jtagExtestTrain tdi => exact keeps_execJtagExtestTrain h tdi e
  | jtagBypass tdi => exact keeps_execJtagBypass h tdi e
  | longCommandSlice ticket => exact keeps_execLongCommandSlice h ticket e
  | dmaHostCompletion ticket ok => exact keeps_execDmaHostCompletion h ticket ok e
  | extendedMultiblockLockReturn link => exact keeps_execExtendedMultiblockLockReturn h link e
  | cdrLockAcquired lane => exact keeps_execCdrLockAcquired h lane e
  | cdrLockLoss lane => exact keeps_execCdrLockLoss h lane e
  | quadPllLock quad => exact keeps_execQuadPllLock h quad e
  | lapCounterSample mem => exact keeps_execLapCounterSample h mem e
  | sysRstNRelease bootSrc => exact keeps_execSysRstNRelease h bootSrc e
  | perstNRelease => exact keeps_execPerstNRelease h e
  | pcieConfigAccess off wr => exact keeps_execPcieConfigAccess h off wr e
  | arpRequest ip => exact keeps_execArpRequest h ip e

end Sys2Proof.Machine
end

section
set_option Elab.async false
/-! A step of the unit: it runs the front command on the rest of the queue, and keeps the rest and the memory's form. -/

namespace Sys2Proof.Machine

theorem step_cons {c : Instr} {s : State} {rest : List Instr} (h : s.pending = c :: rest) :
    step s = exec c { s with pending := rest } := by
  simp [step, h]

theorem step_nil {s : State} (h : s.pending = []) : step s = .next s.stepClock := by
  simp [step, h]

/-- A step keeps what the state holds once its front command has left the queue. -/
theorem keeps_step {s t : State} (h : step s = .next t) : Keeps { s with pending := s.pending.tail } t := by
  cases hp : s.pending with
  | nil =>
    rw [step_nil hp] at h
    have ht : s.stepClock = t := Host.Outcome.next.inj h
    have h0 : Keeps { s with pending := s.pending.tail } s := ⟨by simp [hp], id⟩
    rw [hp] at h0
    exact ht ▸ keeps_stepClock h0
  | cons c rest =>
    rw [step_cons hp] at h
    have h0 : Keeps { s with pending := rest } { s with pending := rest } := ⟨rfl, id⟩
    exact keeps_exec h0 c h

/-- Settles O1: the queue's front command is what a step runs. -/
theorem stepRunsFrontCommand : Obligations.StepRunsFrontCommand :=
  fun _ _ _ h => step_cons h

/-- Settles O3: every function a step is made of leaves the queue as it is. -/
theorem everyStepConsumesOneCommand : Obligations.EveryStepConsumesOneCommand :=
  fun _ _ h => (keeps_step h).1

/-- Settles O4: every function a step is made of keeps the form of unit memory. -/
theorem everyStepKeepsMemoryCanonical : Obligations.EveryStepKeepsMemoryCanonical :=
  fun _ _ hwf h => (keeps_step h).2 hwf

end Sys2Proof.Machine
end

section
set_option Elab.async false
/-! The commands of the mailboxes: a served command answers with its body's reply. -/

namespace Sys2Proof.Machine

/-- A command row answers as its body says once it is served. -/
theorem exec_served {c : Instr} {s : State} {src : Nat} {sp : CmdSpec} {body : State → Req → Reply} {q : Req}
    (hc : exec c s = .next (s.command src sp body)) (h : s.serves src sp = some q) :
    exec c s = .next ((body s q).answer q) := by
  rw [hc, command_served h]

/-- A command row whose body refuses answers the code alone. -/
theorem exec_refused {c : Instr} {s : State} {src : Nat} {sp : CmdSpec} {body : State → Req → Reply} {q : Req} {st : Status}
    (hc : exec c s = .next (s.command src sp body)) (h : s.serves src sp = some q) (hb : body s q = refuse s st) :
    exec c s = .next (s.reply q st [] 0) := by
  rw [exec_served hc h, hb, answer_refuse]

/-- A command row whose body is done answers ST_OK with its payload. -/
theorem exec_done {c : Instr} {s t : State} {src : Nat} {sp : CmdSpec} {body : State → Req → Reply} {q : Req} {p : List Byte}
    (hc : exec c s = .next (s.command src sp body)) (h : s.serves src sp = some q) (hb : body s q = done t p) :
    exec c s = .next (t.reply q Code.ST_OK p 0) := by
  rw [exec_served hc h, hb, answer_done]

/-- A long command without a free ticket, or with its object under other work, is refused (R429, R445). -/
theorem accept_busy {s : State} {q : Req} {w : Work} {b : Bool} {n : Nat} (h : s.accepts w = false) :
    s.accept q w b n = refuse s Code.ST_BUSY := by
  rw [accept_cases, h]
  rfl

theorem answer_ite (c : Prop) [Decidable c] (a b : Reply) (q : Req) :
    (if c then a else b).answer q = if c then a.answer q else b.answer q := by
  split <;> rfl

end Sys2Proof.Machine
end

section
set_option Elab.async false
/-! Concrete states for the refutations. -/

namespace Sys2Proof.Machine

/-- Firmware runs, and a command with opcode `op` and payload `pay` for this unit waits in channel 0. -/
def State.withCommand (s : State) (op : Nat) (pay : List Byte) : State :=
  ({ s with host := { s.host with bootState := 3, fwReady := true } } : State).setChan 0
    { state := .busy
      copy := leBytes op 2 ++ leBytes 7 2 ++ leBytes s.chain.ua.toNat 4 ++ leBytes pay.length 2 ++ leBytes 1 2 ++ leBytes 0 4 ++ pay }

/-- The row serves a request of which `p` holds, when a run of the model says so. -/
theorem serves_of_any {s : State} {src : Nat} {sp : CmdSpec} {p : Req → Bool} (h : (s.serves src sp).any p = true) :
    ∃ q, s.serves src sp = some q ∧ p q = true := by
  cases hs : s.serves src sp with
  | none => simp [hs] at h
  | some q => exact ⟨q, rfl, by simpa [hs] using h⟩

end Sys2Proof.Machine
end

section
set_option Elab.async false
/-! The unit after power-on. -/

namespace Sys2Proof.Machine

/-- Settles O5: the reset state lists what differs from the defaults, so each numbered block not listed is the default one. -/
theorem resetState : Obligations.ResetState := by
  refine ⟨rfl, fun n => rfl, fun c => ⟨rfl, rfl⟩, rfl, rfl, rfl, rfl, rfl, rfl, rfl, rfl, rfl, rfl, rfl, ?_, ?_, rfl, rfl, rfl⟩
  · intro q hq
    interval_cases q <;> rfl
  · intro i hi
    interval_cases i <;> rfl

end Sys2Proof.Machine
end

section
set_option Elab.async false
/-! What a write to unit memory leaves in it (R340, R341, R347). -/

namespace Sys2Proof.Machine

theorem tget_tcut {α} (d : α) (t : Tab α) (lo hi j : Nat) :
    tget d (tcut t lo hi) j = if lo ≤ j ∧ j < hi then d else tget d t j := by
  induction t with
  | nil => simp [tcut, tget]
  | cons e t ih =>
    obtain ⟨k, v⟩ := e
    simp only [tcut, List.filter_cons] at ih ⊢
    by_cases hk : lo ≤ k ∧ k < hi
    · grind [tget]
    · grind [tget]

theorem peekByte_congr {s t : State} (hb : t.mem.bytes = s.mem.bytes) (hv : t.mem.valid = s.mem.valid)
    (hr : t.mem.regions = s.mem.regions) (x : Nat) : t.peekByte x = s.peekByte x := by
  unfold State.peekByte MemState.wordValid MemState.getByte
  rw [hb, hv, hr]

theorem peekByte_of_mem {s t : State} (h : t.mem = s.mem) (x : Nat) : t.peekByte x = s.peekByte x :=
  peekByte_congr (by rw [h]) (by rw [h]) (by rw [h]) x

/-- A word of DRAM can be seen only in a filled region; every other word can be written. -/
def State.writable (s : State) (w : Nat) : Prop := isDdr (8 * w) = true → tget false s.mem.regions (8 * w / 65536) = true

theorem wordValid_storeWord {s : State} {w : Nat} (h : s.writable w) (bs : List Byte) (c : Option WordCheck) (v : Nat) :
    (s.mem.storeWord w bs c).wordValid v = (decide (v = w) || s.mem.wordValid v) := by
  simp only [MemState.storeWord, MemState.wordValid]
  unfold State.writable at h
  by_cases hd : isDdr (8 * w) = true <;> by_cases hv : v = w <;> simp_all

theorem peekByte_storeWord {s : State} {w : Nat} (h : s.writable w) {bs : List Byte} (hb : bs.length = 8)
    (c : Option WordCheck) (x : Nat) :
    ({ s with mem := s.mem.storeWord w bs c } : State).peekByte x =
      if x / 8 = w then bs.getD (x % 8) 0 else s.peekByte x := by
  simp only [State.peekByte, wordValid_storeWord h, storeWord_getByte _ _ _ _ hb]
  by_cases hx : x / 8 = w <;> simp [hx]

/-- The bytes of word `w` as a look at them sees them. -/
def State.peekWord (s : State) (w : Nat) : List Byte := if s.mem.wordValid w then s.mem.raw w else List.replicate 8 0

theorem tslice_getD {α} (d : α) (t : Tab α) (n k i : Nat) : (tslice d t k n).getD i d = if i < n then tget d t (k + i) else d := by
  induction n generalizing k i with
  | zero => simp [tslice]
  | succ n ih =>
    cases i with
    | zero => simp [tslice]
    | succ i =>
      have := ih (k + 1) i
      simp only [tslice, List.getD_cons_succ, this]
      simp [Nat.add_comm, Nat.add_left_comm]

theorem length_tslice {α} (d : α) (t : Tab α) (n k : Nat) : (tslice d t k n).length = n := by
  induction n generalizing k with
  | zero => rfl
  | succ n ih => simp [tslice, ih]

theorem peekWord_length (s : State) (w : Nat) : (s.peekWord w).length = 8 := by
  unfold State.peekWord
  split <;> simp [MemState.raw, length_tslice]

theorem peekWord_getD (s : State) (w i : Nat) (hi : i < 8) : (s.peekWord w).getD i 0 = s.peekByte (8 * w + i) := by
  have hw : (8 * w + i) / 8 = w := by omega
  simp only [State.peekWord, State.peekByte, hw]
  by_cases hv : s.mem.wordValid w = true
  · simp only [hv, if_true, MemState.raw, MemState.getByte, tslice_getD, if_pos hi]
  · simp only [hv, if_false, Bool.false_eq_true]
    rw [List.getD_eq_getElem?_getD, List.getElem?_replicate, if_pos hi]
    rfl

theorem mergeBytes_length (bs : List (Option Byte)) (os : List Byte) (h : bs.length ≤ os.length) :
    (mergeBytes bs os).length = os.length := by
  induction bs generalizing os with
  | nil => simp [mergeBytes]
  | cons b bs ih =>
    cases os with
    | nil => simp at h
    | cons o os => cases b <;> simp [mergeBytes, ih os (by simpa using h)]

theorem mergeBytes_getD (bs : List (Option Byte)) (os : List Byte) (i : Nat) (h : bs.length ≤ os.length) :
    (mergeBytes bs os).getD i 0 = (bs.getD i none).getD (os.getD i 0) := by
  induction bs generalizing os i with
  | nil => simp [mergeBytes]
  | cons b bs ih =>
    cases os with
    | nil => simp at h
    | cons o os =>
      have := ih os
      cases b <;> cases i <;> simp_all [mergeBytes]

/-- A merged word shows what `f` makes of the bytes seen before. -/
theorem peekByte_mergeWord {s : State} {w : Nat} (h : s.writable w) {f : List Byte → List Byte}
    (hf : ∀ os : List Byte, os.length = 8 → (f os).length = 8) (x : Nat) :
    (s.mergeWord w f).peekByte x = if x / 8 = w then (f (s.peekWord w)).getD (x % 8) 0 else s.peekByte x := by
  have hl := hf _ (peekWord_length s w)
  unfold State.mergeWord
  extract_lets m
  by_cases hv : s.mem.wordValid w = true
  · have hp : s.peekWord w = s.mem.raw w := by simp [State.peekWord, hv]
    rw [hp] at hl ⊢
    rw [if_pos hv]
    split
    · exact peekByte_storeWord h hl _ x
    · exact (peekByte_storeWord (s := s.noteCe m (8 * w)) h hl _ x).trans (by rfl)
    · exact (peekByte_of_mem (postMemory_mem ..) x).trans
        ((peekByte_storeWord (s := s.modMemSt m fun t => { t with poisonWrites := satInc t.poisonWrites }) h hl (some .poison) x).trans (by rfl))
  · have hp : s.peekWord w = List.replicate 8 0 := by simp [State.peekWord, hv]
    rw [hp] at hl ⊢
    rw [if_neg hv]
    exact peekByte_storeWord h hl _ x

theorem regions_mergeWord (s : State) (w : Nat) (f : List Byte → List Byte) : (s.mergeWord w f).mem.regions = s.mem.regions := by
  unfold State.mergeWord
  extract_lets m
  split
  · split
    · rfl
    · rfl
    · exact (congrArg MemState.regions (postMemory_mem ..)).trans rfl
  · rfl

theorem regions_writeWord (s : State) (w : Nat) (bs : List (Option Byte)) : (s.writeWord w bs).mem.regions = s.mem.regions := by
  unfold State.writeWord
  split
  · rfl
  · split
    · rfl
    · exact regions_mergeWord ..

/-- A written word shows the bytes written, and under the others what it showed before. -/
theorem peekByte_writeWord {s : State} {w : Nat} (h : s.writable w) {bs : List (Option Byte)} (hb : bs.length = 8) (x : Nat) :
    (s.writeWord w bs).peekByte x =
      if x / 8 = w then (bs.getD (x % 8) none).getD (s.peekByte x) else s.peekByte x := by
  have hx : x / 8 = w → (s.peekWord w).getD (x % 8) 0 = s.peekByte x := by
    intro hw
    rw [peekWord_getD _ _ _ (Nat.mod_lt _ (by decide))]
    congr 1
    omega
  unfold State.writeWord
  split
  · rename_i hall
    rw [peekByte_storeWord h (by simpa using hb)]
    have hm : x % 8 < bs.length := by omega
    have hs := List.all_eq_true.mp hall _ (List.getElem_mem hm)
    rw [List.getD_eq_getElem _ _ (by simpa using hm), List.getD_eq_getElem _ _ hm]
    obtain ⟨b, hb⟩ := Option.isSome_iff_exists.mp hs
    simp [hb]
  · split
    · rename_i hnone
      have hm : x % 8 < bs.length := by omega
      have hs := List.all_eq_true.mp hnone _ (List.getElem_mem hm)
      rw [List.getD_eq_getElem _ _ hm]
      simp [Option.isNone_iff_eq_none.mp hs]
    · rw [peekByte_mergeWord h (fun os ho => by rw [mergeBytes_length _ _ (by omega), ho])]
      by_cases hw : x / 8 = w
      · rw [if_pos hw, if_pos hw, mergeBytes_getD _ _ _ (by rw [peekWord_length]; omega), hx hw]
      · rw [if_neg hw, if_neg hw]

/-- A row of written words shows the bytes written, and everything else what it showed before. -/
theorem peekByte_writeWords (n : Nat) {s : State} {w : Nat} (h : ∀ v, w ≤ v → v < w + n → s.writable v)
    {bs : List (Option Byte)} (hb : bs.length = 8 * n) (x : Nat) :
    (s.writeWords w bs n).peekByte x =
      if 8 * w ≤ x then (bs.getD (x - 8 * w) none).getD (s.peekByte x) else s.peekByte x := by
  induction n generalizing s w bs with
  | zero =>
    have : bs = [] := List.eq_nil_of_length_eq_zero (by simpa using hb)
    simp [State.writeWords, this]
  | succ n ih =>
    have hw : ∀ v, w + 1 ≤ v → v < w + 1 + n → (s.writeWord w (bs.take 8)).writable v := by
      intro v h1 h2 hd
      rw [regions_writeWord]
      exact h v (by omega) (by omega) hd
    rw [State.writeWords, ih hw (by simp; omega), peekByte_writeWord (h w (by omega) (by omega)) (by simp; omega)]
    simp only [List.getD_eq_getElem?_getD, List.getElem?_drop, List.getElem?_take]
    grind

/-- DRAM ends at a region's boundary. -/
theorem isDdr_iff (a : Nat) : isDdr a = true ↔ a / 65536 < sashBase / 65536 := by
  have h : sashBase = sashBase / 65536 * 65536 := by decide
  unfold isDdr
  rw [decide_eq_true_eq]
  omega

/-- Filling a region shows nothing new: its bytes read as zero before and after (R347). -/
theorem peekByte_ensureRegion (s : State) (a x : Nat) : (s.ensureRegion a).peekByte x = s.peekByte x := by
  unfold State.ensureRegion
  split
  · rename_i hc
    simp only [Bool.and_eq_true, Bool.not_eq_true'] at hc
    obtain ⟨hd, hr⟩ := hc
    refine (peekByte_congr (s := { s with mem := s.mem.fillRegion (a / 65536) }) rfl rfl rfl x).trans ?_
    have hx : 8 * (x / 8) / 65536 = x / 65536 := by omega
    simp only [State.peekByte, MemState.wordValid, MemState.getByte, MemState.fillRegion, tget_tset, tget_tcut, hx]
    by_cases ha : x / 65536 = a / 65536
    · have hin : a / 65536 * 65536 ≤ x ∧ x < (a / 65536 + 1) * 65536 := by omega
      have hdx : isDdr (8 * (x / 8)) = true := (isDdr_iff _).mpr (by rw [isDdr_iff] at hd; omega)
      simp [ha, hr, hin, hdx]
    · have hout : ¬(a / 65536 * 65536 ≤ x ∧ x < (a / 65536 + 1) * 65536) := by omega
      simp [ha, hout]
  · rfl

theorem regions_ensureRegion (s : State) (a r : Nat) (ha : isDdr a = true) :
    tget false (s.ensureRegion a).mem.regions r = (decide (r = a / 65536) || tget false s.mem.regions r) := by
  unfold State.ensureRegion
  by_cases hr : tget false s.mem.regions (a / 65536) = true
  · by_cases h : r = a / 65536 <;> simp_all
  · by_cases h : r = a / 65536 <;> simp_all [MemState.fillRegion, State.setMemSt]

theorem regions_ensureRegion_mono (s : State) (a r : Nat) (h : tget false s.mem.regions r = true) :
    tget false (s.ensureRegion a).mem.regions r = true := by
  by_cases ha : isDdr a = true
  · rw [regions_ensureRegion _ _ _ ha, h, Bool.or_true]
  · rw [State.ensureRegion, if_neg (by simp [ha]), h]

theorem peekByte_ensureRegions (n : Nat) (s : State) (r x : Nat) : (s.ensureRegions r n).peekByte x = s.peekByte x := by
  induction n generalizing s r with
  | zero => rfl
  | succ n ih => rw [State.ensureRegions, ih, peekByte_ensureRegion]

theorem regions_ensureRegions_mono (n : Nat) (s : State) (r v : Nat) (h : tget false s.mem.regions v = true) :
    tget false (s.ensureRegions r n).mem.regions v = true := by
  induction n generalizing s r with
  | zero => exact h
  | succ n ih => exact ih _ _ (regions_ensureRegion_mono s _ v h)

/-- The regions asked for are filled, where they are DRAM. -/
theorem regions_ensureRegions (n : Nat) (s : State) (r v : Nat) (h1 : r ≤ v) (h2 : v < r + n) (hd : isDdr (v * 65536) = true) :
    tget false (s.ensureRegions r n).mem.regions v = true := by
  induction n generalizing s r with
  | zero => omega
  | succ n ih =>
    rw [State.ensureRegions]
    by_cases hv : v = r
    · subst hv
      refine regions_ensureRegions_mono _ _ _ _ ?_
      rw [regions_ensureRegion _ _ _ hd]
      simp
    · exact ih _ _ (by omega) (by omega)

/-- What a byte-enabled write shows. -/
theorem peekByte_memWriteBE (s : State) (a : Nat) (bs : List (Option Byte)) (x : Nat) :
    (s.memWriteBE a bs).peekByte x =
      if a ≤ x then (bs.getD (x - a) none).getD (s.peekByte x) else s.peekByte x := by
  unfold State.memWriteBE
  extract_lets t pre n
  have ht : ∀ x, t.peekByte x = s.peekByte x := by
    intro x
    by_cases hd : isDdr a = true
    · simp only [t, if_pos hd, peekByte_ensureRegions]
    · simp only [t, if_neg hd]
  have hlen : (pre ++ List.replicate (8 * n - pre.length) none).length = 8 * n := by
    simp only [List.length_append, List.length_replicate]
    omega
  have hpre : pre.length = a % 8 + bs.length := by simp [pre]
  have hw : ∀ v, a / 8 ≤ v → v < a / 8 + n → t.writable v := by
    intro v h1 h2 hd
    rw [isDdr_iff] at hd
    have hda : isDdr a = true := (isDdr_iff a).mpr (by omega)
    simp only [t, if_pos hda]
    refine regions_ensureRegions _ _ _ _ ?_ ?_ ((isDdr_iff _).mpr (by omega))
    · omega
    · omega
  rw [peekByte_writeWords n hw hlen, ht]
  simp only [List.getD_eq_getElem?_getD, pre, List.getElem?_append, List.getElem?_replicate, List.length_append, List.length_replicate]
  grind

/-- Settles O6: a write fills the regions it meets, which shows nothing new, and then writes word by word. -/
theorem memoryReadsWhatWasWritten : Obligations.MemoryReadsWhatWasWritten := by
  intro s a bs x
  rw [State.memWrite, peekByte_memWriteBE]
  simp only [List.getD_eq_getElem?_getD, List.getElem?_map]
  grind

end Sys2Proof.Machine
end

section
set_option Elab.async false
/-! The system commands (R448). -/

namespace Sys2Proof.Machine

/-- A written louvre word is the one in force (R114). -/
theorem lvw_writeLvw (x : Stop) (n : Nat) (vc2 : Bool) (v : BitVec 32) : (x.writeLvw n vc2 v).lvw n vc2 = v := by
  cases vc2 <;> simp [Stop.writeLvw, Stop.setSpent, StopBank.setLvw, Stop.lvw]

theorem ticketBody_answer (s : State) (q : Req) : (ticketBody s q).answer q =
    match s.ticket (BitVec.ofNat 32 (q.n 0 4)) with
    | none => s.reply q Code.ST_TICKET_UNKNOWN [] 0
    | some t => (if t.final.isSome then s.setTicket (BitVec.ofNat 32 (q.n 0 4)) (some { t with retained := true })
        else s).reply q Code.ST_OK t.record 0 := by
  cases h : s.ticket (BitVec.ofNat 32 (q.n 0 4)) <;> simp [ticketBody, h]

theorem cancelBody_answer (s : State) (q : Req) : (cancelBody s q).answer q =
    match s.ticket (BitVec.ofNat 32 (q.n 0 4)) with
    | none => s.reply q Code.ST_TICKET_UNKNOWN [] 0
    | some t => (if t.final.isSome || s.cancelExempt (BitVec.ofNat 32 (q.n 0 4)) t.work then s
        else s.setTicket (BitVec.ofNat 32 (q.n 0 4)) (some { t with cancel := true })).reply q Code.ST_OK t.record 0 := by
  cases h : s.ticket (BitVec.ofNat 32 (q.n 0 4)) with
  | none => simp [cancelBody, h]
  | some t =>
    by_cases hc : t.final.isSome = true ∨ s.cancelExempt (BitVec.ofNat 32 (q.n 0 4)) t.work = true <;>
      simp [cancelBody, h, hc]

theorem inventoryBody_eq (s : State) (q : Req) : inventoryBody s q =
    if memIdOk (q.n 0 2) = true ∧ 1 ≤ q.n 2 1 ∧ q.n 2 1 ≤ 224 then
      done s (((memIds.dropWhile (· ≠ q.n 0 2)).take (q.n 2 1)).map s.spareOf)
    else refuse s Code.ST_BAD_PARAM := by
  unfold inventoryBody
  by_cases h : memIdOk (q.n 0 2) = true ∧ 1 ≤ q.n 2 1 ∧ q.n 2 1 ≤ 224
  · rw [if_pos h]
    exact if_neg (by grind)
  · rw [if_neg h]
    exact if_pos (by grind)

/-- A louvre word within its ranges is written, and posted when it differs from the word in force. -/
theorem louvreBody_write {s : State} {q : Req} (hn : q.n 0 1 < 82) (hv : q.n 1 1 = 1 ∨ q.n 1 1 = 2)
    (hr : bits (BitVec.ofNat 32 (q.n 4 4)).toNat 25 6 = 0) (h1 : 9 ≤ lvwBurst (BitVec.ofNat 32 (q.n 4 4)))
    (h2 : lvwBurst (BitVec.ofNat 32 (q.n 4 4)) ≤ 256) :
    louvreBody s q =
      let v : BitVec 32 := BitVec.ofNat 32 (q.n 4 4)
      let w := s.modStop (q.n 0 1) fun x => x.writeLvw (q.n 0 1) (q.n 1 1 == 2) v
      done (if (s.stop (q.n 0 1)).lvw (q.n 0 1) (q.n 1 1 == 2) = v then w else w.postPolicy 2 (q.n 0 1) v.toNat)
        (leBytes v.toNat 4) := by
  unfold louvreBody
  dsimp only
  rw [if_neg (by omega), if_neg (by simpa using hr), if_neg (by omega)]

theorem louvreBody_bad {s : State} {q : Req} (h : (82 ≤ q.n 0 1 ∨ (q.n 1 1 ≠ 1 ∧ q.n 1 1 ≠ 2)) ∨
    bits (BitVec.ofNat 32 (q.n 4 4)).toNat 25 6 ≠ 0 ∨ lvwBurst (BitVec.ofNat 32 (q.n 4 4)) < 9 ∨
      256 < lvwBurst (BitVec.ofNat 32 (q.n 4 4))) :
    louvreBody s q = refuse s (if ¬(82 ≤ q.n 0 1 ∨ (q.n 1 1 ≠ 1 ∧ q.n 1 1 ≠ 2)) ∧
      bits (BitVec.ofNat 32 (q.n 4 4)).toNat 25 6 ≠ 0 then Code.ST_RESERVED_NONZERO else Code.ST_BAD_PARAM) := by
  grind [louvreBody]

@[simp] theorem objBusy_nil (h : HostState) : h.objBusy [] = false := by
  simp only [HostState.objBusy, List.any_eq_false]
  intro e _
  cases e.2 <;> simp

/-- The unit of a boot load: ticket numbers start again at 1 (R437). -/
def State.firstTicket (s : State) : State := { s with host := { s.host with nextTicket := 1 } }

/-- The unit once a boot load is accepted: its ticket is issued and BOOT_STATE reads AUTH. -/
def State.bootIssued (s : State) (q : Req) : State :=
  let t := s.firstTicket.issue q (.bootLoad (q.n 0 8) (q.n 8 4)) false (q.n 8 4)
  { t with host := { t.host with bootState := 2 } }

theorem firstTicket_accepts (s : State) (a n : Nat) : s.firstTicket.accepts (.bootLoad a n) = !s.host.ticketsFull := by
  simp only [State.accepts, Work.objs, objBusy_nil, Bool.not_false, Bool.and_true]
  rfl

theorem bootLoadBody_eq {s : State} {q : Req} (hq : q.n 8 4 ≤ 0x300000) :
    bootLoadBody s q =
      let r := s.firstTicket.accept q (.bootLoad (q.n 0 8) (q.n 8 4)) false (q.n 8 4)
      if r.st = Code.ST_ACCEPTED then { r with s := { r.s with host := { r.s.host with bootState := 2 } } } else refuse s r.st :=
  if_neg (Nat.not_lt.mpr hq)

theorem bootLoadBody_accepts {s : State} {q : Req} (hq : q.n 8 4 ≤ 0x300000) (hf : s.host.ticketsFull = false) :
    bootLoadBody s q = { st := Code.ST_ACCEPTED, tk := 1, s := s.bootIssued q } := by
  rw [bootLoadBody_eq hq, accept_issue (by simp [firstTicket_accepts, hf])]
  rfl

theorem bootLoadBody_busy {s : State} {q : Req} (hq : q.n 8 4 ≤ 0x300000) (hf : s.host.ticketsFull = true) :
    bootLoadBody s q = refuse s Code.ST_BUSY := by
  rw [bootLoadBody_eq hq, accept_busy (by simp [firstTicket_accepts, hf])]
  rfl

theorem bootIssued_facts (s : State) (q : Req) :
    (s.bootIssued q).host.bootState = 2 ∧ (s.bootIssued q).host.nextTicket = 2 ∧
      (∃ k : Ticket, (s.bootIssued q).ticket 1 = some k ∧ k.work = .bootLoad (q.n 0 8) (q.n 8 4) ∧ k.final = none ∧
        k.total = BitVec.ofNat 64 (q.n 8 4)) ∧
      s.bootIssued q = { s with host := { s.host with bootState := 2, nextTicket := 2, tickets := (s.bootIssued q).host.tickets } } := by
  refine ⟨rfl, rfl, ?_, rfl⟩
  simp [State.bootIssued, State.issue, State.ticket, State.setTicket, State.firstTicket]

/-- Settles O23: each command's answer is its body's. -/
theorem systemCommandsAnswer : Obligations.SystemCommandsAnswer := by
  unfold Obligations.SystemCommandsAnswer
  refine ⟨?_, ?_, ?_, ?_, ?_, ?_, ?_, ?_, ?_, ?_⟩
  · intro s src q h
    exact exec_done rfl h rfl
  · intro s src q h tk
    exact (exec_served rfl h).trans (congrArg _ (ticketBody_answer s q))
  · intro s src q h tk
    exact (exec_served rfl h).trans (congrArg _ (cancelBody_answer s q))
  · intro s src q h
    have hlen : (descriptor s.id.b0).length = 14 := by cases s.id.b0 <;> rfl
    rw [← hlen]
    exact exec_done rfl h rfl
  · intro s src q h
    rw [exec_served rfl h, inventoryBody_eq, answer_ite, answer_done, answer_refuse]
  · intro s src q h v vc2 hn hv hr h1 h2 w
    refine ⟨?_, ?_⟩
    · simp [w, lvw_writeLvw]
    · rw [exec_served rfl h, louvreBody_write hn hv hr h1 h2]
      rfl
  · intro s src q h v badStop badWord hbad
    rw [exec_refused rfl h (louvreBody_bad hbad)]
  · intro s src q h hq hf
    exact ⟨s.bootIssued q, by rw [exec_served rfl h, bootLoadBody_accepts hq hf]; rfl, bootIssued_facts s q⟩
  · intro s src q h hq
    exact exec_refused rfl h (if_pos hq)
  · intro s src q h hq hf
    exact exec_refused rfl h (bootLoadBody_busy hq hf)

end Sys2Proof.Machine
end

section
set_option Elab.async false
/-! The key slots (R134, R449). -/

namespace Sys2Proof.Machine

theorem keyslotInstallBody_eq {s : State} {q : Req} (hq : q.n 0 1 < 4) :
    keyslotInstallBody s q = if tget [] s.host.keys (q.n 0 1) = [] then
        done { s with host := s.host.setKey (q.n 0 1) (bytesAt q.pay 4 97) } (s.host.setKey (q.n 0 1) (bytesAt q.pay 4 97)).keyRecord
      else refuse s Code.ST_RESOURCE_BUSY := by
  simp [keyslotInstallBody, Nat.not_le.mpr hq]

theorem keyslotRevokeBody_eq {s : State} {q : Req} (hq : q.n 0 1 < 4) :
    keyslotRevokeBody s q = if tget [] s.host.keys (q.n 0 1) = [] then refuse s Code.SC_KEY_SLOT_EMPTY
      else done { s with host := s.host.setKey (q.n 0 1) [] } (s.host.setKey (q.n 0 1) []).keyRecord := by
  simp [keyslotRevokeBody, Nat.not_le.mpr hq]

theorem keyslotReadBody_eq {s : State} {q : Req} (hq : q.n 0 1 < 4) :
    keyslotReadBody s q = if tget [] s.host.keys (q.n 0 1) = [] then refuse s Code.SC_KEY_SLOT_EMPTY
      else done s (s.host.keyRecord ++ [0, 0] ++ sha384 (tget [] s.host.keys (q.n 0 1))) := by
  simp [keyslotReadBody, Nat.not_le.mpr hq, leBytes]

/-- Settles O24: each body's cases are the slot's range and whether it holds a key. -/
theorem keySlotsInstallRevokeReadAndLock : Obligations.KeySlotsInstallRevokeReadAndLock := by
  unfold Obligations.KeySlotsInstallRevokeReadAndLock
  refine ⟨?_, ?_, ?_, ?_, ?_, ?_⟩
  · intro s src q h hq
    rw [exec_served rfl h, keyslotInstallBody_eq hq, answer_ite, answer_done, answer_refuse]
    rfl
  · intro s src q h hq
    rw [exec_served rfl h, keyslotRevokeBody_eq hq, answer_ite, answer_done, answer_refuse]
    rfl
  · intro s src q h hq
    rw [exec_served rfl h, keyslotReadBody_eq hq, answer_ite, answer_done, answer_refuse]
  · intro s src q h hq
    exact exec_done rfl h (if_neg (Nat.not_le.mpr hq))
  · intro s src q hq
    exact ⟨fun h => exec_refused rfl h (if_pos hq), fun h => exec_refused rfl h (if_pos hq),
      fun h => exec_refused rfl h (if_pos hq), fun h => exec_refused rfl h (if_pos hq)⟩
  · intro h
    simp [HostState.keyRecord, b2n, List.range, List.range.loop, Finset.sum_range_succ]
    cases h.signedOnly <;> rfl

end Sys2Proof.Machine
end

section
set_option Elab.async false
/-! The site commands (R150, R452): a reset of one site may fault another. -/

namespace Sys2Proof.Machine

/-- RUNNING site 0 names sash 5, which belongs to RUNNING site 1; its fail set is closing, and the buffer of the sash's lane holds a
record in a poisoned line. SITE_RESET of site 0 waits. -/
def poisonedClose : State :=
  let s : State := { State.reset with mem := { State.reset.mem with check := [(padWord 5 0, some .poison)] } }
  let s := s.setSite 0 { state := .running, img := { sashes := [5] }, fl := { closing := true } }
  let s := s.setSite 1 { state := .running }
  let s := s.setSash 5 { cfg := { site := some 1 } }
  (s.setLane 5 { fail := { buf := [(0, 0)] } }).withCommand 0x0206 [0]

/-- The fail close of site 0 meets the poisoned line, and the fault goes to the site the sash belongs to. -/
theorem resetSite_poisonedClose : ((poisonedClose.resetSite 0).site 1).state ≠ (poisonedClose.site 1).state := by
  decide +kernel

theorem poisonedClose_served : ∃ q : Req,
    poisonedClose.serves 0 { op := 0x0206, need := 1, cov := [(0, 1)] } = some q ∧ q.n 0 1 = 0 := by
  obtain ⟨q, hs, hq⟩ := serves_of_any (s := poisonedClose) (p := fun q => q.n 0 1 == 0)
    (src := 0) (sp := { op := 0x0206, need := 1, cov := [(0, 1)] }) (by decide +kernel)
  exact ⟨q, hs, by simpa using hq⟩

/-- Refutes O27: SITE_RESET of site 0 takes site 1 from RUNNING to FAULTED where a sash that site 0 names belongs to site 1. -/
theorem not_siteCommandsAnswerOrMoveTheSite : ¬ Obligations.SiteCommandsAnswerOrMoveTheSite := by
  unfold Obligations.SiteCommandsAnswerOrMoveTheSite
  rintro ⟨-, hreset, -, -⟩
  obtain ⟨q, hs, hq⟩ := poisonedClose_served
  obtain ⟨-, h⟩ := hreset poisonedClose 0 q hs
  obtain ⟨-, -, -, hkeep⟩ := h (by omega)
  rw [hq] at hkeep
  exact resetSite_poisonedClose (hkeep 1 (by decide))

end Sys2Proof.Machine
end

section
set_option Elab.async false
/-! What leaves the `sites` of the unit as they are. -/

namespace Sys2Proof.Machine

theorem foldl_sites {α} {f : State → α → State} (hf : ∀ s x, (f s x).sites = s.sites) (l : List α) (s : State) :
    (l.foldl f s).sites = s.sites := by
  induction l generalizing s with
  | nil => rfl
  | cons a l ih => exact (ih _).trans (hf s a)

theorem State.modSash_sites (s : State) (n f) : (s.modSash n f).sites = s.sites := by
  grind [State.modSash, State.setSash_sites]

theorem State.modSashes_sites (s : State) (l f) : (s.modSashes l f).sites = s.sites := by
  grind [State.modSashes, foldl_sites, State.modSash_sites]

theorem State.modLane_sites (s : State) (n f) : (s.modLane n f).sites = s.sites := by
  grind [State.modLane, State.setLane_sites]

theorem State.modLanes_sites (s : State) (l f) : (s.modLanes l f).sites = s.sites := by
  grind [State.modLanes, foldl_sites, State.modLane_sites]

theorem State.modTrig_sites (s : State) (n f) : (s.modTrig n f).sites = s.sites := by
  grind [State.modTrig, State.setTrig_sites]

theorem State.modTrigs_sites (s : State) (l f) : (s.modTrigs l f).sites = s.sites := by
  grind [State.modTrigs, foldl_sites, State.modTrig_sites]

theorem State.retain_sites (s : State) (n) : (s.retain n).sites = s.sites := by
  grind [State.retain, State.setTicket_sites]

theorem State.setIrq_sites (s : State) (i) : (s.setIrq i).sites = s.sites := by
  grind [State.setIrq]

theorem State.postEvent_sites (s : State) (e') : (s.postEvent e').sites = s.sites := by
  grind [State.postEvent, State.retain_sites, State.setIrq_sites]

theorem State.post_sites (s : State) (kind st site obj hi data) : (s.post kind st site obj hi data).sites = s.sites := by
  grind [State.post, State.postEvent_sites]

theorem State.postNotice_sites (s : State) (st site obj action cycle detail) : (s.postNotice st site obj action cycle detail).sites = s.sites := by
  grind [State.postNotice, State.post_sites]

end Sys2Proof.Machine
end

section
set_option Elab.async false
/-! Run control and the settings of a site (R112, R223, R243, R411, R454, R455). -/

namespace Sys2Proof.Machine

theorem startable_iff (x : Site) : x.startable = true ↔ x.state = .armed ∧ x.unloading = false := by
  simp [Site.startable]

/-- START of single-unit sites: all of them, or none. -/
theorem startBody_local {s : State} {q : Req}
    (h : ∀ n ∈ (s.reqSites q).filter fun n => !((s.site n).img.root && (s.site n).startAt.isSome), (s.site n).img.nparts = 0) :
    startBody s q =
      let l := (s.reqSites q).filter fun n => !((s.site n).img.root && (s.site n).startAt.isSome)
      if ∀ n ∈ l, (s.site n).state = .armed ∧ (s.site n).unloading = false then done (l.foldl (fun s n => s.startSite n) s) []
      else refuse s Code.ST_SITE_STATE := by
  unfold startBody
  extract_lets l
  have h1 : (l.any fun n => (s.site n).img.nparts != 0) = false := by
    simp only [List.any_eq_false, bne_iff_ne, ne_eq, not_not]
    exact h
  have h2 : (l.any fun n => !(s.site n).startable) = true ↔
      ¬∀ n ∈ l, (s.site n).state = .armed ∧ (s.site n).unloading = false := by
    simp only [List.any_eq_true, ← startable_iff]
    push Not
    simp
  rw [h1, if_neg (by decide)]
  by_cases hl : ∀ n ∈ l, (s.site n).state = .armed ∧ (s.site n).unloading = false
  · rw [if_pos hl, if_neg (fun hc => h2.mp hc hl)]
  · rw [if_neg hl, if_pos (h2.mpr hl)]

theorem postRunStart_site (s : State) (n off m : Nat) :
    (s.postRunStart n off).site m = if m = n then { s.site n with startPosted := true } else s.site m := by
  unfold State.postRunStart
  simp only [State.site, State.postEvent_sites, State.modSite_eq]
  exact s.site_setSite n _ m

/-- What a start leaves in its site (R66, R454). -/
theorem site_startSite (s : State) (n : Nat) :
    ((s.startSite n).site n).state = .running ∧ ((s.startSite n).site n).c0 = (s.site n).cycle.toNat ∧
      ((s.startSite n).site n).cycle = (s.site n).cycle ∧ ((s.startSite n).site n).startTs = s.stamp ∧
      ((s.startSite n).site n).startAt = none ∧ ∀ m, m ≠ n → (s.startSite n).site m = s.site m := by
  unfold State.startSite
  extract_lets x l ts a b c d
  have hb : b.sites = s.sites := by simp only [a, b, State.modTrigs_sites, State.modLanes_sites, State.modSashes_sites]
  have hs : ∀ m, b.site m = s.site m := fun m => by simp only [State.site, hb]
  have hd : ∀ m, m ≠ n → d.site m = s.site m := fun m hm => by simp [d, c, State.moveSite, hm, hs]
  split
  · refine ⟨?_, ?_, ?_, ?_, ?_, fun m hm => by rw [postRunStart_site, if_neg hm, hd m hm]⟩ <;>
      simp [postRunStart_site, d, c, State.moveSite, hs, ts]
  · refine ⟨?_, ?_, ?_, ?_, ?_, hd⟩ <;> simp [d, c, State.moveSite, hs, ts]

@[simp] theorem answer_waitParts (s : State) (q : Req) : (waitParts s).answer q = s := rfl

/-- A START_AT refused as a whole, set, or passed on (R411, R455). -/
theorem startAtSites_answer (s : State) (q : Req) (l : List Nat) (time op : Nat) :
    (s.startAtSites q l time op).answer q =
      let mine := if q.own then l else l.filter fun n => !(s.site n).img.farPart
      let msgs := s.partMsgs mine 0x0304 time ++ (if q.own then [] else s.rootMsgs l op (if op = 0x0303 then 0 else time))
      let t := mine.foldl (fun s n => s.modSite n fun x => { x with startAt := some time }) s
      if ∃ n ∈ mine, (s.site n).state ≠ .armed ∨ (s.site n).unloading = true then s.reply q Code.ST_SITE_STATE [] 0
      else if s.time.servo = .unlocked then s.reply q Code.CH_TIME_UNLOCKED [] 0
      else if time < s.time.ns + 2000 then s.reply q Code.CH_TIME_PAST [] 0
      else if msgs = [] then t.reply q Code.ST_OK [] 0
      else t.askFor q.src mine msgs := by
  unfold State.startAtSites
  extract_lets mine msgs t u
  have ht : t = u := rfl
  rw [ht]
  have hbad : (mine.any fun n => !(s.site n).startable) = true ↔
      ∃ n ∈ mine, (s.site n).state ≠ .armed ∨ (s.site n).unloading = true := by
    simp only [List.any_eq_true, Bool.not_eq_true', ← Bool.not_eq_true, startable_iff, not_and_or, ne_eq, not_not]
  unfold State.startAtBad
  by_cases h1 : (mine.any fun n => !(s.site n).startable) = true
  · rw [if_pos h1, if_pos (hbad.mp h1)]
    rfl
  · rw [if_neg h1, if_neg (fun h => h1 (hbad.mpr h))]
    by_cases h2 : s.time.servo = .unlocked
    · rw [if_pos h2, if_pos h2]
      rfl
    · rw [if_neg h2, if_neg h2]
      by_cases h3 : time < s.time.ns + 2000
      · rw [if_pos h3, if_pos h3]
        rfl
      · rw [if_neg h3, if_neg h3]
        exact answer_ite ..

/-- START with a multi-unit site among its sites is a START_AT 50 µs on (R455). -/
theorem startBody_parts {s : State} {q : Req}
    (h : ∃ n ∈ (s.reqSites q).filter fun n => !((s.site n).img.root && (s.site n).startAt.isSome), (s.site n).img.nparts ≠ 0) :
    startBody s q = s.startAtSites q ((s.reqSites q).filter fun n => !((s.site n).img.root && (s.site n).startAt.isSome))
      (s.time.ns + 50000) 0x0303 := by
  unfold startBody
  exact if_pos (by simpa [and_assoc] using h)

theorem stopBody_answer (s : State) (q : Req) :
    (stopBody s q).answer q =
      let l := s.reqSites q
      let mine := l.filter fun n => !(s.site n).img.farPart
      let tell := mine.filter fun n => (s.site n).img.root && (s.site n).startAt.isSome
      let t := tell.foldl (fun u n => u.tellParts n 0x0305 (runPay (u.site n).img 0)) (s.stopSites mine)
      let far := s.rootMsgs l 0x0305 0
      if q.own ∧ ∀ n ∈ l, (s.site n).img.farPart then (s.stopSites l).reply q Code.ST_OK [] 0
      else if far = [] then t.reply q Code.ST_OK [] 0
      else t.askFor q.src [] far := by
  unfold stopBody
  simp only [List.all_eq_true, answer_ite, answer_done, answer_waitParts]

theorem policyBody_answer (s : State) (q : Req) :
    (policyBody s q).answer q =
      if 16 ≤ q.n 0 1 then s.reply q Code.ST_BAD_PARAM [] 0
      else if (s.site (q.n 0 1)).state ≠ .loaded ∧ (s.site (q.n 0 1)).state ≠ .halted then s.reply q Code.ST_SITE_STATE [] 0
      else if s.policyOk (q.n 0 1) (q.n 1 1) then
        (s.modSite (q.n 0 1) fun x => { x with img := { x.img with policy := BitVec.ofNat 8 (q.n 1 1) } }).reply q Code.ST_OK [] 0
      else s.reply q Code.ST_BAD_PARAM [] 0 := by
  unfold policyBody
  simp only [answer_ite, answer_done, answer_refuse]
  cases s.policyOk (q.n 0 1) (q.n 1 1) <;> simp

theorem watchdogBody_answer (s : State) (q : Req) :
    (watchdogBody s q).answer q =
      if 16 ≤ q.n 0 1 ∨ q.n 4 4 < 1024 ∨ 1048576 < q.n 4 4 then s.reply q Code.ST_BAD_PARAM [] 0
      else match (s.site (q.n 0 1)).state with
        | .running => s.reply q Code.ST_FIELD_BUSY [] 0
        | .empty | .loading => s.reply q Code.ST_SITE_STATE [] 0
        | _ => (s.modSite (q.n 0 1) fun x => { x with img := { x.img with watchdog := q.n 4 4 } }).reply q Code.ST_OK [] 0 := by
  unfold watchdogBody
  simp only [answer_ite, answer_done, answer_refuse]
  cases (s.site (q.n 0 1)).state <;> simp

theorem askHalt_running {s : State} {n : Nat} (h : (s.site n).state = .running) (hf : (s.site n).img.farPart = false) :
    ((s.askHalt n).site n).haltPend = true := by
  simp [State.askHalt, h, hf]

theorem startAt_cancelStartAt (s : State) (n : Nat) : ((s.cancelStartAt n).site n).startAt = none := by
  unfold State.cancelStartAt
  split
  · assumption
  · simp only [State.site, State.postNotice_sites, State.modSite_eq]
    exact congrArg Site.startAt ((s.site_setSite n _ n).trans (if_pos rfl))

/-- Settles O28: each command's answer is its body's, and the site operations change their site alone. -/
theorem runControlAndSiteSettings : Obligations.RunControlAndSiteSettings := by
  unfold Obligations.RunControlAndSiteSettings
  refine ⟨⟨?_, ?_, ?_, ?_, ?_⟩, ?_, ?_, ?_⟩
  · intro s src q h l hl
    rw [exec_served rfl h, startBody_local hl, answer_ite, answer_done, answer_refuse]
    rfl
  · intro s n hn t
    exact site_startSite s n
  · intro s src q at_ op h named l time mine msgs t hm
    cases at_ with
    | true =>
      exact (exec_served (c := .startAt src) rfl h).trans (congrArg _ (startAtSites_answer s q named time 0x0304))
    | false =>
      have hm := hm.resolve_left (by decide)
      refine (exec_served (c := .start src) rfl h).trans (congrArg _ ?_)
      rw [startBody_parts hm]
      exact startAtSites_answer s q l time 0x0303
  · intro s src q h l halt mine tell t far
    rw [exec_served rfl h]
    exact congrArg _ (stopBody_answer s q)
  · intro s n hn
    exact ⟨askHalt_running, fun h => if_pos h, startAt_cancelStartAt s n⟩
  · intro s src q h
    exact (exec_served rfl h).trans (congrArg _ (policyBody_answer s q))
  · intro s src q h
    exact (exec_served rfl h).trans (congrArg _ (watchdogBody_answer s q))
  · intro s src q h
    exact (exec_served rfl h).trans (congrArg _ (answer_ite ..))

end Sys2Proof.Machine
end

section
set_option Elab.async false
/-! The pin commands and the short fail commands (R204, R221, R257, R264, R535). -/

namespace Sys2Proof.Machine

theorem maskBody_answer (s : State) (q : Req) :
    (maskBody s q).answer q =
      if 64 ≤ q.n 0 1 ∨ q.n 2 1 = 0 ∨ 6 < q.n 2 1 ∨ q.pay.length < 16 + 32 * q.n 2 1 then s.reply q Code.ST_BAD_PARAM [] 0
      else if 2 ≤ q.n 3 1 ∨ zeroAt q.pay (16 + 32 * q.n 2 1) 240 = false then s.reply q Code.ST_RESERVED_NONZERO [] 0
      else if s.siteOf (q.n 0 1) = none then s.reply q Code.ST_SITE_STATE [] 0
      else if (s.lane (q.n 0 1)).mode ≠ .pin ∨ (s.lane (q.n 0 1)).pins < q.n 1 1 + q.n 2 1 then s.reply q Code.ST_BAD_PARAM [] 0
      else (s.modLane (q.n 0 1) fun l =>
        { l with
          masks := l.masks.writeRows (q.n 1 1) ((List.range (q.n 2 1)).map fun j => BitVec.ofNat 256 (q.n (16 + 32 * j) 32))
            (q.n 3 1 == 1) }).reply q Code.ST_OK [] 0 := by
  unfold maskBody
  simp only [answer_ite, answer_done, answer_refuse, Option.isNone_iff_eq_none]

theorem maskSwapBody_answer (s : State) (q : Req) :
    (maskSwapBody s q).answer q =
      if 2 ^ 48 ≤ q.n 8 8 then s.reply q Code.ST_RESERVED_NONZERO [] 0
      else if ∃ i ∈ maskBits (q.n 0 8), s.siteOf i = none then s.reply q Code.ST_SITE_STATE [] 0
      else (s.modLanes (maskBits (q.n 0 8)) fun x => { x with masks := { x.masks with swap := some (q.n 8 8) } }).reply q
        Code.ST_OK [] 0 := by
  unfold maskSwapBody
  simp only [answer_ite, answer_done, answer_refuse, List.any_eq_true, Option.isNone_iff_eq_none]

/-- A field written by command: at once where the site does not run, a PINMASK from the next cycle, any other field from the next
frame (R11, R535). -/
theorem commandField_eq (l : Lane) (running : Bool) (c0 pin field v : Nat) :
    l.commandField running c0 pin field v =
      let at_ (c : PinCfg) : PinCfg :=
        if field = 1 then { c with pinmask := putBit c.pinmask pin (bit v 0) } else c.setField field v
      if running = false then { l with cfg := at_ l.cfg }
      else if field = 1 then
        { l with
          cfg := at_ l.cfg
          masks := l.masks.enforce (l.nextCycle c0) l.cfg.pinmask fun e => { e with pinmask := putBit e.pinmask pin (bit v 0) } }
      else { l with pinLater := l.pinLater ++ [(0, field, v)] } := by
  by_cases h : field = 1
  · subst h
    cases running <;> rfl
  · cases running <;> simp [h, Lane.commandField]

theorem pinfieldBody_answer (s : State) (q : Req) :
    (pinfieldBody s q).answer q =
      if 64 ≤ q.n 0 1 then s.reply q Code.ST_BAD_PARAM [] 0
      else match s.siteOf (q.n 0 1) with
        | none => s.reply q Code.ST_SITE_STATE [] 0
        | some n =>
          if (s.lane (q.n 0 1)).mode ≠ .pin ∨ pinFieldOk (s.lane (q.n 0 1)).cfg (q.n 1 1) (q.n 2 1) (q.n 4 4) true = false then
            s.reply q Code.ST_BAD_PARAM [] 0
          else if s.rwireBad (q.n 0 1) (q.n 2 1) (q.n 4 4) then s.reply q Code.TF_WIRE_CONTENTION [] 0
          else (s.modLane (q.n 0 1) fun l =>
            l.commandField ((s.site n).state == .running) (s.site n).c0 (q.n 1 1) (q.n 2 1) (q.n 4 4)).reply q Code.ST_OK [] 0 := by
  unfold pinfieldBody
  cases h : s.siteOf (q.n 0 1) <;> simp only [h, answer_ite, answer_done, answer_refuse]

theorem filterBody_answer (s : State) (q : Req) :
    (filterBody s q).answer q =
      if 512 ≤ q.n 2 2 ∨ 28 < q.n 4 1 ∨ 512 < q.n 2 2 + q.n 4 1 ∨ q.pay.length < 8 + 8 * q.n 4 1 then s.reply q Code.ST_BAD_PARAM [] 0
      else if 2 ≤ q.n 1 1 ∨ zeroAt q.pay (8 + 8 * q.n 4 1) 240 = false then s.reply q Code.ST_RESERVED_NONZERO [] 0
      else match s.filterSite (q.n 0 1) with
        | some st => s.reply q st [] 0
        | none => (s.modSite (q.n 0 1) fun x =>
            { x with
              filt := x.filt.writeRows (q.n 2 2) ((List.range (q.n 4 1)).map fun j => BitVec.ofNat 64 (q.n (8 + 8 * j) 8))
                (q.n 1 1 == 1) }).reply q Code.ST_OK [] 0 := by
  unfold filterBody
  cases h : s.filterSite (q.n 0 1) <;> simp only [h, answer_ite, answer_done, answer_refuse]

theorem filterSwapBody_answer (s : State) (q : Req) :
    (filterSwapBody s q).answer q =
      if 2 ^ 48 ≤ q.n 8 8 then s.reply q Code.ST_RESERVED_NONZERO [] 0
      else match s.filterSite (q.n 0 1) with
        | some st => s.reply q st [] 0
        | none => (s.modSite (q.n 0 1) fun x => { x with filt := { x.filt with swap := some (q.n 8 8) } }).reply q Code.ST_OK [] 0 := by
  unfold filterSwapBody
  cases s.filterSite (q.n 0 1) <;> simp only [answer_ite, answer_done, answer_refuse]

/-- The header at `a` is the one of the OPEN set of site `m` (R257). -/
def State.liveSet (s : State) (a m : Nat) : Bool :=
  (s.site m).fl.open_ && (s.site m).img.failcfg.present && (s.site m).recBase == a

/-- FAIL_SUMMARY of a header within range: the live counts, or the header in memory (R257). -/
theorem failSummaryBody_answer {s : State} {q : Req} (hp : q.n 2 1 < 4)
    (hk : q.n 8 8 = 0 → q.n 0 1 < 16 ∧ q.n 1 1 < (s.site (q.n 0 1)).img.failcfg.nsets) :
    (failSummaryBody s q).answer q =
      let a := if q.n 8 8 ≠ 0 then q.n 8 8 else tget 0 (s.site (q.n 0 1)).img.failcfg.recBase (q.n 1 1)
      match (List.range 16).find? (s.liveSet a) with
      | some m => s.reply q Code.ST_OK (hdrPart ((s.site m).failHeader m 2) (q.n 2 1)) 0
      | none =>
        match s.readHeader a with
        | (.error st, u) => u.reply q st [] 0
        | (.ok b, u) => u.reply q Code.ST_OK (hdrPart b (q.n 2 1)) 0 := by
  unfold failSummaryBody
  extract_lets n k x hdr a live a'
  have hx : ¬(hdr = 0 ∧ (16 ≤ n ∨ x.img.failcfg.nsets ≤ k)) := by
    rintro ⟨h0, h⟩
    obtain ⟨h1, h2⟩ := hk h0
    exact h.elim (Nat.not_le.mpr h1) (Nat.not_le.mpr h2)
  rw [if_neg (by omega), if_neg hx]
  have hl : live = (List.range 16).find? (s.liveSet a') := rfl
  rw [hl]
  cases (List.range 16).find? (s.liveSet a') with
  | some m => rfl
  | none =>
    dsimp only
    have ha : a = a' := rfl
    rw [ha]
    rcases s.readHeader a' with ⟨_ | b, u⟩ <;> rfl

theorem failSummaryBody_bad {s : State} {q : Req}
    (h : 4 ≤ q.n 2 1 ∨ (q.n 8 8 = 0 ∧ (16 ≤ q.n 0 1 ∨ (s.site (q.n 0 1)).img.failcfg.nsets ≤ q.n 1 1))) :
    failSummaryBody s q = refuse s Code.ST_BAD_PARAM := by
  unfold failSummaryBody
  extract_lets n k x hdr a live
  by_cases hp : 4 ≤ q.n 2 1
  · rw [if_pos hp]
  · rw [if_neg hp, if_pos (h.resolve_left hp)]

/-- Settles O29: each command's answer is its body's, the PINFIELD cases by the field and the site's state. -/
theorem pinAndFailCommands : Obligations.PinAndFailCommands := by
  unfold Obligations.PinAndFailCommands
  refine ⟨⟨?_, ?_, ?_, ?_⟩, ?_, ?_, ?_, ?_⟩
  · intro s src q h i k
    exact (exec_served rfl h).trans (congrArg _ (maskBody_answer s q))
  · intro s src q h
    exact (exec_served rfl h).trans (congrArg _ (maskSwapBody_answer s q))
  · intro s src q h i
    rw [exec_served rfl h, pinfieldBody_answer]
    simp only [commandField_eq, beq_eq_false_iff_ne]
    rfl
  · intro s src q h
    exact (exec_served rfl h).trans (congrArg _ (answer_ite ..))
  · intro s src q h
    refine ⟨fun hb => exec_refused rfl h (failSummaryBody_bad hb), fun hp hk => ?_⟩
    extract_lets a isLive
    have hlive : ∀ m, s.liveSet a m = true ↔ isLive m := fun m => by simp [State.liveSet, isLive, and_assoc]
    rw [exec_served rfl h, failSummaryBody_answer hp hk]
    refine ⟨fun m hm hl hfirst => ?_, fun hnone => ?_⟩
    · have hf : (List.range 16).find? (s.liveSet a) = some m := by
        rw [List.find?_range_eq_some]
        exact ⟨(hlive m).mpr hl, List.mem_range.mpr hm, fun j hj => by simpa [← hlive] using hfirst j hj⟩
      dsimp only
      rw [hf]
    · have hf : (List.range 16).find? (s.liveSet a) = none := by
        rw [List.find?_eq_none]
        exact fun m hm hl => hnone m (List.mem_range.mp hm) ((hlive m).mp hl)
      dsimp only
      rw [hf] <;> rfl
  · intro s src q h
    exact (exec_served rfl h).trans (congrArg _ (filterBody_answer s q))
  · intro s src q h
    exact (exec_served rfl h).trans (congrArg _ (filterSwapBody_answer s q))
  · intro s n
    rfl

end Sys2Proof.Machine
end

section
set_option Elab.async false
/-! The trigger commands (R278, R282, R283). -/

namespace Sys2Proof.Machine

theorem trigfieldBody_answer (s : State) (q : Req) :
    (trigfieldBody s q).answer q =
      if 64 ≤ q.n 0 1 then s.reply q Code.ST_BAD_PARAM [] 0
      else match s.siteOf (q.n 0 1) with
        | none => s.reply q Code.ST_SITE_STATE [] 0
        | some n =>
          if trigRsv (q.n 1 1) (q.n 8 16) then s.reply q Code.ST_RESERVED_NONZERO [] 0
          else if (s.sash (q.n 0 1)).cfg.hasTrig = false ∨ trigFieldOk (s.lane (q.n 0 1)).cfg (q.n 1 1) (q.n 8 16) = false then
            s.reply q Code.ST_BAD_PARAM [] 0
          else if s.toutBusy (q.n 1 1) (q.n 8 16) then s.reply q Code.ST_RESOURCE_BUSY [] 0
          else (s.trigWrite n (q.n 0 1) (q.n 1 1) (q.n 8 16)).reply q Code.ST_OK [] 0 := by
  unfold trigfieldBody
  cases h : s.siteOf (q.n 0 1) <;> simp only [h, answer_ite, answer_done, answer_refuse]

theorem trigforceBody_answer (s : State) (q : Req) :
    (trigforceBody s q).answer q =
      if 64 ≤ q.n 0 1 then s.reply q Code.ST_BAD_PARAM [] 0
      else if s.siteOf (q.n 0 1) ≠ none ∧ (s.trig (q.n 0 1)).state = .ready then
        (s.setTrig (q.n 0 1) { s.trig (q.n 0 1) with
          ext := some (joinExt (s.trig (q.n 0 1)).ext (s.trig (q.n 0 1)).slot 0x40) }).reply q Code.ST_OK [] 0
      else s.reply q Code.ST_OK [] 0 := by
  unfold trigforceBody
  cases h : s.siteOf (q.n 0 1) with
  | none => simp [h, answer_ite]
  | some n =>
    by_cases hr : (s.trig (q.n 0 1)).state = .ready <;> simp [h, hr, answer_ite, State.fireExternal]

theorem rearmBody_answer (s : State) (q : Req) :
    (rearmBody s q).answer q =
      if 64 ≤ q.n 0 1 then s.reply q Code.ST_BAD_PARAM [] 0
      else if ∃ n, s.siteOf (q.n 0 1) = some n ∧ (s.trig (q.n 0 1)).state = .done ∧
          ((s.site n).state = .armed ∨ (s.site n).state = .running) then
        (s.modTrig (q.n 0 1) Trig.rearm).reply q Code.ST_OK [] 0
      else s.reply q Code.ST_SITE_STATE [] 0 := by
  unfold rearmBody
  cases h : s.siteOf (q.n 0 1) <;> simp [h, answer_ite]

/-- Settles O34: each command's answer is its body's. -/
theorem triggerCommandsActOnTheirUnit : Obligations.TriggerCommandsActOnTheirUnit := by
  unfold Obligations.TriggerCommandsActOnTheirUnit
  refine ⟨?_, ?_, ?_, fun t => ⟨rfl, rfl, rfl, rfl, rfl⟩, ?_⟩
  · intro s src q h i
    exact (exec_served rfl h).trans (congrArg _ (trigfieldBody_answer s q))
  · intro s src q h i t
    exact (exec_served rfl h).trans (congrArg _ (trigforceBody_answer s q))
  · intro s src q h i
    exact (exec_served rfl h).trans (congrArg _ (rearmBody_answer s q))
  · intro s src q h
    exact (exec_served rfl h).trans (congrArg _ (answer_ite ..))

end Sys2Proof.Machine
end

section
set_option Elab.async false
/-! The context commands (R314, R316, R459). -/

namespace Sys2Proof.Machine

/-- The answer of a CONTEXT write of class S. -/
theorem contextBody_answer (f : Req → LoadCtx → Option LoadCtx) (s : State) (q : Req) :
    (contextBody f s q).answer q =
      if 12 ≤ q.n 0 1 ∨ 8 ≤ q.n 1 1 then s.reply q Code.ST_BAD_PARAM [] 0
      else match f q ((s.casm (q.n 0 1)).ctxAt (q.n 1 1)) with
        | none => s.reply q Code.ST_BAD_PARAM [] 0
        | some v =>
          if (s.casm (q.n 0 1)).ctxNamed (q.n 1 1) then s.reply q Code.ST_FIELD_BUSY [] 0
          else (s.modCasm (q.n 0 1) fun c => c.setCtx (q.n 1 1) v).reply q Code.ST_OK [] 0 := by
  unfold contextBody
  cases h : f q ((s.casm (q.n 0 1)).ctxAt (q.n 1 1)) <;> simp only [h, answer_ite, answer_done, answer_refuse]

theorem contextBitTableBody_answer (s : State) (q : Req) :
    (contextBitTableBody s q).answer q =
      if 12 ≤ q.n 0 1 ∨ 8 ≤ q.n 1 1 ∨ q.n 6 1 = 0 ∨ 100 < q.n 6 1 ∨ q.pay.length < 8 + 2 * q.n 6 1 then
        s.reply q Code.ST_BAD_PARAM [] 0
      else if q.clean [(0, 3), (4, 3), (8, 2 * q.n 6 1)] = false then s.reply q Code.ST_RESERVED_NONZERO [] 0
      else if ((s.casm (q.n 0 1)).ctxAt (q.n 1 1)).nsc < q.n 4 2 + q.n 6 1 ∨ ∃ e ∈ q.halves (q.n 6 1), 12 < entryBits e then
        s.reply q Code.ST_BAD_PARAM [] 0
      else (s.modCasm (q.n 0 1) fun c =>
        let v := c.ctxAt (q.n 1 1)
        c.setCtx (q.n 1 1) { v with bits0 := tfill 0 v.bits0 (q.n 4 2) (q.halves (q.n 6 1)),
                                    bits1 := tfill 0 v.bits1 (q.n 4 2) (q.halves (q.n 6 1)) }).reply q Code.ST_OK [] 0 := by
  unfold contextBitTableBody
  simp only [answer_ite, answer_done, answer_refuse, List.any_eq_true, decide_eq_true_eq]

/-- Settles O36: forms 1 to 3 are one body over the fields they write. -/
theorem contextCommandsWriteTheirFields : Obligations.ContextCommandsWriteTheirFields := by
  unfold Obligations.ContextCommandsWriteTheirFields
  refine ⟨?_, ?_⟩
  · intro s src q c v bad put
    refine ⟨fun h => ?_, fun h => ?_, fun h => ?_⟩
    · refine (exec_served rfl h).trans (congrArg _ ((contextBody_answer ..).trans ?_))
      by_cases hn : q.n 6 2 = 0 ∨ 4096 < q.n 6 2
      · simp [bad, hn]
      · simp only [bad, hn, or_false, if_false]
        rfl
    · exact (exec_served rfl h).trans (congrArg _ (contextBody_answer ..))
    · exact (exec_served rfl h).trans (congrArg _ (contextBody_answer ..))
  · intro s src q h v o n
    exact (exec_served rfl h).trans (congrArg _ (contextBitTableBody_answer s q))

end Sys2Proof.Machine
end

section
set_option Elab.async false
/-! Links, streams and gain words (R317, R319, R329, R459). -/

namespace Sys2Proof.Machine

theorem linkCfgBody_answer (s : State) (q : Req) :
    (linkCfgBody s q).answer q =
      let l := linkOf q
      let rs := l.laneList.map fun i => (i, l.rate)
      let keep (i : Nat) : Bool := !l.laneList.contains i
      if 16 ≤ q.n 0 1 ∨ 1 < q.n 1 1 ∨ 1 < q.n 0x0A 1 then s.reply q Code.ST_BAD_PARAM [] 0
      else if s.streamsOf (q.n 0 1) ≠ [] then s.reply q Code.ST_SET_BUSY [] 0
      else if l.rate = 0 then (s.setSlink (q.n 0 1) none).reply q Code.ST_OK [] 0
      else if l.ok = false then s.reply q Code.ST_BAD_PARAM [] 0
      else if s.linkBusy (q.n 0 1) l = true ∨ s.quadsFit rs keep = false then s.reply q Code.ST_LANE_BUSY [] 0
      else (((s.setQuadRates rs keep).modLanes l.laneList fun y => { y with rate := l.rate }).setSlink (q.n 0 1) (some l)).reply q
        Code.ST_OK [] 0 := by
  unfold linkCfgBody
  extract_lets x l rs keep
  have he : (s.streamsOf x).isEmpty = false ↔ s.streamsOf x ≠ [] := by simp
  simp only [answer_ite, answer_done, answer_refuse, he]
  by_cases hb : s.linkBusy x l = true <;> simp [hb, x, l, rs, keep]

/-- STREAM_OPEN without a casement or a link in range. -/
theorem streamOpenBody_bad {s : State} {q : Req} (hq : q.n 3 1 < 8)
    (h : 12 ≤ (streamOf q).cas ∨ 16 ≤ (streamOf q).link ∨ s.slink (streamOf q).link = none) :
    streamOpenBody s q = refuse s Code.ST_BAD_PARAM := by
  unfold streamOpenBody
  extract_lets st
  rw [if_neg (by omega)]
  by_cases hc : 12 ≤ st.cas
  · rw [if_pos hc]
  · rw [if_neg hc]
    have hn : (if st.link < 16 then s.slink st.link else none) = none := by
      rcases h.resolve_left hc with hl | hl
      · exact if_neg (Nat.not_lt.mpr hl)
      · simp [st, hl]
    rw [hn]

theorem streamOpenBody_answer {s : State} {q : Req} {l : StreamLink} (hq : q.n 3 1 < 8) (hc : (streamOf q).cas < 12)
    (hl : (streamOf q).link < 16) (hs : s.slink (streamOf q).link = some l) :
    (streamOpenBody s q).answer q =
      let st := streamOf q
      if l.rx ≠ st.rx ∨ l.m / 2 ≤ st.j ∨ st.ok q = false then s.reply q Code.ST_BAD_PARAM [] 0
      else if (s.task st.task).any (·.cas == st.cas) = false then s.reply q Code.ST_NO_TASK [] 0
      else if (∃ i ∈ l.laneList, (s.lane i).mode ≠ .stream) ∨ ∃ i ∈ s.streamsOf st.link, (s.stream i).any (·.j == st.j) = true then
        s.reply q Code.ST_LANE_BUSY [] 0
      else if s.streamTooFast st.cas l (!st.rx) st.taps then s.reply q Code.ST_STREAM_RATE [] 0
      else match (List.range 256).find? fun j => (s.stream j).isNone with
        | none => s.reply q Code.ST_RESOURCE_BUSY [] 0
        | some j => (s.setStream j (some st)).reply q Code.ST_OK (leBytes j 1) 0 := by
  unfold streamOpenBody
  extract_lets st
  rw [if_neg (Nat.not_le.mpr hq), if_neg (Nat.not_le.mpr hc), if_pos hl, hs]
  simp only [answer_ite, answer_refuse, List.any_eq_true, bne_iff_ne]
  cases (List.range 256).find? fun j => (s.stream j).isNone <;> rfl

theorem streamCloseBody_answer (s : State) (q : Req) :
    (streamCloseBody s q).answer q =
      match s.stream (q.n 0 1) with
      | none => s.reply q Code.ST_BAD_PARAM [] 0
      | some st =>
        ((if st.rx = true ∧ 128 ≤ st.rxBuf.length then s.rxBlock (q.n 0 1) st else s).closeStream (q.n 0 1)).reply q Code.ST_OK [] 0 := by
  unfold streamCloseBody
  cases h : s.stream (q.n 0 1) <;> simp only [h, answer_done, answer_refuse]

/-- Settles O37: each command's answer is its body's. -/
theorem streamCommandsOpenAndClose : Obligations.StreamCommandsOpenAndClose := by
  unfold Obligations.StreamCommandsOpenAndClose
  refine ⟨?_, ?_, ?_, ?_⟩
  · intro s src q h x l rs keep
    exact (exec_served rfl h).trans (congrArg _ (linkCfgBody_answer s q))
  · intro s src q h st
    refine ⟨fun hq => exec_refused rfl h (if_pos hq), fun hq hb => exec_refused rfl h (streamOpenBody_bad hq hb), ?_⟩
    intro l hq hc hl hs
    exact (exec_served rfl h).trans (congrArg _ (streamOpenBody_answer hq hc hl hs))
  · intro s src q h
    exact (exec_served rfl h).trans (congrArg _ (streamCloseBody_answer s q))
  · intro s src q h f w
    refine (exec_served rfl h).trans (congrArg _ ?_)
    unfold gainBody
    simp only [answer_ite, answer_done, answer_refuse]
    rfl

end Sys2Proof.Machine
end

section
set_option Elab.async false
/-! The settings of a stream (R323 to R328, R460). -/

namespace Sys2Proof.Machine

/-- The answer of a STREAM_CFG. -/
theorem streamCfgBody_answer (rx : Bool) (f : State → Req → Stream → Except Status Stream) (s : State) (q : Req) :
    (streamCfgBody rx f s q).answer q =
      match s.stream (q.n 0 1) with
      | none => s.reply q Code.ST_BAD_PARAM [] 0
      | some st =>
        if st.rx ≠ rx then s.reply q Code.ST_BAD_PARAM [] 0
        else match f s q st with
          | .error e => s.reply q e [] 0
          | .ok x => (s.setStream (q.n 0 1) (some x)).reply q Code.ST_OK [] 0 := by
  unfold streamCfgBody
  cases h : s.stream (q.n 0 1) with
  | none => rfl
  | some st =>
    simp only [answer_ite, answer_refuse]
    cases f s q st <;> rfl

/-- What a changed stream, or the code that refuses it, answers. -/
def State.streamAnswer (s : State) (q : Req) : Except Status Stream → State
  | .error e => s.reply q e [] 0
  | .ok x => (s.setStream (q.n 0 1) (some x)).reply q Code.ST_OK [] 0

theorem streamAnswer_ite (s : State) (q : Req) (c : Prop) [Decidable c] (a b : Except Status Stream) :
    s.streamAnswer q (if c then a else b) = if c then s.streamAnswer q a else s.streamAnswer q b := by
  split <;> rfl

/-- The cases of a ramp write, by the range first and the burst and stepping after it. -/
theorem streamAnswer_ramp (s : State) (q : Req) (l : List (BitVec 16)) (a a' : Prop) [Decidable a] [Decidable a'] (burst b0 : Bool)
    (x y : Stream) :
    s.streamAnswer q (if a ∨ a' ∨ l.any (fun v => decide (32768 < v.toNat)) = true then .error Code.ST_BAD_PARAM
        else if burst then (if b0 then .ok x else .error Code.ST_FIELD_BUSY) else .ok y) =
      if a ∨ a' ∨ ∃ v ∈ l, 32768 < v.toNat then s.reply q Code.ST_BAD_PARAM [] 0
      else if burst = false then s.streamAnswer q (.ok y)
      else if b0 then s.streamAnswer q (.ok x) else s.reply q Code.ST_FIELD_BUSY [] 0 := by
  simp only [List.any_eq_true, decide_eq_true_eq, streamAnswer_ite]
  cases burst <;> rfl

theorem exec_streamCfg {c : Instr} {s : State} {src : Nat} {sp : CmdSpec} {q : Req} {rx : Bool}
    {f : State → Req → Stream → Except Status Stream} (hc : exec c s = .next (s.command src sp (streamCfgBody rx f)))
    (h : s.serves src sp = some q) :
    exec c s = .next (match s.stream (q.n 0 1) with
      | none => s.reply q Code.ST_BAD_PARAM [] 0
      | some st => if st.rx ≠ rx then s.reply q Code.ST_BAD_PARAM [] 0 else s.streamAnswer q (f s q st)) := by
  rw [exec_served hc h, streamCfgBody_answer]
  cases s.stream (q.n 0 1) with
  | none => rfl
  | some st =>
    dsimp only
    cases f s q st <;> rfl

theorem hypothesisBody_answer {s : State} {q : Req} {st : Stream} (hs : s.stream (q.n 0 1) = some st) :
    (hypothesisBody s q).answer q =
      if st.rx = false ∨ 7 < q.n 2 1 ∨ 1 < q.n 3 1 then s.reply q Code.ST_BAD_PARAM [] 0
      else if q.n 3 1 = 0 then
        (s.setStream (q.n 0 1) (some { st with hyp := tset {} st.hyp (q.n 2 1) {} })).reply q Code.ST_OK [] 0
      else if q.n 8 2 < 16 ∨ 1024 < q.n 8 2 ∨ inShared (q.n 4 4) (4 * q.n 8 2) = false then s.reply q Code.ST_BAD_PARAM [] 0
      else if st.searched = false ∧ (16 ≤ s.sumStreams (fun x => x.cas == st.cas && x.searched) (fun _ => 1) ∨
          64 ≤ s.sumStreams Stream.searched (fun _ => 1)) then s.reply q Code.ST_RESOURCE_BUSY [] 0
      else
        let (b, poison, u) := s.memRead (casAddr st.cas (q.n 4 4)) (4 * q.n 8 2)
        if poison then u.reply q Code.DI_POISON_READ [] 0
        else (u.setStream (q.n 0 1) (some
          { st with
            hyp := tset {} st.hyp (q.n 2 1)
              { reflen := q.n 8 2
                th := BitVec.ofNat 32 (q.n 0x0C 4)
                pw := BitVec.ofNat 8 (q.n 0x0A 1)
                ref := (wordsOf 4 (q.n 8 2) b).map (BitVec.ofNat 32) } })).reply q Code.ST_OK [] 0 := by
  obtain ⟨f, hf⟩ : ∃ f, hypothesisBody = f := ⟨_, rfl⟩
  obtain ⟨g, hg⟩ : ∃ g, State.memRead = g := ⟨_, rfl⟩
  obtain ⟨ca, hca⟩ : ∃ ca, casAddr = ca := ⟨_, rfl⟩
  rw [hf, hg, hca]
  delta hypothesisBody at hf
  rw [hg, hca] at hf
  rw [← hf]
  simp only [hs, answer_ite, answer_refuse, answer_done]
  rcases g s (ca st.cas (q.n 4 4)) (4 * q.n 8 2) with ⟨b, _ | _, u⟩ <;> rfl

/-- Settles O38: six forms are one body over the change they make, and a hypothesis reads its reference. -/
theorem streamSettingsReachTheStream : Obligations.StreamSettingsReachTheStream := by
  unfold Obligations.StreamSettingsReachTheStream
  refine ⟨?_, ?_⟩
  · intro s src q form c hm h ok no bad table ramp
    simp only [List.mem_cons, Prod.mk.injEq, List.not_mem_nil, or_false] at hm
    obtain ⟨rfl, rfl⟩ | ⟨rfl, rfl⟩ | ⟨rfl, rfl⟩ | ⟨rfl, rfl⟩ | ⟨rfl, rfl⟩ | ⟨rfl, rfl⟩ := hm
    · rw [exec_streamCfg rfl h]
      cases s.stream (q.n 0 1) with
      | none => rfl
      | some st =>
        dsimp only [table]
        cases q.tableRefusal [(0, 3), (4, 3)] (q.n 6 1) with
        | some e => rfl
        | none => simp only [streamAnswer_ite]; rfl
    · rw [exec_streamCfg rfl h]
      simp only [streamAnswer_ite]
      rfl
    · rw [exec_streamCfg rfl h]
      cases s.stream (q.n 0 1) with
      | none => rfl
      | some st =>
        dsimp only [ramp, table]
        cases q.tableRefusal [(0, 4)] (q.n 3 1) with
        | some e => rfl
        | none => simp only [streamAnswer_ramp]; rfl
    · rw [exec_streamCfg rfl h]
      cases s.stream (q.n 0 1) with
      | none => rfl
      | some st =>
        dsimp only [ramp, table]
        cases q.tableRefusal [(0, 4)] (q.n 3 1) with
        | some e => rfl
        | none => simp only [streamAnswer_ramp]; rfl
    · rw [exec_streamCfg rfl h]
      cases s.stream (q.n 0 1) with
      | none => rfl
      | some st =>
        dsimp only [table]
        cases q.tableRefusal [(0, 7)] (q.n 6 1) with
        | some e => rfl
        | none => simp only [streamAnswer_ite]; rfl
    · rw [exec_streamCfg rfl h]
      simp only [streamAnswer_ite]
      rfl
  · intro s src q h
    refine ⟨fun hs => exec_refused rfl h (by simp [hypothesisBody, hs]), fun st hs => ?_⟩
    exact (exec_served rfl h).trans (congrArg _ (hypothesisBody_answer hs))

end Sys2Proof.Machine
end

section
set_option Elab.async false
/-! The job commands, the event map and the casement control word (R292 to R301). -/

namespace Sys2Proof.Machine

/-- The form of a served command is its row's. -/
theorem serves_formByte {s : State} {src : Nat} {sp : CmdSpec} {q : Req} {o v : Nat} (h : s.serves src sp = some q)
    (hf : sp.form = some (o, v)) : q.n o 1 = v := by
  have := serves_form h
  simp only [CmdSpec.fits, hf, Bool.and_eq_true, beq_iff_eq] at this
  exact this.2

theorem jobUnloadBody_answer (s : State) (q : Req) :
    (jobUnloadBody s q).answer q =
      if 12 ≤ q.n 0 1 ∨ (∀ g ∈ (s.casm (q.n 0 1)).images, g.id ≠ BitVec.ofNat 64 (q.n 8 8)) then s.reply q Code.ST_BAD_PARAM [] 0
      else if (s.tasksOf (q.n 0 1)).any (·.2.image == BitVec.ofNat 64 (q.n 8 8)) then s.reply q Code.ST_SET_BUSY [] 0
      else (s.modCasm (q.n 0 1) fun c =>
        { c with images := c.images.filter (·.id != BitVec.ofNat 64 (q.n 8 8)) }).reply q Code.ST_OK [] 0 := by
  unfold jobUnloadBody
  simp only [answer_ite, answer_done, answer_refuse, List.all_eq_true, bne_iff_ne]

theorem makeReady_task_isSome {s : State} {n : Nat} {head : Bool} (h : (s.task n).isSome = true) :
    ((s.makeReady n head).task n).isSome = true := by
  unfold State.makeReady
  cases ht : s.task n with
  | none => simp [ht] at h
  | some t => simp

/-- A task that was admitted takes a free identifier and lives. -/
theorem submit_ok {s u : State} {k : Nat} {r : List Byte} {off : Bool} {n c : Nat}
    (h : s.submit k r off = (Code.ST_OK, n, c, u)) : s.task n = none ∧ (u.task n).isSome = true := by
  unfold State.submit at h
  have no (st : Status) (hst : st ≠ Code.ST_OK) : (st, 0, 0, s) ≠ (Code.ST_OK, n, c, u) := fun e => hst (congrArg Prod.fst e)
  dsimp only at h
  split at h
  · exact absurd h (no _ (by decide))
  split at h
  · exact absurd h (no _ (by decide))
  split at h
  · exact absurd h (no _ (by decide))
  split at h
  · exact absurd h (no _ (by decide))
  split at h
  · exact absurd h (no _ (by decide))
  split at h
  · exact absurd h (no _ (by decide))
  next m hm =>
  split at h
  · exact absurd h (no _ (by decide))
  split at h
  · exact absurd h (no _ (by decide))
  simp only [Prod.mk.injEq, true_and] at h
  obtain ⟨rfl, -, rfl⟩ := h
  refine ⟨by simpa using List.find?_some hm, ?_⟩
  split
  · simp
  · exact makeReady_task_isSome (by simp)

theorem submitBody_answer {s s1 u : State} {q : Req} {a : Access} {st : Status} {n c : Nat} (hk : q.n 0 1 < 12)
    (hs : s.access (domCas (q.n 0 1)) false = (a, s1)) (ha : a ≠ .locked)
    (hu : s1.submit (q.n 0 1) (bytesAt q.pay 8 72) (a == .wait) = (st, n, c, u)) :
    (submitBody s q).answer q =
      if st = Code.ST_OK then (u.settleCas (q.n 0 1)).reply q Code.ST_OK (leBytes n 2 ++ leBytes c 1) 0 else s.reply q st [] 0 := by
  unfold submitBody
  simp only [hs, if_neg (Nat.not_le.mpr hk)]
  cases a with
  | locked => exact absurd rfl ha
  | wait => simp only [show ((Access.wait == Access.wait) = true) from rfl] at hu; simp only [hu, answer_ite, answer_done, answer_refuse]
  | go => simp only [show ((Access.go == Access.wait) = false) from rfl] at hu; simp only [hu, answer_ite, answer_done, answer_refuse]

theorem submitBody_locked {s s1 : State} {q : Req} (hk : q.n 0 1 < 12) (hs : s.access (domCas (q.n 0 1)) false = (.locked, s1)) :
    submitBody s q = refuse s Code.PW_DOMAIN_LOCKED := by
  simp only [submitBody, if_neg (Nat.not_le.mpr hk), hs]

theorem jobStopBody_answer (s : State) (q : Req) :
    (jobStopBody s q).answer q =
      match s.task (q.n 0 2) with
      | some t =>
        (if s.inRep (q.n 0 2) then s.setTask (q.n 0 2) (some { t with stopDue := true })
          else (s.endTask (q.n 0 2) Code.ST_ABORTED).settleCas t.cas).reply q Code.ST_OK [] 0
      | none => s.reply q Code.ST_NO_TASK [] 0 := by
  unfold jobStopBody
  dsimp only
  cases s.task (q.n 0 2) <;> rfl

theorem signalBody_answer (s : State) (q : Req) :
    (signalBody s q).answer q =
      if 2 ^ 28 ≤ q.n 4 4 then s.reply q Code.ST_RESERVED_NONZERO [] 0
      else match s.task (q.n 0 2) with
        | some t => ((s.setFlags (q.n 0 2) (BitVec.ofNat 32 (q.n 4 4))).settleCas t.cas).reply q Code.ST_OK [] 0
        | none => s.reply q Code.ST_NO_TASK [] 0 := by
  unfold signalBody
  simp only [answer_ite, answer_refuse]
  cases s.task (q.n 0 2) <;> rfl

theorem itemBody_answer (s : State) (q : Req) :
    (itemBody s q).answer q =
      if q.n 0x0B 1 ≠ 0 then s.reply q Code.ST_RESERVED_NONZERO [] 0
      else if 1024 ≤ itemFlow (BitVec.ofNat 256 (q.n 8 32)) ∧ itemFlow (BitVec.ofNat 256 (q.n 8 32)) ≠ 0xFFFF then
        s.reply q Code.ST_BAD_PARAM [] 0
      else match s.task (q.n 0 2) with
        | some t => if t.queue.length < t.qdepth then
            ((s.enqueue (q.n 0 2) (BitVec.ofNat 256 (q.n 8 32))).settleCas t.cas).reply q Code.ST_OK [] 0
          else s.reply q Code.ST_BUSY [] 0
        | none => s.reply q Code.ST_NO_TASK [] 0 := by
  unfold itemBody
  simp only [answer_ite, answer_refuse]
  cases s.task (q.n 0 2) with
  | none => rfl
  | some t => simp only [answer_ite, answer_done, answer_refuse, TaskCtx.room, decide_eq_true_eq]

theorem evmapBody_answer (s : State) (q : Req) :
    (evmapBody s q).answer q =
      if q.n 0 1 = 0 ∨ 27 < q.n 4 1 then s.reply q Code.ST_BAD_PARAM [] 0
      else match s.task (q.n 2 2) with
        | none => s.reply q Code.ST_NO_TASK [] 0
        | some t =>
          let e : BitVec 8 × Nat × Nat := (BitVec.ofNat 8 (q.n 0 1), q.n 2 2, q.n 4 1)
          let m := (s.casm t.cas).evmap
          if q.n 1 1 = 1 then (s.modCasm t.cas fun c => { c with evmap := m.filter (· != e) }).reply q Code.ST_OK [] 0
          else if m.contains e then s.reply q Code.ST_OK [] 0
          else if 64 ≤ s.cas.evmaps then s.reply q Code.ST_RESOURCE_BUSY [] 0
          else (s.modCasm t.cas fun c => { c with evmap := m ++ [e] }).reply q Code.ST_OK [] 0 := by
  unfold evmapBody
  simp only [answer_ite, answer_refuse]
  cases s.task (q.n 2 2) with
  | none => rfl
  | some t => simp only [answer_ite, answer_done, answer_refuse]

theorem ccwBody_answer (s : State) (q : Req) :
    (ccwBody s q).answer q =
      let v : BitVec 32 := BitVec.ofNat 32 (q.n 4 4)
      if 12 ≤ q.n 0 1 then s.reply q Code.ST_BAD_PARAM [] 0
      else if bits v.toNat 22 10 ≠ 0 ∨ bits v.toNat 8 4 ≠ 0 then s.reply q Code.ST_RESERVED_NONZERO [] 0
      else if bits v.toNat 12 10 = 0 ∨ 1000 < bits v.toNat 12 10 ∨ bits v.toNat 0 8 = 0 then s.reply q Code.ST_BAD_PARAM [] 0
      else if s.tasksOf (q.n 0 1) = [] then (s.modCasm (q.n 0 1) fun c => { c with ccw := v }).reply q Code.ST_OK [] 0
      else s.reply q Code.ST_FIELD_BUSY [] 0 := by
  unfold ccwBody
  simp only [answer_ite, answer_done, answer_refuse]
  cases s.tasksOf (q.n 0 1) <;> rfl

/-- Settles O35: each command's answer is its body's, and an admitted task is new and lives. -/
theorem jobAndCasementCommands : Obligations.JobAndCasementCommands := by
  unfold Obligations.JobAndCasementCommands
  refine ⟨⟨?_, ?_, ?_, ?_, ?_⟩, ?_, ?_⟩
  · intro s src q h id
    exact (exec_served rfl h).trans (congrArg _ (jobUnloadBody_answer s q))
  · intro s src q h k
    refine ⟨fun hk => exec_refused rfl h (if_pos hk), fun a s1 u st n c hk hs => ⟨?_, fun ha hu => ⟨?_, ?_⟩⟩⟩
    · rintro rfl
      exact exec_refused rfl h (submitBody_locked hk hs)
    · exact (exec_served rfl h).trans (congrArg _ (submitBody_answer hk hs ha hu))
    · rintro rfl
      exact submit_ok hu
  · intro s src q h
    exact (exec_served rfl h).trans (congrArg _ (jobStopBody_answer s q))
  · intro s src q h
    exact (exec_served rfl h).trans (congrArg _ (signalBody_answer s q))
  · intro s src q h i
    exact (exec_served rfl h).trans (congrArg _ (itemBody_answer s q))
  · intro s src q map h e
    cases map with
    | true =>
      have hf : q.n 1 1 = 0 := serves_formByte h rfl
      refine (exec_served (c := .evmapMap src) rfl h).trans (congrArg _ ((evmapBody_answer s q).trans ?_))
      rw [hf]
      rfl
    | false =>
      have hf : q.n 1 1 = 1 := serves_formByte h rfl
      refine (exec_served (c := .evmapUnmap src) rfl h).trans (congrArg _ ((evmapBody_answer s q).trans ?_))
      rw [hf]
      rfl
  · intro s src q h v
    exact (exec_served rfl h).trans (congrArg _ (ccwBody_answer s q))

end Sys2Proof.Machine
end

section
set_option Elab.async false
/-! The memory commands (R341, R344, R350 to R356). -/

namespace Sys2Proof.Machine

theorem memcfgBody_answer (s : State) (q : Req) :
    (memcfgBody s q).answer q =
      if 1 < q.n 0 1 then s.reply q Code.ST_BAD_PARAM [] 0
      else if s.mem.regions = [] then ({ s with mem := { s.mem with interleave := q.n 0 1 == 1 } } : State).reply q Code.ST_OK [] 0
      else s.reply q Code.ST_FIELD_BUSY [] 0 := by
  unfold memcfgBody
  simp only [answer_ite, answer_done, answer_refuse, ne_eq, ite_not]

/-- What is left of a table after the keys of which `p` holds are dropped. -/
theorem tget_filter_key {α : Type} (d : α) (p : Nat → Bool) (t : Tab α) (k : Nat) :
    tget d (t.filter fun e => !p e.1) k = if p k then d else tget d t k := by
  induction t with
  | nil => simp
  | cons e t ih =>
    obtain ⟨j, v⟩ := e
    by_cases hj : j = k
    · subst hj
      cases hp : p j <;> simp_all [tget]
    · cases hp : p j <;> simp_all [tget]

/-- The unit with the regions of a DDR channel within an area invalid (R346). -/
def State.dropRegions (s : State) (m a n : Nat) : State :=
  { s with
    mem := { s.mem with
      regions := s.mem.regions.filter fun e =>
        !(decide (a / 65536 ≤ e.1) && decide (e.1 < (a + n) / 65536) && s.mem.regionOn e.1 (memIndex m)) } }

theorem invalidateBody_answer (s : State) (q : Req) :
    (invalidateBody s q).answer q =
      if memIdOk (q.n 0 2) = false then s.reply q Code.ST_BAD_PARAM [] 0
      else if memKind (q.n 0 2) = 3 then
        if q.n 8 8 % 65536 ≠ 0 ∨ q.n 0x10 8 % 65536 ≠ 0 ∨ 2 ^ 38 < q.n 8 8 + q.n 0x10 8 then s.reply q Code.ST_BAD_PARAM [] 0
        else if s.openSetMeets (q.n 8 8) (q.n 0x10 8) then s.reply q Code.ST_SET_BUSY [] 0
        else (s.dropRegions (q.n 0 2) (q.n 8 8) (q.n 0x10 8)).reply q Code.ST_OK [] 0
      else if memLines (q.n 0 2) < q.n 8 8 + q.n 0x10 8 then s.reply q Code.ST_BAD_PARAM [] 0
      else if memKind (q.n 0 2) = 0 ∧ s.laneLive (memIndex (q.n 0 2)) = true then s.reply q Code.ST_SITE_BUSY [] 0
      else (s.clearLines (q.n 0 2) (q.n 8 8) (q.n 0x10 8)).reply q Code.ST_OK [] 0 := by
  unfold invalidateBody
  simp only [answer_ite, answer_done, answer_refuse, State.dropRegions]

theorem remapBody_answer (s : State) (q : Req) :
    (remapBody s q).answer q =
      if memIdOk (q.n 0 2) = false ∨ s.memAt (q.n 8 8) ≠ some (q.n 0 2) then s.reply q Code.ST_BAD_PARAM [] 0
      else match (s.memSt (q.n 0 2)).entryOf (s.remapIndex (q.n 0 2) (q.n 8 8)), (s.memSt (q.n 0 2)).freeEntry (q.n 0 2) with
        | some e, _ => s.reply q Code.ST_OK (leBytes e 1) 0
        | none, some e => (s.remapInto (q.n 0 2) (q.n 8 8) e).reply q Code.ST_OK (leBytes e 1) 0
        | none, none => s.reply q Code.DI_REMAP_FULL [] 0 := by
  unfold remapBody
  simp only [answer_ite, answer_refuse, beq_eq_false_iff_ne]
  cases (s.memSt (q.n 0 2)).entryOf (s.remapIndex (q.n 0 2) (q.n 8 8)) <;>
    cases (s.memSt (q.n 0 2)).freeEntry (q.n 0 2) <;> rfl

theorem remap_remapInto (s : State) (m a e : Nat) :
    tget none ((s.remapInto m a e).memSt m).remap e = some (s.remapIndex m a) := by
  simp [State.remapInto, State.modMemSt]

theorem remapFreeBody_answer (s : State) (q : Req) :
    (remapFreeBody s q).answer q =
      if memIdOk (q.n 0 2) = false ∨ remapSize (q.n 0 2) ≤ q.n 4 1 ∨ tget none (s.memSt (q.n 0 2)).remap (q.n 4 1) = none then
        s.reply q Code.ST_BAD_PARAM [] 0
      else (s.modMemSt (q.n 0 2) fun t => { t with remap := tset none t.remap (q.n 4 1) none }).reply q Code.ST_OK (leBytes (q.n 4 1) 1) 0 := by
  unfold remapFreeBody
  simp only [answer_ite, answer_done, answer_refuse, Option.isNone_iff_eq_none]

theorem mempolicyBody_answer (s : State) (q : Req) :
    (mempolicyBody s q).answer q =
      let m := q.n 0 2
      let v : BitVec 32 := BitVec.ofNat 32 (q.n 4 4)
      if memIdOk m = false then s.reply q Code.ST_BAD_PARAM [] 0
      else if bits v.toNat 28 2 ≠ 0 ∨ bits v.toNat 16 8 ≠ 0 then s.reply q Code.ST_RESERVED_NONZERO [] 0
      else if mctlThr v = 0 then s.reply q Code.ST_BAD_PARAM [] 0
      else (if s.mctl m = v then s else (s.modMemSt m fun t => { t with mctlX := v ^^^ mctlReset m }).postPolicy 7 m v.toNat).reply q
        Code.ST_OK [] 0 := by
  unfold mempolicyBody
  simp only [answer_ite, answer_done, answer_refuse, apply_ite (fun t : State => t.reply q Code.ST_OK [] 0)]

theorem mctl_modMemSt (s : State) (m : Nat) (v : BitVec 32) : (s.modMemSt m fun t => { t with mctlX := v ^^^ mctlReset m }).mctl m = v := by
  simp [State.mctl, State.modMemSt]

theorem memstatusBody_answer {s : State} {q : Req} (hm : memIdOk (q.n 0 2) = true) (hc : q.n 2 1 ≤ 1) :
    (memstatusBody s q).answer q =
      (if q.n 2 1 = 1 then s.modMemSt (q.n 0 2) fun t =>
          { t with corrected := 0, uncorrectable := 0, poisonReads := 0, poisonWrites := 0, laps := 0, fills := 0 }
        else s).reply q Code.ST_OK (s.memRecord (q.n 0 2)) 0 := by
  unfold memstatusBody
  rw [if_neg (by simp [hm, hc])]
  rfl

/-- Settles O46: each command's answer is its body's. -/
theorem memoryCommandsSetMapSparesAndPolicy : Obligations.MemoryCommandsSetMapSparesAndPolicy := by
  unfold Obligations.MemoryCommandsSetMapSparesAndPolicy
  refine ⟨?_, ?_, ?_, fun s m a e _ _ => remap_remapInto s m a e, ?_, ?_, ?_⟩
  · intro s src q h
    exact (exec_served rfl h).trans (congrArg _ (memcfgBody_answer s q))
  · intro s src q h m a n no
    have hb := (exec_served (c := .invalidate src) rfl h).trans (congrArg _ (invalidateBody_answer s q))
    refine ⟨fun hm => by rw [if_pos hm] at hb; exact hb, fun hm hk => ?_, fun hm hk => ?_⟩
    · rw [if_neg (by simp [m] at hm; simp [hm]), if_pos hk] at hb
      split
      · next hr => rw [if_pos hr] at hb; exact hb
      next hr =>
      rw [if_neg hr] at hb
      split
      · next ho => rw [if_pos ho] at hb; exact hb
      next ho =>
      rw [if_neg ho] at hb
      refine ⟨s.dropRegions m a n, hb, rfl, fun r => ?_⟩
      refine (tget_filter_key false
        (fun r => decide (a / 65536 ≤ r) && decide (r < (a + n) / 65536) && s.mem.regionOn r (memIndex m)) s.mem.regions r).trans ?_
      generalize (decide (a / 65536 ≤ r) && decide (r < (a + n) / 65536) && s.mem.regionOn r (memIndex m)) = g
      cases g <;> simp
    · rw [if_neg (by simp [m] at hm; simp [hm]), if_neg hk] at hb
      split
      · next hr => rw [if_pos hr] at hb; exact hb
      next hr =>
      rw [if_neg hr] at hb
      split
      · next ho => rw [if_pos ho] at hb; exact hb
      next ho =>
      rw [if_neg ho] at hb
      exact hb
  · intro s src q h m
    exact (exec_served rfl h).trans (congrArg _ (remapBody_answer s q))
  · intro s src q h m
    exact (exec_served rfl h).trans (congrArg _ (remapFreeBody_answer s q))
  · intro s src q h m v t
    exact ⟨mctl_modMemSt s m v, (exec_served rfl h).trans (congrArg _ (mempolicyBody_answer s q))⟩
  · intro s src q h m
    refine ⟨fun hm => exec_refused rfl h (if_pos hm), fun hm hc => ?_⟩
    refine ⟨_, (exec_served rfl h).trans (congrArg _ (memstatusBody_answer hm hc)), fun h0 => if_neg (by rw [h0]; decide), fun h1 => ?_⟩
    rw [if_pos h1]
    refine ⟨rfl, fun k hk => ?_, ?_⟩
    · simp [State.modMemSt, m, hk]
    · simp [State.modMemSt, m]

end Sys2Proof.Machine
end

section
set_option Elab.async false
/-! The lane commands (R179, R182, R199, R359 to R380). -/

namespace Sys2Proof.Machine

theorem laneModeBody_answer (s : State) (q : Req) :
    (laneModeBody s q).answer q =
      match laneModeOf (q.n 1 1) with
      | none => s.reply q Code.ST_BAD_PARAM [] 0
      | some m =>
        if 64 ≤ q.n 0 1 ∨ (m ≠ .idle ∧ rateOk (q.n 4 4) = false) then s.reply q Code.ST_BAD_PARAM [] 0
        else if s.siteOf (q.n 0 1) ≠ none ∨ s.laneTaken (q.n 0 1) = true then s.reply q Code.ST_FIELD_BUSY [] 0
        else if (s.lane (q.n 0 1)).calib ≠ none ∨ (m ≠ .idle ∧ s.quadsFit [(q.n 0 1, q.n 4 4)] (· != q.n 0 1) = false) then
          s.reply q Code.ST_LANE_BUSY [] 0
        else if m = .idle then ((s.modLane (q.n 0 1) fun l => l.enter .idle 0).settleQuads).reply q Code.ST_OK [] 0
        else ((s.setQuadRates [(q.n 0 1, q.n 4 4)] (· != q.n 0 1)).modLane (q.n 0 1) fun l => l.enter m (q.n 4 4)).reply q Code.ST_OK [] 0 := by
  unfold laneModeBody
  dsimp only
  cases laneModeOf (q.n 1 1) with
  | none => rfl
  | some m =>
    by_cases hm : m = .idle
    · subst hm
      simp only [answer_ite, answer_done, answer_refuse, Option.isSome_iff_ne_none, ne_eq, not_true, false_and, or_false, if_true]
    · simp only [answer_ite, answer_done, answer_refuse, Option.isSome_iff_ne_none, ne_eq, hm, not_false_iff, true_and, if_false]
      by_cases hc : (s.lane (q.n 0 1)).calib = none <;> simp only [hc, not_true, not_false_iff, true_or, false_or, if_true, if_false]

theorem laneCtlBody_answer (s : State) (q : Req) :
    (laneCtlBody s q).answer q =
      let v : BitVec 32 := BitVec.ofNat 32 (q.n 4 4)
      let u := if getBit v 18 && !(s.lane (q.n 0 1)).frozen then s.adapt (q.n 0 1) else s
      let t := u.modLane (q.n 0 1) fun l => { l with lctl := v }
      if 64 ≤ q.n 0 1 then s.reply q Code.ST_BAD_PARAM [] 0
      else if bits v.toNat 20 12 ≠ 0 ∨ bits v.toNat 12 4 ≠ 0 then s.reply q Code.ST_RESERVED_NONZERO [] 0
      else if 18 < bits v.toNat 8 4 + bits v.toNat 4 4 ∨ (getBit v 19 = true ∧ s.hingeRole (q.n 0 1) = true) then
        s.reply q Code.ST_BAD_PARAM [] 0
      else if lctlS v ≠ lctlS (s.lane (q.n 0 1)).lctl ∧ s.laneRuns (q.n 0 1) = true then s.reply q Code.ST_FIELD_BUSY [] 0
      else (if getBit v 18 = (s.lane (q.n 0 1)).frozen then t else t.postPolicy 3 (q.n 0 1) (b2n (getBit v 18))).reply q
        Code.ST_OK [] 0 := by
  unfold laneCtlBody
  simp only [answer_ite, answer_done, answer_refuse]

theorem refspreadBody_answer (s : State) (q : Req) :
    (refspreadBody s q).answer q =
      if 5000 < q.n 0 2 then s.reply q Code.ST_BAD_PARAM [] 0
      else if ∀ i ∈ List.range 64, (s.lane i).mode = .idle then
        ({ s with power := { s.power with clk := { s.power.clk with spread := q.n 0 2 } } } : State).reply q Code.ST_OK [] 0
      else s.reply q Code.ST_FIELD_BUSY [] 0 := by
  unfold refspreadBody
  rw [answer_ite, answer_ite]
  congr 1
  by_cases hl : ∀ i ∈ List.range 64, (s.lane i).mode = .idle
  · rw [if_pos hl, if_neg]
    · rfl
    · simpa [List.any_eq_true] using hl
  · rw [if_neg hl, if_pos]
    · rfl
    · simpa [List.any_eq_true] using hl

theorem bitslipBody_answer (s : State) (q : Req) :
    (bitslipBody s q).answer q =
      if q.n 0 1 < 64 ∧ 1 ≤ q.n 1 1 ∧ q.n 1 1 ≤ 63 ∧ (s.lane (q.n 0 1)).mode = .direct ∧ (s.lane (q.n 0 1)).lock = true then
        (s.modLane (q.n 0 1) fun l =>
          { l with slip := (l.slip + q.n 1 1) % 32, slipDue := l.slipDue + q.n 1 1,
                   phy := { l.phy with slips := satAdd l.phy.slips (q.n 1 1) } }).reply q Code.ST_OK [] 0
      else s.reply q Code.ST_BAD_PARAM [] 0 := by
  unfold bitslipBody
  rw [answer_ite]
  by_cases hc : q.n 0 1 < 64 ∧ 1 ≤ q.n 1 1 ∧ q.n 1 1 ≤ 63 ∧ (s.lane (q.n 0 1)).mode = .direct ∧ (s.lane (q.n 0 1)).lock = true
  · rw [if_pos hc, if_neg]
    · rfl
    · obtain ⟨hi, h1, h63, hm, hl⟩ := hc
      simp only [hm, hl]
      simp
      omega
  · rw [if_neg hc, if_pos]
    · rfl
    · by_contra hn
      simp only [not_or, not_not, Bool.not_eq_false] at hn
      obtain ⟨hi, h1, h63, hm, hl⟩ := hn
      exact hc ⟨by omega, by omega, by omega, hm, hl⟩

theorem phyStatusBody_answer (s : State) (q : Req) :
    (phyStatusBody s q).answer q =
      let u := s.adapt (q.n 0 1)
      if 64 ≤ q.n 0 1 ∨ 1 < q.n 1 1 then s.reply q Code.ST_BAD_PARAM [] 0
      else (if q.n 1 1 = 1 then
          u.modLane (q.n 0 1) fun l => { l with phy := { l.phy with blockLoss := 0, idleExits := 0, slowExits := 0, slips := 0 } }
        else u).reply q Code.ST_OK (u.phyRecord (q.n 0 1)) 0 := by
  unfold phyStatusBody
  simp only [answer_ite, answer_done, answer_refuse]

/-- Settles O48: each command's answer is its body's. -/
theorem laneCommandsWriteAndAct : Obligations.LaneCommandsWriteAndAct := by
  unfold Obligations.LaneCommandsWriteAndAct
  refine ⟨⟨?_, ?_, ?_, ?_, ?_⟩, ?_, ?_, ?_, ?_⟩
  · intro s src q h i keep
    exact (exec_served rfl h).trans (congrArg _ (laneModeBody_answer s q))
  · intro s src q h i v u t
    exact (exec_served rfl h).trans (congrArg _ (laneCtlBody_answer s q))
  · intro s src q h i r
    refine (exec_served rfl h).trans (congrArg _ ?_)
    simp only [deskewBody, answer_ite, answer_done, answer_refuse, i, r]
  · intro s src q h
    exact (exec_served rfl h).trans (congrArg _ (refspreadBody_answer s q))
  · intro s src q h
    refine (exec_served rfl h).trans (congrArg _ ?_)
    simp only [marginBody, answer_ite, answer_done, answer_refuse]
  · intro s src q h
    refine (exec_served rfl h).trans (congrArg _ ?_)
    simp only [laneIdleEnterBody, answer_ite, answer_done, answer_refuse]
  · intro s src q h
    refine (exec_served rfl h).trans (congrArg _ ?_)
    simp only [laneIdleExitBody, answer_ite, answer_done, answer_refuse]
  · intro s src q h i n
    exact (exec_served rfl h).trans (congrArg _ (bitslipBody_answer s q))
  · intro s src q h i u
    exact (exec_served rfl h).trans (congrArg _ (phyStatusBody_answer s q))

end Sys2Proof.Machine
end

section
set_option Elab.async false
/-! The chain commands (R390, R391, R399, R413). -/

namespace Sys2Proof.Machine

/-- Settles O50: each command's answer is its body's. -/
theorem chainCommandsAnswer : Obligations.ChainCommandsAnswer := by
  unfold Obligations.ChainCommandsAnswer
  refine ⟨?_, ?_, ?_, ?_, ?_, ?_, ?_⟩
  · intro s src q h
    exact exec_done rfl h rfl
  · intro s src q h
    exact exec_done rfl h rfl
  · intro s src q h port
    refine (exec_served rfl h).trans (congrArg _ ?_)
    simp only [gatewayOwnAddressBody, answer_ite, answer_done, answer_refuse, port]
  · intro s src q h k es u
    refine (exec_served rfl h).trans (congrArg _ ?_)
    simp only [gatewayAddPeersBody, answer_ite, answer_done, answer_refuse, List.any_eq_true, beq_iff_eq, k, es, u]
    rfl
  · intro s src q h u
    exact exec_done rfl h rfl
  · intro s src q h
    refine (exec_served rfl h).trans (congrArg _ ?_)
    simp only [chainStatusBody, answer_ite, answer_done, answer_refuse]
  · intro s src q h
    refine (exec_served rfl h).trans (congrArg _ ?_)
    simp only [enumMapBody, answer_ite, answer_done, answer_refuse]

end Sys2Proof.Machine
end

section
set_option Elab.async false
/-! What leaves the `time` of the unit as they are. -/

namespace Sys2Proof.Machine

theorem State.retain_time (s : State) (n) : (s.retain n).time = s.time := by
  grind [State.retain, State.setTicket_time]

theorem State.setIrq_time (s : State) (i) : (s.setIrq i).time = s.time := by
  grind [State.setIrq]

theorem State.postEvent_time (s : State) (e') : (s.postEvent e').time = s.time := by
  grind [State.postEvent, State.retain_time, State.setIrq_time]

theorem State.post_time (s : State) (kind st site obj hi data) : (s.post kind st site obj hi data).time = s.time := by
  grind [State.post, State.postEvent_time]

theorem State.postChain_time (s : State) (st port ua phys) : (s.postChain st port ua phys).time = s.time := by
  grind [State.postChain, State.post_time]

theorem State.postPolicy_time (s : State) (action what value) : (s.postPolicy action what value).time = s.time := by
  grind [State.postPolicy, State.post_time]

end Sys2Proof.Machine
end

section
set_option Elab.async false
/-! The time commands (R401 to R408). -/

namespace Sys2Proof.Machine

theorem servo_setServo (s : State) (x : Servo) : (s.setServo x).time.servo = x := by
  unfold State.setServo
  by_cases hs : s.time.servo = x
  · rw [if_pos hs]
    exact hs
  · rw [if_neg hs]
    dsimp only
    split
    · rw [State.postChain_time]
    · rw [State.postPolicy_time]

/-- Settles O53: each command's answer is its body's. -/
theorem timeCommandsSteerTheServo : Obligations.TimeCommandsSteerTheServo := by
  unfold Obligations.TimeCommandsSteerTheServo
  refine ⟨?_, ?_, ?_, ?_, ?_, servo_setServo⟩
  · intro s src q h v u
    refine (exec_served rfl h).trans (congrArg _ ?_)
    simp only [tctlBody, answer_ite, answer_done, answer_refuse, Option.isSome_iff_ne_none, v, u]
  · intro s src q h v
    refine (exec_served rfl h).trans (congrArg _ ?_)
    simp only [timeSetBody, answer_ite, answer_done, answer_refuse, v]
  · intro s src q h
    refine (exec_served rfl h).trans (congrArg _ ?_)
    simp only [timeUnlockBody, answer_ite, answer_done, answer_refuse]
  · intro s src q h
    refine (exec_served rfl h).trans (congrArg _ ?_)
    simp only [rateBody, answer_ite, answer_done, answer_refuse]
  · intro s src q h new
    refine (exec_served rfl h).trans (congrArg _ ?_)
    simp only [ptpBody, answer_ite, answer_done, answer_refuse, new]

end Sys2Proof.Machine
end

section
set_option Elab.async false
/-! The power and thermal commands (R464, R465, R478, R484). -/

namespace Sys2Proof.Machine

/-- The alarm is set within its range. -/
theorem thermalSetAlarmBody_answer (s : State) (q : Req) :
    (thermalSetAlarmBody s q).answer q =
      let p := { s.power with alarm := BitVec.ofNat 16 (q.n 2 2) }
      if 240 ≤ q.n 2 2 ∧ q.n 2 2 ≤ 416 then ({ s with power := p } : State).reply q Code.ST_OK p.thermalRecord 0
      else s.reply q Code.ST_BAD_PARAM [] 0 := by
  unfold thermalSetAlarmBody
  rw [answer_ite]
  by_cases hc : 240 ≤ q.n 2 2 ∧ q.n 2 2 ≤ 416
  · rw [if_pos hc, if_neg (by omega)]
    rfl
  · rw [if_neg hc, if_pos (by omega)]
    rfl

/-- Settles O56: each command's answer is its body's. -/
theorem powerCommandsSetTheirDomain : Obligations.PowerCommandsSetTheirDomain := by
  unfold Obligations.PowerCommandsSetTheirDomain
  refine ⟨fun s src q => ⟨fun h => ?_, fun h => ?_, fun h => ?_, fun h => ?_⟩, ?_, ?_, ?_, ?_⟩
  · refine (exec_served rfl h).trans (congrArg _ ?_)
    simp only [domainUnlockBody, answer_ite, answer_done, answer_refuse]
  · refine (exec_served rfl h).trans (congrArg _ ?_)
    cases hd : domIdOk (q.n 0 1) <;> simp [domainLockOffBody, answer_ite, hd]
  · refine (exec_served rfl h).trans (congrArg _ ?_)
    simp only [domainHoldOnBody, answer_ite, answer_done, answer_refuse]
  · refine (exec_served rfl h).trans (congrArg _ ?_)
    simp only [domainHoldReleaseBody, answer_ite, answer_done, answer_refuse]
  · intro s src q h t ds
    refine (exec_served rfl h).trans (congrArg _ ?_)
    simp only [powerPolicyBody, answer_ite, answer_done, answer_refuse, t, ds]
  · intro s src q h x
    refine (exec_served rfl h).trans (congrArg _ ?_)
    simp only [powerStatusBody, answer_ite, answer_done, answer_refuse, x]
  · intro s src q h
    exact exec_done rfl h rfl
  · intro s src q h p
    exact (exec_served rfl h).trans (congrArg _ (thermalSetAlarmBody_answer s q))

end Sys2Proof.Machine
end

section
set_option Elab.async false
/-! What leaves the `lanes` of the unit as they are. -/

namespace Sys2Proof.Machine

theorem foldl_lanes {α} {f : State → α → State} (hf : ∀ s x, (f s x).lanes = s.lanes) (l : List α) (s : State) :
    (l.foldl f s).lanes = s.lanes := by
  induction l generalizing s with
  | nil => rfl
  | cons a l ih => exact (ih _).trans (hf s a)

theorem State.setQuadRates_lanes (s : State) (l keep) : (s.setQuadRates l keep).lanes = s.lanes := by
  grind [State.setQuadRates, foldl_lanes, State.setQuad_lanes]

end Sys2Proof.Machine
end

section
set_option Elab.async false
/-! What leaves the `power` of the unit as they are. -/

namespace Sys2Proof.Machine

theorem foldl_power {α} {f : State → α → State} (hf : ∀ s x, (f s x).power = s.power) (l : List α) (s : State) :
    (l.foldl f s).power = s.power := by
  induction l generalizing s with
  | nil => rfl
  | cons a l ih => exact (ih _).trans (hf s a)

theorem State.setQuadRates_power (s : State) (l keep) : (s.setQuadRates l keep).power = s.power := by
  grind [State.setQuadRates, foldl_power, State.setQuad_power]

end Sys2Proof.Machine
end

section
set_option Elab.async false
/-! The debug commands (R71, R95, R466, R503, R505). -/

namespace Sys2Proof.Machine

theorem peekBody_answer (s : State) (q : Req) :
    (peekBody s q).answer q =
      if 64 ≤ q.n 0 1 ∨ 4 < q.n 2 1 ∨ (q.n 2 1 = 3 ∧ 64 ≤ q.n 1 1) then s.reply q Code.ST_BAD_PARAM [] 0
      else match s.siteOf (q.n 0 1) with
        | none => s.reply q Code.ST_OK (List.replicate 64 0) 0
        | some n =>
          if (s.site n).state = .armed ∨ (s.site n).state = .running then s.reply q Code.ST_SITE_STATE [] 0
          else s.reply q Code.ST_OK ((s.sash (q.n 0 1)).peek (q.n 2 1) (q.n 1 1)) 0 := by
  unfold peekBody
  simp only [answer_ite, answer_refuse]
  cases s.siteOf (q.n 0 1) with
  | none => rfl
  | some n => simp only [answer_ite, answer_done, answer_refuse]

theorem keyholeSelBody_answer (s : State) (q : Req) :
    (keyholeSelBody s q).answer q =
      let o := q.n 0 1
      let w : BitVec 32 := BitVec.ofNat 32 (q.n 4 4)
      let k := { s.power.key with src := tset 0 s.power.key.src o w }
      if ¬(o < 16 ∨ (0x20 ≤ o ∧ o < 0x40)) then s.reply q Code.ST_BAD_PARAM [] 0
      else match sourceBad w with
        | some st => s.reply q st [] 0
        | none =>
          if (sourceSash w).any (fun i => decide (8 < (k.sourcesOf i).length)) then s.reply q Code.ST_RESOURCE_BUSY [] 0
          else ({ s with power := { s.power with key := s.startPane k w } } : State).reply q Code.ST_OK [] 0 := by
  unfold keyholeSelBody
  dsimp only
  rw [answer_ite]
  by_cases ho : q.n 0 1 < 16 ∨ (0x20 ≤ q.n 0 1 ∧ q.n 0 1 < 0x40)
  · rw [if_neg (by omega), if_neg (not_not.mpr ho)]
    cases sourceBad (BitVec.ofNat 32 (q.n 4 4)) with
    | some st => rfl
    | none =>
      dsimp only
      rw [answer_ite]
      cases sourceSash (BitVec.ofNat 32 (q.n 4 4)) <;> rfl
  · rw [if_pos (by omega), if_pos ho]
    rfl

/-- A free lane enters keyhole mode, and its sash is held ON (R505). -/
theorem keyholeLaneTakeBody_take {s : State} {q : Req} (h : ¬(64 ≤ q.n 0 1 ∨ rateOk (q.n 4 4) = false))
    (hf : ¬(s.siteOf (q.n 0 1) ≠ none ∨ s.power.key.lane ≠ none ∨ s.laneTaken (q.n 0 1) = true ∨ (s.lane (q.n 0 1)).calib ≠ none ∨
      s.power.clk.paced = false ∨ s.quadsFit [(q.n 0 1, q.n 4 4)] (fun j => j != q.n 0 1) = false)) :
    ∃ t : State, keyholeLaneTakeBody s q = done t [] ∧ t.power.key.lane = some (q.n 0 1) ∧
      t.power.key.samples = [] ∧ t.power.key.src = s.power.key.src ∧ (t.dom (domSash (q.n 0 1))).keyHeld = true ∧
      t.lane (q.n 0 1) = (s.lane (q.n 0 1)).enter .keyhole (q.n 4 4) := by
  unfold keyholeLaneTakeBody
  simp only [Option.isSome_iff_ne_none, if_neg h, if_neg hf]
  refine ⟨_, rfl, rfl, rfl, ?_, ?_, ?_⟩
  · simp [State.modDom, State.setDom, State.setQuadRates_power]
  · simp [State.modDom, State.dom, State.setDom]
  · simp [State.modDom, State.setDom, State.lane, State.modLane, State.setLane, State.setQuadRates_lanes]

/-- Settles O58: each command's answer is its body's. -/
theorem debugCommandsLookAndSelect : Obligations.DebugCommandsLookAndSelect := by
  unfold Obligations.DebugCommandsLookAndSelect
  refine ⟨?_, ?_, ?_, ?_, ?_, ?_⟩
  · intro s src q h
    refine (exec_served rfl h).trans (congrArg _ ?_)
    simp only [sashStatusBody, answer_ite, answer_done, answer_refuse]
  · intro s src q h
    refine (exec_served rfl h).trans (congrArg _ ?_)
    simp only [wcellStatusBody, answer_ite, answer_done, answer_refuse]
  · intro s src q h
    exact (exec_served rfl h).trans (congrArg _ (peekBody_answer s q))
  · intro s src q h o w k
    exact (exec_served rfl h).trans (congrArg _ (keyholeSelBody_answer s q))
  · intro s src q h i rate
    split
    · next hb => exact exec_refused rfl h (if_pos hb)
    next hb =>
    split
    · next hl =>
      refine exec_refused rfl h ?_
      simp only [keyholeLaneTakeBody, Option.isSome_iff_ne_none]
      rw [if_neg hb, if_pos hl]
    · next hl =>
      obtain ⟨t, ht, hlane⟩ := keyholeLaneTakeBody_take hb hl
      exact ⟨t, exec_done rfl h ht, hlane⟩
  · intro s src q h
    refine (exec_served rfl h).trans (congrArg _ ?_)
    simp only [keyholeLaneReleaseBody, answer_ite, answer_done, answer_refuse, Option.isSome_iff_ne_none]

end Sys2Proof.Machine
end

section
set_option Elab.async false
/-! The timed generators and START_AT (R411, R412). -/

namespace Sys2Proof.Machine

theorem getBit_putBit_same {w : Nat} (x : BitVec w) (i : Nat) (b : Bool) (hi : i < w) : getBit (putBit x i b) i = b := by
  rw [getBit_eq]
  unfold putBit
  cases b <;> simp only [BitVec.getLsbD_or, BitVec.getLsbD_and, BitVec.getLsbD_not, BitVec.getLsbD_ofNat, Nat.testBit_two_pow_self,
    hi, decide_true, Bool.and_true, Bool.or_true, Bool.not_true, Bool.and_false, if_true, Bool.false_eq_true, if_false]

/-- The range check of TIMED, with its two equivalences written out. -/
theorem generator_out_of_range (a g : Prop) (tgt width count period : Nat) :
    (a ∨ 4 < tgt ∨ (width = 0) = (decide (tgt < 4) = true) ∨ (period = 0) ≠ (count = 1) ∨ g) ↔
      (a ∨ 4 < tgt ∨ (width = 0 ∧ tgt < 4) ∨ (width ≠ 0 ∧ tgt = 4) ∨ (period = 0 ∧ count ≠ 1) ∨ (period ≠ 0 ∧ count = 1) ∨ g) := by
  simp only [decide_eq_true_eq, ne_eq, eq_iff_iff]
  by_cases ha : a <;> by_cases hg : g <;> simp only [ha, hg, true_or, or_true, false_or, or_false]
  omega

/-- A generator with its fields in range is programmed (R412). -/
theorem timedBody_ok {s : State} {q : Req} (hr : bits (q.n 1 1) 3 4 = 0)
    (hb : ¬(8 ≤ q.n 0 1 ∨ 4 < q.n 1 1 % 8 ∨ (q.n 2 2 = 0) = (decide (q.n 1 1 % 8 < 4) = true) ∨ (q.n 16 8 = 0) ≠ (q.n 4 4 = 1) ∨
      (q.n 4 4 ≠ 1 ∧ q.n 16 8 * 1000 ≤ q.n 2 2 * s.stepPs * 65536))) (hu : s.time.servo ≠ .unlocked)
    (hp : ¬q.n 8 8 < s.time.ns + 2000)
    (hf : ¬(q.n 1 1 % 8 < 4 ∧ (s.pinHeld (q.n 0 1) (q.n 1 1 % 8) = true ∨ bit s.toutReserved (q.n 1 1 % 8) = true))) :
    ∃ u : State, timedBody s q = done u [] ∧
      u.tev (q.n 0 1) =
        { on := true, target := q.n 1 1 % 8, pol := bit (q.n 1 1) 7, width := q.n 2 2, count := q.n 4 4, first := q.n 8 8, period := q.n 16 8 } ∧
      (∀ k, k ≠ q.n 0 1 → u.tev k = s.tev k) ∧ (q.n 1 1 % 8 < 4 → getBit u.time.toutIdle (q.n 1 1 % 8) = bit (q.n 1 1) 7) ∧
      u = { s with time := { s.time with tevs := u.time.tevs, toutIdle := u.time.toutIdle } } := by
  have hf' : (decide (q.n 1 1 % 8 < 4) && (s.pinHeld (q.n 0 1) (q.n 1 1 % 8) || bit s.toutReserved (q.n 1 1 % 8))) = false := by
    simpa [not_and] using hf
  unfold timedBody
  rw [if_neg (not_not.mpr hr), if_neg hb, if_neg hu, if_neg hp, hf', if_neg (by decide)]
  refine ⟨_, rfl, ?_, fun k hk => ?_, fun ht => ?_, rfl⟩
  · simp [State.tev, State.setTev]
  · simp [State.tev, State.setTev, hk]
  · rw [decide_eq_true ht, if_pos rfl]
    exact getBit_putBit_same _ _ _ ht

theorem over_eq_false (e : Tev) : e.over = false ↔ e.count = 0 ∨ e.done < e.count := by
  simp [Tev.over]
  omega

theorem not_over (e : Tev) : (!e.over) = decide (e.count = 0 ∨ e.done < e.count) := by
  rw [Bool.eq_iff_iff]
  simp [over_eq_false]

/-- Settles O55: the occurrences of a generator by its three conditions. -/
theorem timedGeneratorsAndStartsFireAtTheirStep : Obligations.TimedGeneratorsAndStartsFireAtTheirStep := by
  unfold Obligations.TimedGeneratorsAndStartsFireAtTheirStep
  refine ⟨?_, ?_, ?_, ?_⟩
  · intro s src q h t tgt pol no
    have hbad := generator_out_of_range (8 ≤ t) (q.n 4 4 ≠ 1 ∧ q.n 16 8 * 1000 ≤ q.n 2 2 * s.stepPs * 65536) tgt (q.n 2 2) (q.n 4 4) (q.n 16 8)
    split
    · next hr => exact exec_refused rfl h (if_pos hr)
    next hr =>
    split
    · next hb => exact exec_refused rfl h ((if_neg hr).trans (if_pos (hbad.mpr hb)))
    next hb' =>
    have hb := fun hc => hb' (hbad.mp hc)
    split
    · next hu => exact exec_refused rfl h ((if_neg hr).trans ((if_neg hb).trans (if_pos hu)))
    next hu =>
    split
    · next hp => exact exec_refused rfl h ((if_neg hr).trans ((if_neg hb).trans ((if_neg hu).trans (if_pos hp))))
    next hp =>
    split
    · next hf =>
      exact exec_refused rfl h ((if_neg hr).trans ((if_neg hb).trans ((if_neg hu).trans ((if_neg hp).trans (if_pos (by simpa using hf))))))
    · next hf =>
      obtain ⟨u, hq, hu'⟩ := timedBody_ok (not_not.mp hr) hb hu hp hf
      exact ⟨u, exec_done rfl h hq, hu'⟩
  · intro s src q h
    refine (exec_served rfl h).trans (congrArg _ ?_)
    simp only [timedClearBody, answer_ite, answer_done, answer_refuse]
  · intro s k e e1 left due
    have hdue : s.due (e.first * 65536 + e.done * e.period) = true ↔ due := decide_eq_true_iff
    have hocc : exec (.timedOccurrence k) s = .next (s.timedOccurrence k.val) := rfl
    refine ⟨fun ho hl hd ht => ?_, fun ho hl hd ht => ?_, fun hn => ?_, ?_⟩
    · rw [hocc, State.timedOccurrence, if_neg, if_neg ht]
      simp [e, ho, (over_eq_false e).mpr hl, hdue.mpr hd]
    · rw [hocc, State.timedOccurrence, if_neg, if_pos ht, not_over]
      simp [e, ho, (over_eq_false e).mpr hl, hdue.mpr hd]
    · rw [hocc, State.timedOccurrence, if_pos]
      have hl : e.over = false ↔ left := over_eq_false e
      rwa [← hl, ← hdue, Bool.not_eq_false, Bool.not_eq_true] at hn
    · rw [show exec (.timedPulseEnd k) s = .next (s.timedPulseEnd k.val) from rfl, State.timedPulseEnd, not_over]
  · intro s n
    rw [show exec (.startAtFire n) s = .next (s.startAtFire n.val) from rfl, State.startAtFire]
    cases (s.site n.val).startAt with
    | none => rfl
    | some t => simp only [startable_iff, State.due, decide_eq_true_eq, and_assoc]

end Sys2Proof.Machine
end

section
set_option Elab.async false
/-! The long commands: what stands before their ticket (R428, R429, R445). -/

namespace Sys2Proof.Machine

theorem ticketAfter_ne_zero (n : BitVec 32) : ticketAfter n ≠ 0 := by
  unfold ticketAfter
  split
  · decide
  · assumption

theorem ticket_issue_of_ne {s : State} {q : Req} {w : Work} {b : Bool} {n : Nat} {tk : BitVec 32} (h : tk ≠ s.host.nextTicket) :
    (s.issue q w b n).ticket tk = s.ticket tk := by
  have : tk.toNat ≠ s.host.nextTicket.toNat := fun he => h (BitVec.eq_of_toNat_eq he)
  simp [State.issue, State.ticket, State.setTicket, this]

theorem ticket_issue_same (s : State) (q : Req) (w : Work) (b : Bool) (n : Nat) :
    (s.issue q w b n).ticket s.host.nextTicket = some
      { opcode := BitVec.ofNat 16 q.opcode, work := w, queued := b, final := none, progress := 0, total := BitVec.ofNat 64 n, phase := 0,
        data := [], cancel := false, retained := false, hostErr := false, source := q.ua } := by
  simp [State.issue, State.ticket, State.setTicket]

/-- A body that accepts and then lets `f` act on the unit and the ticket's number. -/
theorem acceptThen_answer (s : State) (q : Req) (w : Work) (b : Bool) (n : Nat) (f : State → BitVec 32 → State) :
    (if (s.accept q w b n).st = Code.ST_ACCEPTED then
        { s.accept q w b n with s := f (s.accept q w b n).s (s.accept q w b n).tk }
      else s.accept q w b n).answer q = s.acceptedOrBusy q w b n fun t => f t s.host.nextTicket := by
  rw [accept_cases, State.acceptedOrBusy]
  cases s.accepts w <;> rfl

theorem loadBody_answer (s : State) (q : Req) :
    (loadBody s q).answer q =
      if 16 ≤ q.n 0 1 ∨ 2 ≤ q.n 1 1 ∨ q.n 8 8 % 64 ≠ 0 then s.reply q Code.ST_BAD_PARAM [] 0
      else if 2 ≤ q.n 3 1 then s.reply q Code.ST_RESERVED_NONZERO [] 0
      else s.acceptedOrBusy q (.load (q.n 0 1) (bytesAt q.pay 0 32)) true (q.n 4 4) fun t =>
        if s.siteBusy (q.n 0 1) then t.finish s.host.nextTicket Code.ST_SITE_BUSY []
        else t.modSite (q.n 0 1) fun x => { x with loadPhase := 1 } := by
  unfold loadBody
  simp only [answer_ite, answer_refuse, accept_cases, State.acceptedOrBusy]
  cases s.accepts (.load (q.n 0 1) (bytesAt q.pay 0 32))
  · rfl
  · cases s.siteBusy (q.n 0 1) <;> rfl

theorem transomBody_own {s : State} {q : Req} (ho : q.own = true) (hn : q.n 0 1 < 16) (ha : q.n 8 8 % 64 = 0)
    (hh : q.n 0x10 8 < 2 ^ 48 ∨ q.n 0x10 8 = 2 ^ 64 - 1) : transomBody s q = transomPart s q := by
  unfold transomBody
  rw [if_neg (by omega), if_pos ho]

theorem armable_iff (x : Site) :
    ((x.state ≠ .loaded ∧ x.state ≠ .halted) ∨ x.loadPhase ≠ 0 ∨ x.unloading = true) ↔
      ¬((x.state = .loaded ∨ x.state = .halted) ∧ x.loadPhase = 0 ∧ x.unloading = false) := by
  rw [← Bool.not_eq_true]
  tauto

theorem failReadoutBody_answer (s : State) (q : Req) :
    (failReadoutBody s q).answer q =
      if q.n 0x10 8 % 64 ≠ 0 then s.reply q Code.ST_BAD_PARAM [] 0
      else if s.clearing (q.n 0 8) = true then s.reply q Code.ST_SET_BUSY [] 0
      else match s.readHeader (q.n 0 8) with
        | (.error st, u) => u.reply q st [] 0
        | (.ok b, u) =>
          if hdrClosed b then u.acceptedOrBusy q (.failReadout (bytesAt q.pay 0 0x20)) true (hdrPlaces (q.n 0 8) b) id
          else u.reply q Code.ST_SET_BUSY [] 0 := by
  unfold failReadoutBody
  simp only [answer_ite, answer_refuse]
  rcases s.readHeader (q.n 0 8) with ⟨st | b, u⟩
  · rfl
  · dsimp only
    rw [answer_ite, accept_answer, answer_refuse]
    cases hdrClosed b <;> rfl

theorem repairBody_answer (s : State) (q : Req) :
    (repairBody s q).answer q =
      if 16 < q.n 8 1 ∨ 16 < q.n 9 1 ∨ q.n 0x10 8 % 64 ≠ 0 ∨
          (q.n 10 1 ≠ 0xFF ∧ (16 ≤ q.n 10 1 ∨ (s.site (q.n 10 1)).img.failcfg.filter = false)) then
        s.reply q Code.ST_BAD_PARAM [] 0
      else if isDdr (q.n 0x10 8) = false ∨ s.memAt (q.n 0x10 8) = none then s.reply q Code.ST_ADDR_UNMAPPED [] 0
      else if s.clearing (q.n 0 8) = true then s.reply q Code.ST_SET_BUSY [] 0
      else match s.readHeader (q.n 0 8) with
        | (.error st, u) => u.reply q st [] 0
        | (.ok b, u) =>
          let f := hdrCfg b
          if hdrClosed b = false then u.reply q Code.ST_SET_BUSY [] 0
          else if f.bitmap = false ∨ f.mrc = false ∨ f.geomOk = false then u.reply q Code.ST_BAD_PARAM [] 0
          else if 4 ≤ u.host.repairs.length then u.reply q Code.ST_REPAIR_BUSY [] 0
          else u.acceptedOrBusy q (.repair (bytesAt q.pay 0 0x18)) true f.blocks id := by
  unfold repairBody
  simp only [answer_ite, answer_refuse, Option.isNone_iff_eq_none]
  rcases s.readHeader (q.n 0 8) with ⟨st | b, u⟩ <;>
    simp only [answer_ite, answer_refuse, accept_answer, ← ite_or, or_assoc]

theorem failClearBody_answer (s : State) (q : Req) :
    (failClearBody s q).answer q =
      let x := s.site (q.n 0 1)
      let f := x.img.failcfg
      let rs := f.setRegions (q.n 1 1)
      if 16 ≤ q.n 0 1 ∨ f.present = false ∨ f.nsets ≤ q.n 1 1 then s.reply q Code.ST_BAD_PARAM [] 0
      else if (x.fl.set = some (q.n 1 1) ∧ (x.fl.open_ = true ∨ x.fl.closing = true)) ∨ s.setInUse (tget 0 f.recBase (q.n 1 1)) = true then
        s.reply q Code.ST_SET_BUSY [] 0
      else if ∃ r ∈ rs, s.memAt (r * 65536) = none then s.reply q Code.ST_ADDR_UNMAPPED [] 0
      else s.acceptedOrBusy q (.failClear (q.n 0 1) (q.n 1 1)) true rs.length fun t =>
        t.modTicket s.host.nextTicket fun k => { k with buf := rs.flatMap fun g => leBytes g 4 } := by
  unfold failClearBody
  dsimp only
  rw [answer_ite, answer_ite, answer_ite, answer_ite, answer_ite, acceptThen_answer s q _ _ _ fun t tk =>
    t.modTicket tk fun k => { k with buf := ((s.site (q.n 0 1)).img.failcfg.setRegions (q.n 1 1)).flatMap fun g => leBytes g 4 }]
  simp only [answer_refuse, List.any_eq_true, Option.isNone_iff_eq_none, ite_or]

/-- Settles O25: each body's checks and its acceptance, and the ticket that acceptance makes. -/
theorem longCommandsAreAcceptedWithATicket : Obligations.LongCommandsAreAcceptedWithATicket := by
  unfold Obligations.LongCommandsAreAcceptedWithATicket
  refine ⟨?_, ?_, ?_, ?_, ?_, ?_, ?_, ?_, ?_, ?_, ?_, ?_, ?_, ?_, ?_, ?_, ?_⟩
  · intro s q w b n t
    refine ⟨ticketAfter_ne_zero _, fun tk h => ticket_issue_of_ne h, rfl, ?_⟩
    exact ⟨_, ticket_issue_same s q w b n, rfl, rfl, rfl, rfl, rfl⟩
  · intro s src q h
    exact (exec_served rfl h).trans (congrArg _ (loadBody_answer s q))
  · intro s src q h
    refine (exec_served rfl h).trans (congrArg _ ?_)
    unfold unloadBody
    dsimp only
    rw [answer_ite, answer_ite, acceptThen_answer s q _ _ _ fun t _ =>
      ((t.stopLoads (q.n 0 1)).cancelStartAt (q.n 0 1)).modSite (q.n 0 1) fun x => { x with unloading := true }]
    rfl
  · intro s src q h ho
    refine (exec_served rfl h).trans (congrArg _ ?_)
    simp only [transomBody, answer_ite, answer_refuse, accept_answer, ho, Bool.false_eq_true, if_false]
  · intro s src q h ho hn ha hh named n
    refine (exec_served rfl h).trans (congrArg _ ?_)
    rw [transomBody_own ho hn ha hh]
    unfold transomPart
    simp only [Nat.mod_eq_of_lt hn]
    rcases s.fetchImage (cmdUnit q.pay) (cmdAddr q.pay) (cmdLen q.pay) with ⟨b, _ | st, u⟩
    · dsimp only [n, named]
      cases u.transomCheck _ q.pay b <;> rfl
    · rfl
  · intro s src q h x
    refine (exec_served rfl h).trans (congrArg _ ?_)
    simp only [armBody, answer_ite, answer_refuse, accept_answer, armable_iff, ite_not, x]
  · intro s src q h
    refine (exec_served rfl h).trans (congrArg _ ?_)
    simp only [calibrateBody, answer_ite, answer_refuse, accept_answer]
  · intro s src q h x f rs
    exact (exec_served rfl h).trans (congrArg _ (failClearBody_answer s q))
  · intro s src q h
    exact (exec_served rfl h).trans (congrArg _ (failReadoutBody_answer s q))
  · intro s src q h fs
    exact (exec_served rfl h).trans (congrArg _ (repairBody_answer s q))
  · intro s src q h
    refine (exec_served rfl h).trans (congrArg _ ?_)
    simp only [trigReadoutBody, answer_ite, answer_refuse, accept_answer, ne_eq, ite_not]
  · intro s src q h
    refine (exec_served rfl h).trans (congrArg _ ?_)
    simp only [jobLoadBody, answer_ite, answer_refuse, accept_answer]
  · intro s src q h
    refine (exec_served rfl h).trans (congrArg _ ?_)
    simp [trainBody, answer_ite, answer_refuse, accept_answer]
  · intro s src q h
    refine (exec_served rfl h).trans (congrArg _ ?_)
    simp only [sweepBody, answer_ite, answer_refuse, accept_answer]
  · intro s src q h
    refine (exec_served rfl h).trans (congrArg _ ?_)
    simp only [copyBody, answer_ite, answer_refuse, accept_answer]
  · intro s src q h
    refine (exec_served rfl h).trans (congrArg _ ?_)
    simp only [enumerateBody, answer_ite, answer_refuse, accept_answer]
  · intro s src q h
    refine (exec_served rfl h).trans (congrArg _ ?_)
    unfold domainSetBody
    dsimp only
    rw [answer_ite, acceptThen_answer s q _ _ _ fun t tk =>
      if domStateOf (q.n 1 1) = .on then t.domainOn (q.n 0 1) tk else t.domainLow (q.n 0 1) (domStateOf (q.n 1 1)) tk]
    rfl

end Sys2Proof.Machine
end

section
set_option Elab.async false
/-! The slices of long work (R428, R435): a copy whose direction is neither of the two never ends. -/

namespace Sys2Proof.Machine

/-- A COPY from unmapped address 0 to host address 0 with 2 as its direction. -/
def sidewaysCopy : List Byte := List.replicate 0x14 0 ++ [2]

/-- The ticket of that copy. -/
def sidewaysTicket : Ticket :=
  { opcode := 0x0808, work := .copy sidewaysCopy, queued := true, final := none, progress := 0, total := 64, phase := 0, data := [],
    cancel := false, retained := false, hostErr := false, source := 0 }

def sidewaysState : State := State.reset.setTicket 1 (some sidewaysTicket)

theorem sidewaysState_ticket : sidewaysState.ticket 1 = some sidewaysTicket := by
  simp [sidewaysState, State.ticket, State.setTicket]

/-- The completion of a host read leaves the unit as it is. -/
theorem sidewaysState_completion : exec (.dmaHostCompletion 1 true) sidewaysState = .next sidewaysState := by
  rw [show exec (.dmaHostCompletion 1 true) sidewaysState = execDmaHostCompletion 1 true sidewaysState from rfl, execDmaHostCompletion,
    sidewaysState_ticket]
  rfl

/-- Refutes O26: a copy with direction 2 counts as one from the host for its slice and as none for its completions, which then leave
its ticket live though its unit address is not mapped. -/
theorem not_longWorkRunsInSlices : ¬ Obligations.LongWorkRunsInSlices := by
  unfold Obligations.LongWorkRunsInSlices
  rintro ⟨-, hslice, -⟩
  obtain ⟨-, -, -, -, -, hcopy⟩ := hslice sidewaysState 1 sidewaysTicket sidewaysState_ticket rfl (by decide +kernel)
  obtain ⟨-, hruns⟩ := hcopy sidewaysCopy rfl rfl rfl
  obtain ⟨-, -, hline⟩ := hruns (by decide +kernel)
  obtain ⟨-, hunmapped, -⟩ := hline sidewaysState (by rw [if_neg (by decide)]; exact sidewaysState_completion)
  have hend := hunmapped (by rintro ⟨w, hw, -⟩; exact absurd hw (by simp [sidewaysState, State.setTicket, State.reset]))
    (Or.inl (by decide +kernel))
  have hlive : sidewaysState.ticket 1 ≠ (sidewaysState.finish 1 Code.ST_ADDR_UNMAPPED sidewaysTicket.copyData).ticket 1 := by
    decide +kernel
  exact hlive (congrArg (fun u => u.ticket 1) hend)

end Sys2Proof.Machine
end

section
set_option Elab.async false
/-! The word-cell rows (R73, R74, R80): what a row changes in its cell. -/

namespace Sys2Proof.Machine

/-! ### Sums of bits -/

/-- A left fold that adds is a sum. -/
theorem foldl_range_add (f : Nat → Nat) (n : Nat) : (List.range n).foldl (fun r i => r + f i) 0 = ∑ i ∈ Finset.range n, f i := by
  induction n with
  | zero => rfl
  | succ n ih => rw [List.range_succ, List.foldl_append, ih, Finset.sum_range_succ]; rfl

theorem b2n_mul (b : Bool) (n : Nat) : b2n b * n = if b then n else 0 := by
  cases b <;> simp [b2n]

/-! ### A row that gives no result -/

/-- The cell of `a` has taken its step, and with it nothing but its flags, its products in flight and its pending output. -/
theorem cellRan_none {s t : State} {i c op : Nat} {a : CellAt} (h : s.cellClear i c op = some a) {v : WordCell} {z n cy : Bool}
    (hv : (t.sash i).cell c = v)
    (hs : v = { ((s.sash i).cellStep c).cell c with z := z, n := n, c := cy, muls := v.muls, outPend := v.outPend })
    (hd : ∀ d, d ≠ c → (t.sash i).cell d = (s.sash i).cell d) (hn : (t.sash i).net = (s.sash i).net) (hst : (t.sash i).st = (s.sash i).st)
    (hj : ∀ j, j ≠ i → t.sash j = s.sash j) (hm : t.mem = s.mem) (hl : t.lanes = s.lanes) :
    s.cellRan t i c a none z n cy := by
  have hlen := cellClear_len h
  have hpc : (((s.sash i).cell c).pc.toNat + 1) % ((s.sash i).cell c).len.toNat < 8 :=
    lt_of_lt_of_le (Nat.mod_lt _ (by omega)) hlen.2
  have hcell : (t.sash i).cell c =
      { ((s.sash i).cellStep c).cell c with z := z, n := n, c := cy, muls := v.muls, outPend := v.outPend } := hv.trans hs
  unfold State.cellRan
  simp only [hcell, Sash.cellStep, Sash.cell_setCell, if_true]
  refine ⟨trivial, ?_, fun k => ?_, trivial, trivial, trivial, trivial, trivial, trivial, fun j d hne => ?_, fun j => ?_, hm, hl⟩
  · rw [BitVec.toNat_ofNat, Nat.mod_eq_of_lt hpc]
  · rw [Option.getD_none, ite_self]
    rfl
  · by_cases hji : j = i
    · subst hji
      exact hd d (hne.resolve_left (fun hne => hne rfl))
    · rw [hj j hji]
  · by_cases hji : j = i
    · subst hji
      exact ⟨hn, hst⟩
    · rw [hj j hji]
      exact ⟨rfl, rfl⟩

/-- A row that changes its own cell alone, and in it only flags, products in flight and the pending output. -/
theorem wcell_modCell_ran {s : State} {i c op : Nat} {a : CellAt} (h : s.cellClear i c op = some a) {f : WordCell → WordCell} {z n cy : Bool}
    (hf : f (((s.sash i).cellStep c).cell c) =
      { ((s.sash i).cellStep c).cell c with
        z := z, n := n, c := cy, muls := (f (((s.sash i).cellStep c).cell c)).muls, outPend := (f (((s.sash i).cellStep c).cell c)).outPend }) :
    s.cellRan ((s.setSash i ((s.sash i).cellStep c)).modCell i c f) i c a none z n cy := by
  refine cellRan_none h (v := f (((s.sash i).cellStep c).cell c)) ?_ hf (fun d hd => ?_) ?_ ?_ (fun j hj => ?_) rfl rfl
  · simp [State.modCell, State.modSash]
  · simp [State.modCell, State.modSash, Sash.cellStep, hd]
  · simp [State.modCell, State.modSash, Sash.cellStep, Sash.setCell]
  · simp [State.modCell, State.modSash, Sash.cellStep, Sash.setCell]
  · simp [State.modCell, State.modSash, hj]

/-- A row with no action. -/
theorem wcStep_ran {s : State} {i c op : Nat} {a : CellAt} (h : s.cellClear i c op = some a) :
    s.cellRan (s.setSash i ((s.sash i).cellStep c)) i c a none ((s.sash i).cell c).z ((s.sash i).cell c).n ((s.sash i).cell c).c := by
  refine cellRan_none h (v := ((s.sash i).cellStep c).cell c) ?_ ?_ (fun d hd => ?_) ?_ ?_ (fun j hj => ?_) rfl rfl
  · simp
  · simp [Sash.cellStep]
  · simp [Sash.cellStep, hd]
  · simp [Sash.cellStep, Sash.setCell]
  · simp [Sash.cellStep, Sash.setCell]
  · simp [hj]

/-! ### Rows with a result -/

/-- The row of an operation that sets no flag. -/
theorem wcellAlu_keep {s : State} {i c op : Nat} {a : CellAt} (h : s.cellClear i c op = some a) (f : Word → Word → Word) :
    s.cellRan (s.wcellAlu i c op f fun _ _ v => v) i c a (some (f a.a a.b)) ((s.sash i).cell c).z ((s.sash i).cell c).n
      ((s.sash i).cell c).c :=
  wcellAlu_ran h f _ _ _ _ fun v hz hn hc => by rw [← hz, ← hn, ← hc]

/-- The row of an operation that sets Z alone. -/
theorem wcellAlu_zero {s : State} {i c op : Nat} {a : CellAt} (h : s.cellClear i c op = some a) (f : Word → Word → Word) :
    s.cellRan (s.wcellAlu i c op f fun x y v => v.zFlag (f x y)) i c a (some (f a.a a.b)) (f a.a a.b == 0) ((s.sash i).cell c).n
      ((s.sash i).cell c).c :=
  wcellAlu_ran h f _ _ _ _ fun v _ hn hc => by rw [WordCell.zFlag, ← hn, ← hc]

theorem subFlags_eq (v : WordCell) (a b : Word) :
    v.subFlags a b = { v with z := a == b, n := decide (a.toInt < b.toInt), c := decide (a.toNat < b.toNat) } := by
  have hz : (a - b == 0) = (a == b) := by
    rw [Bool.eq_iff_iff, beq_iff_eq, beq_iff_eq]
    exact sub_eq_zero
  rw [WordCell.subFlags, hz]
  rfl

/-- A row whose action reads its cell gives the result `r` of the cell as it was. -/
theorem wcell_eq_wcellAlu {s : State} {i c op : Nat} {a : CellAt} (h : s.cellClear i c op = some a) {act : State → CellAt → State}
    {f : Word → Word → Word} (ha : act (s.setSash i ((s.sash i).cellStep c)) a =
      (s.setSash i ((s.sash i).cellStep c)).cellResult a (f a.a a.b) id) :
    s.wcell i c op act = s.wcellAlu i c op f fun _ _ v => v := by
  rw [State.wcellAlu, wcell_clear h, wcell_clear h, ha]
  rfl

/-- The cell a row acts on, seen after its step. -/
theorem cell_stepped {s : State} {i c op : Nat} {a : CellAt} (h : s.cellClear i c op = some a) :
    ((s.setSash i ((s.sash i).cellStep c)).sash a.sash).cell a.cell = ((s.sash i).cellStep c).cell c := by
  obtain ⟨hi, hc, -⟩ := cellClear_at h
  rw [hi, hc, State.sash_setSash, if_pos rfl]

/-- SCR as an operation on B alone (R80, R92). -/
def scrWord (t : Tab (BitVec 8)) (b : Word) : Word :=
  BitVec.ofNat 32 (∑ k ∈ Finset.range 32, (if scrBit t b k then 2 ^ k else 0))

theorem exec_wcScr (i c : Fin 64) (s : State) : exec (.wcScr i c) s = execWcScr i c s := rfl

theorem exec_wcIn (i c : Fin 64) (s : State) : exec (.wcIn i c) s = execWcIn i c s := rfl

theorem wcScr_alu {s : State} {i c : Fin 64} {a : CellAt} (h : s.cellClear i.val c.val 0x10 = some a) :
    exec (.wcScr i c) s =
      .next (s.wcellAlu i.val c.val 0x10 (fun _ b => scrWord ((s.sash i.val).cell c.val).scr b) fun _ _ v => v) := by
  rw [exec_wcScr, execWcScr, wcell_eq_wcellAlu h]
  dsimp only
  rw [cell_stepped h, foldl_range_add]
  simp only [b2n_mul, Sash.cellStep, Sash.cell_setCell, if_true, scrWord]

theorem wcIn_alu {s : State} {i c : Fin 64} {a : CellAt} (h : s.cellClear i.val c.val 0x13 = some a) :
    exec (.wcIn i c) s = .next (s.wcellAlu i.val c.val 0x13 (fun _ _ => ((s.sash i.val).cell c.val).inWord) fun _ _ v => v) := by
  rw [exec_wcIn, execWcIn, wcell_eq_wcellAlu h]
  rw [cell_stepped h]
  simp only [Sash.cellStep, Sash.cell_setCell, if_true]

theorem popc_eq_card (x : Word) : popc x = BitVec.ofNat 32 ((Finset.range 32).filter fun k => x.getLsbD k = true).card := by
  rw [popc, foldl_range_add, Finset.card_filter]
  simp only [getBit_eq, b2n]

/-- Settles O12: the rows with a result are one step over their operation; NOP and CMP change no register. -/
theorem wordCellOperationsWriteRdAndFlags : Obligations.WordCellOperationsWriteRdAndFlags := by
  unfold Obligations.WordCellOperationsWriteRdAndFlags
  intro s i c u row keep zero
  have keeps (op : Nat) (cmd : Instr) (f : Word → Word → Word)
      (hc : exec cmd s = .next (s.wcellAlu i.val c.val op f fun _ _ v => v)) : keep op cmd fun a b => some (f a b) :=
    fun a h => ⟨_, hc, wcellAlu_keep h f⟩
  refine ⟨fun a h => ⟨_, rfl, ?_⟩, fun a h => ⟨_, rfl, ?_⟩, fun a h => ⟨_, rfl, ?_⟩, keeps _ _ (fun a b => a &&& b) rfl,
    keeps _ _ (fun a b => a ||| b) rfl, keeps _ _ (fun a b => a ^^^ b) rfl, keeps _ _ (fun a b => a &&& ~~~b) rfl,
    keeps _ _ (fun a b => a <<< (b.toNat % 32)) rfl, keeps _ _ (fun a b => a >>> (b.toNat % 32)) rfl,
    keeps _ _ (fun a b => a.sshiftRight (b.toNat % 32)) rfl, keeps _ _ (fun a b => a.rotateLeft (b.toNat % 32)) rfl,
    fun a h => ⟨_, rfl, ?_⟩, keeps _ _ (fun _ b => b) rfl, keeps _ _ (fun a b => brev (brevLen a) b) rfl,
    fun a h => ⟨_, wcScr_alu h, ?_⟩, fun a h => ⟨_, rfl, ?_⟩, fun a h => ⟨_, rfl, ?_⟩, fun a h => ⟨_, wcIn_alu h, ?_⟩⟩
  · rw [wcell_clear h]
    exact wcStep_ran h
  · exact wcellAlu_ran h _ _ _ _ _ fun v _ _ _ => rfl
  · exact wcellAlu_ran h _ _ _ _ _ fun v _ _ _ => subFlags_eq v _ _
  · rw [wcell_clear h]
    obtain ⟨hi, hc, -⟩ := cellClear_at h
    dsimp only
    rw [hi, hc]
    exact wcell_modCell_ran h (by rw [subFlags_eq])
  · exact wcellAlu_keep h _
  · beta_reduce
    rw [← popc_eq_card]
    exact wcellAlu_zero h fun a b => popc (a &&& b)
  · exact wcellAlu_zero h fun _ b => clzOf b
  · exact wcellAlu_keep h _

end Sys2Proof.Machine
end

section
set_option Elab.async false
/-! The bit operations, products and long wires of a word cell (R80 to R91). -/

namespace Sys2Proof.Machine

/-! ### Bits -/

theorem sum_bits_lt (f : Nat → Bool) (n : Nat) : ∑ i ∈ Finset.range n, (if f i then 2 ^ i else 0) < 2 ^ n := by
  induction n with
  | zero => simp
  | succ n ih =>
    rw [Finset.sum_range_succ, Nat.pow_succ]
    split <;> omega

theorem testBit_sum_bits (f : Nat → Bool) (n k : Nat) :
    (∑ i ∈ Finset.range n, (if f i then 2 ^ i else 0)).testBit k = (decide (k < n) && f k) := by
  induction n with
  | zero => simp
  | succ n ih =>
    rw [Finset.sum_range_succ, add_comm, show (if f n then 2 ^ n else 0) = 2 ^ n * b2n (f n) by rw [mul_comm, b2n_mul],
      Nat.testBit_two_pow_mul_add _ (sum_bits_lt f n), ih]
    by_cases hk : k < n
    · simp [hk, Nat.lt_succ_of_lt hk]
    · rw [if_neg hk]
      by_cases hkn : k = n
      · subst hkn
        cases f k <;> simp [b2n]
      · have : k - n = k - n - 1 + 1 := by omega
        rw [this]
        cases f n <;> simp [b2n, Nat.testBit_succ, show ¬k < n + 1 by omega]

theorem getLsbD_brev (n : Nat) (b : Word) (k : Nat) (hk : k < 32) :
    (brev n b).getLsbD k = (decide (k < n) && b.getLsbD (n - 1 - k)) := by
  have hsum : ∑ i ∈ Finset.range n, b2n (getBit b i) * 2 ^ (n - 1 - i) =
      ∑ j ∈ Finset.range n, if b.getLsbD (n - 1 - j) then 2 ^ j else 0 := by
    rw [← Finset.sum_range_reflect]
    refine Finset.sum_congr rfl fun j hj => ?_
    rw [Finset.mem_range] at hj
    rw [b2n_mul, getBit_eq, show n - 1 - (n - 1 - j) = j by omega]
  rw [brev, foldl_range_add, hsum, BitVec.getLsbD_ofNat, testBit_sum_bits (fun j => b.getLsbD (n - 1 - j))]
  simp [hk]

theorem clzOf_eq {b : Word} (hb : b ≠ 0) :
    ∃ k, k < 32 ∧ b.getLsbD k = true ∧ (∀ j, k < j → b.getLsbD j = false) ∧ (clzOf b).toNat = 31 - k := by
  have hn : b.toNat ≠ 0 := fun h => hb (BitVec.eq_of_toNat_eq (by simpa using h))
  refine ⟨b.toNat.log2, (Nat.log2_lt hn).mpr b.isLt, Nat.testBit_log2 hn, fun j hj => ?_, ?_⟩
  · exact Nat.testBit_lt_two_pow ((Nat.log2_lt hn).mp hj)
  · rw [clzOf, if_neg hb, BitVec.toNat_ofNat]
    omega

theorem scrBit_eq (t : Tab (BitVec 8)) (b : Word) (k : Nat) :
    scrBit t b k =
      xor (if (tget 0 t k).toNat % 64 < 32 then b.getLsbD ((tget 0 t k).toNat % 64) else false) ((tget 0 t k).getLsbD 6) := by
  simp only [scrBit, bits, Nat.shiftRight_zero, getBit_eq]
  split <;> simp_all

/-! ### Products, OUT and MAL -/

theorem sext_toNat (a : Word) : sext a.toNat 16 = (a.setWidth 16).toInt := by
  simp only [sext, BitVec.toInt_eq_toNat_cond, BitVec.toNat_setWidth]
  split <;> split <;> omega

/-- A multiply sends its product off and changes no register yet. -/
theorem startMul_ran {s : State} {i c op : Nat} {a : CellAt} (h : s.cellClear i c op = some a) {act : State → CellAt → State} {p : Word}
    (ha : ∀ t, act t a = t.startMul a p) :
    s.cellRan (s.wcell i c op act) i c a none ((s.sash i).cell c).z ((s.sash i).cell c).n ((s.sash i).cell c).c ∧
      (((s.wcell i c op act).sash i).cell c).muls = ((s.sash i).cell c).muls ++
        [⟨BitVec.ofNat 4 (wRD a.w), p, if wDV a.w then some (BitVec.ofNat 3 (wWS a.w)) else none, 0, 0, false⟩] := by
  obtain ⟨hi, hc, -⟩ := cellClear_at h
  rw [wcell_clear h, ha, State.startMul, hi, hc]
  refine ⟨wcell_modCell_ran h ?_, ?_⟩
  · simp [Sash.cellStep]
  · simp [State.modCell, State.modSash, Sash.cellStep]

/-- OUT keeps B for the end of the step. -/
theorem out_ran {s : State} {i c op : Nat} {a : CellAt} (h : s.cellClear i c op = some a) :
    let t := s.wcell i c op fun s a => s.modCell a.sash a.cell fun v => { v with outPend := some a.b }
    s.cellRan t i c a none ((s.sash i).cell c).z ((s.sash i).cell c).n ((s.sash i).cell c).c ∧ ((t.sash i).cell c).outPend = some a.b := by
  obtain ⟨hi, hc, -⟩ := cellClear_at h
  dsimp only
  rw [wcell_clear h, hi, hc]
  refine ⟨wcell_modCell_ran h ?_, ?_⟩
  · simp [Sash.cellStep]
  · simp [State.modCell, State.modSash]

/-- MAL keeps its bits for the latch. -/
theorem mal_ran {s : State} {i c op : Nat} {a : CellAt} (h : s.cellClear i c op = some a) :
    let t := s.wcell i c op fun s a =>
      s.modSash a.sash fun x => { x with malPend := x.malPend ++ [(a.cell, wRD a.w % 4, BitVec.ofNat 15 a.b.toNat)] }
    s.cellRan t i c a none ((s.sash i).cell c).z ((s.sash i).cell c).n ((s.sash i).cell c).c ∧
      (t.sash i).malPend = (s.sash i).malPend ++ [(c, wRD a.w % 4, BitVec.ofNat 15 a.b.toNat)] := by
  obtain ⟨hi, hc, -⟩ := cellClear_at h
  dsimp only
  rw [wcell_clear h, hi, hc]
  refine ⟨cellRan_none h (v := ((s.sash i).cellStep c).cell c) ?_ ?_ (fun d hd => ?_) ?_ ?_ (fun j hj => ?_) rfl rfl, ?_⟩
  · simp [State.modSash, Sash.cell]
  · simp [Sash.cellStep]
  · have : ((s.sash i).cellStep c).cell d = (s.sash i).cell d := by simp [Sash.cellStep, hd]
    simpa [State.modSash, Sash.cell] using this
  · simp [State.modSash, Sash.cellStep, Sash.setCell]
  · simp [State.modSash, Sash.cellStep, Sash.setCell]
  · simp [State.modSash, hj]
  · simp [State.modSash, Sash.cellStep, Sash.setCell]

/-! ### Wires -/

/-- What driving a wire makes of the drives of its sash. -/
theorem drives_driveWire {s : State} {i n d : Nat} {v : Word} (hd : d ≠ 64) :
    ((s.driveWire i n d v).sash i).drives =
      if getBit (tget 0 (s.sash i).wen n) d = false ∨ getBit (s.sash i).wrec.contendWires n = true then (s.sash i).drives
      else if ∃ e ∈ (s.sash i).drives, e.1 = n ∧ e.2.1 ≠ d then (s.sash i).drives.filter (·.1 != n)
      else (s.sash i).drives.filter (·.1 != n) ++ [(n, d, v)] := by
  unfold State.driveWire
  simp only [if_neg hd, Bool.or_eq_true, Bool.not_eq_true', List.any_eq_true, Bool.and_eq_true, beq_iff_eq, bne_iff_ne]
  split
  · rfl
  split
  · rw [pendSash_sash, State.sash_setSash, if_pos rfl]
  · rw [State.sash_setSash, if_pos rfl]

/-- A second driver disables the wire. -/
theorem contendWires_driveWire {s : State} {i n d : Nat} {v : Word} (hd : d ≠ 64) (hn : n < 8)
    (he : getBit (tget 0 (s.sash i).wen n) d = true) (hc : getBit (s.sash i).wrec.contendWires n = false)
    (h : ∃ e ∈ (s.sash i).drives, e.1 = n ∧ e.2.1 ≠ d) : getBit ((s.driveWire i n d v).sash i).wrec.contendWires n = true := by
  have h' : ((s.sash i).drives.any fun e => e.1 == n && e.2.1 != d) = true := by simpa [List.any_eq_true] using h
  unfold State.driveWire
  simp only [if_neg hd, he, hc, h', Bool.not_true, Bool.or_self, Bool.false_eq_true, if_false, if_true, pendSash_sash, State.sash_setSash]
  exact getBit_putBit_same _ _ _ hn

theorem wWS_lt (w : Word) : wWS w < 8 := Nat.mod_lt _ (by decide)

/-- A row with a result drives its wire from a unit whose wires are as before. -/
theorem wcellAlu_drive {s : State} {i c op : Nat} {a : CellAt} (h : s.cellClear i c op = some a) (f : Word → Word → Word)
    (fl : Word → Word → WordCell → WordCell) :
    ∃ u : State, (u.sash i).drives = (s.sash i).drives ∧ (u.sash i).wen = (s.sash i).wen ∧ (u.sash i).wrec = (s.sash i).wrec ∧
      s.wcellAlu i c op f fl = if wDV a.w then u.driveWire i (wWS a.w) c (f a.a a.b) else u := by
  obtain ⟨hi, hc, -⟩ := cellClear_at h
  rw [State.wcellAlu, wcell_clear h, State.cellResult, hi, hc]
  refine ⟨_, ?_, ?_, ?_, rfl⟩ <;> simp [State.modCell, State.modSash, Sash.cellStep, Sash.setCell]

/-- What a row with a result makes of the wires. -/
theorem wcellAlu_wires {s : State} {i c op : Nat} {a : CellAt} (h : s.cellClear i c op = some a) (hc : c < 64) (f : Word → Word → Word)
    (fl : Word → Word → WordCell → WordCell) :
    let t := s.wcellAlu i c op f fl
    let x := s.sash i
    let w := wWS a.w
    (wDV a.w = false ∨ getBit (tget 0 x.wen w) c = false ∨ getBit x.wrec.contendWires w = true → (t.sash i).drives = x.drives) ∧
      (wDV a.w = true → getBit (tget 0 x.wen w) c = true → getBit x.wrec.contendWires w = false →
        ((∀ d ∈ x.drives, d.1 = w → d.2.1 = c) → (t.sash i).drives = x.drives.filter (·.1 != w) ++ [(w, c, f a.a a.b)]) ∧
        ((∃ d ∈ x.drives, d.1 = w ∧ d.2.1 ≠ c) →
          (t.sash i).drives = x.drives.filter (·.1 != w) ∧ getBit (t.sash i).wrec.contendWires w = true)) := by
  intro t x w
  obtain ⟨u, hdr, hen, hrec, ht⟩ := wcellAlu_drive h f fl
  have hc' : c ≠ 64 := by omega
  have hdrives := drives_driveWire (s := u) (i := i) (n := w) (v := f a.a a.b) hc'
  rw [hdr, hen, hrec] at hdrives
  change t = _ at ht
  have hon (he : getBit (tget 0 x.wen w) c = true) (hk : getBit x.wrec.contendWires w = false) :
      ¬(getBit (tget 0 x.wen w) c = false ∨ getBit x.wrec.contendWires w = true) :=
    fun ho => ho.elim (fun h => Bool.noConfusion (he.symm.trans h)) (fun h => Bool.noConfusion (hk.symm.trans h))
  refine ⟨fun hoff => ?_, fun hv he hk => ⟨fun hone => ?_, fun htwo => ?_⟩⟩
  · rw [ht]
    cases hv : wDV a.w
    · exact hdr
    · rw [if_pos rfl, hdrives, if_pos (hoff.resolve_left (by simp [hv]))]
  · rw [ht, if_pos hv, hdrives, if_neg (hon he hk), if_neg]
    rintro ⟨d, hd, hw, hne⟩
    exact hne (hone d hd hw)
  · rw [ht, if_pos hv]
    refine ⟨?_, contendWires_driveWire hc' (wWS_lt _) (by rw [hen]; exact he) (by rw [hrec]; exact hk) (by rw [hdr]; exact htwo)⟩
    rw [hdrives, if_neg (hon he hk), if_pos htwo]

theorem exec_mulProductLand (i c : Fin 64) (s : State) : exec (.mulProductLand i c) s = execMulProductLand i c s := rfl

/-- The cell when product `m` lands: in its register unless a later instruction of the step wrote that. -/
def WordCell.landed (v : WordCell) (m : MulPend) : WordCell :=
  { v with
    muls := v.muls.map fun k => if k = m then { k with landed := true } else k
    regs := if v.done && getBit v.wrote m.rd.toNat then v.regs else tset 0 v.regs m.rd.toNat m.value }

theorem mulProductLand_eq {s : State} {i c : Fin 64} {n : Fin 16} {m : MulPend} (hn : (s.sash i.val).cfg.site = some n)
    (hm : s.mulDue n.val i.val c.val = some m) :
    let v := (s.sash i.val).cell c.val
    let u := s.modCell i.val c.val fun v => v.landed m
    exec (.mulProductLand i c) s = .next
      (if (v.done && getBit v.wrote m.rd.toNat) = true then u
        else match m.drive with
          | some n => if v.done && getBit v.drove n.toNat then u else u.driveWire i.val n.toNat c.val m.value
          | none => u) := by
  rw [exec_mulProductLand, execMulProductLand]
  simp only [hn, hm]
  cases hl : ((s.sash i.val).cell c.val).done && getBit ((s.sash i.val).cell c.val).wrote m.rd.toNat <;>
    simp only [State.modCell, State.modSash, WordCell.landed, hl, if_true, Bool.false_eq_true, if_false] <;> rfl

/-- A product that is due is among those in flight. -/
theorem mulDue_mem {s : State} {n i c : Nat} {m : MulPend} (h : s.mulDue n i c = some m) : m ∈ ((s.sash i).cell c).muls := by
  unfold State.mulDue at h
  dsimp only at h
  split at h
  · exact List.mem_of_find?_eq_some h
  · cases h

theorem reg_landed (v : WordCell) (m : MulPend) (k : Nat) :
    (v.landed m).reg k = if k = m.rd.toNat ∧ (v.done && getBit v.wrote m.rd.toNat) = false then m.value else v.reg k := by
  unfold WordCell.landed WordCell.reg
  cases v.done && getBit v.wrote m.rd.toNat <;> simp

theorem landed_mem {v : WordCell} {m : MulPend} (h : m ∈ v.muls) : { m with landed := true } ∈ (v.landed m).muls :=
  List.mem_map.mpr ⟨m, h, if_pos rfl⟩

theorem mulProductLand_lands {s : State} {i c : Fin 64} {n : Fin 16} {m : MulPend} (hn : (s.sash i.val).cfg.site = some n)
    (hm : s.mulDue n.val i.val c.val = some m) :
    let x := s.sash i.val
    let u := x.cell c.val
    let later := u.done && getBit u.wrote m.rd.toNat
    ∃ t, exec (.mulProductLand i c) s = .next t ∧
      (∀ k, ((t.sash i.val).cell c.val).reg k = if k = m.rd.toNat ∧ later = false then m.value else u.reg k) ∧
      { m with landed := true } ∈ ((t.sash i.val).cell c.val).muls ∧
      (∀ j d, (j ≠ i.val ∨ d ≠ c.val) → (t.sash j).cell d = (s.sash j).cell d) ∧ t.mem = s.mem ∧
      (∀ w, m.drive = some w → later = false → (u.done && getBit u.drove w.toNat) = false → getBit (tget 0 x.wen w.toNat) c.val = true →
        getBit x.wrec.contendWires w.toNat = false → (∀ d ∈ x.drives, d.1 = w.toNat → d.2.1 = c.val) →
        (t.sash i.val).drives = x.drives.filter (·.1 != w.toNat) ++ [(w.toNat, c.val, m.value)]) ∧
      (m.drive = none ∨ later = true → (t.sash i.val).drives = x.drives) := by
  intro x v later
  have hexec := mulProductLand_eq hn hm
  dsimp only at hexec
  generalize hu : s.modCell i.val c.val (fun v => v.landed m) = u at hexec
  have hcell : (u.sash i.val).cell c.val = v.landed m := by simp [← hu, State.modCell, State.modSash, v, x]
  have hother : ∀ j d, (j ≠ i.val ∨ d ≠ c.val) → (u.sash j).cell d = (s.sash j).cell d := by
    intro j d hjd
    by_cases hj : j = i.val
    · have hd : d ≠ c.val := hjd.resolve_left (fun h => h hj)
      simp [← hu, State.modCell, State.modSash, hj, hd]
    · simp [← hu, State.modCell, State.modSash, hj]
  have hwires : (u.sash i.val).drives = x.drives ∧ (u.sash i.val).wen = x.wen ∧ (u.sash i.val).wrec = x.wrec := by
    simp [← hu, State.modCell, State.modSash, Sash.setCell, x]
  obtain ⟨hdr, hen, hrec⟩ := hwires
  have hcells (t : State) (ht : ∀ j, (t.sash j).cells = (u.sash j).cells) (htm : t.mem = s.mem) :
      (∀ k, ((t.sash i.val).cell c.val).reg k = if k = m.rd.toNat ∧ later = false then m.value else v.reg k) ∧
        { m with landed := true } ∈ ((t.sash i.val).cell c.val).muls ∧
        (∀ j d, (j ≠ i.val ∨ d ≠ c.val) → (t.sash j).cell d = (s.sash j).cell d) ∧ t.mem = s.mem := by
    have hsame : ∀ j d, (t.sash j).cell d = (u.sash j).cell d := fun j d => by rw [Sash.cell, ht, Sash.cell]
    refine ⟨fun k => ?_, ?_, fun j d h => (hsame j d).trans (hother j d h), htm⟩
    · rw [hsame, hcell, reg_landed]
    · rw [hsame, hcell]
      exact landed_mem (mulDue_mem hm)
  obtain ⟨hreg, hmul, hoth, hmem⟩ := hcells u (fun _ => rfl) (by rw [← hu]; rfl)
  by_cases hl : later = true
  · rw [if_pos hl] at hexec
    exact ⟨u, hexec, hreg, hmul, hoth, hmem, fun w _ h => absurd (hl.symm.trans h) (by decide), fun _ => hdr⟩
  rw [if_neg hl] at hexec
  obtain hd | ⟨w, hd⟩ : m.drive = none ∨ ∃ w, m.drive = some w := by cases m.drive <;> simp
  · rw [hd] at hexec
    exact ⟨u, hexec, hreg, hmul, hoth, hmem, fun w h => absurd (hd.symm.trans h) (by simp), fun _ => hdr⟩
  rw [hd] at hexec
  have hnot : ¬(m.drive = none ∨ later = true) := by simp [hl, hd]
  cases hdrove : v.done && getBit v.drove w.toNat with
  | true =>
    refine ⟨u, hexec.trans (congrArg _ (if_pos hdrove)), hreg, hmul, hoth, hmem, fun w' hw' _ h => ?_, fun h => absurd h hnot⟩
    cases Option.some.inj (hd.symm.trans hw')
    exact absurd (hdrove.symm.trans h) (by decide)
  | false =>
    obtain ⟨hreg, hmul, hoth, hmem⟩ := hcells (u.driveWire i.val w.toNat c.val m.value) (fun j => (driveWire_sash _ _ _ _ _ j).1)
      ((driveWire_mem_lanes _ _ _ _ _).1.trans hmem)
    refine ⟨_, hexec.trans (congrArg _ (if_neg (ne_true_of_eq_false hdrove))), hreg, hmul, hoth, hmem, fun w' hw' _ _ he hk hone => ?_,
      fun h => absurd h hnot⟩
    cases Option.some.inj (hd.symm.trans hw')
    rw [drives_driveWire (by omega), hdr, hen, hrec, if_neg, if_neg]
    · rintro ⟨d, hd, hw, hne⟩
      exact hne (hone d hd hw)
    · rintro (h | h)
      · exact Bool.noConfusion (he.symm.trans h)
      · exact Bool.noConfusion (hk.symm.trans h)

/-- The rows whose result is one operation of A and B. -/
def aluRows (i c : Fin 64) : List (Nat × Instr × (Word → Word → Word)) :=
  [(0x01, .wcAdd i c, fun a b => a + b), (0x02, .wcSub i c, fun a b => a - b), (0x03, .wcAnd i c, fun a b => a &&& b),
   (0x04, .wcOr i c, fun a b => a ||| b), (0x05, .wcXor i c, fun a b => a ^^^ b), (0x06, .wcAndn i c, fun a b => a &&& ~~~b),
   (0x07, .wcShl i c, fun a b => a <<< (b.toNat % 32)), (0x08, .wcShr i c, fun a b => a >>> (b.toNat % 32)),
   (0x09, .wcSar i c, fun a b => a.sshiftRight (b.toNat % 32)), (0x0A, .wcRol i c, fun a b => a.rotateLeft (b.toNat % 32)),
   (0x0E, .wcMov i c, fun _ b => b), (0x0F, .wcBrev i c, fun a b => brev (brevLen a) b), (0x11, .wcPopc i c, fun a b => popc (a &&& b)),
   (0x12, .wcClz i c, fun _ b => clzOf b)]

theorem exec_aluRow (i c : Fin 64) :
    ∀ row ∈ aluRows i c, ∃ fl, ∀ s, exec row.2.1 s = .next (s.wcellAlu i c row.1 row.2.2 fl) := by
  simp only [aluRows, List.forall_mem_cons, List.not_mem_nil, false_implies, implies_true, and_true]
  and_intros
  all_goals exact ⟨_, fun _ => rfl⟩

/-- A cell that holds, has executed or stands at another operation takes no step. -/
theorem wcell_idle {s : State} {i c op : Nat} {n : Fin 16} (hn : (s.sash i).cfg.site = some n)
    (h : s.cellsRun n.val i = false ∨ ((s.sash i).cell c).live = false ∨ ((s.sash i).cell c).done = true ∨
      (s.sash i).mulHold (s.mulContract n.val) = true ∨ wOpc ((s.sash i).cell c).entry ≠ op) (act : State → CellAt → State) :
    s.wcell i c op act = s := by
  unfold State.wcell
  simp only [hn]
  rw [if_neg]
  simp only [Bool.and_eq_true, Bool.not_eq_true', beq_iff_eq]
  rintro ⟨⟨⟨⟨h1, h2⟩, h3⟩, h4⟩, h5⟩
  simp [h1, h2, h3, h4, h5] at h

/-- An entry with a parity error faults its site (R91). -/
theorem wcell_parity {s : State} {i c op : Nat} {n : Fin 16} (hn : (s.sash i).cfg.site = some n)
    (hrun : s.cellsRun n.val i = true) (hlive : ((s.sash i).cell c).live = true) (hdone : ((s.sash i).cell c).done = false)
    (hhold : (s.sash i).mulHold (s.mulContract n.val) = false) (hop : wOpc ((s.sash i).cell c).entry = op)
    (hpar : getBit ((s.sash i).cell c).parityBad ((s.sash i).cell c).pc.toNat = true) (act : State → CellAt → State) :
    s.wcell i c op act = s.cellParity i c := by
  simp [State.wcell, hn, hrun, hlive, hdone, hhold, hop, hpar]

/-- Settles O13: bit sums for the bit operations, one lemma each for products and wires, and the shared step for the rows that do not run. -/
theorem bitOperationsProductsAndWires : Obligations.BitOperationsProductsAndWires := by
  unfold Obligations.BitOperationsProductsAndWires
  refine ⟨⟨fun a b k hk => getLsbD_brev _ b k hk, fun a => ?_, ?_, fun b hb => clzOf_eq hb, scrBit_eq⟩, ?_, ?_, ?_, ?_, ?_⟩
  · rfl
  · decide
  · intro s i c a u same flight
    refine ⟨fun h => ⟨_, rfl, startMul_ran h fun t => rfl⟩, fun h => ⟨_, rfl, ?_⟩, fun h => ⟨_, rfl, out_ran h⟩,
      fun h => ⟨_, rfl, ?_⟩⟩
    · rw [← sext_toNat, ← sext_toNat]
      exact startMul_ran h fun t => rfl
    · exact mal_ran h
  · intro s i c a x w rows r hr h
    have hrows : rows = (aluRows i c).map (fun r => (r.1, r.2.1, r.2.2 a.a a.b)) ++ [(0x13, .wcIn i c, (x.cell c.val).inWord)] := rfl
    rw [hrows, List.mem_append, List.mem_singleton, List.mem_map] at hr
    obtain ⟨r, hr, rfl⟩ | rfl := hr
    · obtain ⟨fl, hexec⟩ := exec_aluRow i c r hr
      exact ⟨_, hexec s, wcellAlu_wires h c.isLt _ _⟩
    · exact ⟨_, wcIn_alu h, wcellAlu_wires h c.isLt _ _⟩
  · intro s i c n m hn hm x u later
    exact mulProductLand_lands hn hm
  · intro s i c n hn hm
    rw [exec_mulProductLand, execMulProductLand]
    simp only [hn, hm]
  · intro s i c n x u rows hn row hrow
    obtain ⟨act, hexec⟩ := exec_wcellRow i c row hrow
    rw [hexec]
    exact ⟨fun hrun hlive hdone hhold hop hpar => by rw [wcell_parity hn hrun hlive hdone hhold hop hpar],
      fun hno => by rw [wcell_idle hn hno]⟩

end Sys2Proof.Machine
end

section
set_option Elab.async false
/-! The step every pane row shares, and the rows that move one bit (R30, R35, R36, R40, R41, R52, R53). -/

namespace Sys2Proof.Machine

/-! ### Writing an entry twice -/

theorem tinsert_tinsert {α : Type} (t : Tab α) (k : Nat) (v w : α) : tinsert (tinsert t k v) k w = tinsert t k w := by
  induction t with
  | nil => simp [tinsert]
  | cons e t ih =>
    obtain ⟨j, u⟩ := e
    by_cases hj : j = k
    · simp [tinsert, hj]
    · by_cases hk : k < j
      · simp [tinsert, hj, hk]
      · simp [tinsert, hj, hk, ih]

theorem setSash_setSash {s : State} {i : Nat} {x y : Sash} (hx : x ≠ {}) (hy : y ≠ {}) : (s.setSash i x).setSash i y = s.setSash i y := by
  simp only [State.setSash, tset, if_neg hx, if_neg hy, tinsert_tinsert]

/-! ### A pane's result -/

theorem getBit_putBit {w : Nat} (x : BitVec w) (i j : Nat) (b : Bool) (hi : i < w) :
    getBit (putBit x i b) j = if j = i then b else getBit x j := by
  split
  · next h => rw [h, getBit_putBit_same _ _ _ hi]
  next h =>
  have hbit : (BitVec.ofNat w (2 ^ i)).getLsbD j = false := by
    rw [BitVec.getLsbD_ofNat, Nat.testBit_two_pow_of_ne (Ne.symm h), Bool.and_false]
  rw [getBit_eq, getBit_eq]
  unfold putBit
  by_cases hj : j < w
  · cases b <;> simp only [BitVec.getLsbD_or, BitVec.getLsbD_and, BitVec.getLsbD_not, hbit, hj, decide_true, Bool.not_false, Bool.and_true,
      Bool.or_false, if_true, Bool.false_eq_true, if_false]
  · rw [BitVec.getLsbD_of_ge _ _ (by omega), BitVec.getLsbD_of_ge _ _ (by omega)]

theorem latchPane_sash (s : State) (i k p : Nat) (v : Bool) (j : Nat) : (s.latchPane i k p v).sash j = s.sash j := by
  unfold State.latchPane
  dsimp only
  split <;> rfl

theorem latchPane_frame (s : State) (i k p : Nat) (v : Bool) :
    s.latchPane i k p v = { s with power := { s.power with key := (s.latchPane i k p v).power.key } } := by
  unfold State.latchPane
  dsimp only
  split <;> rfl

/-! ### What stands before a row -/

/-- The pane rows whose action alone differs, each with its OP (R39, R40). -/
def paneRows (i : Fin 64) (p : Fin 256) : List (Instr × Nat) :=
  [(.paneNop i p, 0), (.lut4 i p, 1), (.lut3s i p, 2), (.send i p, 3), (.recv i p, 4), (.memrd i p, 5), (.memwr i p, 6),
   (.pinout i p, 7), (.pinin i p, 8), (.wput i p, 10), (.wget i p, 11), (.probe i p, 12)]

theorem exec_paneRow (i : Fin 64) (p : Fin 256) :
    ∀ row ∈ paneRows i p, ∃ act : State → PaneAt → State, ∀ s, exec row.1 s = .next (s.pane i p row.2 act) := by
  simp only [paneRows, List.forall_mem_cons, List.not_mem_nil, false_implies, implies_true, and_true]
  and_intros
  all_goals exact ⟨_, fun _ => rfl⟩

theorem paneDue_op {x : Sash} {p op : Nat} (h : x.paneDue p op = true) : pOp (x.fetch p x.k) = op := by
  simp only [Sash.paneDue, Bool.and_eq_true, beq_iff_eq] at h
  exact h.1.2

theorem pane_notDue {s : State} {i p op : Nat} (h : (s.sash i).paneDue p op = false) (act : State → PaneAt → State) :
    s.pane i p op act = s := by
  unfold State.pane
  dsimp only
  cases (s.sash i).cfg.site with
  | none => rfl
  | some n => simp [h]

theorem pane_awaits {s : State} {i p op : Nat} {n : Fin 16} (hn : (s.sash i).cfg.site = some n) (h : (s.sash i).paneDue p op = true)
    (ha : (pUsed ((s.sash i).fetch p (s.sash i).k)).any ((s.sash i).awaits p) = true) (act : State → PaneAt → State) :
    s.pane i p op act = s.beginStall n.val i .port := by
  simp [State.pane, hn, h, ha]

theorem pane_uncorrectable {s : State} {i p op : Nat} {n : Fin 16} (hn : (s.sash i).cfg.site = some n) (h : (s.sash i).paneDue p op = true)
    (ha : (pUsed ((s.sash i).fetch p (s.sash i).k)).any ((s.sash i).awaits p) = false) (hc : getBit (s.sash i).checked p = false)
    (he : (s.sash i).wordErr p (s.sash i).k = 2) (act : State → PaneAt → State) :
    s.pane i p op act = s.faultSashNow i Code.DI_ISTORE_UNCORRECTABLE p (s.sash i).k := by
  simp only [State.pane, hn, h, ha, if_true, Bool.false_eq_true, if_false, State.checkOnce, hc, State.fetchCheck, he]

/-- The sash with the word of pane `p` checked. -/
def Sash.wordChecked (x : Sash) (p : Nat) : Sash := { x with checked := putBit x.checked p true }

/-- A pane whose word is clean checks its operands and acts. -/
theorem pane_checked {s : State} {i p op : Nat} {n : Fin 16} (hn : (s.sash i).cfg.site = some n) (h : (s.sash i).paneDue p op = true)
    (ha : (pUsed ((s.sash i).fetch p (s.sash i).k)).any ((s.sash i).awaits p) = false) (hc : getBit (s.sash i).checked p = false)
    (he : (s.sash i).wordErr p (s.sash i).k = 0) (act : State → PaneAt → State) :
    let c : PaneAt := { sash := i, pane := p, k := (s.sash i).k, w := (s.sash i).fetch p (s.sash i).k, site := n.val }
    s.pane i p op act = act ((s.modSash i fun x => x.wordChecked p).useOperands c (pUsed c.w)) c := by
  simp only [State.pane, hn, h, ha, if_true, Bool.false_eq_true, if_false, State.checkOnce, hc, State.fetchCheck, he]
  rfl

theorem pendSash_img (s : State) (i : Nat) (code : Status) (p d m : Nat) : ((s.pendSash i code p d).site m).img = (s.site m).img := by
  unfold State.pendSash State.pendFault State.modSite
  cases s.siteOf i with
  | none => rfl
  | some n =>
    by_cases hm : m = n
    · subst hm
      simp only [State.site_setSite, if_true]
      split <;> rfl
    · simp [hm]

/-- The sash with a parity error of an operand counted (R30, R35). -/
def Sash.parityCounted (x : Sash) : Sash := { x with ctr := { x.ctr with bitstorePar := satInc x.ctr.bitstorePar } }

theorem ne_default_of_checked {x : Sash} {p : Nat} (h : getBit x.checked p = true) : x ≠ {} := by
  rintro rfl
  simp [getBit] at h

/-- A parity error of the one operand is counted and sets a fault pending (R30, R35). -/
theorem useOperands_parity {s : State} {c : PaneAt} {f : Nat} (hp : c.pane < 256) (hbad : (s.sash c.sash).operandBad c.pane f = true)
    (hearly : ((s.site c.site).img.scoreboard && (s.sash c.sash).operandEarly c.pane f) = false) :
    (s.modSash c.sash fun x => x.wordChecked c.pane).useOperands c [f] =
      (s.setSash c.sash ((s.sash c.sash).wordChecked c.pane).parityCounted).pendSash c.sash Code.DI_BITSTORE_PARITY c.pane (opIndex f) := by
  have hc : getBit ((s.sash c.sash).wordChecked c.pane).checked c.pane = true := getBit_putBit_same _ _ _ hp
  have hset : ((s.setSash c.sash ((s.sash c.sash).wordChecked c.pane)).setSash c.sash ((s.sash c.sash).wordChecked c.pane).parityCounted) =
      s.setSash c.sash ((s.sash c.sash).wordChecked c.pane).parityCounted :=
    setSash_setSash (ne_default_of_checked hc) (ne_default_of_checked hc)
  have hbad' : ((s.sash c.sash).wordChecked c.pane).operandBad c.pane f = true := hbad
  have hearly' : ((s.site c.site).img.scoreboard && ((s.sash c.sash).wordChecked c.pane).parityCounted.operandEarly c.pane f) = false :=
    hearly
  rw [State.useOperands, List.foldl_cons, List.foldl_nil, State.useOperand, State.modSash_eq, State.sash_setSash, if_pos rfl, if_pos hbad']
  rw [Sash.parityCounted] at hset
  simp only [hset]
  rw [pendSash_sash, pendSash_img, State.sash_setSash, if_pos rfl, if_neg]
  · rfl
  · exact ne_true_of_eq_false hearly'

/-- A pane whose one operand has a parity error acts on the state with the error noted. -/
theorem pane_parity {s : State} {i p op f : Nat} {n : Fin 16} (hp : p < 256) (hn : (s.sash i).cfg.site = some n)
    (h : (s.sash i).paneDue p op = true) (hf : pUsed ((s.sash i).fetch p (s.sash i).k) = [f]) (ha : (s.sash i).awaits p f = false)
    (hc : getBit (s.sash i).checked p = false) (he : (s.sash i).wordErr p (s.sash i).k = 0) (hbad : (s.sash i).operandBad p f = true)
    (hearly : ((s.site n.val).img.scoreboard && (s.sash i).operandEarly p f) = false) (act : State → PaneAt → State) :
    s.pane i p op act =
      act ((s.setSash i ((s.sash i).wordChecked p).parityCounted).pendSash i Code.DI_BITSTORE_PARITY p (opIndex f))
        { sash := i, pane := p, k := (s.sash i).k, w := (s.sash i).fetch p (s.sash i).k, site := n.val } := by
  rw [pane_checked hn h (by rw [hf, List.any_cons, List.any_nil, ha, Bool.or_false]) hc he]
  dsimp only
  rw [hf, useOperands_parity (c := { sash := i, pane := p, k := (s.sash i).k, w := (s.sash i).fetch p (s.sash i).k, site := n.val })
    hp hbad hearly]

theorem exec_paneNop (i : Fin 64) (p : Fin 256) (s : State) : exec (.paneNop i p) s = execPaneNop i p s := rfl
theorem exec_probe (i : Fin 64) (p : Fin 256) (s : State) : exec (.probe i p) s = execProbe i p s := rfl
theorem exec_send (i : Fin 64) (p : Fin 256) (s : State) : exec (.send i p) s = execSend i p s := rfl
theorem exec_wput (i : Fin 64) (p : Fin 256) (s : State) : exec (.wput i p) s = execWput i p s := rfl
theorem exec_wget (i : Fin 64) (p : Fin 256) (s : State) : exec (.wget i p) s = execWget i p s := rfl

/-- Noting the check of a word changes nothing else of the sash. -/
theorem sash_paneReady (s : State) (i p : Nat) :
    (s.paneReady i p).sash i = { s.sash i with checked := ((s.paneReady i p).sash i).checked } := by
  unfold State.paneReady
  split
  · rfl
  · simp [State.modSash]

/-- Settles O8: a row acts on what its pane executes, and what stands before it is the shared step's. -/
theorem paneResultsAndMovesReachTheirTargets : Obligations.PaneResultsAndMovesReachTheirTargets := by
  unfold Obligations.PaneResultsAndMovesReachTheirTargets
  refine ⟨?_, ?_, ?_, ?_, ?_, ?_, ?_⟩
  · intro s c v hk hp t x y
    have hy : y = { x.writeNet c.pane c.k v with
        done := putBit x.done c.pane true, results := putBit x.results c.pane v } := by
      simp only [y, t, State.paneResult, latchPane_sash, State.sash_setSash, if_true]
      rfl
    refine ⟨?_, ?_, ?_, fun p k hpk => ?_, ?_, fun j hj => ?_, ?_⟩
    · rw [hy]
      simp only [Sash.writeNet, tmod, tget_tset, if_true]
      exact getBit_putBit_same _ _ _ hk
    · rw [hy]
      exact getBit_putBit_same _ _ _ hp
    · rw [hy]
      exact getBit_putBit_same _ _ _ hp
    · rw [hy]
      simp only [Sash.writeNet, tmod, tget_tset]
      split
      · next hpp =>
        rw [getBit_putBit _ _ _ _ hk, if_neg (fun hkk => hpk (by rw [hpp, hkk])), hpp]
      · rfl
    · rw [hy]
      rfl
    · simp only [t, State.paneResult, latchPane_sash, State.sash_setSash, if_neg hj]
    · simp only [t, State.paneResult]
      rw [latchPane_frame]
      rfl
  · intro s i p n hn x w rows r hr
    obtain ⟨act, hexec⟩ := exec_paneRow i p r hr
    refine ⟨fun h => ?_, fun h ha => ?_, fun h ha hc he => ?_, fun f hf hop h ha hc he hbad hearly => ?_⟩
    · rw [hexec, pane_notDue h]
    · rw [hexec, pane_awaits hn h ha]
    · rw [hexec, pane_uncorrectable hn h ha hc he]
    · have hpr : r = (.probe i p, 12) := by
        obtain ⟨cmd, op⟩ := r
        subst hop
        simpa [rows] using hr
      intro v y u
      subst hpr
      have hA : pA w = f := by
        have hused : pUsed w = [pA w] := by simp only [pUsed, paneDue_op h, w, x]
        exact List.singleton_inj.mp (hused.symm.trans hf)
      have hva : v = (u.sash i.val).operand p.val (pA w) := by
        rw [hA]
        simp only [u, pendSash_sash, State.sash_setSash, if_true]
        rfl
      have htaps : (u.sash i.val).taps = x.taps := by
        simp only [u, pendSash_sash, State.sash_setSash, if_true]
        rfl
      rw [exec_probe, execProbe, pane_parity p.isLt hn h hf ha hc he hbad hearly]
      dsimp only
      rw [State.modSash_eq, hva, ← htaps]
      rfl
  · intro s i p c h
    rw [exec_paneNop, execPaneNop, pane_clear h]
  · intro s i p c h u v
    obtain ⟨hsash, -⟩ := paneClear_at h
    rw [exec_probe, execProbe, pane_clear h]
    simp only [opv_paneReady h, State.modSash_eq, hsash, u, v]
    rw [sash_paneReady]
  · intro s i p c h u v
    obtain ⟨hsash, -⟩ := paneClear_at h
    rw [exec_send, execSend, pane_clear h]
    simp only [opv_paneReady h, State.modSash_eq, hsash, u, v]
    rw [sash_paneReady]
  · intro s i p c h u v
    obtain ⟨hsash, hpane, -⟩ := paneClear_at h
    rw [exec_wput, execWput, pane_clear h]
    simp only [opv_paneReady h, State.modSash_eq, hsash, hpane, u, v]
    rw [sash_paneReady]
  · intro s i p c h
    obtain ⟨hsash, -, -⟩ := paneClear_at h
    rw [exec_wget, execWget, pane_clear h]
    simp only [hsash]
    rw [sash_paneReady]
    rfl

end Sys2Proof.Machine
end

section
set_option Elab.async false
/-! What leaves the `sashes` of the unit as they are. -/

namespace Sys2Proof.Machine

theorem foldl_sashes {α} {f : State → α → State} (hf : ∀ s x, (f s x).sashes = s.sashes) (l : List α) (s : State) :
    (l.foldl f s).sashes = s.sashes := by
  induction l generalizing s with
  | nil => rfl
  | cons a l ih => exact (ih _).trans (hf s a)

theorem State.modMemSt_sashes (s : State) (n f) : (s.modMemSt n f).sashes = s.sashes := by
  grind [State.modMemSt, State.setMemSt_sashes]

theorem State.noteCe_sashes (s : State) (m a) : (s.noteCe m a).sashes = s.sashes := by
  grind [State.noteCe, State.modMemSt_sashes]

theorem State.retain_sashes (s : State) (n) : (s.retain n).sashes = s.sashes := by
  grind [State.retain, State.setTicket_sashes]

theorem State.setIrq_sashes (s : State) (i) : (s.setIrq i).sashes = s.sashes := by
  grind [State.setIrq]

theorem State.postEvent_sashes (s : State) (e') : (s.postEvent e').sashes = s.sashes := by
  grind [State.postEvent, State.retain_sashes, State.setIrq_sashes]

theorem State.post_sashes (s : State) (kind st site obj hi data) : (s.post kind st site obj hi data).sashes = s.sashes := by
  grind [State.post, State.postEvent_sashes]

theorem State.postMemory_sashes (s : State) (st memid addr marker) : (s.postMemory st memid addr marker).sashes = s.sashes := by
  grind [State.postMemory, State.post_sashes]

theorem State.notePoison_sashes (s : State) (m a marker) : (s.notePoison m a marker).sashes = s.sashes := by
  grind [State.notePoison, State.modMemSt_sashes, State.postMemory_sashes]

theorem State.readWord_sashes (s : State) (w) : (s.readWord w).2.2.sashes = s.sashes := by
  grind [State.readWord, State.noteCe_sashes, State.notePoison_sashes]

end Sys2Proof.Machine
end

section
set_option Elab.async false
/-! What leaves the `mem` of the unit as they are. -/

namespace Sys2Proof.Machine

theorem foldl_mem {α} {f : State → α → State} (hf : ∀ s x, (f s x).mem = s.mem) (l : List α) (s : State) :
    (l.foldl f s).mem = s.mem := by
  induction l generalizing s with
  | nil => rfl
  | cons a l ih => exact (ih _).trans (hf s a)

theorem State.retain_mem (s : State) (n) : (s.retain n).mem = s.mem := by
  grind [State.retain, State.setTicket_mem]

theorem State.setIrq_mem (s : State) (i) : (s.setIrq i).mem = s.mem := by
  grind [State.setIrq]

theorem State.postEvent_mem (s : State) (e') : (s.postEvent e').mem = s.mem := by
  grind [State.postEvent, State.retain_mem, State.setIrq_mem]

theorem State.post_mem (s : State) (kind st site obj hi data) : (s.post kind st site obj hi data).mem = s.mem := by
  grind [State.post, State.postEvent_mem]

theorem State.postMemory_mem (s : State) (st memid addr marker) : (s.postMemory st memid addr marker).mem = s.mem := by
  grind [State.postMemory, State.post_mem]

theorem State.modSite_mem (s : State) (n f) : (s.modSite n f).mem = s.mem := by
  grind [State.modSite, State.setSite_mem]

theorem State.pendFault_mem (s : State) (n p) : (s.pendFault n p).mem = s.mem := by
  grind [State.pendFault, State.modSite_mem]

end Sys2Proof.Machine
end

section
set_option Elab.async false
/-! What leaves the `sites` of the unit as they are. -/

namespace Sys2Proof.Machine

theorem State.modMemSt_sites (s : State) (n f) : (s.modMemSt n f).sites = s.sites := by
  grind [State.modMemSt, State.setMemSt_sites]

theorem State.noteCe_sites (s : State) (m a) : (s.noteCe m a).sites = s.sites := by
  grind [State.noteCe, State.modMemSt_sites]

theorem State.postMemory_sites (s : State) (st memid addr marker) : (s.postMemory st memid addr marker).sites = s.sites := by
  grind [State.postMemory, State.post_sites]

theorem State.notePoison_sites (s : State) (m a marker) : (s.notePoison m a marker).sites = s.sites := by
  grind [State.notePoison, State.modMemSt_sites, State.postMemory_sites]

theorem State.readWord_sites (s : State) (w) : (s.readWord w).2.2.sites = s.sites := by
  grind [State.readWord, State.noteCe_sites, State.notePoison_sites]

end Sys2Proof.Machine
end

section
set_option Elab.async false
/-! The scratchpad rows and RECV (R47 to R53, R107, R117, R126). -/

namespace Sys2Proof.Machine

/-! ### Reading a scratchpad bit -/

theorem peekByte_modMemSt (s : State) (m : Nat) (f : MemStatus → MemStatus) (x : Nat) : (s.modMemSt m f).peekByte x = s.peekByte x :=
  peekByte_congr rfl rfl rfl x

theorem peekByte_notePoison (s : State) (m a : Nat) (b : Bool) (x : Nat) : (s.notePoison m a b).peekByte x = s.peekByte x := by
  rw [State.notePoison, peekByte_of_mem (State.postMemory_mem ..), peekByte_modMemSt]

theorem peekByte_readWord (s : State) (w x : Nat) : (s.readWord w).2.2.peekByte x = s.peekByte x := by
  unfold State.readWord
  dsimp only
  split
  · cases s.mem.wordCheck w with
    | none => rfl
    | some c =>
      cases c
      · exact peekByte_modMemSt ..
      · exact peekByte_notePoison ..
      · exact peekByte_notePoison ..
  · rfl

/-- Reading a scratchpad bit with its check changes no sash and no byte. -/
theorem padBit_frame (s : State) (n l i : Nat) :
    (s.padBit n l i).2.2.sashes = s.sashes ∧ (s.padBit n l i).2.2.sites = s.sites ∧ ∀ x, (s.padBit n l i).2.2.peekByte x = s.peekByte x := by
  have key : ∀ w x t, (s.readWord w) = (x, t) → t.2.sashes = s.sashes ∧ t.2.sites = s.sites ∧ ∀ a, t.2.peekByte a = s.peekByte a := by
    intro w x t h
    have hs := State.readWord_sashes s w
    have hi := State.readWord_sites s w
    have hb := peekByte_readWord s w
    rw [h] at hs hi hb
    exact ⟨hs, hi, hb⟩
  obtain ⟨b, e, t, hw, hp⟩ := padBit_eq s n l i
  rw [hp]
  exact key _ _ _ hw

theorem testBit_leNat (l : List Byte) (i : Nat) : (leNat l).testBit i = getBit (l.getD (i / 8) 0) (i % 8) := by
  induction l generalizing i with
  | nil => simp [leNat, getBit]
  | cons b l ih =>
    rw [leNat, add_comm, show (256 : Nat) = 2 ^ 8 from rfl, Nat.testBit_two_pow_mul_add _ b.isLt, ih]
    by_cases hi : i < 8
    · rw [if_pos hi, Nat.div_eq_of_lt hi, Nat.mod_eq_of_lt hi]
      rfl
    · obtain ⟨j, rfl⟩ : ∃ j, i = j + 8 := ⟨i - 8, by omega⟩
      rw [if_neg hi, Nat.add_sub_cancel, Nat.add_div_right _ (by decide), Nat.add_mod_right]
      rfl

/-- The bit a MEMRD reads of a line is the bit of its byte, zero where nothing has been written (R47). -/
theorem padLine_bit (s : State) (n l b : Nat) (hb : b < 256) :
    (getBit (BitVec.ofNat 256 (leNat (tslice 0 s.mem.bytes (padAddr n (32 * l)) 32))) b && s.mem.wordValid (padWord n l + b / 64)) =
      getBit (s.peekByte (padAddr n (32 * l) + b / 8)) (b % 8) := by
  have hword : padWord n l + b / 64 = (padAddr n (32 * l) + b / 8) / 8 := by
    unfold padWord padAddr sashBase
    omega
  have hbit : getBit (BitVec.ofNat 256 (leNat (tslice 0 s.mem.bytes (padAddr n (32 * l)) 32))) b =
      getBit (s.mem.getByte (padAddr n (32 * l) + b / 8)) (b % 8) := by
    rw [getBit_eq, BitVec.getLsbD_ofNat, testBit_leNat, tslice_getD, if_pos (by omega), decide_eq_true hb, Bool.true_and]
    rfl
  rw [hbit, hword, State.peekByte]
  cases s.mem.wordValid ((padAddr n (32 * l) + b / 8) / 8)
  · simp [getBit]
  · simp

/-! ### The rows -/

theorem exec_memrd (i : Fin 64) (p : Fin 256) (s : State) : exec (.memrd i p) s = execMemrd i p s := rfl
theorem exec_memwr (i : Fin 64) (p : Fin 256) (s : State) : exec (.memwr i p) s = execMemwr i p s := rfl
theorem exec_memrdLanding (i : Fin 64) (p : Fin 256) (s : State) : exec (.memrdLanding i p) s = execMemrdLanding i p s := rfl
theorem exec_recv (i : Fin 64) (p : Fin 256) (s : State) : exec (.recv i p) s = execRecv i p s := rfl

@[simp] theorem memLine_paneReady (s : State) (i p : Nat) (w : DWord) : ((s.paneReady i p).sash i).memLine w = (s.sash i).memLine w := by
  rw [sash_paneReady]
  rfl

@[simp] theorem outOfLines_paneReady (s : State) (i p : Nat) (w : DWord) :
    ((s.paneReady i p).sash i).outOfLines w = (s.sash i).outOfLines w := by
  rw [sash_paneReady]
  rfl

@[simp] theorem paneReady_mem (s : State) (i p : Nat) : (s.paneReady i p).mem = s.mem := by
  unfold State.paneReady
  split <;> rfl

@[simp] theorem paneReady_sites (s : State) (i p : Nat) : (s.paneReady i p).sites = s.sites := by
  unfold State.paneReady
  split <;> rfl

@[simp] theorem site_paneReady (s : State) (i p n : Nat) : (s.paneReady i p).site n = s.site n := by
  rw [State.site, paneReady_sites, State.site]

theorem pendSash_sashes (s : State) (i : Nat) (code : Status) (p d : Nat) : (s.pendSash i code p d).sashes = s.sashes := by
  unfold State.pendSash
  split <;> rfl

/-- A MEMRD in its range: from a unit whose sashes and bytes are as before, the pane's line is named and its bit is to land. -/
theorem memrd_act {s : State} {i : Fin 64} {p : Fin 256} {c : PaneAt} (h : s.paneClear i.val p.val 5 = some c)
    (hl : (s.sash i.val).outOfLines c.w = false) :
    ∃ u : State, u.sashes = (s.paneReady i.val p.val).sashes ∧ (∀ a, u.peekByte a = s.peekByte a) ∧
      exec (.memrd i p) s = .next (u.modSash i.val fun x =>
        let x := (x.nameLine ((s.sash i.val).memLine c.w)).markDone p.val
        { x with
          landings := x.landings ++
            [{ pane := p.val
               k := c.k
               bit := getBit (s.peekByte (padAddr i.val (32 * (s.sash i.val).memLine c.w) + pC c.w % 256 / 8)) (pC c.w % 256 % 8)
               left := (s.site c.site).img.scratchRead + 1
               more := scratchActual + 1 }]
          results := putBit x.results p.val false }) := by
  obtain ⟨hsash, hpane, -⟩ := paneClear_at h
  have hbit := padLine_bit s i.val ((s.sash i.val).memLine c.w) (pC c.w % 256) (Nat.mod_lt _ (by decide))
  have hframe := padBit_frame (s.paneReady i.val p.val) i.val ((s.sash i.val).memLine c.w) (pC c.w % 256)
  rw [exec_memrd]
  obtain ⟨f, hf⟩ : ∃ f, execMemrd = f := ⟨_, rfl⟩
  obtain ⟨ad, had⟩ : ∃ ad, padAddr = ad := ⟨_, rfl⟩
  obtain ⟨pw, hpw⟩ : ∃ pw, padWord = pw := ⟨_, rfl⟩
  obtain ⟨pb, hpb⟩ : ∃ pb, State.padBit = pb := ⟨_, rfl⟩
  rw [had, hpw] at hbit
  rw [hpb] at hframe
  rw [hf, had]
  delta execMemrd at hf
  rw [had, hpw, hpb] at hf
  rw [← hf]
  simp only [pane_clear h, hsash, hpane, outOfLines_paneReady, memLine_paneReady, hl, Bool.false_eq_true, if_false, paneReady_mem, hbit]
  rcases hx : pb (s.paneReady i.val p.val) i.val ((s.sash i.val).memLine c.w) (pC c.w % 256) with ⟨v, bad, u⟩
  rw [hx] at hframe
  obtain ⟨hsashes, hsites, hbytes⟩ := hframe
  dsimp only at hsashes hsites hbytes ⊢
  have himg : (u.site c.site).img = (s.site c.site).img := by rw [State.site, hsites, paneReady_sites, State.site]
  have hpeek : ∀ a, u.peekByte a = s.peekByte a := fun a => (hbytes a).trans (peekByte_of_mem (paneReady_mem ..) a)
  cases bad with
  | false => exact ⟨u, hsashes, hpeek, by rw [← himg]; rfl⟩
  | true =>
    refine ⟨u.pendSash i.val Code.DI_POISON_READ p.val (ad i.val (32 * (s.sash i.val).memLine c.w)), ?_, fun a => ?_, ?_⟩
    · rw [pendSash_sashes, hsashes]
    · rw [peekByte_of_mem (pendSash_mem_lanes ..).1, hpeek]
    · rw [← himg, ← pendSash_img u i.val Code.DI_POISON_READ p.val (ad i.val (32 * (s.sash i.val).memLine c.w))]
      rfl

theorem sash_congr {s t : State} (h : t.sashes = s.sashes) (j : Nat) : t.sash j = s.sash j := by
  rw [State.sash, h, State.sash]

/-- Writing one net bit keeps every other. -/
theorem getBit_writeNet_of_ne (x : Sash) {p k q j : Nat} {v : Bool} (hk : k < 512) (h : (q, j) ≠ (p, k)) :
    getBit (tget 0 (x.writeNet p k v).net q) j = getBit (tget 0 x.net q) j := by
  simp only [Sash.writeNet, tmod, tget_tset]
  split
  · next hpp => rw [getBit_putBit _ _ _ _ hk, if_neg (fun hkk => h (by rw [hpp, hkk])), hpp]
  · rfl

theorem ite_pendSash_sash (s : State) (b : Prop) [Decidable b] (i : Nat) (code : Status) (p d j : Nat) :
    (if b then s.pendSash i code p d else s).sash j = s.sash j := by
  split
  · exact pendSash_sash ..
  · rfl

/-- What a stall's beginning leaves of its sash. -/
theorem beginStall_sash (s : State) (n i : Nat) (c : StallCause) :
    ((s.beginStall n i c).sash i).stall.isSome = true ∧
      (s.beginStall n i c).sash i =
        { s.sash i with stall := ((s.beginStall n i c).sash i).stall, ctr := ((s.beginStall n i c).sash i).ctr } := by
  unfold State.beginStall State.beginStallAs
  dsimp only
  split
  · next h => exact ⟨h, rfl⟩
  · rw [ite_pendSash_sash, State.sash_setSash, if_pos rfl]
    exact ⟨rfl, rfl⟩

/-- Naming a line changes nothing else of the sash. -/
theorem nameLine_eq (x : Sash) (l : Nat) : x.nameLine l = { x with portLines := (x.nameLine l).portLines } := by
  unfold Sash.nameLine
  split <;> rfl

theorem nameLine_portLines (x : Sash) (l : Nat) :
    (x.nameLine l).portLines = if x.portLines.contains l then x.portLines else x.portLines ++ [l] := by
  unfold Sash.nameLine
  split <;> rfl

/-- A MEMRD outside its range faults the site (R48). -/
theorem memrd_outOfLines {s : State} {i : Fin 64} {p : Fin 256} {c : PaneAt} (h : s.paneClear i.val p.val 5 = some c)
    (hl : (s.sash i.val).outOfLines c.w = true) :
    exec (.memrd i p) s =
      .next ((s.paneReady i.val p.val).faultSashNow i.val Code.TF_SCRATCH_BOUNDS p.val ((s.sash i.val).memLine c.w)) := by
  obtain ⟨hsash, hpane, -⟩ := paneClear_at h
  rw [exec_memrd]
  obtain ⟨f, hf⟩ : ∃ f, execMemrd = f := ⟨_, rfl⟩
  obtain ⟨ad, had⟩ : ∃ ad, padAddr = ad := ⟨_, rfl⟩
  obtain ⟨pw, hpw⟩ : ∃ pw, padWord = pw := ⟨_, rfl⟩
  obtain ⟨pb, hpb⟩ : ∃ pb, State.padBit = pb := ⟨_, rfl⟩
  rw [hf]
  delta execMemrd at hf
  rw [had, hpw, hpb] at hf
  rw [← hf]
  simp only [pane_clear h, hsash, hpane, outOfLines_paneReady, memLine_paneReady, hl, if_true]

/-- Settles O9: each row acts on what its pane executes. -/
theorem paneMemoryAndBundleAccess : Obligations.PaneMemoryAndBundleAccess := by
  unfold Obligations.PaneMemoryAndBundleAccess
  refine ⟨⟨?_, ?_, ?_, ?_, ?_⟩, ?_, ?_⟩
  · intro s i p c h hl x l b
    obtain ⟨u, hsashes, hbytes, hexec⟩ := memrd_act h hl
    have hu : u.sash i.val = { x with checked := ((s.paneReady i.val p.val).sash i.val).checked } := by
      rw [sash_congr hsashes, sash_paneReady]
    refine ⟨_, hexec, ?_, ?_, ?_, ?_, fun a => ?_⟩
    · rw [State.modSash_eq, State.sash_setSash, if_pos rfl, nameLine_eq, hu]
      rfl
    · rw [State.modSash_eq, State.sash_setSash, if_pos rfl, hu, nameLine_portLines]
      exact nameLine_portLines _ _
    · rw [State.modSash_eq, State.sash_setSash, if_pos rfl, nameLine_eq, hu]
      rfl
    · rw [State.modSash_eq, State.sash_setSash, if_pos rfl]
      exact getBit_putBit_same _ _ _ p.isLt
    · rw [peekByte_of_mem (t := u.modSash i.val _) (s := u) rfl, hbytes]
  · intro s i p c h hl u v l
    obtain ⟨hsash, hpane, -⟩ := paneClear_at h
    rw [exec_memwr, execMemwr, pane_clear h]
    simp only [hsash, hpane, outOfLines_paneReady, memLine_paneReady, hl, Bool.false_eq_true, if_false, opv_paneReady h, State.modSash_eq]
    rw [sash_paneReady]
  · intro s i p c hl t
    refine ⟨fun h => ?_, fun h => ?_⟩
    · exact memrd_outOfLines h hl
    · obtain ⟨hsash, hpane, -⟩ := paneClear_at h
      rw [exec_memwr, execMemwr, pane_clear h]
      simp only [hsash, hpane, outOfLines_paneReady, memLine_paneReady, hl, if_true]
      rfl
  · intro s i p l hl hk
    rw [exec_memrdLanding, execMemrdLanding]
    simp only [hl]
    refine ⟨_, rfl, ?_, fun q k hqk => ?_, ?_, fun j hj => ?_, ?_⟩
    · rw [latchPane_sash, State.sash_setSash, if_pos rfl]
      simp only [Sash.writeNet, tmod, tget_tset, if_true]
      exact getBit_putBit_same _ _ _ hk
    · rw [latchPane_sash, State.sash_setSash, if_pos rfl]
      exact getBit_writeNet_of_ne _ hk hqk
    · rw [latchPane_sash, State.sash_setSash, if_pos rfl]
    · rw [latchPane_sash, State.sash_setSash, if_neg hj]
    · rw [latchPane_frame]
      rfl
  · intro s i p hl
    rw [exec_memrdLanding, execMemrdLanding]
    simp only [hl]
  · intro s i p c h tag b x hf r rest u u'
    obtain ⟨hsash, hpane, -⟩ := paneClear_at h
    rw [exec_recv, execRecv, pane_clear h]
    have hb : (getBit (r.sash i.val).inFlag b || getBit (r.sash i.val).inUnsat b) = true := by
      rw [sash_paneReady]
      exact hf
    have hfields : let y := (s.paneReady i.val p.val).sash i.val
        y.recvWait = x.recvWait ∧ y.stall = x.stall ∧ y.inPoison = x.inPoison ∧ y.inLinkPoison = x.inLinkPoison ∧ y.inBuf = x.inBuf := by
      rw [sash_paneReady]
      exact ⟨rfl, rfl, rfl, rfl, rfl⟩
    obtain ⟨hwait, hstall, hpoison, hlink, hbuf⟩ := hfields
    simp only [hsash, site_paneReady]
    rw [if_pos hb, State.recvTake]
    simp only [hsash, hpane, site_paneReady, hwait, hstall, hpoison, hlink, hbuf, r, u', u, rest]
    rfl
  · intro s i p c h b hf hu
    obtain ⟨hsash, hpane, -⟩ := paneClear_at h
    have hx := sash_paneReady s i.val p.val
    obtain ⟨hst, hsh⟩ := beginStall_sash (s.paneReady i.val p.val) c.site i.val .bundle
    rw [exec_recv, execRecv, pane_clear h]
    simp only [hsash, hpane, site_paneReady]
    rw [if_neg]
    · refine ⟨_, rfl, ?_, ?_, ?_, ?_⟩ <;> rw [State.modSash_eq, State.sash_setSash, if_pos rfl, hsh]
      · rw [← hsh]
        exact hst
      · simp
      · rw [hx]
      · rw [hx]
    · rw [hx]
      simp only [b] at hf hu
      simp [hf, hu]

end Sys2Proof.Machine
end

section
set_option Elab.async false
/-! The pin rows and the compares of a pane (R43 to R46, R51, R225, R234, R251). -/

namespace Sys2Proof.Machine

theorem exec_pinout (i : Fin 64) (p : Fin 256) (s : State) : exec (.pinout i p) s = execPinout i p s := rfl
theorem exec_pinin (i : Fin 64) (p : Fin 256) (s : State) : exec (.pinin i p) s = execPinin i p s := rfl
theorem exec_paneCmpPin (i : Fin 64) (p : Fin 256) (s : State) : exec (.paneCmpPin i p) s = execPaneCmpPin i p s := rfl
theorem exec_paneCmpModelCheck (i : Fin 64) (p : Fin 256) (s : State) :
    exec (.paneCmpModelCheck i p) s = execPaneCmpModelCheck i p s := rfl

@[simp] theorem lane_paneReady (s : State) (i p j : Nat) : (s.paneReady i p).lane j = s.lane j := by
  unfold State.paneReady
  split <;> rfl

/-- What a pane executes is the word at its sash's step. -/
theorem paneClear_word {s : State} {i p op : Nat} {c : PaneAt} (h : s.paneClear i p op = some c) :
    c.w = (s.sash i).fetch p (s.sash i).k :=
  let ⟨_, _, _, hw, _⟩ := paneClear_at h
  hw

/-- The values a pin compare posts (R43). -/
theorem expectOf_eq (v : Nat) : expectOf v = if v ≤ 2 ∨ v = 4 then some (BitVec.ofNat 3 v) else none := rfl

@[simp] theorem clogAddr_paneReady (s : State) (i p n j k : Nat) : (s.paneReady i p).clogAddr n j k = s.clogAddr n j k := by
  simp only [State.clogAddr, site_paneReady, lane_paneReady]

/-- A PINOUT of a code not yet sent (R46). -/
theorem pinout_fresh {s : State} {i : Fin 64} {p : Fin 256} {c : PaneAt} (h : s.paneClear i.val p.val 7 = some c) :
    let u := s.paneReady i.val p.val
    let x := s.site c.site
    let cyc := x.cycle.toNat
    let v := (s.sash i.val).operand p.val (pA c.w)
    let l := s.lane i.val
    let t := u.setLane i.val { l with outq := outPut l.outq cyc (ttCode c.w) (ttPin c.w) (ttSel c.w) v }
    ¬(1 ≤ x.img.depth ∧ l.source0 = true ∧ l.sent x.c0 cyc (ttCode c.w) = true) →
    exec (.pinout i p) s =
      .next ((if x.img.depth = 0 ∧ (l.outq.any fun e => decide (e.cycle < cyc)) = true then
          t.pendSash i.val Code.TF_RUNAHEAD_OVERFLOW p.val (ttCode c.w) else t).paneResult c v) := by
  intro u x cyc v l t hsent
  obtain ⟨hsash, hpane, -⟩ := paneClear_at h
  rw [exec_pinout]
  obtain ⟨f, hf⟩ : ∃ f, execPinout = f := ⟨_, rfl⟩
  obtain ⟨ca, hca⟩ : ∃ ca, State.clogAddr = ca := ⟨_, rfl⟩
  obtain ⟨mr, hmr⟩ : ∃ mr, State.memRead = mr := ⟨_, rfl⟩
  rw [hf]
  delta execPinout at hf
  rw [hca, hmr] at hf
  rw [← hf]
  simp only [pane_clear h, hsash, hpane, site_paneReady, lane_paneReady, opv_paneReady h]
  rw [if_neg hsent]
  simp only [Bool.and_eq_true, beq_iff_eq]
  rfl

/-- A PINOUT of a sent code gives its logged bit (R234). -/
theorem pinout_sent {s : State} {i : Fin 64} {p : Fin 256} {c : PaneAt} (h : s.paneClear i.val p.val 7 = some c) :
    let u := s.paneReady i.val p.val
    let x := s.site c.site
    let cyc := x.cycle.toNat
    let l := s.lane i.val
    let pos := 2 * (ttCode c.w * l.pins + ttPin c.w)
    (1 ≤ x.img.depth ∧ l.source0 = true ∧ l.sent x.c0 cyc (ttCode c.w) = true) →
    ∀ bs bad t, u.memRead (s.clogAddr c.site i.val cyc + pos / 64 * 8) 8 = (bs, bad, t) →
    exec (.pinout i p) s = .next
      (if bad then t.faultSashNow i.val Code.DI_POISON_READ p.val (x.img.clogFirst + cyc % (x.img.depth + 1) * l.clogLines + pos / 256)
       else t.paneResult c ((leNat bs).testBit (pos % 64 + ttSel c.w))) := by
  intro u x cyc l pos hsent bs bad t hr
  obtain ⟨hsash, hpane, -⟩ := paneClear_at h
  have hclog := clogAddr_paneReady s i.val p.val
  rw [exec_pinout]
  obtain ⟨f, hf⟩ : ∃ f, execPinout = f := ⟨_, rfl⟩
  obtain ⟨ca, hca⟩ : ∃ ca, State.clogAddr = ca := ⟨_, rfl⟩
  obtain ⟨mr, hmr⟩ : ∃ mr, State.memRead = mr := ⟨_, rfl⟩
  rw [hca] at hclog
  rw [hmr, hca] at hr
  rw [hf]
  delta execPinout at hf
  rw [hca, hmr] at hf
  rw [← hf]
  simp only [pane_clear h, hsash, hpane, site_paneReady, lane_paneReady, hclog]
  rw [if_pos hsent]
  simp only [u, x, cyc, l, pos] at hr
  rw [hr]

/-- An expect is posted, and decided at once where the site does not run ahead (R43, R225). -/
def State.postExpect (t : State) (c : PaneAt) (e : BitVec 3) : State :=
  let posted := t.modLane c.sash fun l =>
    { l with expects := l.expects ++ [{ cycle := (t.site c.site).cycle.toNat, code := ttCode c.w, pin := ttPin c.w, want := e }] }
  if (posted.site c.site).img.depth = 0 then posted.runCompares c.site c.sash (fun _ => true) else posted

/-- What a pin compare does once a bad expect has been counted. -/
def State.compareTail (t : State) (c : PaneAt) (v : Nat) : State :=
  if t.opv c (pD c.w) = false then t.paneResult c false
  else
    match expectOf v with
    | none => t.paneResult c false
    | some e => (t.postExpect c e).paneResult c false

theorem compareTail_eq (t : State) (c : PaneAt) (v : Nat) :
    t.compareTail c v =
      (if t.opv c (pD c.w) = true ∧ (v ≤ 2 ∨ v = 4) then t.postExpect c (BitVec.ofNat 3 v) else t).paneResult c false := by
  unfold State.compareTail
  rw [expectOf_eq]
  cases t.opv c (pD c.w)
  · rfl
  · by_cases hv : v ≤ 2 ∨ v = 4
    · simp only [hv, if_true, and_self, Bool.true_eq_false, if_false]
    · simp only [hv, if_false, and_false, Bool.true_eq_false]

/-- Operands A, B and C as a number (R43). -/
def State.expectValue (s : State) (c : PaneAt) : Nat := b2n (s.opv c (pA c.w)) + 2 * b2n (s.opv c (pB c.w)) + 4 * b2n (s.opv c (pC c.w))

/-- The values 5 to 7 count as bad expects (R43). -/
def State.countExpect (s : State) (c : PaneAt) : State :=
  if 5 ≤ s.expectValue c then s.modSash c.sash fun x => { x with ctr := { x.ctr with badExpect := satInc x.ctr.badExpect } } else s

/-- A pin compare counts a bad expect and goes on from there. -/
theorem paneCmpPin_eq {s : State} {i : Fin 64} {p : Fin 256} {c : PaneAt} (h : s.paneClear i.val p.val 9 = some c) (hsel : ttSel c.w = 0) :
    exec (.paneCmpPin i p) s =
      .next (((s.paneReady i.val p.val).countExpect c).compareTail c ((s.paneReady i.val p.val).expectValue c)) := by
  rw [exec_paneCmpPin, execPaneCmpPin, if_neg (by rw [← paneClear_word h, hsel]; decide), pane_clear h]
  rfl

/-- Settles O10: each row acts on what its pane executes. -/
theorem panePinsAndChecks : Obligations.PanePinsAndChecks := by
  unfold Obligations.PanePinsAndChecks
  refine ⟨⟨?_, ?_, ?_⟩, ?_, ?_, ?_⟩
  · intro s i p c h u x cyc v l hc t
    refine pinout_fresh h ?_
    rintro ⟨h1, h2, h3⟩
    rcases hc with hc | hc | hc
    · simp only [x] at hc
      omega
    · exact Bool.noConfusion (h2.symm.trans hc)
    · exact Bool.noConfusion (h3.symm.trans hc)
  · intro s i p c h u x cyc l pos hd h0 hsent
    exact pinout_sent h ⟨hd, h0, hsent⟩
  · intro s i p c h u x l v resp t
    obtain ⟨hsash, -⟩ := paneClear_at h
    rw [exec_pinin, execPinin, pane_clear h]
    simp only [hsash, site_paneReady, lane_paneReady, opv_paneReady h, State.modSash_eq]
    by_cases hd : (s.site c.site).img.depth = 0
    · simp only [hd, x, if_true, true_or]
      cases hr : resp <;> simp only [resp, l, x] at hr <;> simp only [hr] <;> rfl
    · simp only [hd, x, if_false, false_or]
      cases hrep : (s.site c.site).ra.replay
      · rfl
      · cases hr : resp <;> simp only [resp, l, x] at hr <;> simp only [hr, if_true] <;> rfl
  · intro s i p c h hsel u x v t posted
    obtain ⟨hsash, -⟩ := paneClear_at h
    have hv : u.expectValue c = v := by simp only [State.expectValue, u, opv_paneReady h, v, x]
    have ht : u.countExpect c = t := by
      have hctr : (u.sash i.val).ctr = x.ctr := by
        change ((s.paneReady i.val p.val).sash i.val).ctr = _
        rw [sash_paneReady]
      simp only [State.countExpect, hv, hsash, State.modSash_eq, hctr, t]
    have hD : t.opv c (pD c.w) = x.operand p.val (pD c.w) := by
      rw [← opv_paneReady h (pD c.w)]
      simp only [State.opv, hsash, t]
      split
      · rw [State.sash_setSash, if_pos rfl]
        rfl
      · rfl
    have hsite : t.site c.site = s.site c.site := by
      simp only [t]
      split
      · exact site_paneReady ..
      · exact site_paneReady ..
    have hlane : t.lane i.val = s.lane i.val := by
      simp only [t]
      split
      · exact lane_paneReady ..
      · exact lane_paneReady ..
    rw [paneCmpPin_eq h hsel, hv, ht, compareTail_eq, hD]
    have hposted : ∀ y : Lane, (t.setLane i.val y).site c.site = s.site c.site := fun _ => hsite
    simp only [State.postExpect, hsash, State.modLane, hposted, hsite, hlane]
    rfl
  · intro s i p c h hsel u x a b cyc r
    obtain ⟨hsash, hpane, -⟩ := paneClear_at h
    rw [exec_paneCmpModelCheck, execPaneCmpModelCheck, if_neg (by rw [← paneClear_word h, hsel]; decide), pane_clear h]
    simp only [hsash, hpane, opv_paneReady h, site_paneReady, Bool.and_eq_true, bne_iff_ne]
    rw [sash_paneReady]
  · intro s i p
    exact ⟨fun h => by rw [exec_paneCmpPin, execPaneCmpPin, if_pos h],
      fun h => by rw [exec_paneCmpModelCheck, execPaneCmpModelCheck, if_pos h]⟩

end Sys2Proof.Machine
end

section
set_option Elab.async false
/-! The launch of a bundle (R105, R111, R123, R124). -/

namespace Sys2Proof.Machine

theorem exec_bundleLaunch (i tag : Fin 64) (s : State) : exec (.bundleLaunch i tag) s = execBundleLaunch i tag s := rfl

/-- The fields of a BUNDLE frame's header (R124). -/
theorem bundleHeader_fields (route par seq : Nat) (data : BitVec 512) (hr : route < 4096) (hp : par < 2) (hs : seq < 256) :
    let h := (bundleHeader route par seq data).toNat
    bits h 0 8 = 0xE1 ∧ bits h 8 12 = route ∧ bits h 20 1 = par ∧ bits h 24 8 = seq := by
  unfold bundleHeader
  dsimp only
  generalize crc16 _ = c
  simp only [BitVec.toNat_ofNat, bits, Nat.shiftRight_eq_div_pow]
  rw [Nat.mod_eq_of_lt hr, Nat.mod_eq_of_lt hp, Nat.mod_eq_of_lt hs]
  omega

theorem testBit_bits (h i : Nat) (b : Bool) (hb : bits h i 1 = b2n b) : h.testBit i = b := by
  rw [bits, Nat.shiftRight_eq_div_pow] at hb
  rw [Nat.testBit_eq_decide_div_mod_eq, show h / 2 ^ i % 2 = b2n b by simpa using hb]
  cases b <;> rfl

theorem b2n_lt_two (b : Bool) : b2n b < 2 := by
  cases b <;> decide

theorem tgRoute_lt (e : BitVec 32) : tgRoute e < 4096 := Nat.mod_lt _ (by decide)

/-- A launch onto a ring with room queues one flit. -/
theorem bundleLaunch_ring {s : State} {i tag : Fin 64} {n : Nat} (hn : s.siteOf i.val = some n)
    (hl : (s.sash i.val).launchNow tag.val (tget 0 (s.stop i.val).active.tags tag.val) = true)
    (hk : tgLnk (tget 0 (s.stop i.val).active.tags tag.val) = false) :
    let x := s.sash i.val
    let e := tget 0 (s.stop i.val).active.tags tag.val
    let par := getBit (s.site n).cycle 0 != tgHl e
    exec (.bundleLaunch i tag) s =
      .next (if 4 ≤ (s.ring.flits.filter fun f => f.vc == 0 && f.place == .queue && f.stop == i.val && f.ring == tgRing e).length then
          s.beginStall n i.val .slot
        else
          let f : Flit :=
            { id := s.ring.nextId, vc := 0, head := true, tail := true, side := flitSide 0 true true par (tgRoute e) (tget 0 x.outBuf tag.val),
              data := tget 0 x.outBuf tag.val, worm := none, site := some n, ring := tgRing e, stop := i.val, place := .queue,
              at_ := s.power.steps + 1, linkBad := false, tries := 0 }
          let u := s.modSash i.val fun x => x.launchDone tag.val
          { u with ring := { u.ring with flits := u.ring.flits ++ [f], nextId := u.ring.nextId + 1 } }) := by
  intro x e par
  rw [exec_bundleLaunch, execBundleLaunch]
  simp only [hn, hl, hk, Bool.true_eq_false, Bool.false_eq_true, if_false]
  rfl

/-- A launch over the lane. -/
theorem bundleLaunch_lane {s : State} {i tag : Fin 64} {n : Nat} (hn : s.siteOf i.val = some n)
    (hl : (s.sash i.val).launchNow tag.val (tget 0 (s.stop i.val).active.tags tag.val) = true)
    (hk : tgLnk (tget 0 (s.stop i.val).active.tags tag.val) = true) :
    let x := s.sash i.val
    let e := tget 0 (s.stop i.val).active.tags tag.val
    let par := getBit (s.site n).cycle 0 != tgHl e
    exec (.bundleLaunch i tag) s =
      .next (if (s.lane i.val).mode = .link ∧ (s.lane i.val).txIdle = true then
          (s.beginStall n i.val .wake).setLane i.val { s.lane i.val with exiting := true }
        else if (s.lane i.val).bundlesFull then s.beginStall n i.val .slot
        else (s.modSash i.val fun x => x.launchDone tag.val).setLane i.val
          ((s.lane i.val).sendBundle (tgRoute e) par false (tget 0 x.outBuf tag.val))) := by
  intro x e par
  rw [exec_bundleLaunch, execBundleLaunch]
  simp only [hn, hl, hk, Bool.true_eq_false, if_false, if_true]
  rfl

theorem getBit_launched (s : State) (i tag : Fin 64) : getBit ((s.sash i.val).launchDone tag.val).launched tag.val = true :=
  getBit_putBit_same _ _ _ tag.isLt

/-- Settles O16: the launch by its two ways out, each full or not. -/
theorem bundleLaunchQueuesOrStalls : Obligations.BundleLaunchQueuesOrStalls := by
  unfold Obligations.BundleLaunchQueuesOrStalls
  intro s i tag n x e par queue onLane asleep
  refine ⟨fun h => ?_, fun hn hl => ⟨fun hk hq => ?_, fun hk hq => ?_, fun hk ha hq => ?_, fun hk ha hq => ?_, fun hk ha => ?_⟩⟩
  · rw [exec_bundleLaunch, execBundleLaunch]
    dsimp only
    cases hs : s.siteOf i.val with
    | none => rfl
    | some m => exact congrArg _ (if_pos (h.resolve_left (by simp [hs])))
  · refine ⟨_, _, (bundleLaunch_ring hn hl hk).trans (congrArg _ (if_neg (Nat.not_le.mpr hq))), rfl, rfl, rfl, rfl, rfl, rfl, rfl, rfl, rfl,
      rfl, rfl, ?_, fun j hj => ?_⟩
    · change getBit ((s.modSash i.val fun x => x.launchDone tag.val).sash i.val).launched tag.val = true
      rw [State.modSash_eq, State.sash_setSash, if_pos rfl]
      exact getBit_launched s i tag
    · change (s.modSash i.val fun x => x.launchDone tag.val).sash j = _
      rw [State.modSash_eq, State.sash_setSash, if_neg hj]
  · exact (bundleLaunch_ring hn hl hk).trans (congrArg _ (if_pos hq))
  · have hfull : ¬(s.lane i.val).bundlesFull = true := by
      simpa [Lane.bundlesFull] using hq
    obtain ⟨h1, h2, h3, h4⟩ := bundleHeader_fields (tgRoute e) (b2n par) (s.lane i.val).link.txSeq.toNat (tget 0 x.outBuf tag.val)
      (tgRoute_lt e) (b2n_lt_two par) (s.lane i.val).link.txSeq.isLt
    refine ⟨_, _, (bundleLaunch_lane hn hl hk).trans (congrArg _ ((if_neg ha).trans (if_neg hfull))), ?_, h1, h2,
      testBit_bits _ _ _ h3, h4, ?_⟩
    · rw [State.lane_setLane, if_pos rfl]
      rfl
    · change getBit ((s.modSash i.val fun x => x.launchDone tag.val).sash i.val).launched tag.val = true
      rw [State.modSash_eq, State.sash_setSash, if_pos rfl]
      exact getBit_launched s i tag
  · have hfull : (s.lane i.val).bundlesFull = true := by
      simpa [Lane.bundlesFull] using hq
    exact (bundleLaunch_lane hn hl hk).trans (congrArg _ ((if_neg ha).trans (if_pos hfull)))
  · exact (bundleLaunch_lane hn hl hk).trans (congrArg _ (if_pos ha))

end Sys2Proof.Machine
end

section
set_option Elab.async false
/-! A bundle's ejection and the bundle watchdog (R104, R107, R111, R112). -/

namespace Sys2Proof.Machine

theorem exec_bundleEject (id : Nat) (s : State) : exec (.bundleEject id) s = execBundleEject id s := rfl
theorem exec_bundleWatchdogExpiry (n : Fin 16) (w : WatchdogWait) (s : State) :
    exec (.bundleWatchdogExpiry n w) s = execBundleWatchdogExpiry n w s := rfl

theorem flit_id {s : State} {id : Nat} {f : Flit} (h : s.flit id = some f) : f.id = id := by
  simpa using List.find?_some h

/-- The end of a bundle stall changes the stall alone. -/
theorem endBundleStall_eq (x : Sash) (cyc : Nat) : x.endBundleStall cyc = { x with stall := (x.endBundleStall cyc).stall } := by
  unfold Sash.endBundleStall
  split <;> rfl

theorem getBit_ite_putBit {w : Nat} (x : BitVec w) (b c : Nat) (p : Bool) (hb : b < w) :
    getBit (if p then putBit x b true else x) c = if c = b then getBit x b || p else getBit x c := by
  by_cases hc : c = b
  · subst hc
    cases p <;> simp [getBit_putBit_same _ _ _ hb]
  · cases p <;> simp [getBit_putBit _ _ _ _ hb, hc]

theorem bank_lt (e : BitVec 32) (p : Bool) : 2 * rtTag e + b2n p < 128 := by
  have ht : rtTag e < 64 := Nat.mod_lt _ (by decide)
  have := b2n_lt_two p
  omega

/-- The sash with a bundle in bank `b`, its two CRCs failed or not (R107, R117, R126). -/
def Sash.takeBundle (x : Sash) (b : Nat) (data : BitVec 512) (bad linkBad : Bool) : Sash :=
  { x with
    inBuf := tset 0 x.inBuf b data
    inFlag := putBit x.inFlag b true
    inPoison := if bad then putBit x.inPoison b true else x.inPoison
    inLinkPoison := if linkBad then putBit x.inLinkPoison b true else x.inLinkPoison }

theorem ejectBundle_sash (s : State) (f : Flit) (tag : Nat) :
    ∃ st, (s.ejectBundle f tag).sash f.stop =
      { (s.sash f.stop).takeBundle (2 * tag + b2n f.par) f.data f.bad f.linkBad with stall := st } := by
  unfold State.ejectBundle
  dsimp only
  rw [State.sash_setSash, if_pos rfl]
  generalize f.bad = bad
  exact ⟨_, endBundleStall_eq ((s.sash f.stop).takeBundle (2 * tag + b2n f.par) f.data bad f.linkBad) _⟩

/-- The banks of a sash that takes a bundle. -/
theorem takeBundle_banks (x : Sash) {b : Nat} (hb : b < 128) (data : BitVec 512) (bad linkBad : Bool) :
    let y := x.takeBundle b data bad linkBad
    tget 0 y.inBuf b = data ∧ getBit y.inFlag b = true ∧ getBit y.inPoison b = (getBit x.inPoison b || bad) ∧
      getBit y.inLinkPoison b = (getBit x.inLinkPoison b || linkBad) ∧
      (∀ c, c ≠ b → tget 0 y.inBuf c = tget 0 x.inBuf c ∧ getBit y.inFlag c = getBit x.inFlag c ∧
        getBit y.inPoison c = getBit x.inPoison c ∧ getBit y.inLinkPoison c = getBit x.inLinkPoison c) := by
  refine ⟨?_, getBit_putBit_same _ _ _ hb, (getBit_ite_putBit _ _ _ _ hb).trans (if_pos rfl),
    (getBit_ite_putBit _ _ _ _ hb).trans (if_pos rfl), fun c hc => ⟨?_, (getBit_putBit _ _ _ _ hb).trans (if_neg hc),
      (getBit_ite_putBit _ _ _ _ hb).trans (if_neg hc), (getBit_ite_putBit _ _ _ _ hb).trans (if_neg hc)⟩⟩
  · simp [Sash.takeBundle]
  · simp [Sash.takeBundle, hc]

theorem bankOf_lt (w c : Nat) : bankOf (w % 64) c < 128 := by
  unfold bankOf
  omega

/-- A RECV that takes its bit: what it leaves of its sash, and the bit in its net bit (R53). -/
theorem recvTake_sash (s : State) (c : PaneAt) (hk : c.k < 512) :
    (∃ net sb results done st, (s.recvTake c).sash c.sash =
      { s.sash c.sash with
        recvWait := terase (s.sash c.sash).recvWait c.pane
        stall := st, net := net, sbFlags := sb, results := results, done := done }) ∧
    getBit (tget 0 ((s.recvTake c).sash c.sash).net c.pane) c.k =
      getBit (tget 0 (s.sash c.sash).inBuf (bankOf (pTT c.w % 64) (s.site c.site).cycle.toNat)) (pB c.w % 512) := by
  have hsash (t : State) (v : Bool) : (t.paneResult c v).sash c.sash =
      { ((t.sash c.sash).writeNet c.pane c.k v).markDone c.pane with
        results := putBit ((t.sash c.sash).writeNet c.pane c.k v).results c.pane v } := by
    unfold State.paneResult
    dsimp only
    rw [latchPane_sash, State.sash_setSash, if_pos rfl]
  unfold State.recvTake
  dsimp only
  rw [hsash, ite_pendSash_sash, ite_pendSash_sash, State.sash_setSash, if_pos rfl]
  refine ⟨⟨_, _, _, _, _, rfl⟩, ?_⟩
  simp only [Sash.writeNet, Sash.markDone, tmod, tget_tset, if_true]
  exact getBit_putBit_same _ _ _ hk

/-- A conditional by the negated condition. -/
theorem ite_swap {α : Type} {p q : Prop} [Decidable p] [Decidable q] {a b : α} (h : ¬p ↔ q) : (if p then a else b) = if q then b else a := by
  by_cases hp : p
  · rw [if_pos hp, if_neg (fun hq => h.mpr hq hp)]
  · rw [if_neg hp, if_pos (h.mp hp)]

/-- A bundle that is due and ends at its stop. -/
theorem bundleEject_arrives {s : State} {id : Nat} {f : Flit} (hf : s.flit id = some f) (hd : s.ejectDue f = true)
    (hv : rtValid (s.route f.stop f.route) = true) (ha : rtAct (s.route f.stop f.route) ≠ 2) :
    exec (.bundleEject id) s = .next (s.ejectBundle f (rtTag (s.route f.stop f.route))) := by
  rw [exec_bundleEject, execBundleEject]
  simp only [hf, hd, hv, Bool.true_eq_false, if_false, ha]

/-- Settles O18: the ejection by the route's end, and the three waits of the watchdog. -/
theorem bundlesArriveOrTheWatchdogEnds : Obligations.BundlesArriveOrTheWatchdogEnds := by
  unfold Obligations.BundlesArriveOrTheWatchdogEnds
  refine ⟨?_, ?_, ?_, ?_⟩
  · intro s id
    refine ⟨fun h => ?_, fun f hf hd => ?_⟩
    · rw [exec_bundleEject, execBundleEject]
      cases hf : s.flit id with
      | none => rfl
      | some f => exact congrArg _ (if_pos (h f hf))
    · intro e b x
      refine ⟨fun hv => ?_, fun hv ha => ?_, fun hv ha => ⟨_, bundleEject_arrives hf hd hv ha, ?_, fun j hj => ?_, fun g hg => ?_⟩⟩
      · rw [exec_bundleEject, execBundleEject]
        simp only [hf, hd, Bool.true_eq_false, if_false, flit_id hf]
        exact congrArg _ (if_pos hv)
      · rw [exec_bundleEject, execBundleEject]
        simp only [e] at hv ha
        simp only [hf, hd, hv, ha, Bool.true_eq_false, if_false, if_true, flit_id hf]
      · obtain ⟨st, hst⟩ := ejectBundle_sash s f (rtTag e)
        have hb : b < 128 := bank_lt e f.par
        intro y
        have hy : y = { x.takeBundle b f.data f.bad f.linkBad with stall := st } := hst
        rw [hy]
        generalize f.bad = bad
        obtain ⟨hbuf, hflag, hpoison, hlink, hother⟩ := takeBundle_banks x hb f.data bad f.linkBad
        exact ⟨hbuf, hflag, hpoison, hlink, hother, rfl, rfl⟩
      · unfold State.ejectBundle
        dsimp only
        rw [State.sash_setSash, if_neg hj]
        rfl
      · have hg' : g ∈ s.ring.flits.filter fun g => g.id != f.id := hg
        rw [flit_id hf] at hg'
        simpa using (List.mem_filter.mp hg').2
  · intro s n i p x w b
    rw [exec_bundleWatchdogExpiry, execBundleWatchdogExpiry]
    dsimp only
    refine ⟨fun h => congrArg _ (if_pos h), fun hs hw hk => ⟨_, congrArg _ (if_neg ?_), ?_⟩⟩
    · rintro (h | h)
      · exact h hs
      · exact absurd hw (Nat.not_le.mpr h)
    · have hb : b < 128 := bankOf_lt _ _
      obtain ⟨hrest, hnet⟩ := recvTake_sash
        (s.setSash i.val { s.sash i.val with
          inUnsat := putBit (s.sash i.val).inUnsat (bankOf (pTT w % 64) (s.site n.val).cycle.toNat) true })
        { sash := i.val, pane := p.val, k := x.k, w := w, site := n.val } hk
      rw [State.sash_setSash, if_pos rfl] at hrest hnet
      obtain ⟨net, sb, results, done, st, hrest⟩ := hrest
      refine ⟨?_, hnet, ?_⟩
      · rw [hrest]
        exact getBit_putBit_same _ _ _ hb
      · rw [hrest]
  · intro s n i x
    rw [exec_bundleWatchdogExpiry, execBundleWatchdogExpiry]
    dsimp only
    refine congrArg _ (ite_swap ?_)
    simp only [not_or, ne_eq, not_not, Nat.not_lt, x]
    tauto
  · intro s n part x
    rw [exec_bundleWatchdogExpiry, execBundleWatchdogExpiry]
    dsimp only
    refine congrArg _ (ite_swap ?_)
    simp only [not_or, ne_eq, not_not, Nat.not_lt, Bool.not_eq_false, Bool.not_eq_true, x]

end Sys2Proof.Machine
end

section
set_option Elab.async false
/-! What leaves the `sites` of the unit as they are. -/

namespace Sys2Proof.Machine

theorem State.send_sites (s : State) (f) : (s.send f).sites = s.sites := by
  grind [State.send]

theorem State.sendToken_sites (s : State) (n p role kind) : (s.sendToken n p role kind).sites = s.sites := by
  grind [State.sendToken, State.modLane_sites, State.send_sites]

theorem State.releaseDown_sites (s : State) (n kind) : (s.releaseDown n kind).sites = s.sites := by
  grind [State.releaseDown, foldl_sites, State.sendToken_sites]

theorem State.modGroups_sites (s : State) (n f) : (s.modGroups n f).sites = s.sites := by
  grind [State.modGroups]

theorem State.applyGroups_sites (s : State) (n) : (s.applyGroups n).sites = s.sites := by
  grind [State.applyGroups, State.modGroups_sites]

theorem State.stopRun_sites (s : State) (n) : (s.stopRun n).sites = s.sites := by
  grind [State.stopRun, State.modLanes_sites, State.modTrigs_sites, State.modSashes_sites]

theorem State.postUnreported_sites (s : State) (n ps) : (s.postUnreported n ps).sites = s.sites := by
  grind [State.postUnreported, foldl_sites, State.postNotice_sites]

theorem State.ensureRegion_sites (s : State) (a) : (s.ensureRegion a).sites = s.sites := by
  grind [State.ensureRegion, State.modMemSt_sites]

theorem State.ensureRegions_sites (s : State) (r' fuel) : (s.ensureRegions r' fuel).sites = s.sites := by
  induction fuel generalizing s r' with
  | zero => rfl
  | succ n ih => grind [State.ensureRegions, State.ensureRegion_sites]

theorem State.mergeWord_sites (s : State) (w f) : (s.mergeWord w f).sites = s.sites := by
  grind [State.mergeWord, State.noteCe_sites, State.modMemSt_sites, State.postMemory_sites]

theorem State.writeWord_sites (s : State) (w bs) : (s.writeWord w bs).sites = s.sites := by
  grind [State.writeWord, State.mergeWord_sites]

theorem State.writeWords_sites (s : State) (w bs fuel) : (s.writeWords w bs fuel).sites = s.sites := by
  induction fuel generalizing s w bs with
  | zero => rfl
  | succ n ih => grind [State.writeWords, State.writeWord_sites]

theorem State.memWriteBE_sites (s : State) (a bs) : (s.memWriteBE a bs).sites = s.sites := by
  grind [State.memWriteBE, State.ensureRegions_sites, State.writeWords_sites]

theorem State.memWrite_sites (s : State) (a bs) : (s.memWrite a bs).sites = s.sites := by
  grind [State.memWrite, State.memWriteBE_sites]

theorem State.rewrite_sites (s : State) (at_ old l) : (s.rewrite at_ old l).sites = s.sites := by
  grind [State.rewrite, foldl_sites, State.memWrite_sites]

theorem State.takeRecs_sites (s : State) (i t') : (s.takeRecs i t').sites = s.sites := by
  grind [State.takeRecs, State.rewrite_sites, State.setTrig_sites]

theorem State.toutPulse_sites (s : State) (i mask w) : (s.toutPulse i mask w).sites = s.sites := by
  grind [State.toutPulse, foldl_sites]

theorem State.keySignal_sites (s : State) (i sel) : (s.keySignal i sel).sites = s.sites := by
  grind [State.keySignal]

theorem State.postSite_sites (s : State) (n old new st) : (s.postSite n old new st).sites = s.sites := by
  grind [State.postSite, State.post_sites]

theorem State.dropOldest_sites (s : State) : (s.dropOldest).sites = s.sites := by
  grind [State.dropOldest, State.setTicket_sites]

theorem State.sendFragment_sites (s : State) (ua seq resp bs i) : (s.sendFragment ua seq resp bs i).sites = s.sites := by
  grind [State.sendFragment, State.send_sites]

theorem State.sendMbx_sites (s : State) (ua seq resp bs) : (s.sendMbx ua seq resp bs).sites = s.sites := by
  grind [State.sendMbx, State.sendFragment_sites]

theorem State.message_sites (s : State) (owner ua seq isResp bs) : (s.message owner ua seq isResp bs).sites = s.sites := by
  grind [State.message, State.sendMbx_sites]

theorem State.passComplete_sites (s : State) (ua e') : (s.passComplete ua e').sites = s.sites := by
  grind [State.passComplete, State.message_sites]

theorem State.finish_sites (s : State) (tk st data) : (s.finish tk st data).sites = s.sites := by
  grind [State.finish, State.setTicket_sites, State.dropOldest_sites, State.postEvent_sites, State.passComplete_sites]

theorem State.postFault_sites (s : State) (st site obj cycle step pane detail) : (s.postFault st site obj cycle step pane detail).sites = s.sites := by
  grind [State.postFault, State.post_sites]

end Sys2Proof.Machine
end

section
set_option Elab.async false
/-! What leaves the `sashes` of the unit as they are. -/

namespace Sys2Proof.Machine

theorem State.modLane_sashes (s : State) (n f) : (s.modLane n f).sashes = s.sashes := by
  grind [State.modLane, State.setLane_sashes]

theorem State.send_sashes (s : State) (f) : (s.send f).sashes = s.sashes := by
  grind [State.send]

theorem State.sendToken_sashes (s : State) (n p role kind) : (s.sendToken n p role kind).sashes = s.sashes := by
  grind [State.sendToken, State.modLane_sashes, State.send_sashes]

theorem State.releaseDown_sashes (s : State) (n kind) : (s.releaseDown n kind).sashes = s.sashes := by
  grind [State.releaseDown, foldl_sashes, State.sendToken_sashes]

theorem State.modGroups_sashes (s : State) (n f) : (s.modGroups n f).sashes = s.sashes := by
  grind [State.modGroups]

theorem State.applyGroups_sashes (s : State) (n) : (s.applyGroups n).sashes = s.sashes := by
  grind [State.applyGroups, State.modGroups_sashes]

theorem State.keySignal_sashes (s : State) (i sel) : (s.keySignal i sel).sashes = s.sashes := by
  grind [State.keySignal]

theorem State.postNotice_sashes (s : State) (st site obj action cycle detail) : (s.postNotice st site obj action cycle detail).sashes = s.sashes := by
  grind [State.postNotice, State.post_sashes]

theorem State.modSite_sashes (s : State) (n f) : (s.modSite n f).sashes = s.sashes := by
  grind [State.modSite, State.setSite_sashes]

theorem State.cancelStartAt_sashes (s : State) (n) : (s.cancelStartAt n).sashes = s.sashes := by
  grind [State.cancelStartAt, State.postNotice_sashes, State.modSite_sashes]

theorem State.askHalt_sashes (s : State) (n) : (s.askHalt n).sashes = s.sashes := by
  grind [State.askHalt, State.send_sashes, State.modSite_sashes]

theorem State.triggerHalt_sashes (s : State) (n) : (s.triggerHalt n).sashes = s.sashes := by
  grind [State.triggerHalt, State.cancelStartAt_sashes, State.askHalt_sashes]

theorem State.toutPulse_sashes (s : State) (i mask w) : (s.toutPulse i mask w).sashes = s.sashes := by
  grind [State.toutPulse, foldl_sashes]

theorem State.triggerActions_sashes (s : State) (n i) : (s.triggerActions n i).sashes = s.sashes := by
  grind [State.triggerActions, State.triggerHalt_sashes, foldl_sashes, State.askHalt_sashes, State.post_sashes, State.toutPulse_sashes, State.send_sashes]

theorem State.modTrig_sashes (s : State) (n f) : (s.modTrig n f).sashes = s.sashes := by
  grind [State.modTrig, State.setTrig_sashes]

theorem State.ensureRegion_sashes (s : State) (a) : (s.ensureRegion a).sashes = s.sashes := by
  grind [State.ensureRegion, State.modMemSt_sashes]

theorem State.ensureRegions_sashes (s : State) (r' fuel) : (s.ensureRegions r' fuel).sashes = s.sashes := by
  induction fuel generalizing s r' with
  | zero => rfl
  | succ n ih => grind [State.ensureRegions, State.ensureRegion_sashes]

theorem State.mergeWord_sashes (s : State) (w f) : (s.mergeWord w f).sashes = s.sashes := by
  grind [State.mergeWord, State.noteCe_sashes, State.modMemSt_sashes, State.postMemory_sashes]

theorem State.writeWord_sashes (s : State) (w bs) : (s.writeWord w bs).sashes = s.sashes := by
  grind [State.writeWord, State.mergeWord_sashes]

theorem State.writeWords_sashes (s : State) (w bs fuel) : (s.writeWords w bs fuel).sashes = s.sashes := by
  induction fuel generalizing s w bs with
  | zero => rfl
  | succ n ih => grind [State.writeWords, State.writeWord_sashes]

theorem State.memWriteBE_sashes (s : State) (a bs) : (s.memWriteBE a bs).sashes = s.sashes := by
  grind [State.memWriteBE, State.ensureRegions_sashes, State.writeWords_sashes]

theorem State.memWrite_sashes (s : State) (a bs) : (s.memWrite a bs).sashes = s.sashes := by
  grind [State.memWrite, State.memWriteBE_sashes]

theorem State.rewrite_sashes (s : State) (at_ old l) : (s.rewrite at_ old l).sashes = s.sashes := by
  grind [State.rewrite, foldl_sashes, State.memWrite_sashes]

theorem State.takeRecs_sashes (s : State) (i t') : (s.takeRecs i t').sashes = s.sashes := by
  grind [State.takeRecs, State.rewrite_sashes, State.setTrig_sashes]

theorem State.fireUnit_sashes (s : State) (n i grid info p) : (s.fireUnit n i grid info p).sashes = s.sashes := by
  grind [State.fireUnit, State.triggerActions_sashes, State.keySignal_sashes, State.modTrig_sashes, State.takeRecs_sashes]

theorem State.fireExternal_sashes (s : State) (n i grid info) : (s.fireExternal n i grid info).sashes = s.sashes := by
  grind [State.fireExternal, State.fireUnit_sashes, State.setTrig_sashes]

theorem State.fireSite_sashes (s : State) (n i grid) : (s.fireSite n i grid).sashes = s.sashes := by
  grind [State.fireSite, foldl_sashes, State.fireExternal_sashes]

theorem State.trigSlot_sashes (s : State) (n i g) : (s.trigSlot n i g).sashes = s.sashes := by
  grind [State.trigSlot, foldl_sashes, State.keySignal_sashes, State.setTrig_sashes, State.fireSite_sashes, State.fireUnit_sashes]

theorem State.trigRun_sashes (s : State) (n i fuel) : (s.trigRun n i fuel).sashes = s.sashes := by
  induction fuel generalizing s n i with
  | zero => rfl
  | succ n ih => grind [State.trigRun, State.trigSlot_sashes]

theorem State.trigAll_sashes (s : State) (n i) : (s.trigAll n i).sashes = s.sashes := by
  grind [State.trigAll, State.trigRun_sashes]

theorem State.postSite_sashes (s : State) (n old new st) : (s.postSite n old new st).sashes = s.sashes := by
  grind [State.postSite, State.post_sashes]

theorem State.moveSite_sashes (s : State) (n new st) : (s.moveSite n new st).sashes = s.sashes := by
  grind [State.moveSite, State.modSite_sashes, State.postSite_sashes]

theorem State.postUnreported_sashes (s : State) (n ps) : (s.postUnreported n ps).sashes = s.sashes := by
  grind [State.postUnreported, foldl_sashes, State.postNotice_sashes]

theorem State.dropOldest_sashes (s : State) : (s.dropOldest).sashes = s.sashes := by
  grind [State.dropOldest, State.setTicket_sashes]

theorem State.sendFragment_sashes (s : State) (ua seq resp bs i) : (s.sendFragment ua seq resp bs i).sashes = s.sashes := by
  grind [State.sendFragment, State.send_sashes]

theorem State.sendMbx_sashes (s : State) (ua seq resp bs) : (s.sendMbx ua seq resp bs).sashes = s.sashes := by
  grind [State.sendMbx, State.sendFragment_sashes]

theorem State.message_sashes (s : State) (owner ua seq isResp bs) : (s.message owner ua seq isResp bs).sashes = s.sashes := by
  grind [State.message, State.sendMbx_sashes]

theorem State.passComplete_sashes (s : State) (ua e') : (s.passComplete ua e').sashes = s.sashes := by
  grind [State.passComplete, State.message_sashes]

theorem State.finish_sashes (s : State) (tk st data) : (s.finish tk st data).sashes = s.sashes := by
  grind [State.finish, State.setTicket_sashes, State.dropOldest_sashes, State.postEvent_sashes, State.passComplete_sashes]

theorem State.dropTransom_sashes (s : State) (n) : (s.dropTransom n).sashes = s.sashes := by
  grind [State.dropTransom, State.finish_sashes, State.modSite_sashes]

theorem State.postFault_sashes (s : State) (st site obj cycle step pane detail) : (s.postFault st site obj cycle step pane detail).sashes = s.sashes := by
  grind [State.postFault, State.post_sashes]

theorem State.modLanes_sashes (s : State) (l f) : (s.modLanes l f).sashes = s.sashes := by
  grind [State.modLanes, foldl_sashes, State.modLane_sashes]

theorem State.modTrigs_sashes (s : State) (l f) : (s.modTrigs l f).sashes = s.sashes := by
  grind [State.modTrigs, foldl_sashes, State.modTrig_sashes]

end Sys2Proof.Machine
end

section
set_option Elab.async false
/-! What leaves the `mem` of the unit as they are. -/

namespace Sys2Proof.Machine

theorem State.modLane_mem (s : State) (n f) : (s.modLane n f).mem = s.mem := by
  grind [State.modLane, State.setLane_mem]

theorem State.send_mem (s : State) (f) : (s.send f).mem = s.mem := by
  grind [State.send]

theorem State.sendToken_mem (s : State) (n p role kind) : (s.sendToken n p role kind).mem = s.mem := by
  grind [State.sendToken, State.modLane_mem, State.send_mem]

theorem State.releaseDown_mem (s : State) (n kind) : (s.releaseDown n kind).mem = s.mem := by
  grind [State.releaseDown, foldl_mem, State.sendToken_mem]

theorem State.modGroups_mem (s : State) (n f) : (s.modGroups n f).mem = s.mem := by
  grind [State.modGroups]

theorem State.applyGroups_mem (s : State) (n) : (s.applyGroups n).mem = s.mem := by
  grind [State.applyGroups, State.modGroups_mem]

theorem State.modSash_mem (s : State) (n f) : (s.modSash n f).mem = s.mem := by
  grind [State.modSash, State.setSash_mem]

theorem State.modSashes_mem (s : State) (l f) : (s.modSashes l f).mem = s.mem := by
  grind [State.modSashes, foldl_mem, State.modSash_mem]

theorem State.modLanes_mem (s : State) (l f) : (s.modLanes l f).mem = s.mem := by
  grind [State.modLanes, foldl_mem, State.modLane_mem]

end Sys2Proof.Machine
end

section
set_option Elab.async false
/-! The cycle numbers and the images of the sites: what a site that halts, and its triggers, leave of them. -/

namespace Sys2Proof.Machine

/-- The cycle number and the image of every site. -/
def State.runs (s : State) : Nat → BitVec 48 × SiteImage := fun n => ((s.site n).cycle, (s.site n).img)

theorem State.runs_of_sites {s t : State} (h : t.sites = s.sites) : t.runs = s.runs := by
  unfold State.runs State.site; rw [h]

theorem State.modSite_runs (s : State) (n : Nat) {f : Site → Site} (h : ∀ x, (f x).cycle = x.cycle ∧ (f x).img = x.img) :
    (s.modSite n f).runs = s.runs := by
  funext m
  by_cases hm : m = n
  · subst hm
    simp only [State.runs, State.modSite, State.site_setSite, if_pos, h]
  · simp only [State.runs, State.modSite, State.site_setSite, if_neg hm]

theorem foldl_runs {α} {f : State → α → State} (hf : ∀ s x, (f s x).runs = s.runs) (l : List α) (s : State) :
    (l.foldl f s).runs = s.runs := by
  induction l generalizing s with
  | nil => rfl
  | cons a l ih => exact (ih _).trans (hf s a)

theorem State.askHalt_runs (s : State) (n : Nat) : (s.askHalt n).runs = s.runs := by
  unfold State.askHalt
  extract_lets g
  split
  · rfl
  split
  · exact State.runs_of_sites (State.send_sites _ _)
  · exact s.modSite_runs n fun _ => ⟨rfl, rfl⟩

theorem State.cancelStartAt_runs (s : State) (n : Nat) : (s.cancelStartAt n).runs = s.runs := by
  unfold State.cancelStartAt
  split
  · rfl
  · exact (State.runs_of_sites (State.postNotice_sites ..)).trans (s.modSite_runs n fun _ => ⟨rfl, rfl⟩)

theorem State.triggerHalt_runs (s : State) (n : Nat) : (s.triggerHalt n).runs = s.runs :=
  (State.cancelStartAt_runs _ n).trans (s.askHalt_runs n)

theorem State.triggerActions_runs (s : State) (n i : Nat) : (s.triggerActions n i).runs = s.runs := by
  have post := fun s k st a b c d => State.runs_of_sites (State.post_sites s k st a b c d)
  have tout := fun s l m w => State.runs_of_sites (State.toutPulse_sites s l m w)
  have send := fun s f => State.runs_of_sites (State.send_sites s f)
  grind [State.triggerActions, foldl_runs, State.askHalt_runs, State.triggerHalt_runs]

theorem State.fireUnit_runs (s : State) (n i g info p : Nat) : (s.fireUnit n i g info p).runs = s.runs := by
  have key := fun s i k => State.runs_of_sites (State.keySignal_sites s i k)
  have recs := fun s i t => State.runs_of_sites (State.takeRecs_sites s i t)
  have trig := fun s i f => State.runs_of_sites (State.modTrig_sites s i f)
  simp only [State.fireUnit, State.triggerActions_runs, key, recs, trig]

theorem State.fireExternal_runs (s : State) (n i g info : Nat) : (s.fireExternal n i g info).runs = s.runs := by
  unfold State.fireExternal
  extract_lets t
  split
  · rfl
  split
  · exact s.fireUnit_runs n i g info 0
  · rfl

theorem State.fireSite_runs (s : State) (n i g : Nat) : (s.fireSite n i g).runs = s.runs := by
  unfold State.fireSite
  split
  · refine foldl_runs (fun s j => ?_) _ s
    split
    · exact s.fireExternal_runs n j g 0x10
    · rfl
  · rfl

theorem State.trigSlot_runs (s : State) (n i g : Nat) : (s.trigSlot n i g).runs = s.runs := by
  have key := fun s i k => State.runs_of_sites (State.keySignal_sites s i k)
  have trig : ∀ (s : State) i t, (s.setTrig i t).runs = s.runs := fun _ _ _ => rfl
  grind [State.trigSlot, foldl_runs, State.fireUnit_runs, State.fireSite_runs]

theorem State.trigRun_runs (s : State) (n i fuel : Nat) : (s.trigRun n i fuel).runs = s.runs := by
  induction fuel generalizing s with
  | zero => rfl
  | succ f ih =>
    unfold State.trigRun
    split
    · exact (ih _).trans (s.trigSlot_runs n i _)
    · rfl

theorem State.trigAll_runs (s : State) (n i : Nat) : (s.trigAll n i).runs = s.runs := by
  unfold State.trigAll
  split
  · rfl
  · exact s.trigRun_runs n i _

theorem State.moveSite_runs (s : State) (n : Nat) (new : SiteState) (st : Status) : (s.moveSite n new st).runs = s.runs := by
  have moved : (s.modSite n fun x => { x with state := new }).runs = s.runs := s.modSite_runs n fun _ => ⟨rfl, rfl⟩
  unfold State.moveSite
  extract_lets old t
  split
  · exact moved
  · exact (State.runs_of_sites (State.postSite_sites ..)).trans moved

theorem State.enterHalted_runs (s : State) (n : Nat) : (s.enterHalted n).runs = s.runs := by
  unfold State.enterHalted
  extract_lets st t
  have stopped : t.runs = s.runs := State.runs_of_sites (s.stopRun_sites n)
  exact (State.moveSite_runs ..).trans ((State.modSite_runs t n fun _ => by exact ⟨rfl, rfl⟩).trans stopped)

theorem State.settle_runs (s : State) (n : Nat) : (s.settle n).runs = s.runs := by
  unfold State.settle
  split
  · exact (State.enterHalted_runs _ n).trans (foldl_runs (fun s i => s.trigAll_runs n i) _ s)
  · rfl

theorem siteSashes_of_runs {s t : State} (h : t.runs = s.runs) (n : Nat) : t.siteSashes n = s.siteSashes n :=
  congrArg SiteImage.sashes (congrArg Prod.snd (congrFun h n))

theorem cycle_of_runs {s t : State} (h : t.runs = s.runs) (n : Nat) : (t.site n).cycle = (s.site n).cycle :=
  congrArg Prod.fst (congrFun h n)

end Sys2Proof.Machine
end

section
set_option Elab.async false
/-! A hinge: the arrival of a sash, the release of a part, and what its decision does to the sashes and the site (R56, R60, R62). -/

namespace Sys2Proof.Machine

/-! ### Sashes of a list changed -/

theorem State.modSash_sash (s : State) (i : Nat) (f : Sash → Sash) (j : Nat) :
    (s.modSash i f).sash j = if j = i then f (s.sash i) else s.sash j := State.sash_setSash s i _ j

theorem modSashes_sash_of_not_mem {l : List Nat} {j : Nat} (hj : j ∉ l) (s : State) (f : Sash → Sash) :
    (s.modSashes l f).sash j = s.sash j := by
  induction l generalizing s with
  | nil => rfl
  | cons i l ih =>
    obtain ⟨hi, hl⟩ := List.mem_cons.not.trans not_or |>.mp hj
    exact (ih hl _).trans ((s.modSash_sash i f j).trans (if_neg hi))

/-- What a change of one sash keeps, a change of a list of sashes keeps. -/
theorem modSashes_keep {α} {g : Sash → α} {f : Sash → Sash} (hf : ∀ x, g (f x) = g x) (s : State) (l : List Nat) (j : Nat) :
    g ((s.modSashes l f).sash j) = g (s.sash j) := by
  induction l generalizing s with
  | nil => rfl
  | cons i l ih =>
    refine (ih (s.modSash i f)).trans ?_
    rw [State.modSash_sash]
    split
    · next h => rw [h, hf]
    · rfl

theorem modSashes_sash_of_mem {f : Sash → Sash} (hf : ∀ x, f (f x) = f x) {l : List Nat} {j : Nat} (hj : j ∈ l) (s : State) :
    (s.modSashes l f).sash j = f (s.sash j) := by
  induction l generalizing s with
  | nil => simp at hj
  | cons i l ih =>
    have one := s.modSash_sash i f j
    by_cases hl : j ∈ l
    · refine (ih hl (s.modSash i f)).trans ?_
      rw [one]
      split
      · next h => rw [h, hf]
      · rfl
    · have hi : j = i := by simpa [hl] using hj
      exact (modSashes_sash_of_not_mem hl _ f).trans (by rw [one, if_pos hi, hi])

theorem Sash.hinge34_hinge34 (x : Sash) (c : Nat) : (x.hinge34 c).hinge34 c = x.hinge34 c := by
  simp [Sash.hinge34, BitVec.and_assoc]

theorem Sash.halt_halt (x : Sash) : x.halt.halt = x.halt := rfl
theorem Sash.resume_resume (left : Nat) (x : Sash) : (x.resume left).resume left = x.resume left := rfl

/-! ### The hinge's copy -/

/-- What run-ahead keeps of the cycle before a hinge's copy. -/
def State.hingeLogged (s : State) (n : Nat) : State :=
  let x := s.site n
  let ls := s.siteSashes n
  let s := if x.img.depth = 0 then s else s.modSashes ls fun y => y.logHinge x.cycle.toNat x.ra.oldest x.img.netlog
  if x.img.depth = 0 then s else
    s.modSite n fun x =>
      { x with ra := { x.ra with ckptPeak := BitVec.ofNat 32 (ls.foldl (fun m i => max m (s.sash i).delta.used) x.ra.ckptPeak.toNat) } }

/-- A site behind the hinge of its cycle. -/
def Site.passHinge (x : Site) (h : Nat) : Site :=
  { x with
    cycle := if x.cycle = BitVec.allOnes 48 then x.cycle else x.cycle + 1
    cycleLimit := x.cycleLimit || x.cycle == BitVec.allOnes 48
    hingeBegun := false
    arriveSent := false
    childArr := []
    remoteUa := none
    hingeWait := 0
    hingeRun := 0
    arriveLate := false
    relPend := none
    ra := x.ra.passHinge h }

theorem State.modSite_site_same (s : State) (n : Nat) (f : Site → Site) : (s.modSite n f).site n = f (s.site n) :=
  (State.site_setSite s n _ n).trans (if_pos rfl)

theorem State.site_of_sites {s t : State} (h : t.sites = s.sites) (n : Nat) : t.site n = s.site n := by
  unfold State.site; rw [h]

theorem hingeLogged_mem (s : State) (n : Nat) : (s.hingeLogged n).mem = s.mem := by
  unfold State.hingeLogged
  extract_lets x ls t
  have kept : t.mem = s.mem := by
    unfold t
    split
    · rfl
    · exact State.modSashes_mem ..
  split <;> exact kept

theorem hingeLogged_site (s : State) (n : Nat) : ∃ r, (s.hingeLogged n).site n = { s.site n with ra := r } := by
  unfold State.hingeLogged
  extract_lets x ls t
  have kept : t.site n = s.site n := by
    unfold t
    split
    · rfl
    · exact State.site_of_sites (State.modSashes_sites ..) n
  split
  · exact ⟨_, kept⟩
  · exact ⟨_, (State.modSite_site_same t n _).trans (by rw [kept])⟩

theorem hingeLogged_sash_of_not_mem {s : State} {n j : Nat} (hj : j ∉ s.siteSashes n) : (s.hingeLogged n).sash j = s.sash j := by
  unfold State.hingeLogged
  extract_lets x ls t
  have kept : t.sash j = s.sash j := by
    unfold t
    split
    · rfl
    · exact modSashes_sash_of_not_mem hj s _
  split <;> exact kept

theorem hingeLogged_sash (s : State) (n j : Nat) :
    ((s.hingeLogged n).sash j).shadow = (s.sash j).shadow ∧ ((s.hingeLogged n).sash j).net = (s.sash j).net := by
  unfold State.hingeLogged
  extract_lets x ls t
  have kept : (t.sash j).shadow = (s.sash j).shadow ∧ (t.sash j).net = (s.sash j).net := by
    unfold t
    split
    · exact ⟨rfl, rfl⟩
    · exact ⟨modSashes_keep (g := Sash.shadow) (fun y => by exact rfl) s ls j, modSashes_keep (g := Sash.net) (fun y => by exact rfl) s ls j⟩
  split <;> exact kept

/-- The next-state shadows copied to the state bits of the site's sashes, and the site in its next cycle. -/
def State.hingeMoved (s : State) (n : Nat) : State :=
  let h := (s.site n).cycle.toNat
  let ls := s.siteSashes n
  let t := (s.hingeLogged n).modSashes ls fun y => y.hinge34 h
  let t := t.modLanes ls fun l => { l with fail := { l.fail with mcSeen := false } }
  (t.modSite n fun x => x.passHinge h).applyGroups n

theorem hingeApply_eq (s : State) (n : Nat) :
    s.hingeApply n =
      if ((s.hingeMoved n).site n).transomDue (s.site n).cycle.toNat then (s.hingeMoved n).applyTransom n (s.site n).cycle.toNat
      else s.hingeMoved n := rfl

theorem hingeMoved_site (s : State) (n : Nat) :
    ∃ r, (s.hingeMoved n).site n = ({ s.site n with ra := r } : Site).passHinge (s.site n).cycle.toNat := by
  obtain ⟨r, hr⟩ := hingeLogged_site s n
  unfold State.hingeMoved
  extract_lets h ls t t'
  have kept : t'.site n = { s.site n with ra := r } :=
    (State.site_of_sites ((State.modLanes_sites ..).trans (State.modSashes_sites ..)) n).trans hr
  refine ⟨r, (State.site_of_sites (State.applyGroups_sites ..) n).trans ?_⟩
  rw [State.modSite_site_same, kept]

theorem hingeMoved_mem (s : State) (n : Nat) : (s.hingeMoved n).mem = s.mem := by
  unfold State.hingeMoved
  extract_lets h ls t t'
  calc _ = (t'.modSite n fun x => x.passHinge h).mem := State.applyGroups_mem ..
    _ = t'.mem := rfl
    _ = t.mem := State.modLanes_mem ..
    _ = (s.hingeLogged n).mem := State.modSashes_mem ..
    _ = s.mem := hingeLogged_mem s n

theorem hingeMoved_sash (s : State) (n j : Nat) :
    (s.hingeMoved n).sash j = ((s.hingeLogged n).modSashes (s.siteSashes n) fun y => y.hinge34 (s.site n).cycle.toNat).sash j := by
  unfold State.hingeMoved
  extract_lets h ls t t'
  have lanes : t'.sashes = t.sashes := State.modLanes_sashes ..
  exact sash_congr ((State.applyGroups_sashes _ n).trans lanes) j

theorem hingeMoved_sash_of_mem {s : State} {n j : Nat} (hj : j ∈ s.siteSashes n) :
    ((s.hingeMoved n).sash j).st = (s.sash j).shadow ∧ ((s.hingeMoved n).sash j).net = (s.sash j).net ∧
      ((s.hingeMoved n).sash j).exch = 0 := by
  have logged := hingeLogged_sash s n j
  rw [hingeMoved_sash, modSashes_sash_of_mem (fun x => x.hinge34_hinge34 _) hj]
  exact ⟨logged.1, logged.2, rfl⟩

theorem hingeMoved_sash_of_not_mem {s : State} {n j : Nat} (hj : j ∉ s.siteSashes n) : (s.hingeMoved n).sash j = s.sash j := by
  rw [hingeMoved_sash, modSashes_sash_of_not_mem hj, hingeLogged_sash_of_not_mem hj]

theorem hingeApply_of_noTransom {s : State} {n : Nat} (h : (s.site n).transomDue (s.site n).cycle.toNat = false) :
    s.hingeApply n = s.hingeMoved n := by
  obtain ⟨r, hr⟩ := hingeMoved_site s n
  have quiet : ((s.hingeMoved n).site n).transomDue (s.site n).cycle.toNat = false := by rw [hr]; exact h
  rw [hingeApply_eq, quiet]
  rfl

/-! ### What a release makes of the site (R56, R60) -/

theorem releaseDown_site (s : State) (n k m : Nat) : (s.releaseDown n k).site m = s.site m :=
  State.site_of_sites (State.releaseDown_sites ..) m
theorem releaseDown_sash (s : State) (n k j : Nat) : (s.releaseDown n k).sash j = s.sash j :=
  sash_congr (State.releaseDown_sashes ..) j
theorem releaseDown_siteSashes (s : State) (n k : Nat) : (s.releaseDown n k).siteSashes n = s.siteSashes n :=
  congrArg (fun x : Site => x.img.sashes) (releaseDown_site s n k n)

section
variable {s : State} {n : Nat} (quiet : (s.site n).transomDue (s.site n).cycle.toNat = false)

include quiet

theorem releaseApply_eq (k : Nat) : (s.releaseDown n k).hingeApply n = (s.releaseDown n k).hingeMoved n :=
  hingeApply_of_noTransom (by rw [releaseDown_site]; exact quiet)

theorem releaseApply_site (k : Nat) :
    ∃ r, ((s.releaseDown n k).hingeApply n).site n = ({ s.site n with ra := r } : Site).passHinge (s.site n).cycle.toNat := by
  rw [releaseApply_eq quiet, ← releaseDown_site s n k n]
  exact hingeMoved_site _ n

theorem releaseApply_siteSashes (k : Nat) : ((s.releaseDown n k).hingeApply n).siteSashes n = s.siteSashes n := by
  obtain ⟨r, hr⟩ := releaseApply_site quiet k
  unfold State.siteSashes
  rw [hr]
  rfl

theorem releaseApply_sash_of_mem (k : Nat) {j : Nat} (hj : j ∈ s.siteSashes n) :
    let t := (s.releaseDown n k).hingeApply n
    (t.sash j).st = (s.sash j).shadow ∧ (t.sash j).net = (s.sash j).net ∧ (t.sash j).exch = 0 := by
  intro t
  have moved := hingeMoved_sash_of_mem (s := s.releaseDown n k) (releaseDown_siteSashes s n k ▸ hj)
  rw [releaseDown_sash, ← releaseApply_eq quiet] at moved
  exact moved

theorem releaseApply_sash_of_not_mem (k : Nat) {j : Nat} (hj : j ∉ s.siteSashes n) :
    ((s.releaseDown n k).hingeApply n).sash j = s.sash j := by
  rw [releaseApply_eq quiet, hingeMoved_sash_of_not_mem (releaseDown_siteSashes s n k ▸ hj), releaseDown_sash]

theorem releaseContinue_eq (left : Nat) :
    s.releaseContinue n left = ((s.releaseDown n 2).hingeApply n).modSashes (s.siteSashes n) (Sash.resume left) := by
  conv_rhs => rw [← releaseApply_siteSashes quiet 2]
  rfl

theorem releaseContinue_moves (left : Nat) (room : (s.site n).cycle ≠ BitVec.allOnes 48) :
    let t := s.releaseContinue n left
    (t.site n).cycle = (s.site n).cycle + 1 ∧ (t.site n).state = (s.site n).state ∧ (t.site n).hingeBegun = false ∧
      (∀ i ∈ s.siteSashes n, (t.sash i).st = (s.sash i).shadow ∧ (t.sash i).net = (s.sash i).net ∧
        (t.sash i).phase = .resume left ∧ (t.sash i).exch = 0) ∧
      (∀ i, i ∉ s.siteSashes n → t.sash i = s.sash i) ∧ t.mem = s.mem := by
  obtain ⟨r, hr⟩ := releaseApply_site quiet 2
  have site := State.site_of_sites (State.modSashes_sites ((s.releaseDown n 2).hingeApply n) (s.siteSashes n) (Sash.resume left)) n
  dsimp only
  rw [releaseContinue_eq quiet, site, hr]
  refine ⟨?_, rfl, rfl, fun i hi => ?_, fun i hi => ?_, ?_⟩
  · simp only [Site.passHinge]
    exact if_neg room
  · obtain ⟨st, net, exch⟩ := releaseApply_sash_of_mem quiet 2 hi
    rw [modSashes_sash_of_mem (Sash.resume_resume left) hi]
    generalize ((s.releaseDown n 2).hingeApply n).sash i = y at st net exch ⊢
    exact ⟨st, net, rfl, exch⟩
  · exact (modSashes_sash_of_not_mem hi _ _).trans (releaseApply_sash_of_not_mem quiet 2 hi)
  · rw [State.modSashes_mem, releaseApply_eq quiet]
    exact (hingeMoved_mem _ n).trans (State.releaseDown_mem ..)

/-- The site halted at its hinge, before what is left of its frames and responses is waited for. -/
def State.haltedAtHinge (s : State) (n : Nat) : State :=
  let t := (s.releaseDown n 3).hingeApply n
  let t := t.modSashes (s.siteSashes n) Sash.halt
  let t := if (s.site n).ra.stopAt.isSome then t.modLanes (s.siteSashes n) fun l => l.cut (t.site n).c0 (t.site n).cycle.toNat else t
  t.modSite n fun x =>
    { x with
      draining := true
      cutCodes := (s.site n).ra.stopAt.isSome
      ra := { x.ra with state := .drain, stopAt := none } }

theorem releaseHalt_eq : s.releaseHalt n = (s.haltedAtHinge n).settle n := by
  unfold State.haltedAtHinge
  conv_rhs => rw [← releaseApply_siteSashes quiet 3]
  rfl

theorem haltedAtHinge_site (room : (s.site n).cycle ≠ BitVec.allOnes 48) :
    ((s.haltedAtHinge n).site n).cycle = (s.site n).cycle + 1 ∧ (s.haltedAtHinge n).siteSashes n = s.siteSashes n := by
  obtain ⟨r, hr⟩ := releaseApply_site quiet 3
  unfold State.haltedAtHinge
  extract_lets t t' t''
  have cut : t''.sites = t'.sites := by
    unfold t''
    split
    · exact State.modLanes_sites ..
    · rfl
  have site : t''.site n = t.site n := State.site_of_sites (cut.trans (State.modSashes_sites ..)) n
  unfold State.siteSashes
  rw [State.modSite_site_same, site, hr]
  refine ⟨?_, rfl⟩
  simp only [Site.passHinge]
  exact if_neg room

end

theorem haltedAtHinge_sash (s : State) (n j : Nat) :
    (s.haltedAtHinge n).sash j = (((s.releaseDown n 3).hingeApply n).modSashes (s.siteSashes n) Sash.halt).sash j := by
  unfold State.haltedAtHinge
  extract_lets t t' t''
  have cut : t''.sashes = t'.sashes := by
    unfold t''
    split
    · exact State.modLanes_sashes ..
    · rfl
  exact sash_congr cut j

theorem enterHalted_sash (s : State) (n j : Nat) : (s.enterHalted n).sash j = (s.modSashes (s.siteSashes n) Sash.halt).sash j := by
  unfold State.enterHalted
  extract_lets st t u
  have stopped : t.sashes = (s.modSashes (s.siteSashes n) Sash.halt).sashes :=
    (State.modLanes_sashes ..).trans (State.modTrigs_sashes ..)
  exact sash_congr ((State.moveSite_sashes u n .halted st).trans stopped) j

theorem settle_sash_of_mem {s : State} {n j : Nat} (hj : j ∈ s.siteSashes n) :
    (s.settle n).sash j = s.sash j ∨ (s.settle n).sash j = (s.sash j).halt := by
  unfold State.settle
  split
  · have trigs : ((s.siteSashes n).foldl (fun s i => s.trigAll n i) s).sashes = s.sashes :=
      foldl_sashes (fun s i => State.trigAll_sashes s n i) _ s
    have list := siteSashes_of_runs (foldl_runs (fun s i => State.trigAll_runs s n i) (s.siteSashes n) s) n
    right
    rw [enterHalted_sash, list, modSashes_sash_of_mem Sash.halt_halt hj, sash_congr trigs]
  · exact Or.inl rfl

theorem settle_sash_of_not_mem {s : State} {n j : Nat} (hj : j ∉ s.siteSashes n) : (s.settle n).sash j = s.sash j := by
  unfold State.settle
  split
  · have trigs : ((s.siteSashes n).foldl (fun s i => s.trigAll n i) s).sashes = s.sashes :=
      foldl_sashes (fun s i => State.trigAll_sashes s n i) _ s
    have list := siteSashes_of_runs (foldl_runs (fun s i => State.trigAll_runs s n i) (s.siteSashes n) s) n
    rw [enterHalted_sash, list, modSashes_sash_of_not_mem hj, sash_congr trigs]
  · rfl

theorem releaseHalt_moves {s : State} {n : Nat} (quiet : (s.site n).transomDue (s.site n).cycle.toNat = false)
    (room : (s.site n).cycle ≠ BitVec.allOnes 48) :
    let t := s.releaseHalt n
    (t.site n).cycle = (s.site n).cycle + 1 ∧
      (∀ i ∈ s.siteSashes n, (t.sash i).st = (s.sash i).shadow ∧ (t.sash i).net = (s.sash i).net ∧ (t.sash i).phase = .stopped) ∧
      (∀ i, i ∉ s.siteSashes n → t.sash i = s.sash i) := by
  obtain ⟨cycle, list⟩ := haltedAtHinge_site quiet room
  dsimp only
  rw [releaseHalt_eq quiet]
  refine ⟨(cycle_of_runs (State.settle_runs _ n) n).trans cycle, fun i hi => ?_, fun i hi => ?_⟩
  · obtain ⟨st, net, -⟩ := releaseApply_sash_of_mem quiet 3 hi
    have halted : (s.haltedAtHinge n).sash i = (((s.releaseDown n 3).hingeApply n).sash i).halt :=
      (haltedAtHinge_sash s n i).trans (modSashes_sash_of_mem Sash.halt_halt hi _)
    generalize ((s.releaseDown n 3).hingeApply n).sash i = y at st net halted
    obtain same | again := settle_sash_of_mem (s := s.haltedAtHinge n) (list ▸ hi)
    · rw [same, halted]
      exact ⟨st, net, rfl⟩
    · rw [again, halted]
      exact ⟨st, net, rfl⟩
  · rw [settle_sash_of_not_mem (list ▸ hi), haltedAtHinge_sash, modSashes_sash_of_not_mem hi,
      releaseApply_sash_of_not_mem quiet 3 hi]

/-! ### A release with a fault pending -/

theorem enterFaulted_sash (s : State) (n : Nat) (p : PendFault) (others : List PendFault) (j : Nat) :
    (s.enterFaulted n p others).sash j = (s.modSashes (s.siteSashes n) Sash.halt).sash j := by
  unfold State.enterFaulted
  extract_lets t t1 t2 t3
  have stopped : t.sashes = (s.modSashes (s.siteSashes n) Sash.halt).sashes :=
    (State.modLanes_sashes ..).trans (State.modTrigs_sashes ..)
  have dropped : t1.sashes = t.sashes := (State.dropTransom_sashes ..).trans (State.cancelStartAt_sashes ..)
  have posted : t3.sashes = t2.sashes := State.postFault_sashes ..
  exact sash_congr ((State.moveSite_sashes ..).trans ((State.postUnreported_sashes ..).trans
    (posted.trans ((State.modSite_sashes ..).trans (dropped.trans stopped))))) j

theorem dropTransom_site (s : State) (n : Nat) :
    ((s.dropTransom n).site n).cycle = (s.site n).cycle := by
  unfold State.dropTransom
  split
  · rfl
  · rw [State.site_of_sites (State.finish_sites ..) n, State.modSite_site_same]

/-- The site faulted with `p` ends FAULTED, in the cycle where it stood. -/
theorem enterFaulted_site (s : State) (n : Nat) (p : PendFault) (others : List PendFault) :
    let t := s.enterFaulted n p others
    (t.site n).state = .faulted ∧ (t.site n).cycle = (s.site n).cycle ∧ (t.site n).fault = p.code := by
  dsimp only
  unfold State.enterFaulted
  extract_lets t t1 t2 t3
  have cycle : (t1.site n).cycle = (s.site n).cycle :=
    (dropTransom_site _ n).trans ((cycle_of_runs (State.cancelStartAt_runs t n) n).trans
      (cycle_of_runs (State.runs_of_sites (s.stopRun_sites n)) n))
  have posted : (t3.postUnreported n others).site n = t2.site n :=
    State.site_of_sites ((State.postUnreported_sites ..).trans (State.postFault_sites ..)) n
  have moved : ((t3.postUnreported n others).moveSite n .faulted p.code).site n = { t2.site n with state := .faulted } :=
    (State.site_of_sites (State.postSite_sites ..) n).trans ((State.modSite_site_same _ n _).trans (by rw [posted]))
  rw [moved]
  unfold t2
  rw [State.modSite_site_same]
  exact ⟨rfl, cycle, rfl⟩

theorem releaseFault_eq (s : State) (n : Nat) :
    ∃ p others, s.releaseFault n = (s.releaseDown n 4).enterFaulted n p others ∧
      p.code = (match worstFault (s.site n).pend with | some p => p.code | none => Code.TF_REMOTE_FAULT) := by
  unfold State.releaseFault
  extract_lets t x
  have pend : x.pend = (s.site n).pend := congrArg Site.pend (releaseDown_site s n 4 n)
  rw [pend]
  cases worstFault (s.site n).pend with
  | none => exact ⟨_, _, rfl, rfl⟩
  | some p => exact ⟨p, _, rfl, rfl⟩

theorem releaseFault_moves (s : State) (n : Nat) :
    let t := s.releaseFault n
    (t.site n).state = .faulted ∧ (t.site n).cycle = (s.site n).cycle ∧
      (∀ i, (t.sash i).st = (s.sash i).st ∧ (t.sash i).net = (s.sash i).net) ∧
      (t.site n).fault = (match worstFault (s.site n).pend with | some p => p.code | none => Code.TF_REMOTE_FAULT) := by
  obtain ⟨p, others, eq, code⟩ := releaseFault_eq s n
  obtain ⟨state, cycle, fault⟩ := enterFaulted_site (s.releaseDown n 4) n p others
  dsimp only
  rw [eq]
  refine ⟨state, cycle.trans (congrArg Site.cycle (releaseDown_site s n 4 n)), fun i => ?_, fault.trans code⟩
  rw [enterFaulted_sash, ← releaseDown_sash s n 4 i]
  exact ⟨modSashes_keep (g := Sash.st) (f := Sash.halt) (fun _ => rfl) _ _ i,
    modSashes_keep (g := Sash.net) (f := Sash.halt) (fun _ => rfl) _ _ i⟩

/-! ### The rows of a hinge -/

theorem exec_hinge (i : Fin 64) (s : State) : exec (.hinge i) s = execHinge i s := rfl
theorem exec_hingeRelease (n : Fin 16) (s : State) : exec (.hingeRelease n) s = execHingeRelease n s := rfl

theorem hinge_waits {s : State} {i : Fin 64} (h : s.siteOf i.val = none ∨ s.hingeReady i.val = false) :
    exec (.hinge i) s = .next s := by
  rw [exec_hinge, execHinge]
  dsimp only
  cases site : s.siteOf i.val with
  | none => rfl
  | some n => exact congrArg _ (if_pos (h.resolve_left (by simp [site])))

/-- Sash `i` of site `n` at H0, its arrival raised. -/
def State.arrived (s : State) (i n : Nat) : State :=
  (s.setSash i { s.sash i with phase := .arrived, stall := none }).modSite n fun y => { y with hingeBegun := true }

theorem hinge_arrives {s : State} {i : Fin 64} {n : Nat} (site : s.siteOf i.val = some n) (ready : s.hingeReady i.val = true) :
    let bad := (s.sash i.val).inUnsat &&& bankMask ((s.site n).cycle.toNat % 2)
    exec (.hinge i) s = .next (if bad = 0 then s.arrived i.val n
      else (s.arrived i.val n).pendSash i.val Code.TF_RECV_TIMEOUT 0xFF (((List.range 128).find? (getBit bad) |>.getD 0) / 2)) := by
  rw [exec_hinge, execHinge]
  simp only [site, ready]
  rfl

theorem arrived_siteOf (s : State) (i n : Nat) : (s.arrived i n).siteOf i = s.siteOf i := by
  have sash : (s.arrived i n).sash i = { s.sash i with phase := .arrived, stall := none } := (State.sash_setSash s i _ i).trans (if_pos rfl)
  unfold State.siteOf
  rw [sash]

/-- A fault pending at its site: the site is the same but for its pending faults, which now name the code. -/
theorem pendSash_site {s : State} {i n : Nat} (site : s.siteOf i = some n) (code : Status) (p d : Nat) :
    ((s.pendSash i code p d).site n).hingeBegun = (s.site n).hingeBegun ∧
      ((s.pendSash i code p d).site n).pend.any (·.code == code) = true := by
  unfold State.pendSash
  simp only [site, State.pendFault]
  rw [State.modSite_site_same]
  split
  · next h => exact ⟨rfl, h⟩
  · exact ⟨rfl, by simp [faultOf]⟩

theorem hinge_row (s : State) (i : Fin 64) (n : Nat) (site : s.siteOf i.val = some n) (ready : s.hingeReady i.val = true) :
    let bad := (s.sash i.val).inUnsat &&& bankMask ((s.site n).cycle.toNat % 2)
    ∃ t, exec (.hinge i) s = .next t ∧ t.sash i.val = { s.sash i.val with phase := .arrived, stall := none } ∧
      (t.site n).hingeBegun = true ∧ (∀ j, j ≠ i.val → t.sash j = s.sash j) ∧ t.mem = s.mem ∧ t.lanes = s.lanes ∧
      (bad = 0 → (t.site n).pend = (s.site n).pend) ∧ (bad ≠ 0 → (t.site n).pend.any (·.code == Code.TF_RECV_TIMEOUT) = true) := by
  intro bad
  have sash : ∀ j, (s.arrived i.val n).sash j = if j = i.val then { s.sash i.val with phase := .arrived, stall := none } else s.sash j :=
    fun j => State.sash_setSash s i.val _ j
  have begun : (s.arrived i.val n).site n = { s.site n with hingeBegun := true } := State.modSite_site_same ..
  refine ⟨_, hinge_arrives site ready, ?_⟩
  by_cases hbad : bad = 0
  · rw [if_pos hbad]
    refine ⟨(sash i.val).trans (if_pos rfl), ?_, fun j hj => (sash j).trans (if_neg hj), rfl, rfl, fun _ => ?_, fun h => absurd hbad h⟩
    · rw [begun]
    · rw [begun]
  · rw [if_neg hbad]
    obtain ⟨still, pend⟩ := pendSash_site ((arrived_siteOf s i.val n).trans site) Code.TF_RECV_TIMEOUT 0xFF
      (((List.range 128).find? (getBit bad) |>.getD 0) / 2)
    obtain ⟨mem, lanes⟩ := pendSash_mem_lanes (s.arrived i.val n) i.val Code.TF_RECV_TIMEOUT 0xFF
      (((List.range 128).find? (getBit bad) |>.getD 0) / 2)
    refine ⟨(pendSash_sash ..).trans ((sash i.val).trans (if_pos rfl)), still.trans (by rw [begun]),
      fun j hj => (pendSash_sash ..).trans ((sash j).trans (if_neg hj)), mem, lanes, fun h => absurd h hbad, fun _ => pend⟩

theorem hingeRelease_waits {s : State} {n : Fin 16} (h : s.releaseDue n.val = false) : exec (.hingeRelease n) s = .next s := by
  rw [exec_hingeRelease, execHingeRelease]
  simp only [h, if_pos]

theorem hingeRelease_late {s : State} {n : Fin 16} {k : Nat} (h : s.releaseDue n.val = true) (hk : (s.site n.val).relPend = some k) :
    exec (.hingeRelease n) s = .next (if k = 3 then s.releaseHalt n.val else s.releaseContinue n.val 2) := by
  rw [exec_hingeRelease, execHingeRelease]
  simp only [h, hk]
  rfl

theorem hingeRelease_decides {s : State} {n : Fin 16} (h : s.releaseDue n.val = true) (hk : (s.site n.val).relPend = none) :
    exec (.hingeRelease n) s = .next
      (if (s.site n.val).img.farPart then
        (s.modSite n.val fun x => { x with arriveSent := true, hingeWait := 0 }).sendToken n.val (s.site n.val).img.parent 0
          (if (s.site n.val).faultDue then 1 else 0)
      else if (s.site n.val).faultDue then s.releaseFault n.val
      else if (s.site n.val).haltDue then s.releaseHalt n.val
      else s.releaseContinue n.val 2) := by
  rw [exec_hingeRelease, execHingeRelease]
  simp only [h, hk]
  rfl

/-- Settles O14: the hinge's copy is the same whether the site continues or halts; a release with a fault pending makes none. -/
theorem hingeCopiesShadowAndCountsCycle : Obligations.HingeCopiesShadowAndCountsCycle := by
  unfold Obligations.HingeCopiesShadowAndCountsCycle
  refine ⟨⟨hinge_row, fun s i h => hinge_waits h, fun s n => ⟨hingeRelease_waits, fun h hk far => ?_, fun h hk near => ⟨fun fault => ?_,
    fun calm halt => ?_, fun calm go => ?_⟩, fun k h hk => hingeRelease_late h hk⟩⟩,
    fun s n left room quiet => releaseContinue_moves quiet left room, fun s n room quiet => releaseHalt_moves quiet room,
    fun s n => releaseFault_moves s n.val⟩
  · rw [hingeRelease_decides h hk, if_pos far]
  · rw [hingeRelease_decides h hk, near, fault]
    rfl
  · rw [hingeRelease_decides h hk, near, calm, halt]
    rfl
  · rw [hingeRelease_decides h hk, near, calm, go]
    rfl

end Sys2Proof.Machine
end

section
set_option Elab.async false
/-! A transom's commit, a patch's retirement and the hinge tokens (R62, R125, R126, R153, R155). -/

namespace Sys2Proof.Machine

theorem exec_transomCommit (n : Fin 16) (s : State) : exec (.transomCommit n) s = execTransomCommit n s := rfl
theorem exec_patchRetire (i : Fin 64) (p : Fin 256) (a : BitVec 9) (s : State) : exec (.patchRetire i p a) s = execPatchRetire i p a s := rfl

/-! ### The commit of a transom -/

section
variable {s : State} {n : Fin 16} {x : Transom} (ht : (s.site n.val).transom = some x) (hc : x.committed = false)

include ht hc

theorem transomCommit_late
    (late : x.hinge < (s.site n.val).cycle.toNat ∨ (x.hinge = (s.site n.val).cycle.toNat ∧ (s.site n.val).hingeBegun = true)) :
    exec (.transomCommit n) s =
      .next ((s.modSite n.val fun y => { y with transom := none }).finish x.ticket Code.ST_TRANSOM_LATE []) := by
  rw [exec_transomCommit, execTransomCommit]
  simp only [ht, hc]
  exact congrArg _ (if_pos late)

theorem transomCommit_inTime
    (early : (s.site n.val).cycle.toNat < x.hinge ∨ (x.hinge = (s.site n.val).cycle.toNat ∧ (s.site n.val).hingeBegun = false)) :
    exec (.transomCommit n) s = .next (s.modSite n.val fun y => { y with transom := some { x with committed := true } }) := by
  have notLate : ¬(x.hinge < (s.site n.val).cycle.toNat ∨ (x.hinge = (s.site n.val).cycle.toNat ∧ (s.site n.val).hingeBegun = true)) := by
    rintro (before | ⟨now, begun⟩)
    · rcases early with after | ⟨here, -⟩ <;> omega
    · rcases early with after | ⟨-, open_⟩
      · omega
      · simp [begun] at open_
  rw [exec_transomCommit, execTransomCommit]
  simp only [ht, hc]
  exact congrArg _ (if_neg notLate)

end

theorem transomCommit_nothing {s : State} {n : Fin 16} (h : ∀ x, (s.site n.val).transom = some x → x.committed = true) :
    exec (.transomCommit n) s = .next s := by
  rw [exec_transomCommit, execTransomCommit]
  dsimp only
  cases ht : (s.site n.val).transom with
  | none => rfl
  | some x => exact congrArg _ (if_pos (h x ht))

/-! ### The retirement of a patch (R153) -/

theorem patchRetire_moves {s : State} {i : Fin 64} {p : Fin 256} {a : BitVec 9} {e : PatchEntry}
    (he : tget none (s.sash i.val).patches (patchSlot (s.sash i.val).patches p.val a.toNat) = some e) (hp : e.pane = p.val)
    (ha : e.addr = a.toNat) :
    exec (.patchRetire i p a) s = .next (s.setSash i.val
      { s.sash i.val with
        istore := tset 0 (s.sash i.val).istore (p.val * 512 + a.toNat) e.word
        istoreErr := terase (s.sash i.val).istoreErr (p.val * 512 + a.toNat)
        patches := tset none (s.sash i.val).patches (patchSlot (s.sash i.val).patches p.val a.toNat) none }) := by
  rw [exec_patchRetire, execPatchRetire]
  simp only [he, hp, ha]
  rfl

theorem patchRetire_nothing {s : State} {i : Fin 64} {p : Fin 256} {a : BitVec 9}
    (h : ∀ e, tget none (s.sash i.val).patches (patchSlot (s.sash i.val).patches p.val a.toNat) = some e → e.pane ≠ p.val ∨ e.addr ≠ a.toNat) :
    exec (.patchRetire i p a) s = .next s := by
  rw [exec_patchRetire, execPatchRetire]
  dsimp only
  cases he : tget none (s.sash i.val).patches (patchSlot (s.sash i.val).patches p.val a.toNat) with
  | none => rfl
  | some e =>
    refine congrArg _ (if_neg ?_)
    rintro ⟨hp, ha⟩
    exact (h e he).elim (absurd hp) (absurd ha)

/-! ### Tokens -/

/-- A token of cycle `h` is one of site `n`'s cycle. -/
def State.tokenOurs (s : State) (n : Nat) (h : BitVec 16) : Prop :=
  (s.site n).state = .running ∧ (s.site n).img.nparts ≠ 0 ∧ h.toNat = (s.site n).cycle.toNat % 65536

theorem tokenOurs_iff (s : State) (n : Nat) (h : BitVec 16) :
    s.tokenOurs n h ↔
      ¬((s.site n).state ≠ .running ∨ (s.site n).img.nparts = 0 ∨ h.toNat ≠ (s.site n).cycle.toNat % 65536) := by
  unfold State.tokenOurs
  tauto

theorem linkSeq_lastToken (s : State) (l : Nat) (q : BitVec 8) : ((s.linkSeq l q).lane l).link.lastToken = (s.lane l).link.lastToken := by
  unfold State.linkSeq
  extract_lets x k gap t
  have kept : (t.lane l).link.lastToken = x.link.lastToken := by
    unfold t
    rw [State.lane_setLane, if_pos rfl]
  split
  · refine Eq.trans ?_ kept
    unfold State.lane
    rw [(pendSash_mem_lanes ..).2]
  · exact kept

section
variable {s : State} {n : Nat} {via : TokenPath} {h : BitVec 16} {k : Nat} {good : Bool} {act bad : State → Nat → State}

theorem token_foreign (ours : ¬s.tokenOurs n h) : s.token n via k h good act bad = s :=
  if_pos (not_not.mp (mt (tokenOurs_iff s n h).mpr ours))

theorem token_chain (ours : s.tokenOurs n h) (p : Nat) :
    s.token n (.chain p) k h good act bad =
      if good then act s p else bad (s.pendFault n (faultOf Code.TF_LINK_POISON 0xFF 0xFF 0 p)) p :=
  if_neg ((tokenOurs_iff s n h).mp ours)

theorem token_lane_good (ours : s.tokenOurs n h) (l : Fin 64) (q : BitVec 8) :
    s.token n (.lane l q) k h true act bad =
      if (s.lane l.val).link.lastToken = some (k, h) then s.linkSeq l.val q
      else act ((s.linkSeq l.val q).modLane l.val fun y => { y with link := { y.link with lastToken := some (k, h), badCopies := 0 } })
        (s.tokenPart n (.lane l q)) := by
  refine (if_neg ((tokenOurs_iff s n h).mp ours)).trans ?_
  simp only [if_true, linkSeq_lastToken]

theorem token_lane_bad (ours : s.tokenOurs n h) (l : Fin 64) (q : BitVec 8) :
    s.token n (.lane l q) k h false act bad =
      if (s.lane l.val).link.lastToken = some (k, h) then s
      else if (s.lane l.val).link.badCopies < 2 then
        s.modLane l.val fun y => { y with link := { y.link with badCopies := y.link.badCopies + 1 } }
      else bad (((s.skipSeq l.val).modLane l.val fun y =>
          { y with link := { y.link with lastToken := some (k, h), badCopies := 0 } }).pendFault n
            (faultOf Code.TF_LINK_POISON l.val 0xFF 0 (s.tokenPart n (.lane l q)))) (s.tokenPart n (.lane l q)) :=
  if_neg ((tokenOurs_iff s n h).mp ours)

/-- A row whose command brings a token does what the token does. -/
theorem exec_token {ins : Instr} (hx : exec ins s = .next (s.token n via k h good act bad)) :
    (¬s.tokenOurs n h → exec ins s = .next s) ∧
    (∀ p, via = .chain p → s.tokenOurs n h →
      exec ins s = .next (if good then act s p else bad (s.pendFault n (faultOf Code.TF_LINK_POISON 0xFF 0xFF 0 p)) p)) ∧
    (∀ (l : Fin 64) (q : BitVec 8), via = .lane l q → s.tokenOurs n h →
      let part := s.tokenPart n via
      let last (s : State) : State := s.modLane l.val fun y => { y with link := { y.link with lastToken := some (k, h), badCopies := 0 } }
      (good = true → exec ins s = .next
        (if (s.lane l.val).link.lastToken = some (k, h) then s.linkSeq l.val q else act (last (s.linkSeq l.val q)) part)) ∧
      (good = false → exec ins s = .next
        (if (s.lane l.val).link.lastToken = some (k, h) then s
         else if (s.lane l.val).link.badCopies < 2 then
           s.modLane l.val fun y => { y with link := { y.link with badCopies := y.link.badCopies + 1 } }
         else bad ((last (s.skipSeq l.val)).pendFault n (faultOf Code.TF_LINK_POISON l.val 0xFF 0 part)) part))) := by
  rw [hx]
  refine ⟨fun foreign => congrArg _ (token_foreign foreign), fun p path ours => ?_, fun l q path ours => ⟨fun g => ?_, fun g => ?_⟩⟩
  · rw [path, token_chain ours]
  · rw [path, g, token_lane_good ours]
  · rw [path, g, token_lane_bad ours]

end

/-- Settles O15: the five tokens take one way, which tells a chain's copy from a lane's three. -/
theorem transomsCommitAndHingeTokensJoin : Obligations.TransomsCommitAndHingeTokensJoin := by
  unfold Obligations.TransomsCommitAndHingeTokensJoin
  refine ⟨⟨fun s n x ht hc => ⟨transomCommit_late ht hc, transomCommit_inTime ht hc⟩, fun s n h => transomCommit_nothing h,
    fun s i p a e => ?_, fun s i p a => patchRetire_nothing⟩, fun s n via h good => ?_⟩
  · intro x he hp ha
    have moved := State.sash_setSash s i.val
      { x with
        istore := tset 0 x.istore (p.val * 512 + a.toNat) e.word
        istoreErr := terase x.istoreErr (p.val * 512 + a.toNat)
        patches := tset none x.patches (patchSlot x.patches p.val a.toNat) none }
    refine ⟨_, patchRetire_moves he hp ha, ?_, ?_, fun j hj => ?_, ?_, ?_, fun j hj => (moved j).trans (if_neg hj)⟩
    · rw [moved, if_pos rfl]
      simp
    · rw [moved, if_pos rfl]
      simp
    · rw [moved, if_pos rfl]
      simp [hj]
    · rw [moved, if_pos rfl]
    · rw [moved, if_pos rfl]
  · intro released waits lost rows r hr
    simp only [rows, List.mem_cons, List.not_mem_nil, or_false] at hr
    obtain rfl | rfl | rfl | rfl | rfl := hr
    · exact exec_token rfl
    · exact exec_token rfl
    · exact exec_token rfl
    · exact exec_token rfl
    · exact exec_token rfl

end Sys2Proof.Machine
end

section
set_option Elab.async false
/-! The DSP instructions over registers (R288 to R290, R292). -/

namespace Sys2Proof.Machine

/-! ### A register instruction that issues -/

theorem dspOp_issuing {s : State} {k c n : Nat} (h : s.issuing k c = some n) (cycles : Nat) (f : CoreRegs → CoreRegs) :
    s.dspOp k c cycles f =
      (s.issued k c n (cycles * (s.core k c).rep) (reps f (s.core k c).rep (s.core k c))).stopAtEnd n := by
  unfold State.dspOp
  rw [h]

theorem dspOp_idle {s : State} {k c : Nat} (h : s.issuing k c = none) (cycles : Nat) (f : CoreRegs → CoreRegs) :
    s.dspOp k c cycles f = s := by
  unfold State.dspOp
  rw [h]

/-! ### Saturation -/

theorem satTo_eq_ite (w : Nat) (x : Int) :
    satTo w x = if x < -(2 ^ (w - 1)) then -(2 ^ (w - 1)) else if 2 ^ (w - 1) - 1 < x then 2 ^ (w - 1) - 1 else x := rfl

theorem satTo_bounds (w : Nat) (x : Int) : -(2 ^ (w - 1)) ≤ satTo w x ∧ satTo w x ≤ 2 ^ (w - 1) - 1 := by
  have one : (1 : Int) ≤ 2 ^ (w - 1) := one_le_pow₀ (by decide)
  rw [satTo_eq_ite]
  split
  · omega
  split <;> omega

theorem satTo_ne_iff (w : Nat) (x : Int) : satTo w x ≠ x ↔ x < -(2 ^ (w - 1)) ∨ 2 ^ (w - 1) - 1 < x := by
  rw [satTo_eq_ite]
  split
  · omega
  split <;> omega

theorem toInt_ofInt_of_fits {w : Nat} (hw : 0 < w) {x : Int} (lo : -(2 ^ (w - 1)) ≤ x) (hi : x ≤ 2 ^ (w - 1) - 1) :
    (BitVec.ofInt w x).toInt = x := by
  obtain ⟨v, rfl⟩ : ∃ v, w = v + 1 := ⟨w - 1, by omega⟩
  rw [BitVec.toInt_ofInt, Int.bmod_eq_of_le]
  · simp only [Nat.add_sub_cancel] at lo hi
    push_cast [pow_succ]
    omega
  · simp only [Nat.add_sub_cancel] at lo hi
    push_cast [pow_succ]
    omega

/-! ### Accumulators -/

theorem tget_foldl_tset {α} [DecidableEq α] (d : α) (v : Nat → α) (t : Tab α) (n i : Nat) :
    tget d ((List.range n).foldl (fun t i => tset d t i (v i)) t) i = if i < n then v i else tget d t i := by
  induction n with
  | zero => rfl
  | succ n ih =>
    rw [List.range_succ, List.foldl_append]
    show tget d (tset d _ n (v n)) i = _
    rw [tget_tset, ih]
    by_cases h : i = n
    · subst h
      simp
    · simp only [h, if_false, show (i < n + 1) = (i < n) from propext (by omega)]

theorem setAccs_accr (r : CoreRegs) (f : Nat → Int) {i : Nat} (hi : i < 16) :
    ((r.setAccs f).accr i).toInt = (if f i < -(2 ^ 39) then -(2 ^ 39) else if 2 ^ 39 - 1 < f i then 2 ^ 39 - 1 else f i) := by
  obtain ⟨lo, up⟩ := satTo_bounds 40 (f i)
  have acc : (r.setAccs f).accr i = BitVec.ofInt 40 (satTo 40 (f i)) :=
    (tget_foldl_tset 0 (fun i => BitVec.ofInt 40 (satTo 40 (f i))) r.acc 16 i).trans (if_pos hi)
  rw [acc, toInt_ofInt_of_fits (by decide) lo up, satTo_eq_ite]

theorem setAccs_ovf (r : CoreRegs) (f : Nat → Int) :
    (r.setAccs f).ovf = true ↔ r.ovf = true ∨ ∃ j, j < 16 ∧ (f j < -(2 ^ 39) ∨ 2 ^ 39 - 1 < f j) := by
  have lost := fun j => satTo_ne_iff 40 (f j)
  simp only [CoreRegs.setAccs, Bool.or_eq_true, List.any_eq_true, List.mem_range, bne_iff_ne, lost]

/-! ### Lanes of a vector register -/

/-- The place-value sum of `n` digits below `B`, from digit `a` on. -/
def digitSum (B : Nat) (d : Nat → Nat) (a n : Nat) : Nat := (List.range' a n).foldr (fun i x => x * B + d i) 0

theorem digitSum_succ (B : Nat) (d : Nat → Nat) (a n : Nat) : digitSum B d a (n + 1) = digitSum B d (a + 1) n * B + d a := rfl

theorem digitSum_lt {B : Nat} {d : Nat → Nat} (hd : ∀ j, d j < B) (a n : Nat) : digitSum B d a n < B ^ n := by
  induction n generalizing a with
  | zero => exact Nat.one_pos
  | succ n ih =>
    have rest : (digitSum B d (a + 1) n + 1) * B ≤ B ^ n * B := Nat.mul_le_mul_right B (ih (a + 1))
    have digit := hd a
    rw [digitSum_succ, pow_succ]
    linarith

theorem digitSum_digit {B : Nat} {d : Nat → Nat} (hd : ∀ j, d j < B) (a : Nat) {n i : Nat} (hi : i < n) :
    digitSum B d a n / B ^ i % B = d (a + i) := by
  induction n generalizing a i with
  | zero => omega
  | succ n ih =>
    have pos : 0 < B := Nat.zero_lt_of_lt (hd 0)
    rw [digitSum_succ]
    cases i with
    | zero => simp [Nat.mod_eq_of_lt (hd a)]
    | succ i =>
      have up : (digitSum B d (a + 1) n * B + d a) / B = digitSum B d (a + 1) n := by
        rw [Nat.add_comm, Nat.add_mul_div_right _ _ pos, Nat.div_eq_of_lt (hd a), Nat.zero_add]
      rw [pow_succ', ← Nat.div_div_eq_div_mul, up, ih (a + 1) (by omega)]
      congr 1
      omega

theorem vpack_eq (f : Nat → Int) : vpack f = BitVec.ofNat 256 (digitSum 65536 (fun i => (BitVec.ofInt 16 (f i)).toNat) 0 16) := by
  unfold vpack digitSum
  rw [List.range_eq_range']

theorem sext_toNat_16 (x : BitVec 16) : sext x.toNat 16 = x.toInt := by
  simp only [sext, BitVec.toInt_eq_toNat_cond]
  have := x.isLt
  split <;> split <;> omega

theorem vlane_vpack (f : Nat → Int) {i : Nat} (hi : i < 16) : vlane (vpack f) i = (BitVec.ofInt 16 (f i)).toInt := by
  have digits : ∀ j, (BitVec.ofInt 16 (f j)).toNat < 65536 := fun j => (BitVec.ofInt 16 (f j)).isLt
  have digit := digitSum_digit digits 0 hi
  have fits := digitSum_lt digits 0 16
  have lane : bits (vpack f).toNat (16 * i) 16 = (BitVec.ofInt 16 (f i)).toNat := by
    rw [vpack_eq, BitVec.toNat_ofNat, Nat.mod_eq_of_lt (by simpa using fits), bits, Nat.shiftRight_eq_div_pow, pow_mul]
    simpa using digit
  rw [vlane, lane, sext_toNat_16]

theorem vlane_bounds (x : BitVec 256) (i : Nat) : -32768 ≤ vlane x i ∧ vlane x i ≤ 32767 := by
  have := Nat.mod_lt (bits x.toNat (16 * i) 16) (show 0 < 2 ^ 16 by decide)
  simp only [vlane, sext]
  split <;> omega

theorem satTo_16 (x : Int) : (BitVec.ofInt 16 (satTo 16 x)).toInt = max (-32768) (min 32767 x) := by
  obtain ⟨lo, up⟩ := satTo_bounds 16 x
  rw [toInt_ofInt_of_fits (by decide) lo up, satTo_eq_ite]
  split
  · omega
  split <;> omega

theorem ediv_pow_bounds {x : Int} (lo : -32768 ≤ x) (hi : x ≤ 32767) (n : Nat) : -32768 ≤ x / 2 ^ n ∧ x / 2 ^ n ≤ 32767 := by
  have one : (1 : Int) ≤ 2 ^ n := one_le_pow₀ (by decide)
  constructor
  · exact Int.le_ediv_of_mul_le (by omega) (by nlinarith)
  · rcases Int.lt_or_le x 0 with neg | pos
    · have := Int.ediv_neg_of_neg_of_pos neg (show (0 : Int) < 2 ^ n by omega)
      omega
    · exact (Int.ediv_le_self _ pos).trans hi

theorem narrow_eq_ediv {m : Nat} (hm : 1 ≤ m) (a : Int) : narrow m a = (a + 2 ^ (m - 1)) / 2 ^ m := by
  obtain ⟨j, rfl⟩ : ∃ j, m = j + 1 := ⟨m - 1, by omega⟩
  have half : 2 * a + (2 ^ (j + 1) : Int) = 2 * (a + 2 ^ j) := by rw [pow_succ]; ring
  have pos : (0 : Int) ≤ 2 * 2 ^ (j + 1) := by positivity
  rw [narrow, if_neg (by omega), roundHalfUp]
  push_cast
  rw [Int.fdiv_eq_ediv_of_nonneg _ pos, half, Int.mul_ediv_mul_of_pos _ _ (by decide)]

/-- Settles O41: a register instruction repeats its operation, and the operation is R290's. -/
theorem dspInstructionsOnRegisters : Obligations.DspInstructionsOnRegisters := by
  unfold Obligations.DspInstructionsOnRegisters
  refine ⟨fun s k c n h => ?_, fun s k c h => ⟨fun x y v g m e w q cmd hc => ?_, fun op d a b => ?_, fun op d a b => ?_⟩,
    fun r f i hi => ⟨setAccs_accr r f hi, setAccs_ovf r f, rfl, rfl, rfl, rfl⟩, fun m a hm => narrow_eq_ediv hm a, fun a => rfl,
    fun a b f i hi => ⟨?_, ?_, fun fits => ⟨?_, ?_⟩, rfl, rfl, rfl⟩,
    fun r d a b f => ⟨?_, rfl, rfl, ?_, rfl, rfl, rfl, rfl, rfl, fun small => ⟨?_, ?_, ?_⟩, rfl⟩⟩
  · intro r row
    refine ⟨fun x y => ⟨congrArg _ (dspOp_issuing h _ _), congrArg _ (dspOp_issuing h _ _), congrArg _ (dspOp_issuing h _ _),
        congrArg _ (dspOp_issuing h _ _)⟩, fun v m => congrArg _ (dspOp_issuing h _ _),
      fun op d a b => congrArg _ (dspOp_issuing (s := { s with freeCtr := s.freeCtr + 2 }) h _ _),
      fun op d a b => congrArg _ (dspOp_issuing (s := { s with freeCtr := s.freeCtr + 1 }) h _ _),
      fun g b => ⟨congrArg _ (dspOp_issuing h _ _), congrArg _ (dspOp_issuing h _ _), congrArg _ (dspOp_issuing h _ _)⟩, fun d => ?_⟩
    have last : (d.val < 15) = (d.val + 1 < 16) := propext (by omega)
    simp only [row, last]
    exact congrArg _ (dspOp_issuing h _ _)
  · simp only [List.mem_cons, List.not_mem_nil, or_false] at hc
    obtain rfl | rfl | rfl | rfl | rfl | rfl | rfl := hc
    all_goals exact congrArg _ (dspOp_idle h _ _)
  · exact congrArg _ (dspOp_idle (s := { s with freeCtr := s.freeCtr + 2 }) h _ _)
  · exact congrArg _ (dspOp_idle (s := { s with freeCtr := s.freeCtr + 1 }) h _ _)
  · rw [vecAlu, vlane_vpack _ hi, satTo_16]
  · rw [vecAlu, vlane_vpack _ hi, satTo_16]
  · rw [vecAlu, vlane_vpack _ hi, if_pos fits]
  · obtain ⟨lo, up⟩ := vlane_bounds a i
    obtain ⟨lo', up'⟩ := ediv_pow_bounds lo up (vamount b i)
    rw [vecAlu, vlane_vpack _ hi, if_pos fits, toInt_ofInt_of_fits (by decide) lo' up']
  · simp [CoreRegs.scalAlu, CoreRegs.zn, CoreRegs.sreg, CoreRegs.setS]
  · simp [CoreRegs.scalAlu, CoreRegs.zn, CoreRegs.sreg, CoreRegs.setS]
  · simp [CoreRegs.scalAlu, CoreRegs.sreg, CoreRegs.setS, scalShift, small]
  · simp [CoreRegs.scalAlu, CoreRegs.sreg, CoreRegs.setS, scalShift, small]
  · simp [CoreRegs.scalAlu, CoreRegs.sreg, CoreRegs.setS, scalShift, small]

end Sys2Proof.Machine
end

section
set_option Elab.async false
/-! DSP loads, stores and control flow (R289, R291, R292, R307). -/

namespace Sys2Proof.Machine

theorem exec_dspBranch (k : Fin 12) (c : Fin 8) (op : FlowOp) (to_ : BitVec 11) (s : State) :
    exec (.dspBranch k c op to_) s = execDspBranch k c op to_ s := rfl
theorem exec_dspRep (k : Fin 12) (c : Fin 8) (m : Nat) (s : State) : exec (.dspRep k c m) s = execDspRep k c m s := rfl

theorem dspMem_issuing {s : State} {k c n : Nat} (h : s.issuing k c = some n) (w g : Nat) (d : Int)
    (act : State → Nat → CoreRegs → CoreRegs × Bool × State) :
    s.dspMem k c w g d act = s.dspMemReps k c n w g d act (s.core k c).rep (s.core k c) := by
  unfold State.dspMem
  rw [h]

theorem dspMem_idle {s : State} {k c : Nat} (h : s.issuing k c = none) (w g : Nat) (d : Int)
    (act : State → Nat → CoreRegs → CoreRegs × Bool × State) : s.dspMem k c w g d act = s := by
  unfold State.dspMem
  rw [h]

/-! ### The accesses of a REP -/

section
variable (s : State) (k c n w g m : Nat) (d : Int) (act : State → Nat → CoreRegs → CoreRegs × Bool × State) (r : CoreRegs)

theorem dspMemReps_badAddress (h : r.genOk g w d = false) :
    s.dspMemReps k c n w g d act (m + 1) r = s.faultTask n Code.TF_JOB_FAULT r.pc.toNat (tget 0 r.a g).toNat := by
  unfold State.dspMemReps
  exact if_pos h

theorem dspMemReps_access (h : r.genOk g w d = true) :
    let q := act s (coreAddr k c (tget 0 r.a g).toNat) r
    s.dspMemReps k c n w g d act (m + 1) r =
      if q.2.1 then q.2.2.faultTask n Code.DI_POISON_READ r.pc.toNat (coreAddr k c (tget 0 r.a g).toNat)
      else q.2.2.dspMemReps k c n w g d act m { q.1 with a := tset 0 q.1.a g (r.genNext g d) } := by
  intro q
  conv_lhs => unfold State.dspMemReps
  refine (if_neg (by simp [h])).trans ?_
  obtain ⟨p, hp⟩ : ∃ p, act s (coreAddr k c (tget 0 r.a g).toNat) r = p := ⟨_, rfl⟩
  simp only [q, hp]
  obtain ⟨x, bad, t⟩ := p
  cases bad with
  | true => rfl
  | false => rfl

end

/-! ### Branches and REP -/

theorem CoreRegs.flow_eq (r : CoreRegs) (op : FlowOp) (to_ open_ : BitVec 11) :
    r.flow op to_ open_ =
      { r with
        pc := if op = .ret then r.ret.headD open_ else to_
        ret := if op = .call then (r.pc + 1) :: r.ret else if op = .ret then r.ret.tail else r.ret } := by
  obtain ⟨l, hl⟩ : ∃ l, r.ret = l := ⟨_, rfl⟩
  cases op with
  | ret => cases l with
    | nil => simp [CoreRegs.flow, hl]
    | cons a l => simp [CoreRegs.flow, hl]
  | call => rfl
  | _ => rfl

section
variable {s : State} {k : Fin 12} {c : Fin 8} {n : Nat} (h : s.issuing k.val c.val = some n)

include h

theorem dspBranch_goes {op : FlowOp} (to_ : BitVec 11) (taken : (s.core k.val c.val).taken op = true) :
    exec (.dspBranch k c op to_) s =
      .next (({ s with freeCtr := s.freeCtr + 1 }.setCore k.val c.val
        { s.core k.val c.val with
          pc := if op = FlowOp.ret then (s.core k.val c.val).ret.headD ((Config.freeWord s.freeCtr).setWidth 11) else to_
          ret := if op = FlowOp.call then ((s.core k.val c.val).pc + 1) :: (s.core k.val c.val).ret
            else if op = FlowOp.ret then (s.core k.val c.val).ret.tail else (s.core k.val c.val).ret
          rep := 1 }).modTask n fun t => { t with used := t.used + 2 }) := by
  rw [exec_dspBranch, execDspBranch]
  simp only [h, taken, CoreRegs.flow_eq]
  rfl

theorem dspBranch_stays {op : FlowOp} (to_ : BitVec 11) (taken : (s.core k.val c.val).taken op = false) :
    exec (.dspBranch k c op to_) s = .next (s.issued k.val c.val n 1 (s.core k.val c.val)) := by
  rw [exec_dspBranch, execDspBranch]
  simp only [h, taken]
  rfl

theorem dspRep_counts {m : Nat} (lo : 1 ≤ m) (hi : m ≤ 65536) :
    exec (.dspRep k c m) s =
      .next ((s.setCore k.val c.val { s.core k.val c.val with pc := (s.core k.val c.val).pc + 1, rep := m }).modTask n
        fun t => { t with used := t.used + 1 }) := by
  rw [exec_dspRep, execDspRep]
  simp only [h]
  exact congrArg _ (if_neg (by omega))

theorem dspRep_nothing {m : Nat} (out : m = 0 ∨ 65536 < m) : exec (.dspRep k c m) s = .next s := by
  rw [exec_dspRep, execDspRep]
  simp only [h]
  exact congrArg _ (if_pos out)

end

theorem dspBranch_idle {s : State} {k : Fin 12} {c : Fin 8} (h : s.issuing k.val c.val = none) (op : FlowOp) (to_ : BitVec 11) :
    exec (.dspBranch k c op to_) s = .next s := by
  rw [exec_dspBranch, execDspBranch, h]

theorem dspRep_idle {s : State} {k : Fin 12} {c : Fin 8} (h : s.issuing k.val c.val = none) (m : Nat) :
    exec (.dspRep k c m) s = .next s := by
  rw [exec_dspRep, execDspRep, h]

/-- Settles O42: the accesses of a REP follow one another, and a branch is taken by its flags. -/
theorem dspMemoryAndFlow : Obligations.DspMemoryAndFlow := by
  unfold Obligations.DspMemoryAndFlow
  refine ⟨fun s k c g v e d => ?_, fun s k c n w g m d act r => ?_, fun r g d _ => ⟨fun linear => if_pos linear, fun ring => if_neg ring⟩,
    fun s k c n op to_ h => ?_, fun s k c n m h => ⟨dspRep_counts h, dspRep_nothing h⟩⟩
  · intro r vld vst sld sst
    refine ⟨fun n h => ⟨congrArg _ (dspMem_issuing h 32 g.val d vld), congrArg _ (dspMem_issuing h 32 g.val d vst),
      congrArg _ (dspMem_issuing h 4 g.val d sld), congrArg _ (dspMem_issuing h 4 g.val d sst)⟩, fun h op to_ m cmd hc => ?_⟩
    simp only [List.mem_cons, List.not_mem_nil, or_false] at hc
    obtain rfl | rfl | rfl | rfl | rfl | rfl := hc
    · exact congrArg _ (dspMem_idle h 32 g.val d vld)
    · exact congrArg _ (dspMem_idle h 32 g.val d vst)
    · exact congrArg _ (dspMem_idle h 4 g.val d sld)
    · exact congrArg _ (dspMem_idle h 4 g.val d sst)
    · exact dspBranch_idle h op to_
    · exact dspRep_idle h m
  · intro a q
    refine ⟨rfl, dspMemReps_badAddress s k c n w g m d act r, fun ok bad => ?_, fun ok good => ?_⟩
    · exact (dspMemReps_access s k c n w g m d act r ok).trans (if_pos bad)
    · exact (dspMemReps_access s k c n w g m d act r ok).trans (if_neg (by rw [good]; exact Bool.false_ne_true))
  · intro r taken open_ q
    refine ⟨fun go => dspBranch_goes h to_ ?_, fun stay => dspBranch_stays h to_ ?_⟩
    · cases op <;> exact go
    · cases op <;> exact stay

end Sys2Proof.Machine
end

section
set_option Elab.async false
/-! Region fills, automatic remaps and the scrubber (R180, R347, R352 to R354). -/

namespace Sys2Proof.Machine

theorem exec_regionFillDone (r : BitVec 22) (s : State) : exec (.regionFillDone r) s = execRegionFillDone r s := rfl
theorem exec_autoRemap (m : BitVec 16) (a : BitVec 64) (s : State) : exec (.autoRemap m a) s = execAutoRemap m a s := rfl
theorem exec_scrubLine (m : BitVec 16) (l : Nat) (s : State) : exec (.scrubLine m l) s = execScrubLine m l s := rfl
theorem exec_scrubLapEnd (m : BitVec 16) (s : State) : exec (.scrubLapEnd m) s = execScrubLapEnd m s := rfl
theorem exec_lapCounterSample (m : BitVec 16) (s : State) : exec (.lapCounterSample m) s = execLapCounterSample m s := rfl

theorem modMemSt_memSt (s : State) (m : Nat) (f : MemStatus → MemStatus) : (s.modMemSt m f).memSt m = f (s.memSt m) := by
  unfold State.modMemSt State.setMemSt State.memSt
  simp

/-! ### The end of a region's fill -/

theorem isDdr_region (r : BitVec 22) : isDdr (r.toNat * 65536) = true := by
  have := r.isLt
  exact decide_eq_true (show r.toNat * 65536 < 0x4000000000 by omega)

theorem ensureRegion_valid (u : State) (r : BitVec 22) : tget false (u.ensureRegion (r.toNat * 65536)).mem.regions r.toNat = true := by
  have here : r.toNat * 65536 / 65536 = r.toNat := Nat.mul_div_cancel _ (by decide)
  unfold State.ensureRegion
  rw [isDdr_region, here]
  cases old : tget false u.mem.regions r.toNat with
  | true => exact old
  | false =>
    show tget false (tset false u.mem.regions r.toNat true) r.toNat = true
    simp

/-! ### Automatic remaps -/

section
variable {s : State} {mem : BitVec 16} {addr : BitVec 64}

/-- R352: the conditions under which an address of a memory gets a spare of itself. -/
def State.remapDue (s : State) (m a : Nat) : Prop :=
  memIdOk m = true ∧ getBit (s.mctl m) 30 = true ∧ (s.dom (memDomain m)).state = .on ∧
    (s.memSt m).entryOf (s.remapIndex m a) = none ∧
    bits (s.mctl m).toNat 24 4 ≤ (match (s.memSt m).ceHist.find? (·.1 == a) with | some e => e.2 | none => 0)

theorem autoRemap_notDue (h : ¬s.remapDue mem.toNat addr.toNat) : exec (.autoRemap mem addr) s = .next s := by
  rw [exec_autoRemap, execAutoRemap]
  refine congrArg _ (if_pos ?_)
  by_contra hn
  simp only [not_or, Bool.not_eq_false, not_lt, ne_eq, not_not, Option.not_isSome_iff_eq_none] at hn
  obtain ⟨ok, on, hits, dom, none⟩ := hn
  exact h ⟨ok, on, dom, none, hits⟩

theorem autoRemap_due (h : s.remapDue mem.toNat addr.toNat) :
    exec (.autoRemap mem addr) s = .next
      (match (s.memSt mem.toNat).freeEntry mem.toNat with
       | some e => (s.remapInto mem.toNat addr.toNat e).postPolicy 1 mem.toNat addr.toNat
       | none =>
         if (s.memSt mem.toNat).remapFull then s
         else (s.modMemSt mem.toNat fun t => { t with remapFull := true }).postMemory Code.DI_REMAP_FULL mem.toNat addr.toNat false) := by
  obtain ⟨ok, on, dom, none, hits⟩ := h
  rw [exec_autoRemap, execAutoRemap]
  refine congrArg _ (if_neg ?_)
  simp only [not_or, Bool.not_eq_false, not_lt, ne_eq, not_not, Option.not_isSome_iff_eq_none]
  exact ⟨ok, on, hits, dom, none⟩

end

/-! ### The scrubber -/

section
variable {s : State} {mem : BitVec 16} {line : Nat}

/-- R353: the scrubber of a memory may take a step. -/
def State.scrubRuns (s : State) (m : Nat) : Prop :=
  memIdOk m = true ∧ getBit (s.mctl m) 31 = true ∧ (s.dom (memDomain m)).state = .on ∧ s.scrubPort m = true

theorem scrubLine_eq :
    exec (.scrubLine mem line) s = .next
      (if memIdOk mem.toNat = false ∨ getBit (s.mctl mem.toNat) 31 = false ∨ (s.dom (memDomain mem.toNat)).state ≠ .on ∨
          s.scrubPort mem.toNat = false then s
       else if memKind mem.toNat = 3 then
         (if (s.ddr (memIndex mem.toNat)).trained = true ∧ 64 * line < (s.ddr (memIndex mem.toNat)).cap then
            (s.scrubRewrite mem.toNat).scrubWords mem.toNat (s.ddrLine (memIndex mem.toNat) line / 8) 8
          else s)
       else if line < memLines mem.toNat then (s.scrubRewrite mem.toNat).scrubWords mem.toNat (memLine mem.toNat line / 8) 4
       else s) := by
  obtain ⟨f, hf⟩ : ∃ f, execScrubLine = f := ⟨_, rfl⟩
  rw [exec_scrubLine, hf]
  delta execScrubLine at hf
  rw [← hf]

theorem scrubRuns_iff (s : State) (m : Nat) :
    s.scrubRuns m ↔
      ¬(memIdOk m = false ∨ getBit (s.mctl m) 31 = false ∨ (s.dom (memDomain m)).state ≠ .on ∨ s.scrubPort m = false) := by
  simp only [State.scrubRuns, not_or, Bool.not_eq_false, ne_eq, not_not]

theorem scrubLine_waits
    (h : ¬(s.scrubRuns mem.toNat ∧ ((memKind mem.toNat ≠ 3 ∧ line < memLines mem.toNat) ∨
      (memKind mem.toNat = 3 ∧ (s.ddr (memIndex mem.toNat)).trained = true ∧ 64 * line < (s.ddr (memIndex mem.toNat)).cap)))) :
    exec (.scrubLine mem line) s = .next s := by
  rw [scrubLine_eq]
  refine congrArg _ ?_
  by_cases runs : s.scrubRuns mem.toNat
  · rw [if_neg ((scrubRuns_iff s _).mp runs)]
    by_cases kind : memKind mem.toNat = 3
    · rw [if_pos kind]
      exact if_neg fun ddr => h ⟨runs, Or.inr ⟨kind, ddr⟩⟩
    · rw [if_neg kind]
      exact if_neg fun chip => h ⟨runs, Or.inl ⟨kind, chip⟩⟩
  · exact if_pos (not_not.mp (mt (scrubRuns_iff s _).mpr runs))

theorem scrubLine_chip (runs : s.scrubRuns mem.toNat) (kind : memKind mem.toNat ≠ 3) (low : line < memLines mem.toNat) :
    exec (.scrubLine mem line) s = .next ((s.scrubRewrite mem.toNat).scrubWords mem.toNat (memLine mem.toNat line / 8) 4) := by
  rw [scrubLine_eq, if_neg ((scrubRuns_iff s _).mp runs), if_neg kind, if_pos low]

theorem scrubLine_ddr (runs : s.scrubRuns mem.toNat) (kind : memKind mem.toNat = 3)
    (low : (s.ddr (memIndex mem.toNat)).trained = true ∧ 64 * line < (s.ddr (memIndex mem.toNat)).cap) :
    exec (.scrubLine mem line) s =
      .next ((s.scrubRewrite mem.toNat).scrubWords mem.toNat (s.ddrLine (memIndex mem.toNat) line / 8) 8) := by
  rw [scrubLine_eq, if_neg ((scrubRuns_iff s _).mp runs), if_pos kind, if_pos low]

end

theorem scrubWord_clean {s : State} {m w : Nat} (h : s.mem.wordValid w = false ∨ s.mem.wordCheck w = none) : s.scrubWord m w = s := by
  unfold State.scrubWord
  split
  · next valid => rw [h.resolve_left (by simp [valid])]
  · rfl

theorem scrubWords_clean {s : State} {m w n : Nat} (h : ∀ i, i < n → s.mem.wordValid (w + i) = false ∨ s.mem.wordCheck (w + i) = none) :
    s.scrubWords m w n = s := by
  induction n generalizing w with
  | zero => rfl
  | succ n ih =>
    show (s.scrubWord m w).scrubWords m (w + 1) n = s
    rw [scrubWord_clean (m := m) (w := w) (h 0 (by omega))]
    refine ih fun i hi => ?_
    have next := h (i + 1) (by omega)
    rwa [← Nat.add_assoc, Nat.add_right_comm] at next

theorem scrubWord_correctable {s : State} {m w : Nat} (valid : s.mem.wordValid w = true) (check : s.mem.wordCheck w = some .correctable) :
    w ∈ ((s.scrubWord m w).memSt m).rewrite ∧ ((s.scrubWord m w).memSt m).corrected = satInc (s.memSt m).corrected ∧
      (s.scrubWord m w).mem.bytes = s.mem.bytes ∧ (s.scrubWord m w).mem.check = s.mem.check := by
  have word : s.scrubWord m w =
      (s.noteCe m (8 * w)).modMemSt m fun t => { t with rewrite := if t.rewrite.contains w then t.rewrite else t.rewrite ++ [w] } := by
    unfold State.scrubWord
    rw [if_pos valid, check]
  have counted : ((s.noteCe m (8 * w)).memSt m).corrected = satInc (s.memSt m).corrected := by
    unfold State.noteCe
    rw [modMemSt_memSt]
  rw [word, modMemSt_memSt]
  refine ⟨?_, counted, rfl, rfl⟩
  dsimp only
  split
  · next h => simpa using h
  · simp

theorem scrubWord_lost {s : State} {m w : Nat} (valid : s.mem.wordValid w = true) {c : WordCheck}
    (hc : c = .uncorrectable ∨ c = .poison) (check : s.mem.wordCheck w = some c) :
    s.scrubWord m w = s.notePoison m (8 * w) (c == .poison) := by
  unfold State.scrubWord
  rw [if_pos valid, check]
  obtain rfl | rfl := hc <;> rfl

theorem tget_foldl_clear (ws : List Nat) (t : Tab (Option WordCheck)) (w : Nat) :
    tget none (ws.foldl (fun t w => tset none t w none) t) w = if w ∈ ws then none else tget none t w := by
  induction ws generalizing t with
  | nil => simp
  | cons v ws ih =>
    rw [List.foldl_cons, ih, tget_tset]
    by_cases hw : w = v
    · simp [hw]
    · simp [hw]

theorem scrubRewrite_wordCheck (s : State) (m w : Nat) :
    (s.scrubRewrite m).mem.wordCheck w =
      if w ∈ (s.memSt m).rewrite.filter (fun w => s.mem.wordValid w && s.mem.wordCheck w == some .correctable) then none
      else s.mem.wordCheck w :=
  tget_foldl_clear _ s.mem.check w

/-! ### The laps -/

theorem mctl_lapCarry (s : State) (m n : Nat) : (s.modMemSt m fun t => { t with lapCarry := n }).mctl m = s.mctl m := by
  unfold State.mctl
  rw [modMemSt_memSt]

/-- R354: a lap of `ms` milliseconds is over the limit for the first time. -/
def State.lapOver (s : State) (m ms : Nat) : Prop :=
  bits (s.mctl m).toNat 0 16 ≠ 0 ∧ bits (s.mctl m).toNat 0 16 < ms ∧ (s.memSt m).starved = false

theorem lapCheck_over {s : State} {m ms : Nat} (h : s.lapOver m ms) :
    s.lapCheck m ms = (s.modMemSt m fun t => { t with starved := true }).postMemory Code.DI_SCRUB_STARVED m 0 false := if_pos h
theorem lapCheck_within {s : State} {m ms : Nat} (h : ¬s.lapOver m ms) : s.lapCheck m ms = s := if_neg h

theorem lapOver_lapCarry (s : State) (m ms n : Nat) : (s.modMemSt m fun t => { t with lapCarry := n }).lapOver m ms ↔ s.lapOver m ms := by
  unfold State.lapOver
  rw [mctl_lapCarry, modMemSt_memSt]

section
variable {s : State} {mem : BitVec 16}

theorem lap_off (h : memIdOk mem.toNat = false ∨ getBit (s.mctl mem.toNat) 31 = false) :
    exec (.scrubLapEnd mem) s = .next s ∧ exec (.lapCounterSample mem) s = .next s := by
  rw [exec_scrubLapEnd, execScrubLapEnd, exec_lapCounterSample, execLapCounterSample]
  exact ⟨congrArg _ (if_pos h), congrArg _ (if_pos h)⟩

theorem lap_on (ok : memIdOk mem.toNat = true) (on : getBit (s.mctl mem.toNat) 31 = true) :
    exec (.scrubLapEnd mem) s = .next ((s.lapCheck mem.toNat (s.lapMs mem.toNat)).modMemSt mem.toNat fun t =>
        { t with laps := satInc t.laps, lastLapMs := BitVec.ofNat 32 (s.lapMs mem.toNat), lapFrom := s.power.ps, lapCarry := 0,
                 starved := false }) ∧
      exec (.lapCounterSample mem) s = .next ((s.modMemSt mem.toNat fun t => { t with lapCarry := s.lapMs mem.toNat }).lapCheck
        mem.toNat (s.lapMs mem.toNat)) := by
  have on' : ¬(memIdOk mem.toNat = false ∨ getBit (s.mctl mem.toNat) 31 = false) := by simp [ok, on]
  rw [exec_scrubLapEnd, execScrubLapEnd, exec_lapCounterSample, execLapCounterSample]
  exact ⟨congrArg _ (if_neg on'), congrArg _ (if_neg on')⟩

end

/-- Settles O47: the scrubber reads word by word, and a lap's end and a sample check the lap alike. -/
theorem memoryEventsFillRemapAndScrub : Obligations.MemoryEventsFillRemapAndScrub := by
  unfold Obligations.MemoryEventsFillRemapAndScrub
  refine ⟨fun s r => ⟨fun h => ?_, fun h => ⟨?_, ensureRegion_valid _ r⟩⟩, fun s mem addr => ?_,
    fun s mem line => ⟨scrubLine_waits, fun runs chip => scrubLine_chip runs chip.1 chip.2, fun runs ddr => scrubLine_ddr runs ddr.1 ddr.2⟩,
    fun s m w n => ⟨scrubWords_clean, rfl, scrubWord_correctable, fun valid c hc => scrubWord_lost valid hc, ?_, rfl, ?_, ?_⟩,
    fun s mem => ⟨lap_off, fun ok on => ?_⟩⟩
  · rw [exec_regionFillDone, execRegionFillDone]
    exact congrArg _ (if_pos h)
  · rw [exec_regionFillDone, execRegionFillDone]
    exact congrArg _ (if_neg (not_not.mpr h))
  · intro m a hits due
    refine ⟨autoRemap_notDue, fun h => ⟨fun e he => ?_, fun he => ⟨fun full => ?_, fun room => ?_⟩⟩⟩
    · rw [autoRemap_due h, he]
    · rw [autoRemap_due h, he, full]
      rfl
    · rw [autoRemap_due h, he, room]
      rfl
  · exact congrArg MemStatus.rewrite (modMemSt_memSt _ m _)
  · intro hw valid check
    rw [scrubRewrite_wordCheck]
    exact if_pos (List.mem_filter.mpr ⟨hw, by simp [valid, check]⟩)
  · intro hw
    rw [scrubRewrite_wordCheck]
    exact if_neg fun h => hw (List.mem_filter.mp h).1
  · obtain ⟨ends, sample⟩ := lap_on ok on
    refine ⟨fun h => ⟨ends.trans ?_, sample.trans ?_⟩, fun h => ⟨ends.trans ?_, sample.trans ?_⟩⟩
    · rw [lapCheck_over h]
    · rw [lapCheck_over ((lapOver_lapCarry s _ _ _).mpr h)]
    · rw [lapCheck_within h]
    · rw [lapCheck_within (mt (lapOver_lapCarry s _ _ _).mp h)]

end Sys2Proof.Machine
end

section
set_option Elab.async false
/-! The servo, sync frames, hop delays and the 1588 client (R402 to R408). -/

namespace Sys2Proof.Machine

theorem exec_timeSyncSend (s : State) : exec .timeSyncSend s = execTimeSyncSend s := rfl
theorem exec_syncLossTimeout (s : State) : exec .syncLossTimeout s = execSyncLossTimeout s := rfl
theorem exec_hopdlyRequest (f : ChainFrame) (rx : BitVec 128) (s : State) :
    exec (.hopdlyRequest f rx) s = execHopdlyRequest f rx s := rfl
theorem exec_hopdlyResponse (f : ChainFrame) (rx : BitVec 128) (s : State) :
    exec (.hopdlyResponse f rx) s = execHopdlyResponse f rx s := rfl
theorem exec_ptpAnnounce (a : PtpAnnounce) (s : State) : exec (.ptpAnnounce a) s = execPtpAnnounce a s := rfl
theorem exec_ptpSync (t rx : Nat) (s : State) : exec (.ptpSync t rx) s = execPtpSync t rx s := rfl
theorem exec_ptpDelayResp (t : Nat) (s : State) : exec (.ptpDelayResp t) s = execPtpDelayResp t s := rfl

/-! ### The servo (R402, R403) -/

/-- A change of the servo's state leaves the device time, the master and the counts of it as they are. -/
theorem setServo_keeps (s : State) (v : Servo) :
    (s.setServo v).time.counter = s.time.counter ∧ (s.setServo v).time.master = s.time.master ∧
      (s.setServo v).time.jumps = s.time.jumps := by
  unfold State.setServo
  split
  · exact ⟨rfl, rfl, rfl⟩
  extract_lets t
  split
  · rw [State.postChain_time]
    exact ⟨rfl, rfl, rfl⟩
  · rw [State.postPolicy_time]
    exact ⟨rfl, rfl, rfl⟩

theorem steer_keeps (s : State) (off : Int) :
    (s.steer off).time.counter = s.time.counter ∧ (s.steer off).time.master = s.time.master ∧
      (s.steer off).time.servo = s.time.servo ∧ (s.steer off).time.goodSyncs = s.time.goodSyncs := by
  unfold State.steer
  split
  · exact ⟨rfl, rfl, rfl, rfl⟩
  · exact ⟨rfl, rfl, rfl, rfl⟩

/-- The unit with a measured offset kept. -/
def State.offsetKept (s : State) (off : Int) : State :=
  { s with time := { s.time with offset := toBits 32 (clampInt (-(2 ^ 31)) (2 ^ 31 - 1) off), syncs := satInc s.time.syncs } }

section
variable {s : State} {off : Int} {m : BitVec 18}

theorem measured_eq : s.measured off m =
    (let u := s.offsetKept off
     if u.time.frozen then u
     else match u.time.servo with
       | .unlocked => ((u.followMaster m).stepTime off).setServo .tracking
       | .tracking =>
         if farOff off then u.setServo .holdover
         else
           let k := if nearOff off then u.time.goodSyncs + 1 else 0
           let u := ({ u with time := { u.time with goodSyncs := k } } : State).steer off
           if 16 ≤ k then u.setServo .locked else u
       | .locked =>
         if farOff off then u.setServo .holdover
         else if wideOff off then (u.steer off).setServo .tracking
         else u.steer off
       | .holdover =>
         if farOff off = false then ((u.followMaster m).steer off).setServo .tracking
         else if u.time.jumpFor = some m then u
         else ({ u with time := { u.time with jumpFor := some m, jumps := satInc u.time.jumps } } : State).postChain
           Code.CH_TIME_JUMP 0 m 0) := rfl

theorem measured_frozen (h : s.time.frozen = true) : s.measured off m = s.offsetKept off := if_pos h

variable (h : s.time.frozen = false)

include h

theorem measured_unlocked (v : s.time.servo = .unlocked) :
    s.measured off m = (((s.offsetKept off).followMaster m).stepTime off).setServo .tracking := by
  rw [measured_eq]
  have frozen : (s.offsetKept off).time.frozen = false := h
  have servo : (s.offsetKept off).time.servo = .unlocked := v
  simp only [frozen, servo, Bool.false_eq_true, if_false]

theorem measured_tracking (v : s.time.servo = .tracking) {k : Nat} (hk : (if nearOff off then s.time.goodSyncs + 1 else 0) = k) :
    s.measured off m =
      if farOff off then (s.offsetKept off).setServo .holdover
      else
        let u := ({ s.offsetKept off with time := { (s.offsetKept off).time with goodSyncs := k } } : State).steer off
        if 16 ≤ k then u.setServo .locked else u := by
  rw [measured_eq]
  have frozen : (s.offsetKept off).time.frozen = false := h
  have servo : (s.offsetKept off).time.servo = .tracking := v
  have good : (s.offsetKept off).time.goodSyncs = s.time.goodSyncs := rfl
  simp only [frozen, servo, good, hk, Bool.false_eq_true, if_false]

theorem measured_locked (v : s.time.servo = .locked) :
    s.measured off m =
      if farOff off then (s.offsetKept off).setServo .holdover
      else if wideOff off then ((s.offsetKept off).steer off).setServo .tracking
      else (s.offsetKept off).steer off := by
  rw [measured_eq]
  have frozen : (s.offsetKept off).time.frozen = false := h
  have servo : (s.offsetKept off).time.servo = .locked := v
  simp only [frozen, servo, Bool.false_eq_true, if_false]

theorem measured_holdover (v : s.time.servo = .holdover) :
    s.measured off m =
      if farOff off = false then (((s.offsetKept off).followMaster m).steer off).setServo .tracking
      else if (s.offsetKept off).time.jumpFor = some m then s.offsetKept off
      else ({ s.offsetKept off with time :=
          { (s.offsetKept off).time with jumpFor := some m, jumps := satInc (s.offsetKept off).time.jumps } } : State).postChain
        Code.CH_TIME_JUMP 0 m 0 := by
  rw [measured_eq]
  have frozen : (s.offsetKept off).time.frozen = false := h
  have servo : (s.offsetKept off).time.servo = .holdover := v
  simp only [frozen, servo, Bool.false_eq_true, if_false]

end

theorem farOff_iff (off : Int) : farOff off = true ↔ off < -65536000 ∨ 65536000 < off := decide_eq_true_iff
theorem wideOff_iff (off : Int) : wideOff off = true ↔ off < -2097152 ∨ 2097152 < off := decide_eq_true_iff
theorem nearOff_iff (off : Int) : nearOff off = true ↔ -262144 ≤ off ∧ off ≤ 262144 := decide_eq_true_iff

/-- R403's table. -/
theorem measured_moves (s : State) (off : Int) (m : BitVec 18) :
    let t := (s.measured off m).time
    let far := off < -65536000 ∨ 65536000 < off
    let wide := off < -2097152 ∨ 2097152 < off
    let near := -262144 ≤ off ∧ off ≤ 262144
    s.time.frozen = false →
      (s.time.servo = .unlocked → t.servo = .tracking ∧ t.counter = ((s.time.counter : Int) - off * 2 ^ 24).toNat ∧ t.master = m) ∧
      (s.time.servo = .tracking → (far → t.servo = .holdover) ∧ (¬far → ¬near → t.servo = .tracking ∧ t.goodSyncs = 0) ∧
        (near → s.time.goodSyncs < 15 → t.servo = .tracking ∧ t.goodSyncs = s.time.goodSyncs + 1) ∧
        (near → 15 ≤ s.time.goodSyncs → t.servo = .locked)) ∧
      (s.time.servo = .locked → (far → t.servo = .holdover) ∧ (¬far → wide → t.servo = .tracking) ∧ (¬wide → t.servo = .locked)) ∧
      (s.time.servo = .holdover → (¬far → t.servo = .tracking ∧ t.counter = s.time.counter ∧ t.master = m) ∧
        (far → t.servo = .holdover ∧ t.jumps = if s.time.jumpFor = some m then s.time.jumps else satInc s.time.jumps)) := by
  intro t far wide near free
  have notFar : ∀ {p : Prop}, ¬far → (farOff off = true → p) := fun h k => absurd ((farOff_iff off).mp k) h
  have nearNotFar : near → ¬far := fun ⟨lo, hi⟩ out => by rcases out with out | out <;> omega
  refine ⟨fun v => ?_, fun v => ⟨fun h => ?_, fun h n => ?_, fun n k => ?_, fun n k => ?_⟩, fun v => ⟨fun h => ?_, fun h w => ?_, fun w => ?_⟩,
    fun v => ⟨fun h => ?_, fun h => ?_⟩⟩
  · have keep := setServo_keeps (((s.offsetKept off).followMaster m).stepTime off) .tracking
    show (s.measured off m).time.servo = _ ∧ (s.measured off m).time.counter = _ ∧ (s.measured off m).time.master = _
    rw [measured_unlocked free v]
    exact ⟨servo_setServo _ _, keep.1, keep.2.1⟩
  · show (s.measured off m).time.servo = _
    rw [measured_tracking free v rfl, if_pos ((farOff_iff off).mpr h)]
    exact servo_setServo _ _
  · have far' : farOff off = false := Bool.eq_false_iff.mpr fun k => h ((farOff_iff off).mp k)
    have near' : nearOff off = false := Bool.eq_false_iff.mpr fun k => n ((nearOff_iff off).mp k)
    have step : s.measured off m =
        ({ s.offsetKept off with time := { (s.offsetKept off).time with goodSyncs := 0 } } : State).steer off := by
      rw [measured_tracking free v (by rw [near', if_neg Bool.false_ne_true]), far']
      rfl
    obtain ⟨-, -, servo, good⟩ := steer_keeps ({ s.offsetKept off with time := { (s.offsetKept off).time with goodSyncs := 0 } } : State) off
    show (s.measured off m).time.servo = _ ∧ (s.measured off m).time.goodSyncs = _
    rw [step, servo, good]
    exact ⟨v, rfl⟩
  · have far' : farOff off = false := Bool.eq_false_iff.mpr fun k => nearNotFar n ((farOff_iff off).mp k)
    have near' : nearOff off = true := (nearOff_iff off).mpr n
    have step : s.measured off m =
        ({ s.offsetKept off with time := { (s.offsetKept off).time with goodSyncs := s.time.goodSyncs + 1 } } : State).steer off := by
      rw [measured_tracking free v (if_pos near'), far']
      exact if_neg (show ¬16 ≤ s.time.goodSyncs + 1 by omega)
    obtain ⟨-, -, servo, good⟩ :=
      steer_keeps ({ s.offsetKept off with time := { (s.offsetKept off).time with goodSyncs := s.time.goodSyncs + 1 } } : State) off
    show (s.measured off m).time.servo = _ ∧ (s.measured off m).time.goodSyncs = _
    rw [step, servo, good]
    exact ⟨v, rfl⟩
  · have far' : farOff off = false := Bool.eq_false_iff.mpr fun k => nearNotFar n ((farOff_iff off).mp k)
    have near' : nearOff off = true := (nearOff_iff off).mpr n
    show (s.measured off m).time.servo = _
    rw [measured_tracking free v (if_pos near'), far']
    exact (congrArg (fun u : State => u.time.servo) (if_pos (by omega : 16 ≤ s.time.goodSyncs + 1))).trans (servo_setServo _ _)
  · show (s.measured off m).time.servo = _
    rw [measured_locked free v, if_pos ((farOff_iff off).mpr h)]
    exact servo_setServo _ _
  · show (s.measured off m).time.servo = _
    rw [measured_locked free v, if_neg (mt (farOff_iff off).mp h), if_pos ((wideOff_iff off).mpr w)]
    exact servo_setServo _ _
  · have h : ¬far := fun out => w (by rcases out with out | out <;> omega)
    show (s.measured off m).time.servo = _
    rw [measured_locked free v, if_neg (mt (farOff_iff off).mp h), if_neg (mt (wideOff_iff off).mp w), (steer_keeps _ _).2.2.1]
    exact v
  · have keep := setServo_keeps (((s.offsetKept off).followMaster m).steer off) .tracking
    have steer := steer_keeps ((s.offsetKept off).followMaster m) off
    have far' : farOff off = false := Bool.eq_false_iff.mpr fun k => h ((farOff_iff off).mp k)
    show (s.measured off m).time.servo = _ ∧ (s.measured off m).time.counter = _ ∧ (s.measured off m).time.master = _
    rw [measured_holdover free v, if_pos far', keep.1, keep.2.1, steer.1, steer.2.1]
    exact ⟨servo_setServo _ _, rfl, rfl⟩
  · have far' : ¬farOff off = false := by rw [(farOff_iff off).mpr h]; decide
    show (s.measured off m).time.servo = _ ∧ (s.measured off m).time.jumps = _
    rw [measured_holdover free v, if_neg far']
    split
    · next same => exact ⟨v, (if_pos same).symm⟩
    · next other =>
      rw [State.postChain_time]
      exact ⟨v, (if_neg other).symm⟩

theorem otherMaster_setServo (s : State) (v : Servo) : (s.setServo v).time.otherMaster = s.time.otherMaster := by
  unfold State.setServo
  split
  · rfl
  extract_lets t
  split
  · rw [State.postChain_time]
  · rw [State.postPolicy_time]

/-! ### TIME frames (R386 to R388, R406) -/

theorem length_leBytes (x n : Nat) : (leBytes x n).length = n := by
  induction n generalizing x with
  | zero => rfl
  | succ n ih => exact congrArg (· + 1) (ih _)

theorem crcOk_modify (f : ChainFrame) (hdr : BitVec 64) (pay : List Byte) : (f.modify hdr pay).crcOk = true ↔ f.crcOk = true := by
  have flip : ∀ c : BitVec 32, ~~~c ≠ c := fun c h => by
    have bit := congrArg (fun x : BitVec 32 => x.getLsbD 0) h
    simp at bit
  have crc : (f.modify hdr pay).crcOk = ((if f.crcOk then frameCrc hdr pay else ~~~frameCrc hdr pay) == frameCrc hdr pay) := rfl
  rw [crc]
  cases f.crcOk with
  | true => simp
  | false => simp [flip]

section
variable {f : ChainFrame} {rx : BitVec 128} {s : State}

theorem timeFrame_eq : exec (.timeFrame f rx) s = .next
    (if f.typ ≠ 0x34 then s
     else if s.chain.forwardRx f && (s.chain.countCrc f).addressed && f.src == (s.chain.countCrc f).ua && f.crcOk then s
     else if s.chain.forwardRx f && (s.chain.countCrc f).head && f.seen then
       ({ s with chain := { s.chain.countCrc f with seenDrops := satInc (s.chain.countCrc f).seenDrops } } : State).afterCrc f
     else if f.len ≠ 4 ∨ f.payload.length ≠ 32 then
       ({ s with chain := if s.chain.forwardRx f then ((s.chain.countCrc f).passOn f).discard else (s.chain.countCrc f).emitBack f } : State).afterCrc f
     else
       let (hop, s') := ({ s with chain := s.chain.countCrc f } : State).ingressHop f
       let (k, s') := s'.drawFree
       let g := ChainFrame.correct f (hop + ((Config.freeWord k).toNat : Int))
       let s' : State := { s' with chain := if s.chain.forwardRx f then s'.chain.passOn g else s'.chain.emitBack g }
       if s.chain.forwardRx f = false then s'.afterCrc f
       else if f.crcOk = false then ({ s' with chain := s'.chain.discard } : State).afterCrc f
       else s'.follow f (stampFine rx) hop) := rfl

theorem countCrc_keeps (c : ChainState) (f : ChainFrame) :
    (c.countCrc f).addressed = c.addressed ∧ (c.countCrc f).ua = c.ua ∧ (c.countCrc f).head = c.head := by
  unfold ChainState.countCrc
  split
  · exact ⟨rfl, rfl, rfl⟩
  split
  · exact ⟨rfl, rfl, rfl⟩
  · exact ⟨rfl, rfl, rfl⟩

/-- The unit's own frame, gone round. -/
def State.ownBack (s : State) (f : ChainFrame) : Prop :=
  s.chain.forwardRx f = true ∧ s.chain.addressed = true ∧ f.src = s.chain.ua ∧ f.crcOk = true

/-- A frame that the head drops. -/
def State.headDrops (s : State) (f : ChainFrame) : Prop := s.chain.forwardRx f = true ∧ s.chain.head = true ∧ f.seen = true

theorem ownBack_iff : s.ownBack f ↔
    (s.chain.forwardRx f && (s.chain.countCrc f).addressed && f.src == (s.chain.countCrc f).ua && f.crcOk) = true := by
  obtain ⟨addressed, ua, -⟩ := countCrc_keeps s.chain f
  simp only [State.ownBack, addressed, ua, Bool.and_eq_true, beq_iff_eq, and_assoc]

theorem headDrops_iff : s.headDrops f ↔ (s.chain.forwardRx f && (s.chain.countCrc f).head && f.seen) = true := by
  obtain ⟨-, -, head⟩ := countCrc_keeps s.chain f
  simp only [State.headDrops, head, Bool.and_eq_true, and_assoc]

theorem timeFrame_nothing (h : f.typ ≠ 0x34 ∨ s.ownBack f) : exec (.timeFrame f rx) s = .next s := by
  rw [timeFrame_eq]
  by_cases typ : f.typ = 0x34
  · rw [if_neg (not_not.mpr typ), if_pos (ownBack_iff.mp (h.resolve_left (not_not.mpr typ)))]
  · rw [if_pos typ]

variable (typ : f.typ = 0x34) (foreign : ¬s.ownBack f)

include typ foreign

theorem timeFrame_dropped (drop : s.headDrops f) :
    exec (.timeFrame f rx) s = .next
      (({ s with chain := { s.chain.countCrc f with seenDrops := satInc (s.chain.countCrc f).seenDrops } } : State).afterCrc f) := by
  rw [timeFrame_eq, if_neg (not_not.mpr typ), if_neg (mt ownBack_iff.mpr foreign), if_pos (headDrops_iff.mp drop)]

variable (goes : ¬s.headDrops f)

include goes

theorem timeFrame_badLength (len : f.len ≠ 4 ∨ f.payload.length ≠ 32) :
    exec (.timeFrame f rx) s = .next
      (({ s with chain :=
          if s.chain.forwardRx f then ((s.chain.countCrc f).passOn f).discard else (s.chain.countCrc f).emitBack f } : State).afterCrc f) := by
  rw [timeFrame_eq, if_neg (not_not.mpr typ), if_neg (mt ownBack_iff.mpr foreign), if_neg (mt headDrops_iff.mpr goes), if_pos len]

/-- The corrected frame goes on, and a good one in the forward direction is measured. -/
theorem timeFrame_corrected (len : f.len = 4) (pay : f.payload.length = 32) :
    let fwd := s.chain.forwardRx f
    let c := s.chain.countCrc f
    let hop : Int := if f.forward then s.time.hop else ((Config.freeWord s.freeCtr).toNat : Int)
    let k := if f.forward then s.freeCtr else s.freeCtr + 1
    let g := ChainFrame.correct f (hop + ((Config.freeWord k).toNat : Int))
    let v : State := { s with chain := if fwd then c.passOn g else c.emitBack g, freeCtr := k + 1 }
    exec (.timeFrame f rx) s = .next
      (if fwd = false then v.afterCrc f
       else if f.crcOk = false then ({ v with chain := v.chain.discard } : State).afterCrc f
       else v.follow f (stampFine rx) hop) := by
  have fits : ¬(f.len ≠ 4 ∨ f.payload.length ≠ 32) := by simp [len, pay]
  intro fwd c hop k g v
  rw [timeFrame_eq, if_neg (not_not.mpr typ), if_neg (mt ownBack_iff.mpr foreign), if_neg (mt headDrops_iff.mpr goes), if_neg fits]
  unfold v g k hop State.ingressHop
  cases f.forward with
  | true => rfl
  | false => rfl

end

/-! ### Masters heard and sync sent (R403, R404, R406) -/

/-- Master `m` is not the one heard before, or the unit is a master itself. -/
def State.twoMasters (s : State) (m : BitVec 18) : Bool :=
  match s.time.otherMaster with
  | some u => u != m
  | none => s.time.role != 0

/-- The unit when it has heard master `m`. -/
def State.heard (s : State) (m : BitVec 18) : State :=
  let h : State := { s with time := { s.time with otherMaster := some m } }
  if s.twoMasters m then h.postChain Code.CH_TWO_MASTERS 0 m 0 else h

theorem hearMaster_eq (s : State) (m : BitVec 18) : s.hearMaster m = s.heard m := rfl

theorem heard_time (s : State) (m : BitVec 18) : (s.heard m).time = { s.time with otherMaster := some m } := by
  unfold State.heard
  extract_lets h
  split
  · exact State.postChain_time ..
  · rfl

section
variable {s : State} {f : ChainFrame} {ing : Nat} {hop : Int}

theorem follow_eq : s.follow f ing hop =
    (let m := tmMaster f
     if s.time.role ≠ 0 then s.heard m
     else if s.time.servo = .unlocked ∨ s.time.servo = .holdover ∨ s.time.master = m then
       (s.heard m).measured ((ing : Int) - ((tmOrigin f : Int) + tmCorr f + hop)) m
     else if s.time.otherMaster = some m ∧ s.time.frozen = false then (s.heard m).setServo .holdover
     else s.heard m) := by
  unfold State.follow
  simp only [hearMaster_eq, heard_time, beq_iff_eq]
  rfl

end

theorem timeSyncSend_sends {s : State} (h : s.time.role ≠ 0 ∧ s.time.servo ≠ .unlocked ∧ s.chain.addressed = true) :
    exec .timeSyncSend s = .next
      { s.send (s.frame 0x34 uaBroadcast s.time.timeSeq.toNat (leBytes s.stamp.toNat 16 ++ leBytes 0 8 ++
          leBytes (s.chain.ua.toNat + s.time.servo.code * 2 ^ 18 + s.time.syncPer * 2 ^ 20) 8)) with
        time := { s.time with timeSeq := s.time.timeSeq + 1 } } := by
  obtain ⟨role, servo, addressed⟩ := h
  rw [exec_timeSyncSend, execTimeSyncSend, if_neg (by simp [role, servo, addressed])]
  rfl

theorem timeSyncSend_silent {s : State} (h : ¬(s.time.role ≠ 0 ∧ s.time.servo ≠ .unlocked ∧ s.chain.addressed = true)) :
    exec .timeSyncSend s = .next s := by
  rw [exec_timeSyncSend, execTimeSyncSend, if_pos]
  simp only [not_and_or, not_not, ne_eq, Bool.not_eq_true] at h
  exact h

theorem syncLossTimeout_moves (s : State) : ∃ t, exec .syncLossTimeout s = .next t ∧ t.time.otherMaster = none ∧
    t.time.servo = if s.time.role ≠ 1 ∧ s.time.frozen = false ∧ (s.time.servo = .tracking ∨ s.time.servo = .locked) then .holdover
      else s.time.servo := by
  refine ⟨_, (exec_syncLossTimeout s).trans rfl, ?_⟩
  dsimp only
  split
  · exact ⟨otherMaster_setServo _ _, servo_setServo _ _⟩
  · exact ⟨rfl, rfl⟩

/-! ### Hop delays (R405) -/

section
variable {s : State} {f : ChainFrame} {rx : BitVec 128}

/-- A hop delay frame, as it is asked and as it is answered. -/
def asksHop (f : ChainFrame) : Prop := f.typ = 0x37 ∧ f.forward = false ∧ bit f.aux 0 = false
def answersHop (f : ChainFrame) : Prop := f.typ = 0x37 ∧ f.forward = true ∧ bit f.aux 0 = true

theorem asksHop_iff : asksHop f ↔ ¬(f.typ ≠ 0x37 ∨ f.forward = true ∨ bit f.aux 0 = true) := by
  simp only [asksHop, not_or, ne_eq, not_not, Bool.not_eq_true]
theorem answersHop_iff : answersHop f ↔ ¬(f.typ ≠ 0x37 ∨ f.forward = false ∨ bit f.aux 0 = false) := by
  simp only [answersHop, not_or, ne_eq, not_not, Bool.not_eq_false]

theorem countCrc_of_valid (h : f.valid = true) (c : ChainState) : c.countCrc f = c := by
  have ok : f.crcOk = true := (Bool.and_eq_true_iff.mp h).2
  exact if_pos ok

theorem hopdlyRequest_other (h : ¬asksHop f) : exec (.hopdlyRequest f rx) s = .next s := by
  rw [exec_hopdlyRequest, execHopdlyRequest]
  exact congrArg _ (if_pos (not_not.mp (mt asksHop_iff.mpr h)))

theorem hopdlyRequest_invalid (h : asksHop f) (bad : f.valid = false) :
    exec (.hopdlyRequest f rx) s = .next (({ s with chain := (s.chain.countCrc f).discard } : State).afterCrc f) := by
  rw [exec_hopdlyRequest, execHopdlyRequest]
  exact congrArg _ ((if_neg (asksHop_iff.mp h)).trans (if_pos bad))

theorem hopdlyRequest_answered (h : asksHop f) (good : f.valid = true) :
    exec (.hopdlyRequest f rx) s = .next { s with chain := { s.chain with
      sent := (true, s.frame 0x37 uaBroadcast (1 + f.aux / 2 % 2048 * 2) (leBytes (stampFine rx) 8 ++ leBytes s.time.fine 8)) :: s.chain.sent
      out := { s.chain.out with healed := s.chain.out.healed + 1 } } } := by
  rw [exec_hopdlyRequest, execHopdlyRequest]
  simp only [countCrc_of_valid good]
  exact congrArg _ ((if_neg (asksHop_iff.mp h)).trans (if_neg (by simp [good])))

theorem hopdlyResponse_other (h : ¬answersHop f) : exec (.hopdlyResponse f rx) s = .next s := by
  rw [exec_hopdlyResponse, execHopdlyResponse]
  exact congrArg _ (if_pos (not_not.mp (mt answersHop_iff.mpr h)))

theorem hopdlyResponse_invalid (h : answersHop f) (bad : f.valid = false) :
    exec (.hopdlyResponse f rx) s = .next (({ s with chain := (s.chain.countCrc f).discard } : State).afterCrc f) := by
  rw [exec_hopdlyResponse, execHopdlyResponse]
  exact congrArg _ ((if_neg (answersHop_iff.mp h)).trans (if_pos bad))

theorem hopdlyResponse_unasked (h : answersHop f) (good : f.valid = true)
    (other : ∀ t1 seq, s.time.hopReq = some (t1, seq) → f.aux / 2 ≠ seq.toNat) : exec (.hopdlyResponse f rx) s = .next s := by
  rw [exec_hopdlyResponse, execHopdlyResponse]
  refine congrArg _ ((if_neg (answersHop_iff.mp h)).trans ((if_neg (by simp [good])).trans ?_))
  cases req : s.time.hopReq with
  | none => rfl
  | some p => exact if_pos (other p.1 p.2 req)

theorem hopdlyResponse_joins (h : answersHop f) (good : f.valid = true) {t1 : Nat} {seq : BitVec 11} (req : s.time.hopReq = some (t1, seq))
    (same : f.aux / 2 = seq.toNat) :
    exec (.hopdlyResponse f rx) s = .next { s with
      chain := { s.chain with inp := { s.chain.inp with healed := s.chain.inp.healed + 1 } }
      time := { s.time with
        hops := (Int.fdiv (((stampFine rx : Int) - t1) - ((fld f.payload 8 8 : Int) - fld f.payload 0 8)) 2 :: s.time.hops).take 16
        hopReq := none } } := by
  rw [exec_hopdlyResponse, execHopdlyResponse]
  simp only [countCrc_of_valid good, req]
  exact congrArg _ ((if_neg (answersHop_iff.mp h)).trans ((if_neg (by simp [good])).trans (if_neg (not_not.mpr same))))

end

/-- The fields of a frame that the unit makes. -/
theorem frame_fields (s : State) {typ : Nat} (ht : typ < 256) (dst : BitVec 18) {aux : Nat} (ha : aux < 4096) {pay : List Byte} {n : Nat}
    (hn : n < 32) (hp : pay.length = 8 * n) :
    let g := s.frame typ dst aux pay
    g.typ = typ ∧ g.len = n ∧ g.aux = aux ∧ g.payload = pay ∧ g.crcOk = true := by
  have len : (pay.length + 7) / 8 = n := by omega
  have hd := dst.isLt
  have hu := s.chain.ua.isLt
  have header : (frameHdr typ n dst s.chain.ua aux).toNat =
      typ + n * 2 ^ 8 + dst.toNat * 2 ^ 16 + s.chain.ua.toNat * 2 ^ 34 + aux * 2 ^ 52 := by
    rw [frameHdr, BitVec.toNat_ofNat, Nat.mod_eq_of_lt ht, Nat.mod_eq_of_lt hn, Nat.mod_eq_of_lt ha]
    exact Nat.mod_eq_of_lt (by omega)
  have frame : s.frame typ dst aux pay =
      { hdr := frameHdr typ n dst s.chain.ua aux, payload := pay, crc := frameCrc (frameHdr typ n dst s.chain.ua aux) pay, forward := true } := by
    simp only [State.frame, len, bytesAt, ← hp, List.drop_zero, List.take_length, Nat.sub_self, List.replicate_zero, List.append_nil]
  dsimp only
  rw [frame]
  refine ⟨?_, ?_, ?_, rfl, beq_self_eq_true _⟩
  · simp only [ChainFrame.typ, header, bits, Nat.shiftRight_eq_div_pow]
    omega
  · simp only [ChainFrame.len, header, bits, Nat.shiftRight_eq_div_pow]
    omega
  · simp only [ChainFrame.aux, header, bits, Nat.shiftRight_eq_div_pow]
    omega

section
variable {s : State}

theorem hopdlyMeasure_unlocked (h : s.chain.inp.lock = false) : exec (.hopdlyMeasure .cynIn) s = .next s :=
  congrArg _ (if_pos h)

theorem hopdlyMeasure_asks (h : s.chain.inp.lock = true) :
    exec (.hopdlyMeasure .cynIn) s = .next { s with
      chain := { s.chain with sent := (false, { s.hopFrame false s.time.hopSeq.toNat 0 0 with forward := false }) :: s.chain.sent }
      time := { s.time with hopReq := some (s.time.fine, s.time.hopSeq), hopSeq := s.time.hopSeq + 1 } } :=
  congrArg _ (if_neg (by simp [h]))

/-! ### The 1588 client (R408) -/

theorem ptpAnnounce_client (a : PtpAnnounce) (h : s.time.role = 2) :
    exec (.ptpAnnounce a) s = .next { s with time := match s.time.ptpBest with
      | none => { s.time with ptpBest := some a }
      | some b =>
        if a.identity = b.identity then { s.time with ptpBest := some a }
        else if PtpAnnounce_rank a < PtpAnnounce_rank b then
          { s.time with ptpBest := some a, jumpFor := none, masterChanges := satInc s.time.masterChanges }
        else s.time } := by
  rw [exec_ptpAnnounce, execPtpAnnounce]
  refine congrArg _ ((if_neg (not_not.mpr h)).trans ?_)
  cases s.time.ptpBest with
  | none => rfl
  | some b =>
    dsimp only
    split
    · rfl
    split
    · rfl
    · rfl

theorem ptpSync_none (t rx : Nat) (h : s.time.role ≠ 2 ∨ s.time.ptpBest = none) : exec (.ptpSync t rx) s = .next s := by
  rw [exec_ptpSync, execPtpSync, if_pos h]

theorem ptpSync_measures (t rx : Nat) (role : s.time.role = 2) (best : s.time.ptpBest ≠ none) :
    let off : Int := (rx : Int) - t - s.time.ptpDelay
    let u := s.measured off s.chain.ua
    let a := if s.time.servo = .unlocked ∧ s.time.frozen = false then ((rx : Int) - off).toNat else rx
    exec (.ptpSync t rx) s = .next { u with time := { u.time with ptpSyncAt := some (t, a), ptpReqAt := some u.time.fine } } := by
  have step : (s.time.servo == .unlocked && !s.time.frozen) = true ↔ (s.time.servo = .unlocked ∧ s.time.frozen = false) := by simp
  rw [exec_ptpSync, execPtpSync, if_neg (by simp [role, best])]
  simp only [step]

theorem ptpDelayResp_other (t4 : Nat) (h : s.time.role ≠ 2) : exec (.ptpDelayResp t4) s = .next s := by
  rw [exec_ptpDelayResp, execPtpDelayResp]
  cases s.time.ptpSyncAt with
  | none => rfl
  | some p => cases s.time.ptpReqAt with
    | none => rfl
    | some q => exact congrArg _ (if_pos h)

theorem ptpDelayResp_unasked (t4 : Nat) (h : s.time.ptpSyncAt = none ∨ s.time.ptpReqAt = none) : exec (.ptpDelayResp t4) s = .next s := by
  rw [exec_ptpDelayResp, execPtpDelayResp]
  cases sync : s.time.ptpSyncAt with
  | none => rfl
  | some p => rw [h.resolve_left (by simp [sync])]

theorem ptpDelayResp_takes {t1 t2 t3 : Nat} (t4 : Nat) (role : s.time.role = 2) (sync : s.time.ptpSyncAt = some (t1, t2))
    (req : s.time.ptpReqAt = some t3) :
    exec (.ptpDelayResp t4) s =
      .next { s with time := { s.time with ptpDelay := Int.fdiv (((t2 : Int) - t1) + ((t4 : Int) - t3)) 2, ptpReqAt := none } } := by
  rw [exec_ptpDelayResp, execPtpDelayResp]
  simp only [sync, req]
  exact congrArg _ (if_neg (not_not.mpr role))

end

/-- Settles O54: the servo goes by R403's table, whatever measures the offset. -/
theorem deviceTimeFollowsItsMaster : Obligations.DeviceTimeFollowsItsMaster := by
  unfold Obligations.DeviceTimeFollowsItsMaster
  refine ⟨⟨fun s off m => ⟨measured_frozen, measured_moves s off m⟩, fun s f rx => ?_, fun s f ing hop => ?_,
    fun s => ⟨timeSyncSend_sends, timeSyncSend_silent⟩, syncLossTimeout_moves⟩,
    fun s f rx => ⟨hopdlyRequest_other, hopdlyRequest_invalid, hopdlyRequest_answered, hopdlyResponse_other, hopdlyResponse_invalid,
      fun h good => ⟨hopdlyResponse_unasked h good, fun t1 seq => hopdlyResponse_joins h good⟩⟩,
    fun s => ⟨fun h => ?_, hopdlyMeasure_unlocked, rfl⟩,
    fun s a mt rx t4 h => ⟨congrArg _ (if_pos h), ptpSync_none mt rx (Or.inl h), ptpDelayResp_other t4 h⟩,
    fun s a h => ptpAnnounce_client a h,
    fun s mt rx t4 h => ⟨fun none => ptpSync_none mt rx (Or.inr none), ptpSync_measures mt rx h, ptpDelayResp_unasked t4,
      fun t1 t2 t3 => ptpDelayResp_takes t4 h⟩⟩
  · refine ⟨timeFrame_nothing, fun typ foreign => ⟨timeFrame_dropped typ foreign, fun goes => ⟨timeFrame_badLength typ foreign goes,
      fun len pay => ?_⟩⟩⟩
    have corrected := timeFrame_corrected (rx := rx) typ foreign goes len pay
    refine ⟨_, _, rfl, (crcOk_modify f _ _).symm, rfl, rfl, fun back => ?_, fun fwd bad => ?_, fun fwd good => ?_⟩
    · exact corrected.trans (congrArg _ (if_pos back))
    · exact corrected.trans (congrArg _ ((if_neg (by simp [fwd])).trans (if_pos bad)))
    · exact corrected.trans (congrArg _ ((if_neg (by simp [fwd])).trans (if_neg (by simp [good]))))
  · intro m h two u ours
    refine ⟨fun role => follow_eq.trans (if_pos role), fun role us => follow_eq.trans ((if_neg (not_not.mpr role)).trans (if_pos us)),
      fun role other => follow_eq.trans ((if_neg (not_not.mpr role)).trans (if_neg other))⟩
  · have low := Nat.mod_lt s.time.hopSeq.toNat (show 0 < 2048 by decide)
    obtain ⟨typ, len, aux, pay, crc⟩ := frame_fields s (typ := 0x37) (by decide) uaBroadcast (aux := 0 + s.time.hopSeq.toNat % 2048 * 2)
      (by omega) (pay := leBytes 0 8 ++ leBytes 0 8) (n := 2) (by decide) rfl
    refine ⟨_, { s.frame 0x37 uaBroadcast (0 + s.time.hopSeq.toNat % 2048 * 2) (leBytes 0 8 ++ leBytes 0 8) with forward := false },
      hopdlyMeasure_asks h, rfl, typ, ?_, aux.trans (Nat.zero_add _), rfl, rfl⟩
    generalize s.frame 0x37 uaBroadcast (0 + s.time.hopSeq.toNat % 2048 * 2) (leBytes 0 8 ++ leBytes 0 8) = g at typ len pay crc
    have valid : g.valid = true := by
      simp only [ChainFrame.valid, typ, len, pay, crc]
      rfl
    exact valid

end Sys2Proof.Machine
end

section
set_option Elab.async false
/-! What leaves the `sites` of the unit as they are. -/

namespace Sys2Proof.Machine

theorem State.adapt_sites (s : State) (i) : (s.adapt i).sites = s.sites := by
  grind [State.adapt, foldl_sites, State.modLane_sites]

end Sys2Proof.Machine
end

section
set_option Elab.async false
/-! What leaves the `sashes` of the unit as they are. -/

namespace Sys2Proof.Machine

theorem State.adapt_sashes (s : State) (i) : (s.adapt i).sashes = s.sashes := by
  grind [State.adapt, foldl_sashes, State.modLane_sashes]

end Sys2Proof.Machine
end

section
set_option Elab.async false
/-! Lanes lock, idle, measure their eye and carry keyhole frames (R190, R197, R322, R358, R362, R366 to R374, R506). -/

namespace Sys2Proof.Machine

theorem exec_quadPllLock (k : Fin 16) (s : State) : exec (.quadPllLock k) s = execQuadPllLock k s := rfl
theorem exec_blockLockAcquired (i : Fin 64) (s : State) : exec (.blockLockAcquired i) s = execBlockLockAcquired i s := rfl
theorem exec_cdrLockAcquired (i : Fin 64) (s : State) : exec (.cdrLockAcquired i) s = execCdrLockAcquired i s := rfl
theorem exec_blockLockLoss (i : Fin 64) (s : State) : exec (.blockLockLoss i) s = execBlockLockLoss i s := rfl
theorem exec_cdrLockLoss (i : Fin 64) (s : State) : exec (.cdrLockLoss i) s = execCdrLockLoss i s := rfl
theorem exec_farEndIdle (i : Fin 64) (s : State) : exec (.farEndIdle i) s = execFarEndIdle i s := rfl
theorem exec_linkIdleEntry (i : Fin 64) (s : State) : exec (.linkIdleEntry i) s = execLinkIdleEntry i s := rfl
theorem exec_linkIdleExit (i : Fin 64) (s : State) : exec (.linkIdleExit i) s = execLinkIdleExit i s := rfl
theorem exec_eyeSweepDone (i : Fin 64) (h : BitVec 8) (v : BitVec 16) (s : State) : exec (.eyeSweepDone i h v) s = execEyeSweepDone i h v s := rfl
theorem exec_keyholeFrame (s : State) : exec .keyholeFrame s = execKeyholeFrame s := rfl

theorem State.modLane_lane_same (s : State) (i : Nat) (f : Lane → Lane) : (s.modLane i f).lane i = f (s.lane i) :=
  (State.lane_setLane s i _ i).trans (if_pos rfl)

/-! ### A lane that goes down -/

/-- The adaptation of a lane's receiver leaves its mode as it is. -/
theorem adapt_mode (s : State) (i : Nat) : ((s.adapt i).lane i).mode = (s.lane i).mode := by
  unfold State.adapt
  extract_lets l
  split
  · rfl
  · rw [State.modLane_lane_same]
    rfl

/-- The lane without lock, after its receiver's last adaptation. -/
def State.lockGone (s : State) (i : Nat) : State := (s.adapt i).modLane i fun l => { l with lock := false, rxFcnt := none }

theorem lockGone_mode (s : State) (i : Nat) : ((s.lockGone i).lane i).mode = (s.lane i).mode := by
  unfold State.lockGone
  rw [State.modLane_lane_same]
  exact adapt_mode s i

theorem lockGone_siteOf (s : State) (i j : Nat) : (s.lockGone i).siteOf j = s.siteOf j := by
  have same : (s.lockGone i).sash j = s.sash j := sash_congr (State.adapt_sashes s i) j
  unfold State.siteOf
  rw [same]

theorem lockGone_laneLive (s : State) (i j : Nat) : (s.lockGone i).laneLive j = s.laneLive j := by
  have site : ∀ n, (s.lockGone i).site n = s.site n := State.site_of_sites (State.adapt_sites s i)
  unfold State.laneLive
  simp only [lockGone_siteOf, site]

theorem laneDown_eq (s : State) (i : Nat) :
    s.laneDown i =
      if s.laneLive i = true ∧ (s.lane i).mode ≠ .stream then
        (s.lockGone i).faultSashNow i (if (s.lane i).mode = .link then Code.TF_LINK_DOWN else Code.TF_PIN_LANE_DOWN) 0xFF 0
      else if (s.lane i).mode = .pin then (s.lockGone i).postLane Code.ST_OK ((s.siteOf i).getD 0xFF) i 3 0 0
      else s.lockGone i := by
  have down : s.laneDown i =
      if (s.lockGone i).laneLive i = true ∧ ((s.lockGone i).lane i).mode ≠ .stream then
        (s.lockGone i).faultSashNow i ((s.lockGone i).lane i).downCode 0xFF 0
      else if ((s.lockGone i).lane i).mode = .pin then (s.lockGone i).postLane Code.ST_OK (((s.lockGone i).siteOf i).getD 0xFF) i 3 0 0
      else s.lockGone i := rfl
  rw [down, lockGone_laneLive, lockGone_siteOf, Lane.downCode, lockGone_mode]

/-- A change of the lane itself that keeps its mode comes before its going down. -/
theorem laneDown_modLane (s : State) (i : Nat) (f : Lane → Lane) (h : (f (s.lane i)).mode = (s.lane i).mode) :
    (s.modLane i f).laneDown i =
      if s.laneLive i = true ∧ (s.lane i).mode ≠ .stream then
        ((s.modLane i f).lockGone i).faultSashNow i (if (s.lane i).mode = .link then Code.TF_LINK_DOWN else Code.TF_PIN_LANE_DOWN) 0xFF 0
      else if (s.lane i).mode = .pin then ((s.modLane i f).lockGone i).postLane Code.ST_OK ((s.siteOf i).getD 0xFF) i 3 0 0
      else (s.modLane i f).lockGone i := by
  have live : (s.modLane i f).laneLive i = s.laneLive i := rfl
  have site : (s.modLane i f).siteOf i = s.siteOf i := rfl
  rw [laneDown_eq, State.modLane_lane_same, h, live, site]

/-! ### Lock and idle -/

section
variable {s : State} {i : Fin 64}

theorem quadRuns_iff (s : State) (i : Nat) :
    s.quadRuns i = true ↔ (s.quad (i / 4)).lock = true ∧ (s.dom (domQuad (i / 4))).state = .on := by
  unfold State.quadRuns
  rw [Bool.and_eq_true, beq_iff_eq]

theorem blockLockAcquired_eq :
    exec (.blockLockAcquired i) s = .next
      (if ((s.quad (i.val / 4)).lock = true ∧ (s.dom (domQuad (i.val / 4))).state = .on) ∧ (s.lane i.val).lock = false ∧
          ((s.lane i.val).mode = .pin ∨ (s.lane i.val).mode = .link ∨ (s.lane i.val).mode = .stream) then
        s.setLane i.val { s.lane i.val with lock := true, rxIdle := false }
      else s) := by
  rw [exec_blockLockAcquired, execBlockLockAcquired]
  simp only [quadRuns_iff]
  rfl

theorem cdrLockAcquired_eq :
    exec (.cdrLockAcquired i) s = .next
      (if ((s.quad (i.val / 4)).lock = true ∧ (s.dom (domQuad (i.val / 4))).state = .on) ∧
          ((s.lane i.val).mode = .direct ∨ (s.lane i.val).mode = .keyhole) then
        s.setLane i.val { s.lane i.val with lock := true, rxIdle := false }
      else s) := by
  rw [exec_cdrLockAcquired, execCdrLockAcquired]
  simp only [quadRuns_iff]
  rfl

/-- The unit when the exit burst that the lane sends has ended. -/
def State.burstOver (s : State) (i : Nat) : State :=
  if (s.lane i).exiting then s.modLane i fun l => { l with txIdle := false, exiting := false, fcnt := 0 } else s

theorem burstOver_keeps (s : State) (i : Nat) :
    ((s.burstOver i).lane i).mode = (s.lane i).mode ∧ (s.burstOver i).laneLive i = s.laneLive i ∧
      (s.burstOver i).siteOf i = s.siteOf i := by
  unfold State.burstOver
  split
  · exact ⟨by rw [State.modLane_lane_same], rfl, rfl⟩
  · exact ⟨rfl, rfl, rfl⟩

/-- The lane's receiver goes on, its exit counted. -/
def State.exitCounted (s : State) (i : Nat) : State :=
  (s.burstOver i).modLane i fun l => { l with rxIdle := false, phy := { l.phy with idleExits := satInc l.phy.idleExits } }

theorem exitCounted_keeps (s : State) (i : Nat) :
    ((s.exitCounted i).lane i).mode = (s.lane i).mode ∧ (s.exitCounted i).laneLive i = s.laneLive i ∧
      (s.exitCounted i).siteOf i = s.siteOf i := by
  obtain ⟨mode, live, site⟩ := burstOver_keeps s i
  refine ⟨?_, live, site⟩
  unfold State.exitCounted
  rw [State.modLane_lane_same]
  exact mode

theorem idleExitBurstDone_eq (h : Bool) :
    exec (.idleExitBurstDone i h) s = .next
      (if (s.lane i.val).rxIdle = false ∨ (s.lane i.val).lock = false then s.burstOver i.val
       else if h then s.exitCounted i.val
       else ((s.exitCounted i.val).modLane i.val fun l =>
         { l with phy := { l.phy with slowExits := satInc l.phy.slowExits } }).laneDown i.val) := rfl

/-- R372: what a link lane needs to idle, but for the gap. -/
def State.idleFree (s : State) (i : Nat) : Prop :=
  (s.lane i).mode = .link ∧ (s.lane i).linkIdle = true ∧ (s.lane i).txIdle = false ∧ (s.lane i).link.tx = [] ∧ s.hingeRole i = false ∧
    (s.lane i).rate ≠ 0

theorem linkIdleEntry_enters {n : Nat} (site : s.siteOf i.val = some n) (free : s.idleFree i.val)
    (gap : s.idleLead (s.lane i.val).rate + 64 ≤ s.linkGap n i.val) :
    exec (.linkIdleEntry i) s = .next (s.setLane i.val { s.lane i.val with txIdle := true, exiting := false }) := by
  obtain ⟨mode, idle, tx, queue, role, rate⟩ := free
  rw [exec_linkIdleEntry, execLinkIdleEntry]
  simp only [site]
  exact congrArg _ (if_pos ⟨mode, idle, tx, queue, role, rate, gap⟩)

theorem linkIdleEntry_stays
    (h : ∀ n, s.siteOf i.val = some n → s.idleFree i.val → s.linkGap n i.val < s.idleLead (s.lane i.val).rate + 64) :
    exec (.linkIdleEntry i) s = .next s := by
  rw [exec_linkIdleEntry, execLinkIdleEntry]
  dsimp only
  cases site : s.siteOf i.val with
  | none => rfl
  | some n =>
    refine congrArg _ (if_neg ?_)
    rintro ⟨mode, idle, tx, queue, role, rate, gap⟩
    exact absurd (h n site ⟨mode, idle, tx, queue, role, rate⟩) (Nat.not_lt.mpr gap)

end

/-! ### Keyhole frames (R190, R374, R506) -/

/-- The 32-bit samples of a list, the first lowest. -/
def samplesNum (l : List (Nat × Word)) : Nat := l.foldr (fun e a => e.2.toNat + 2 ^ 32 * a) 0

theorem samplesNum_lt (l : List (Nat × Word)) : samplesNum l < 2 ^ (32 * l.length) := by
  induction l with
  | nil => exact Nat.one_pos
  | cons e l ih =>
    have low := e.2.isLt
    show e.2.toNat + 2 ^ 32 * samplesNum l < 2 ^ (32 * (l.length + 1))
    rw [Nat.mul_succ, pow_add]
    have high := Nat.mul_le_mul_right (2 ^ 32) ih
    linarith

theorem bits_samplesNum (l : List (Nat × Word)) (j : Nat) : bits (samplesNum l) (32 * j) 32 = (l.map fun e => e.2.toNat).getD j 0 := by
  induction l generalizing j with
  | nil => simp [samplesNum, bits]
  | cons e l ih =>
    have low := e.2.isLt
    have cons : samplesNum (e :: l) = e.2.toNat + 2 ^ 32 * samplesNum l := rfl
    have up : samplesNum (e :: l) / 2 ^ 32 = samplesNum l := by
      rw [cons, Nat.add_mul_div_left _ _ (by decide), Nat.div_eq_of_lt low, Nat.zero_add]
    cases j with
    | zero =>
      simp only [bits, Nat.mul_zero, Nat.shiftRight_zero, cons, Nat.add_mul_mod_self_left, List.map_cons, List.getD_cons_zero]
      exact Nat.mod_eq_of_lt low
    | succ j =>
      rw [List.map_cons, List.getD_cons_succ, ← ih j, bits, bits, Nat.shiftRight_eq_div_pow, Nat.shiftRight_eq_div_pow, Nat.mul_succ,
        Nat.add_comm, pow_add, ← Nat.div_div_eq_div_mul, up]

theorem keyholeHeader_fields (step0 pay : Nat) :
    bits (keyholeHeader step0 pay).toNat 0 4 = 4 ∧ bits (keyholeHeader step0 pay).toNat 8 40 = step0 % 2 ^ 40 := by
  unfold keyholeHeader
  extract_lets h
  generalize pinCrc h pay = c
  simp only [h, bits, BitVec.toNat_ofNat, Nat.shiftRight_eq_div_pow]
  omega

theorem keyholeFrame_waits {s : State} (h : s.power.key.lane = none ∨ s.power.key.samples.length < 32) : exec .keyholeFrame s = .next s := by
  rw [exec_keyholeFrame, execKeyholeFrame]
  dsimp only
  cases lane : s.power.key.lane with
  | none => rfl
  | some i => exact congrArg _ (if_pos (h.resolve_left (by simp [lane])))

/-- The keyhole frame of the oldest 32 samples. -/
def State.keyFrame (s : State) : BitVec 64 × BitVec 1024 :=
  let pay := samplesNum (s.power.key.samples.take 32)
  (keyholeHeader (match s.power.key.samples with | e :: _ => e.1 | [] => 0) pay, BitVec.ofNat 1024 pay)

/-- The lane with a keyhole frame on its way. -/
def State.keySent (s : State) (l : Lane) : Lane :=
  let b := scrambleBlocks l.txScr (frameBlocks s.keyFrame.1 (samplesNum (s.power.key.samples.take 32)) 16)
  { l with txLast := some s.keyFrame, txBlocks := b.1, txScr := b.2, phy := { l.phy with lastTx := s.stamp } }

theorem keyholeFrame_sends {s : State} {i : Nat} (lane : s.power.key.lane = some i) (full : 32 ≤ s.power.key.samples.length) :
    exec .keyholeFrame s = .next
      { s.modLane i s.keySent with power := { s.power with key :=
        { s.power.key with samples := s.power.key.samples.drop 32, frames := s.keyFrame :: s.power.key.frames } } } := by
  obtain ⟨f, hf⟩ : ∃ f, execKeyholeFrame = f := ⟨_, rfl⟩
  rw [exec_keyholeFrame, hf]
  delta execKeyholeFrame at hf
  rw [← hf]
  simp only [lane]
  exact congrArg _ (if_neg (Nat.not_lt.mpr full))

theorem keyFrame_fields {s : State} (full : 32 ≤ s.power.key.samples.length) :
    bits s.keyFrame.1.toNat 0 4 = 4 ∧
      bits s.keyFrame.1.toNat 8 40 = ((s.power.key.samples.map fun e => e.1).headD 0) % 2 ^ 40 ∧
      s.keyFrame.2.toNat = samplesNum (s.power.key.samples.take 32) := by
  have fits := samplesNum_lt (s.power.key.samples.take 32)
  rw [List.length_take, Nat.min_eq_left full] at fits
  obtain ⟨kind, step⟩ := keyholeHeader_fields (match s.power.key.samples with | e :: _ => e.1 | [] => 0)
    (samplesNum (s.power.key.samples.take 32))
  refine ⟨kind, step.trans ?_, ?_⟩
  · cases s.power.key.samples <;> rfl
  · exact (BitVec.toNat_ofNat _ _).trans (Nat.mod_eq_of_lt fits)

theorem keyFrame_samples {s : State} (full : 32 ≤ s.power.key.samples.length) {j : Nat} (hj : j < 32) :
    bits s.keyFrame.2.toNat (32 * j) 32 = (s.power.key.samples.map fun e => e.2.toNat).getD j 0 := by
  obtain ⟨-, -, pay⟩ := keyFrame_fields full
  rw [pay, bits_samplesNum, List.map_take]
  simp [List.getD_eq_getElem?_getD, hj]

/-- Settles O49: a lane goes down in one way, whichever event takes its lock. -/
theorem laneEventsLockIdleAndMeasure : Obligations.LaneEventsLockIdleAndMeasure := by
  unfold Obligations.LaneEventsLockIdleAndMeasure
  refine ⟨⟨fun s k => ?_, fun s i => ?_, fun s i => ?_⟩, fun s i h v => ?_, fun s => ⟨keyholeFrame_waits, fun i lane full => ?_⟩⟩
  · intro on
    rw [exec_quadPllLock, execQuadPllLock]
    exact ⟨fun h => congrArg _ (if_pos h), fun h => congrArg _ (if_neg h)⟩
  · intro l up block cdr locked gone down
    rw [blockLockAcquired_eq, cdrLockAcquired_eq, exec_blockLockLoss, execBlockLockLoss, exec_cdrLockLoss, execCdrLockLoss,
      exec_farEndIdle, execFarEndIdle]
    refine ⟨fun u open_ b => congrArg _ (if_pos ⟨u, open_, b⟩), fun h => congrArg _ (if_neg h), fun u c => congrArg _ (if_pos ⟨u, c⟩),
      fun h => congrArg _ (if_neg h), fun lock b => congrArg _ ((if_pos ⟨lock, b⟩).trans (laneDown_modLane s i.val _ rfl)),
      fun h => congrArg _ (if_neg h), fun lock c => congrArg _ (if_pos ⟨lock, c⟩), fun h => congrArg _ (if_neg h),
      fun lock b => congrArg _ (if_pos ⟨lock, b⟩), fun h => congrArg _ (if_neg h), fun h => ?_⟩
    intro v u
    obtain ⟨mode, live, site⟩ := exitCounted_keeps s i.val
    rw [idleExitBurstDone_eq]
    refine ⟨fun out => congrArg _ (if_pos out), fun idle lock valid => ?_, fun idle lock valid => ?_⟩
    · exact congrArg _ ((if_neg (not_or.mpr ⟨ne_false_of_eq_true idle, ne_false_of_eq_true lock⟩)).trans (if_pos valid))
    · refine congrArg _ ((if_neg (not_or.mpr ⟨ne_false_of_eq_true idle, ne_false_of_eq_true lock⟩)).trans
        ((if_neg (ne_true_of_eq_false valid)).trans ?_))
      rw [laneDown_modLane _ _ _ (by rfl), mode, live, site]
      rfl
  · intro l free
    refine ⟨fun n site ok gap => linkIdleEntry_enters site ok gap, linkIdleEntry_stays, fun mode idle tx => ?_, fun h => ?_⟩
    · rw [exec_linkIdleExit, execLinkIdleExit]
      exact congrArg _ (if_pos ⟨mode, idle, tx⟩)
    · rw [exec_linkIdleExit, execLinkIdleExit]
      exact congrArg _ (if_neg h)
  · intro l low u
    rw [exec_eyeSweepDone, execEyeSweepDone]
    exact ⟨fun lost => congrArg _ (if_pos lost), fun lock => congrArg _ (if_neg (ne_false_of_eq_true lock))⟩
  · obtain ⟨kind, step, pay⟩ := keyFrame_fields full
    refine ⟨_, s.keyFrame.1, s.keyFrame.2, keyholeFrame_sends lane full, ?_, kind, step, fun j hj => keyFrame_samples full hj, ?_, ?_, rfl, rfl⟩
    · exact congrArg Lane.txLast (s.modLane_lane_same i s.keySent)
    · rw [pay]
      exact congrArg (fun l : Lane => (l.txBlocks, l.txScr)) (s.modLane_lane_same i s.keySent)
    · exact congrArg (fun l : Lane => l.phy.lastTx) (s.modLane_lane_same i s.keySent)

end Sys2Proof.Machine
end

section
set_option Elab.async false
/-! What leaves the `lanes` of the unit as they are. -/

namespace Sys2Proof.Machine

theorem State.retain_lanes (s : State) (n) : (s.retain n).lanes = s.lanes := by
  grind [State.retain, State.setTicket_lanes]

theorem State.setIrq_lanes (s : State) (i) : (s.setIrq i).lanes = s.lanes := by
  grind [State.setIrq]

theorem State.postEvent_lanes (s : State) (e') : (s.postEvent e').lanes = s.lanes := by
  grind [State.postEvent, State.retain_lanes, State.setIrq_lanes]

theorem State.post_lanes (s : State) (kind st site obj hi data) : (s.post kind st site obj hi data).lanes = s.lanes := by
  grind [State.post, State.postEvent_lanes]

theorem State.postNotice_lanes (s : State) (st site obj action cycle detail) : (s.postNotice st site obj action cycle detail).lanes = s.lanes := by
  grind [State.postNotice, State.post_lanes]

theorem State.dropOldest_lanes (s : State) : (s.dropOldest).lanes = s.lanes := by
  grind [State.dropOldest, State.setTicket_lanes]

theorem State.send_lanes (s : State) (f) : (s.send f).lanes = s.lanes := by
  grind [State.send]

theorem State.sendFragment_lanes (s : State) (ua seq resp bs i) : (s.sendFragment ua seq resp bs i).lanes = s.lanes := by
  grind [State.sendFragment, State.send_lanes]

theorem State.sendMbx_lanes (s : State) (ua seq resp bs) : (s.sendMbx ua seq resp bs).lanes = s.lanes := by
  grind [State.sendMbx, State.sendFragment_lanes]

theorem State.message_lanes (s : State) (owner ua seq isResp bs) : (s.message owner ua seq isResp bs).lanes = s.lanes := by
  grind [State.message, State.sendMbx_lanes]

theorem State.passComplete_lanes (s : State) (ua e') : (s.passComplete ua e').lanes = s.lanes := by
  grind [State.passComplete, State.message_lanes]

theorem State.finish_lanes (s : State) (tk st data) : (s.finish tk st data).lanes = s.lanes := by
  grind [State.finish, State.setTicket_lanes, State.dropOldest_lanes, State.postEvent_lanes, State.passComplete_lanes]

theorem State.postFault_lanes (s : State) (st site obj cycle step pane detail) : (s.postFault st site obj cycle step pane detail).lanes = s.lanes := by
  grind [State.postFault, State.post_lanes]

theorem State.postUnreported_lanes (s : State) (n ps) : (s.postUnreported n ps).lanes = s.lanes := by
  grind [State.postUnreported, foldl_lanes, State.postNotice_lanes]

theorem State.modSite_lanes (s : State) (n f) : (s.modSite n f).lanes = s.lanes := by
  grind [State.modSite, State.setSite_lanes]

theorem State.postSite_lanes (s : State) (n old new st) : (s.postSite n old new st).lanes = s.lanes := by
  grind [State.postSite, State.post_lanes]

theorem State.moveSite_lanes (s : State) (n new st) : (s.moveSite n new st).lanes = s.lanes := by
  grind [State.moveSite, State.modSite_lanes, State.postSite_lanes]

theorem State.cancelStartAt_lanes (s : State) (n) : (s.cancelStartAt n).lanes = s.lanes := by
  grind [State.cancelStartAt, State.postNotice_lanes, State.modSite_lanes]

theorem State.dropTransom_lanes (s : State) (n) : (s.dropTransom n).lanes = s.lanes := by
  grind [State.dropTransom, State.finish_lanes, State.modSite_lanes]

theorem State.askHalt_lanes (s : State) (n) : (s.askHalt n).lanes = s.lanes := by
  grind [State.askHalt, State.send_lanes, State.modSite_lanes]

theorem State.postFailSet_lanes (s : State) (n st action stb) : (s.postFailSet n st action stb).lanes = s.lanes := by
  grind [State.postFailSet, State.post_lanes]

theorem State.newWorm_lanes (s : State) (src typ len addr be pay owner) : (s.newWorm src typ len addr be pay owner).lanes = s.lanes := by
  grind [State.newWorm]

theorem State.modFl_lanes (s : State) (n f) : (s.modFl n f).lanes = s.lanes := by
  grind [State.modFl, State.modSite_lanes]

theorem State.modMemSt_lanes (s : State) (n f) : (s.modMemSt n f).lanes = s.lanes := by
  grind [State.modMemSt, State.setMemSt_lanes]

theorem State.noteCe_lanes (s : State) (m a) : (s.noteCe m a).lanes = s.lanes := by
  grind [State.noteCe, State.modMemSt_lanes]

theorem State.postMemory_lanes (s : State) (st memid addr marker) : (s.postMemory st memid addr marker).lanes = s.lanes := by
  grind [State.postMemory, State.post_lanes]

theorem State.notePoison_lanes (s : State) (m a marker) : (s.notePoison m a marker).lanes = s.lanes := by
  grind [State.notePoison, State.modMemSt_lanes, State.postMemory_lanes]

theorem State.readWord_lanes (s : State) (w) : (s.readWord w).2.2.lanes = s.lanes := by
  grind [State.readWord, State.noteCe_lanes, State.notePoison_lanes]

theorem State.readWords_lanes (s : State) (w fuel) : (s.readWords w fuel).2.2.lanes = s.lanes := by
  induction fuel generalizing s w with
  | zero => rfl
  | succ n ih => grind [State.readWords, State.readWord_lanes]

theorem State.memRead_lanes (s : State) (a n) : (s.memRead a n).2.2.lanes = s.lanes := by
  grind [State.memRead, State.readWords_lanes]

theorem State.failBit_lanes (s : State) (n i r') : (s.failBit n i r').lanes = s.lanes := by
  grind [State.failBit, State.newWorm_lanes]

theorem State.ensureRegion_lanes (s : State) (a) : (s.ensureRegion a).lanes = s.lanes := by
  grind [State.ensureRegion, State.modMemSt_lanes]

theorem State.ensureRegions_lanes (s : State) (r' fuel) : (s.ensureRegions r' fuel).lanes = s.lanes := by
  induction fuel generalizing s r' with
  | zero => rfl
  | succ n ih => grind [State.ensureRegions, State.ensureRegion_lanes]

theorem State.mergeWord_lanes (s : State) (w f) : (s.mergeWord w f).lanes = s.lanes := by
  grind [State.mergeWord, State.noteCe_lanes, State.modMemSt_lanes, State.postMemory_lanes]

theorem State.writeWord_lanes (s : State) (w bs) : (s.writeWord w bs).lanes = s.lanes := by
  grind [State.writeWord, State.mergeWord_lanes]

theorem State.writeWords_lanes (s : State) (w bs fuel) : (s.writeWords w bs fuel).lanes = s.lanes := by
  induction fuel generalizing s w bs with
  | zero => rfl
  | succ n ih => grind [State.writeWords, State.writeWord_lanes]

theorem State.memWriteBE_lanes (s : State) (a bs) : (s.memWriteBE a bs).lanes = s.lanes := by
  grind [State.memWriteBE, State.ensureRegions_lanes, State.writeWords_lanes]

theorem State.memWrite_lanes (s : State) (a bs) : (s.memWrite a bs).lanes = s.lanes := by
  grind [State.memWrite, State.memWriteBE_lanes]

theorem State.setPadLine_lanes (s : State) (n l bs) : (s.setPadLine n l bs).lanes = s.lanes := by
  grind [State.setPadLine, State.memWrite_lanes]

theorem State.modTrig_lanes (s : State) (n f) : (s.modTrig n f).lanes = s.lanes := by
  grind [State.modTrig, State.setTrig_lanes]

theorem State.modTrigs_lanes (s : State) (l f) : (s.modTrigs l f).lanes = s.lanes := by
  grind [State.modTrigs, foldl_lanes, State.modTrig_lanes]

theorem State.modSash_lanes (s : State) (n f) : (s.modSash n f).lanes = s.lanes := by
  grind [State.modSash, State.setSash_lanes]

theorem State.modSashes_lanes (s : State) (l f) : (s.modSashes l f).lanes = s.lanes := by
  grind [State.modSashes, foldl_lanes, State.modSash_lanes]

end Sys2Proof.Machine
end

section
set_option Elab.async false
/-! What leaves the `trigs` of the unit as they are. -/

namespace Sys2Proof.Machine

theorem State.modMemSt_trigs (s : State) (n f) : (s.modMemSt n f).trigs = s.trigs := by
  grind [State.modMemSt, State.setMemSt_trigs]

theorem State.ensureRegion_trigs (s : State) (a) : (s.ensureRegion a).trigs = s.trigs := by
  grind [State.ensureRegion, State.modMemSt_trigs]

theorem State.ensureRegions_trigs (s : State) (r' fuel) : (s.ensureRegions r' fuel).trigs = s.trigs := by
  induction fuel generalizing s r' with
  | zero => rfl
  | succ n ih => grind [State.ensureRegions, State.ensureRegion_trigs]

theorem State.noteCe_trigs (s : State) (m a) : (s.noteCe m a).trigs = s.trigs := by
  grind [State.noteCe, State.modMemSt_trigs]

theorem State.retain_trigs (s : State) (n) : (s.retain n).trigs = s.trigs := by
  grind [State.retain, State.setTicket_trigs]

theorem State.setIrq_trigs (s : State) (i) : (s.setIrq i).trigs = s.trigs := by
  grind [State.setIrq]

theorem State.postEvent_trigs (s : State) (e') : (s.postEvent e').trigs = s.trigs := by
  grind [State.postEvent, State.retain_trigs, State.setIrq_trigs]

theorem State.post_trigs (s : State) (kind st site obj hi data) : (s.post kind st site obj hi data).trigs = s.trigs := by
  grind [State.post, State.postEvent_trigs]

theorem State.postMemory_trigs (s : State) (st memid addr marker) : (s.postMemory st memid addr marker).trigs = s.trigs := by
  grind [State.postMemory, State.post_trigs]

theorem State.mergeWord_trigs (s : State) (w f) : (s.mergeWord w f).trigs = s.trigs := by
  grind [State.mergeWord, State.noteCe_trigs, State.modMemSt_trigs, State.postMemory_trigs]

theorem State.writeWord_trigs (s : State) (w bs) : (s.writeWord w bs).trigs = s.trigs := by
  grind [State.writeWord, State.mergeWord_trigs]

theorem State.writeWords_trigs (s : State) (w bs fuel) : (s.writeWords w bs fuel).trigs = s.trigs := by
  induction fuel generalizing s w bs with
  | zero => rfl
  | succ n ih => grind [State.writeWords, State.writeWord_trigs]

theorem State.memWriteBE_trigs (s : State) (a bs) : (s.memWriteBE a bs).trigs = s.trigs := by
  grind [State.memWriteBE, State.ensureRegions_trigs, State.writeWords_trigs]

theorem State.memWrite_trigs (s : State) (a bs) : (s.memWrite a bs).trigs = s.trigs := by
  grind [State.memWrite, State.memWriteBE_trigs]

theorem State.setPadLine_trigs (s : State) (n l bs) : (s.setPadLine n l bs).trigs = s.trigs := by
  grind [State.setPadLine, State.memWrite_trigs]

end Sys2Proof.Machine
end

section
set_option Elab.async false
/-! What leaves the `sashes` of the unit as they are. -/

namespace Sys2Proof.Machine

theorem State.setPadLine_sashes (s : State) (n l bs) : (s.setPadLine n l bs).sashes = s.sashes := by
  grind [State.setPadLine, State.memWrite_sashes]

end Sys2Proof.Machine
end

section
set_option Elab.async false
/-! What leaves the `sites` of the unit as they are. -/

namespace Sys2Proof.Machine

theorem State.postFailSet_sites (s : State) (n st action stb) : (s.postFailSet n st action stb).sites = s.sites := by
  grind [State.postFailSet, State.post_sites]

theorem State.setPadLine_sites (s : State) (n l bs) : (s.setPadLine n l bs).sites = s.sites := by
  grind [State.setPadLine, State.memWrite_sites]

end Sys2Proof.Machine
end

section
set_option Elab.async false
/-! Fail records and trigger records leave in order (R247 to R256, R276 to R279). -/

namespace Sys2Proof.Machine

theorem exec_failBufferWrite (i : Fin 64) (s : State) : exec (.failBufferWrite i) s = execFailBufferWrite i s := rfl
theorem exec_failChunkSend (i : Fin 64) (s : State) : exec (.failChunkSend i) s = execFailChunkSend i s := rfl
theorem exec_failFlushTimeout (i : Fin 64) (s : State) : exec (.failFlushTimeout i) s = execFailFlushTimeout i s := rfl
theorem exec_failClose (n : Fin 16) (s : State) : exec (.failClose n) s = execFailClose n s := rfl
theorem exec_trigRecordStore (i : Fin 64) (s : State) : exec (.trigRecordStore i) s = execTrigRecordStore i s := rfl
theorem exec_trigSpillChunk (i : Fin 64) (s : State) : exec (.trigSpillChunk i) s = execTrigSpillChunk i s := rfl
theorem exec_postSlotsExpiry (i : Fin 64) (s : State) : exec (.postSlotsExpiry i) s = execPostSlotsExpiry i s := rfl
theorem lane_of_lanes {s t : State} (h : t.lanes = s.lanes) (j : Nat) : t.lane j = s.lane j := by
  unfold State.lane; rw [h]
theorem trig_of_trigs {s t : State} (h : t.trigs = s.trigs) (j : Nat) : t.trig j = s.trig j := by
  unfold State.trig; rw [h]

/-! ### The records that a lane's buffer holds -/

/-- The records in every lane's fail buffer. -/
def State.failBufs (s : State) : Nat → List (Nat × Rec16) := fun i => (s.lane i).fail.buf

theorem failBufs_of_lanes {s t : State} (h : t.lanes = s.lanes) : t.failBufs = s.failBufs := by
  funext i
  exact congrArg (fun l : Lane => l.fail.buf) (lane_of_lanes h i)

theorem modLane_failBufs (s : State) (i : Nat) {f : Lane → Lane} (h : (f (s.lane i)).fail.buf = (s.lane i).fail.buf) :
    (s.modLane i f).failBufs = s.failBufs := by
  funext j
  show ((s.setLane i (f (s.lane i))).lane j).fail.buf = (s.lane j).fail.buf
  rw [State.lane_setLane]
  split
  · next hj => rw [h, hj]
  · rfl

theorem foldl_failBufs {α} {f : State → α → State} (hf : ∀ s x, (f s x).failBufs = s.failBufs) (l : List α) (s : State) :
    (l.foldl f s).failBufs = s.failBufs := by
  induction l generalizing s with
  | nil => rfl
  | cons a l ih => exact (ih _).trans (hf s a)

theorem runOver_buf (l : Lane) : l.runOver.fail.buf = l.fail.buf := by
  unfold Lane.runOver
  split <;> rfl

theorem stopRun_failBufs (s : State) (n : Nat) : (s.stopRun n).failBufs = s.failBufs := by
  unfold State.stopRun
  extract_lets l
  have sashes : ((s.modSashes l Sash.halt).modTrigs l Trig.endRun).lanes = s.lanes :=
    (State.modTrigs_lanes ..).trans (State.modSashes_lanes ..)
  exact (foldl_failBufs (fun s i => modLane_failBufs s i (runOver_buf _)) l _).trans (failBufs_of_lanes sashes)

theorem enterFaulted_failBufs (s : State) (n : Nat) (p : PendFault) (others : List PendFault) :
    (s.enterFaulted n p others).failBufs = s.failBufs := by
  unfold State.enterFaulted
  extract_lets t t1 t2 t3
  have dropped : t1.lanes = t.lanes := (State.dropTransom_lanes ..).trans (State.cancelStartAt_lanes ..)
  have posted : t3.lanes = t2.lanes := State.postFault_lanes ..
  have moved := (State.moveSite_lanes (t3.postUnreported n others) n .faulted p.code).trans (State.postUnreported_lanes ..)
  exact (failBufs_of_lanes (moved.trans (posted.trans dropped))).trans (stopRun_failBufs s n)

theorem failPoison_failBufs (s : State) (n i a : Nat) : (s.failPoison n i a).failBufs = s.failBufs := by
  unfold State.failPoison
  split
  · unfold State.faultSashNow
    split
    · unfold State.faultNow
      split
      · exact enterFaulted_failBufs ..
      · rfl
    · rfl
  · rfl

theorem failStore_failBufs (s : State) (n i : Nat) (recs : List Rec16) : (s.failStore n i recs).failBufs = s.failBufs := by
  have full : (s.modLane i fun l => { l with fail := { l.fail with sliceFull := true } }).failBufs = s.failBufs :=
    modLane_failBufs s i rfl
  unfold State.failStore
  extract_lets x f idx len w first t u a bytes pay v
  split
  · rfl
  split
  · split
    · exact (failBufs_of_lanes ((State.postFailSet_lanes ..).trans (State.askHalt_lanes ..))).trans full
    · exact full
  · have sent : v.lanes = s.lanes := State.newWorm_lanes ..
    exact failBufs_of_lanes ((State.modFl_lanes v n _).trans sent)

theorem failSend_buf (s : State) (n i : Nat) : ((s.failSend n i).lane i).fail.buf = (s.lane i).fail.buf.drop 32 := by
  unfold State.failSend
  extract_lets take good lines f t t1 t2 t3
  have cut : t.failBufs i = (s.lane i).fail.buf.drop 32 :=
    congrArg (fun l : Lane => l.fail.buf) (s.modLane_lane_same i fun l => { l with fail := { l.fail with buf := l.fail.buf.drop 32 } })
  have lost : t1.failBufs = t.failBufs := by
    unfold t1
    split
    · rfl
    · exact failBufs_of_lanes (State.modFl_lanes ..)
  have poisoned : t2.failBufs = t1.failBufs :=
    foldl_failBufs (fun s l => (failPoison_failBufs _ n i _).trans (failBufs_of_lanes (State.memRead_lanes ..))) lines t1
  have stored : t3.failBufs = t2.failBufs := by
    unfold t3
    split
    · exact failStore_failBufs t2 n i good
    · rfl
  have kept : t3.failBufs i = (s.lane i).fail.buf.drop 32 := by rw [stored, poisoned, lost, cut]
  split
  · have bits := foldl_failBufs (fun s r => failBufs_of_lanes (State.failBit_lanes s n i r)) good t3
    exact (congrFun bits i).trans kept
  · exact kept

/-! ### The rows of a fail path -/

section
variable {s : State} {i : Fin 64}

theorem failRows_noSite (site : s.siteOf i.val = none) :
    exec (.failBufferWrite i) s = .next s ∧ exec (.failChunkSend i) s = .next s ∧ exec (.failFlushTimeout i) s = .next s := by
  rw [exec_failBufferWrite, execFailBufferWrite, exec_failChunkSend, execFailChunkSend, exec_failFlushTimeout, execFailFlushTimeout]
  simp only [site, and_self]

theorem failBufferWrite_waits (h : (s.lane i.val).fail.fifo = [] ∨ (s.sash i.val).portFree = false) :
    exec (.failBufferWrite i) s = .next s := by
  rw [exec_failBufferWrite, execFailBufferWrite]
  dsimp only
  cases s.siteOf i.val with
  | none => rfl
  | some n => exact congrArg _ (if_pos h)

theorem streamTakes_free {n : Nat} (h : (s.sash i.val).portFree = true) :
    s.streamTakes n i.val = (s.failSend n i.val).modSash i.val fun x => { x with portUsed := true } := if_pos h
theorem streamTakes_busy {n : Nat} (h : (s.sash i.val).portFree = false) : s.streamTakes n i.val = s := if_neg (ne_true_of_eq_false h)

theorem failChunkSend_eq {n : Nat} (site : s.siteOf i.val = some n) :
    exec (.failChunkSend i) s = .next
      (if 32 ≤ (s.lane i.val).fail.buf.length ∨
          ((s.site n).fl.closing = true ∧ (s.lane i.val).fail.fifo = [] ∧ (s.lane i.val).fail.buf ≠ []) then s.streamTakes n i.val
       else s) := by
  rw [exec_failChunkSend, execFailChunkSend]
  simp only [site]

theorem failFlushTimeout_eq {n : Nat} (site : s.siteOf i.val = some n) :
    exec (.failFlushTimeout i) s = .next (if (s.lane i.val).fail.buf = [] then s else s.streamTakes n i.val) := by
  rw [exec_failFlushTimeout, execFailFlushTimeout]
  simp only [site]

theorem failChunks_wait (h : (s.sash i.val).portFree = false ∨ (s.lane i.val).fail.buf = []) :
    exec (.failChunkSend i) s = .next s ∧ exec (.failFlushTimeout i) s = .next s := by
  cases site : s.siteOf i.val with
  | none => exact (failRows_noSite site).2
  | some n =>
    rw [failChunkSend_eq site, failFlushTimeout_eq site]
    rcases h with busy | empty
    · rw [streamTakes_busy busy, ite_self, ite_self]
      exact ⟨rfl, rfl⟩
    · rw [if_pos empty, if_neg (by simp [empty])]
      exact ⟨rfl, rfl⟩

theorem failBufferWrite_dropped {n : Nat} (site : s.siteOf i.val = some n) (some_ : (s.lane i.val).fail.fifo ≠ [])
    (port : (s.sash i.val).portFree = true) (off : (s.site n).img.failcfg.present = false) :
    exec (.failBufferWrite i) s = .next (s.modLane i.val fun l => { l with fail := { l.fail with fifo := l.fail.fifo.drop 2 } }) := by
  rw [exec_failBufferWrite, execFailBufferWrite]
  simp only [site]
  exact congrArg _ ((if_neg (not_or.mpr ⟨some_, ne_false_of_eq_true port⟩)).trans (if_pos off))

theorem failBufferWrite_full {n : Nat} (site : s.siteOf i.val = some n) (on : (s.site n).img.failcfg.present = true)
    (full : (s.site n).img.failcfg.fbufLines ≤ (s.lane i.val).fail.lines) : exec (.failBufferWrite i) s = .next s := by
  rw [exec_failBufferWrite, execFailBufferWrite]
  simp only [site]
  refine congrArg _ ?_
  by_cases wait : (s.lane i.val).fail.fifo = [] ∨ (s.sash i.val).portFree = false
  · exact if_pos wait
  · exact (if_neg wait).trans ((if_neg (ne_false_of_eq_true on)).trans (if_pos full))

/-- The oldest records of the mismatch FIFO of sash `i` noted as those of line `line` of the fail buffer. -/
def State.recordsTaken (v : State) (i line : Nat) (recs : List Rec16) : State :=
  (v.modSash i fun x => { x with portUsed := true }).modLane i fun l =>
    { l with
      fail := { l.fail with fifo := l.fail.fifo.drop 2, buf := l.fail.buf ++ recs.map (fun r => (line, r)), wline := l.fail.wline + 1 } }

/-- A line of the fail buffer written with the oldest records. -/
def State.failLine (s : State) (i line : Nat) : State :=
  (s.setPadLine i line (((s.lane i).fail.fifo.take 2).flatMap fun r => leBytes r.toNat 16)).recordsTaken i line ((s.lane i).fail.fifo.take 2)

theorem failBufferWrite_line {n : Nat} (site : s.siteOf i.val = some n) (some_ : (s.lane i.val).fail.fifo ≠ [])
    (port : (s.sash i.val).portFree = true) (on : (s.site n).img.failcfg.present = true)
    (room : (s.lane i.val).fail.lines < (s.site n).img.failcfg.fbufLines) :
    exec (.failBufferWrite i) s = .next
      (s.failLine i.val ((s.site n).img.failcfg.fbufFirst + (s.lane i.val).fail.wline % max 1 (s.site n).img.failcfg.fbufLines)) := by
  rw [exec_failBufferWrite, execFailBufferWrite]
  simp only [site]
  exact congrArg _ ((if_neg (not_or.mpr ⟨some_, ne_false_of_eq_true port⟩)).trans
    ((if_neg (ne_false_of_eq_true on)).trans (if_neg (Nat.not_le.mpr room))))

end

theorem recordsTaken_frame (v : State) (i line : Nat) (recs : List Rec16) :
    let t := v.recordsTaken i line recs
    let p := (v.lane i).fail
    (t.lane i).fail.fifo = p.fifo.drop 2 ∧ (t.lane i).fail.buf = p.buf ++ recs.map (fun r => (line, r)) ∧
      (t.lane i).fail.wline = p.wline + 1 ∧ (t.sash i).portUsed = true ∧ t.mem = v.mem ∧ ∀ j, j ≠ i → t.lane j = v.lane j := by
  intro t p
  have lane : t.lane i = { v.lane i with
      fail := { p with fifo := p.fifo.drop 2, buf := p.buf ++ recs.map (fun r => (line, r)), wline := p.wline + 1 } } :=
    State.modLane_lane_same ..
  have sash : t.sash i = { v.sash i with portUsed := true } :=
    (State.modSash_sash v i (fun x => { x with portUsed := true }) i).trans (if_pos rfl)
  rw [lane, sash]
  exact ⟨rfl, rfl, rfl, rfl, rfl, fun j hj => (State.lane_setLane ..).trans (if_neg hj)⟩

theorem failLine_frame (s : State) (i line : Nat) :
    let t := s.failLine i line
    let p := (s.lane i).fail
    (t.lane i).fail.fifo = p.fifo.drop 2 ∧ (t.lane i).fail.buf = p.buf ++ (p.fifo.take 2).map (fun r => (line, r)) ∧
      (t.lane i).fail.wline = p.wline + 1 ∧ (t.sash i).portUsed = true ∧
      t.mem = (s.setPadLine i line ((p.fifo.take 2).flatMap fun r => leBytes r.toNat 16)).mem ∧ ∀ j, j ≠ i → t.lane j = s.lane j := by
  have lanes := lane_of_lanes (State.setPadLine_lanes s i line (((s.lane i).fail.fifo.take 2).flatMap fun r => leBytes r.toNat 16))
  have frame := recordsTaken_frame
    (s.setPadLine i line (((s.lane i).fail.fifo.take 2).flatMap fun r => leBytes r.toNat 16)) i line ((s.lane i).fail.fifo.take 2)
  simp only [lanes] at frame
  exact frame

theorem failCloseEnd_closes (s : State) (n : Nat) :
    ((s.failCloseEnd n).site n).fl.closing = false ∧ ((s.failCloseEnd n).site n).fl.open_ = false := by
  unfold State.failCloseEnd
  extract_lets t t1 hdr t2
  have closed : t1.site n = { t.site n with fl := { (t.site n).fl with open_ := false, closing := false, reopened := false } } :=
    State.modSite_site_same ..
  have written : t2.site n = t1.site n := by
    unfold t2
    split
    · exact State.site_of_sites (State.memWrite_sites ..) n
    · rfl
  have site : (t2.postFailSet n Code.ST_OK 1 4).site n = t1.site n := (State.site_of_sites (State.postFailSet_sites ..) n).trans written
  rw [site, closed]
  exact ⟨rfl, rfl⟩

section
variable {s : State} {n : Fin 16}

/-- Nothing of the site's fail records is left on the lanes. -/
theorem failIdle_iff (s : State) (ls : List Nat) :
    (∀ i ∈ ls, (s.lane i).fail.fifo = [] ∧ (s.lane i).fail.buf = []) ↔
      ¬ls.any (fun i => (s.lane i).fail.fifo != [] || (s.lane i).fail.buf != []) = true := by
  simp

theorem failClose_waits
    (h : (s.site n.val).fl.closing = false ∨ s.failWorms (s.site n.val).img.sashes = true ∨
      ¬∀ i ∈ (s.site n.val).img.sashes, (s.lane i).fail.fifo = [] ∧ (s.lane i).fail.buf = []) :
    exec (.failClose n) s = .next s := by
  rw [failIdle_iff, not_not] at h
  rw [exec_failClose, execFailClose]
  exact congrArg _ (if_pos h)

theorem failClose_closes (closing : (s.site n.val).fl.closing = true) (worms : s.failWorms (s.site n.val).img.sashes = false)
    (idle : ∀ i ∈ (s.site n.val).img.sashes, (s.lane i).fail.fifo = [] ∧ (s.lane i).fail.buf = []) :
    exec (.failClose n) s = .next (s.failCloseEnd n.val) := by
  rw [exec_failClose, execFailClose]
  exact congrArg _ (if_neg (not_or.mpr ⟨ne_false_of_eq_true closing, not_or.mpr ⟨ne_true_of_eq_false worms, (failIdle_iff s _).mp idle⟩⟩))

end

/-! ### The rows of a trigger unit -/

theorem trigRecordStore_waits {s : State} {i : Fin 64} (h : (s.trig i.val).fifo = [] ∨ s.trigPort i.val = false) :
    exec (.trigRecordStore i) s = .next s := by
  rw [exec_trigRecordStore, execTrigRecordStore]
  exact congrArg _ (if_pos h)

/-- The trigger unit of sash `i` as `u`, and the sash's port step used. -/
def State.unitStepped (v : State) (i : Nat) (u : Trig) : State := (v.setTrig i u).modSash i fun x => { x with portUsed := true }

theorem unitStepped_frame (v : State) (i : Nat) (u : Trig) :
    let t := v.unitStepped i u
    t.trig i = u ∧ (t.sash i).portUsed = true ∧ t.mem = v.mem ∧ t.ring = v.ring ∧
      ∀ j, j ≠ i → t.trig j = v.trig j ∧ t.sash j = v.sash j := by
  intro t
  have sash : t.sash i = { v.sash i with portUsed := true } :=
    (State.modSash_sash (v.setTrig i u) i (fun x => { x with portUsed := true }) i).trans (if_pos rfl)
  rw [sash]
  exact ⟨(State.trig_setTrig ..).trans (if_pos rfl), rfl, rfl, rfl, fun j hj =>
    ⟨(State.trig_setTrig ..).trans (if_neg hj), (State.modSash_sash _ i _ j).trans (if_neg hj)⟩⟩

/-- The oldest trigger records written to a line of the record store. -/
def State.trigLine (s : State) (i : Nat) : State :=
  let u := s.trig i
  (s.setPadLine i (u.cfg.tbufFirst + u.written / 2 % max 1 u.cfg.tbufLines) ((u.fifo.take 2).flatMap fun r => leBytes r.toNat 16)).unitStepped i
    u.storeLine.trim

theorem trigRecordStore_stores {s : State} {i : Fin 64} (h : ¬((s.trig i.val).fifo = [] ∨ s.trigPort i.val = false)) :
    exec (.trigRecordStore i) s = .next (s.trigLine i.val) := by
  rw [exec_trigRecordStore, execTrigRecordStore]
  exact congrArg _ (if_neg h)

theorem trigLine_frame (s : State) (i : Nat) :
    let u := s.trig i
    let t := s.trigLine i
    t.trig i = u.storeLine.trim ∧ (t.sash i).portUsed = true ∧
      t.mem = (s.setPadLine i (u.cfg.tbufFirst + u.written / 2 % max 1 u.cfg.tbufLines)
        ((u.fifo.take 2).flatMap fun r => leBytes r.toNat 16)).mem ∧
      ∀ j, j ≠ i → t.trig j = s.trig j ∧ t.sash j = s.sash j := by
  intro u t
  have line := State.setPadLine_trigs s i (u.cfg.tbufFirst + u.written / 2 % max 1 u.cfg.tbufLines)
    ((u.fifo.take 2).flatMap fun r => leBytes r.toNat 16)
  have line' := State.setPadLine_sashes s i (u.cfg.tbufFirst + u.written / 2 % max 1 u.cfg.tbufLines)
    ((u.fifo.take 2).flatMap fun r => leBytes r.toNat 16)
  obtain ⟨trig, port, mem, -, others⟩ := unitStepped_frame (s.setPadLine i (u.cfg.tbufFirst + u.written / 2 % max 1 u.cfg.tbufLines)
    ((u.fifo.take 2).flatMap fun r => leBytes r.toNat 16)) i u.storeLine.trim
  exact ⟨trig, port, mem, fun j hj => ⟨(others j hj).1.trans (trig_of_trigs line j), (others j hj).2.trans (sash_congr line' j)⟩⟩

section
variable {s : State} {i : Fin 64}

theorem trigSpillChunk_waits (h : (s.trig i.val).cfg.spill = false ∨ (s.trig i.val).stage = [] ∨ (s.sash i.val).portFree = false) :
    exec (.trigSpillChunk i) s = .next s := by
  rw [exec_trigSpillChunk, execTrigSpillChunk]
  exact congrArg _ (if_pos h)

/-- The chunk of staged records that trigger unit `i` sends, pads behind the records of a flush. -/
def State.spillBytes (s : State) (i : Nat) : List Byte :=
  (List.range 32).flatMap fun j => leBytes (match (s.chunkRecs i).find? (·.1 == (s.trig i).sent + j) with | some e => e.2.toNat | none => 0) 16

theorem trigSpillChunk_eq (h : ¬((s.trig i.val).cfg.spill = false ∨ (s.trig i.val).stage = [] ∨ (s.sash i.val).portFree = false)) :
    exec (.trigSpillChunk i) s = .next
      ((s.newWorm i.val 1 8 (s.storePlace i.val (s.trig i.val).sent) (BitVec.allOnes 64)
        ((List.range 8).map fun j => BitVec.ofNat 512 (fld (s.spillBytes i.val) (64 * j) 64)) (.spill i.val)).unitStepped i.val
        ({ s.trig i.val with
            stage := (s.trig i.val).stage.drop 32, store := (s.trig i.val).store ++ s.chunkRecs i.val,
            sent := (s.trig i.val).sent + 32 } : Trig).trim) := by
  obtain ⟨f, hf⟩ : ∃ f, execTrigSpillChunk = f := ⟨_, rfl⟩
  rw [exec_trigSpillChunk, hf]
  delta execTrigSpillChunk at hf
  rw [← hf]
  exact congrArg _ (if_neg h)

theorem trigSpillChunk_spills (h : ¬((s.trig i.val).cfg.spill = false ∨ (s.trig i.val).stage = [] ∨ (s.sash i.val).portFree = false)) :
    let u := s.trig i.val
    ∃ t w, exec (.trigSpillChunk i) s = .next t ∧ t.ring.worms = s.ring.worms ++ [w] ∧ w.typ = 1 ∧ w.len = 8 ∧ w.src = i.val ∧
      w.addr = BitVec.ofNat 40 (s.storePlace i.val u.sent) ∧ (t.sash i.val).portUsed = true ∧
      t.trig i.val = ({ u with stage := u.stage.drop 32, store := u.store ++ s.chunkRecs i.val, sent := u.sent + 32 } : Trig).trim := by
  intro u
  generalize hb : (List.range 8).map (fun j => BitVec.ofNat 512 (fld (s.spillBytes i.val) (64 * j) 64)) = pay
  obtain ⟨v, hv⟩ : ∃ v, s.newWorm i.val 1 8 (s.storePlace i.val u.sent) (BitVec.allOnes 64) pay (.spill i.val) = v := ⟨_, rfl⟩
  obtain ⟨trig, port, -, ring, -⟩ := unitStepped_frame v i.val
    ({ u with stage := u.stage.drop 32, store := u.store ++ s.chunkRecs i.val, sent := u.sent + 32 } : Trig).trim
  have worms : v.ring.worms = s.ring.worms ++ [_] := congrArg (fun t : State => t.ring.worms) hv.symm
  refine ⟨_, _, (trigSpillChunk_eq h).trans (by rw [hb, hv]), (congrArg RingState.worms ring).trans worms, rfl, rfl, rfl, rfl, port, trig⟩

theorem postOver_iff (u : Trig) (g : Nat) : u.postOver g = true ↔ u.state = .post ∧ u.cfg.postSlots ≠ 0 ∧ u.trigGrid + u.cfg.postSlots < g := by
  unfold Trig.postOver
  simp only [Bool.and_eq_true, beq_iff_eq, bne_iff_ne, decide_eq_true_iff, and_assoc]

end

/-- Settles O33: the fail path and the trigger unit each take a free port step, and leave the rest alone. -/
theorem failAndTriggerRecordsLeaveInOrder : Obligations.FailAndTriggerRecordsLeaveInOrder := by
  unfold Obligations.FailAndTriggerRecordsLeaveInOrder
  refine ⟨⟨fun s i => ⟨failRows_noSite, failBufferWrite_waits, failChunks_wait⟩, fun s i n site some_ port => ?_,
    fun s i n site port => ?_, fun s n => ⟨failClose_waits, fun closing worms idle => ⟨failClose_closes closing worms idle, failCloseEnd_closes s n.val⟩⟩⟩,
    fun s i => ⟨trigRecordStore_waits, fun h => ⟨_, trigRecordStore_stores h, trigLine_frame s i.val⟩⟩,
    fun s i => ⟨trigSpillChunk_waits, trigSpillChunk_spills⟩, fun s i => ?_, fun s i p => ?_⟩
  · refine ⟨fun off => ⟨_, failBufferWrite_dropped site some_ port off, ?_, rfl, rfl, fun j hj => ?_⟩, failBufferWrite_full site,
      fun on room => ⟨_, failBufferWrite_line site some_ port on room, failLine_frame s i.val _⟩⟩
    · exact congrArg Lane.fail (s.modLane_lane_same i.val fun l => { l with fail := { l.fail with fifo := l.fail.fifo.drop 2 } })
    · exact (State.lane_setLane ..).trans (if_neg hj)
  · refine ⟨fun h => ?_, fun few open_ => ?_, fun some_ => ?_, failSend_buf s n i.val⟩
    · rw [failChunkSend_eq site, if_pos h, streamTakes_free port]
    · rw [failChunkSend_eq site, if_neg]
      rintro (full | ⟨closing, empty, -⟩)
      · exact absurd full (Nat.not_le.mpr few)
      · exact open_ ⟨closing, empty⟩
    · rw [failFlushTimeout_eq site, if_neg some_, streamTakes_free port]
  · have over_ := postOver_iff (s.trig i.val) (s.trig i.val).slot
    rw [exec_postSlotsExpiry, execPostSlotsExpiry]
    exact ⟨fun h => congrArg _ (if_pos (over_.mpr h)), fun h => congrArg _ (if_neg (mt over_.mp h))⟩
  · refine ⟨_, rfl, ?_, fun q hq => ?_⟩
    · exact (tget_tset ..).trans (if_pos rfl)
    · exact (tget_tset ..).trans (if_neg hq)

end Sys2Proof.Machine
end

section
set_option Elab.async false
/-! What leaves the `cas` of the unit as they are. -/

namespace Sys2Proof.Machine

theorem State.retain_cas (s : State) (n) : (s.retain n).cas = s.cas := by
  grind [State.retain, State.setTicket_cas]

theorem State.setIrq_cas (s : State) (i) : (s.setIrq i).cas = s.cas := by
  grind [State.setIrq]

theorem State.postEvent_cas (s : State) (e') : (s.postEvent e').cas = s.cas := by
  grind [State.postEvent, State.retain_cas, State.setIrq_cas]

theorem State.post_cas (s : State) (kind st site obj hi data) : (s.post kind st site obj hi data).cas = s.cas := by
  grind [State.post, State.postEvent_cas]

end Sys2Proof.Machine
end

section
set_option Elab.async false
/-! The dispatcher's own events (R289, R297, R301 to R305, R307). -/

namespace Sys2Proof.Machine

theorem exec_jobPreempt (k : Fin 12) (c : Fin 8) (n : Nat) (s : State) : exec (.jobPreempt k c n) s = execJobPreempt k c n s := rfl
theorem exec_budgetStop (k : Fin 12) (c : Fin 8) (s : State) : exec (.budgetStop k c) s = execBudgetStop k c s := rfl
theorem exec_xferComplete (k : Fin 12) (s : State) : exec (.xferComplete k) s = execXferComplete k s := rfl

section
variable {s : State} {k : Fin 12} {c : Fin 8}

/-- R303: task `t` takes the core from the job on it. -/
def State.takesCore (s : State) (k c : Nat) (t : TaskCtx) : Prop :=
  t.cas = k ∧ s.mayRun c t = true ∧ s.victim t = some c ∧ (s.core k c).rep = 1

theorem jobPreempt_takes {n m : Nat} {t : TaskCtx} (task : s.task n = some t) (issuing : s.issuing k.val c.val = some m)
    (h : s.takesCore k.val c.val t) :
    exec (.jobPreempt k c n) s = .next ((((s.leaveCore k.val c.val m).makeReady m true).runTask k.val c.val n).settleCas k.val) := by
  rw [exec_jobPreempt, execJobPreempt]
  simp only [task, issuing]
  exact congrArg _ (if_pos h)

theorem jobPreempt_stays {n : Nat} (h : s.issuing k.val c.val = none ∨ ∀ t, s.task n = some t → ¬s.takesCore k.val c.val t) :
    exec (.jobPreempt k c n) s = .next s := by
  rw [exec_jobPreempt, execJobPreempt]
  cases task : s.task n with
  | none => rfl
  | some t =>
    cases issuing : s.issuing k.val c.val with
    | none => rfl
    | some m => exact congrArg _ (if_neg (h.resolve_left (by simp [issuing]) t task))

/-- R304: a DEADLINE job has used its budget. -/
def State.budgetOver (s : State) (k c : Nat) (t : TaskCtx) : Prop := t.deadlineClass = true ∧ t.budget ≤ t.used ∧ (s.core k c).rep = 1

theorem budgetStop_stops {n : Nat} {t : TaskCtx} (on : s.onCore k.val c.val = some n) (task : s.task n = some t)
    (h : s.budgetOver k.val c.val t) : exec (.budgetStop k c) s = .next ((s.endTask n Code.TF_JOB_OVERRUN).settleCas k.val) := by
  rw [exec_budgetStop, execBudgetStop]
  simp only [on, task]
  exact congrArg _ (if_pos h)

theorem budgetStop_stays (h : ∀ n t, s.onCore k.val c.val = some n → s.task n = some t → ¬s.budgetOver k.val c.val t) :
    exec (.budgetStop k c) s = .next s := by
  rw [exec_budgetStop, execBudgetStop]
  cases on : s.onCore k.val c.val with
  | none => rfl
  | some n =>
    dsimp only
    cases task : s.task n with
    | none => rfl
    | some t => exact congrArg _ (if_neg (h n t on task))

/-! ### Transfers (R297) -/

theorem xferComplete_none (h : (s.casm k.val).xfers = []) : exec (.xferComplete k) s = .next s := by
  rw [exec_xferComplete, execXferComplete]
  simp only [h]

section
variable {x : XferPend} {rest : List XferPend} (h : (s.casm k.val).xfers = x :: rest)

include h

theorem xferComplete_waits (out : x.sent = false ∨ x.left ≠ 0) : exec (.xferComplete k) s = .next s := by
  rw [exec_xferComplete, execXferComplete]
  simp only [h]
  exact congrArg _ (if_pos out)

theorem xferComplete_ends (sent : x.sent = true) (left : x.left = 0) :
    let u := s.modCasm k.val fun c => { c with xfers := rest }
    exec (.xferComplete k) s = .next
      ((match x.bad with
        | some (code, a) => u.faultTask x.poster code (u.posterPc k.val x.poster) a
        | none => (u.setFlags x.task (BitVec.ofNat 32 (2 ^ x.flag))).settleCas k.val).xferIssue k.val) := by
  have ended : ¬(x.sent = false ∨ x.left ≠ 0) := not_or.mpr ⟨ne_false_of_eq_true sent, not_not.mpr left⟩
  rw [exec_xferComplete, execXferComplete]
  simp only [h]
  exact congrArg _ (if_neg ended)

end

end

/-! ### An ended task -/

/-- The casement of an ended task, of state `t`, without it. -/
def Casement.without (c : Casement) (n : Nat) (t : TaskCtx) : Casement :=
  { c with
    running := tmapv none (fun _ r => if r = some n then none else r) c.running
    ready := c.ready.filter (· != n)
    delays := c.delays.filter (· != n)
    evmap := c.evmap.filter (fun e => e.2.1 != n)
    accq := tmapv [] (fun _ l => l.map fun d => if d.task = n then { d with task := noTask } else d) c.accq
    xfers := c.xfers.map fun x => if x.poster = n then { x with poster := noTask } else x
    accStall := match t.state with | .running q => c.accStall.filter (·.1 != q) | _ => c.accStall }

theorem endTask_cas {s : State} {n : Nat} {t : TaskCtx} (h : s.task n = some t) (st : Status) :
    (s.endTask n st).cas = ((s.setTask n none).modCasm t.cas fun c => c.without n t).cas := by
  unfold State.endTask
  simp only [h]
  exact State.post_cas ..

theorem endTask_task {s : State} {n : Nat} {t : TaskCtx} (h : s.task n = some t) (st : Status) (m : Nat) :
    (s.endTask n st).task m = if m = n then none else s.task m := by
  unfold State.task
  rw [endTask_cas h st]
  exact State.task_setTask s n none m

theorem endTask_casm {s : State} {n : Nat} {t : TaskCtx} (h : s.task n = some t) (st : Status) :
    (s.endTask n st).casm t.cas = (s.casm t.cas).without n t := by
  unfold State.casm
  rw [endTask_cas h st]
  exact (State.casm_setCasm _ t.cas _ t.cas).trans (if_pos rfl)

/-- Settles O44: each event acts on the front of its list, and an ended task is in no list. -/
theorem dispatcherEventsMoveTasks : Obligations.DispatcherEventsMoveTasks := by
  unfold Obligations.DispatcherEventsMoveTasks
  refine ⟨fun s k => rfl, fun s k c n => ⟨fun t m task issuing => jobPreempt_takes task issuing, jobPreempt_stays⟩,
    fun s k c => ⟨fun n t on task => budgetStop_stops on task, budgetStop_stays⟩,
    fun s k => ⟨xferComplete_none, fun x rest h => ⟨xferComplete_waits h, fun sent left => ⟨fun good => ?_, fun b bad => ?_⟩⟩⟩,
    fun s n t st h _ => ⟨?_, fun m hm => ?_, ?_, ?_⟩⟩
  · rw [xferComplete_ends h sent left, good]
  · rw [xferComplete_ends h sent left, bad]
  · rw [endTask_task h, if_pos rfl]
  · rw [endTask_task h, if_neg hm]
  · rw [endTask_casm h]
    simp [Casement.without]
  · rw [endTask_casm h]
    simp [Casement.without]

end Sys2Proof.Machine
end

section
set_option Elab.async false
/-! Host registers, BAR0 accesses, held events and ticket retention (R416 to R418, R429, R432, R434). -/

namespace Sys2Proof.Machine

theorem exec_hifIrqStatusClear (v : BitVec 32) (s : State) : exec (.hifIrqStatusClear v) s = execHifIrqStatusClear v s := rfl
theorem exec_hifIrqMaskWrite (v : BitVec 32) (s : State) : exec (.hifIrqMaskWrite v) s = execHifIrqMaskWrite v s := rfl
theorem exec_hifWinBaseWrite (v : BitVec 32) (s : State) : exec (.hifWinBaseWrite v) s = execHifWinBaseWrite v s := rfl
theorem exec_hifEvqConsWrite (v : BitVec 32) (s : State) : exec (.hifEvqConsWrite v) s = execHifEvqConsWrite v s := rfl
theorem exec_hifEvqCtlWrite (v : BitVec 32) (s : State) : exec (.hifEvqCtlWrite v) s = execHifEvqCtlWrite v s := rfl
theorem exec_bar0BadAccess (off : BitVec 16) (n : Nat) (w : Bool) (s : State) :
    exec (.bar0BadAccess off n w) s = execBar0BadAccess off n w s := rfl
theorem exec_registerWrite (off : BitVec 16) (n : Nat) (v : BitVec 64) (s : State) :
    exec (.registerWrite off n v) s = execRegisterWrite off n v s := rfl
theorem exec_eventPost (s : State) : exec .eventPost s = execEventPost s := rfl
theorem exec_ticketExpiry (tk : BitVec 32) (s : State) : exec (.ticketExpiry tk) s = execTicketExpiry tk s := rfl

/-! ### Messages on unmasking (R417, R432) -/

/-- Messages on a list of vectors: those not on vector 0 all go, one on vector 0 goes outside HOLDOFF and is held within. -/
theorem foldl_sendMsix (now : Nat) (vs : List Nat) (h : HostState) :
    ∃ l t held, vs.foldl (fun h v => h.sendMsix now v) h = { h with msix := l ++ h.msix, msiAt := t, msiHeld := held } ∧
      (l.filter (· != 0)).length = (vs.filter (· != 0)).length ∧ (0 ∉ vs → 0 ∉ l ∧ held = h.msiHeld) ∧
      (0 ∈ vs → h.heldOff now = true → 0 ∉ l ∧ held = true) ∧ (0 ∈ vs → h.heldOff now = false → 0 ∈ l) := by
  induction vs generalizing h with
  | nil => exact ⟨[], h.msiAt, h.msiHeld, rfl, rfl, fun _ => ⟨by simp, rfl⟩, by simp, by simp⟩
  | cons v vs ih =>
    by_cases hv : v = 0
    · subst hv
      cases off : h.heldOff now with
      | true =>
        have step : h.sendMsix now 0 = { h with msiHeld := true } := by simp [HostState.sendMsix, off]
        obtain ⟨l, t, held, eq, len, none, within, -⟩ := ih { h with msiHeld := true }
        refine ⟨l, t, held, by rw [List.foldl_cons, step, eq], by simpa using len, by simp, fun _ _ => ?_, by simp⟩
        by_cases more : 0 ∈ vs
        · exact within more off
        · exact none more
      | false =>
        have step : h.sendMsix now 0 = { h with msix := 0 :: h.msix, msiAt := some now, msiHeld := false } := by
          simp [HostState.sendMsix, off]
        obtain ⟨l, t, held, eq, len, -⟩ := ih { h with msix := 0 :: h.msix, msiAt := some now, msiHeld := false }
        exact ⟨l ++ [0], t, held, by rw [List.foldl_cons, step, eq]; simp, by simpa using len, by simp, by simp, by simp⟩
    · have step : h.sendMsix now v = { h with msix := v :: h.msix } := by simp [HostState.sendMsix, hv]
      obtain ⟨l, t, held, eq, len, none, within, outside⟩ := ih { h with msix := v :: h.msix }
      have hv' : ¬0 = v := fun e => hv e.symm
      refine ⟨l ++ [v], t, held, by rw [List.foldl_cons, step, eq]; simp, by simp [len, hv], fun h0 => ?_, fun h0 off => ?_, fun h0 off => ?_⟩
      · simpa [hv'] using none (by simpa [hv'] using h0)
      · simpa [hv'] using within (by simpa [hv'] using h0) off
      · simpa using Or.inl (outside (by simpa [hv'] using h0) off)

theorem getBit_and_low (v : BitVec 32) {i : Nat} (hi : i < 20) : getBit (v &&& 0x000FFFFF) i = getBit v i := by
  have low : (0x000FFFFF : BitVec 32).getLsbD i = true := by
    interval_cases i <;> rfl
  rw [getBit_eq, getBit_eq, BitVec.getLsbD_and, low, Bool.and_true]

/-! ### The event ring's control word (R432) -/

theorem sendMsix_evqCtl (h : HostState) (now v : Nat) : (h.sendMsix now v).evqCtl = h.evqCtl := by
  unfold HostState.sendMsix
  split
  · rfl
  split <;> rfl

theorem setIrq_evqCtl (h : HostState) (now i : Nat) : (h.setIrq now i).evqCtl = h.evqCtl := by
  unfold HostState.setIrq
  extract_lets u
  split
  · rfl
  split
  · rfl
  · exact sendMsix_evqCtl ..

theorem writeEvent_evqCtl (h : HostState) (now : Nat) (e : Event) : (h.writeEvent now e).evqCtl = h.evqCtl := by
  unfold HostState.writeEvent
  exact setIrq_evqCtl ..

theorem retain_evqCtl (s : State) (n : BitVec 32) : (s.retain n).host.evqCtl = s.host.evqCtl := by
  unfold State.retain
  split <;> rfl

theorem postEvent_evqCtl (s : State) (e : Event) : (s.postEvent e).host.evqCtl = s.host.evqCtl := by
  unfold State.postEvent
  split
  · have written : (s.host.writeEvent s.power.ps e).evqCtl = s.host.evqCtl := writeEvent_evqCtl ..
    dsimp only
    split
    · exact (retain_evqCtl ..).trans written
    · exact written
  split
  · dsimp only
    split
    · exact setIrq_evqCtl ..
    · rfl
  · rfl

theorem ringEnabled_evqCtl (s : State) : s.ringEnabled.host.evqCtl = s.host.evqCtl := by
  unfold State.ringEnabled
  extract_lets host t
  have ready : t.host.evqCtl = s.host.evqCtl := by
    unfold t
    split
    · exact postEvent_evqCtl ..
    · rfl
  split
  · exact (postEvent_evqCtl ..).trans ready
  · exact ready

theorem ringEnabled_nothing {s : State} (fw : s.host.fwEvent = false) (board : s.host.boardEvent = false) : s.ringEnabled = s := by
  unfold State.ringEnabled
  simp [fw, board]

theorem ringEnabled_ctl {s : State} (c p : BitVec 32) (fw : s.host.fwEvent = false) (board : s.host.boardEvent = false) :
    ({ s with host := { s.host with evqCtl := c, evqProd := p } } : State).ringEnabled =
      { s with host := { s.host with evqCtl := c, evqProd := p } } :=
  ringEnabled_nothing fw board

theorem evqCtlWrite_quiet {s : State} (v : Nat) (fw : s.host.fwEvent = false) (board : s.host.boardEvent = false) :
    ∃ c, s.evqCtlWrite v = { s with host := { s.host with
      evqCtl := c
      evqProd :=
        let size := if s.host.evqOn then bits s.host.evqCtl.toNat 16 5 else bits v 16 5
        if (v.testBit 31 && decide (6 ≤ size ∧ size ≤ 16)) && !s.host.evqOn then 0x00010000 else s.host.evqProd } } := by
  unfold State.evqCtlWrite
  exact ⟨_, ringEnabled_ctl _ _ fw board⟩

theorem evqCtlWrite_evqCtl (s : State) (v : BitVec 32) :
    (s.evqCtlWrite v.toNat).host.evqCtl =
      (let size := if s.host.evqOn then bits s.host.evqCtl.toNat 16 5 else bits v.toNat 16 5
       BitVec.ofNat 32 ((if getBit v 31 = true ∧ 6 ≤ size ∧ size ≤ 16 then 2 ^ 31 else 0) + size * 2 ^ 16 + v.toNat % 256)) := by
  unfold State.evqCtlWrite
  extract_lets h size en ctl
  have on : b2n en * 2 ^ 31 = if getBit v 31 = true ∧ 6 ≤ size ∧ size ≤ 16 then 2 ^ 31 else 0 := by
    rw [b2n_mul]
    exact if_congr (by simp only [en, getBit, Bool.and_eq_true, decide_eq_true_iff]) rfl rfl
  rw [ringEnabled_evqCtl, ← on]

theorem testBit_enabled {size low : Nat} (hs : size ≤ 16) (hl : low < 256) : (2 ^ 31 + size * 2 ^ 16 + low).testBit 31 = true := by
  rw [Nat.testBit_eq_decide_div_mod_eq]
  exact decide_eq_true (by omega)

section
variable {s : State} {v : BitVec 32} (en : getBit v 31 = true) (lo : 6 ≤ bits v.toNat 16 5) (hi : bits v.toNat 16 5 ≤ 16)
  (off : s.host.evqOn = false)

include en lo hi off

theorem evqCtlWrite_on : (s.evqCtlWrite v.toNat).host.evqOn = true := by
  have low : v.toNat % 256 < 256 := Nat.mod_lt _ (by decide)
  have bit := testBit_enabled hi low
  unfold HostState.evqOn
  rw [evqCtlWrite_evqCtl, off, getBit_eq]
  dsimp only
  rw [if_neg Bool.false_ne_true, if_pos ⟨en, lo, hi⟩, BitVec.getLsbD_ofNat, bit]
  rfl

theorem evqCtlWrite_prod (fw : s.host.fwEvent = false) (board : s.host.boardEvent = false) :
    (s.evqCtlWrite v.toNat).host.evqProd = 0x00010000 := by
  obtain ⟨c, quiet⟩ := evqCtlWrite_quiet v.toNat fw board
  have fresh : (v.toNat.testBit 31 && decide (6 ≤ bits v.toNat 16 5 ∧ bits v.toNat 16 5 ≤ 16)) = true := by
    rw [Bool.and_eq_true, decide_eq_true_iff]
    exact ⟨en, lo, hi⟩
  rw [quiet]
  simp only [off, Bool.false_eq_true, if_false, fresh, Bool.not_false, Bool.and_self, if_true]

end

/-! ### BAR0 (R416) -/

theorem bar0Ok_iff (off n : Nat) : bar0Ok off n = true ↔ (n = 4 ∧ off % 4 = 0) ∨ (n = 8 ∧ off % 8 = 0) := by
  simp only [bar0Ok, Bool.or_eq_true, Bool.and_eq_true, beq_iff_eq]

theorem registerWrite_eq {s : State} (up : s.host.linkUp = true) (off : BitVec 16) (n : Nat) (v : BitVec 64) :
    exec (.registerWrite off n v) s = .next
      (if bar0Ok off.toNat n = false then s.hifErr
       else if n = 8 then (s.write32 off.toNat (v.toNat % 2 ^ 32)).write32 (off.toNat + 4) (v.toNat / 2 ^ 32)
       else s.write32 off.toNat (v.toNat % 2 ^ 32)) := by
  rw [exec_registerWrite, execRegisterWrite, if_neg (ne_false_of_eq_true up)]

theorem leNat_leBytes (v n : Nat) : leNat (leBytes v n) = v % 256 ^ n := by
  induction n generalizing v with
  | zero => simp [leBytes, leNat, Nat.mod_one]
  | succ n ih =>
    show (BitVec.ofNat 8 v).toNat + 256 * leNat (leBytes (v / 256) n) = _
    have digits := Nat.mod_mul (x := v) (a := 256) (b := 256 ^ n)
    rw [ih, BitVec.toNat_ofNat, pow_succ' 256 n, digits]

theorem tslice_tfill (t : Tab Byte) (k : Nat) (vs : List Byte) : tslice 0 (tfill 0 t k vs) k vs.length = vs := by
  induction vs generalizing t k with
  | nil => rfl
  | cons v vs ih =>
    show tget 0 (tfill 0 (tset 0 t k v) (k + 1) vs) k :: tslice 0 (tfill 0 (tset 0 t k v) (k + 1) vs) (k + 1) vs.length = v :: vs
    rw [ih, tget_tfill_lt 0 vs _ _ _ (Nat.lt_succ_self k), tget_tset, if_pos rfl]

section
variable {ch o : Nat} (hc : ch < 16) (ho : o < 0x100)

include hc ho

theorem chanOffset :
    (0x1000 ≤ 0x1000 + 0x400 * ch + o ∧ 0x1000 + 0x400 * ch + o < 0x5000) ∧
      (0x1000 + 0x400 * ch + o - 0x1000) / 0x400 = ch ∧ (0x1000 + 0x400 * ch + o - 0x1000) % 0x400 = o := by
  omega

theorem write32_cmd (s : State) (v : Nat) :
    s.write32 (0x1000 + 0x400 * ch + o) v = s.modChan ch fun c => { c with cmd := tfill 0 c.cmd o (leBytes v 4) } := by
  obtain ⟨range, chan, place⟩ := chanOffset hc ho
  unfold State.write32
  dsimp only
  rw [if_neg (by omega), if_neg (by omega), if_neg (by omega), if_neg (by omega), if_neg (by omega), if_neg (by omega), if_neg (by omega),
    if_pos range, chan, place, if_pos ho]

theorem read32_cmd (s : State) : s.read32 (0x1000 + 0x400 * ch + o) = BitVec.ofNat 32 (leNat (tslice 0 (s.chan ch).cmd o 4)) := by
  obtain ⟨range, chan, place⟩ := chanOffset hc ho
  unfold State.read32
  dsimp only
  rw [if_neg (by omega), if_neg (by omega), if_neg (by omega), if_neg (by omega), if_neg (by omega), if_neg (by omega), if_neg (by omega),
    if_neg (by omega), if_neg (by omega), if_neg (by omega), if_neg (by omega), if_neg (by omega), if_neg (by omega),
    if_pos range, chan, place, if_pos ho]

end

/-! ### Held events and tickets (R429, R434) -/

theorem sendMsix_keeps (h : HostState) (now v : Nat) :
    (h.sendMsix now v).written = h.written ∧ (h.sendMsix now v).irqStatus = h.irqStatus := by
  unfold HostState.sendMsix
  split
  · exact ⟨rfl, rfl⟩
  split
  · exact ⟨rfl, rfl⟩
  · exact ⟨rfl, rfl⟩

theorem setIrq_keeps (h : HostState) (now i : Nat) (hi : i < 32) :
    (h.setIrq now i).written = h.written ∧ getBit (h.setIrq now i).irqStatus i = true := by
  unfold HostState.setIrq
  extract_lets u
  split
  · next on => exact ⟨rfl, on⟩
  have set : getBit u.irqStatus i = true := getBit_putBit_same _ _ _ hi
  split
  · exact ⟨rfl, set⟩
  · obtain ⟨written, status⟩ := sendMsix_keeps u now (irqVector i)
    exact ⟨written, by rw [status]; exact set⟩

theorem writeEvent_writes (h : HostState) (now : Nat) (e : Event) :
    (h.writeEvent now e).written = (bits h.evqProd.toNat 0 16, e) :: h.written ∧ getBit (h.writeEvent now e).irqStatus 16 = true := by
  unfold HostState.writeEvent
  exact setIrq_keeps _ now 16 (by decide)

theorem retain_keeps (s : State) (n : BitVec 32) :
    (s.retain n).host.held = s.host.held ∧ (s.retain n).host.written = s.host.written ∧ (s.retain n).host.irqStatus = s.host.irqStatus := by
  unfold State.retain
  split
  · exact ⟨rfl, rfl, rfl⟩
  · exact ⟨rfl, rfl, rfl⟩

theorem eventPost_posts {s : State} {e : Event} {rest : List Event} (held : s.host.held = e :: rest) (room : s.host.evqRoom = true) :
    ∃ t : State, exec .eventPost s = .next t ∧ t.host.held = rest ∧
      t.host.written = (bits s.host.evqProd.toNat 0 16, e) :: s.host.written ∧ getBit t.host.irqStatus 16 = true := by
  obtain ⟨written, status⟩ := writeEvent_writes s.host s.power.ps e
  have post : exec .eventPost s = .next
      (if e.kind = 0x01 then ({ s with host := { s.host.writeEvent s.power.ps e with held := rest } } : State).retain e.ticket
       else { s with host := { s.host.writeEvent s.power.ps e with held := rest } }) := by
    rw [exec_eventPost, execEventPost]
    simp only [held, room, if_true]
  refine ⟨_, post, ?_⟩
  split
  · obtain ⟨held', written', status'⟩ := retain_keeps ({ s with host := { s.host.writeEvent s.power.ps e with held := rest } } : State) e.ticket
    rw [held', written', status']
    exact ⟨rfl, written, status⟩
  · exact ⟨rfl, written, status⟩

theorem eventPost_waits {s : State} (h : s.host.held = [] ∨ s.host.evqRoom = false) : exec .eventPost s = .next s := by
  rw [exec_eventPost, execEventPost]
  cases held : s.host.held with
  | nil => rfl
  | cons e rest => exact congrArg _ (if_neg (ne_true_of_eq_false (h.resolve_left (by simp [held]))))

theorem hifIrqMaskWrite_moves (s : State) (v : BitVec 32) (up : s.host.linkUp = true) :
    ∃ t : State, exec (.hifIrqMaskWrite v) s = .next t ∧ t.host.irqMask = v &&& 0x000FFFFF ∧ t.host.irqStatus = s.host.irqStatus ∧
      (let sent := (List.range 20).filter fun i => getBit s.host.irqStatus i && getBit s.host.irqMask i && !getBit v i
       ∃ l, t.host.msix = l ++ s.host.msix ∧ (l.filter (· != 0)).length = (sent.filter fun i => irqVector i != 0).length ∧
         ((sent.any fun i => irqVector i == 0) = false → 0 ∉ l ∧ t.host.msiHeld = s.host.msiHeld) ∧
         ((sent.any fun i => irqVector i == 0) = true → s.host.heldOff s.power.ps = true → 0 ∉ l ∧ t.host.msiHeld = true) ∧
         ((sent.any fun i => irqVector i == 0) = true → s.host.heldOff s.power.ps = false → 0 ∈ l)) ∧
      t = { s with host := { s.host with
        irqMask := t.host.irqMask, msix := t.host.msix, msiAt := t.host.msiAt, msiHeld := t.host.msiHeld } } := by
  obtain ⟨sent, hsent⟩ : ∃ l, (List.range 20).filter (fun i => getBit s.host.irqStatus i && getBit s.host.irqMask i && !getBit v i) = l :=
    ⟨_, rfl⟩
  have unmasked : (List.range 20).filter (fun i => getBit s.host.irqStatus i && getBit s.host.irqMask i && !getBit (v &&& 0x000FFFFF) i) =
      sent := by
    rw [← hsent]
    refine List.filter_congr fun i hi => ?_
    rw [getBit_and_low v (List.mem_range.mp hi)]
  obtain ⟨l, at_, held, eq, len, none, within, outside⟩ :=
    foldl_sendMsix s.power.ps (sent.map irqVector) { s.host with irqMask := v &&& 0x000FFFFF }
  have zero : (sent.any fun i => irqVector i == 0) = true ↔ 0 ∈ sent.map irqVector := by
    simp [List.any_eq_true, List.mem_map]
  have zero' : (sent.any fun i => irqVector i == 0) = false ↔ 0 ∉ sent.map irqVector := by
    rw [← zero, Bool.not_eq_true]
  have write : s.host.irqMaskWrite s.power.ps v =
      { s.host with irqMask := v &&& 0x000FFFFF, msix := l ++ s.host.msix, msiAt := at_, msiHeld := held } := by
    unfold HostState.irqMaskWrite
    simp only [unmasked]
    rw [← List.foldl_map (f := irqVector) (g := fun (h : HostState) v => h.sendMsix s.power.ps v)]
    exact eq
  have run : exec (.hifIrqMaskWrite v) s = .next { s with host := s.host.irqMaskWrite s.power.ps v } := by
    rw [exec_hifIrqMaskWrite, execHifIrqMaskWrite, if_pos up]
  refine ⟨_, run, ?_⟩
  rw [write]
  dsimp only
  rw [hsent]
  refine ⟨rfl, rfl, ⟨l, rfl, ?_, fun h => none (zero'.mp h), fun h => within (zero.mp h), fun h => outside (zero.mp h)⟩, rfl⟩
  rw [len, List.filter_map, List.length_map]
  rfl

/-- Settles O21: a register write is the register's own, and messages go as HOLDOFF allows. -/
theorem hostRegistersAccessesAndEvents : Obligations.HostRegistersAccessesAndEvents := by
  unfold Obligations.HostRegistersAccessesAndEvents
  refine ⟨fun s v up => ⟨?_, hifIrqMaskWrite_moves s v up, ?_, ?_, ⟨_, ?_, evqCtlWrite_evqCtl s v⟩, fun en lo hi off fw board =>
      ⟨_, ?_, evqCtlWrite_prod en lo hi off fw board, evqCtlWrite_on en lo hi off⟩⟩,
    ⟨fun s off size w v up => ?_, fun s off v up => ⟨fun four => ?_, fun eight => ?_⟩, fun s off size w v down => ?_,
      fun s ch o v hc ho _ hv => ?_⟩,
    fun s e rest => eventPost_posts, fun s => eventPost_waits, fun s tk t h => ?_, fun s tk h => ?_⟩
  · rw [exec_hifIrqStatusClear, execHifIrqStatusClear, if_pos up]
    rfl
  · rw [exec_hifWinBaseWrite, execHifWinBaseWrite, if_pos up]
  · rw [exec_hifEvqConsWrite, execHifEvqConsWrite, if_pos up]
  · rw [exec_hifEvqCtlWrite, execHifEvqCtlWrite, if_pos up]
  · rw [exec_hifEvqCtlWrite, execHifEvqCtlWrite, if_pos up]
  · intro ok err
    have ok_iff := bar0Ok_iff off.toNat size
    rw [registerWrite_eq up, exec_bar0BadAccess, execBar0BadAccess, up]
    refine ⟨fun bad => ?_, fun good => ?_⟩
    · rw [Bool.eq_false_iff.mpr (mt ok_iff.mp bad)]
      exact ⟨rfl, rfl⟩
    · rw [ok_iff.mpr good]
      rfl
  · rw [registerWrite_eq up, (bar0Ok_iff off.toNat 4).mpr (Or.inl ⟨rfl, four⟩)]
    rfl
  · rw [registerWrite_eq up, (bar0Ok_iff off.toNat 8).mpr (Or.inr ⟨rfl, eight⟩)]
    rfl
  · rw [exec_bar0BadAccess, execBar0BadAccess, exec_registerWrite, execRegisterWrite, down]
    exact ⟨rfl, rfl⟩
  · have chan := State.chan_setChan s ch { s.chan ch with cmd := tfill 0 (s.chan ch).cmd o (leBytes v 4) }
    have fill := tslice_tfill (s.chan ch).cmd o (leBytes v 4)
    rw [length_leBytes] at fill
    dsimp only
    rw [write32_cmd hc ho, read32_cmd hc ho, State.modChan_eq, chan ch, if_pos rfl, fill, leNat_leBytes, Nat.mod_eq_of_lt (by omega)]
    exact ⟨rfl, fun j hj => (chan j).trans (if_neg hj), rfl⟩
  · rw [exec_ticketExpiry, execTicketExpiry, h]
  · rw [exec_ticketExpiry, execTicketExpiry, h]

end Sys2Proof.Machine
end

section
set_option Elab.async false
/-! Commit words and BAR2 accesses (R158, R159, R418 to R422). -/

namespace Sys2Proof.Machine

theorem exec_bar2Read (off : BitVec 36) (n : Nat) (s : State) : exec (.bar2Read off n) s = execBar2Read off n s := rfl
theorem exec_bar2Write (off : BitVec 36) (d : List (BitVec 8)) (s : State) : exec (.bar2Write off d) s = execBar2Write off d s := rfl
theorem exec_bar2Timeout (n : Nat) (s : State) : exec (.bar2Timeout n) s = execBar2Timeout n s := rfl

/-! ### Commit groups (R158, R159) -/

theorem groupOp_some {s : State} {n : Nat} {g : CommitGroup} (h : tget none s.groups n = some g)
    (f : CommitGroup → Option Status × CommitGroup) : (s.groupOp n f).2 = { s with groups := tset none s.groups n (some (f g).2) } := by
  unfold State.groupOp
  rw [h]

theorem groupOp_none {s : State} {n : Nat} (h : tget none s.groups n = none) (f : CommitGroup → Option Status × CommitGroup) :
    (s.groupOp n f).2 = s := by
  unfold State.groupOp
  rw [h]

/-- An operation on a group replaces the group and nothing else of the unit. -/
theorem groupOp_moves {s : State} {n : Nat} {g g' : CommitGroup} (h : tget none s.groups n = some g)
    {f : CommitGroup → Option Status × CommitGroup} (hf : (f g).2 = g') {c : Instr} (hc : exec c s = .next (s.groupOp n f).2) :
    ∃ t : State, exec c s = .next t ∧ tget none t.groups n = some g' ∧ (∀ j, j ≠ n → tget none t.groups j = tget none s.groups j) ∧
      t = { s with groups := t.groups } := by
  rw [groupOp_some h, hf] at hc
  exact ⟨_, hc, (tget_tset none s.groups n (some g') n).trans (if_pos rfl), fun j hj => (tget_tset none s.groups n (some g') j).trans (if_neg hj), rfl⟩

section
variable {g : CommitGroup}

theorem commit_pending (h : g.pend = true) (running : Bool) : (g.commit running).2 = g := by
  unfold CommitGroup.commit
  rw [if_pos h]

theorem write_pending (h : g.pend = true) (off : Nat) (v : Word) : (g.write off v).2 = g := by
  unfold CommitGroup.write
  rw [if_pos h]

theorem write_idle (h : g.pend = false) (off : Nat) (v : Word) : (g.write off v).2 = { g with shadow := tset 0 g.shadow off v } := by
  unfold CommitGroup.write
  rw [if_neg (ne_true_of_eq_false h)]

variable (idle : g.pend = false)

include idle

theorem commit_eq (running : Bool) :
    (g.commit running).2 =
      match g.cls, running with
      | .s, true => g
      | .h, true => { g with pend := true }
      | _, _ => g.apply := by
  unfold CommitGroup.commit
  rw [if_neg (ne_true_of_eq_false idle)]
  cases g.cls <;> cases running <;> rfl

theorem commit_now {running : Bool} (h : running = false ∨ g.cls = .l) :
    (g.commit running).2 = { g with inUse := g.shadow, pend := false, gen := g.gen + 1 } := by
  show _ = g.apply
  rw [commit_eq idle]
  rcases h with rfl | cls
  · cases g.cls <;> rfl
  · rw [cls]

theorem commit_later (cls : g.cls = .h) : (g.commit true).2 = { g with pend := true } := by
  rw [commit_eq idle, cls]

theorem commit_busy (cls : g.cls = .s) : (g.commit true).2 = g := by
  rw [commit_eq idle, cls]

end

section
variable {s : State} {n : Nat} {g : CommitGroup} {off : BitVec 16}

theorem groupWrite_field (h : off.toNat ≠ g.word) (v : Nat) :
    s.groupWrite n off.toNat v g = s.groupOp n fun g => g.write off.toNat (BitVec.ofNat 32 v) := if_pos h

theorem registerWrite_group (group : s.groupAt off.toNat = some (n, g)) (up : s.host.linkUp = true) (high : 0x5018 < off.toNat)
    (four : off.toNat % 4 = 0) (field : off.toNat ≠ g.word) (v : BitVec 64) :
    exec (.registerWrite off 4 v) s = .next (s.groupOp n fun g => g.write off.toNat (BitVec.ofNat 32 v.toNat)).2 := by
  have low : BitVec.ofNat 32 (v.toNat % 2 ^ 32) = BitVec.ofNat 32 v.toNat := BitVec.eq_of_toNat_eq (by simp)
  have word : s.write32 off.toNat (v.toNat % 2 ^ 32) = (s.groupWrite n off.toNat (v.toNat % 2 ^ 32) g).2 := by
    unfold State.write32
    dsimp only
    rw [if_neg (by omega), if_neg (by omega), if_neg (by omega), if_neg (by omega), if_neg (by omega), if_neg (by omega), if_neg (by omega),
      if_neg (by omega), group]
  rw [registerWrite_eq up, (bar0Ok_iff off.toNat 4).mpr (Or.inl ⟨rfl, four⟩), if_neg (by decide), if_neg (by decide), word,
    groupWrite_field field, low]

theorem read32_group (group : s.groupAt off.toNat = some (n, g)) (high : 0x5018 < off.toNat) (field : off.toNat ≠ g.word) :
    s.read32 off.toNat = tget 0 g.shadow off.toNat := by
  have read : g.read off.toNat = tget 0 g.shadow off.toNat := if_neg field
  unfold State.read32
  dsimp only
  rw [if_neg (by omega), if_neg (by omega), if_neg (by omega), if_neg (by omega), if_neg (by omega), if_neg (by omega), if_neg (by omega),
    if_neg (by omega), if_neg (by omega), if_neg (by omega), if_neg (by omega), if_neg (by omega), if_neg (by omega), if_neg (by omega),
    group]
  exact read

end

/-! ### BAR2 (R418 to R422) -/

section
variable {s : State} {off : BitVec 36}

/-- The read request of `len` bytes at a BAR2 offset. -/
def State.bar2ReadReq (s : State) (off len : Nat) : Bar2Req :=
  { id := s.host.nextBar2
    write := false
    addr := s.bar2Addr off
    len := len
    data := List.replicate len 0
    left := (bar2Pieces (s.bar2Addr off) (len / 64 + 2) 0 len).length
    ep := false
    held := true }

/-- The write request of bytes `d` at a BAR2 offset. -/
def State.bar2WriteReq (s : State) (off : Nat) (d : List (BitVec 8)) : Bar2Req :=
  { id := s.host.nextBar2
    write := true
    addr := s.bar2Addr off
    len := d.length
    data := d
    left := (bar2Pieces (s.bar2Addr off) (d.length / 64 + 2) 0 d.length).length
    ep := false
    held := false }

theorem bar2Read_nothing {len : Nat} (h : s.host.linkUp = false ∨ len = 0) : exec (.bar2Read off len) s = .next s := by
  rw [exec_bar2Read, execBar2Read, if_pos h]

theorem bar2Read_eq {len : Nat} (up : s.host.linkUp = true) (some_ : len ≠ 0) :
    exec (.bar2Read off len) s = .next
      (let a := s.bar2Addr off.toNat
       let r := s.bar2ReadReq off.toNat len
       if s.host.bufBad then ((s.bufRead.bar2Zero r).postAddr Code.DI_HIF_PARITY a).hifErr
       else if hasOwner a = false ∨ hasOwner (a + len - 1) = false then (s.bar2Zero r).postAddr Code.ST_ACCESS_REFUSED a
       else (s.bar2New r).bar2Release) := by
  rw [exec_bar2Read, execBar2Read, if_neg (not_or.mpr ⟨ne_false_of_eq_true up, some_⟩)]
  rfl

theorem bar2Write_nothing {d : List (BitVec 8)} (h : s.host.linkUp = false ∨ d = [] ∨ 64 ≤ (s.host.bar2.filter (·.write)).length) :
    exec (.bar2Write off d) s = .next s := by
  rw [exec_bar2Write, execBar2Write, if_pos h]

theorem bar2Write_eq {d : List (BitVec 8)} (up : s.host.linkUp = true) (some_ : d ≠ []) (room : (s.host.bar2.filter (·.write)).length < 64) :
    exec (.bar2Write off d) s = .next
      (let a := s.bar2Addr off.toNat
       let r := s.bar2WriteReq off.toNat d
       if s.host.bufBad then (s.bufRead.postAddr Code.DI_HIF_PARITY a).hifErr
       else if hasOwner a = false ∨ hasOwner (a + d.length - 1) = false then s.postAddr Code.ST_ACCESS_REFUSED a
       else (s.bar2New r).bar2Issue r) := by
  rw [exec_bar2Write, execBar2Write, if_neg (not_or.mpr ⟨ne_false_of_eq_true up, not_or.mpr ⟨some_, Nat.not_le.mpr room⟩⟩)]
  rfl

theorem owned_iff {p q : Bool} : (p = true ∧ q = true) ↔ ¬(p = false ∨ q = false) := by
  cases p <;> cases q <;> decide

end

theorem bar2Timeout_ends {s : State} {n : Nat} {r : Bar2Req} (h : s.host.bar2.find? (·.id == n) = some r) :
    exec (.bar2Timeout n) s = .next
      (((s.bar2Finish { r with data := List.replicate r.len 0, ep := false }).postAddr Code.ST_HIF_TIMEOUT r.addr).hifErr) := by
  rw [exec_bar2Timeout, execBar2Timeout, h]

/-- Settles O22: a commit word acts on one group, and BAR2 answers what no block owns at once. -/
theorem commitsAndWindowAccesses : Obligations.CommitsAndWindowAccesses := by
  unfold Obligations.CommitsAndWindowAccesses
  refine ⟨⟨fun s n g h => ?_, fun s n h => ⟨?_, ?_⟩, fun s n g off v h group up high four field => ⟨fun idle => ?_, fun pend => ?_,
      read32_group group high field⟩⟩,
    fun s off len up some_ => ?_, fun s off d up some_ room => ?_, fun s off len d => ⟨bar2Read_nothing, bar2Write_nothing⟩,
    fun s n r h => ⟨_, bar2Timeout_ends h, ?_, rfl⟩, fun s n h => ?_⟩
  · intro running to_
    have stopped : ∀ {p : Prop} (b : Bool), (b = true ↔ p) → ¬p → b = false := fun b e np => Bool.eq_false_iff.mpr (mt e.mp np)
    have runs : ((s.site g.site).state == .running) = true ↔ running := beq_iff_eq
    refine ⟨fun idle when_ => groupOp_moves h (commit_now idle ?_) rfl, fun idle run cls => groupOp_moves h ?_ rfl,
      fun idle run cls => groupOp_moves h ?_ rfl, fun idle => groupOp_moves h ?_ rfl,
      fun pend => ⟨groupOp_moves h (commit_pending pend _) rfl, groupOp_moves h ?_ rfl⟩⟩
    · exact when_.imp (stopped _ runs) id
    · rw [runs.mpr run]
      exact commit_later idle cls
    · rw [runs.mpr run]
      exact commit_busy idle cls
    · rw [if_neg (ne_true_of_eq_false idle)]
      rfl
    · rw [if_pos pend]
  · exact congrArg _ (groupOp_none h _)
  · exact congrArg _ (groupOp_none h _)
  · obtain ⟨t, run, group', -⟩ := groupOp_moves h (write_idle idle off.toNat _) (registerWrite_group group up high four field v)
    exact ⟨t, run, group'⟩
  · obtain ⟨t, run, group', -⟩ := groupOp_moves h (write_pending pend off.toNat _) (registerWrite_group group up high four field v)
    exact ⟨t, run, group'⟩
  · intro a d zeros clean
    rw [bar2Read_eq up some_]
    refine ⟨fun good first last => ⟨s.bar2ReadReq off.toNat len, rfl, rfl, rfl, rfl, rfl, ?_⟩, fun good out => ?_, fun bad => ?_⟩
    · exact congrArg _ ((if_neg (ne_true_of_eq_false good)).trans (if_neg (owned_iff.mp ⟨first, last⟩)))
    · exact congrArg _ ((if_neg (ne_true_of_eq_false good)).trans (if_pos out))
    · exact congrArg _ (if_pos bad)
  · intro a clean
    rw [bar2Write_eq up some_ room]
    refine ⟨fun good first last => ⟨s.bar2WriteReq off.toNat d, rfl, rfl, rfl, rfl, rfl, ?_⟩, fun good out => ?_, fun bad => ?_⟩
    · exact congrArg _ ((if_neg (ne_true_of_eq_false good)).trans (if_neg (owned_iff.mp ⟨first, last⟩)))
    · exact congrArg _ ((if_neg (ne_true_of_eq_false good)).trans (if_pos out))
    · exact congrArg _ (if_pos bad)
  · exact (setIrq_keeps _ _ 18 (by decide)).2
  · rw [exec_bar2Timeout, execBar2Timeout, h]

end Sys2Proof.Machine
end

section
set_option Elab.async false
/-! Lost clocks and the TAP (R498, R507). -/

namespace Sys2Proof.Machine

/-- The unit at the loss of the lane step PLL (R498, R506). -/
def State.laneStepLost (s : State) : State :=
  let u := s.clockFaults
  (({ u with power := { u.power with clk := { u.power.clk with laneStep := false } } } : State).releaseKeyhole).postPolicy 0 0 0

theorem loseLaneStep_eq (s : State) :
    s.loseLaneStep = if s.power.clk.stepSrc = true ∧ s.power.clk.laneStep = true then s.laneStepLost else s := by
  unfold State.loseLaneStep
  exact if_congr (by rw [Bool.and_eq_true]) rfl rfl

theorem loseRefLane_eq (s : State) :
    s.loseRefLane =
      let v : State := { s.loseLaneStep with power := { s.loseLaneStep.power with clk := { s.loseLaneStep.power.clk with refLane := false } } }
      (List.range 64).foldl (fun u i => if (u.lane i).lock then u.laneDown i else u)
        ((List.range 16).foldl (fun w q => w.setQuad q { w.quad q with lock := false }) v) := rfl

/-- The unit without REFCLK_SYS, its system PLL lost before. -/
def State.darkened (u : State) : State :=
  { u with
    power := { u.power with clk := { u.power.clk with refSys := false, aon := false } }
    chain := { u.chain with inp := { u.chain.inp with lock := false }, out := { u.chain.out with lock := false } } }

theorem loseRefSys_eq (s : State) :
    s.loseRefSys =
      let u := s.loseSystem.darkened
      if u.time.servo = .tracking ∨ u.time.servo = .locked then u.setServo .holdover else u := rfl

theorem exec_pllLoss_system (s : State) : exec (.pllLoss .system) s = .next (if s.power.clk.sys then s.loseSystem else s) := rfl
theorem exec_pllLoss_refSys (s : State) : exec (.pllLoss .refSys) s = .next (if s.power.clk.refSys then s.loseRefSys else s) := rfl
theorem exec_pllLoss_refLane (s : State) : exec (.pllLoss .refLane) s = .next (if s.power.clk.refLane then s.loseRefLane else s) := rfl

theorem restoreIslands_eq (s : State) :
    s.restoreIslands =
      if s.quiet = true ∧ s.host.fwReady = true then
        { s with power := { s.power with clk := { s.power.clk with
            sys := s.power.clk.refSys, oscillator := !s.power.clk.refSys, laneStep := s.power.clk.stepSrc && s.power.clk.refLane } } }
      else s := by
  unfold State.restoreIslands
  exact if_congr (by rw [Bool.and_eq_true]) rfl rfl

theorem exec_pllRestore (p : Pll) (s : State) :
    exec (.pllRestore p) s = .next
      (if p = .refLane then ({ s with power := { s.power with clk := { s.power.clk with refLane := true } } } : State).restoreIslands
       else if p = .refSys ∧ s.power.clk.refSys = false then
         ({ s with
            power := { s.power with clk := { s.power.clk with refSys := true, aon := true } }
            chain := { s.chain with
              inp := { s.chain.inp with lock := !s.chain.inp.broken }
              out := { s.chain.out with lock := !s.chain.out.broken } } } : State).restoreIslands
       else s.restoreIslands) := by
  show execPllRestore p s = _
  unfold execPllRestore
  refine congrArg _ ?_
  cases p with
  | laneStep => rfl
  | system => rfl
  | refLane => rfl
  | refSys =>
    rw [if_neg (by decide)]
    cases ref : s.power.clk.refSys with
    | true =>
      rw [if_neg (by simp)]
      exact if_pos ref
    | false =>
      rw [if_pos ⟨rfl, rfl⟩]
      exact if_neg (ne_true_of_eq_false ref)

/-! ### Scans -/

theorem bitsLow_eq_map (x n : Nat) : bitsLow x n = (List.range n).map x.testBit := by
  induction n generalizing x with
  | zero => rfl
  | succ n ih =>
    rw [List.range_succ_eq_map, List.map_cons, List.map_map, bitsLow, ih]
    refine congrArg _ (List.map_congr_left fun j _ => ?_)
    exact (Nat.testBit_succ x j).symm

theorem scanBypass_eq (t : Tap) (code : BitVec 8) (tdi : List Bool) :
    t.scanBypass code tdi =
      { t with ir := code, bypass := (false :: tdi).getD tdi.length false, tdo := irCapture ++ (false :: tdi).take tdi.length } := by
  have held : ((false :: tdi).drop tdi.length).getD 0 false = (false :: tdi).getD tdi.length false := by
    rw [List.getD_eq_getElem?_getD, List.getElem?_drop, Nat.add_zero, ← List.getD_eq_getElem?_getD]
  rw [← held]
  rfl

theorem testScan_eq (s : State) (code : BitVec 8) (tdi : List Bool) :
    s.testScan code tdi = if s.power.sysRst then s.scanBoundary code tdi else s.modTap fun t => t.scanBypass code tdi := rfl

/-- Settles O60: what a lost clock takes with it follows from the clocks that stand behind it. -/
theorem lostClocksFaultAndTheTapScans : Obligations.LostClocksFaultAndTheTapScans := by
  unfold Obligations.LostClocksFaultAndTheTapScans
  refine ⟨fun s => ?_, fun s => rfl, fun s p => ?_, fun s tdi => ?_⟩
  · intro clk drop lost dark stepLost noStep unlocked
    have step : s.loseLaneStep = noStep := loseLaneStep_eq s
    have system : s.loseSystem = lost s := rfl
    refine ⟨?_, ?_, congrArg _ step, ?_⟩
    · rw [exec_pllLoss_system, system]
    · rw [exec_pllLoss_refSys, loseRefSys_eq, system]
      rfl
    rw [exec_pllLoss_refLane]
    have lane : s.loseRefLane = (List.range 64).foldl (fun u i => if (u.lane i).lock then u.laneDown i else u) (unlocked noStep) := by
      rw [loseRefLane_eq, step]
    rw [← lane]
  · intro back clk refBack
    have restored := restoreIslands_eq
    rw [exec_pllRestore]
    refine congrArg _ ?_
    split
    · exact restored _
    split
    · exact restored _
    · exact restored _
  · intro scan bypass caught bound test
    have skip : ∀ code, (s.modTap fun t => t.scanBypass code tdi) = bypass code := fun code => by
      show ({ s with power := { s.power with tap := s.power.tap.scanBypass code tdi } } : State) = _
      rw [scanBypass_eq]
      rfl
    have under : ∀ code, s.testScan code tdi = test code := fun code => by
      rw [testScan_eq, skip]
      rfl
    have ident : bitsLow s.id.idcode 32 = (List.range 32).map fun j => ((if s.id.b0 then 0x264005AF else 0x164005AF) : Nat).testBit j :=
      bitsLow_eq_map s.id.idcode 32
    refine ⟨rfl, congrArg _ (under 0x00), ?_, rfl, congrArg _ (skip 0x03), congrArg _ (skip 0x04), congrArg _ (under 0x05),
      congrArg _ (under 0x06), congrArg _ (skip 0xFF)⟩
    rw [← ident]
    rfl

end Sys2Proof.Machine
end

section
set_option Elab.async false
/-! What leaves the boot, the clocks and the channels of the unit as they are. -/

namespace Sys2Proof.Machine

/-- The host interface's share of the boot: FW_READY, BOOT_STATE, BOOT_ERR and the channels (R423, R437). -/
def HostState.boot (h : HostState) : Bool × BitVec 3 × Status × Tab Channel := (h.fwReady, h.bootState, h.bootErr, h.chans)

/-- What the boot leaves behind: the host's share, the clocks and the version of the firmware. -/
def State.boot (s : State) : (Bool × BitVec 3 × Status × Tab Channel) × Clocks × BitVec 32 := (s.host.boot, s.power.clk, s.id.fwVersion)

theorem HostState.sendMsix_boot (h : HostState) (now v : Nat) : (h.sendMsix now v).boot = h.boot := by
  grind [HostState.sendMsix, HostState.boot]

theorem HostState.setIrq_boot (h : HostState) (now i : Nat) : (h.setIrq now i).boot = h.boot := by
  grind [HostState.setIrq, HostState.sendMsix_boot, HostState.boot]

theorem HostState.writeEvent_boot (h : HostState) (now : Nat) (e : Event) : (h.writeEvent now e).boot = h.boot :=
  (HostState.setIrq_boot ..).trans rfl

theorem State.setTicket_boot (s : State) (n x) : (s.setTicket n x).boot = s.boot := by
  grind [State.setTicket, State.boot, HostState.boot]

theorem State.retain_boot (s : State) (n) : (s.retain n).boot = s.boot := by
  grind [State.retain, State.setTicket_boot]

theorem State.setIrq_boot (s : State) (i) : (s.setIrq i).boot = s.boot := by
  grind [State.setIrq, HostState.setIrq_boot, State.boot]

theorem State.postEvent_boot (s : State) (e') : (s.postEvent e').boot = s.boot := by
  grind [State.postEvent, State.retain_boot, State.setIrq_boot, HostState.writeEvent_boot, HostState.boot, State.boot]

theorem State.post_boot (s : State) (kind st site obj hi data) : (s.post kind st site obj hi data).boot = s.boot := by
  grind [State.post, State.postEvent_boot]

theorem State.postFault_boot (s : State) (st site obj cycle step pane detail) : (s.postFault st site obj cycle step pane detail).boot = s.boot := by
  grind [State.postFault, State.post_boot]

theorem State.dropOldest_boot (s : State) : (s.dropOldest).boot = s.boot := by
  grind [State.dropOldest, State.setTicket_boot]

theorem State.send_boot (s : State) (f) : (s.send f).boot = s.boot := by
  grind [State.send, State.boot]

theorem State.sendFragment_boot (s : State) (ua seq resp bs i) : (s.sendFragment ua seq resp bs i).boot = s.boot := by
  grind [State.sendFragment, State.send_boot]

theorem State.sendMbx_boot (s : State) (ua seq resp bs) : (s.sendMbx ua seq resp bs).boot = s.boot := by
  grind [State.sendMbx, State.sendFragment_boot]

theorem State.message_boot (s : State) (owner ua seq isResp bs) : (s.message owner ua seq isResp bs).boot = s.boot := by
  grind [State.message, State.sendMbx_boot, State.boot]

theorem State.passComplete_boot (s : State) (ua e') : (s.passComplete ua e').boot = s.boot := by
  grind [State.passComplete, State.message_boot, State.boot]

theorem State.finish_boot (s : State) (tk st data) : (s.finish tk st data).boot = s.boot := by
  grind [State.finish, State.setTicket_boot, State.dropOldest_boot, State.postEvent_boot, State.passComplete_boot]

theorem State.setVreq_boot (s : State) (b v) : (s.setVreq b v).boot = s.boot := by
  grind [State.setVreq, State.boot]

theorem State.ringEnabled_boot (s : State) : (s.ringEnabled).boot = s.boot := by
  grind [State.ringEnabled, State.post_boot, State.postFault_boot, HostState.boot, State.boot]

end Sys2Proof.Machine
end

section
set_option Elab.async false
/-! O59: resets, boot, configuration space and FW_READY. -/

namespace Sys2Proof.Machine

/-! ### Resets -/

theorem State.startUp_keeps (s : State) (b : BitVec 2) :
    (s.startUp b).sites = s.sites ∧ (s.startUp b).mem = s.mem ∧ (s.startUp b).chain = s.chain ∧ (s.startUp b).id = s.id := by
  unfold State.startUp
  exact ⟨rfl, rfl, rfl, rfl⟩

theorem State.startUp_power (s : State) (b : BitVec 2) :
    (s.startUp b).power.bootSrc = b ∧ (s.startUp b).power.sysRst = false ∧ (s.startUp b).power.tap = s.power.tap := by
  unfold State.startUp
  exact ⟨rfl, rfl, rfl⟩

/-- What the start-up makes of the time state (R501). -/
theorem State.startUp_time (s : State) (b : BitVec 2) :
    (s.startUp b).time =
      { s.time with servo := if s.time.servo = .tracking ∨ s.time.servo = .locked then .holdover else s.time.servo } := by
  unfold State.startUp
  by_cases h : s.time.servo = .tracking ∨ s.time.servo = .locked
  · exact (if_pos h).trans (by rw [if_pos h])
  · exact (if_neg h).trans (by rw [if_neg h])

theorem State.startUp_host (s : State) (b : BitVec 2) :
    (s.startUp b).host.mem = s.host.mem ∧ (s.startUp b).host.fwReady = s.host.fwReady ∧
      (s.startUp b).host.bootState = (if b = 1 then 1 else s.host.bootState) ∧ (s.startUp b).host.linkUp = !s.host.perst := by
  unfold State.startUp
  split
  · exact ⟨rfl, rfl, rfl, rfl⟩
  · exact ⟨rfl, rfl, rfl, rfl⟩

/-- What SYS_RST_N or the VDD monitor leaves of a unit, with and without the start-up behind it (R500, R517). -/
def resetLeaves (s t : State) : Prop :=
  (∀ n, (t.site n).state = .empty) ∧ t.mem.bytes = [] ∧ t.mem.valid = [] ∧ t.mem.regions = [] ∧ t.host.fwReady = false ∧
    t.time.counter = s.time.counter ∧ t.time.epoch = s.time.epoch ∧ t.time.rate = s.time.rate ∧ t.time.tevs = [] ∧
    t.time.toutIdle = 0 ∧ t.chain.ua = (if s.chain.sticky then s.chain.stickyUa else 0x3FC00) ∧ t.chain.out = s.chain.out ∧
    t.power.tap = s.power.tap

theorem sysReset_leaves (s : State) (low : Bool) : resetLeaves s (s.sysReset low) :=
  ⟨fun _ => rfl, rfl, rfl, rfl, rfl, rfl, rfl, rfl, rfl, rfl, rfl, rfl, rfl⟩

theorem powerOn_sites (s : State) (n : Nat) : (s.powerOn.site n).state = .empty := rfl

theorem exec_powerOnReset (b : BitVec 2) (s : State) : exec (.powerOnReset b) s = .next (s.powerOn.startUp b) := rfl
theorem exec_sysRstN (s : State) : exec .sysRstN s = execSysRstN s := rfl
theorem exec_sysRstNRelease (b : BitVec 2) (s : State) : exec (.sysRstNRelease b) s = execSysRstNRelease b s := rfl
theorem exec_vddUndervoltage (s : State) : exec .vddUndervoltage s = execVddUndervoltage s := rfl

theorem sysRstN_high {s : State} (h : s.power.sysRst = false) : exec .sysRstN s = .next (s.sysReset true) := by
  rw [exec_sysRstN, execSysRstN, h]; rfl

theorem sysRstN_low {s : State} (h : s.power.sysRst = true) : exec .sysRstN s = .next s := by
  rw [exec_sysRstN, execSysRstN, h]; rfl

theorem vddUndervoltage_low {s : State} (h : s.power.sysRst = true) : exec .vddUndervoltage s = .next (s.sysReset true) := by
  rw [exec_vddUndervoltage, execVddUndervoltage, h]; rfl

theorem vddUndervoltage_high {s : State} (h : s.power.sysRst = false) :
    exec .vddUndervoltage s = .next ((s.sysReset false).startUp s.power.bootSrc) := by
  rw [exec_vddUndervoltage, execVddUndervoltage, h]; rfl

theorem sysRstNRelease_low {s : State} (h : s.power.sysRst = true) (b : BitVec 2) :
    exec (.sysRstNRelease b) s = .next (s.startUp b) := by
  rw [exec_sysRstNRelease, execSysRstNRelease, h]; rfl

theorem sysRstNRelease_high {s : State} (h : s.power.sysRst = false) (b : BitVec 2) : exec (.sysRstNRelease b) s = .next s := by
  rw [exec_sysRstNRelease, execSysRstNRelease, h]; rfl

theorem powerOnReset_clause (s : State) (b : BitVec 2) :
    ∃ t, exec (.powerOnReset b) s = .next t ∧ (∀ n, (t.site n).state = .empty) ∧ t.mem.bytes = [] ∧ t.mem.regions = [] ∧
      t.chain.ua = 0x3FC00 ∧ t.time.counter = 0 ∧ t.time.epoch = 0 ∧ t.time.servo = .unlocked ∧ t.time.tctl = 0x300 ∧
      t.host.fwReady = false ∧ t.power.bootSrc = b ∧ t.power.sysRst = false ∧ t.host.bootState = (if b = 1 then 1 else 0) ∧
      t.host.linkUp = (!s.host.perst) ∧ t.host.mem = s.host.mem := by
  obtain ⟨sites, mem, chain, -⟩ := s.powerOn.startUp_keeps b
  obtain ⟨src, rst, -⟩ := s.powerOn.startUp_power b
  obtain ⟨hmem, fw, boot, link⟩ := s.powerOn.startUp_host b
  have time := s.powerOn.startUp_time b
  refine ⟨_, exec_powerOnReset b s, fun n => ?_, mem ▸ rfl, mem ▸ rfl, chain ▸ rfl, time ▸ rfl, time ▸ rfl, time ▸ rfl, time ▸ rfl,
    fw, src, rst, boot, link, hmem⟩
  exact (congrArg Site.state (State.site_of_sites sites n)).trans (powerOn_sites s n)

theorem sysReset_clause {s t : State}
    (h : (s.power.sysRst = false ∧ exec .sysRstN s = .next t) ∨ (s.power.sysRst = true ∧ exec .vddUndervoltage s = .next t)) :
    t = s.sysReset true := by
  obtain ⟨high, run⟩ | ⟨low, run⟩ := h
  · exact (Host.Outcome.next.inj ((sysRstN_high high).symm.trans run)).symm
  · exact (Host.Outcome.next.inj ((vddUndervoltage_low low).symm.trans run)).symm

theorem vddUndervoltage_clause (s : State) :
    ∃ t, exec .vddUndervoltage s = .next t ∧ (∀ n, (t.site n).state = .empty) ∧ t.power.sysRst = s.power.sysRst ∧
      t.power.bootSrc = s.power.bootSrc := by
  cases h : s.power.sysRst with
  | true => exact ⟨_, vddUndervoltage_low h, fun _ => rfl, rfl, rfl⟩
  | false =>
    obtain ⟨sites, -, -, -⟩ := (s.sysReset false).startUp_keeps s.power.bootSrc
    obtain ⟨src, rst, -⟩ := (s.sysReset false).startUp_power s.power.bootSrc
    refine ⟨_, vddUndervoltage_high h, fun n => ?_, rst, src⟩
    rw [State.site_of_sites sites n]
    rfl

theorem sysRstNRelease_clause {s : State} (b : BitVec 2) (h : s.power.sysRst = true) :
    ∃ t, exec (.sysRstNRelease b) s = .next t ∧ t.power.bootSrc = b ∧ t.power.sysRst = false ∧
      t.time.servo = (if s.time.servo = .tracking ∨ s.time.servo = .locked then .holdover else s.time.servo) ∧
      t.time.counter = s.time.counter ∧ t.time.epoch = s.time.epoch ∧ t.sites = s.sites ∧ (b = 1 → t.host.bootState = 1) := by
  obtain ⟨sites, -, -, -⟩ := s.startUp_keeps b
  obtain ⟨src, rst, -⟩ := s.startUp_power b
  obtain ⟨-, -, boot, -⟩ := s.startUp_host b
  have time := s.startUp_time b
  exact ⟨_, sysRstNRelease_low h b, src, rst, time ▸ rfl, time ▸ rfl, time ▸ rfl, sites, fun hb => boot.trans (if_pos hb)⟩

/-! ### The host-interface resets -/

/-- A fold that rewrites the entries 0 to n − 1 of a table in place changes each of them once. -/
theorem tget_foldl_modify (g : Nat → Channel → Channel) (t : Tab Channel) (n i : Nat) :
    tget {} ((List.range n).foldl (fun t i => tset {} t i (g i (tget {} t i))) t) i =
      if i < n then g i (tget {} t i) else tget {} t i := by
  induction n generalizing i with
  | zero => rfl
  | succ n ih =>
    rw [List.range_succ, List.foldl_append, List.foldl_cons, List.foldl_nil, tget_tset, ih n, ih i, if_neg (Nat.lt_irrefl n)]
    by_cases h : i = n
    · subst h; rw [if_pos rfl, if_pos (Nat.lt_succ_self i)]
    · rw [if_neg h]
      exact if_congr ⟨fun lt => Nat.lt_succ_of_lt lt, fun lt => by omega⟩ rfl rfl

/-- A channel is open to commands after a reset of the host interface (R438). -/
def opensAfterReset (h : HostState) (c : Nat) : Bool :=
  h.fwReady || (c == 0 && (h.bootState == 1 || h.bootState == 2 || h.bootState == 4))

theorem opensAfterReset_ready {h : HostState} (c : Nat) (ready : h.fwReady = true) : opensAfterReset h c = true := by
  unfold opensAfterReset; rw [ready]; rfl

theorem opensAfterReset_iff {h : HostState} (c : Nat) (ready : h.fwReady = false) :
    opensAfterReset h c = true ↔ c = 0 ∧ (h.bootState = 1 ∨ h.bootState = 2 ∨ h.bootState = 4) := by
  unfold opensAfterReset; rw [ready]; simp [or_assoc]

theorem Channel.hostReset_state (c : Channel) (o : Bool) : (c.hostReset o).state = if o then .idle else .closed := rfl
theorem Channel.hostReset_last (c : Channel) (o : Bool) : (c.hostReset o).last = 0xFFFF := rfl

theorem hostReset_chans (s : State) : s.hostReset.host.chans = (List.range 16).foldl
    (fun t i => tset {} t i ((tget {} t i).hostReset (opensAfterReset s.host i))) s.host.chans := by
  simp only [State.hostReset, opensAfterReset]

theorem hostReset_chan (s : State) {c : Nat} (hc : c < 16) :
    s.hostReset.chan c = (s.chan c).hostReset (opensAfterReset s.host c) := by
  unfold State.chan
  rw [hostReset_chans]
  exact (tget_foldl_modify (fun i x => x.hostReset (opensAfterReset s.host i)) s.host.chans 16 c).trans (if_pos hc)

/-- What a reset of the host interface makes of the unit (R438), link and PERST_N aside. -/
def hostInterfaceReset (s t : State) : Prop :=
  (s.host.fwReady = true → ∀ c, c < 16 → (t.chan c).state = .idle ∧ (t.chan c).last = 0xFFFF) ∧
    (s.host.fwReady = false → ∀ c, c < 16 → (t.chan c).last = 0xFFFF ∧ (t.chan c).state =
      (if c = 0 ∧ (s.host.bootState = 1 ∨ s.host.bootState = 2 ∨ s.host.bootState = 4) then .idle else .closed)) ∧
    t.host.tickets = tmapv none (fun _ x => x.map Ticket.hostStop) s.host.tickets ∧ getBit t.host.evqCtl 31 = false ∧
    t.host.irqStatus = 0 ∧ t.host.irqMask = 0x000FFFFF ∧ t.host.winBase = 0 ∧ t.host.bar2 = [] ∧ t.host.held = s.host.held ∧
    t.sites = s.sites ∧ t.cas = s.cas ∧ t.time = s.time ∧ t.mem = s.mem

theorem hostReset_resets (s : State) : hostInterfaceReset s s.hostReset := by
  refine ⟨fun ready c hc => ?_, fun ready c hc => ?_, rfl, getBit_putBit_same _ _ _ (by decide), rfl, rfl, rfl, rfl, rfl, rfl, rfl, rfl, rfl⟩
  · rw [hostReset_chan s hc, Channel.hostReset_state, Channel.hostReset_last, opensAfterReset_ready c ready]
    exact ⟨rfl, rfl⟩
  · rw [hostReset_chan s hc, Channel.hostReset_state, Channel.hostReset_last]
    exact ⟨rfl, if_congr (opensAfterReset_iff c ready) rfl rfl⟩

theorem exec_perstN (s : State) :
    exec .perstN s = .next { s.hostReset with host := { s.hostReset.host with perst := true, linkUp := false } } := rfl

theorem exec_pcieConfigAccess (off : BitVec 12) (w : Option (BitVec 32)) (s : State) :
    exec (.pcieConfigAccess off w) s = execPcieConfigAccess off w s := rfl

theorem functionLevelReset {s : State} (h : s.host.linkUp = true) :
    exec (.pcieConfigAccess 0x78 (some 0x8000)) s = .next s.hostReset := by
  rw [exec_pcieConfigAccess, execPcieConfigAccess]
  dsimp only
  rw [if_neg (ne_false_of_eq_true h), if_pos (by decide)]

/-- The link and the pin are not among what the reset names. -/
theorem hostInterfaceReset.link {s t : State} (h : hostInterfaceReset s t) (p l : Bool) :
    hostInterfaceReset s { t with host := { t.host with perst := p, linkUp := l } } := h

theorem hostReset_clause {s t : State}
    (h : exec .perstN s = .next t ∨ (s.host.linkUp = true ∧ exec (.pcieConfigAccess 0x78 (some 0x8000)) s = .next t)) :
    hostInterfaceReset s t := by
  obtain perst | ⟨link, flr⟩ := h
  · rw [← Host.Outcome.next.inj ((exec_perstN s).symm.trans perst)]
    exact (hostReset_resets s).link true false
  · rw [← Host.Outcome.next.inj ((functionLevelReset link).symm.trans flr)]
    exact hostReset_resets s

/-! ### The configuration space -/

/-- A configuration write that is not the function-level reset. -/
def State.configWritten (s : State) (o : Nat) (v : BitVec 32) : State :=
  let w := (s.cfgRead o &&& ~~~cfgMask o) ||| (v &&& cfgMask o)
  { s with host := { s.host with cfg := tset 0 s.host.cfg (o / 4) (w ^^^ cfgReset s.id.b0 o) } }

theorem configWritten_read_same (s : State) (o : Nat) (v : BitVec 32) :
    (s.configWritten o v).cfgRead o = ((s.cfgRead o &&& ~~~cfgMask o) ||| (v &&& cfgMask o)) := by
  unfold State.configWritten State.cfgRead
  rw [tget_tset, if_pos rfl, BitVec.xor_comm, BitVec.xor_assoc, BitVec.xor_self, BitVec.xor_zero]

theorem configWritten_read_of_ne (s : State) {o p : Nat} (v : BitVec 32) (h : p / 4 ≠ o / 4) :
    (s.configWritten o v).cfgRead p = s.cfgRead p := by
  unfold State.configWritten State.cfgRead
  rw [tget_tset, if_neg h]

theorem configWrite {s : State} {off : BitVec 12} {v : BitVec 32} (link : s.host.linkUp = true)
    (h : off.toNat / 4 * 4 ≠ 0x78 ∨ getBit v 15 = false) :
    exec (.pcieConfigAccess off (some v)) s = .next (s.configWritten (off.toNat / 4 * 4) v) := by
  rw [exec_pcieConfigAccess, execPcieConfigAccess]
  have noReset : ¬(off.toNat / 4 * 4 = 0x78 ∧ getBit v 15 = true) := by
    rintro ⟨at78, bit⟩
    exact h.elim (fun ne => ne at78) (ne_false_of_eq_true bit)
  dsimp only
  rw [if_neg (ne_false_of_eq_true link), if_neg noReset]
  rfl

theorem configWrite_noLink {s : State} (off : BitVec 12) (v : BitVec 32) (link : s.host.linkUp = false) :
    exec (.pcieConfigAccess off (some v)) s = .next s := by
  rw [exec_pcieConfigAccess, execPcieConfigAccess]
  exact congrArg _ (if_pos link)

/-! ### Boot -/

theorem State.boot_fields {s t : State} (h : t.boot = s.boot) :
    t.host.fwReady = s.host.fwReady ∧ t.host.bootState = s.host.bootState ∧ t.host.bootErr = s.host.bootErr ∧
      t.host.chans = s.host.chans ∧ t.power.clk = s.power.clk ∧ t.id.fwVersion = s.id.fwVersion := by
  simpa [State.boot, HostState.boot, and_assoc] using h

theorem exec_bootAuthDone (r : AuthResult) (s : State) : exec (.bootAuthDone r) s = execBootAuthDone r s := rfl

theorem bootAuthDone_idle {s : State} (r : AuthResult) (h : s.booting = false) : exec (.bootAuthDone r) s = .next s := by
  rw [exec_bootAuthDone]
  unfold execBootAuthDone
  rw [if_pos h]

theorem booting_of {s : State} (rst : s.power.sysRst = false) (h : s.host.bootState = 0 ∨ s.booting = true) : s.booting = true := by
  obtain rom | yes := h
  · unfold State.booting; rw [rst, rom]; rfl
  · exact yes

theorem bootAuthDone_pass {s : State} (v : BitVec 32) (h : s.booting = true) : exec (.bootAuthDone (.pass v)) s = .next (s.handover v) := by
  rw [exec_bootAuthDone]
  unfold execBootAuthDone
  rw [if_neg (ne_false_of_eq_true h)]

theorem bootAuthDone_refused {s : State} {r : AuthResult} (h : s.booting = true) (hr : ∀ v, r ≠ .pass v) :
    exec (.bootAuthDone r) s = .next (s.bootRefused (AuthResult.code r)) := by
  rw [exec_bootAuthDone]
  unfold execBootAuthDone
  rw [if_neg (ne_false_of_eq_true h)]
  cases r with
  | pass v => exact absurd rfl (hr v)
  | badFormat => rfl
  | badSignature => rfl
  | rollback => rfl
  | noImage => rfl

theorem readBoard_boots (s : State) :
    s.readBoard.host.bootState = s.host.bootState ∧ s.readBoard.host.bootErr = s.host.bootErr ∧
      s.readBoard.id.fwVersion = s.id.fwVersion := by
  unfold State.readBoard
  split
  · exact ⟨rfl, rfl, rfl⟩
  · split
    · exact ⟨rfl, rfl, rfl⟩
    · split
      · exact ⟨rfl, rfl, rfl⟩
      · exact ⟨rfl, rfl, rfl⟩

theorem requestVdd_boot (s : State) : s.requestVdd.boot = s.boot := by
  unfold State.requestVdd
  split
  · split
    · exact State.setVreq_boot ..
    · rfl
  · rfl

theorem handover_boots (s : State) (v : BitVec 32) :
    (s.handover v).host.bootState = 3 ∧ (s.handover v).host.bootErr = 0 ∧ (s.handover v).id.fwVersion = v := by
  unfold State.handover
  extract_lets _ _ u w
  have hw : w.boot = u.boot := by
    unfold w
    split
    · exact State.finish_boot ..
    · rfl
  obtain ⟨-, state, err, -, -, version⟩ := State.boot_fields hw
  obtain ⟨bstate, berr, bversion⟩ := readBoard_boots w
  obtain ⟨-, rstate, rerr, -, -, rversion⟩ := State.boot_fields (requestVdd_boot w.readBoard)
  exact ⟨rstate.trans (bstate.trans state), rerr.trans (berr.trans err), rversion.trans (bversion.trans version)⟩

/-- BOOT_ERR as a refusal leaves it (R436): a missing image keeps it. -/
theorem bootRefused_boots (s : State) (code : Option Status) :
    (s.bootRefused code).host.bootErr = code.getD s.host.bootErr ∧
      (s.bootRefused code).host.bootState = (if s.host.bootTicket.isSome ∨ s.power.bootSrc = 2 then 4 else 1) := by
  unfold State.bootRefused
  extract_lets _ h
  have err : h.bootErr = code.getD s.host.bootErr := by cases code with | none => rfl | some c => rfl
  by_cases host : s.host.bootTicket.isSome = true
  · rw [if_pos host, if_pos (Or.inl host)]
    obtain ⟨-, state, kept, -⟩ := State.boot_fields (State.finish_boot
      ({ s with host := { h with bootState := 4 } } : State) 1 (code.getD Code.SC_FW_FORMAT) [])
    exact ⟨kept.trans err, state⟩
  · rw [if_neg host]
    exact ⟨err, if_congr ⟨Or.inr, fun f => f.resolve_left host⟩ rfl rfl⟩

theorem bootRefused_channel (s : State) (code : Option Status) (h : s.host.bootTicket = none) :
    ((s.bootRefused code).chan 0).state = .idle := by
  unfold State.bootRefused
  rw [h]
  cases code with
  | none => exact congrArg Channel.state ((tget_tset ..).trans (if_pos rfl))
  | some c => exact congrArg Channel.state ((tget_tset ..).trans (if_pos rfl))

/-! ### The PLLs -/

/-- The unit with FW_READY set, before the firmware's events (R437, R488). -/
theorem ready_boots (s : State) :
    s.ready.host.fwReady = true ∧ s.ready.power.clk.sys = true ∧ s.ready.power.clk.oscillator = false ∧
      ∀ c, c < 16 → (s.ready.chan c).state = .idle ∧ (s.ready.chan c).last = 0xFFFF := by
  unfold State.ready
  extract_lets _ clk chans _ h
  obtain ⟨fw, -, -, chs, ck, -⟩ := State.boot_fields (State.ringEnabled_boot
    ({ s with host := h, power := { s.power with clk := clk } } : State))
  have hb : h.boot = _ := HostState.setIrq_boot ..
  obtain ⟨fw', -, -, chs'⟩ : h.fwReady = true ∧ h.bootState = s.host.bootState ∧ h.bootErr = s.host.bootErr ∧ h.chans = chans := by
    simpa [HostState.boot] using hb
  refine ⟨fw.trans fw', ck ▸ rfl, ck ▸ rfl, fun c hc => ?_⟩
  have chan : tget {} chans c = (tget {} s.host.chans c).hostReset true :=
    (tget_foldl_modify (fun _ x => x.hostReset true) s.host.chans 16 c).trans (if_pos hc)
  unfold State.chan
  rw [chs, chs', chan]
  exact ⟨rfl, rfl⟩

theorem exec_systemPllLock (s : State) : exec .systemPllLock s = execSystemPllLock s := rfl
theorem exec_aonPllLock (s : State) : exec .aonPllLock s = execAonPllLock s := rfl

theorem systemPllLock_waits {s : State}
    (h : s.host.bootState ≠ 3 ∨ s.host.fwReady = true ∨ s.power.clk.refSys = false ∨ s.power.sysRst = true) :
    exec .systemPllLock s = .next s := by
  rw [exec_systemPllLock, execSystemPllLock]
  refine congrArg _ (if_neg ?_)
  rintro ⟨state, fw, ref, rst⟩
  simp [state, fw, ref, rst] at h

theorem systemPllLock_ready {s : State} (state : s.host.bootState = 3) (fw : s.host.fwReady = false)
    (ref : s.power.clk.refSys = true) (rst : s.power.sysRst = false) : exec .systemPllLock s = .next s.ready := by
  rw [exec_systemPllLock, execSystemPllLock]
  exact congrArg _ (if_pos ⟨state, fw, ref, rst⟩)

theorem aonPllLock_waits {s : State} (h : s.power.clk.refSys = false ∨ s.power.clk.aon = true) : exec .aonPllLock s = .next s := by
  rw [exec_aonPllLock, execAonPllLock]
  exact congrArg _ (if_pos h)

theorem aonPllLock_locks {s : State} (ref : s.power.clk.refSys = true) (aon : s.power.clk.aon = false) :
    exec .aonPllLock s = .next { s with
      power := { s.power with clk := { s.power.clk with aon := true } }
      chain := { s.chain with
        inp := { s.chain.inp with lock := !s.chain.inp.broken }
        out := { s.chain.out with lock := !s.chain.out.broken } } } := by
  rw [exec_aonPllLock, execAonPllLock]
  refine congrArg _ (if_neg ?_)
  rintro (r | a)
  · exact ne_false_of_eq_true ref r
  · exact ne_true_of_eq_false aon a

/-- Settles O59, reset by reset and then through the boot to FW_READY. -/
theorem resetsAndBootBringTheUnitUp : Obligations.ResetsAndBootBringTheUnitUp := by
  unfold Obligations.ResetsAndBootBringTheUnitUp
  refine ⟨powerOnReset_clause, fun s => ?_, fun s t => hostReset_clause, fun s => ?_, fun s r => bootAuthDone_idle r, fun s rst h => ?_,
    fun s => systemPllLock_waits, fun s state fw ref rst => ?_, fun s => aonPllLock_waits, fun s => aonPllLock_locks⟩
  · have run : ∃ t, exec .sysRstN s = .next t := by
      cases h : s.power.sysRst with
      | true => exact ⟨_, sysRstN_low h⟩
      | false => exact ⟨_, sysRstN_high h⟩
    refine ⟨fun t h => ?_, sysRstN_low, sysRstNRelease_high, run, vddUndervoltage_clause s, sysRstNRelease_clause⟩
    obtain ⟨empty, bytes, valid, regions, fw, counter, epoch, rate, tevs, idle, ua, out, tap⟩ := sysReset_leaves s true
    rw [sysReset_clause h]
    exact ⟨empty, bytes, valid, regions, fw, rfl, counter, epoch, rate, tevs, idle, ua, out, tap⟩
  · refine ⟨⟨_, exec_perstN s, rfl, rfl⟩, rfl, fun off v => ⟨rfl, configWrite_noLink off v, fun link h => ?_, fun link => ?_⟩⟩
    · exact ⟨_, configWrite link h, configWritten_read_same .., fun p hp => configWritten_read_of_ne s v hp⟩
    · exact ⟨_, functionLevelReset link⟩
  · have boots := booting_of rst h
    refine ⟨fun v => ⟨_, bootAuthDone_pass v boots, ?_⟩, fun r code hr => ?_, fun noTicket => ?_⟩
    · exact handover_boots s v
    · have refused : ∀ v, r ≠ .pass v := by
        rintro v rfl
        exact (Option.some_ne_none _ hr.symm).elim
      obtain ⟨err, state⟩ := bootRefused_boots s (AuthResult.code r)
      exact ⟨_, bootAuthDone_refused boots refused, err.trans (by rw [hr]; rfl), state⟩
    · obtain ⟨err, state⟩ := bootRefused_boots s none
      refine ⟨_, bootAuthDone_refused boots (fun v => AuthResult.noConfusion), err, state.trans ?_, bootRefused_channel s none noTicket⟩
      rw [noTicket]
      exact if_congr ⟨fun f => f.resolve_left (by decide), Or.inr⟩ rfl rfl
  · obtain ⟨fwReady, sys, osc, chans⟩ := ready_boots s
    exact ⟨_, systemPllLock_ready state fw ref rst, fwReady, sys, osc, chans⟩

end Sys2Proof.Machine
end

section
set_option Elab.async false
/-! What leaves the step clock of the unit as it is. -/

namespace Sys2Proof.Machine

/-- The two counters of the step clock, and the identity that says how long a step is (R2). -/
def State.clock (s : State) : Nat × Nat × Ident := (s.power.steps, s.power.ps, s.id)

theorem foldl_clock {α} {f : State → α → State} (hf : ∀ s x, (f s x).clock = s.clock) (l : List α) (s : State) :
    (l.foldl f s).clock = s.clock := by
  induction l generalizing s with
  | nil => rfl
  | cons a l ih => exact (ih _).trans (hf s a)

theorem State.setSash_clock (s : State) (n x) : (s.setSash n x).clock = s.clock := by
  grind [State.setSash, State.clock]

theorem State.modSash_clock (s : State) (n f) : (s.modSash n f).clock = s.clock := by
  grind [State.modSash, State.setSash_clock]

theorem State.modSashes_clock (s : State) (l f) : (s.modSashes l f).clock = s.clock := by
  grind [State.modSashes, foldl_clock, State.modSash_clock]

theorem State.setTrig_clock (s : State) (n x) : (s.setTrig n x).clock = s.clock := by
  grind [State.setTrig, State.clock]

theorem State.modTrig_clock (s : State) (n f) : (s.modTrig n f).clock = s.clock := by
  grind [State.modTrig, State.setTrig_clock]

theorem State.modTrigs_clock (s : State) (l f) : (s.modTrigs l f).clock = s.clock := by
  grind [State.modTrigs, foldl_clock, State.modTrig_clock]

theorem State.setLane_clock (s : State) (n x) : (s.setLane n x).clock = s.clock := by
  grind [State.setLane, State.clock]

theorem State.modLane_clock (s : State) (n f) : (s.modLane n f).clock = s.clock := by
  grind [State.modLane, State.setLane_clock]

theorem State.modLanes_clock (s : State) (l f) : (s.modLanes l f).clock = s.clock := by
  grind [State.modLanes, foldl_clock, State.modLane_clock]

theorem State.setSite_clock (s : State) (n x) : (s.setSite n x).clock = s.clock := by
  grind [State.setSite, State.clock]

theorem State.modSite_clock (s : State) (n f) : (s.modSite n f).clock = s.clock := by
  grind [State.modSite, State.setSite_clock]

theorem State.setTicket_clock (s : State) (n x) : (s.setTicket n x).clock = s.clock := by
  grind [State.setTicket, State.clock]

theorem State.retain_clock (s : State) (n) : (s.retain n).clock = s.clock := by
  grind [State.retain, State.setTicket_clock]

theorem State.setIrq_clock (s : State) (i) : (s.setIrq i).clock = s.clock := by
  grind [State.setIrq, State.clock]

theorem State.postEvent_clock (s : State) (e') : (s.postEvent e').clock = s.clock := by
  grind [State.postEvent, State.retain_clock, State.setIrq_clock, State.clock]

theorem State.post_clock (s : State) (kind st site obj hi data) : (s.post kind st site obj hi data).clock = s.clock := by
  grind [State.post, State.postEvent_clock]

theorem State.postSite_clock (s : State) (n old new st) : (s.postSite n old new st).clock = s.clock := by
  grind [State.postSite, State.post_clock]

theorem State.moveSite_clock (s : State) (n new st) : (s.moveSite n new st).clock = s.clock := by
  grind [State.moveSite, State.modSite_clock, State.postSite_clock]

theorem State.postRunStart_clock (s : State) (n off) : (s.postRunStart n off).clock = s.clock := by
  grind [State.postRunStart, State.modSite_clock, State.postEvent_clock]

theorem State.startSite_clock (s : State) (n) : (s.startSite n).clock = s.clock := by
  grind [State.startSite, State.modSashes_clock, State.modTrigs_clock, State.modLanes_clock, State.modSite_clock, State.moveSite_clock, State.postRunStart_clock]

theorem State.startAtFire_clock (s : State) (n) : (s.startAtFire n).clock = s.clock := by
  grind [State.startAtFire, State.startSite_clock]

theorem State.setTev_clock (s : State) (n x) : (s.setTev n x).clock = s.clock := by
  grind [State.setTev, State.clock]

theorem State.timedPulseEnd_clock (s : State) (k) : (s.timedPulseEnd k).clock = s.clock := by
  grind [State.timedPulseEnd, State.setTev_clock]

theorem State.timedOccurrence_clock (s : State) (k) : (s.timedOccurrence k).clock = s.clock := by
  grind [State.timedOccurrence, State.post_clock, State.setTev_clock]

theorem State.triggerPulses_clock (s : State) : (s.triggerPulses).clock = s.clock := by
  grind [State.triggerPulses, State.clock]

theorem State.paceStep_clock (s : State) (n) : (s.paceStep n).clock = s.clock := by
  grind [State.paceStep, State.modSashes_clock]

theorem State.pendFault_clock (s : State) (n p) : (s.pendFault n p).clock = s.clock := by
  grind [State.pendFault, State.modSite_clock]

theorem State.pendSash_clock (s : State) (i code pane detail) : (s.pendSash i code pane detail).clock = s.clock := by
  grind [State.pendSash, State.pendFault_clock]

theorem State.lateTokens_clock (s : State) (n) : (s.lateTokens n).clock = s.clock := by
  grind [State.lateTokens, State.modSash_clock, State.modSite_clock, State.pendSash_clock]

theorem State.beginStallAs_clock (s : State) (n i c f) : (s.beginStallAs n i c f).clock = s.clock := by
  cases c <;> grind [State.beginStallAs, State.setSash_clock, State.pendSash_clock]

theorem State.waitDeltas_clock (s : State) (n) : (s.waitDeltas n).clock = s.clock := by
  grind [State.waitDeltas, foldl_clock, State.modSash_clock, State.beginStallAs_clock]

theorem State.tickHinge_clock (s : State) (n) : (s.tickHinge n).clock = s.clock := by
  grind [State.tickHinge, State.modSite_clock, State.paceStep_clock, State.lateTokens_clock, State.waitDeltas_clock]

theorem State.tickPeak_clock (s : State) (n) : (s.tickPeak n).clock = s.clock := by
  grind [State.tickPeak, State.modSite_clock, foldl_clock]

theorem State.stallStep_clock (s : State) (n i) : (s.stallStep n i).clock = s.clock := by
  grind [State.stallStep, State.modSash_clock, State.setSash_clock]

theorem State.setMemSt_clock (s : State) (n x) : (s.setMemSt n x).clock = s.clock := by
  grind [State.setMemSt, State.clock]

theorem State.modMemSt_clock (s : State) (n f) : (s.modMemSt n f).clock = s.clock := by
  grind [State.modMemSt, State.setMemSt_clock]

theorem State.noteCe_clock (s : State) (m a) : (s.noteCe m a).clock = s.clock := by
  grind [State.noteCe, State.modMemSt_clock]

theorem State.postMemory_clock (s : State) (st memid addr marker) : (s.postMemory st memid addr marker).clock = s.clock := by
  grind [State.postMemory, State.post_clock]

theorem State.notePoison_clock (s : State) (m a marker) : (s.notePoison m a marker).clock = s.clock := by
  grind [State.notePoison, State.modMemSt_clock, State.postMemory_clock]

theorem State.readWord_clock (s : State) (w) : (s.readWord w).2.2.clock = s.clock := by
  grind [State.readWord, State.noteCe_clock, State.notePoison_clock]

theorem State.padBit_clock (s : State) (n l i) : (s.padBit n l i).2.2.clock = s.clock := by
  obtain ⟨b, e, t, hw, hp⟩ := padBit_eq s n l i
  have h := State.readWord_clock s (padWord n l + i / 64)
  rw [hw] at h
  rw [hp]
  exact h

theorem State.mergeWord_clock (s : State) (w f) : (s.mergeWord w f).clock = s.clock := by
  grind [State.mergeWord, State.noteCe_clock, State.modMemSt_clock, State.postMemory_clock, State.clock]

theorem State.writeBitAt_clock (s : State) (w i v) : (s.writeBitAt w i v).clock = s.clock := by
  grind [State.writeBitAt, State.mergeWord_clock]

theorem State.setPadBit_clock (s : State) (n l i v) : (s.setPadBit n l i v).clock = s.clock := by
  unfold State.setPadBit
  exact State.writeBitAt_clock ..

theorem State.applyMemw_clock (s : State) (n i) : (s.applyMemw n i).clock = s.clock := by
  unfold State.applyMemw
  refine (foldl_clock (fun s m => ?_) _ _).trans (State.modSash_clock ..)
  have read := State.padBit_clock s i m.line m.bit
  generalize s.padBit i m.line m.bit = p at read ⊢
  obtain ⟨old, bad, u⟩ := p
  generalize padAddr i (32 * m.line) = a
  have pended : (if bad = true then u.pendSash i Code.DI_POISON_READ m.pane a else u).clock = s.clock := by
    split
    · exact (State.pendSash_clock ..).trans read
    · exact read
  dsimp only
  generalize (if bad = true then u.pendSash i Code.DI_POISON_READ m.pane a else u) = v at pended ⊢
  have set := (State.setPadBit_clock v i m.line m.bit m.val).trans pended
  split
  · exact set
  · exact (State.modSash_clock ..).trans set

theorem State.sampleWires_clock (s : State) (n i k) : (s.sampleWires n i k).clock = s.clock := by
  grind [State.sampleWires, State.setLane_clock, foldl_clock]

theorem State.captureChecks_clock (s : State) (n i c fresh) : (s.captureChecks n i c fresh).clock = s.clock := by
  grind [State.captureChecks, State.modLane_clock, State.modSite_clock, State.pendFault_clock]

theorem State.endPanes_clock (s : State) (n i) : (s.endPanes n i).clock = s.clock := by
  grind [State.endPanes, State.applyMemw_clock, State.sampleWires_clock, State.captureChecks_clock, State.modSash_clock, State.clock]

theorem State.beginStall_clock (s : State) (n i c) : (s.beginStall n i c).clock = s.clock := by
  grind [State.beginStall, State.beginStallAs_clock]

theorem State.tickPanes_clock (s : State) (n i) : (s.tickPanes n i).clock = s.clock := by
  grind [State.tickPanes, State.stallStep_clock, State.endPanes_clock, State.setSash_clock, State.beginStall_clock, State.modSash_clock, State.sampleWires_clock]

theorem State.stopRun_clock (s : State) (n) : (s.stopRun n).clock = s.clock := by
  grind [State.stopRun, State.modLanes_clock, State.modTrigs_clock, State.modSashes_clock]

theorem State.dropOldest_clock (s : State) : (s.dropOldest).clock = s.clock := by
  grind [State.dropOldest, State.setTicket_clock]

theorem State.send_clock (s : State) (f) : (s.send f).clock = s.clock := by
  grind [State.send, State.clock]

theorem State.sendFragment_clock (s : State) (ua seq resp bs i) : (s.sendFragment ua seq resp bs i).clock = s.clock := by
  grind [State.sendFragment, State.send_clock]

theorem State.sendMbx_clock (s : State) (ua seq resp bs) : (s.sendMbx ua seq resp bs).clock = s.clock := by
  grind [State.sendMbx, State.sendFragment_clock]

theorem State.message_clock (s : State) (owner ua seq isResp bs) : (s.message owner ua seq isResp bs).clock = s.clock := by
  grind [State.message, State.sendMbx_clock, State.clock]

theorem State.passComplete_clock (s : State) (ua e') : (s.passComplete ua e').clock = s.clock := by
  grind [State.passComplete, State.message_clock, State.clock]

theorem State.finish_clock (s : State) (tk st data) : (s.finish tk st data).clock = s.clock := by
  grind [State.finish, State.setTicket_clock, State.dropOldest_clock, State.postEvent_clock, State.passComplete_clock]

theorem State.dropTransom_clock (s : State) (n) : (s.dropTransom n).clock = s.clock := by
  grind [State.dropTransom, State.finish_clock, State.modSite_clock]

theorem State.postNotice_clock (s : State) (st site obj action cycle detail) : (s.postNotice st site obj action cycle detail).clock = s.clock := by
  grind [State.postNotice, State.post_clock]

theorem State.cancelStartAt_clock (s : State) (n) : (s.cancelStartAt n).clock = s.clock := by
  grind [State.cancelStartAt, State.postNotice_clock, State.modSite_clock]

theorem State.postFault_clock (s : State) (st site obj cycle step pane detail) : (s.postFault st site obj cycle step pane detail).clock = s.clock := by
  grind [State.postFault, State.post_clock]

theorem State.postUnreported_clock (s : State) (n ps) : (s.postUnreported n ps).clock = s.clock := by
  grind [State.postUnreported, foldl_clock, State.postNotice_clock]

theorem State.enterFaulted_clock (s : State) (n p others) : (s.enterFaulted n p others).clock = s.clock := by
  grind [State.enterFaulted, State.stopRun_clock, State.dropTransom_clock, State.cancelStartAt_clock, State.modSite_clock, State.postFault_clock, State.moveSite_clock, State.postUnreported_clock]

theorem State.faultNow_clock (s : State) (n p) : (s.faultNow n p).clock = s.clock := by
  grind [State.faultNow, State.enterFaulted_clock]

theorem State.faultSashNow_clock (s : State) (i code pane detail) : (s.faultSashNow i code pane detail).clock = s.clock := by
  grind [State.faultSashNow, State.faultNow_clock]

theorem State.takePattern_clock (s : State) (i) : (s.takePattern i).clock = s.clock := by
  grind [State.takePattern, State.faultSashNow_clock, State.setLane_clock, State.setSash_clock]

theorem State.tickCells_clock (s : State) (n i) : (s.tickCells n i).clock = s.clock := by
  grind [State.tickCells, State.setSash_clock, State.modSash_clock, State.takePattern_clock]

theorem State.driveWire_clock (s : State) (i n driver v) : (s.driveWire i n driver v).clock = s.clock := by
  grind [State.driveWire, State.pendSash_clock, State.setSash_clock]

theorem State.driveResp_clock (s : State) (i) : (s.driveResp i).clock = s.clock := by
  grind [State.driveResp, State.driveWire_clock]

theorem State.tickSash_clock (s : State) (n i) : (s.tickSash n i).clock = s.clock := by
  grind [State.tickSash, State.tickPanes_clock, State.tickCells_clock, State.driveResp_clock]

theorem State.tickSite_clock (s : State) (n) : (s.tickSite n).clock = s.clock := by
  grind [State.tickSite, State.tickHinge_clock, State.tickPeak_clock, foldl_clock, State.tickSash_clock, State.modSite_clock]

theorem State.keySignal_clock (s : State) (i sel) : (s.keySignal i sel).clock = s.clock := by
  grind [State.keySignal, State.clock]

theorem State.askHalt_clock (s : State) (n) : (s.askHalt n).clock = s.clock := by
  grind [State.askHalt, State.send_clock, State.modSite_clock]

theorem State.triggerHalt_clock (s : State) (n) : (s.triggerHalt n).clock = s.clock := by
  grind [State.triggerHalt, State.cancelStartAt_clock, State.askHalt_clock]

theorem State.toutPulse_clock (s : State) (i mask w) : (s.toutPulse i mask w).clock = s.clock := by
  grind [State.toutPulse, foldl_clock, State.clock]

theorem State.triggerActions_clock (s : State) (n i) : (s.triggerActions n i).clock = s.clock := by
  grind [State.triggerActions, State.triggerHalt_clock, foldl_clock, State.askHalt_clock, State.post_clock, State.toutPulse_clock, State.send_clock]

theorem State.ensureRegion_clock (s : State) (a) : (s.ensureRegion a).clock = s.clock := by
  grind [State.ensureRegion, State.modMemSt_clock, State.clock]

theorem State.ensureRegions_clock (s : State) (r' fuel) : (s.ensureRegions r' fuel).clock = s.clock := by
  induction fuel generalizing s r' with
  | zero => rfl
  | succ n ih => grind [State.ensureRegions, State.ensureRegion_clock]

theorem State.writeWord_clock (s : State) (w bs) : (s.writeWord w bs).clock = s.clock := by
  grind [State.writeWord, State.mergeWord_clock, State.clock]

theorem State.writeWords_clock (s : State) (w bs fuel) : (s.writeWords w bs fuel).clock = s.clock := by
  induction fuel generalizing s w bs with
  | zero => rfl
  | succ n ih => grind [State.writeWords, State.writeWord_clock]

theorem State.memWriteBE_clock (s : State) (a bs) : (s.memWriteBE a bs).clock = s.clock := by
  grind [State.memWriteBE, State.ensureRegions_clock, State.writeWords_clock]

theorem State.memWrite_clock (s : State) (a bs) : (s.memWrite a bs).clock = s.clock := by
  grind [State.memWrite, State.memWriteBE_clock]

theorem State.rewrite_clock (s : State) (at_ old l) : (s.rewrite at_ old l).clock = s.clock := by
  grind [State.rewrite, foldl_clock, State.memWrite_clock]

theorem State.takeRecs_clock (s : State) (i t') : (s.takeRecs i t').clock = s.clock := by
  grind [State.takeRecs, State.rewrite_clock, State.setTrig_clock]

theorem State.fireUnit_clock (s : State) (n i grid info p) : (s.fireUnit n i grid info p).clock = s.clock := by
  grind [State.fireUnit, State.triggerActions_clock, State.keySignal_clock, State.modTrig_clock, State.takeRecs_clock]

theorem State.fireExternal_clock (s : State) (n i grid info) : (s.fireExternal n i grid info).clock = s.clock := by
  grind [State.fireExternal, State.fireUnit_clock, State.setTrig_clock]

theorem State.fireSite_clock (s : State) (n i grid) : (s.fireSite n i grid).clock = s.clock := by
  grind [State.fireSite, foldl_clock, State.fireExternal_clock]

theorem State.trigSlot_clock (s : State) (n i g) : (s.trigSlot n i g).clock = s.clock := by
  grind [State.trigSlot, foldl_clock, State.keySignal_clock, State.setTrig_clock, State.fireSite_clock, State.fireUnit_clock]

theorem State.trigRun_clock (s : State) (n i fuel) : (s.trigRun n i fuel).clock = s.clock := by
  induction fuel generalizing s n i with
  | zero => rfl
  | succ n ih => grind [State.trigRun, State.trigSlot_clock]

theorem State.tickTrigs_clock (s : State) (n) : (s.tickTrigs n).clock = s.clock := by
  grind [State.tickTrigs, foldl_clock, State.trigRun_clock]

theorem State.tickKeyhole_clock (s : State) : (s.tickKeyhole).clock = s.clock := by
  grind [State.tickKeyhole, State.clock]

end Sys2Proof.Machine
end

section
set_option Elab.async false
/-! O2: an idle step is one step clock. -/

namespace Sys2Proof.Machine

/-- What a step clock does before the counters move: starts, timed pulses and the trigger units' pulses. -/
def State.beforeTick (s : State) : State :=
  ((List.range 8).foldl State.timedOccurrence ((List.range 8).foldl State.timedPulseEnd
    ((List.range 16).foldl State.startAtFire s))).triggerPulses

theorem stepClock_eq (s : State) : s.stepClock = s.beforeTick.tick := rfl

theorem beforeTick_clock (s : State) : s.beforeTick.clock = s.clock :=
  calc s.beforeTick.clock
    _ = ((List.range 8).foldl State.timedOccurrence _).clock := State.triggerPulses_clock _
    _ = ((List.range 8).foldl State.timedPulseEnd _).clock := foldl_clock State.timedOccurrence_clock _ _
    _ = ((List.range 16).foldl State.startAtFire s).clock := foldl_clock State.timedPulseEnd_clock _ _
    _ = s.clock := foldl_clock State.startAtFire_clock _ _

/-- The counters after one step clock (R2). -/
def stepped (c : Nat × Nat × Ident) : Nat × Nat × Ident := (c.1 + 1, c.2.1 + (if c.2.2.grade12 then 800 else 1000), c.2.2)

theorem tickTime_clock (s : State) : s.tickTime.clock = stepped s.clock := rfl

theorem tick_clock (s : State) : s.tick.clock = stepped s.clock := by
  unfold State.tick
  extract_lets u v _ w x
  have sites : u.clock = s.clock := foldl_clock (fun t n => (State.tickTrigs_clock ..).trans (State.tickSite_clock ..)) _ _
  clear_value u
  have ports : w.clock = s.clock := sites
  have timed : x.clock = stepped s.clock := (tickTime_clock _).trans (congrArg stepped ((State.tickKeyhole_clock _).trans ports))
  split
  · exact timed
  · exact timed

theorem counters_of_clock {s t : State} (h : t.clock = stepped s.clock) :
    t.power.steps = s.power.steps + 1 ∧ t.power.ps = s.power.ps + (if s.id.grade12 then 800 else 1000) :=
  ⟨congrArg Prod.fst h, congrArg (fun c => c.2.1) h⟩

/-- Settles O2: everything a step clock does besides leaves the two counters as they are. -/
theorem idleStepIsOneStepClock : Obligations.IdleStepIsOneStepClock := by
  unfold Obligations.IdleStepIsOneStepClock
  intro s empty
  have clock : s.stepClock.clock = stepped s.clock := by
    rw [stepClock_eq, tick_clock, beforeTick_clock]
  exact ⟨_, step_nil empty, counters_of_clock clock⟩

end Sys2Proof.Machine
end

section
set_option Elab.async false
/-! O40: mask monitor, packet search and gain ports. -/

namespace Sys2Proof.Machine

/-! ### The worst bin and the strongest candidate -/

/-- A bin's excess over its mask, bins numbered from `k` (R325). -/
def binExcess (m : Tab (BitVec 16)) (k : Nat) (bins : List Int) (i : Nat) : Int := bins.getD i 0 - (tget 0 m (k + i)).toInt

theorem binExcess_cons_succ (m : Tab (BitVec 16)) (k : Nat) (b : Int) (bs : List Int) (i : Nat) :
    binExcess m k (b :: bs) (i + 1) = binExcess m (k + 1) bs i := by
  unfold binExcess
  rw [List.getD_cons_succ, Nat.add_assoc, Nat.add_comm 1 i]

theorem worstBin_cons (m : Tab (BitVec 16)) (k : Nat) (b : Int) (bs : List Int) :
    worstBin m k (b :: bs) =
      match worstBin m (k + 1) bs with
      | some (j, y) => if binExcess m k (b :: bs) 0 < y then some (j, y) else some (k, binExcess m k (b :: bs) 0)
      | none => some (k, binExcess m k (b :: bs) 0) := rfl

/-- The worst bin is one of the bins. -/
theorem worstBin_isBin {m : Tab (BitVec 16)} {k : Nat} {bins : List Int} {r : Nat × Int} (h : worstBin m k bins = some r) :
    ∃ i, i < bins.length ∧ r.2 = binExcess m k bins i := by
  induction bins generalizing k with
  | nil => cases h
  | cons b bs ih =>
    rw [worstBin_cons] at h
    have first : some (k, binExcess m k (b :: bs) 0) = some r → ∃ i, i < (b :: bs).length ∧ r.2 = binExcess m k (b :: bs) i := by
      rintro ⟨⟩
      exact ⟨0, Nat.succ_pos _, rfl⟩
    cases hw : worstBin m (k + 1) bs with
    | none => rw [hw] at h; exact first h
    | some jy =>
      rw [hw] at h
      dsimp only at h
      split at h
      · cases h
        obtain ⟨i, lt, hy⟩ := ih hw
        exact ⟨i + 1, Nat.succ_lt_succ lt, hy.trans (binExcess_cons_succ ..).symm⟩
      · exact first h

theorem worstBin_isSome (m : Tab (BitVec 16)) (k : Nat) {bins : List Int} (h : bins ≠ []) : ∃ r, worstBin m k bins = some r := by
  cases bins with
  | nil => exact absurd rfl h
  | cons b bs =>
    rw [worstBin_cons]
    split
    · split
      · exact ⟨_, rfl⟩
      · exact ⟨_, rfl⟩
    · exact ⟨_, rfl⟩

/-- Of the bins with the largest excess the lowest is the worst (R325). -/
theorem worstBin_eq {m : Tab (BitVec 16)} {k : Nat} {bins : List Int} {j : Nat} (hj : j < bins.length)
    (h : ∀ i, i < bins.length → binExcess m k bins i ≤ binExcess m k bins j ∧ (i < j → binExcess m k bins i < binExcess m k bins j)) :
    worstBin m k bins = some (k + j, binExcess m k bins j) := by
  induction bins generalizing k j with
  | nil => exact absurd hj (Nat.not_lt_zero j)
  | cons b bs ih =>
    rw [worstBin_cons]
    cases j with
    | zero =>
      cases hw : worstBin m (k + 1) bs with
      | none => rfl
      | some r =>
        obtain ⟨i, lt, hr⟩ := worstBin_isBin hw
        have le := (h (i + 1) (Nat.succ_lt_succ lt)).1
        rw [binExcess_cons_succ, ← hr] at le
        exact if_neg (Int.not_lt.mpr le)
    | succ j =>
      have rest := ih (k := k + 1) (j := j) (Nat.lt_of_succ_lt_succ hj) fun i lt => by
        have hi := h (i + 1) (Nat.succ_lt_succ lt)
        rw [binExcess_cons_succ, binExcess_cons_succ] at hi
        exact ⟨hi.1, fun lt => hi.2 (Nat.succ_lt_succ lt)⟩
      have lt := (h 0 (Nat.succ_pos _)).2 (Nat.succ_pos j)
      rw [binExcess_cons_succ] at lt ⊢
      rw [rest]
      exact (if_pos lt).trans (by rw [Nat.add_right_comm, Nat.add_assoc])

theorem zipIdx_eq_map (bins : List Int) : bins.zipIdx = (List.range bins.length).map fun i => (bins.getD i 0, i) := by
  refine List.ext_getElem (by simp) fun i hi _ => ?_
  have lt : i < bins.length := by simpa using hi
  simp [List.getD_eq_getElem?_getD, List.getElem?_eq_getElem lt]

/-- The bins over their mask, counted over the list or over the bin numbers. -/
theorem countP_over (m : Tab (BitVec 16)) (bins : List Int) :
    (bins.zipIdx.countP fun e => decide ((tget 0 m e.2).toInt < e.1)) =
      (List.range bins.length).countP fun j => decide (0 < bins.getD j 0 - (tget 0 m j).toInt) := by
  rw [zipIdx_eq_map, List.countP_map]
  refine List.countP_congr fun j _ => ?_
  simp

theorem bestCand_cons (c : Nat × BitVec 32) (cs : List (Nat × BitVec 32)) :
    bestCand (c :: cs) =
      match bestCand cs with
      | some d => if c.2.toNat < d.2.toNat ∨ (c.2 = d.2 ∧ d.1 < c.1) then some d else some c
      | none => some c := rfl

theorem bestCand_mem {cs : List (Nat × BitVec 32)} {d : Nat × BitVec 32} (h : bestCand cs = some d) : d ∈ cs := by
  induction cs with
  | nil => cases h
  | cons c cs ih =>
    rw [bestCand_cons] at h
    cases hb : bestCand cs with
    | none => rw [hb] at h; cases h; exact List.mem_cons_self
    | some e =>
      rw [hb] at h
      dsimp only at h
      split at h
      · cases h; exact List.mem_cons_of_mem _ (ih hb)
      · cases h; exact List.mem_cons_self

/-- The strongest candidate wins, the lower hypothesis among equals (R326). -/
theorem bestCand_eq {cs : List (Nat × BitVec 32)} {d : Nat × BitVec 32} (mem : d ∈ cs)
    (h : ∀ c ∈ cs, c.2.toNat < d.2.toNat ∨ (c.2 = d.2 ∧ d.1 ≤ c.1)) : bestCand cs = some d := by
  induction cs with
  | nil => cases mem
  | cons c cs ih =>
    rw [bestCand_cons]
    have rest : ∀ e ∈ cs, e.2.toNat < d.2.toNat ∨ (e.2 = d.2 ∧ d.1 ≤ e.1) := fun e he => h e (List.mem_cons_of_mem _ he)
    by_cases inTail : d ∈ cs
    · rw [ih inTail rest]
      dsimp only
      split
      next => rfl
      next notLess =>
        obtain lt | ⟨eq, le⟩ := h c List.mem_cons_self
        · exact absurd (Or.inl lt) notLess
        · have num : c.1 = d.1 := Nat.le_antisymm (Nat.not_lt.mp fun lt => notLess (Or.inr ⟨eq, lt⟩)) le
          exact congrArg some (Prod.ext num eq)
    · obtain rfl : d = c := (List.mem_cons.mp mem).resolve_right inTail
      cases hb : bestCand cs with
      | none => rfl
      | some e =>
        refine if_neg ?_
        rintro (lt | ⟨eq, lt⟩)
        · obtain gt | ⟨eq, -⟩ := rest e (bestCand_mem hb)
          · omega
          · rw [eq] at lt; exact Nat.lt_irrefl _ lt
        · obtain gt | ⟨-, le⟩ := rest e (bestCand_mem hb)
          · rw [eq] at gt; exact Nat.lt_irrefl _ gt
          · omega

/-! ### The mask monitor -/

theorem exec_maskMonitorAverage (k : Fin 256) (bins : List Int) (s : State) :
    exec (.maskMonitorAverage k bins) s = execMaskMonitorAverage k bins s := rfl

theorem maskMonitorAverage_nothing {s : State} {k : Fin 256} {bins : List Int}
    (h : ∀ st, s.stream k.val = some st → st.rx = true ∨ st.avg = 0 ∨ bins.length ≠ 256 ∨ st.idx * st.interp < st.monAt + 256 * st.avg) :
    exec (.maskMonitorAverage k bins) s = .next s := by
  rw [exec_maskMonitorAverage, execMaskMonitorAverage]
  cases hs : s.stream k.val with
  | none => rfl
  | some st => exact congrArg _ (if_pos (h st hs))

/-- A due average, by the bins over the mask and the worst of them (R325). -/
theorem maskMonitorAverage_due {s : State} {k : Fin 256} {bins : List Int} {st : Stream} (hs : s.stream k.val = some st)
    (hrx : st.rx = false) (havg : st.avg ≠ 0) (hlen : bins.length = 256) (due : st.monAt + 256 * st.avg ≤ st.idx * st.interp)
    {j : Nat} {y : Int} (worst : worstBin st.mask 0 bins = some (j, y)) :
    let n := (List.range 256).countP fun j => decide (0 < bins.getD j 0 - (tget 0 st.mask j).toInt)
    let x : Stream := { st with monAt := st.monAt + 256 * st.avg }
    exec (.maskMonitorAverage k bins) s = .next
      (if n = 0 then s.setStream k.val (some x)
       else (s.setStream k.val (some { x with maskOver := satInc st.maskOver })).streamItem k.val 0
        (leBytes st.monAt 8 ++ leBytes n 2 ++ leBytes j 2 ++ leBytes (BitVec.ofInt 16 y).toNat 2)) := by
  rw [exec_maskMonitorAverage, execMaskMonitorAverage, hs]
  have go : ¬(st.rx = true ∨ st.avg = 0 ∨ bins.length ≠ 256 ∨ st.idx * st.interp < st.monAt + 256 * st.avg) := by
    simp only [hrx, hlen, not_or, ne_eq, not_true_eq_false, not_lt]
    exact ⟨Bool.false_ne_true, havg, not_false, due⟩
  dsimp only
  rw [if_neg go, worst, countP_over, hlen]

/-! ### The packet search -/

theorem exec_packetDetect (k : Fin 256) (p : BitVec 64) (g : Int) (cands : List (Nat × BitVec 32)) (s : State) :
    exec (.packetDetect k p g cands) s = execPacketDetect k p g cands s := rfl

/-- A candidate's hypothesis is on and reaches its threshold (R326). -/
def candOn (st : Stream) (c : Nat × BitVec 32) : Prop :=
  c.1 < 8 ∧ (tget {} st.hyp c.1).reflen ≠ 0 ∧ (tget {} st.hyp c.1).th.toNat * 65536 ≤ c.2.toNat

/-- The candidates that count. -/
def candsOn (st : Stream) (cands : List (Nat × BitVec 32)) : List (Nat × BitVec 32) :=
  cands.filter fun c =>
    let h := tget {} st.hyp c.1
    decide (c.1 < 8) && h.reflen != 0 && decide (h.th.toNat * 65536 ≤ c.2.toNat)

theorem mem_candsOn {st : Stream} {cands : List (Nat × BitVec 32)} {c : Nat × BitVec 32} :
    c ∈ candsOn st cands ↔ c ∈ cands ∧ candOn st c := by
  simp [candsOn, candOn, and_assoc]

theorem length_candsOn (st : Stream) (cands : List (Nat × BitVec 32)) :
    (candsOn st cands).length = cands.countP fun c =>
      decide (c.1 < 8 ∧ (tget {} st.hyp c.1).reflen ≠ 0 ∧ (tget {} st.hyp c.1).th.toNat * 65536 ≤ c.2.toNat) := by
  rw [candsOn, ← List.countP_eq_length_filter]
  refine List.countP_congr fun c _ => ?_
  simp [and_assoc]

theorem packetDetect_noStream {s : State} {k : Fin 256} (p : BitVec 64) (g : Int) (cands : List (Nat × BitVec 32))
    (hs : s.stream k.val = none) : exec (.packetDetect k p g cands) s = .next s := by
  rw [exec_packetDetect, execPacketDetect, hs]

theorem packetDetect_nothing {s : State} {k : Fin 256} {p : BitVec 64} {cands : List (Nat × BitVec 32)} {st : Stream} (g : Int)
    (hs : s.stream k.val = some st)
    (h : (∀ c, ¬(c ∈ cands ∧ candOn st c)) ∨ st.rx = false ∨ st.idx + st.rxBuf.length ≤ p.toNat) :
    exec (.packetDetect k p g cands) s = .next s := by
  rw [exec_packetDetect, execPacketDetect, hs]
  change Host.Outcome.next (match bestCand (candsOn st cands) with | none => s | some (h, rho) => _) = _
  cases hb : bestCand (candsOn st cands) with
  | none => rfl
  | some d =>
    obtain none_ | notYet := h
    · exact absurd (mem_candsOn.mp (bestCand_mem hb)) (none_ d)
    · exact congrArg _ (if_pos notYet)

/-- Items that the task of the stream still takes (R327). -/
def State.itemRoom (s : State) (st : Stream) : Nat :=
  match s.task st.task with
  | some t => if st.heldItems.isEmpty then t.qdepth - t.queue.length else 0
  | none => 0

/-- The PREEMPTED item of the packet that lost its path (R327). -/
def State.preempt (s : State) (k path : Nat) : Option Capture → State
  | some c => s.streamItem k 2 (searchUser c.p c.strength 0 0 path)
  | none => s

/-- A detection that counts, of hypothesis `h` with correlation `rho` at sample `p` with strength `g` (R327, R328). -/
def State.detected (s : State) (k : Nat) (st : Stream) (p : Nat) (g : Int) (h : Nat) (rho : BitVec 32) : State :=
  let put (x : Stream) : State := s.setStream k (some x)
  if 4 ≤ st.heldItems.length then put { st with missed := satInc st.missed }
  else match st.choosePath g with
  | none => put { st with ignored := satInc st.ignored }
  | some (path, old) =>
    if s.itemRoom st + 4 < st.heldItems.length + (if old.isSome then 2 else 1) then put { st with missed := satInc st.missed }
    else
      ((put (st.setPath path (some { p := p, strength := g }))).preempt k path old).streamItem k 1 (searchUser p g (rho.toNat / 65536) h path)

theorem packetDetect_heard {s : State} {k : Fin 256} {p : BitVec 64} {cands : List (Nat × BitVec 32)} {st : Stream} {h : Nat}
    {rho : BitVec 32} (g : Int) (hs : s.stream k.val = some st) (best : bestCand (candsOn st cands) = some (h, rho)) (hrx : st.rx = true)
    (ready : p.toNat < st.idx + st.rxBuf.length) :
    exec (.packetDetect k p g cands) s =
      .next (s.detected k.val { st with aliased := satAdd st.aliased ((candsOn st cands).length - 1) } p.toNat g h rho) := by
  rw [exec_packetDetect, execPacketDetect, hs]
  change Host.Outcome.next (match bestCand (candsOn st cands) with | none => s | some (h, rho) => _) = _
  rw [best]
  have go : ¬(st.rx = false ∨ st.idx + st.rxBuf.length ≤ p.toNat) := by
    rintro (off | wait)
    · exact ne_false_of_eq_true hrx off
    · omega
  exact congrArg _ (if_neg go)

theorem detected_full {s : State} {k : Nat} {st : Stream} (p : Nat) (g : Int) (h : Nat) (rho : BitVec 32)
    (full : 4 ≤ st.heldItems.length) : s.detected k st p g h rho = s.setStream k (some { st with missed := satInc st.missed }) :=
  if_pos full

theorem detected_ignored {s : State} {k : Nat} {st : Stream} {g : Int} (p h : Nat) (rho : BitVec 32)
    (held : st.heldItems.length < 4) (path : st.choosePath g = none) :
    s.detected k st p g h rho = s.setStream k (some { st with ignored := satInc st.ignored }) := by
  refine (if_neg (Nat.not_le.mpr held)).trans ?_
  rw [path]

theorem detected_noRoom {s : State} {k : Nat} {st : Stream} {g : Int} {path : Nat} {old : Option Capture} (p h : Nat) (rho : BitVec 32)
    (held : st.heldItems.length < 4) (chosen : st.choosePath g = some (path, old))
    (room : s.itemRoom st + 4 < st.heldItems.length + (if old.isSome then 2 else 1)) :
    s.detected k st p g h rho = s.setStream k (some { st with missed := satInc st.missed }) := by
  refine (if_neg (Nat.not_le.mpr held)).trans ?_
  rw [chosen]
  exact if_pos room

theorem detected_taken {s : State} {k : Nat} {st : Stream} {g : Int} {path : Nat} {old : Option Capture} (p h : Nat) (rho : BitVec 32)
    (held : st.heldItems.length < 4) (chosen : st.choosePath g = some (path, old))
    (room : st.heldItems.length + (if old.isSome then 2 else 1) ≤ s.itemRoom st + 4) :
    s.detected k st p g h rho =
      ((s.setStream k (some (st.setPath path (some { p := p, strength := g })))).preempt k path old).streamItem k 1
        (searchUser p g (rho.toNat / 65536) h path) := by
  refine (if_neg (Nat.not_le.mpr held)).trans ?_
  rw [chosen]
  exact if_neg (Nat.not_lt.mpr room)

/-! ### The paths of a capture -/

theorem choosePath_free {st : Stream} (g : Int) (h : st.path0 = none) : st.choosePath g = some (0, none) := by
  unfold Stream.choosePath; rw [h]

/-- The strength that displaces a packet, as the policy's test (R328). -/
theorem ite_beats {a g : Int} {α : Type} (x y : α) :
    (a ≤ g → (if decide (a ≤ g) = true then x else y) = x) ∧ (¬a ≤ g → (if decide (a ≤ g) = true then x else y) = y) :=
  ⟨fun h => if_pos (decide_eq_true h), fun h => if_neg (by simpa using h)⟩

/-- The policies of a stream whose first path is taken (R328). -/
theorem choosePath_busy {st : Stream} {a : Capture} (g : Int) (h : st.path0 = some a) :
    (st.policy = 0 → st.choosePath g = none) ∧
    (st.policy = 1 → st.choosePath g = if decide (a.strength + st.swm.toNat ≤ g) = true then some (0, some a) else none) ∧
    (st.policy = 2 →
      (st.path1 = none → st.choosePath g = some (1, none)) ∧
      ∀ b, st.path1 = some b →
        (a.strength ≤ b.strength → st.choosePath g = if decide (a.strength + st.swm.toNat ≤ g) = true then some (0, some a) else none) ∧
        (b.strength < a.strength → st.choosePath g = if decide (b.strength + st.swm.toNat ≤ g) = true then some (1, some b) else none)) := by
  unfold Stream.choosePath
  rw [h]
  refine ⟨fun p0 => if_pos p0, fun p1 => ?_, fun p2 => ?_⟩
  · exact (if_neg (by rw [p1]; decide)).trans (if_pos p1)
  · have second : ∀ {α : Type} (x y z : α), (if st.policy = 0 then x else if st.policy = 1 then y else z) = z := fun x y z =>
      (if_neg (by rw [p2]; decide)).trans (if_neg (by rw [p2]; decide))
    refine ⟨fun free => (second ..).trans (by rw [free]), fun b hb => ?_⟩
    rw [hb]
    exact ⟨fun le => (second ..).trans (if_pos le), fun lt => (second ..).trans (if_neg (Int.not_le.mpr lt))⟩

/-! ### Captures that end and gain words -/

theorem exec_captureTruncate (k : Fin 256) (path : Fin 2) (s : State) : exec (.captureTruncate k path) s = execCaptureTruncate k path s := rfl

/-- The packet on a path. -/
def capturedOn (path : Fin 2) (st : Stream) : Option Capture := if path.val = 0 then st.path0 else st.path1

theorem captureTruncate_nothing {s : State} {k : Fin 256} {path : Fin 2}
    (h : ∀ st c, s.stream k.val = some st → capturedOn path st = some c → st.idx + st.rxBuf.length < c.p + st.maxlen) :
    exec (.captureTruncate k path) s = .next s := by
  rw [exec_captureTruncate, execCaptureTruncate]
  cases hs : s.stream k.val with
  | none => rfl
  | some st =>
    change Host.Outcome.next (match capturedOn path st with | none => s | some c => _) = _
    cases hc : capturedOn path st with
    | none => rfl
    | some c => exact congrArg _ (if_pos (h st c hs hc))

theorem captureTruncate_ends {s : State} {k : Fin 256} {path : Fin 2} {st : Stream} {c : Capture} (hs : s.stream k.val = some st)
    (hc : capturedOn path st = some c) (long : c.p + st.maxlen ≤ st.idx + st.rxBuf.length) :
    exec (.captureTruncate k path) s =
      .next ((s.setStream k.val (some (st.setPath path.val none))).streamItem k.val 3 (searchUser c.p c.strength 0 0 path.val)) := by
  rw [exec_captureTruncate, execCaptureTruncate, hs]
  change Host.Outcome.next (match capturedOn path st with | none => s | some c => _) = _
  rw [hc]
  exact congrArg _ (if_neg (Nat.not_lt.mpr long))

theorem exec_gainWordSend (n : Fin 4) (s : State) : exec (.gainWordSend n) s = execGainWordSend n s := rfl

theorem gainWordSend_empty {s : State} {n : Fin 4} (h : (s.fePort n.val).queue = []) : exec (.gainWordSend n) s = .next s := by
  rw [exec_gainWordSend, execGainWordSend]
  dsimp only
  rw [h]

theorem gainWordSend_word {s : State} {n : Fin 4} {w : GainWord} {q : List GainWord} (h : (s.fePort n.val).queue = w :: q) :
    exec (.gainWordSend n) s =
      .next (if w.at_.getD 0 ≤ s.time.ns then s.setFePort n.val
          { s.fePort n.val with div := w.div, queue := q, sent := (w.bits, w.word) :: (s.fePort n.val).sent, csn := true }
        else s) := by
  rw [exec_gainWordSend, execGainWordSend]
  dsimp only
  rw [h]

/-- Settles O40, row by row. -/
theorem streamMonitorsAndGainPorts : Obligations.StreamMonitorsAndGainPorts := by
  unfold Obligations.StreamMonitorsAndGainPorts
  refine ⟨fun s k bins => ⟨maskMonitorAverage_nothing, ?_⟩, fun s k p g cands => ⟨packetDetect_noStream p g cands, ?_⟩,
    fun st g => ⟨choosePath_free g, fun a ha => ?_⟩, fun s k path => ⟨captureTruncate_nothing, ?_⟩,
    fun s n => ⟨gainWordSend_empty, fun w q hq => ⟨fun due => ?_, fun early => ?_⟩⟩⟩
  · intro st hs hrx havg hlen due excess n x
    refine ⟨fun zero => ?_, fun j hj pos max => ?_⟩
    · obtain ⟨⟨j, y⟩, worst⟩ := worstBin_isSome st.mask 0 (List.ne_nil_of_length_pos (by omega : 0 < bins.length))
      exact (maskMonitorAverage_due hs hrx havg hlen due worst).trans (congrArg _ (if_pos zero))
    · have excess_eq : ∀ i, binExcess st.mask 0 bins i = excess i := fun i => by unfold binExcess; rw [Nat.zero_add]
      have worst : worstBin st.mask 0 bins = some (j, excess j) := by
        rw [worstBin_eq (hlen ▸ hj) fun i hi => by rw [excess_eq, excess_eq]; exact max i (hlen ▸ hi), excess_eq, Nat.zero_add]
      have some_ : n ≠ 0 := Nat.ne_of_gt (List.countP_pos_iff.mpr ⟨j, List.mem_range.mpr hj, decide_eq_true pos⟩)
      exact (maskMonitorAverage_due hs hrx havg hlen due worst).trans (congrArg _ (if_neg some_))
  · intro st hs on
    refine ⟨packetDetect_nothing g hs, fun h rho hon max hrx ready => ?_⟩
    intro n x room missed taken sync
    have best : bestCand (candsOn st cands) = some (h, rho) :=
      bestCand_eq (mem_candsOn.mpr hon) fun c hc => max c (mem_candsOn.mp hc)
    have run : exec (.packetDetect k p g cands) s = .next (s.detected k.val x p.toNat g h rho) :=
      (packetDetect_heard g hs best hrx ready).trans (by rw [length_candsOn])
    refine ⟨fun full => run.trans (congrArg _ (detected_full _ _ _ _ full)), fun held => ⟨fun ignored => ?_, fun path free => ⟨fun lack => ?_, fun fits => ?_⟩,
      fun path c taken_ => ⟨fun lack => ?_, fun fits => ?_⟩⟩⟩
    · exact run.trans (congrArg _ (detected_ignored _ _ _ held ignored))
    · exact run.trans (congrArg _ (detected_noRoom (st := x) _ _ _ held free lack))
    · exact run.trans (congrArg _ (detected_taken (st := x) _ _ _ held free fits))
    · exact run.trans (congrArg _ (detected_noRoom (st := x) _ _ _ held taken_ lack))
    · exact run.trans (congrArg _ (detected_taken (st := x) _ _ _ held taken_ fits))
  · obtain ⟨keep, one, two⟩ := choosePath_busy g ha
    refine ⟨keep, fun p1 => ?_, fun p2 => ⟨(two p2).1, fun b hb => ⟨fun le => ?_, fun lt => ?_⟩⟩⟩
    · rw [one p1]; exact ite_beats ..
    · rw [((two p2).2 b hb).1 le]; exact ite_beats ..
    · rw [((two p2).2 b hb).2 lt]; exact ite_beats ..
  · exact fun st c hs hc long => captureTruncate_ends hs hc long
  · exact (gainWordSend_word hq).trans (congrArg _ (if_pos due))
  · exact (gainWordSend_word hq).trans (congrArg _ (if_neg (Nat.not_le.mpr early)))

end Sys2Proof.Machine
end

section
set_option Elab.async false
/-! O39: stream samples between link and ring. -/

namespace Sys2Proof.Machine

/-! ### Reading and writing a control block -/

/-- A match on a pair names its components. -/
theorem pair_match {α β γ : Type} (p : α × β) (f : α → β → γ) : (match p with | (a, b) => f a b) = f p.1 p.2 := rfl

/-- The lock bit of a stream's flag word is taken away (R322). -/
theorem lockBit_cleared (p : Nat × State) (st : Stream) :
    (match p with | (v, t) => t.cbWrite st 0x34 4 (v - v % 2)) = p.2.cbWrite st 0x34 4 (p.1 - p.1 % 2) :=
  pair_match p fun v t => t.cbWrite st 0x34 4 (v - v % 2)

/-- The state `t` after a delivery, with a CRC error counted (R322). -/
def crcChecked (ok : Bool) (st : Stream) (t : State) : State :=
  if ok then t else (((t.cbRead st 0x30 4).2.cbWrite st 0x30 4 ((t.cbRead st 0x30 4).1 + 1)).cbFlag st 4).streamFlag st

theorem crcErr_counted (p : Nat × State) (st : Stream) :
    (match p with | (v, t) => ((t.cbWrite st 0x30 4 (v + 1)).cbFlag st 4).streamFlag st) =
      ((p.2.cbWrite st 0x30 4 (p.1 + 1)).cbFlag st 4).streamFlag st :=
  pair_match p fun v t => ((t.cbWrite st 0x30 4 (v + 1)).cbFlag st 4).streamFlag st

theorem crcErr_checked (t : State) (ok : Bool) (st : Stream) :
    (if ok then t else match t.cbRead st 0x30 4 with | (v, t) => ((t.cbWrite st 0x30 4 (v + 1)).cbFlag st 4).streamFlag st) =
      crcChecked ok st t := by
  cases ok with
  | true => exact (if_pos rfl).trans (if_pos rfl).symm
  | false => exact (if_neg Bool.false_ne_true).trans ((crcErr_counted (t.cbRead st 0x30 4) st).trans (if_neg Bool.false_ne_true).symm)

/-! ### SYSREF edges -/

theorem sysrefLink_none {u : State} {i : Nat} (clk : Nat) (h : u.slink i = none) : u.sysrefLink clk i = u := by
  unfold State.sysrefLink; rw [h]

theorem sysrefLink_aligns {u : State} {i : Nat} {l : StreamLink} (clk : Nat) (h : u.slink i = some l) (hc : l.lemc = none) :
    u.sysrefLink clk i = u.setSlink i (some { l with lemc := some clk }) := by
  unfold State.sysrefLink; rw [h]; dsimp only; rw [hc]

/-- A later edge is checked in MONITOR (R318). -/
theorem sysrefLink_checks {u : State} {i : Nat} {l : StreamLink} {c : Nat} (clk : Nat) (h : u.slink i = some l) (hc : l.lemc = some c) :
    u.sysrefLink clk i =
      if l.monitor = true ∧ l.onLemc (clk - c) = false then
        (u.setSlink i (some { l with sysrefErr := satInc l.sysrefErr })).postLane Code.ST_OK 0xFF l.l0 4 0 0
      else u := by
  unfold State.sysrefLink; rw [h]; dsimp only; rw [hc]

theorem onLemc_eq_false {l : StreamLink} {n : Nat} : l.onLemc n = false ↔ n * 100 * l.rate % (l.e * 2112 * 15625) ≠ 0 := by
  unfold StreamLink.onLemc; exact beq_eq_false_iff_ne

/-! ### Received multiblocks -/

theorem exec_streamRxMultiblock (x : Fin 16) (ok : Bool) (ws : List (BitVec 32)) (s : State) :
    exec (.streamRxMultiblock x ok ws) s = execStreamRxMultiblock x ok ws s := rfl

theorem streamRxMultiblock_nothing {s : State} {x : Fin 16} {ws : List (BitVec 32)} (ok : Bool)
    (h : ∀ l, s.slink x.val = some l → l.rx = false ∨ ws.length ≠ 64 * l.lanes) : exec (.streamRxMultiblock x ok ws) s = .next s := by
  rw [exec_streamRxMultiblock, execStreamRxMultiblock]
  cases hl : s.slink x.val with
  | none => rfl
  | some l => exact congrArg _ (if_pos (h l hl))

theorem streamRxMultiblock_delivers {s : State} {x : Fin 16} {ws : List (BitVec 32)} {l : StreamLink} (ok : Bool)
    (hl : s.slink x.val = some l) (hrx : l.rx = true) (hlen : ws.length = 64 * l.lanes) :
    let u := if l.mb = 0 then s.modLanes l.laneList fun y => { y with phy := { y.phy with lastRx := s.stamp } } else s
    exec (.streamRxMultiblock x ok ws) s =
      .next ((u.forStreams (u.streamsOf x.val) fun u k st => u.rxDeliver l ok ws k st).setSlink x.val
        (some { l with mb := (l.mb + 1) % l.e })) := by
  rw [exec_streamRxMultiblock, execStreamRxMultiblock, hl]
  refine congrArg _ (if_neg ?_)
  rintro (off | short)
  · exact ne_false_of_eq_true hrx off
  · exact short hlen

/-- Without lock the samples are zeros, and as many (R322). -/
theorem zerosWithoutLock (lock : Bool) (put : List Word → State) (loss : State → Nat → State) (xs : List Word) :
    (if lock then put (if lock then xs else xs.map fun _ => 0)
      else loss (put (if lock then xs else xs.map fun _ => 0)) (if lock then xs else xs.map fun _ => 0).length) =
      if lock then put xs else loss (put (xs.map fun _ => 0)) xs.length := by
  cases lock with
  | true => rfl
  | false => simp

/-- A stream has started, or starts with this multiblock (R319). -/
theorem rxDeliver_starts {s : State} {l : StreamLink} {st : Stream} (ok : Bool) (ws : List (BitVec 32)) (k : Nat)
    (h : st.started = true ∨ (l.mb = 0 ∧ st.start ≤ s.time.ns)) :
    s.rxDeliver l ok ws k st =
      let u := if st.started then s else s.streamStart st
      let xs := l.samplesOf st.j ws
      let put (ys : List Word) : State := u.setStream k (some { st with started := true, rxBuf := st.rxBuf ++ ys })
      let v := if l.lock then put xs else (put (xs.map fun _ => 0)).streamLoss st (st.idx + st.rxBuf.length) xs.length
      if ok then v else (((v.cbRead st 0x30 4).2.cbWrite st 0x30 4 ((v.cbRead st 0x30 4).1 + 1)).cbFlag st 4).streamFlag st := by
  unfold State.rxDeliver
  extract_lets starts u₀ xs₀ at_ u₁ v₀ u xs put v
  have go : ¬(!st.started && !starts) = true := by
    simp only [starts]
    obtain on | ⟨mb, time⟩ := h
    · simp [on]
    · simp [mb, time]
  have start : u₀ = u := by
    simp only [u₀, u, starts]
    by_cases on : st.started = true
    · simp [on]
    · obtain ⟨mb, time⟩ := h.resolve_left on
      simp [on, mb, time]
  have put₀ : u₁ = put xs₀ := congrArg (fun w : State => w.setStream k (some { st with started := true, rxBuf := st.rxBuf ++ xs₀ })) start
  have stored : v₀ = v := (congrArg (fun t : State => if l.lock then t else t.streamLoss st at_ xs₀.length) put₀).trans
    (zerosWithoutLock l.lock put (fun t n => t.streamLoss st at_ n) xs)
  exact (if_neg go).trans ((crcErr_checked v₀ ok st).trans (congrArg (crcChecked ok st) stored))

theorem rxDeliver_waits {s : State} {l : StreamLink} {st : Stream} (ok : Bool) (ws : List (BitVec 32)) (k : Nat)
    (off : st.started = false) (h : ¬(l.mb = 0 ∧ st.start ≤ s.time.ns)) : s.rxDeliver l ok ws k st = s := by
  unfold State.rxDeliver
  refine if_pos ?_
  rw [off]
  simpa [-not_and, not_and_or] using h

/-! ### Lock -/

theorem exec_streamLockLoss (x : Fin 16) (s : State) : exec (.streamLockLoss x) s = execStreamLockLoss x s := rfl

theorem streamLockLoss_nothing {s : State} {x : Fin 16} (h : ∀ l, s.slink x.val = some l → l.rx = false ∨ l.lock = false) :
    exec (.streamLockLoss x) s = .next s := by
  rw [exec_streamLockLoss, execStreamLockLoss]
  cases hl : s.slink x.val with
  | none => rfl
  | some l => exact congrArg _ (if_pos (h l hl))

theorem streamLockLoss_loses {s : State} {x : Fin 16} {l : StreamLink} (hl : s.slink x.val = some l) (hrx : l.rx = true) (lock : l.lock = true) :
    let u := (s.setSlink x.val (some { l with lock := false, lossPosted := true })).forStreams (s.streamsOf x.val) fun u _ st => u.cbFlag st 1
    exec (.streamLockLoss x) s = .next (if l.lossPosted then u else u.postLane Code.ST_OK 0xFF l.l0 3 0 0) := by
  rw [exec_streamLockLoss, execStreamLockLoss, hl]
  refine congrArg _ (if_neg ?_)
  simp [hrx, lock]

theorem exec_lockReturn (x : Fin 16) (s : State) :
    exec (.extendedMultiblockLockReturn x) s = execExtendedMultiblockLockReturn x s := rfl

theorem lockReturn_nothing {s : State} {x : Fin 16} (h : ∀ l, s.slink x.val = some l → l.rx = false ∨ l.lock = true) :
    exec (.extendedMultiblockLockReturn x) s = .next s := by
  rw [exec_lockReturn, execExtendedMultiblockLockReturn]
  cases hl : s.slink x.val with
  | none => rfl
  | some l => exact congrArg _ (if_pos (h l hl))

theorem lockReturn_resumes {s : State} {x : Fin 16} {l : StreamLink} (hl : s.slink x.val = some l) (hrx : l.rx = true) (lost : l.lock = false) :
    exec (.extendedMultiblockLockReturn x) s =
      .next ((s.setSlink x.val (some { l with lock := true, mb := 0 })).forStreams (s.streamsOf x.val) fun u _ st =>
        (u.cbRead st 0x34 4).2.cbWrite st 0x34 4 ((u.cbRead st 0x34 4).1 - (u.cbRead st 0x34 4).1 % 2)) := by
  rw [exec_lockReturn, execExtendedMultiblockLockReturn, hl]
  refine congrArg _ ((if_neg ?_).trans (congrArg (State.forStreams _ _) (funext fun u => funext fun _ => funext fun st =>
    lockBit_cleared (u.cbRead st 0x34 4) st)))
  simp [hrx, lost]

/-! ### Blocks to and from the ring -/

theorem exec_streamRxBlock (k : Fin 256) (s : State) : exec (.streamRxBlock k) s = execStreamRxBlock k s := rfl
theorem exec_streamTxFetch (k : Fin 256) (late : Bool) (s : State) : exec (.streamTxFetch k late) s = execStreamTxFetch k late s := rfl

theorem streamRxBlock_nothing {s : State} {k : Fin 256}
    (h : ∀ st, s.stream k.val = some st → st.rx = false ∨ st.rxBuf.length < 128 ∨ s.streamHeld st = true) :
    exec (.streamRxBlock k) s = .next s := by
  rw [exec_streamRxBlock, execStreamRxBlock]
  cases hs : s.stream k.val with
  | none => rfl
  | some st => exact congrArg _ (if_pos (h st hs))

theorem streamStop_vc2 (s : State) (st : Stream) : (s.streamStop st).2 = !st.rx := by
  unfold State.streamStop
  cases st.rx with
  | true => rfl
  | false => rfl

/-- A block that is ready goes out when its louvre gives tokens (R319, R321). -/
theorem streamRxBlock_ready {s : State} {k : Fin 256} {st : Stream} (hs : s.stream k.val = some st) (hrx : st.rx = true)
    (full : 128 ≤ st.rxBuf.length) (free : s.streamHeld st = false) :
    (s.louvreTake (s.streamStop st).1 false 9 = none → exec (.streamRxBlock k) s = .next s) ∧
      ∀ u, s.louvreTake (s.streamStop st).1 false 9 = some u → exec (.streamRxBlock k) s = .next (u.rxBlock k.val st) := by
  have go : ¬(st.rx = false ∨ st.rxBuf.length < 128 ∨ s.streamHeld st = true) := by
    simp only [hrx, free, Bool.true_eq_false, Bool.false_eq_true, false_or, or_false, not_lt]
    exact full
  rw [exec_streamRxBlock, execStreamRxBlock, hs]
  dsimp only
  rw [if_neg go, streamStop_vc2, hrx, Bool.not_true]
  exact ⟨fun none_ => by rw [none_], fun u some_ => by rw [some_]⟩

end Sys2Proof.Machine
end

section
set_option Elab.async false
/-! O31: received pin frames and direct-mode words. -/

namespace Sys2Proof.Machine

/-! ### Pin frames -/

/-- The frame's CRC holds and its TYPE is known (R196, R197). -/
def frameSound (h p : Nat) : Prop := pinCrc h p = bits h 48 16 ∧ bits h 0 4 ∈ [1, 2, 3]

/-- The lane has taken the frame's FCNT and time. -/
def State.frameTaken (s : State) (i : Nat) (h : BitVec 64) : State :=
  s.modLane i fun l => { l with rxFcnt := some (BitVec.ofNat 12 (bits h.toNat 4 12 + 1)), phy := { l.phy with lastRx := s.stamp } }

/-- PE_ALARM of the frame is counted (R192, R197). -/
def State.frameAlarmed (s : State) (i : Nat) (h : BitVec 64) : State :=
  if bit h.toNat 44 then (s.frameTaken i h).peAlarm i else s.frameTaken i h

/-- Another FCNT than the expected one. -/
def frameSkips (l : Lane) (h : BitVec 64) : Bool :=
  match l.rxFcnt with
  | some e => decide (e.toNat ≠ bits h.toNat 4 12)
  | none => false

theorem rxFrame_deaf {s : State} {i : Nat} (h : BitVec 64) (p : BitVec 1024) (typ : Nat) (next : State → State)
    (off : (s.lane i).mode ≠ .pin ∨ (s.lane i).lock = false) : s.rxFrame i h p typ next = s := if_pos off

theorem frameSound_iff (h p : Nat) :
    frameSound h p ↔ ¬((pinCrc h p != bits h 48 16) || !(bits h 0 4 == 1 || bits h 0 4 == 2 || bits h 0 4 == 3)) = true := by
  simp only [frameSound, List.mem_cons, List.not_mem_nil, or_false, Bool.or_eq_true, bne_iff_ne, Bool.not_eq_true', not_or, ne_eq,
    not_not, Bool.not_eq_false, beq_iff_eq, or_assoc]

theorem frameSkips_eq_any (l : Lane) (h : BitVec 64) : frameSkips l h = l.rxFcnt.any fun e => e.toNat != bits h.toNat 4 12 := by
  unfold frameSkips
  cases l.rxFcnt with
  | none => rfl
  | some e => exact Bool.eq_iff_iff.mpr (by simp)

/-- The checks of a received frame, in their order (R196, R197). -/
theorem rxFrame_eq (s : State) (i : Nat) (h : BitVec 64) (p : BitVec 1024) (typ : Nat) (next : State → State) :
    s.rxFrame i h p typ next =
      if (s.lane i).mode ≠ .pin ∨ (s.lane i).lock = false then s
      else if ((pinCrc h.toNat p.toNat != bits h.toNat 48 16) ||
          !(bits h.toNat 0 4 == 1 || bits h.toNat 0 4 == 2 || bits h.toNat 0 4 == 3)) = true then
        (s.frameTaken i h).pinFrameError i (bits h.toNat 4 12) true false
      else if (frameSkips (s.lane i) h || bit h.toNat 43) = true then
        (s.frameAlarmed i h).pinFrameError i (bits h.toNat 4 12) (frameSkips (s.lane i) h) (bit h.toNat 43)
      else if bits h.toNat 0 4 = typ then next (s.frameAlarmed i h)
      else s.frameAlarmed i h := rfl

/-- What every received pin frame meets, by the checks of R196 and R197. -/
theorem rxFrame_heard {s : State} {i : Nat} (h : BitVec 64) (p : BitVec 1024) (typ : Nat) (next : State → State)
    (pin : (s.lane i).mode = .pin) (lock : (s.lane i).lock = true) :
    (¬frameSound h.toNat p.toNat → s.rxFrame i h p typ next = (s.frameTaken i h).pinFrameError i (bits h.toNat 4 12) true false) ∧
    (frameSound h.toNat p.toNat → frameSkips (s.lane i) h = true ∨ bit h.toNat 43 = true → s.rxFrame i h p typ next =
      (s.frameAlarmed i h).pinFrameError i (bits h.toNat 4 12) (frameSkips (s.lane i) h) (bit h.toNat 43)) ∧
    (frameSound h.toNat p.toNat → frameSkips (s.lane i) h = false → bit h.toNat 43 = false →
      s.rxFrame i h p typ next = if bits h.toNat 0 4 = typ then next (s.frameAlarmed i h) else s.frameAlarmed i h) := by
  have hears : ¬((s.lane i).mode ≠ .pin ∨ (s.lane i).lock = false) := by simp [pin, lock]
  rw [rxFrame_eq, if_neg hears]
  refine ⟨fun bad => ?_, fun good late => ?_, fun good onTime calm => ?_⟩
  · exact if_pos (Decidable.not_not.mp fun h' => bad ((frameSound_iff ..).mpr h'))
  · rw [if_neg ((frameSound_iff ..).mp good), if_pos (by rw [Bool.or_eq_true]; exact late)]
  · rw [if_neg ((frameSound_iff ..).mp good), if_neg (by rw [onTime, calm]; decide)]

theorem exec_rxDataFrame (i : Fin 64) (h : BitVec 64) (p : BitVec 1024) (s : State) :
    exec (.rxDataFrame i h p) s = .next (s.rxFrame i.val h p 1 fun s =>
      match s.siteOf i.val with
      | some n => if (s.site n).state = .running ∧ (s.lane i.val).origin = true then s.decodeFrame n i.val p else s
      | none => s) := rfl

theorem exec_rxIdleFrame (i : Fin 64) (h : BitVec 64) (p : BitVec 1024) (s : State) :
    exec (.rxIdleFrame i h p) s = .next (s.rxFrame i.val h p 2 fun s =>
      match s.siteOf i.val with
      | some n => if s.afterData n i.val then s.decodeFrame n i.val p else s
      | none => s) := rfl

theorem exec_rxLoopbackFrame (i : Fin 64) (h : BitVec 64) (p : BitVec 1024) (s : State) :
    exec (.rxLoopbackFrame i h p) s = .next (s.rxFrame i.val h p 3 fun s =>
      s.modLane i.val fun l =>
        { l with
          calib := l.calib.map fun c =>
            if c.stage = 2 then c.loop p.toNat else if c.stage = 4 then c.pins l.pins p.toNat else c }) := rfl

/-- Each of the three rows is the reception of its TYPE. -/
theorem exec_rxFrame {i : Fin 64} {h : BitVec 64} {p : BitVec 1024} {typ : Nat} {c : Instr}
    (row : (typ, c) ∈ [(1, Instr.rxDataFrame i h p), (2, .rxIdleFrame i h p), (3, .rxLoopbackFrame i h p)]) :
    ∃ next : State → State, ∀ s : State, exec c s = .next (s.rxFrame i.val h p typ next) := by
  simp only [List.mem_cons, Prod.mk.injEq, List.not_mem_nil, or_false] at row
  obtain ⟨rfl, rfl⟩ | ⟨rfl, rfl⟩ | ⟨rfl, rfl⟩ := row
  · exact ⟨_, exec_rxDataFrame i h p⟩
  · exact ⟨_, exec_rxIdleFrame i h p⟩
  · exact ⟨_, exec_rxLoopbackFrame i h p⟩

theorem afterData_iff (s : State) (n i : Nat) : s.afterData n i = true ↔
    (s.site n).state = .running ∧ (s.lane i).origin = true ∧ s.dataDue n i = false ∧ (s.lane i).frame ≤ (s.lane i).rxFrames := by
  simp [State.afterData, and_assoc]

/-- The codes of an IDLE frame behind the last DATA frame are decoded (R195). -/
theorem idleFrame_decodes (s : State) (i : Nat) (p : BitVec 1024) :
    (match s.siteOf i with
      | some n => if s.afterData n i then s.decodeFrame n i p else s
      | none => s) =
    match s.siteOf i with
    | some n =>
      if (s.site n).state = .running ∧ (s.lane i).origin = true ∧ s.dataDue n i = false ∧ (s.lane i).frame ≤ (s.lane i).rxFrames then
        s.decodeFrame n i p
      else s
    | none => s := by
  cases s.siteOf i with
  | none => rfl
  | some n => exact if_congr (afterData_iff s n i) rfl rfl

/-! ### Errors of pin frames -/

/-- The lane's counters of a bad frame (R221). -/
def State.frameErrorCounted (s : State) (i : Nat) (err asic : Bool) : State :=
  s.modLane i fun l =>
    { l with
      st := { l.st with
        asicCrc := if asic then satInc l.st.asicCrc else l.st.asicCrc
        frameErr := if err then satInc l.st.frameErr else l.st.frameErr } }

theorem pinFrameError_eq (s : State) (i fcnt : Nat) (err asic : Bool) :
    s.pinFrameError i fcnt err asic =
      if s.laneLive i then (s.frameErrorCounted i err asic).faultSashNow i Code.TF_PIN_FRAME_CRC 0xFF fcnt
      else (s.frameErrorCounted i err asic).postLane Code.TF_PIN_FRAME_CRC ((s.siteOf i).getD 0xFF) i 0 0 0 := rfl

theorem frameErrorCounted_other (s : State) {i j : Nat} (err asic : Bool) (h : j ≠ i) :
    (s.frameErrorCounted i err asic).lane j = s.lane j :=
  (State.lane_setLane ..).trans (if_neg h)

/-! ### Direct-mode words -/

theorem exec_directRxWord (i : Fin 64) (w : BitVec 32) (s : State) : exec (.directRxWord i w) s = execDirectRxWord i w s := rfl

theorem directRxWord_deaf {s : State} {i : Fin 64} (w : BitVec 32) (off : (s.lane i.val).mode ≠ .direct ∨ (s.lane i.val).lock = false) :
    exec (.directRxWord i w) s = .next s := by
  rw [exec_directRxWord, execDirectRxWord]
  exact congrArg _ (if_pos off)

/-- Without slips and a rest a received word is whole. -/
theorem rxBits_whole {l : Lane} (w : BitVec 32) (slip : l.slipDue = 0) (rest : l.rxRest = 0) (len : l.rxRestLen = 0) :
    (l.rxBits w.toNat).2 = some w := by
  unfold Lane.rxBits
  rw [slip, rest, len]
  simp

theorem directRxWord_idle {s : State} {i : Fin 64} {w : BitVec 32} (mode : (s.lane i.val).mode = .direct)
    (lock : (s.lane i.val).lock = true)
    (h : ((s.lane i.val).rxBits w.toNat).2 = none ∨ ((s.lane i.val).rxBits w.toNat).1.origin = false ∨
      ∀ n, s.siteOf i.val = some n → (s.site n).state ≠ .running) :
    exec (.directRxWord i w) s = .next (s.setLane i.val ((s.lane i.val).rxBits w.toNat).1) := by
  have hears : ¬((s.lane i.val).mode ≠ .direct ∨ (s.lane i.val).lock = false) := by simp [mode, lock]
  rw [exec_directRxWord, execDirectRxWord]
  refine congrArg _ ((if_neg hears).trans ?_)
  generalize (s.lane i.val).rxBits w.toNat = r at h
  obtain ⟨l, v⟩ := r
  cases v with
  | none => rfl
  | some v =>
    cases site : s.siteOf i.val with
    | none => rfl
    | some n =>
      refine if_pos ((h.resolve_left (Option.some_ne_none v)).imp_right fun stopped => ?_)
      exact stopped n site

theorem directRxWord_word {s : State} {i : Fin 64} {w : BitVec 32} {n : Nat} {v : Word} (mode : (s.lane i.val).mode = .direct)
    (lock : (s.lane i.val).lock = true) (word : ((s.lane i.val).rxBits w.toNat).2 = some v) (site : s.siteOf i.val = some n)
    (run : (s.site n).state = .running) (origin : ((s.lane i.val).rxBits w.toNat).1.origin = true) :
    exec (.directRxWord i w) s = .next ((s.setLane i.val ((s.lane i.val).rxBits w.toNat).1).directRx n i.val v) := by
  have hears : ¬((s.lane i.val).mode ≠ .direct ∨ (s.lane i.val).lock = false) := by simp [mode, lock]
  rw [exec_directRxWord, execDirectRxWord]
  refine congrArg _ ((if_neg hears).trans ?_)
  generalize (s.lane i.val).rxBits w.toNat = r at word origin
  obtain ⟨l, v⟩ := r
  cases word
  rw [site]
  refine if_neg ?_
  rintro (off | stopped)
  · exact ne_false_of_eq_true origin off
  · exact stopped run

/-- The lane with the word counted (R213). -/
def Lane.wordCounted (l : Lane) (now : BitVec 128) : Lane :=
  { l with rxWords := l.rxWords + 1, phy := if l.rxWords = 0 then { l.phy with lastRx := now } else l.phy }

/-- RAWCMP that compares nothing, and echo mode before its words (R213). -/
theorem directRx_uncompared {s : State} {i : Nat} (n : Nat) (v : Word)
    (h : ((s.lane i).cfg.rawcmp ≠ 1 ∧ (s.lane i).cfg.rawcmp ≠ 2) ∨
      ((s.lane i).cfg.rawcmp = 2 ∧ (s.lane i).rxWords < (s.lane i).cfg.dcmpOff)) :
    s.directRx n i v = s.setLane i ((s.lane i).wordCounted s.stamp) := by
  unfold State.directRx
  extract_lets l k _ l'
  obtain ⟨not1, not2⟩ | ⟨is2, early⟩ := h
  · have num1 : (s.lane i).cfg.rawcmp.toNat ≠ 1 := fun e => not1 (BitVec.eq_of_toNat_eq e)
    have num2 : (s.lane i).cfg.rawcmp.toNat ≠ 2 := fun e => not2 (BitVec.eq_of_toNat_eq e)
    split
    next e => exact absurd e num1
    next e => exact absurd e num2
    next => rfl
  · have num : l'.cfg.rawcmp.toNat = 2 := congrArg BitVec.toNat is2
    rw [num]
    refine if_neg ?_
    rintro ⟨late, -⟩
    exact Nat.lt_irrefl _ (Nat.lt_of_lt_of_le early late)

/-- A word against the PRBS checker (R213, R214). -/
theorem directRx_prbs {s : State} {i : Nat} (n : Nat) (v : Word) (h : (s.lane i).cfg.rawcmp = 1) :
    let l := s.lane i
    let r := l.chk.rxWord l.cfg.degree l.cfg.invert v.toNat 0 32
    let st := { l.st with lockLoss := satAdd l.st.lockLoss r.2.2, compares := if l.chk.locked then satInc l.st.compares else l.st.compares }
    let t := s.setLane i { l.wordCounted s.stamp with chk := r.1, st := st }
    s.directRx n i v = if (l.chk.locked && r.2.1 != 0) = true then t.wordMismatch n i l.rxWords (BitVec.ofNat 32 r.2.1) else t := by
  intro l r st t
  unfold State.directRx
  extract_lets k _ l'
  have num : l'.cfg.rawcmp.toNat = 1 := congrArg BitVec.toNat h
  have same : l'.chk.rxWord l'.cfg.degree l'.cfg.invert v.toNat 0 32 = r := rfl
  rw [num, same]
  clear_value r
  obtain ⟨c, x, d⟩ := r
  rfl

/-- A word of echo mode against the one sent (R213, R214). -/
theorem directRx_echo {s : State} {i : Nat} {x : Word} (n : Nat) (v : Word) (h : (s.lane i).cfg.rawcmp = 2)
    (late : (s.lane i).cfg.dcmpOff ≤ (s.lane i).rxWords) (sent : (s.lane i).rxWords - (s.lane i).cfg.dcmpOff < (s.lane i).txWords)
    (echo : (s.lane i).echo[(s.lane i).txWords - 1 - ((s.lane i).rxWords - (s.lane i).cfg.dcmpOff)]? = some x) :
    let l := s.lane i
    let t := s.setLane i { l.wordCounted s.stamp with st := { l.st with compares := satInc l.st.compares } }
    s.directRx n i v = if x = v then t else t.wordMismatch n i l.rxWords (x ^^^ v) := by
  intro l t
  unfold State.directRx
  extract_lets k _ l'
  have num : l'.cfg.rawcmp.toNat = 2 := congrArg BitVec.toNat h
  rw [num]
  refine (if_pos ⟨late, sent⟩).trans ?_
  have found : l'.echo[l'.txWords - 1 - (k - l'.cfg.dcmpOff)]? = some x := echo
  rw [found]
  rfl

/-! ### The statement -/

theorem rxFrame_clause {s : State} {i : Fin 64} {h : BitVec 64} {p : BitVec 1024} {typ : Nat} {c : Instr}
    (row : (typ, c) ∈ [(1, Instr.rxDataFrame i h p), (2, .rxIdleFrame i h p), (3, .rxLoopbackFrame i h p)])
    (pin : (s.lane i.val).mode = .pin) (lock : (s.lane i.val).lock = true) :
    (¬frameSound h.toNat p.toNat → exec c s = .next ((s.frameTaken i.val h).pinFrameError i.val (bits h.toNat 4 12) true false)) ∧
    (frameSound h.toNat p.toNat → frameSkips (s.lane i.val) h = true ∨ bit h.toNat 43 = true → exec c s =
      .next ((s.frameAlarmed i.val h).pinFrameError i.val (bits h.toNat 4 12) (frameSkips (s.lane i.val) h) (bit h.toNat 43))) ∧
    (frameSound h.toNat p.toNat → frameSkips (s.lane i.val) h = false → bit h.toNat 43 = false → bits h.toNat 0 4 ≠ typ →
      exec c s = .next (s.frameAlarmed i.val h)) := by
  obtain ⟨next, run⟩ := exec_rxFrame row
  obtain ⟨bad, late, good⟩ := rxFrame_heard h p typ next pin lock
  refine ⟨fun f => (run s).trans (congrArg _ (bad f)), fun f e => (run s).trans (congrArg _ (late f e)), fun f e a other => ?_⟩
  exact (run s).trans (congrArg _ ((good f e a).trans (if_neg other)))

theorem directRxWord_clause {s : State} {i : Fin 64} {w : BitVec 32} {n : Nat} {v : Word} (mode : (s.lane i.val).mode = .direct)
    (lock : (s.lane i.val).lock = true) (word : ((s.lane i.val).rxBits w.toNat).2 = some v) (site : s.siteOf i.val = some n)
    (run : (s.site n).state = .running) (origin : ((s.lane i.val).rxBits w.toNat).1.origin = true) :
    let l := ((s.lane i.val).rxBits w.toNat).1
    (((l.cfg.rawcmp ≠ 1 ∧ l.cfg.rawcmp ≠ 2) ∨ (l.cfg.rawcmp = 2 ∧ l.rxWords < l.cfg.dcmpOff)) →
      ∃ t, exec (.directRxWord i w) s = .next t ∧ (t.lane i.val).rxWords = l.rxWords + 1 ∧ (t.lane i.val).st = l.st ∧
        t.mem = s.mem ∧ ∀ j, j ≠ i.val → t.lane j = s.lane j) ∧
    (l.cfg.rawcmp = 1 →
      let r := l.chk.rxWord l.cfg.degree l.cfg.invert v.toNat 0 32
      ∃ t : State, exec (.directRxWord i w) s =
          .next (if l.chk.locked = true ∧ r.2.1 ≠ 0 then t.wordMismatch n i.val l.rxWords (BitVec.ofNat 32 r.2.1) else t) ∧
        (t.lane i.val).chk = r.1 ∧
        (t.lane i.val).st.compares = (if l.chk.locked then satInc l.st.compares else l.st.compares)) ∧
    (∀ x, l.cfg.rawcmp = 2 → l.cfg.dcmpOff ≤ l.rxWords → l.rxWords - l.cfg.dcmpOff < l.txWords →
      l.echo[l.txWords - 1 - (l.rxWords - l.cfg.dcmpOff)]? = some x →
      ∃ t : State, exec (.directRxWord i w) s = .next (if x = v then t else t.wordMismatch n i.val l.rxWords (x ^^^ v)) ∧
        (t.lane i.val).st.compares = satInc l.st.compares ∧ (t.lane i.val).rxWords = l.rxWords + 1) := by
  have go := directRxWord_word mode lock word site run origin
  intro l
  have here : (s.setLane i.val l).lane i.val = l := (State.lane_setLane ..).trans (if_pos rfl)
  have set (u : State) (x : Lane) : (u.setLane i.val x).lane i.val = x := (State.lane_setLane ..).trans (if_pos rfl)
  refine ⟨fun none_ => ?_, fun prbs => ?_, fun x echo late sent word => ?_⟩
  · refine ⟨_, go.trans (congrArg _ (directRx_uncompared n v (by rw [here]; exact none_))), ?_, ?_, rfl, fun j hj => ?_⟩
    · rw [set, here]; rfl
    · rw [set, here]; rfl
    · exact (State.lane_setLane ..).trans ((if_neg hj).trans ((State.lane_setLane ..).trans (if_neg hj)))
  · have run := directRx_prbs (s := s.setLane i.val l) (i := i.val) n v (by rw [here]; exact prbs)
    rw [here] at run
    refine ⟨_, go.trans (congrArg _ (run.trans (if_congr ?_ rfl rfl))), ?_, ?_⟩
    · rw [Bool.and_eq_true, bne_iff_ne]
    · rw [set]
    · rw [set]
  · have run := directRx_echo (s := s.setLane i.val l) (i := i.val) n v (by rw [here]; exact echo) (by rw [here]; exact late)
      (by rw [here]; exact sent) (by rw [here]; exact word)
    rw [here] at run
    refine ⟨_, go.trans (congrArg _ run), ?_, ?_⟩
    · rw [set]
    · rw [set]; rfl

/-- Settles O31, row by row. -/
theorem lanesReceiveFramesAndWords : Obligations.LanesReceiveFramesAndWords := by
  unfold Obligations.LanesReceiveFramesAndWords
  refine ⟨fun s i h p typ c row => ?_, fun s i fcnt err asic => ?_, fun s i => rfl, fun s i w => ?_⟩
  · intro fc u v sound skip
    have skips : frameSkips (s.lane i.val) h = skip := frameSkips_eq_any ..
    refine ⟨fun deaf => ?_, fun pin lock => ?_⟩
    · obtain ⟨next, run⟩ := exec_rxFrame row
      exact (run s).trans (congrArg _ (rxFrame_deaf h p typ next deaf))
    · obtain ⟨bad, late, other⟩ := rxFrame_clause row pin lock
      rw [skips] at late other
      refine ⟨bad, late, fun good onTime calm => ⟨other good onTime calm, fun same one => ?_, fun same two => ?_, fun same three => ?_⟩⟩
      · obtain rfl := one
        obtain rfl : c = .rxDataFrame i h p := by simpa using row
        exact congrArg _ (((rxFrame_heard h p 1 _ pin lock).2.2 good (skips.trans onTime) calm).trans (if_pos same))
      · obtain rfl := two
        obtain rfl : c = .rxIdleFrame i h p := by simpa using row
        refine congrArg _ (((rxFrame_heard h p 2 _ pin lock).2.2 good (skips.trans onTime) calm).trans ((if_pos same).trans ?_))
        exact idleFrame_decodes v i.val p
      · obtain rfl := three
        obtain rfl : c = .rxLoopbackFrame i h p := by simpa using row
        exact congrArg _ (((rxFrame_heard h p 3 _ pin lock).2.2 good (skips.trans onTime) calm).trans (if_pos same))
  · exact ⟨s.frameErrorCounted i err asic, by rw [State.frameErrorCounted, State.modLane_lane_same],
      by rw [State.frameErrorCounted, State.modLane_lane_same], fun j hj => frameErrorCounted_other s err asic hj, pinFrameError_eq ..⟩
  · exact ⟨directRxWord_deaf w, rxBits_whole w, fun mode lock => ⟨directRxWord_idle mode lock, fun n v word site run origin =>
      directRxWord_clause mode lock word site run origin⟩⟩

end Sys2Proof.Machine
end

section
set_option Elab.async false
/-! O32: commits, divergences, rollbacks and the delta writer. -/

namespace Sys2Proof.Machine

/-! ### What a site's notices and lines leave as it is -/

theorem State.sendRollback_sites (s : State) (n c : Nat) : (s.sendRollback n c).sites = s.sites := by
  refine foldl_sites (fun t p => ?_) _ s
  split
  · rfl
  · exact State.send_sites ..

/-! ### Commit -/

/-- The oldest cycle's compares and checks of every sash of the site (R222). -/
def State.commitChecks (s : State) (n c : Nat) : State :=
  (s.siteSashes n).foldl (fun s i => (s.runCompares n i fun e => e.cycle == c).captureChecks n i c true) s

/-- The cycle's ring entries are freed and the next cycle is the oldest (R222, R228). -/
def State.commitMoved (u : State) (ls : List Nat) (n c : Nat) : State :=
  (u.modSashes ls fun y =>
    { y with delta := { y.delta with entries := y.delta.entries.filter fun e => decide (c < e.1) } }).modSite n fun x =>
      { x with ra := { x.ra with oldest := c + 1, state := if x.ra.state = .depthWait then .speculate else x.ra.state } }

theorem commitMoved_oldest (u : State) (ls : List Nat) (n c : Nat) : ((u.commitMoved ls n c).site n).ra.oldest = c + 1 := by
  unfold State.commitMoved
  rw [State.modSite_site_same]

theorem commitMoved_lanes (u : State) (ls : List Nat) (n c : Nat) : (u.commitMoved ls n c).lanes = u.lanes :=
  State.modSashes_lanes ..

/-- The STOP that the compares decide goes to every part (R241). -/
def State.commitTold (v : State) (n : Nat) (before : Option Nat) : State :=
  if before = none then (match (v.site n).ra.stopAt with | some k => v.sendRollback n k | none => v) else v

theorem commitTold_site (v : State) (n : Nat) (before : Option Nat) : (v.commitTold n before).site n = v.site n := by
  unfold State.commitTold
  split
  · split
    · exact State.site_of_sites (State.sendRollback_sites ..) n
    · rfl
  · rfl

theorem commitTold_eq (v : State) (n : Nat) (before : Option Nat) :
    (match before, (v.site n).ra.stopAt with
      | none, some k => v.sendRollback n k
      | _, _ => v) = v.commitTold n before := by
  unfold State.commitTold
  cases before with
  | none =>
    cases (v.site n).ra.stopAt with
    | none => rfl
    | some k => rfl
  | some b => rfl

/-- After the commit the site halts behind a decided STOP, or goes on (R227). -/
def State.commitEnds (n : Nat) (w : State) : State :=
  match (w.site n).ra.stopAt with
  | some k => if k < (w.site n).cycle.toNat then w.stopAfter n k else w
  | none => w.settle n

/-- The oldest cycle may commit. -/
def commitDue (s : State) (n c : Nat) : Prop :=
  (s.site n).img.depth ≠ 0 ∧ (s.site n).state = .running ∧ (s.site n).ra.state ≠ .rollback ∧ s.cycleDone n c = true ∧
    s.cycleChecked n c = true ∧ s.cycleDecoded n c = true

theorem exec_cycleCommit (n : Fin 16) (s : State) : exec (.cycleCommit n) s = execCycleCommit n s := rfl

theorem cycleCommit_waits {s : State} {n : Fin 16} (h : ¬commitDue s n.val (s.site n.val).ra.oldest) :
    exec (.cycleCommit n) s = .next s := by
  rw [exec_cycleCommit, execCycleCommit]
  refine congrArg _ ?_
  extract_lets _ x c
  by_cases still : x.img.depth = 0 ∨ x.state ≠ .running ∨ x.ra.state = .rollback
  · exact if_pos still
  · obtain ⟨depth, run, back⟩ := not_or.mp still |>.imp_right not_or.mp
    refine (if_neg still).trans (if_neg fun done => h ?_)
    rw [Bool.and_eq_true, Bool.and_eq_true] at done
    exact ⟨depth, not_not.mp run, back, done.1.1, done.1.2, done.2⟩

theorem cycleCommit_commits {s : State} {n : Fin 16} (h : commitDue s n.val (s.site n.val).ra.oldest) :
    let x := s.site n.val
    let c := x.ra.oldest
    let w := ((s.commitChecks n.val c).commitMoved (s.siteSashes n.val) n.val c).commitTold n.val x.ra.stopAt
    exec (.cycleCommit n) s = .next (w.commitEnds n.val) := by
  intro x c w
  obtain ⟨depth, run, back, done, checked, decoded⟩ := h
  rw [exec_cycleCommit, execCycleCommit]
  refine congrArg _ ((if_neg ?_).trans ((if_pos ?_).trans ?_))
  · exact not_or.mpr ⟨depth, not_or.mpr ⟨not_not.mpr run, back⟩⟩
  · rw [done, checked, decoded]; rfl
  · exact congrArg (State.commitEnds n.val) (commitTold_eq ((s.commitChecks n.val c).commitMoved (s.siteSashes n.val) n.val c) n.val x.ra.stopAt)

/-! ### Divergence -/

/-- The divergence `d` counted with its place (R226). -/
def Site.divergenceCounted (x : Site) (d : Nat × Nat × Nat × Nat × Nat) : Site :=
  { x with
    noticed := putBit x.noticed 0 true
    ra := { x.ra with
            divergences := satInc x.ra.divergences, lastDivCycle := BitVec.ofNat 48 d.1
            lastDivPin := BitVec.ofNat 16 d.2.2.1, lastDivCode := BitVec.ofNat 8 d.2.2.2.1
            lastDivAct := BitVec.ofNat 8 d.2.2.2.2, found := x.ra.found.erase d } }

/-- The site with the divergence counted, and its first one posted (R226). -/
def State.divergenceNoticed (s : State) (n : Nat) (d : Nat × Nat × Nat × Nat × Nat) : State :=
  let v := s.setSite n ((s.site n).divergenceCounted d)
  if getBit (s.site n).noticed 0 then v else v.postNotice Code.ST_OK n 0 0x01 d.1 d.2.2.1

theorem divergenceNoticed_site (s : State) (n : Nat) (d : Nat × Nat × Nat × Nat × Nat) :
    (s.divergenceNoticed n d).site n = (s.site n).divergenceCounted d := by
  have set : (s.setSite n ((s.site n).divergenceCounted d)).site n = (s.site n).divergenceCounted d :=
    (State.site_setSite ..).trans (if_pos rfl)
  unfold State.divergenceNoticed
  extract_lets v
  split
  · exact set
  · exact (State.site_of_sites (State.postNotice_sites ..) n).trans set

theorem divergenceNoticed_frame (s : State) (n : Nat) (d : Nat × Nat × Nat × Nat × Nat) :
    (s.divergenceNoticed n d).sashes = s.sashes ∧ (s.divergenceNoticed n d).lanes = s.lanes := by
  unfold State.divergenceNoticed
  extract_lets v
  split
  · exact ⟨rfl, rfl⟩
  · exact ⟨State.postNotice_sashes .., State.postNotice_lanes ..⟩

theorem exec_divergenceDecided (n : Fin 16) (s : State) : exec (.divergenceDecided n) s = execDivergenceDecided n s := rfl

theorem divergenceDecided_none {s : State} {n : Fin 16} (h : lowestDiv (s.site n.val).ra.found = none) :
    exec (.divergenceDecided n) s = .next s := by
  rw [exec_divergenceDecided, execDivergenceDecided]
  dsimp only
  rw [h]

theorem divergenceDecided_waits {s : State} {n : Fin 16} {d : Nat × Nat × Nat × Nat × Nat}
    (h : lowestDiv (s.site n.val).ra.found = some d) (wait : (s.site n.val).state ≠ .running ∨ s.checksBefore n.val d.2.1 = false) :
    exec (.divergenceDecided n) s = .next s := by
  rw [exec_divergenceDecided, execDivergenceDecided]
  extract_lets _ x
  rw [show lowestDiv x.ra.found = some d from h]
  exact congrArg _ (if_pos wait)

/-- A divergence that is decided, by the site's policy (R226, R227). -/
theorem divergenceDecided_acts {s : State} {n : Fin 16} {d : Nat × Nat × Nat × Nat × Nat}
    (h : lowestDiv (s.site n.val).ra.found = some d) (run : (s.site n.val).state = .running) (checked : s.checksBefore n.val d.2.1 = true) :
    exec (.divergenceDecided n) s = .next
      (if (s.site n.val).img.policy = 1 ∧ (s.site n.val).draining = false then s.divergenceNoticed n.val d
       else ((s.divergenceNoticed n.val d).actOnDiv n.val d.1 d.2.2.1).sendRollback n.val d.1) := by
  rw [exec_divergenceDecided, execDivergenceDecided]
  extract_lets _ x
  rw [show lowestDiv x.ra.found = some d from h]
  refine congrArg _ ((if_neg ?_).trans rfl)
  exact not_or.mpr ⟨not_not.mpr run, ne_false_of_eq_true checked⟩

theorem actOnDiv_halts {s : State} {n : Nat} (c pin : Nat) (h : (s.site n).img.policy ≠ 2 ∨ (s.site n).draining = true) :
    s.actOnDiv n c pin = s.stopAfter n c := if_pos h

theorem actOnDiv_blocked {s : State} {n c : Nat} (pin : Nat) (resync : (s.site n).img.policy = 2) (on : (s.site n).draining = false)
    (h : ∃ k ∈ (s.site n).ra.transomHinges, c ≤ k) :
    s.actOnDiv n c pin = (s.postNotice Code.ST_ROLLBACK_BLOCKED n 0 0x01 c pin).stopAfter n c := by
  refine (if_neg (not_or.mpr ⟨not_not.mpr resync, ne_true_of_eq_false on⟩)).trans (if_pos ?_)
  simpa using h

theorem actOnDiv_resyncs {s : State} {n c : Nat} (pin : Nat) (resync : (s.site n).img.policy = 2) (on : (s.site n).draining = false)
    (h : ∀ k ∈ (s.site n).ra.transomHinges, k < c) : s.actOnDiv n c pin = s.startRollback n c := by
  refine (if_neg (not_or.mpr ⟨not_not.mpr resync, ne_true_of_eq_false on⟩)).trans (if_neg ?_)
  simpa using h

/-! ### Rollback -/

/-- The outbound codes of a cycle that is undone, those already sent left (R233). -/
def Lane.cutEntry (l : Lane) (c0 c : Nat) (e : OutCycle) : OutCycle :=
  if c ≤ e.cycle then { e with codes := e.codes.filter fun k => l.sent c0 e.cycle (k.1 / 32) } else e

theorem Lane.cutEntry_cutEntry (l : Lane) (c0 c : Nat) (e : OutCycle) : l.cutEntry c0 c (l.cutEntry c0 c e) = l.cutEntry c0 c e := by
  unfold Lane.cutEntry
  by_cases h : c ≤ e.cycle
  · rw [if_pos h, if_pos h, List.filter_filter]
    simp only [Bool.and_self]
  · rw [if_neg h, if_neg h]

theorem Lane.rollback_rollback (l : Lane) (c0 c : Nat) : (l.rollback c0 c).rollback c0 c = l.rollback c0 c := by
  have queue : (l.outq.map (l.cutEntry c0 c)).map (l.cutEntry c0 c) = l.outq.map (l.cutEntry c0 c) := by
    rw [List.map_map]
    exact List.map_congr_left fun e _ => l.cutEntry_cutEntry c0 c e
  have twice {α : Type} (p : α → Bool) (xs : List α) : (xs.filter p).filter p = xs.filter p := by
    rw [List.filter_filter]; simp only [Bool.and_self]
  change ({ l.rollback c0 c with
      outq := (l.outq.map (l.cutEntry c0 c)).map (l.cutEntry c0 c)
      expects := (l.expects.filter fun e => decide (e.cycle < c)).filter fun e => decide (e.cycle < c)
      specs := (l.specs.filter fun b => decide (b.cycle < c)).filter fun b => decide (b.cycle < c)
      fail := { l.fail with mcPend := (l.fail.mcPend.filter fun m => decide (m.1 < c)).filter fun m => decide (m.1 < c) } } : Lane) = _
  rw [queue, twice, twice, twice]
  rfl

theorem Sash.replay_replay (x : Sash) : x.replay.replay = x.replay := rfl

theorem State.modLane_lane (s : State) (i : Nat) (f : Lane → Lane) (j : Nat) :
    (s.modLane i f).lane j = if j = i then f (s.lane i) else s.lane j := State.lane_setLane s i _ j

theorem modLanes_lane_of_not_mem {l : List Nat} {j : Nat} (hj : j ∉ l) (s : State) (f : Lane → Lane) :
    (s.modLanes l f).lane j = s.lane j := by
  induction l generalizing s with
  | nil => rfl
  | cons i l ih =>
    obtain ⟨hi, hl⟩ := List.mem_cons.not.trans not_or |>.mp hj
    exact (ih hl _).trans ((s.modLane_lane i f j).trans (if_neg hi))

theorem modLanes_lane_of_mem {f : Lane → Lane} (hf : ∀ x, f (f x) = f x) {l : List Nat} {j : Nat} (hj : j ∈ l) (s : State) :
    (s.modLanes l f).lane j = f (s.lane j) := by
  induction l generalizing s with
  | nil => cases hj
  | cons i l ih =>
    have one := s.modLane_lane i f j
    by_cases hl : j ∈ l
    · refine (ih hl (s.modLane i f)).trans ?_
      rw [one]
      split
      next h => rw [h, hf]
      next => rfl
    · obtain rfl := (List.mem_cons.mp hj).resolve_right hl
      exact (modLanes_lane_of_not_mem hl _ f).trans (one.trans (if_pos rfl))

/-- The site begins cycle `c` again, in replay up to where it was (R233, R234). -/
def Site.replayed (x : Site) (c m : Nat) : Site :=
  { x with
    cycle := BitVec.ofNat 48 c
    hingeBegun := false
    arriveSent := false
    childArr := []
    remoteUa := none
    hingeWait := 0
    hingeRun := 0
    arriveLate := false
    relPend := none
    ra := { x.ra with
            found := x.ra.found.filter fun d => decide (d.1 < c)
            state := .speculate
            replay := true
            replayTo := m
            target := none
            rollbacks := satInc x.ra.rollbacks } }

/-- Sashes, lanes and site of a rollback whose undo is done. -/
def State.replays (u : State) (n c m : Nat) : State :=
  ((u.modSashes (u.siteSashes n) Sash.replay).modLanes (u.siteSashes n) fun l => l.rollback (u.site n).c0 c).modSite n fun x => x.replayed c m

theorem replays_site (u : State) (n c m : Nat) : (u.replays n c m).site n = (u.site n).replayed c m := by
  unfold State.replays
  rw [State.modSite_site_same]
  exact congrArg (Site.replayed · c m) ((State.site_of_sites (State.modLanes_sites ..) n).trans (State.site_of_sites (State.modSashes_sites ..) n))

theorem replays_mem (u : State) (n c m : Nat) : (u.replays n c m).mem = u.mem :=
  (State.modSite_mem ..).trans ((State.modLanes_mem ..).trans (State.modSashes_mem ..))

theorem replays_sash (u : State) (n c m i : Nat) :
    (u.replays n c m).sash i = (u.modSashes (u.siteSashes n) Sash.replay).sash i :=
  sash_congr (State.modLanes_sashes ..) i

theorem replays_lane_of_mem {u : State} {n i : Nat} (c m : Nat) (h : i ∈ u.siteSashes n) :
    (u.replays n c m).lane i = (u.lane i).rollback (u.site n).c0 c :=
  (modLanes_lane_of_mem (fun x => x.rollback_rollback (u.site n).c0 c) h _).trans
    (congrArg (Lane.rollback · (u.site n).c0 c) (lane_of_lanes (State.modSashes_lanes ..) i))

theorem replays_lane_of_not_mem {u : State} {n i : Nat} (c m : Nat) (h : i ∉ u.siteSashes n) : (u.replays n c m).lane i = u.lane i :=
  (modLanes_lane_of_not_mem h _ _).trans (lane_of_lanes (State.modSashes_lanes ..) i)

theorem exec_rollback (n : Fin 16) (s : State) : exec (.rollback n) s = execRollback n s := rfl

theorem rollback_waits {s : State} {n : Fin 16} (h : (s.site n.val).ra.target = none ∨ (s.site n.val).state ≠ .running ∨
    (s.site n.val).ra.state ≠ .rollback ∨ s.flitsOf n.val = true) : exec (.rollback n) s = .next s := by
  rw [exec_rollback, execRollback]
  dsimp only
  cases ht : (s.site n.val).ra.target with
  | none => rfl
  | some c => exact congrArg _ (if_pos (h.resolve_left (by rw [ht]; exact Option.some_ne_none c)))

theorem rollback_undoes {s : State} {n : Fin 16} {c : Nat} (run : (s.site n.val).state = .running)
    (back : (s.site n.val).ra.state = .rollback) (target : (s.site n.val).ra.target = some c) (clear : s.flitsOf n.val = false) :
    exec (.rollback n) s = .next (if ((s.undoSite n.val c).site n.val).state ≠ .running then s.undoSite n.val c
      else (s.undoSite n.val c).replays n.val c (s.site n.val).cycle.toNat) := by
  rw [exec_rollback, execRollback]
  dsimp only
  rw [target]
  refine congrArg _ ((if_neg ?_).trans rfl)
  exact not_or.mpr ⟨not_not.mpr run, not_or.mpr ⟨not_not.mpr back, ne_true_of_eq_false clear⟩⟩

/-! ### The delta writer -/

theorem exec_deltaWrite (i : Fin 64) (s : State) : exec (.deltaWrite i) s = execDeltaWrite i s := rfl

theorem deltaWrite_noSite {s : State} {i : Fin 64} (h : s.siteOf i.val = none) : exec (.deltaWrite i) s = .next s := by
  rw [exec_deltaWrite, execDeltaWrite]
  dsimp only
  rw [h]

/-- Nothing to write, or no port step, or no line (R229, R247). -/
def deltaIdle (s : State) (i n : Nat) : Prop :=
  (s.sash i).portFree = false ∨ s.failPortDue n i = true ∨ (s.sash i).delta.next false = 0 ∨
    (s.sash i).delta.full (s.site n).img.ckptLines = true

theorem deltaWrite_idle {s : State} {i : Fin 64} {n : Nat} (site : s.siteOf i.val = some n) (h : deltaIdle s i.val n) :
    exec (.deltaWrite i) s = .next s := by
  rw [exec_deltaWrite, execDeltaWrite]
  dsimp only
  rw [site]
  exact congrArg _ (if_pos h)

theorem deltaWrite_writes {s : State} {i : Fin 64} {n : Nat} (site : s.siteOf i.val = some n) (h : ¬deltaIdle s i.val n) :
    exec (.deltaWrite i) s = .next ((s.deltaLine n i.val false).modSash i.val fun x => { x with portUsed := true }) := by
  rw [exec_deltaWrite, execDeltaWrite]
  dsimp only
  rw [site]
  exact congrArg _ (if_neg h)

theorem deltaLine_writes {s : State} {i n : Nat} (some_ : (s.sash i).delta.next false ≠ 0)
    (room : (s.sash i).delta.full (s.site n).img.ckptLines = false) :
    s.deltaLine n i false =
      (s.setPadLine i ((s.site n).img.ckptFirst + (s.sash i).delta.wline % max 1 (s.site n).img.ckptLines)
        (((s.sash i).delta.queue.take ((s.sash i).delta.next false)).flatMap fun r => leBytes r.toNat 16)).modSash i fun x =>
          { x with delta := { (s.sash i).delta with
              queue := (s.sash i).delta.queue.drop ((s.sash i).delta.next false), wline := (s.sash i).delta.wline + 1 } } := by
  unfold State.deltaLine
  exact if_neg (not_or.mpr ⟨some_, ne_true_of_eq_false room⟩)

/-- Two changes of one sash are seen in it alone. -/
theorem modSash_modSash_sash (s : State) (i : Nat) (f g : Sash → Sash) :
    ((s.modSash i f).modSash i g).sash i = g (f (s.sash i)) ∧
      ∀ j, j ≠ i → ((s.modSash i f).modSash i g).sash j = s.sash j := by
  refine ⟨?_, fun j hj => ?_⟩
  · rw [State.modSash_sash, if_pos rfl, State.modSash_sash, if_pos rfl]
  · rw [State.modSash_sash, if_neg hj, State.modSash_sash, if_neg hj]

/-- What a written delta line leaves and changes, the line `t` written (R229). -/
theorem deltaTaken_frame {s t : State} (i : Nat) (d : DeltaLog) (lanes : t.lanes = s.lanes) (sites : t.sites = s.sites)
    (sashes : t.sashes = s.sashes) :
    let u := (t.modSash i fun x => { x with delta := d }).modSash i fun x => { x with portUsed := true }
    u.lanes = s.lanes ∧ u.sites = s.sites ∧ (u.sash i).portUsed = true ∧ (u.sash i).delta = d ∧ u.mem = t.mem ∧
      ∀ j, j ≠ i → u.sash j = s.sash j := by
  intro u
  obtain ⟨same, other⟩ := modSash_modSash_sash t i (fun x => { x with delta := d }) (fun x => { x with portUsed := true })
  refine ⟨lanes, sites, ?_, ?_, rfl, fun j hj => (other j hj).trans (sash_congr sashes j)⟩
  · rw [same]
  · rw [same]

/-! ### The statement -/

theorem cycleCommit_clause (s : State) (n : Fin 16) :
    let x := s.site n.val
    let c := x.ra.oldest
    let u := s.commitChecks n.val c
    let v := u.commitMoved (s.siteSashes n.val) n.val c
    let w := v.commitTold n.val x.ra.stopAt
    (¬commitDue s n.val c → exec (.cycleCommit n) s = .next s) ∧ (v.site n.val).ra.oldest = c + 1 ∧ v.lanes = u.lanes ∧
    (commitDue s n.val c → (v.site n.val).ra.stopAt = none → exec (.cycleCommit n) s = .next (w.settle n.val)) ∧
    (∀ k, commitDue s n.val c → (v.site n.val).ra.stopAt = some k → exec (.cycleCommit n) s =
      .next (if k < (w.site n.val).cycle.toNat then w.stopAfter n.val k else w)) := by
  intro x c u v w
  have stop : (w.site n.val).ra.stopAt = (v.site n.val).ra.stopAt := congrArg (fun y => y.ra.stopAt) (commitTold_site v n.val x.ra.stopAt)
  refine ⟨cycleCommit_waits, commitMoved_oldest .., commitMoved_lanes .., fun due none_ => ?_, fun k due some_ => ?_⟩
  · refine (cycleCommit_commits due).trans (congrArg _ ?_)
    change w.commitEnds n.val = _
    unfold State.commitEnds
    rw [stop, none_]
  · refine (cycleCommit_commits due).trans (congrArg _ ?_)
    change w.commitEnds n.val = _
    unfold State.commitEnds
    rw [stop, some_]

/-- Settles O32, row by row. -/
theorem runAheadCommitsOrRollsBack : Obligations.RunAheadCommitsOrRollsBack := by
  unfold Obligations.RunAheadCommitsOrRollsBack
  refine ⟨cycleCommit_clause, ⟨fun s n => ⟨divergenceDecided_none, fun d hd => ?_⟩, fun s n => ⟨rollback_waits, fun c run back target clear => ?_⟩⟩,
    fun s i => deltaWrite_noSite, fun s i n site => ⟨deltaWrite_idle site, fun h => ?_⟩⟩
  · intro v u y
    have here : y = (s.site n.val).divergenceCounted d := divergenceNoticed_site ..
    obtain ⟨sashes, lanes⟩ := divergenceNoticed_frame s n.val d
    refine ⟨divergenceDecided_waits hd, fun run checked => ?_⟩
    have acts := divergenceDecided_acts hd run checked
    have decide_ {t : State} (other : ¬((s.site n.val).img.policy = 1 ∧ (s.site n.val).draining = false))
        (act : u.actOnDiv n.val d.1 d.2.2.1 = t) : exec (.divergenceDecided n) s = .next (t.sendRollback n.val d.1) :=
      acts.trans (congrArg _ ((if_neg other).trans (congrArg (State.sendRollback · n.val d.1) act)))
    have not_log (resync : (s.site n.val).img.policy = 2) : ¬((s.site n.val).img.policy = 1 ∧ (s.site n.val).draining = false) := by
      rw [resync]; rintro ⟨one, -⟩; exact absurd one (by decide)
    have policy : y.img.policy = (s.site n.val).img.policy := by rw [here]; rfl
    have draining : y.draining = (s.site n.val).draining := by rw [here]; rfl
    have hinges : y.ra.transomHinges = (s.site n.val).ra.transomHinges := by rw [here]; rfl
    refine ⟨by rw [here]; rfl, draining, sashes, lanes, fun log on => acts.trans (congrArg _ (if_pos ⟨log, on⟩)), fun halt => ?_,
      fun resync on blocked => ?_, fun resync on free => ?_⟩
    · refine decide_ ?_ (actOnDiv_halts _ _ ?_)
      · rintro ⟨log, on⟩
        exact halt.elim (fun p => p.2 log) (ne_true_of_eq_false on)
      · exact halt.imp (fun p => policy ▸ p.1) (fun dr => draining.trans dr)
    · exact decide_ (not_log resync) (actOnDiv_blocked _ (policy.trans resync) (draining.trans on) (by
        change ∃ k ∈ y.ra.transomHinges, _; rw [hinges]; exact blocked))
    · exact decide_ (not_log resync) (actOnDiv_resyncs _ (policy.trans resync) (draining.trans on) (by
        change ∀ k ∈ y.ra.transomHinges, _; rw [hinges]; exact free))
  · intro u
    have undoes := rollback_undoes run back target clear
    refine ⟨fun fault => undoes.trans (congrArg _ (if_pos fault)), fun on => ?_⟩
    have site := replays_site u n.val c (s.site n.val).cycle.toNat
    refine ⟨_, undoes.trans (congrArg _ (if_neg (not_not.mpr on))), ?_, ?_, ?_, ?_, ?_, ?_, ?_, replays_mem .., fun i hi => ⟨?_, ?_⟩,
      fun i hi _ => ⟨?_, ?_⟩⟩
    · rw [site]; rfl
    · rw [site]; rfl
    · rw [site]; rfl
    · rw [site]; rfl
    · rw [site]; rfl
    · rw [site]; rfl
    · rw [site]
      intro e he
      have found : e ∈ (u.site n.val).ra.found.filter fun e => decide (e.1 < c) := he
      exact of_decide_eq_true (List.mem_filter.mp found).2
    · exact (replays_sash ..).trans (modSashes_sash_of_not_mem hi u _)
    · exact replays_lane_of_not_mem _ _ hi
    · exact (replays_sash ..).trans (modSashes_sash_of_mem Sash.replay_replay hi u)
    · exact replays_lane_of_mem _ _ hi
  · have writes := deltaWrite_writes site h
    obtain ⟨-, -, some_, room⟩ := not_or.mp h |>.imp_right fun h => not_or.mp h |>.imp_right not_or.mp
    rw [deltaLine_writes some_ (eq_false_of_ne_true room)] at writes
    exact ⟨_, writes, deltaTaken_frame i.val _ (State.setPadLine_lanes ..) (State.setPadLine_sites ..) (State.setPadLine_sashes ..)⟩

end Sys2Proof.Machine
end

section
set_option Elab.async false
/-! O43: the DSP instructions that reach the dispatcher. -/

namespace Sys2Proof.Machine

theorem dspCall_idle {s : State} {k c : Nat} (h : ∀ n, s.issuing k c = some n → s.task n = none)
    (f : State → Nat → TaskCtx → State) : s.dspCall k c f = s := by
  unfold State.dspCall
  cases hi : s.issuing k c with
  | none => rfl
  | some n => dsimp only; rw [h n hi]

theorem dspCall_issuing {s : State} {k c n : Nat} {x : TaskCtx} (hi : s.issuing k c = some n) (ht : s.task n = some x)
    (f : State → Nat → TaskCtx → State) : s.dspCall k c f = (f s n x).settleCas k := by
  unfold State.dspCall
  rw [hi]
  dsimp only
  rw [ht]

/-- An instruction of the dispatcher, and what it does for the task it issues from. -/
def isDspCall (k : Fin 12) (c : Fin 8) (cmd : Instr) (f : State → Nat → TaskCtx → State) : Prop :=
  ∀ s, exec cmd s = .next (s.dspCall k.val c.val f)

theorem isDspCall.idle {k : Fin 12} {c : Fin 8} {cmd : Instr} {f : State → Nat → TaskCtx → State} (h : isDspCall k c cmd f) {s : State}
    (hi : ∀ n, s.issuing k.val c.val = some n → s.task n = none) : exec cmd s = .next s :=
  (h s).trans (congrArg _ (dspCall_idle hi f))

theorem isDspCall.row {k : Fin 12} {c : Fin 8} {cmd : Instr} {f : State → Nat → TaskCtx → State} (h : isDspCall k c cmd f) {s t : State}
    {n : Nat} {x : TaskCtx} (hi : s.issuing k.val c.val = some n) (ht : s.task n = some x) (does : f s n x = t) :
    exec cmd s = .next (t.settleCas k.val) :=
  (h s).trans (congrArg _ ((dspCall_issuing hi ht f).trans (congrArg (State.settleCas · k.val) does)))

/-! ### What each instruction does -/

section
variable (k : Fin 12) (c : Fin 8)

theorem dspWait_call (m : BitVec 32) (all keep : Bool) : isDspCall k c (.dspWait k c m all keep) fun s n t =>
    if waitOk m all t.flagWord then (s.setTask n (some (t.observe m keep))).issued k.val c.val n 4 (s.core k.val c.val)
    else s.suspend k.val c.val n (.waitFlags m all keep) := fun _ => rfl

theorem dspSignal_call (task : Nat) (m : BitVec 32) : isDspCall k c (.dspSignal k c task m) fun s n _ =>
    let s := s.issued k.val c.val n 4 (s.core k.val c.val)
    if (s.task task).any (·.cas == k.val) then s.setFlags task m else s := fun _ => rfl

/-- ENQ and ENQN differ only where the queue is full (R299). -/
def State.enqOr (s : State) (k c n task : Nat) (i : BitVec 256) (full : State) : State :=
  match (s.task task).filter (·.cas == k) with
  | none => s.issued k c n 4 (s.core k c)
  | some t => if t.room then (s.issued k c n 4 (s.core k c)).enqueue task i else full

theorem enqOr_there {s : State} {k c n task : Nat} {i : BitVec 256} {full : State} {y : TaskCtx} (hy : s.task task = some y) (hk : y.cas = k) :
    (y.queue.length < y.qdepth → s.enqOr k c n task i full = (s.issued k c n 4 (s.core k c)).enqueue task i) ∧
      (y.qdepth ≤ y.queue.length → s.enqOr k c n task i full = full) := by
  have own : (s.task task).filter (·.cas == k) = some y := by
    rw [hy]
    exact if_pos (beq_iff_eq.mpr hk)
  unfold State.enqOr
  rw [own]
  exact ⟨fun lt => if_pos (decide_eq_true lt), fun le => if_neg (by simpa [TaskCtx.room] using le)⟩

theorem enqOr_elsewhere {s : State} {k task : Nat} (c n : Nat) (i : BitVec 256) (full : State)
    (h : ∀ y, s.task task = some y → y.cas ≠ k) : s.enqOr k c n task i full = s.issued k c n 4 (s.core k c) := by
  have other : (s.task task).filter (·.cas == k) = none := by
    cases hy : s.task task with
    | none => rfl
    | some y => exact if_neg (by simpa using h y hy)
  unfold State.enqOr
  rw [other]

theorem dspEnq_call (task : Nat) (i : BitVec 256) : isDspCall k c (.dspEnq k c task i) fun s n _ =>
    s.enqOr k.val c.val n task i (s.suspend k.val c.val n (.waitSlot task i)) := fun _ => rfl

theorem dspEnqn_call (task : Nat) (i : BitVec 256) : isDspCall k c (.dspEnqn k c task i) fun s n _ =>
    s.enqOr k.val c.val n task i (s.issued k.val c.val n 4 { s.core k.val c.val with z := true }) := fun _ => rfl

/-- DEQ takes the next item of a free flow, or waits (R299). -/
def State.deqs (s : State) (k c n : Nat) (t : TaskCtx) : State :=
  let s := s.setTask n (some { t with inService := none })
  match s.nextItem k t.queue with
  | some i =>
    let s := s.takeItem n i
    s.issued k c n 4 (s.core k c)
  | none => s.suspend k c n .waitItem

theorem dspDeq_call : isDspCall k c (.dspDeq k c) fun s n t => s.deqs k.val c.val n t := fun _ => rfl

theorem dspSleep_call (m : Nat) : isDspCall k c (.dspSleep k c m) fun s n _ =>
    if m = 0 ∨ 2 ^ 24 ≤ m then s
    else
      (s.suspend k.val c.val n (.delayed ((s.casm k.val).tickAfter s.time.ns m))).modCasm k.val fun y =>
        { y with delays := y.delays ++ [n] } := fun _ => rfl

theorem dspDone_call : isDspCall k c (.dspDone k c) fun s n _ =>
    (s.modTask n fun t => { t with used := t.used + 4 }).endTask n Code.ST_OK := fun _ => rfl

theorem dspXfer_call (d : XferDesc) : isDspCall k c (.dspXfer k c d) fun s n _ =>
    ((s.issued k.val c.val n 4 (s.core k.val c.val)).modCasm k.val fun y =>
      { y with xfers := y.xfers ++ [⟨d.toUnit, d.casAddr.toNat, d.unitAddr.toNat, d.lines, d.task, d.flag.val, n, c.val, false, 0, none⟩] }).xferIssue
        k.val := fun _ => rfl

/-- SUBMIT takes its record from unit address `ua` of casement memory (R294, R307). -/
def State.submits (s : State) (k c n a ua : Nat) : State :=
  if coreRange a 72 = false then s.faultTask n Code.TF_JOB_FAULT (s.core k c).pc.toNat a
  else
    match s.memRead ua 72 with
    | (_, true, u) => u.faultTask n Code.DI_POISON_READ (s.core k c).pc.toNat (u.firstBad ua 72)
    | (b, false, u) => ((u.issued k c n 4 (s.core k c)).submit k b false).2.2.2

theorem dspSubmit_call (a : BitVec 22) : isDspCall k c (.dspSubmit k c a) fun s n _ =>
    s.submits k.val c.val n a.toNat (coreAddr k.val c.val a.toNat) := fun _ => rfl

end

/-! ### Records from casement memory -/

/-- ACCEL with its descriptor at unit address `ua` (R309, R310). -/
def State.accelPostAt (s : State) (k c n a ua : Nat) : State :=
  let r := s.core k c
  if coreRange a 64 = false then s.faultTask n Code.TF_JOB_FAULT r.pc.toNat a
  else
    match s.memRead ua 64 with
    | (_, true, s) => s.faultTask n Code.DI_POISON_READ r.pc.toNat (s.firstBad ua 64)
    | (b, false, s) =>
      match kindUnit (fld b 0 1), s.accelOk k b with
      | some u, true =>
        let q := (s.casm k).queueOf u
        if 32 ≤ q.length then
          s.modCasm k fun x => { x with accStall := if x.accStall.any (·.1 == c) then x.accStall else x.accStall ++ [(c, a)] }
        else
          (s.issued k c n 4 r).modCasm k fun x =>
            ({ x with accStall := x.accStall.filter (·.1 != c) } : Casement).setQueue u (q ++ [⟨a, b, n, c, none, false, false⟩])
      | _, _ => s.faultTask n Code.TF_JOB_FAULT r.pc.toNat a

theorem accelPost_eq (s : State) (k c n a : Nat) : s.accelPost k c n a = s.accelPostAt k c n a (coreAddr k c a) := by
  obtain ⟨f, hf⟩ : ∃ f, State.accelPost = f := ⟨_, rfl⟩
  obtain ⟨address, ha⟩ : ∃ p, coreAddr = p := ⟨_, rfl⟩
  rw [hf, ha]
  delta State.accelPost at hf
  rw [ha] at hf
  rw [← hf]
  rfl

theorem dspAccel_call (k : Fin 12) (c : Fin 8) (a : BitVec 22) : isDspCall k c (.dspAccel k c a) fun s n _ =>
    s.accelPostAt k.val c.val n a.toNat (coreAddr k.val c.val a.toNat) := by
  have post : (fun (s : State) n (_ : TaskCtx) => s.accelPost k.val c.val n a.toNat) =
      fun s n _ => s.accelPostAt k.val c.val n a.toNat (coreAddr k.val c.val a.toNat) :=
    funext fun s => funext fun n => funext fun _ => accelPost_eq s k.val c.val n a.toNat
  rw [← post]
  exact fun _ => rfl

theorem submits_range {s : State} {a : Nat} (k c n ua : Nat) (h : coreRange a 72 = false) :
    s.submits k c n a ua = s.faultTask n Code.TF_JOB_FAULT (s.core k c).pc.toNat a := if_pos h

theorem submits_read {s : State} {k c a ua : Nat} {m : List Byte × Bool × State} (n : Nat) (h : coreRange a 72 = true)
    (hm : s.memRead ua 72 = m) :
    (m.2.1 = true → s.submits k c n a ua =
      m.2.2.faultTask n Code.DI_POISON_READ (s.core k c).pc.toNat (m.2.2.firstBad ua 72)) ∧
    (m.2.1 = false → s.submits k c n a ua = ((m.2.2.issued k c n 4 (s.core k c)).submit k m.1 false).2.2.2) := by
  obtain ⟨b, e, u⟩ := m
  unfold State.submits
  rw [if_neg (ne_false_of_eq_true h), hm]
  exact ⟨fun bad => by cases bad; rfl, fun good => by cases good; rfl⟩

theorem accelPostAt_range {s : State} {a : Nat} (k c n ua : Nat) (h : coreRange a 64 = false) :
    s.accelPostAt k c n a ua = s.faultTask n Code.TF_JOB_FAULT (s.core k c).pc.toNat a := if_pos h

theorem accelPostAt_poisoned {s : State} {k c a ua : Nat} {m : List Byte × Bool × State} (n : Nat) (h : coreRange a 64 = true)
    (hm : s.memRead ua 64 = m) (bad : m.2.1 = true) :
    s.accelPostAt k c n a ua = m.2.2.faultTask n Code.DI_POISON_READ (s.core k c).pc.toNat (m.2.2.firstBad ua 64) := by
  obtain ⟨b, e, u⟩ := m
  cases bad
  unfold State.accelPostAt
  dsimp only
  rw [if_neg (ne_false_of_eq_true h), hm]

/-- A descriptor that is read but breaks its rules (R309). -/
theorem accelPostAt_refused {s : State} {k c a ua : Nat} {m : List Byte × Bool × State} (n : Nat) (h : coreRange a 64 = true)
    (hm : s.memRead ua 64 = m) (good : m.2.1 = false) (wrong : kindUnit (fld m.1 0 1) = none ∨ m.2.2.accelOk k m.1 = false) :
    s.accelPostAt k c n a ua = m.2.2.faultTask n Code.TF_JOB_FAULT (s.core k c).pc.toNat a := by
  obtain ⟨b, e, u⟩ := m
  cases good
  unfold State.accelPostAt
  dsimp only
  rw [if_neg (ne_false_of_eq_true h), hm]
  dsimp only at wrong ⊢
  cases hu : kindUnit (fld b 0 1) with
  | none => rfl
  | some x => rw [wrong.resolve_left (by rw [hu]; exact Option.some_ne_none x)]

/-- A good descriptor joins its function's queue, or stalls the core while that is full (R310). -/
theorem accelPostAt_queued {s : State} {k c a ua : Nat} {m : List Byte × Bool × State} {x : AccelUnit} (n : Nat) (h : coreRange a 64 = true)
    (hm : s.memRead ua 64 = m) (good : m.2.1 = false) (unit : kindUnit (fld m.1 0 1) = some x)
    (ok : m.2.2.accelOk k m.1 = true) :
    s.accelPostAt k c n a ua =
      if 32 ≤ ((m.2.2.casm k).queueOf x).length then m.2.2.modCasm k fun y =>
        { y with accStall := if y.accStall.any (·.1 == c) then y.accStall else y.accStall ++ [(c, a)] }
      else (m.2.2.issued k c n 4 (s.core k c)).modCasm k fun y =>
        ({ y with accStall := y.accStall.filter (·.1 != c) } : Casement).setQueue x
          ((m.2.2.casm k).queueOf x ++ [⟨a, m.1, n, c, none, false, false⟩]) := by
  obtain ⟨b, e, u⟩ := m
  cases good
  unfold State.accelPostAt
  dsimp only
  rw [if_neg (ne_false_of_eq_true h), hm]
  dsimp only at unit ok ⊢
  rw [unit, ok]

/-! ### SUBMIT and ACCEL at their row -/

section
variable {s : State} {k : Fin 12} {c : Fin 8} {n : Nat} {x : TaskCtx}

theorem dspSubmit_clause (hi : s.issuing k.val c.val = some n) (ht : s.task n = some x) (a : BitVec 22) {ua : Nat}
    (hua : coreAddr k.val c.val a.toNat = ua) :
    let r := s.core k.val c.val
    let row (u : State) : Prop := exec (.dspSubmit k c a) s = .next (u.settleCas k.val)
    let m := s.memRead ua 72
    (coreRange a.toNat 72 = false → row (s.faultTask n Code.TF_JOB_FAULT r.pc.toNat a.toNat)) ∧
    (coreRange a.toNat 72 = true → m.2.1 = true → row (m.2.2.faultTask n Code.DI_POISON_READ r.pc.toNat (m.2.2.firstBad ua 72))) ∧
    (coreRange a.toNat 72 = true → m.2.1 = false → row ((m.2.2.issued k.val c.val n 4 r).submit k.val m.1 false).2.2.2) := by
  have call := dspSubmit_call k c a
  rw [hua] at call
  intro r row m
  obtain ⟨b, hb⟩ : ∃ b, s.memRead ua 72 = b := ⟨_, rfl⟩
  rw [show m = b from hb]
  exact ⟨fun out => call.row hi ht (submits_range _ _ _ _ out), fun ok bad => call.row hi ht ((submits_read n ok hb).1 bad),
    fun ok good => call.row hi ht ((submits_read n ok hb).2 good)⟩

theorem dspAccel_clause (hi : s.issuing k.val c.val = some n) (ht : s.task n = some x) (a : BitVec 22) {ua : Nat}
    (hua : coreAddr k.val c.val a.toNat = ua) :
    let r := s.core k.val c.val
    let row (u : State) : Prop := exec (.dspAccel k c a) s = .next (u.settleCas k.val)
    let m := s.memRead ua 64
    (coreRange a.toNat 64 = false → row (s.faultTask n Code.TF_JOB_FAULT r.pc.toNat a.toNat)) ∧
    (coreRange a.toNat 64 = true → m.2.1 = true → row (m.2.2.faultTask n Code.DI_POISON_READ r.pc.toNat (m.2.2.firstBad ua 64))) ∧
    (coreRange a.toNat 64 = true → m.2.1 = false → (kindUnit (fld m.1 0 1) = none ∨ m.2.2.accelOk k.val m.1 = false) →
      row (m.2.2.faultTask n Code.TF_JOB_FAULT r.pc.toNat a.toNat)) ∧
    (∀ u : AccelUnit, coreRange a.toNat 64 = true → m.2.1 = false → kindUnit (fld m.1 0 1) = some u → m.2.2.accelOk k.val m.1 = true →
      let q := (m.2.2.casm k.val).queueOf u
      (32 ≤ q.length → row (m.2.2.modCasm k.val fun y =>
        { y with accStall := if y.accStall.any (·.1 == c.val) then y.accStall else y.accStall ++ [(c.val, a.toNat)] })) ∧
      (q.length < 32 → row ((m.2.2.issued k.val c.val n 4 r).modCasm k.val fun y =>
        ({ y with accStall := y.accStall.filter (·.1 != c.val) } : Casement).setQueue u (q ++ [⟨a.toNat, m.1, n, c.val, none, false, false⟩])))) := by
  have call := dspAccel_call k c a
  rw [hua] at call
  intro r row m
  obtain ⟨b, hb⟩ : ∃ b, s.memRead ua 64 = b := ⟨_, rfl⟩
  rw [show m = b from hb]
  refine ⟨fun out => call.row hi ht (accelPostAt_range _ _ _ _ out), fun ok bad => call.row hi ht (accelPostAt_poisoned n ok hb bad),
    fun ok good wrong => call.row hi ht (accelPostAt_refused n ok hb good wrong), fun u ok good unit legal => ⟨fun full => ?_, fun room => ?_⟩⟩
  · exact call.row hi ht ((accelPostAt_queued n ok hb good unit legal).trans (if_pos full))
  · exact call.row hi ht ((accelPostAt_queued n ok hb good unit legal).trans (if_neg (Nat.not_le.mpr room)))

end

/-- Settles O43, instruction by instruction. -/
theorem dspDispatcherInstructions : Obligations.DspDispatcherInstructions := by
  unfold Obligations.DspDispatcherInstructions
  refine ⟨fun s k c h m all keep task z i d a cmd hcmd => ?_, fun s k c n x hi ht => ?_⟩
  · simp only [List.mem_cons, List.not_mem_nil, or_false] at hcmd
    obtain rfl | rfl | rfl | rfl | rfl | rfl | rfl | rfl | rfl | rfl := hcmd
    · exact (dspWait_call k c m all keep).idle h
    · exact (dspSignal_call k c task m).idle h
    · exact (dspEnq_call k c task i).idle h
    · exact (dspEnqn_call k c task i).idle h
    · exact (dspDeq_call k c).idle h
    · exact (dspSleep_call k c z).idle h
    · exact (dspDone_call k c).idle h
    · exact (dspXfer_call k c d).idle h
    · exact (dspSubmit_call k c a).idle h
    · exact (dspAccel_call k c a).idle h
  · intro r ended row
    refine ⟨fun m all keep => ⟨fun ok => ?_, fun wait => ?_⟩, fun task m => ?_, fun task i => ⟨fun y hy hk => ⟨fun room => ⟨?_, ?_⟩, fun full => ⟨?_, ?_⟩⟩,
      fun other => ⟨?_, ?_⟩⟩, ?_, fun m => ⟨fun pos small => ?_, fun out => ?_⟩, ?_, fun d => ?_, fun a => ?_, fun a => ?_⟩
    · exact (dspWait_call k c m all keep).row hi ht (if_pos ok)
    · exact (dspWait_call k c m all keep).row hi ht (if_neg (ne_true_of_eq_false wait))
    · exact (dspSignal_call k c task m).row hi ht rfl
    · exact (dspEnq_call k c task i).row hi ht ((enqOr_there hy hk).1 room)
    · exact (dspEnqn_call k c task i).row hi ht ((enqOr_there hy hk).1 room)
    · exact (dspEnq_call k c task i).row hi ht ((enqOr_there hy hk).2 full)
    · exact (dspEnqn_call k c task i).row hi ht ((enqOr_there hy hk).2 full)
    · exact (dspEnq_call k c task i).row hi ht (enqOr_elsewhere _ _ _ _ other)
    · exact (dspEnqn_call k c task i).row hi ht (enqOr_elsewhere _ _ _ _ other)
    · intro u
      refine ⟨fun i hn => (dspDeq_call k c).row hi ht ?_, fun hn => (dspDeq_call k c).row hi ht ?_⟩
      · unfold State.deqs; dsimp only; rw [hn]
      · unfold State.deqs; dsimp only; rw [hn]
    · exact (dspSleep_call k c m).row hi ht (if_neg (by omega))
    · exact (dspSleep_call k c m).row hi ht (if_pos out)
    · exact (dspDone_call k c).row hi ht rfl
    · exact (dspXfer_call k c d).row hi ht rfl
    · exact dspSubmit_clause hi ht a rfl
    · exact dspAccel_clause hi ht a rfl

end Sys2Proof.Machine
end

section
set_option Elab.async false
/-! What leaves the `cas` of the unit as they are. -/

namespace Sys2Proof.Machine

theorem State.modMemSt_cas (s : State) (n f) : (s.modMemSt n f).cas = s.cas := by
  grind [State.modMemSt, State.setMemSt_cas]

theorem State.noteCe_cas (s : State) (m a) : (s.noteCe m a).cas = s.cas := by
  grind [State.noteCe, State.modMemSt_cas]

theorem State.postMemory_cas (s : State) (st memid addr marker) : (s.postMemory st memid addr marker).cas = s.cas := by
  grind [State.postMemory, State.post_cas]

theorem State.notePoison_cas (s : State) (m a marker) : (s.notePoison m a marker).cas = s.cas := by
  grind [State.notePoison, State.modMemSt_cas, State.postMemory_cas]

theorem State.readWord_cas (s : State) (w) : (s.readWord w).2.2.cas = s.cas := by
  grind [State.readWord, State.noteCe_cas, State.notePoison_cas]

theorem State.readWords_cas (s : State) (w fuel) : (s.readWords w fuel).2.2.cas = s.cas := by
  induction fuel generalizing s w with
  | zero => rfl
  | succ n ih => grind [State.readWords, State.readWord_cas]

theorem State.memRead_cas (s : State) (a n) : (s.memRead a n).2.2.cas = s.cas := by
  grind [State.memRead, State.readWords_cas]

end Sys2Proof.Machine
end

section
set_option Elab.async false
/-! O45: the accelerators serve their descriptors. -/

namespace Sys2Proof.Machine

/-! ### A descriptor with an input and an output -/

/-- Descriptor `d` served with its input at unit address `a` and its output at `w`, by its rules and its function (R309). -/
def State.serveAt (s : State) (k : Nat) (u : AccelUnit) (d : AccelDesc) (ok : List Byte → Bool) (st : List Byte → BitVec 32)
    (out : List Byte → List Byte) (a w : Nat) : State :=
  let m := s.memRead a d.srclen
  if m.2.1 then
    let v : State := { m.2.2 with freeCtr := m.2.2.freeCtr + 1 }
    (v.served k u d (Config.freeWord m.2.2.freeCtr)).faultTask d.task Code.DI_POISON_READ (v.posterPc k d.task) (v.firstBad a d.srclen)
  else if ok m.1 then (m.2.2.memWrite w (out m.1)).served k u d (st m.1)
  else m.2.2.served k u d accBad

/-- Descriptor `d` served in casement memory. -/
def State.serveDesc (s : State) (k : Nat) (u : AccelUnit) (d : AccelDesc) (ok : List Byte → Bool) (st : List Byte → BitVec 32)
    (out : List Byte → List Byte) : State :=
  s.serveAt k u d ok st out (casAddr k (d.n 8 4)) (casAddr k (d.n 0x10 4))

theorem accelServe_none {s : State} {k : Nat} {u : AccelUnit} {kind : Nat} (f : State → AccelDesc → List Byte → Served)
    (h : ∀ d, s.toServe k u = some d → d.kind ≠ kind) : s.accelServe k u kind f = s := by
  unfold State.accelServe
  cases hs : s.toServe k u with
  | none => rfl
  | some d => exact if_pos (h d hs)

/-- The function of a descriptor, said by its rules, its status and its output. -/
theorem accelServe_serves {s : State} {k : Nat} {u : AccelUnit} {d : AccelDesc} {f : State → AccelDesc → List Byte → Served}
    {ok : List Byte → Bool} {st : List Byte → BitVec 32} {out : List Byte → List Byte} {kind : Nat} (h : s.toServe k u = some d)
    (hk : d.kind = kind) (hf : ∀ t b, t.cas = s.cas → f t d b = if ok b then some (st b, out b) else none) :
    s.accelServe k u kind f = s.serveDesc k u d ok st out := by
  obtain ⟨address, ha⟩ : ∃ p, casAddr = p := ⟨_, rfl⟩
  unfold State.accelServe State.serveDesc
  rw [h, ha]
  refine (if_neg (not_not.mpr hk)).trans ?_
  generalize address k (d.n 8 4) = a
  generalize address k (d.n 0x10 4) = w
  unfold State.serveAt
  dsimp only
  have cas := State.memRead_cas s a d.srclen
  generalize s.memRead a d.srclen = m at cas ⊢
  obtain ⟨b, e, t⟩ := m
  cases e with
  | true => rfl
  | false =>
    dsimp only at cas ⊢
    rw [hf t b cas]
    cases ok b with
    | true => rfl
    | false => rfl

/-! ### The mapper and its symbol boundaries -/

/-- The context at a symbol boundary (R160, R316). -/
def LoadCtx.atBoundary (v : LoadCtx) : LoadCtx :=
  if v.swap = false then v
  else if v.complete then { v with active1 := !v.active1, swap := false }
  else { v with stale := v.stale + 1 }

theorem ctxAt_setCtx (c : Casement) (x : Nat) (v : LoadCtx) (y : Nat) : (c.setCtx x v).ctxAt y = if y = x then v else c.ctxAt y :=
  tget_tset ..

theorem queueOf_setQueue (c : Casement) (u v : AccelUnit) (l : List AccelDesc) :
    (c.setQueue u l).queueOf v = if unitNo v = unitNo u then l else c.queueOf v := tget_tset ..

theorem casm_modCasm_same (s : State) (k : Nat) (f : Casement → Casement) : (s.modCasm k f).casm k = f (s.casm k) :=
  (State.casm_setCasm ..).trans (if_pos rfl)

/-- The casement at a symbol boundary of context `x`: only that context and the rebuilder's queue change. -/
theorem boundary_casm (s : State) (k x : Nat) :
    (((s.boundary k x).casm k).ctxAt x = ((s.casm k).ctxAt x).atBoundary) ∧
      ((s.boundary k x).casm k).accHeld = (s.casm k).accHeld ∧
      ((s.boundary k x).casm k).queueOf .mapper = (s.casm k).queueOf .mapper ∧
      (((s.casm k).ctxAt x).swap = false → (s.boundary k x).casm k = s.casm k) := by
  unfold State.boundary LoadCtx.atBoundary
  rw [casm_modCasm_same]
  extract_lets v mine
  have here (w : LoadCtx) (l : List AccelDesc) : (((s.casm k).setCtx x w).setQueue .rebuilder l).ctxAt x = w :=
    (ctxAt_setCtx ..).trans (if_pos rfl)
  have queue (w : LoadCtx) (l : List AccelDesc) :
      (((s.casm k).setCtx x w).setQueue .rebuilder l).queueOf .mapper = (s.casm k).queueOf .mapper :=
    (queueOf_setQueue ..).trans (if_neg (by decide))
  by_cases idle : v.swap = false
  · rw [if_pos idle, if_pos idle]
    exact ⟨rfl, rfl, rfl, fun _ => rfl⟩
  · rw [if_neg idle, if_neg idle]
    split
    · exact ⟨here .., rfl, queue .., fun no => absurd no idle⟩
    · exact ⟨here .., rfl, queue .., fun no => absurd no idle⟩

theorem toServe_congr {s t : State} {k : Nat} {u : AccelUnit} (held : (t.casm k).accHeld = (s.casm k).accHeld)
    (queue : (t.casm k).queueOf u = (s.casm k).queueOf u) : t.toServe k u = s.toServe k u := by
  unfold State.toServe
  dsimp only
  rw [held, queue]

/-- The state at the start of a mapper descriptor for context `x`. -/
def State.mapperStart (s : State) (k x : Nat) : State := if x < 8 then s.boundary k x else s

theorem mapperStart_toServe (s : State) (k x : Nat) : (s.mapperStart k x).toServe k .mapper = s.toServe k .mapper := by
  unfold State.mapperStart
  split
  · obtain ⟨-, held, queue, -⟩ := boundary_casm s k x
    exact toServe_congr held queue
  · rfl

theorem mapperStart_cas (s : State) (k x f : Nat) :
    (({ s with freeCtr := s.freeCtr + f } : State).mapperStart k x).cas = (s.mapperStart k x).cas := by
  unfold State.mapperStart
  split
  · rfl
  · rfl

theorem serveMapper_none {s : State} {k kind : Nat} (f : State → LoadCtx → AccelDesc → List Byte → Served)
    (h : ∀ d, s.toServe k .mapper = some d → d.kind ≠ kind) : s.serveMapper k kind f = s := by
  unfold State.serveMapper
  cases hs : s.toServe k .mapper with
  | none => rfl
  | some d => exact if_pos (h d hs)

/-- A mapper descriptor starts at a symbol boundary and is served with its context (R315, R316). -/
theorem serveMapper_serves {s : State} {k kind : Nat} {d : AccelDesc} {f : State → LoadCtx → AccelDesc → List Byte → Served}
    {ok : List Byte → Bool} {st : List Byte → BitVec 32} {out : List Byte → List Byte} (h : s.toServe k .mapper = some d) (hk : d.kind = kind)
    (hf : let c := ((s.mapperStart k (d.n 0x20 1)).casm k).ctxAt (d.n 0x20 1)
      ∀ t b, (if d.n 0x20 1 < 8 ∧ c.nsc ≠ 0 then f t c d b else none) = if ok b then some (st b, out b) else none) :
    s.serveMapper k kind f = (s.mapperStart k (d.n 0x20 1)).serveDesc k .mapper d ok st out := by
  unfold State.serveMapper
  rw [h]
  refine (if_neg (not_not.mpr hk)).trans ?_
  refine accelServe_serves ((mapperStart_toServe ..).trans h) hk fun t b cas => ?_
  have same : (t.casm k).ctxAt (d.n 0x20 1) = ((s.mapperStart k (d.n 0x20 1)).casm k).ctxAt (d.n 0x20 1) := by
    unfold State.casm
    rw [show t.cas = (s.mapperStart k (d.n 0x20 1)).cas from cas]
  dsimp only
  rw [same]
  exact hf t b

/-- A function that refuses by `q` under `p` serves where `p` holds and `q` does not. -/
theorem ite_refused {α : Type} {p q r : Prop} [Decidable p] [Decidable q] [Decidable r] (h : r ↔ p ∧ ¬q) (v : α) :
    (if p then (if q then none else some v) else none) = if r then some v else none := by
  by_cases hp : p
  · by_cases hq : q
    · rw [if_pos hp, if_pos hq, if_neg fun hr => (h.mp hr).2 hq]
    · rw [if_pos hp, if_neg hq, if_pos (h.mpr ⟨hp, hq⟩)]
  · rw [if_neg hp, if_neg fun hr => hp (h.mp hr).1]

/-! ### The rebuilder -/

theorem exec_accelRebuild (k : Fin 12) (s : State) : exec (.accelRebuild k) s = execAccelRebuild k s := rfl
theorem exec_accelSwap (k : Fin 12) (s : State) : exec (.accelSwap k) s = execAccelSwap k s := rfl

/-- The rules of REBUILD (R316). -/
def rebuildOk (d : AccelDesc) (c : LoadCtx) : Bool :=
  decide (d.n 0x20 1 < 8) && c.nsc != 0 && d.paramClean [(0x20, 1), (0x22, 3)] && decide (d.n 0x24 1 ≤ 12) && decide (2 * c.nsc ≤ d.srclen)

/-- The rebuilt copy of context `c` where the rules hold and the input `m` reads well (R316). -/
def State.rebuilt (k : Nat) (d : AccelDesc) (c : LoadCtx) (m : List Byte × Bool × State) (ok : Bool) (t : State) : State :=
  if ok && !m.2.1 then t.modCasm k fun y => y.setCtx (d.n 0x20 1) (c.rebuild m.1 (sext (d.n 0x22 2) 16) (d.n 0x24 1)) else t

/-- A descriptor at the head of the rebuilder's queue, before its KIND is looked at. -/
theorem accelRebuild_head {s : State} {k : Fin 12} {d : AccelDesc} (h : s.toServe k.val .rebuilder = some d) :
    let x := d.n 0x20 1
    let c := (s.casm k.val).ctxAt x
    let ok := d.kind == 7 && decide (x < 8) && c.nsc != 0 && d.paramClean [(0x20, 1), (0x22, 3)] && decide (d.n 0x24 1 ≤ 12) &&
      decide (2 * c.nsc ≤ d.srclen)
    exec (.accelRebuild k) s = .next ((s.accelServe k.val .rebuilder 7 fun _ _ _ => if ok then some (accOk, []) else none).rebuilt
      k.val d c (s.memRead (casAddr k.val (d.n 8 4)) d.srclen) ok) := by
  obtain ⟨address, ha⟩ : ∃ p, casAddr = p := ⟨_, rfl⟩
  rw [exec_accelRebuild, execAccelRebuild, h, ha]
  intro x c ok
  dsimp only
  generalize s.memRead (address k.val (d.n 8 4)) d.srclen = m
  obtain ⟨b, bad, u⟩ := m
  rfl

theorem accelRebuild_none {s : State} {k : Fin 12} (h : ∀ d, s.toServe k.val .rebuilder = some d → d.kind ≠ 7) :
    exec (.accelRebuild k) s = .next s := by
  cases hs : s.toServe k.val .rebuilder with
  | none =>
    rw [exec_accelRebuild, execAccelRebuild, hs]
  | some d =>
    have other : (d.kind == 7) = false := beq_eq_false_iff_ne.mpr (h d hs)
    refine (accelRebuild_head hs).trans (congrArg _ ((if_neg ?_).trans (accelServe_none _ h)))
    simp only [other, Bool.false_and, Bool.false_eq_true, not_false_eq_true]

theorem accelSwap_none {s : State} {k : Fin 12} (h : ∀ d, s.toServe k.val .rebuilder = some d → d.kind ≠ 8) :
    exec (.accelSwap k) s = .next s := by
  rw [exec_accelSwap, execAccelSwap]
  cases hs : s.toServe k.val .rebuilder with
  | none => rfl
  | some d => exact congrArg _ (if_pos (h d hs))

/-- A REBUILD that is due, its rules met or not (R316). -/
theorem accelRebuild_serves {s : State} {k : Fin 12} {d : AccelDesc} (h : s.toServe k.val .rebuilder = some d) (hk : d.kind = 7) :
    let c := (s.casm k.val).ctxAt (d.n 0x20 1)
    exec (.accelRebuild k) s = .next ((s.serveDesc k.val .rebuilder d (fun _ => rebuildOk d c) (fun _ => accOk) (fun _ => [])).rebuilt
      k.val d c (s.memRead (casAddr k.val (d.n 8 4)) d.srclen) (rebuildOk d c)) := by
  intro c
  have rules : (d.kind == 7 && decide (d.n 0x20 1 < 8) && c.nsc != 0 && d.paramClean [(0x20, 1), (0x22, 3)] && decide (d.n 0x24 1 ≤ 12) &&
      decide (2 * c.nsc ≤ d.srclen)) = rebuildOk d c := by
    rw [hk]; rfl
  have run := accelRebuild_head h
  dsimp only at run
  rw [rules] at run
  refine run.trans (congrArg (fun t => Host.Outcome.next (State.rebuilt k.val d c _ (rebuildOk d c) t)) ?_)
  exact accelServe_serves h hk fun _ _ _ => rfl

theorem accelSwap_refused {s : State} {k : Fin 12} {d : AccelDesc} (h : s.toServe k.val .rebuilder = some d) (hk : d.kind = 8)
    (bad : 8 ≤ d.n 0x20 1 ∨ d.paramClean [(0x20, 1)] = false ∨ ((s.casm k.val).ctxAt (d.n 0x20 1)).nsc = 0) :
    exec (.accelSwap k) s = .next (s.served k.val .rebuilder d accBad) := by
  rw [exec_accelSwap, execAccelSwap, h]
  exact congrArg _ ((if_neg (not_not.mpr hk)).trans (if_pos bad))

/-- A SWAP asks for its context's next symbol boundary (R316). -/
theorem accelSwap_asks {s : State} {k : Fin 12} {d : AccelDesc} (h : s.toServe k.val .rebuilder = some d) (hk : d.kind = 8)
    (small : d.n 0x20 1 < 8) (clean : d.paramClean [(0x20, 1)] = true) (used : ((s.casm k.val).ctxAt (d.n 0x20 1)).nsc ≠ 0) :
    exec (.accelSwap k) s = .next (s.modCasm k.val fun c =>
      (c.setCtx (d.n 0x20 1) { c.ctxAt (d.n 0x20 1) with swap := true }).setQueue .rebuilder
        (replaceFirst d { d with asked := true } (c.queueOf .rebuilder))) := by
  rw [exec_accelSwap, execAccelSwap, h]
  refine congrArg _ ((if_neg (not_not.mpr hk)).trans (if_neg ?_))
  rintro (big | dirty | empty)
  · omega
  · exact ne_false_of_eq_true clean dirty
  · exact used empty

/-! ### Descriptors that act at once -/

theorem serveNow_none {s : State} {k kind : Nat} {u : AccelUnit} (f : State → AccelDesc → Option (BitVec 32 × State))
    (h : ∀ d, s.toServe k u = some d → d.kind ≠ kind) : s.serveNow k u kind f = s := by
  unfold State.serveNow
  cases hs : s.toServe k u with
  | none => rfl
  | some d => exact if_pos (h d hs)

theorem serveNow_serves {s t : State} {k kind : Nat} {u : AccelUnit} {d : AccelDesc} {st : BitVec 32}
    {f : State → AccelDesc → Option (BitVec 32 × State)} (h : s.toServe k u = some d) (hk : d.kind = kind) (hf : f s d = some (st, t)) :
    s.serveNow k u kind f = t.served k u d st := by
  unfold State.serveNow
  rw [h]
  refine (if_neg (not_not.mpr hk)).trans ?_
  rw [hf]

theorem serveNow_waits {s : State} {k kind : Nat} {u : AccelUnit} {d : AccelDesc} {f : State → AccelDesc → Option (BitVec 32 × State)}
    (h : s.toServe k u = some d) (hk : d.kind = kind) (hf : f s d = none) : s.serveNow k u kind f = s := by
  unfold State.serveNow
  rw [h]
  refine (if_neg (not_not.mpr hk)).trans ?_
  rw [hf]

/-- A descriptor that changes the stream it names when `ok` holds of it. -/
def onStream (ok : Stream → Prop) [DecidablePred ok] (f : Stream → Stream) (j : Nat) (s : State) : Option (BitVec 32 × State) :=
  match s.stream j with
  | some st => if ok st then some (accOk, s.setStream j (some (f st))) else some (accBad, s)
  | none => some (accBad, s)

theorem onStream_ok {ok : Stream → Prop} [DecidablePred ok] (f : Stream → Stream) {j : Nat} {s : State} {st : Stream}
    (h : s.stream j = some st) (hok : ok st) : onStream ok f j s = some (accOk, s.setStream j (some (f st))) := by
  unfold onStream; rw [h]; exact if_pos hok

theorem onStream_bad {ok : Stream → Prop} [DecidablePred ok] (f : Stream → Stream) {j : Nat} {s : State}
    (h : ∀ st, s.stream j = some st → ¬ok st) : onStream ok f j s = some (accBad, s) := by
  unfold onStream
  cases hs : s.stream j with
  | none => rfl
  | some st => exact if_neg (h st hs)

/-- The rules of BURST (R324). -/
abbrev burstOk (k : Nat) (d : AccelDesc) (st : Stream) : Prop :=
  st.cas = k ∧ st.rx = false ∧ st.ramp = true ∧ 128 ≤ d.n 0x24 4 ∧ st.idx * st.interp ≤ d.n 0x28 8 ∧
    st.bursts.any (·.overlaps ⟨d.n 0x28 8, d.n 0x24 4⟩) = false ∧ d.paramClean [(0x20, 1), (0x24, 12)] = true

/-- The rules of PSREL (R327). -/
abbrev psrelOk (k : Nat) (d : AccelDesc) (st : Stream) : Prop :=
  st.cas = k ∧ st.rx = true ∧ d.n 0x21 1 < 2 ∧ d.paramClean [(0x20, 2)] = true

/-- A GAIN descriptor: refused, past, waiting for its port, or queued (R329). -/
def State.gainAct (s : State) (k : Nat) (d : AccelDesc) : Option (BitVec 32 × State) :=
  if 3 < d.n 0x20 1 ∨ d.n 0x21 1 < 8 ∨ 32 < d.n 0x21 1 ∨ d.n 0x22 1 < 4 ∨ 64 < d.n 0x22 1 ∨
      d.paramClean [(0x20, 3), (0x24, 12)] = false then some (accBad, s)
  else if d.n 0x28 8 ≠ 0 ∧ d.n 0x28 8 < s.time.ns then some (accBad, s.postNotice Code.CH_TIME_PAST 0xFF k 0 0 (d.n 2 2))
  else if 16 ≤ (s.fePort (d.n 0x20 1)).queue.length then none
  else some (accOk, s.queueGain (d.n 0x20 1) (d.n 0x21 1) (d.n 0x22 1) (d.n 0x24 4) (d.n 0x28 8))

theorem exec_accelGain (k : Fin 12) (s : State) :
    exec (.accelGain k) s = .next (s.serveNow k.val .gain 0xB fun s d => s.gainAct k.val d) := rfl

/-- The form of a GAIN descriptor (R329). -/
def gainForm (d : AccelDesc) : Prop :=
  d.n 0x20 1 ≤ 3 ∧ 8 ≤ d.n 0x21 1 ∧ d.n 0x21 1 ≤ 32 ∧ 4 ≤ d.n 0x22 1 ∧ d.n 0x22 1 ≤ 64 ∧ d.paramClean [(0x20, 3), (0x24, 12)] = true

theorem gainForm_iff (d : AccelDesc) : gainForm d ↔ ¬(3 < d.n 0x20 1 ∨ d.n 0x21 1 < 8 ∨ 32 < d.n 0x21 1 ∨ d.n 0x22 1 < 4 ∨
    64 < d.n 0x22 1 ∨ d.paramClean [(0x20, 3), (0x24, 12)] = false) := by
  simp only [gainForm, not_or, not_lt, Bool.not_eq_false]

theorem gainAct_cases (s : State) (k : Nat) (d : AccelDesc) :
    (¬gainForm d → s.gainAct k d = some (accBad, s)) ∧
    (gainForm d → d.n 0x28 8 ≠ 0 ∧ d.n 0x28 8 < s.time.ns →
      s.gainAct k d = some (accBad, s.postNotice Code.CH_TIME_PAST 0xFF k 0 0 (d.n 2 2))) ∧
    (gainForm d → ¬(d.n 0x28 8 ≠ 0 ∧ d.n 0x28 8 < s.time.ns) → (s.fePort (d.n 0x20 1)).queue.length < 16 →
      s.gainAct k d = some (accOk, s.queueGain (d.n 0x20 1) (d.n 0x21 1) (d.n 0x22 1) (d.n 0x24 4) (d.n 0x28 8))) ∧
    (gainForm d → ¬(d.n 0x28 8 ≠ 0 ∧ d.n 0x28 8 < s.time.ns) → 16 ≤ (s.fePort (d.n 0x20 1)).queue.length → s.gainAct k d = none) := by
  have form := gainForm_iff d
  unfold State.gainAct
  refine ⟨fun bad => if_pos (not_not.mp fun h => bad (form.mpr h)), fun good past => (if_neg (form.mp good)).trans (if_pos past),
    fun good now room => (if_neg (form.mp good)).trans ((if_neg now).trans (if_neg (Nat.not_le.mpr room))),
    fun good now full => (if_neg (form.mp good)).trans ((if_neg now).trans (if_pos full))⟩

/-! ### Completion -/

/-- The STATUS of `d` is written at unit address `a`, and `d` leaves its queue (R300). -/
def State.statusWritten (s : State) (k : Nat) (u : AccelUnit) (d : AccelDesc) (v : BitVec 32) (a : Nat) : State :=
  (s.memWrite a (leBytes v.toNat 4)).modCasm k fun c => c.setQueue u ((c.queueOf u).erase d)

/-- A REBUILD's copy is complete (R316). -/
def State.copyCompleted (s : State) (k : Nat) (d : AccelDesc) (v : BitVec 32) : State :=
  if d.kind = 7 ∧ v = accOk ∧ d.n 0x20 1 < 8 then
    s.modCasm k fun c => c.setCtx (d.n 0x20 1) { c.ctxAt (d.n 0x20 1) with complete := true }
  else s

/-- The flag is set or the item is enqueued or held, for a task of the casement (R300). -/
def State.taskTold (s : State) (k : Nat) (u : AccelUnit) (d : AccelDesc) : State :=
  let to_ := d.n 2 2
  if bit (d.n 1 1) 5 then
    let i := itemOf 0xFFFF d.kind (d.n 4 4) d.addr d.dstlen []
    match (s.task to_).filter (·.cas == k) with
    | some t => if t.room then s.enqueue to_ i else s.modCasm k fun c => { c with accHeld := c.accHeld ++ [(unitNo u, to_, i)] }
    | none => s
  else if (s.task to_).any (·.cas == k) then s.setFlags to_ (BitVec.ofNat 32 (2 ^ bits (d.n 1 1) 0 5))
  else s

theorem taskTold_stranger {s : State} {k : Nat} (u : AccelUnit) {d : AccelDesc} (h : ∀ t, s.task (d.n 2 2) = some t → t.cas ≠ k) :
    s.taskTold k u d = s := by
  have other : (s.task (d.n 2 2)).filter (·.cas == k) = none ∧ (s.task (d.n 2 2)).any (·.cas == k) = false := by
    cases ht : s.task (d.n 2 2) with
    | none => exact ⟨rfl, rfl⟩
    | some t =>
      have ne : (t.cas == k) = false := beq_eq_false_iff_ne.mpr (h t ht)
      exact ⟨if_neg (ne_true_of_eq_false ne), ne⟩
  unfold State.taskTold
  dsimp only
  rw [other.1, other.2]
  split
  · rfl
  · rfl

theorem taskTold_own {s : State} {k : Nat} (u : AccelUnit) {d : AccelDesc} {t : TaskCtx} (ht : s.task (d.n 2 2) = some t) (hk : t.cas = k) :
    (bit (d.n 1 1) 5 = false → s.taskTold k u d = s.setFlags (d.n 2 2) (BitVec.ofNat 32 (2 ^ bits (d.n 1 1) 0 5))) ∧
    (bit (d.n 1 1) 5 = true → t.queue.length < t.qdepth →
      s.taskTold k u d = s.enqueue (d.n 2 2) (itemOf 0xFFFF d.kind (d.n 4 4) d.addr d.dstlen [])) ∧
    (bit (d.n 1 1) 5 = true → t.qdepth ≤ t.queue.length → s.taskTold k u d =
      s.modCasm k fun c => { c with accHeld := c.accHeld ++ [(unitNo u, d.n 2 2, itemOf 0xFFFF d.kind (d.n 4 4) d.addr d.dstlen [])] }) := by
  have own : (t.cas == k) = true := beq_iff_eq.mpr hk
  have filtered : (some t).filter (·.cas == k) = some t := if_pos own
  unfold State.taskTold
  dsimp only
  rw [ht, filtered]
  refine ⟨fun flag => (if_neg (ne_true_of_eq_false flag)).trans (if_pos own), fun item room => (if_pos item).trans (if_pos (decide_eq_true room)),
    fun item full => (if_pos item).trans (if_neg ?_)⟩
  simpa [TaskCtx.room] using full

theorem exec_accelComplete (k : Fin 12) (u : AccelUnit) (s : State) : exec (.accelComplete k u) s = execAccelComplete k u s := rfl

theorem accelComplete_nothing {s : State} {k : Fin 12} {u : AccelUnit}
    (h : (s.casm k.val).accHeld.any (·.1 == unitNo u) = true ∨ ((s.casm k.val).queueOf u).find? (·.result.isSome) = none) :
    exec (.accelComplete k u) s = .next s := by
  rw [exec_accelComplete, execAccelComplete]
  dsimp only
  cases hd : ((s.casm k.val).queueOf u).find? (·.result.isSome) with
  | none => rfl
  | some d => exact congrArg _ (if_pos (h.resolve_right (by rw [hd]; exact Option.some_ne_none d)))

/-- The oldest served descriptor completes (R300, R310). -/
theorem accelComplete_completes {s : State} {k : Fin 12} {u : AccelUnit} {d : AccelDesc} {v : BitVec 32}
    (free : ¬(s.casm k.val).accHeld.any (·.1 == unitNo u) = true) (hd : ((s.casm k.val).queueOf u).find? (·.result.isSome) = some d)
    (hv : d.result = some v) {y : State}
    (hy : ((s.statusWritten k.val u d v (coreAddr k.val d.core d.addr + 0x18)).copyCompleted k.val d v).taskTold k.val u d = y) :
    exec (.accelComplete k u) s = .next ((y.retryStalls k.val (y.casm k.val).accStall).settleCas k.val) := by
  obtain ⟨address, ha⟩ : ∃ p, coreAddr = p := ⟨_, rfl⟩
  rw [← hy, exec_accelComplete, execAccelComplete, ha]
  dsimp only
  rw [hd]
  refine congrArg _ ((if_neg free).trans ?_)
  rw [hv]
  rfl

/-! ### The statement -/

/-- A function with no descriptor of its KIND to serve at most draws free values. -/
theorem accel_nothing {s : State} {k : Fin 12} {e : Instr × AccelUnit × Nat}
    (row : e ∈ [(Instr.accelFft k, AccelUnit.fft, 1), (.accelEncode k, .encoder, 2), (.accelDecode k, .decoder, 3), (.accelModulate k, .mapper, 4),
      (.accelDemap k, .mapper, 5), (.accelNmeas k, .mapper, 6), (.accelRebuild k, .rebuilder, 7), (.accelSwap k, .rebuilder, 8),
      (.accelBurst k, .burst, 9), (.accelPsrel k, .psrel, 0xA), (.accelGain k, .gain, 0xB)])
    (h : ∀ d, s.toServe k.val e.2.1 = some d → d.kind ≠ e.2.2) : ∃ f, exec e.1 s = .next { s with freeCtr := f } := by
  have same {c : Instr} (run : exec c s = .next s) : ∃ f, exec c s = .next { s with freeCtr := f } := ⟨s.freeCtr, run⟩
  simp only [List.mem_cons, List.not_mem_nil, or_false] at row
  obtain rfl | rfl | rfl | rfl | rfl | rfl | rfl | rfl | rfl | rfl | rfl := row
  · exact same (congrArg _ (accelServe_none _ h))
  · exact same (congrArg _ (accelServe_none _ h))
  · exact same (congrArg _ (accelServe_none _ h))
  · exact same (congrArg _ (serveMapper_none _ h))
  · exact ⟨_, congrArg _ (serveMapper_none (s := { s with freeCtr := s.freeCtr + 65536 }) _ h)⟩
  · exact ⟨_, congrArg _ (serveMapper_none (s := { s with freeCtr := s.freeCtr + 4096 }) _ h)⟩
  · exact same (accelRebuild_none h)
  · exact same (accelSwap_none h)
  · exact same (congrArg _ (serveNow_none _ h))
  · exact same (congrArg _ (serveNow_none _ h))
  · exact same (congrArg _ (serveNow_none _ h))

theorem accelCoding_clause (s : State) (k : Fin 12) (d : AccelDesc) :
    (s.toServe k.val .fft = some d → d.kind = 1 →
      exec (.accelFft k) s = .next (s.serveDesc k.val .fft d (fun _ => d.fftOk)
        (fun b => accSat (Config.fftSats (bytesAt d.bytes 0x20 8) (if bit (d.n 0x21 1) 0 then b else b.drop (4 * d.n 0x22 2))).toNat) d.fftOut)) ∧
    (s.toServe k.val .encoder = some d → d.kind = 2 →
      exec (.accelEncode k) s = .next (s.serveDesc k.val .encoder d
        (fun b => d.codeOk && decide ((packBits (d.encoded (byteBits b))).length ≤ d.dstlen)) (fun _ => accOk)
        (fun b => packBits (d.encoded (byteBits b))))) ∧
    (s.toServe k.val .decoder = some d → d.kind = 3 →
      exec (.accelDecode k) s = .next (s.serveDesc k.val .decoder d (fun _ => d.codeOk) (fun _ => accOk)
        (fun b => packBits (d.decoded b (d.outBytes d.dstlen))))) := by
  refine ⟨fun h hk => congrArg _ (accelServe_serves h hk fun _ _ _ => rfl), fun h hk => congrArg _ (accelServe_serves h hk fun _ b _ => ?_),
    fun h hk => congrArg _ (accelServe_serves h hk fun _ _ _ => rfl)⟩
  cases d.codeOk with
  | true => simp only [if_true, Bool.true_and, decide_eq_true_eq]
  | false => rfl

theorem accelMapper_clause (s : State) (k : Fin 12) (d : AccelDesc) (h : s.toServe k.val .mapper = some d) :
    let x := d.n 0x20 1
    let at_ (f : Nat) : State := ({ s with freeCtr := s.freeCtr + f } : State).mapperStart k.val x
    let c := ((at_ 0).casm k.val).ctxAt x
    let named := decide (x < 8) && c.nsc != 0
    (d.kind = 4 →
      exec (.accelModulate k) s = .next ((at_ 0).serveDesc k.val .mapper d
        (fun _ => named && d.paramClean [(0x20, 1)] && decide (bitSum c.entries ≤ 8 * d.srclen) && decide (4 * c.nsc ≤ d.dstlen))
        (fun b => accSat ((c.points (leNat b) c.entries).map pointSats).sum) (fun b => (c.points (leNat b) c.entries).flatMap pointBytes))) ∧
    (d.kind = 5 →
      exec (.accelDemap k) s = .next ((at_ 65536).serveDesc k.val .mapper d
        (fun _ => named && d.paramClean [(0x20, 1), (0x22, 2)] && decide (4 * c.nsc ≤ d.srclen) && decide ((bitSum c.entries + 1) / 2 ≤ d.dstlen))
        (fun _ => accOk)
        (fun b => packNibbles (c.entries.zipIdx.flatMap fun e =>
          c.softs e.1 (d.n 0x22 2) (s.freeCtr + 16 * e.2) (coordAt b (2 * e.2)) (coordAt b (2 * e.2 + 1)))))) ∧
    (d.kind = 6 →
      let ns := d.n 0x24 2
      exec (.accelNmeas k) s = .next ((at_ 4096).serveDesc k.val .mapper d
        (fun _ => named && d.paramClean [(0x20, 1), (0x24, 2)] && decide (1 ≤ ns) && decide (ns ≤ 1024) && decide (4 * c.nsc * ns ≤ d.srclen) &&
          decide (2 * c.nsc ≤ d.dstlen))
        (fun _ => accOk)
        (fun b => c.entries.zipIdx.flatMap fun e =>
          let ys := (List.range ns).map fun i => (coordAt b (2 * (i * c.nsc + e.2)), coordAt b (2 * (i * c.nsc + e.2) + 1))
          leBytes (BitVec.ofInt 16 (c.snr e.1 ys (Config.freeWord (s.freeCtr + e.2)))).toNat 2))) := by
  intro x at_ c named
  have ctx (f : Nat) : ((at_ f).casm k.val).ctxAt x = c := by
    have cas : (at_ f).cas = (at_ 0).cas := (mapperStart_cas s k.val x f).trans (mapperStart_cas s k.val x 0).symm
    unfold c State.casm
    rw [cas]
  refine ⟨fun hk => congrArg _ (serveMapper_serves (s := { s with freeCtr := s.freeCtr + 0 }) h hk ?_),
    fun hk => congrArg _ (serveMapper_serves (s := { s with freeCtr := s.freeCtr + 65536 }) h hk ?_),
    fun hk => congrArg _ (serveMapper_serves (s := { s with freeCtr := s.freeCtr + 4096 }) h hk ?_)⟩
  · intro c' t b
    rw [show c' = c from ctx 0]
    refine ite_refused ?_ _
    simp only [named, Bool.and_eq_true, decide_eq_true_eq, bne_iff_ne, ne_eq, not_or, Bool.not_eq_false, not_lt, and_assoc]
    rfl
  · intro c' t b
    rw [show c' = c from ctx 65536]
    refine ite_refused ?_ _
    simp only [named, Bool.and_eq_true, decide_eq_true_eq, bne_iff_ne, ne_eq, not_or, Bool.not_eq_false, not_lt, and_assoc]
    rfl
  · intro c' t b
    rw [show c' = c from ctx 4096]
    refine ite_refused ?_ _
    simp only [named, Bool.and_eq_true, decide_eq_true_eq, bne_iff_ne, ne_eq, not_or, Bool.not_eq_false, not_lt, and_assoc,
      Nat.one_le_iff_ne_zero]
    rfl

theorem accelSwap_clause {s : State} {k : Fin 12} {d : AccelDesc} (h : s.toServe k.val .rebuilder = some d) (hk : d.kind = 8)
    (small : d.n 0x20 1 < 8) (clean : d.paramClean [(0x20, 1)] = true) (used : ((s.casm k.val).ctxAt (d.n 0x20 1)).nsc ≠ 0) :
    ∃ t, exec (.accelSwap k) s = .next t ∧
      (t.casm k.val).ctxAt (d.n 0x20 1) = { (s.casm k.val).ctxAt (d.n 0x20 1) with swap := true } ∧
      (t.casm k.val).queueOf .rebuilder = replaceFirst d { d with asked := true } ((s.casm k.val).queueOf .rebuilder) ∧
      (∀ y, y ≠ d.n 0x20 1 → (t.casm k.val).ctxAt y = (s.casm k.val).ctxAt y) ∧ t.mem = s.mem := by
  refine ⟨_, accelSwap_asks h hk small clean used, ?_, ?_, fun y hy => ?_, rfl⟩
  · rw [casm_modCasm_same]; exact (ctxAt_setCtx ..).trans (if_pos rfl)
  · rw [casm_modCasm_same]; exact (queueOf_setQueue ..).trans (if_pos rfl)
  · rw [casm_modCasm_same]; exact (ctxAt_setCtx ..).trans (if_neg hy)

theorem accelGain_clause {s : State} {k : Fin 12} {d : AccelDesc} (h : s.toServe k.val .gain = some d) (hk : d.kind = 0xB) :
    let past := d.n 0x28 8 ≠ 0 ∧ d.n 0x28 8 < s.time.ns
    (¬gainForm d → exec (.accelGain k) s = .next (s.served k.val .gain d accBad)) ∧
    (gainForm d → past →
      exec (.accelGain k) s = .next ((s.postNotice Code.CH_TIME_PAST 0xFF k.val 0 0 (d.n 2 2)).served k.val .gain d accBad)) ∧
    (gainForm d → ¬past → (s.fePort (d.n 0x20 1)).queue.length < 16 →
      exec (.accelGain k) s =
        .next ((s.queueGain (d.n 0x20 1) (d.n 0x21 1) (d.n 0x22 1) (d.n 0x24 4) (d.n 0x28 8)).served k.val .gain d accOk)) ∧
    (gainForm d → ¬past → 16 ≤ (s.fePort (d.n 0x20 1)).queue.length → exec (.accelGain k) s = .next s) := by
  obtain ⟨bad, past, queued, full⟩ := gainAct_cases s k.val d
  rw [exec_accelGain]
  exact ⟨fun f => congrArg _ (serveNow_serves h hk (bad f)), fun f p => congrArg _ (serveNow_serves h hk (past f p)),
    fun f p r => congrArg _ (serveNow_serves h hk (queued f p r)), fun f p r => congrArg _ (serveNow_waits h hk (full f p r))⟩

/-- Settles O45, function by function. -/
theorem acceleratorsServeDescriptors : Obligations.AcceleratorsServeDescriptors := by
  unfold Obligations.AcceleratorsServeDescriptors
  refine ⟨?_, fun s k u => ⟨accelComplete_nothing, fun d v free hd hv => ?_⟩⟩
  · intro serve
    refine ⟨fun s k e row h => accel_nothing row h, accelCoding_clause, accelMapper_clause, fun s k d h => ⟨fun hk => accelRebuild_serves h hk,
      fun hk => ⟨accelSwap_refused h hk, accelSwap_clause h hk⟩⟩, fun s k x => ?_, fun s k d h hk => ⟨fun st hs ok => ?_, fun bad => ?_⟩,
      fun s k d h hk => ⟨fun st hs ok => ?_, fun bad => ?_⟩, fun s k d h hk => accelGain_clause h hk⟩
    · obtain ⟨ctx, -, -, idle⟩ := boundary_casm s k x
      refine ⟨fun swap full => ctx.trans ?_, fun swap part => ctx.trans ?_, idle⟩
      · exact (if_neg (ne_false_of_eq_true swap)).trans (if_pos full)
      · exact (if_neg (ne_false_of_eq_true swap)).trans (if_neg (ne_true_of_eq_false part))
    · exact congrArg _ (serveNow_serves h hk (onStream_ok _ hs ok))
    · exact congrArg _ (serveNow_serves h hk (onStream_bad _ bad))
    · exact congrArg _ (serveNow_serves h hk (onStream_ok _ hs ok))
    · exact congrArg _ (serveNow_serves h hk (onStream_bad _ bad))
  · intro w₀ w i to_ row
    refine ⟨fun stranger => accelComplete_completes free hd hv (taskTold_stranger u stranger), fun t ht hk => ?_⟩
    obtain ⟨flag, queued, held⟩ := taskTold_own u ht hk
    exact ⟨fun f => accelComplete_completes free hd hv (flag f), fun f r => accelComplete_completes free hd hv (queued f r),
      fun f r => accelComplete_completes free hd hv (held f r)⟩

end Sys2Proof.Machine
end

section
set_option Elab.async false
/-! What leaves the `chain` of the unit as they are. -/

namespace Sys2Proof.Machine

theorem State.retain_chain (s : State) (n) : (s.retain n).chain = s.chain := by
  grind [State.retain, State.setTicket_chain]

theorem State.setIrq_chain (s : State) (i) : (s.setIrq i).chain = s.chain := by
  grind [State.setIrq]

theorem State.postEvent_chain (s : State) (e') : (s.postEvent e').chain = s.chain := by
  grind [State.postEvent, State.retain_chain, State.setIrq_chain]

theorem State.post_chain (s : State) (kind st site obj hi data) : (s.post kind st site obj hi data).chain = s.chain := by
  grind [State.post, State.postEvent_chain]

theorem State.postChain_chain (s : State) (st port ua phys) : (s.postChain st port ua phys).chain = s.chain := by
  grind [State.postChain, State.post_chain]

end Sys2Proof.Machine
end

section
set_option Elab.async false
/-! O51: enumeration, breaks, wraps and gateways. -/

namespace Sys2Proof.Machine

/-! ### The ENUM frame a unit passes on -/

/-- Header of the ENUM frame with its POS changed (R385). -/
def enumHeader (h : BitVec 64) (pos aux : Nat) : BitVec 64 := BitVec.ofNat 64 (h.toNat % 2 ^ 52 + (pos + aux / 1024 * 1024) * 2 ^ 52)

theorem enumHeader_toNat (h : BitVec 64) {pos aux : Nat} (hp : pos < 1024) (ha : aux < 4096) :
    (enumHeader h pos aux).toNat = h.toNat % 2 ^ 52 + (pos + aux / 1024 * 1024) * 2 ^ 52 := by
  rw [enumHeader, BitVec.toNat_ofNat]
  exact Nat.mod_eq_of_lt (by omega)

theorem ChainFrame_aux_lt (f : ChainFrame) : f.aux < 4096 := by
  unfold ChainFrame.aux bits
  exact Nat.mod_lt _ (by decide)

/-- The fields of an ENUM frame with another POS and payload, its CRC made again. -/
theorem enumHeader_fields (f : ChainFrame) {pos : Nat} (hp : pos < 1024) (pay : List Byte) :
    let g := f.modify (enumHeader f.hdr pos f.aux) pay
    bits g.aux 0 10 = pos ∧ bit g.aux 10 = bit f.aux 10 ∧ g.typ = f.typ ∧ g.dst = f.dst ∧ g.src = f.src := by
  intro g
  have num : g.hdr.toNat = f.hdr.toNat % 2 ^ 52 + (pos + f.aux / 1024 * 1024) * 2 ^ 52 := enumHeader_toNat f.hdr hp (ChainFrame_aux_lt f)
  have small := ChainFrame_aux_lt f
  have aux : g.aux = pos + f.aux / 1024 * 1024 := by
    unfold ChainFrame.aux bits at small ⊢
    unfold ChainFrame.aux bits at num
    rw [num]
    omega
  refine ⟨?_, ?_, ?_, ?_, ?_⟩
  · rw [aux]; unfold bits; omega
  · rw [aux]
    unfold bit
    rw [Nat.testBit_eq_decide_div_mod_eq, Nat.testBit_eq_decide_div_mod_eq]
    congr 2
    omega
  · unfold ChainFrame.typ bits; rw [num]; omega
  · unfold ChainFrame.dst bits; rw [num]; congr 1; omega
  · unfold ChainFrame.src bits; rw [num]; congr 1; omega

/-- A word survives its bytes. -/
theorem ofNat_leNat_leBytes {n : Nat} (m : BitVec (8 * n)) : BitVec.ofNat (8 * n) (leNat (leBytes m.toNat n)) = m := by
  refine BitVec.eq_of_toNat_eq ?_
  rw [BitVec.toNat_ofNat, leNat_leBytes, show 256 ^ n = 2 ^ (8 * n) by rw [Nat.pow_mul], Nat.mod_mod, Nat.mod_eq_of_lt m.isLt]

theorem mapOf_mapBytes (m : BitVec 1024) : mapOf (mapBytes m) = m := by
  unfold mapOf mapBytes
  rw [List.take_of_length_le (Nat.le_of_eq (length_leBytes ..))]
  exact ofNat_leNat_leBytes (n := 128) m

theorem getBit_claimed (m : BitVec 1024) (cand : Nat) {p : Nat} (hp : p < 1024) :
    getBit (mapOf (mapBytes (putBit m cand true))) p = (getBit m p || p == cand) := by
  rw [mapOf_mapBytes, getBit_eq, getBit_eq, putBit, if_pos rfl, BitVec.getLsbD_or, BitVec.getLsbD_ofNat, Nat.testBit_two_pow,
    decide_eq_true hp, Bool.true_and]
  exact congrArg _ (decide_eq_decide.mpr eq_comm)

/-! ### Enumeration -/

theorem exec_enumFrame (f : ChainFrame) (s : State) : exec (.enumFrame f) s = execEnumFrame f s := rfl

theorem enumFrame_other {f : ChainFrame} (s : State) (h : f.typ ≠ 0x31) : exec (.enumFrame f) s = .next s := by
  rw [exec_enumFrame, execEnumFrame]
  exact congrArg _ (if_pos h)

theorem enumFrame_back {f : ChainFrame} {s : State} (typ : f.typ = 0x31) (back : s.chain.forwardRx f = false) :
    exec (.enumFrame f) s = .next (({ s with chain := (s.chain.countCrc f).emitBack f } : State).afterCrc f) := by
  rw [exec_enumFrame, execEnumFrame]
  exact congrArg _ ((if_neg (not_not.mpr typ)).trans (if_pos back))

theorem enumFrame_bad {f : ChainFrame} {s : State} (typ : f.typ = 0x31) (fwd : s.chain.forwardRx f = true) (bad : f.valid = false) :
    exec (.enumFrame f) s = .next (({ s with chain := ((s.chain.countCrc f).passOn f).discard } : State).afterCrc f) := by
  rw [exec_enumFrame, execEnumFrame]
  exact congrArg _ ((if_neg (not_not.mpr typ)).trans ((if_neg (ne_false_of_eq_true fwd)).trans (if_pos bad)))

/-- What a unit makes of a good ENUM frame (R390, R392). -/
def State.enumHeard (s : State) (f : ChainFrame) : State :=
  match s.chain.enum with
  | some (tk, ua) => if f.src = ua then s.enumDone f tk else s.enumTwoHeads f
  | none =>
    if s.chain.addressed ∧ f.src = s.chain.ua then s
    else if s.chain.head then s.enumTwoHeads f
    else s.enumTake f

theorem enumFrame_heard {f : ChainFrame} {s : State} (typ : f.typ = 0x31) (good : f.valid = true) (fwd : s.chain.forwardRx f = true) :
    exec (.enumFrame f) s = .next (s.enumHeard f) := by
  rw [exec_enumFrame, execEnumFrame]
  exact congrArg _ ((if_neg (not_not.mpr typ)).trans ((if_neg (ne_false_of_eq_true fwd)).trans (if_neg (ne_false_of_eq_true good))))

theorem enumHeard_under {f : ChainFrame} {s : State} {tk : BitVec 32} {ua : BitVec 18} (h : s.chain.enum = some (tk, ua)) :
    s.enumHeard f = if f.src = ua then s.enumDone f tk else s.enumTwoHeads f := by
  unfold State.enumHeard; rw [h]

theorem enumHeard_none {f : ChainFrame} {s : State} (h : s.chain.enum = none) :
    s.enumHeard f = if s.chain.addressed ∧ f.src = s.chain.ua then s else if s.chain.head then s.enumTwoHeads f else s.enumTake f := by
  unfold State.enumHeard; rw [h]

/-- An enumeration that ends without a result (R390, R392). -/
theorem enumFail_under {s : State} {tk : BitVec 32} {ua : BitVec 18} (st : Status) (h : s.chain.enum = some (tk, ua)) :
    s.enumFail st = ({ s with chain := { s.chain with enum := none } } : State).finish tk st [] := by
  unfold State.enumFail; rw [h]

theorem enumFail_none {s : State} (st : Status) (h : s.chain.enum = none) : s.enumFail st = s := by
  unfold State.enumFail; rw [h]

/-- The unit stops its own enumeration and steps down (R392). -/
def State.stepDown (s : State) (f : ChainFrame) : State :=
  ({ s with chain := { s.chain.emit f with head := false } } : State).postChain Code.CH_TWO_HEADS 0 f.src 0

theorem enumTwoHeads_eq (s : State) (f : ChainFrame) : s.enumTwoHeads f = (s.enumFail Code.CH_TWO_HEADS).stepDown f := rfl

/-- Position a unit asks for (R390, R391). -/
def enumCand (f : ChainFrame) (c : ChainState) : Nat :=
  if bit f.aux 10 && c.sticky && uaSegment c.stickyUa == uaSegment f.src then uaPosition c.stickyUa else bits f.aux 0 10 + 1

/-- The unit may take that position. -/
def enumFree (f : ChainFrame) (c : ChainState) : Bool :=
  !decide (1023 < bits f.aux 0 10 + 1) && !getBit (mapOf f.payload) (enumCand f c)

theorem enumFree_iff (f : ChainFrame) (c : ChainState) :
    enumFree f c = true ↔ bits f.aux 0 10 + 1 ≤ 1023 ∧ getBit (mapOf f.payload) (enumCand f c) = false := by
  simp [enumFree]

/-- The ENUM frame as the unit passes it on (R390). -/
def enumPassed (f : ChainFrame) (c : ChainState) : ChainFrame :=
  f.modify (enumHeader f.hdr (min (bits f.aux 0 10 + 1) 1023) f.aux)
    (if enumFree f c then mapBytes (putBit (mapOf f.payload) (enumCand f c) true) else f.payload)

/-- The unit with its position, the frame passed on. -/
def State.enumTaken (s : State) (f : ChainFrame) : State :=
  let c := s.chain
  let ua := if enumFree f c then uaOf (uaSegment f.src) (enumCand f c) else uaNone
  { s with chain := ({ c with
      ua := ua
      phys := BitVec.ofNat 16 (bits f.aux 0 10 + 1)
      stickyUa := if enumFree f c && c.sticky then ua else c.stickyUa } : ChainState).emit (enumPassed f c) }

theorem enumTake_eq (s : State) (f : ChainFrame) :
    s.enumTake f = if enumFree f s.chain then s.enumTaken f
      else (s.enumTaken f).reportNoAddress f.src
        (if decide (1023 < bits f.aux 0 10 + 1) then Code.CH_ENUM_INCOMPLETE else Code.CH_ADDR_CONFLICT) (bits f.aux 0 10 + 1) := rfl

/-- A unit that takes its position, or none, and passes the frame on (R390, R391). -/
theorem enumTake_clause {f : ChainFrame} (s : State) (good : f.valid = true) :
    let c := s.chain
    let q := bits f.aux 0 10 + 1
    let m := mapOf f.payload
    let ok := q ≤ 1023 ∧ getBit m (enumCand f c) = false
    let ua : BitVec 18 := if ok then uaOf (uaSegment f.src) (enumCand f c) else uaNone
    ∃ (v : State) (g : ChainFrame), v = { s with chain := v.chain } ∧
      v.chain = ({ c with ua := ua, phys := BitVec.ofNat 16 q, stickyUa := if ok ∧ c.sticky = true then ua else c.stickyUa } : ChainState).emit g ∧
      bits g.aux 0 10 = min q 1023 ∧ bit g.aux 10 = bit f.aux 10 ∧ g.crcOk = true ∧ g.typ = f.typ ∧ g.dst = f.dst ∧ g.src = f.src ∧
      (ok → ∀ p, p < 1024 → getBit (mapOf g.payload) p = (getBit m p || p == enumCand f c)) ∧ (¬ok → g.payload = f.payload) ∧
      s.enumTake f = if ok then v
        else v.reportNoAddress f.src (if 1023 < q then Code.CH_ENUM_INCOMPLETE else Code.CH_ADDR_CONFLICT) q := by
  intro c q m ok ua
  have free : (enumFree f c = true) = ok := propext (enumFree_iff f c)
  have crc : f.crcOk = true := by
    unfold ChainFrame.valid at good
    rw [Bool.and_eq_true] at good
    exact good.2
  obtain ⟨pos, keep, typ, dst, src⟩ := enumHeader_fields f (pos := min q 1023) (by omega)
    (if enumFree f c then mapBytes (putBit (mapOf f.payload) (enumCand f c) true) else f.payload)
  refine ⟨s.enumTaken f, enumPassed f c, rfl, ?_, pos, keep, (crcOk_modify ..).mpr crc, typ, dst, src, fun h p hp => ?_, fun h => ?_, ?_⟩
  · have taken : (if enumFree f c then uaOf (uaSegment f.src) (enumCand f c) else uaNone) = ua := if_congr (enumFree_iff f c) rfl rfl
    have kept : (if enumFree f c && c.sticky then ua else c.stickyUa) = if ok ∧ c.sticky = true then ua else c.stickyUa :=
      if_congr (by rw [Bool.and_eq_true, free]) rfl rfl
    rw [← kept, ← taken]
    rfl
  · have payload : (enumPassed f c).payload = mapBytes (putBit m (enumCand f c) true) := if_pos (free ▸ h)
    rw [payload]
    exact getBit_claimed m _ hp
  · exact if_neg (free ▸ h)
  · rw [enumTake_eq]
    by_cases h : ok
    · rw [if_pos h]; exact if_pos (free ▸ h)
    · rw [if_neg h]
      refine (if_neg (free ▸ h)).trans ?_
      congr 1
      exact if_congr decide_eq_true_iff rfl rfl

/-! ### Breaks -/

theorem breakReport_broken (s : State) (ua : BitVec 18) (port phys : Nat) :
    let c := s.chain
    let u : State := { s with chain := { c with breaks := (c.breaks.filter fun r => !(r.1 == ua && r.2.1 == port)) ++ [(ua, port, phys)] } }
    let v := u.postChain Code.CH_CHAIN_BREAK port ua phys
    s.breakReport ua port phys true =
      if 2 ≤ u.chain.cuts.length ∧ c.cuts.length < u.chain.cuts.length then
        v.post 0x09 Code.CH_CHAIN_SPLIT 0xFF port 0
          (leBytes ua.toNat 4 ++ leBytes phys 2 ++ leBytes 0 2 ++ leBytes u.chain.reach.1 2 ++ leBytes u.chain.reach.2 2)
      else v := by
  intro c u v
  have chain : v.chain = u.chain := State.postChain_chain ..
  unfold State.breakReport
  refine (if_pos rfl).trans ?_
  change (if 2 ≤ v.chain.cuts.length ∧ c.cuts.length < v.chain.cuts.length then
    v.post 0x09 Code.CH_CHAIN_SPLIT 0xFF port 0
      (leBytes ua.toNat 4 ++ leBytes phys 2 ++ leBytes 0 2 ++ leBytes v.chain.reach.1 2 ++ leBytes v.chain.reach.2 2)
    else v) = _
  rw [chain]

theorem tellHead_unaddressed {s : State} (port : Nat) (b : Bool) (h : s.chain.addressed = false) : s.tellHead port b = s := if_pos h

theorem tellHead_head {s : State} (port : Nat) (b : Bool) (h : s.chain.addressed = true) (head : s.chain.head = true) :
    s.tellHead port b = s.breakReport s.chain.ua port s.chain.phys.toNat b :=
  (if_neg (ne_false_of_eq_true h)).trans (if_pos head)

theorem tellHead_sends {s : State} (port : Nat) (b : Bool) (h : s.chain.addressed = true) (other : s.chain.head = false) :
    s.tellHead port b =
      s.send (s.frame 0x38 (uaOf (uaSegment s.chain.ua) 0) (port + (if b then 2 else 0)) (leBytes s.chain.phys.toNat 8)) := by
  refine (if_neg (ne_false_of_eq_true h)).trans ((if_neg (ne_true_of_eq_false other)).trans ?_)
  cases b with
  | true => rfl
  | false => rfl

theorem exec_portHeal (p : ChainPort) (s : State) : exec (.portHeal p) s = execPortHeal p s := rfl
theorem exec_breakIdleEnd (p : ChainPort) (s : State) : exec (.breakIdleEnd p) s = execBreakIdleEnd p s := rfl

theorem portHeal_clause (s : State) (p : ChainPort) :
    let x := s.chain.port p
    (x.broken = false ∨ x.idling = true ∨ x.lock = false ∨ x.healed < 16 → exec (.portHeal p) s = .next s) ∧
    (x.broken = true → x.idling = false → x.lock = true → 16 ≤ x.healed →
      ((∃ n, n < 16 ∧ s.chainHinged n = true) → exec (.portHeal p) s = .next { s with chain := { s.chain with unwrapWait := true } }) ∧
      ((∀ n, n < 16 → s.chainHinged n = false) →
        let c := s.chain.setPort p { x with broken := false, healed := 0 }
        exec (.portHeal p) s = .next (({ s with chain := { c with unwrapWait := false } } : State).tellHead (portNum p) false))) := by
  intro x
  rw [exec_portHeal, execPortHeal]
  refine ⟨fun wait => congrArg _ (if_pos wait), fun broken idle lock healed => ?_⟩
  have heals : ¬(x.broken = false ∨ x.idling = true ∨ x.lock = false ∨ x.healed < 16) := by
    simp [broken, idle, lock, healed]
  refine ⟨fun ⟨n, hn, held⟩ => ?_, fun free => ?_⟩
  · exact congrArg _ ((if_neg heals).trans (if_pos (List.any_eq_true.mpr ⟨n, List.mem_range.mpr hn, held⟩)))
  · refine congrArg _ ((if_neg heals).trans (if_neg ?_))
    rw [List.any_eq_true]
    rintro ⟨n, hn, held⟩
    exact ne_true_of_eq_false (free n (List.mem_range.mp hn)) held

/-! ### Gateways -/

theorem hasPeer_iff (c : ChainState) (p : Nat) : c.hasPeer p = true ↔ c.gw.isSome = true ∧ (tget none c.peers p).isSome = true := by
  unfold ChainState.hasPeer
  rw [Bool.and_eq_true]

theorem hasPeer_eq_false {c : ChainState} {p : Nat} (h : ¬(c.gw.isSome = true ∧ (tget none c.peers p).isSome = true)) : c.hasPeer p = false :=
  eq_false_of_ne_true fun yes => h ((hasPeer_iff c p).mp yes)

theorem exec_gatewayCheck (peer : BitVec 8) (s : State) : exec (.gatewayCheck peer) s = execGatewayCheck peer s := rfl
theorem exec_gatewayPeerTimeout (peer : BitVec 8) (s : State) : exec (.gatewayPeerTimeout peer) s = execGatewayPeerTimeout peer s := rfl
theorem exec_gatewayDatagram (peer : BitVec 8) (f : ChainFrame) (s : State) :
    exec (.gatewayDatagram peer f) s = execGatewayDatagram peer f s := rfl
theorem exec_arpRequest (ip : BitVec 32) (s : State) : exec (.arpRequest ip) s = execArpRequest ip s := rfl

/-- What a gateway makes of a peer's datagram (R399). -/
def State.datagramHeard (s : State) (p : Nat) (f : ChainFrame) : State :=
  let s := s.peerUp p
  if f = checkFrame false then s.datagram p (checkFrame true)
  else if f = checkFrame true then s
  else if uaSegment f.src = uaSegment s.chain.ua ∨ p = uaSegment s.chain.ua then s.conflict p
  else if s.chain.segConflict.contains p ∨ gatewayType f.typ = false ∨ eventLeaves f = false then s
  else { s with chain := s.chain.emit (f.mark false) }

theorem gatewayDatagram_heard {s : State} {peer : BitVec 8} (f : ChainFrame) (h : s.chain.hasPeer peer.toNat = true) :
    exec (.gatewayDatagram peer f) s = .next (s.datagramHeard peer.toNat f) := by
  rw [exec_gatewayDatagram, execGatewayDatagram]
  exact congrArg _ (if_neg (ne_false_of_eq_true h))

/-- Frames that a gateway carries into its segment (R399). -/
theorem gatewayCarries_iff (f : ChainFrame) :
    (gatewayType f.typ = true ∧ eventLeaves f = true) ↔ (f.typ ∈ [0x32, 0x33] ∨ f.typ = 0x35 ∧ fld f.payload 0 1 ≤ 2) := by
  have leaves : eventLeaves f = true ↔ (f.typ ≠ 0x35 ∨ fld f.payload 0 1 ≤ 2) := by
    simp [eventLeaves, ftEvent]
  have types : gatewayType f.typ = true ↔ (f.typ = 0x32 ∨ f.typ = 0x33 ∨ f.typ = 0x35) := by
    simp [gatewayType, ftMbx, ftMbxAck, ftEvent, or_assoc]
  rw [leaves, types, List.mem_cons, List.mem_singleton]
  generalize f.typ = t
  omega

theorem datagramHeard_clause (s : State) (p : Nat) (f : ChainFrame) :
    let u : State := { s with chain := { s.chain with peerDown := s.chain.peerDown.filter (· != p) } }
    let same := uaSegment f.src = uaSegment s.chain.ua ∨ p = uaSegment s.chain.ua
    (f = checkFrame false → s.datagramHeard p f = { u with chain := { u.chain with datagrams := (p, checkFrame true) :: u.chain.datagrams } }) ∧
    (f = checkFrame true → s.datagramHeard p f = u) ∧
    (f ≠ checkFrame false → f ≠ checkFrame true →
      (same → s.datagramHeard p f = if p ∈ s.chain.segConflict then u else
        ({ u with chain := { u.chain with segConflict := u.chain.segConflict ++ [p] } } : State).postChain Code.CH_SEGMENT_CONFLICT 0 (uaOf p 0) 0) ∧
      (¬same →
        let carried := p ∉ s.chain.segConflict ∧ (f.typ ∈ [0x32, 0x33] ∨ f.typ = 0x35 ∧ fld f.payload 0 1 ≤ 2)
        (carried → s.datagramHeard p f = { u with chain := u.chain.emit (f.mark false) }) ∧
        (¬carried → s.datagramHeard p f = u))) := by
  intro u same
  have checks : checkFrame true ≠ checkFrame false := fun h => absurd (congrArg ChainFrame.hdr h) (by decide)
  refine ⟨fun ask => if_pos ask, fun answer => (if_neg (by rw [answer]; exact checks)).trans (if_pos answer), fun ask answer => ?_⟩
  have data {t : State} (h : (if same then u.conflict p
      else if u.chain.segConflict.contains p ∨ gatewayType f.typ = false ∨ eventLeaves f = false then u
      else { u with chain := u.chain.emit (f.mark false) }) = t) : s.datagramHeard p f = t :=
    (if_neg ask).trans ((if_neg answer).trans h)
  refine ⟨fun twin => data ((if_pos twin).trans ?_), fun other => ?_⟩
  · exact if_congr List.contains_iff_mem rfl rfl
  · intro carried
    have drops : (u.chain.segConflict.contains p ∨ gatewayType f.typ = false ∨ eventLeaves f = false) ↔ ¬carried := by
      have types := gatewayCarries_iff f
      rw [show carried = (p ∉ s.chain.segConflict ∧ _) from rfl, ← types, List.contains_iff_mem, not_and_or, not_and_or, not_not,
        Bool.not_eq_true, Bool.not_eq_true]
    refine ⟨fun go => data ((if_neg other).trans (if_neg fun d => drops.mp d go)), fun stay => data ((if_neg other).trans (if_pos (drops.mpr stay)))⟩

theorem gateway_clause (s : State) (peer : BitVec 8) (f : ChainFrame) :
    let p := peer.toNat
    let has := s.chain.gw.isSome = true ∧ (tget none s.chain.peers p).isSome = true
    (¬has → exec (.gatewayCheck peer) s = .next s ∧ exec (.gatewayPeerTimeout peer) s = .next s ∧ exec (.gatewayDatagram peer f) s = .next s) ∧
    (has → exec (.gatewayCheck peer) s = .next { s with chain := { s.chain with datagrams := (p, checkFrame false) :: s.chain.datagrams } }) ∧
    (has → p ∈ s.chain.peerDown → exec (.gatewayPeerTimeout peer) s = .next s) ∧
    (has → p ∉ s.chain.peerDown → exec (.gatewayPeerTimeout peer) s =
      .next (({ s with chain := { s.chain with peerDown := s.chain.peerDown ++ [p] } } : State).postChain Code.CH_GATEWAY_DOWN 0 (uaOf p 0) 0)) := by
  intro p has
  rw [exec_gatewayCheck, execGatewayCheck, exec_gatewayPeerTimeout, execGatewayPeerTimeout, exec_gatewayDatagram, execGatewayDatagram]
  refine ⟨fun h => ?_, fun h => congrArg _ (if_pos ((hasPeer_iff ..).mpr h)), fun h down => ?_, fun h up => ?_⟩
  · have none_ := hasPeer_eq_false h
    exact ⟨congrArg _ (if_neg (ne_true_of_eq_false none_)), congrArg _ (if_pos (Or.inl none_)), congrArg _ (if_pos none_)⟩
  · exact congrArg _ (if_pos (Or.inr (List.contains_iff_mem.mpr down)))
  · refine congrArg _ (if_neg ?_)
    rintro (none_ | down)
    · exact ne_false_of_eq_true ((hasPeer_iff ..).mpr h) none_
    · exact up (List.contains_iff_mem.mp down)

theorem arpRequest_clause (s : State) (ip : BitVec 32) :
    (∀ port, s.chain.gw = some (ip, port) → exec (.arpRequest ip) s = .next { s with chain := { s.chain with arp := ip :: s.chain.arp } }) ∧
    ((∀ port, s.chain.gw ≠ some (ip, port)) → exec (.arpRequest ip) s = .next s) := by
  rw [exec_arpRequest, execArpRequest]
  cases hg : s.chain.gw with
  | none => exact ⟨fun port h => absurd h.symm (Option.some_ne_none _), fun _ => rfl⟩
  | some g =>
    obtain ⟨a, b⟩ := g
    refine ⟨fun port h => ?_, fun h => congrArg _ (if_neg fun same => h b (by rw [same]))⟩
    cases h
    exact congrArg _ (if_pos rfl)

/-- Settles O51, row by row. -/
theorem segmentsAreNumberedWrappedAndJoined : Obligations.SegmentsAreNumberedWrappedAndJoined := by
  unfold Obligations.SegmentsAreNumberedWrappedAndJoined
  refine ⟨⟨fun s f => ?_, fun s => ⟨fun h => congrArg _ (enumFail_none _ h), fun tk ua h => congrArg _ (enumFail_under _ h)⟩⟩,
    fun s port phys ua b => ?_, fun s p => ?_, fun s peer f => ?_, arpRequest_clause⟩
  · intro c q m seg twoHeads
    refine ⟨enumFrame_other s, enumFrame_back, enumFrame_bad, fun typ good fwd => ?_⟩
    have heard {t : State} (h : s.enumHeard f = t) : exec (.enumFrame f) s = .next t := (enumFrame_heard typ good fwd).trans (congrArg _ h)
    refine ⟨fun tk ua under => ⟨fun own => heard ((enumHeard_under under).trans (if_pos own)), fun other => heard ?_⟩,
      fun none_ addr own => heard ((enumHeard_none none_).trans (if_pos ⟨addr, own⟩)), fun none_ foreign => ?_⟩
    · refine (enumHeard_under under).trans ((if_neg other).trans ?_)
      rw [enumTwoHeads_eq, enumFail_under _ under]
      rfl
    · have notOwn : ¬(s.chain.addressed = true ∧ f.src = s.chain.ua) := by
        rintro ⟨addr, own⟩
        exact foreign.elim (ne_false_of_eq_true addr) (fun ne => ne own)
      refine ⟨fun head => heard ((enumHeard_none none_).trans ((if_neg notOwn).trans ((if_pos head).trans ?_))), fun follower => ?_⟩
      · rw [enumTwoHeads_eq, enumFail_none _ none_]
        rfl
      · intro cand ok ua
        obtain ⟨v, g, only, chain, pos, keep, crc, ty, dst, src, claimed, kept, takes⟩ := enumTake_clause s good
        exact ⟨v, g, only, chain, pos, keep, crc, ty, dst, src, claimed, kept,
          heard ((enumHeard_none none_).trans ((if_neg notOwn).trans ((if_neg (ne_true_of_eq_false follower)).trans takes)))⟩
  · exact ⟨breakReport_broken s ua port phys, rfl, tellHead_unaddressed port b, tellHead_head port b, tellHead_sends port b⟩
  · intro x
    obtain ⟨waits, heals⟩ := portHeal_clause s p
    refine ⟨fun broken => congrArg _ (if_pos broken), fun whole => congrArg _ (if_neg (ne_true_of_eq_false whole)),
      fun idle => ?_, fun busy => ?_, waits, heals⟩
    · rw [exec_breakIdleEnd, execBreakIdleEnd]; exact congrArg _ (if_pos idle)
    · rw [exec_breakIdleEnd, execBreakIdleEnd]; exact congrArg _ (if_neg (ne_true_of_eq_false busy))
  · intro p has u same
    obtain ⟨none_, check, down, up⟩ := gateway_clause s peer f
    obtain ⟨ask, answer, data⟩ := datagramHeard_clause s p f
    have heard {t : State} (h : has) (e : s.datagramHeard p f = t) : exec (.gatewayDatagram peer f) s = .next t :=
      (gatewayDatagram_heard f ((hasPeer_iff ..).mpr h)).trans (congrArg _ e)
    refine ⟨none_, check, down, up, fun h e => heard h (ask e), fun h e => heard h (answer e), fun h e e' => ?_⟩
    obtain ⟨twin, other⟩ := data e e'
    exact ⟨fun t => heard h (twin t), fun t => ⟨fun go => heard h ((other t).1 go), fun stay => heard h ((other t).2 stay)⟩⟩

end Sys2Proof.Machine
end

section
set_option Elab.async false
/-! Ring requests at their targets, answers at their requesters, and the drain of a stop. -/

namespace Sys2Proof.Machine

/-- What holds a request back whatever its row is: it is still on its way, behind another, or behind a fill. -/
abbrev State.requestIdle (s : State) (id : Nat) (w : Worm) : Prop :=
  w.place ≠ .target ∨ s.turn w = false ∨ s.mem.held.any (fun h => h.worm == id) = true

/-! ### A target performs a request -/

theorem perform_read (s : State) {w : Worm} (h : w.typ = 0) :
    s.perform w =
      let r := s.memRead w.addr.toNat (64 * max 1 w.len)
      r.2.2.putWorm (w.answer 8 (if r.2.1 then Code.DI_POISON_READ else Code.ST_OK)
        ((List.range (max 1 w.len)).map fun j => BitVec.ofNat 512 (fld r.1 (64 * j) 64))) := by
  unfold State.perform
  rw [h]
  rfl

theorem perform_write (s : State) {w : Worm} (h : w.typ = 1) :
    s.perform w = (s.memWriteBE w.addr.toNat w.enabled).putWorm (w.answer 9 Code.ST_OK []) := by
  unfold State.perform
  rw [h]
  rfl

/-- What a target makes of an atomic whose address its operation allows: the old value goes back, or poison. -/
def State.atomicAnswer (s : State) (w : Worm) (op : AtomicOp) : State :=
  let r := s.memRead w.addr.toNat op.size
  if r.2.1 then r.2.2.putWorm (w.answer 10 Code.DI_POISON_READ [])
  else (r.2.2.memWriteBE w.addr.toNat (op.apply r.1 (w.payload.headD 0) w.be)).putWorm
    (w.answer 8 Code.ST_OK [BitVec.ofNat 512 (leNat r.1)])

theorem answer_atomic (s : State) (w : Worm) {op : AtomicOp}
    (h : ¬(w.addr.toNat % op.align ≠ 0 ∨ (op = .swap ∧ isDdr w.addr.toNat = true))) :
    (let r := s.atomic op w.addr.toNat (w.payload.headD 0) w.be
     r.2.2.putWorm (if r.1 = Code.ST_OK then w.answer 8 r.1 [r.2.1] else w.answer 10 r.1 [])) = s.atomicAnswer w op := by
  unfold State.atomic State.atomicAnswer
  rw [if_neg h]
  generalize s.memRead w.addr.toNat op.size = r
  obtain ⟨old, bad, u⟩ := r
  cases bad with
  | true => simp
  | false => simp

/-- An atomic of TYPE 2 to 5 that is not bad has an address its operation allows. -/
theorem allowed_of_not_badAtomic {w : Worm} (h2 : 2 ≤ w.typ.toNat) (h5 : w.typ.toNat ≤ 5) (h : w.badAtomic = false) :
    ¬(w.addr.toNat % (atomicOf w.typ.toNat).align ≠ 0 ∨ (atomicOf w.typ.toNat = .swap ∧ isDdr w.addr.toNat = true)) := by
  have swap : atomicOf w.typ.toNat = .swap → w.typ = 4 := by
    intro e
    have cases : w.typ.toNat = 2 ∨ w.typ.toNat = 3 ∨ w.typ.toNat = 4 ∨ w.typ.toNat = 5 := by omega
    rcases cases with k | k | k | k <;> rw [k] at e
    case inr.inr.inl => exact BitVec.eq_of_toNat_eq k
    all_goals cases e
  simp only [Worm.badAtomic, h2, decide_true, Bool.true_and, Bool.or_eq_false_iff, bne_eq_false_iff_eq, Bool.and_eq_false_iff,
    beq_eq_false_iff_ne] at h
  rintro (e | ⟨e, d⟩)
  · exact e h.1
  · rcases h.2 with k | k
    · exact k (swap e)
    · rw [k] at d
      cases d

theorem perform_atomic (s : State) {w : Worm} (h2 : 2 ≤ w.typ.toNat) (h4 : w.typ.toNat ≤ 4) (hw : w.badAtomic = false) :
    s.perform w = s.atomicAnswer w (atomicOf w.typ.toNat) := by
  rw [← answer_atomic s w (allowed_of_not_badAtomic h2 (by omega) hw)]
  unfold State.perform
  have cases : w.typ.toNat = 2 ∨ w.typ.toNat = 3 ∨ w.typ.toNat = 4 := by omega
  rcases cases with k | k | k <;> rw [k] <;> rfl

/-- An OR is done in one access in DDR, and where a word of its block is bad. -/
abbrev State.orWhole (s : State) (w : Worm) : Prop :=
  isDdr w.addr.toNat = true ∨ (w.half = none ∧ (List.range 8).any (fun i => s.mem.wordBad (w.addr.toNat / 8 + i)) = true)

theorem perform_or (s : State) {w : Worm} (h : w.typ.toNat = 5) : s.perform w = s.performOr w := by
  unfold State.perform
  rw [h]
  rfl

theorem perform_or_whole (s : State) {w : Worm} (h : w.typ.toNat = 5) (hw : w.badAtomic = false) (whole : s.orWhole w) :
    s.perform w = s.atomicAnswer w (atomicOf w.typ.toNat) := by
  rw [← answer_atomic s w (allowed_of_not_badAtomic (by omega) (by omega) hw), perform_or s h, h]
  unfold State.performOr
  simp only [Option.isNone_iff_eq_none]
  exact if_pos whole

theorem perform_or_half (s : State) {w : Worm} (h : w.typ.toNat = 5) (whole : ¬s.orWhole w) :
    s.perform w =
      let r := s.orHalf w.half.isSome w.addr.toNat (w.payload.headD 0) w.be
      if r.2.1 then r.2.2.putWorm (w.answer 10 Code.DI_POISON_READ [])
      else match w.half with
        | none => r.2.2.putWorm { w with half := some r.1 }
        | some lo => r.2.2.putWorm (w.answer 8 Code.ST_OK [r.1 ++ lo]) := by
  rw [perform_or s h]
  unfold State.performOr
  simp only [Option.isNone_iff_eq_none]
  exact if_neg whole

/-! ### A request row -/

theorem serve_guard_false {s : State} {id : Nat} {w : Worm} (due : ¬s.requestIdle id w) :
    ¬(w.place ≠ .target ∨ w.typ.toNat ≠ w.typ.toNat ∨ s.turn w = false ∨ s.mem.held.any (fun h => h.worm == id) = true) := by
  rintro (h | h | h)
  · exact due (.inl h)
  · exact h rfl
  · exact due (.inr h)

section
variable {s : State} {id : Nat} {w : Worm} (found : s.worm id = some w)
include found

theorem serve_of_idle {k : Nat} (h : s.requestIdle id w ∨ k ≠ w.typ.toNat) : s.serve id k = s := by
  unfold State.serve
  simp only [found]
  refine if_pos ?_
  rcases h with (h | h | h) | h
  · exact .inl h
  · exact .inr (.inr (.inl h))
  · exact .inr (.inr (.inr h))
  · exact .inr (.inl (Ne.symm h))

section
variable (due : ¬s.requestIdle id w)
include due

theorem serve_noAccess_running (h : s.mayReach w = false) {n : Nat} (src : w.src < 64) (site : s.siteOf w.src = some n)
    (running : (s.site n).state = .running) :
    s.serve id w.typ.toNat =
      (s.putWorm (w.answer 10 Code.ST_ACCESS_REFUSED [])).faultNow n (faultOf Code.TF_SITE_BOUNDS w.src 0xFF 0 w.addr.toNat) := by
  unfold State.serve
  simp only [found]
  refine (if_neg (serve_guard_false due)).trans ((if_pos h).trans ?_)
  have site' : (s.putWorm (w.answer 10 Code.ST_ACCESS_REFUSED [])).siteOf w.src = some n := site
  rw [if_pos src, site']
  exact if_pos running

theorem serve_noAccess (h : s.mayReach w = false)
    (idle : ∀ n, w.src < 64 → s.siteOf w.src = some n → (s.site n).state ≠ .running) :
    s.serve id w.typ.toNat = s.putWorm (w.answer 10 Code.ST_ACCESS_REFUSED []) := by
  unfold State.serve
  simp only [found]
  refine (if_neg (serve_guard_false due)).trans ((if_pos h).trans ?_)
  by_cases src : w.src < 64
  · rw [if_pos src]
    cases site : s.siteOf w.src with
    | none =>
      have site' : (s.putWorm (w.answer 10 Code.ST_ACCESS_REFUSED [])).siteOf w.src = none := site
      rw [site']
    | some n =>
      have site' : (s.putWorm (w.answer 10 Code.ST_ACCESS_REFUSED [])).siteOf w.src = some n := site
      rw [site']
      exact if_neg (idle n src site)
  · rw [if_neg src]

section
variable (reach : s.mayReach w = true)
include reach

theorem serve_of_reach :
    s.serve id w.typ.toNat =
      if s.unmapped w then s.putWorm (w.answer 10 Code.ST_ADDR_UNMAPPED [])
      else if w.badAtomic then s.putWorm (w.answer 10 Code.ST_BAD_PARAM [])
      else if s.padWaits w then s
      else if s.waitsFill w then
        if s.fillsFull w then s
        else { s with mem := { s.mem with
          fills := if s.mem.fills.contains (w.addr.toNat / 65536) then s.mem.fills else s.mem.fills ++ [w.addr.toNat / 65536]
          held := s.mem.held ++ [{ region := w.addr.toNat / 65536, worm := id }] } }
      else (s.perform w).padTakes w := by
  unfold State.serve
  simp only [found]
  exact (if_neg (serve_guard_false due)).trans (if_neg (ne_false_of_eq_true reach))

theorem serve_unmapped (h : s.unmapped w = true) : s.serve id w.typ.toNat = s.putWorm (w.answer 10 Code.ST_ADDR_UNMAPPED []) :=
  (serve_of_reach found due reach).trans (if_pos h)

section
variable (mapped : s.unmapped w = false)
include mapped

theorem serve_badAtomic (h : w.badAtomic = true) : s.serve id w.typ.toNat = s.putWorm (w.answer 10 Code.ST_BAD_PARAM []) := by
  rw [serve_of_reach found due reach, if_neg (ne_true_of_eq_false mapped), if_pos h]

section
variable (good : w.badAtomic = false)
include good

theorem serve_padWaits (h : s.padWaits w = true) : s.serve id w.typ.toNat = s := by
  rw [serve_of_reach found due reach, if_neg (ne_true_of_eq_false mapped), if_neg (ne_true_of_eq_false good), if_pos h]

section
variable (port : s.padWaits w = false)
include port

theorem serve_waitsFill (h : s.waitsFill w = true) :
    s.serve id w.typ.toNat =
      if s.fillsFull w then s
      else { s with mem := { s.mem with
        fills := if s.mem.fills.contains (w.addr.toNat / 65536) then s.mem.fills else s.mem.fills ++ [w.addr.toNat / 65536]
        held := s.mem.held ++ [{ region := w.addr.toNat / 65536, worm := id }] } } := by
  rw [serve_of_reach found due reach, if_neg (ne_true_of_eq_false mapped), if_neg (ne_true_of_eq_false good),
    if_neg (ne_true_of_eq_false port), if_pos h]

theorem serve_perform (h : s.waitsFill w = false) : s.serve id w.typ.toNat = (s.perform w).padTakes w := by
  rw [serve_of_reach found due reach, if_neg (ne_true_of_eq_false mapped), if_neg (ne_true_of_eq_false good),
    if_neg (ne_true_of_eq_false port), if_neg (ne_true_of_eq_false h)]

end
end
end
end
end
end

theorem serve_of_no_worm {s : State} {id : Nat} (h : s.worm id = none) (k : Nat) : s.serve id k = s := by
  unfold State.serve
  simp only [h]

/-! ### An answer row -/

theorem deliverRow_of_idle {s : State} {id k : Nat}
    (h : ∀ w, s.worm id = some w → w.place ≠ .target ∨ w.typ.toNat ≠ k ∨ s.turn w = false) : s.deliverRow id k = s := by
  unfold State.deliverRow
  cases found : s.worm id with
  | none => rfl
  | some w => exact if_pos (h w found)

theorem deliverRow_of_turn {s : State} {id : Nat} {w : Worm} (found : s.worm id = some w) (place : w.place = .target)
    (turn : s.turn w = true) : s.deliverRow id w.typ.toNat = s.deliver w := by
  unfold State.deliverRow
  simp only [found]
  refine if_neg ?_
  rintro (h | h | h)
  · exact h place
  · exact h rfl
  · rw [turn] at h
    cases h

theorem deliver_ctl (s : State) {w : Worm} (h : w.owner = .ctl) : s.deliver w = s.dropWorm w.id := by
  unfold State.deliver
  rw [h]

theorem deliver_spill (s : State) {w : Worm} {i : Nat} (h : w.owner = .spill i) (typ : w.typ = 8 ∨ w.typ = 9) :
    s.deliver w = s.dropWorm w.id := by
  unfold State.deliver
  rw [h]
  refine if_neg ?_
  rcases typ with k | k <;> rw [k] <;> decide

/-! ### The drain of a stop -/

theorem exec_stopDrainDone (s : State) (k : Fin 82) : exec (.stopDrainDone k) s = execStopDrainDone k s := rfl

theorem exec_stopDrainTimeout (s : State) (k : Fin 82) : exec (.stopDrainTimeout k) s = execStopDrainTimeout k s := rfl

theorem exec_stopReconfigRetry (s : State) (k : Fin 82) : exec (.stopReconfigRetry k) s = execStopReconfigRetry k s := rfl

section
variable {s : State} {k : Fin 82} {a : Nat} (draining : (s.stop k.val).drain = .draining a)
include draining

theorem stopDrainDone_of_draining :
    exec (.stopDrainDone k) s =
      .next (if s.stopEmpty k.val then
        s.setStop k.val { s.stop k.val with active := (s.stop k.val).shadow, shadow := (s.stop k.val).active, drain := .idle, owner := none }
      else s) := by
  rw [exec_stopDrainDone, execStopDrainDone]
  simp only [draining]

theorem stopDrainTimeout_of_draining :
    exec (.stopDrainTimeout k) s =
      .next (s.setStop k.val { s.stop k.val with drain := if a < 8 then .waiting a else .failed }) := by
  rw [exec_stopDrainTimeout, execStopDrainTimeout]
  simp only [draining]

theorem stopDrainDone_swaps (empty : s.stopEmpty k.val = true) :
    ∃ t, exec (.stopDrainDone k) s = .next t ∧ (t.stop k.val).active = (s.stop k.val).shadow ∧
      (t.stop k.val).shadow = (s.stop k.val).active ∧ (t.stop k.val).drain = .idle ∧ (t.stop k.val).spent1 = (s.stop k.val).spent1 ∧
      (t.stop k.val).spent2 = (s.stop k.val).spent2 ∧ ∀ j, j ≠ k.val → t.stop j = s.stop j := by
  refine ⟨_, (stopDrainDone_of_draining draining).trans (congrArg _ (if_pos empty)), ?_⟩
  simp only [State.stop_setStop, if_true, true_and]
  exact fun j hj => if_neg hj

end

theorem stopDrain_of_not_draining {s : State} {k : Fin 82} (h : ∀ a, (s.stop k.val).drain ≠ .draining a) :
    exec (.stopDrainDone k) s = .next s ∧ exec (.stopDrainTimeout k) s = .next s := by
  rw [exec_stopDrainDone, execStopDrainDone, exec_stopDrainTimeout, execStopDrainTimeout]
  cases drain : (s.stop k.val).drain with
  | draining a => exact absurd drain (h a)
  | idle => simp only [drain, and_self]
  | waiting a => simp only [drain, and_self]
  | failed => simp only [drain, and_self]

theorem stopReconfigRetry_of_waiting {s : State} {k : Fin 82} {a : Nat} (h : (s.stop k.val).drain = .waiting a) :
    exec (.stopReconfigRetry k) s = .next (s.setStop k.val { s.stop k.val with drain := .draining (a + 1) }) := by
  rw [exec_stopReconfigRetry, execStopReconfigRetry]
  simp only [h]

theorem stopReconfigRetry_of_not_waiting {s : State} {k : Fin 82} (h : ∀ a, (s.stop k.val).drain ≠ .waiting a) :
    exec (.stopReconfigRetry k) s = .next s := by
  rw [exec_stopReconfigRetry, execStopReconfigRetry]
  cases drain : (s.stop k.val).drain with
  | waiting a => exact absurd drain (h a)
  | idle => simp only [drain]
  | draining a => simp only [drain]
  | failed => simp only [drain]

/-- Settles O19: each request is followed through the checks of `State.serve`, and the performed ones through `State.perform`. -/
theorem ringRequestsArePerformedAndAnswered : Obligations.RingRequestsArePerformedAndAnswered := by
  unfold Obligations.RingRequestsArePerformedAndAnswered
  refine ⟨?_, ?_, ?_, ?_⟩
  · intro row s id w found typ a whole
    have served : ∀ (s : State) (id k : Nat), k ≤ 5 → exec (row id k) s = .next (s.serve id k) := by
      intro s id k hk
      interval_cases k <;> rfl
    clear_value row
    refine ⟨fun h => ?_, fun k hk hne => ?_, fun place turn unheld => ?_, fun k none y hy => ?_⟩
    · rw [served _ _ _ typ, serve_of_idle found (.inl h)]
    · rw [served _ _ _ hk, serve_of_idle found (.inr hne)]
    · have due : ¬s.requestIdle id w := by
        simp only [State.requestIdle, place, turn, unheld]
        decide
      rw [served _ _ _ typ]
      refine ⟨fun reach mapped good port free => ?_, fun refused => ?_, fun reach h => ?_, fun reach mapped h => ?_,
        fun reach mapped good h => ?_, fun reach mapped good port fill room => ?_, fun reach mapped good port fill full => ?_⟩
      · have performed := serve_perform found due reach mapped good port free
        refine ⟨fun h => ?_, fun h => ?_, fun h2 h => ?_, fun h not => ?_⟩
        · have k : w.typ.toNat = 0 := congrArg BitVec.toNat h
          rw [k] at performed
          rw [served _ _ _ (by omega), performed, perform_read s h]
        · have k : w.typ.toNat = 1 := congrArg BitVec.toNat h
          rw [k] at performed
          rw [served _ _ _ (by omega), performed, perform_write s h]
        · rw [performed]
          by_cases h4 : w.typ.toNat ≤ 4
          · rw [perform_atomic s h2 h4 good]
            rfl
          · rw [perform_or_whole s (by omega) good (h.resolve_left h4)]
            rfl
        · have k : w.typ.toNat = 5 := congrArg BitVec.toNat h
          rw [k] at performed
          rw [served _ _ _ (by omega), performed, perform_or_half s k not] <;> rfl
      · exact ⟨fun n src site running => congrArg _ (serve_noAccess_running found due refused src site running),
          fun idle => congrArg _ (serve_noAccess found due refused idle)⟩
      · rw [serve_unmapped found due reach h]
      · rw [serve_badAtomic found due reach mapped h]
      · rw [serve_padWaits found due reach mapped good h]
      · rw [serve_waitsFill found due reach mapped good port fill, if_neg (ne_true_of_eq_false room)]
      · rw [serve_waitsFill found due reach mapped good port fill, if_pos full]
    · rw [served _ _ _ hy, serve_of_no_worm none]
  · intro s id w found place turn
    have row := deliverRow_of_turn found place turn
    refine ⟨fun h => ?_, fun h => ?_, fun h => ?_, fun h => ?_, deliver_ctl s, fun i => deliver_spill s⟩
    all_goals
      rw [h] at row
      exact congrArg _ row
  · intro s id idle
    exact ⟨fun h => congrArg _ (deliverRow_of_idle h), fun h => congrArg _ (deliverRow_of_idle h),
      fun h => congrArg _ (deliverRow_of_idle h), fun h => congrArg _ (deliverRow_of_idle h)⟩
  · intro s k x
    refine ⟨fun a draining => ⟨stopDrainDone_swaps draining, fun h => ?_, stopDrainTimeout_of_draining draining⟩,
      stopDrain_of_not_draining, fun a => stopReconfigRetry_of_waiting, stopReconfigRetry_of_not_waiting⟩
    rw [stopDrainDone_of_draining draining, if_neg (ne_true_of_eq_false h)]

end Sys2Proof.Machine
end

section
set_option Elab.async false
/-! What reception makes of a chain frame: the arrival rule, the CRC count of a port, and the shape that the rows of relayed messages,
events, tokens and breaks share. -/

namespace Sys2Proof.Machine

/-! ### The arrival rule (R385 to R388, R399) -/

theorem sentIt_countCrc (c : ChainState) (f : ChainFrame) : (c.countCrc f).sentIt f = c.sentIt f := by
  unfold ChainState.countCrc
  split
  · rfl
  split <;> rfl

/-- The frame is the unit's own, gone round. -/
abbrev ownFrame (c : ChainState) (f : ChainFrame) : Prop := c.sentIt f = true ∧ f.crcOk = true

theorem arrive_own {c : ChainState} {f : ChainFrame} (own : ownFrame c f) : c.arrive f = ⟨false, true, c⟩ := by
  obtain ⟨sent, ok⟩ := own
  have keeps : c.countCrc f = c := if_pos ok
  unfold ChainState.arrive
  rw [keeps]
  exact if_pos (by rw [sent, ok]; rfl)

theorem not_ownFrame_guard {c : ChainState} {f : ChainFrame} (other : ¬ownFrame c f) :
    ¬((c.countCrc f).sentIt f && f.crcOk) = true := by
  rw [sentIt_countCrc, Bool.and_eq_true]
  exact other

theorem arrive_seen {c : ChainState} {f : ChainFrame} (other : ¬ownFrame c f) (head : c.head = true) (seen : f.seen = true) :
    c.arrive f = ⟨false, false, { c.countCrc f with seenDrops := satInc (c.countCrc f).seenDrops }⟩ := by
  obtain ⟨-, -, heads⟩ := countCrc_keeps c f
  unfold ChainState.arrive
  exact (if_neg (not_ownFrame_guard other)).trans (if_pos (by rw [heads, head, seen]; rfl))

section
variable {c : ChainState} {f : ChainFrame} (other : ¬ownFrame c f) (fresh : c.head = false ∨ f.seen = false)
include other fresh

theorem arrive_fresh :
    c.arrive f =
      let d := c.countCrc f
      let mine := d.destines f
      let takes := d.gatewayTakes f
      let out := if takes && uaSegment f.src == uaSegment d.ua || f.dst == uaBroadcast && uaSegment f.src == uaSegment d.ua
        then (d.gwPeers f).map fun p => (p, f) else []
      let e := if f.valid then { d with datagrams := out ++ d.datagrams } else d
      let e := if (f.crcOk && takes) || (mine && f.dst != uaBroadcast) then e else e.passOn f
      if mine && !f.valid then ⟨false, false, e.discard⟩ else ⟨mine, false, e⟩ := by
  obtain ⟨-, -, heads⟩ := countCrc_keeps c f
  have kept : ¬((c.countCrc f).head && f.seen) = true := by
    rw [heads, Bool.and_eq_true]
    rintro ⟨h, k⟩
    rcases fresh with n | n
    · exact ne_true_of_eq_false n h
    · exact ne_true_of_eq_false n k
  exact (if_neg (not_ownFrame_guard other)).trans (if_neg kept)

theorem arrive_valid (good : f.valid = true) :
    c.arrive f =
      let d := c.countCrc f
      let home := uaSegment f.src == uaSegment c.ua
      let out := if d.gatewayTakes f && home || f.dst == uaBroadcast && home then (d.gwPeers f).map fun p => (p, f) else []
      ⟨d.destines f, false,
        let e := { d with datagrams := out ++ d.datagrams }
        if d.gatewayTakes f || (d.destines f && f.dst != uaBroadcast) then e else e.passOn f⟩ := by
  obtain ⟨-, ua, -⟩ := countCrc_keeps c f
  have ok : f.crcOk = true := (Bool.and_eq_true_iff.mp good).2
  rw [arrive_fresh other fresh]
  simp only [good, ok, ua, if_true, Bool.not_true, Bool.and_false, Bool.false_eq_true, if_false, Bool.true_and]

theorem arrive_invalid (bad : f.valid = false) :
    c.arrive f =
      let d := c.countCrc f
      let e := if (f.crcOk && d.gatewayTakes f) || (d.destines f && f.dst != uaBroadcast) then d else d.passOn f
      ⟨false, false, if d.destines f then e.discard else e⟩ := by
  rw [arrive_fresh other fresh]
  simp only [bad, Bool.false_eq_true, if_false, Bool.not_false, Bool.and_true]
  cases mine : (c.countCrc f).destines f with
  | true => rfl
  | false => rfl

end

/-! ### Counting bad CRCs (R387, R393) -/

theorem afterCrc_of_crcOk (s : State) {f : ChainFrame} (h : f.crcOk = true) : s.afterCrc f = s := if_pos h

theorem afterCrc_of_bad (s : State) {f : ChainFrame} (h : f.crcOk = false) :
    s.afterCrc f =
      let p : ChainPort := if f.forward then .cynIn else .cynOut
      let l := ((s.power.ps :: (s.chain.port p).crcAt).filter fun t => decide (s.power.ps < t + 1000000000)).take 16
      let u : State := { s with chain := s.chain.setPort p { s.chain.port p with crcAt := l } }
      if 16 ≤ l.length then u.portBreak p else u :=
  if_neg (ne_true_of_eq_false h)

theorem countCrc_of_bad (c : ChainState) {f : ChainFrame} (h : f.crcOk = false) :
    c.countCrc f =
      let p : ChainPort := if f.forward then .cynIn else .cynOut
      c.setPort p { c.port p with crc := satInc (c.port p).crc } := by
  refine (if_neg (ne_true_of_eq_false h)).trans ?_
  cases f.forward with
  | true => rfl
  | false => rfl

/-! ### The shape of a row that takes frames of one TYPE -/

/-- The frame is of another row of reception: of another TYPE, or an event of another KIND. -/
abbrev otherRow (f : ChainFrame) (typ kind : Nat) : Prop :=
  (f.typ ≠ typ ∧ 0x31 ≤ f.typ ∧ f.typ ≤ 0x38) ∨
    ((typ = 0x35 ∧ f.typ = 0x35) ∧ fld f.payload 0 1 ≠ kind ∧ 1 ≤ fld f.payload 0 1 ∧ fld f.payload 0 1 ≤ 4)

/-- A frame that comes in the reverse direction is retimed. -/
def State.retimed (s : State) (f : ChainFrame) : State :=
  ({ s with chain := (s.chain.countCrc f).emitBack f } : State).afterCrc f

/-- A forward frame has arrived: gone round, acted on, or neither. -/
def State.frameHeard (s : State) (f : ChainFrame) (act : State → State) : State :=
  let u : State := { s with chain := (s.chain.arrive f).chain }
  if (s.chain.arrive f).own then u.returned f else if (s.chain.arrive f).act then act u else u.afterCrc f

theorem chainRx_eq (s : State) (f : ChainFrame) (typ : Nat) (act : State → State) :
    s.chainRx f typ act =
      if f.typ ≠ typ ∧ 0x31 ≤ f.typ ∧ f.typ ≤ 0x38 then s
      else if s.chain.forwardRx f = false then s.retimed f else s.frameHeard f act := by
  unfold State.chainRx
  simp only [knownType, decide_eq_true_eq]
  rfl

theorem rxEvent_eq (s : State) (f : ChainFrame) (kind : Nat) (act : State → State) :
    s.rxEvent f kind act =
      if otherRow f 0x35 kind then s
      else if s.chain.forwardRx f = false then s.retimed f
      else s.frameHeard f fun u => if fld f.payload 0 1 = kind then act u else u := by
  unfold State.rxEvent
  rw [chainRx_eq]
  by_cases h : f.typ = 0x35 ∧ fld f.payload 0 1 ≠ kind ∧ 1 ≤ fld f.payload 0 1 ∧ fld f.payload 0 1 ≤ 4
  · exact (if_pos h).trans (if_pos (.inr ⟨⟨rfl, h.1⟩, h.2⟩)).symm
  · refine (if_neg h).trans ?_
    by_cases o : f.typ ≠ 0x35 ∧ 0x31 ≤ f.typ ∧ f.typ ≤ 0x38
    · exact (if_pos o).trans (if_pos (.inl o)).symm
    · refine (if_neg o).trans (if_neg ?_).symm
      rintro (k | ⟨⟨-, t⟩, k⟩)
      · exact o k
      · exact h ⟨t, k⟩

/-- The unit acts on the frame in state `u`. -/
abbrev State.arrives (s : State) (f : ChainFrame) (u : State) : Prop :=
  s.chain.forwardRx f = true ∧ (s.chain.arrive f).own = false ∧ (s.chain.arrive f).act = true ∧ u = { s with chain := (s.chain.arrive f).chain }

theorem frameHeard_act {s u : State} {f : ChainFrame} (h : s.arrives f u) (act : State → State) : s.frameHeard f act = act u := by
  obtain ⟨-, own, acts, rfl⟩ := h
  exact (if_neg (ne_true_of_eq_false own)).trans (if_pos acts)

theorem chainRx_arrives {s u : State} {f : ChainFrame} (h : s.arrives f u) (act : State → State) : s.chainRx f f.typ act = act u := by
  rw [chainRx_eq, if_neg (fun o => o.1 rfl), if_neg (ne_false_of_eq_true h.1), frameHeard_act h]

theorem rxEvent_arrives {s u : State} {f : ChainFrame} (h : s.arrives f u) (typ : f.typ = 0x35) {kind : Nat}
    (k : fld f.payload 0 1 = kind) (act : State → State) : s.rxEvent f kind act = act u := by
  have here : ¬otherRow f 0x35 kind := by
    rintro (o | ⟨-, o, -⟩)
    · exact o.1 typ
    · exact o k
  rw [rxEvent_eq, if_neg here, if_neg (ne_false_of_eq_true h.1), frameHeard_act h]
  exact if_pos k

/-- A token to this unit that its CRC shows lost. -/
abbrev State.lostToken (s : State) (f : ChainFrame) : Prop :=
  f.typ = 0x36 ∧ s.chain.forwardRx f = true ∧ f.crcOk = false ∧ s.chain.addressed = true ∧ f.dst = s.chain.ua

/-- The rows that act on one TYPE of frame, and those of one KIND of event. -/
abbrev isFrameRow (f : ChainFrame) (r : Instr × Nat × Nat) : Prop :=
  r ∈ [(.mbxFrame f, 0x32, 0), (.mbxAckFrame f, 0x33, 0), (.chainStart f, 0x35, 1), (.chainStop f, 0x35, 2), (.chainTrigger f, 0x35, 3),
    (.siteRollback f, 0x35, 4), (.linkHinge f, 0x36, 0), (.breakFrame f, 0x38, 0)]

/-- One row of reception, with what it does to a frame it acts on. -/
abbrev State.frameRow (s : State) (f : ChainFrame) (typ kind : Nat) (act : State → State) : State :=
  if otherRow f typ kind then s else if s.chain.forwardRx f = false then s.retimed f else s.frameHeard f act

theorem chainRx_row (s : State) (f : ChainFrame) {typ : Nat} (h : typ ≠ 0x35) (act : State → State) :
    s.chainRx f typ act = s.frameRow f typ 0 act := by
  rw [chainRx_eq]
  by_cases o : f.typ ≠ typ ∧ 0x31 ≤ f.typ ∧ f.typ ≤ 0x38
  · exact (if_pos o).trans (if_pos (.inl o)).symm
  · refine (if_neg o).trans (if_neg ?_).symm
    rintro (k | ⟨⟨t, -⟩, -⟩)
    · exact o k
    · exact h t

theorem linkHinge_kept {s : State} {f : ChainFrame} (h : ¬s.lostToken f) :
    exec (.linkHinge f) s = .next (s.chainRx f 0x36 fun u => u.rxToken f true) :=
  congrArg _ (if_neg h)

theorem linkHinge_lost {s : State} {f : ChainFrame} (h : s.lostToken f) :
    exec (.linkHinge f) s =
      .next ((({ s with chain := (s.chain.countCrc f).discard } : State).rxToken f false).afterCrc f) :=
  congrArg _ (if_pos h)

/-- Every row of reception has the one shape, but for a lost token; a frame of another KIND is left alone when it is acted on. -/
theorem frameRow_row {f : ChainFrame} {r : Instr × Nat × Nat} (hr : isFrameRow f r) (s : State) (kept : r.2.1 = 0x36 → ¬s.lostToken f) :
    ∃ act : State → State, exec r.1 s = .next (s.frameRow f r.2.1 r.2.2 act) ∧
      (r.2.1 = 0x35 → fld f.payload 0 1 ≠ r.2.2 → ∀ u, act u = u) := by
  have event (kind : Nat) (act : State → State) :
      s.rxEvent f kind act = s.frameRow f 0x35 kind (fun u => if fld f.payload 0 1 = kind then act u else u) ∧
        ((0x35 : Nat) = 0x35 → fld f.payload 0 1 ≠ kind → ∀ u, (if fld f.payload 0 1 = kind then act u else u) = u) :=
    ⟨rxEvent_eq .., fun _ h _ => if_neg h⟩
  simp only [isFrameRow, List.mem_cons, List.not_mem_nil, or_false] at hr
  rcases hr with rfl | rfl | rfl | rfl | rfl | rfl | rfl | rfl
  · exact ⟨_, congrArg _ (chainRx_row s f (by decide) _), fun h => nomatch h⟩
  · exact ⟨_, congrArg _ (chainRx_row s f (by decide) _), fun h => nomatch h⟩
  · exact ⟨_, congrArg _ (event 1 _).1, (event 1 _).2⟩
  · exact ⟨_, congrArg _ (event 2 _).1, (event 2 _).2⟩
  · exact ⟨_, congrArg _ (event 3 _).1, (event 3 _).2⟩
  · exact ⟨_, congrArg _ (event 4 _).1, (event 4 _).2⟩
  · exact ⟨_, (linkHinge_kept (kept rfl)).trans (congrArg _ (chainRx_row s f (by decide) _)), fun h => nomatch h⟩
  · exact ⟨_, congrArg _ (chainRx_row s f (by decide) _), fun h => nomatch h⟩

section
variable {f : ChainFrame} {r : Instr × Nat × Nat} (hr : isFrameRow f r) (s : State)
include hr

theorem frameRow_other (other : otherRow f r.2.1 r.2.2) : exec r.1 s = .next s := by
  have kept : r.2.1 = 0x36 → ¬s.lostToken f := by
    rintro t ⟨typ, -⟩
    rcases other with o | ⟨⟨e, -⟩, -⟩
    · exact o.1 (typ.trans t.symm)
    · rw [t] at e
      cases e
  obtain ⟨act, eq, -⟩ := frameRow_row hr s kept
  rw [eq, State.frameRow, if_pos other]

theorem frameRow_back (here : ¬otherRow f r.2.1 r.2.2) (back : s.chain.forwardRx f = false) : exec r.1 s = .next (s.retimed f) := by
  obtain ⟨act, eq, -⟩ := frameRow_row hr s (fun _ h => ne_true_of_eq_false back h.2.1)
  rw [eq, State.frameRow, if_neg here, if_pos back]

theorem frameRow_forward (here : ¬otherRow f r.2.1 r.2.2) (fwd : s.chain.forwardRx f = true) (kept : r.2.1 = 0x36 → ¬s.lostToken f) :
    let u : State := { s with chain := (s.chain.arrive f).chain }
    ((s.chain.arrive f).own = true → exec r.1 s = .next (u.returned f)) ∧
    ((s.chain.arrive f).own = false → (s.chain.arrive f).act = false → exec r.1 s = .next (u.afterCrc f)) ∧
    ((s.chain.arrive f).own = false → (s.chain.arrive f).act = true → r.2.1 = 0x35 ∧ f.typ = 0x35 → fld f.payload 0 1 ≠ r.2.2 →
      exec r.1 s = .next u) := by
  obtain ⟨act, eq, idle⟩ := frameRow_row hr s kept
  rw [State.frameRow, if_neg here, if_neg (ne_false_of_eq_true fwd)] at eq
  rw [eq]
  intro u
  refine ⟨fun own => congrArg _ (if_pos own),
    fun own acts => congrArg _ ((if_neg (ne_true_of_eq_false own)).trans (if_neg (ne_true_of_eq_false acts))), fun own acts event k => ?_⟩
  rw [frameHeard_act ⟨fwd, own, acts, rfl⟩, idle event.1 k]

end

end Sys2Proof.Machine
end

section
set_option Elab.async false
/-! Relayed messages, chain events, tokens and breaks: what each row does with a frame it acts on. -/

namespace Sys2Proof.Machine

/-! ### Relayed messages (R396) -/

theorem exec_mbxRetransmit (s : State) (i : Nat) : exec (.mbxRetransmit i) s = execMbxRetransmit i s := rfl

theorem mbxFrame_arrives {s u : State} {f : ChainFrame} (h : s.arrives f u) (typ : f.typ = 0x32) :
    exec (.mbxFrame f) s =
      .next (let t := if mbxResp f then u.takeResponse f else u.takeCommand f
             if t.1 then t.2.ackMbx f else t.2) := by
  have row := chainRx_arrives h fun v =>
    let (ok, t) := if mbxResp f then v.takeResponse f else v.takeCommand f
    if ok then t.ackMbx f else t
  rw [typ] at row
  exact congrArg _ row

/-- The slot that keeps the first fragment of the frame's command. -/
def State.heldSlot (u : State) (f : ChainFrame) : Option (Nat × Option RelaySlot) :=
  u.chain.slots.find? fun e =>
    match e.2 with | some r => r.from_ == f.src && r.seq == mbxSeq f && r.bcast == (f.dst == uaBroadcast) | none => false

/-- The SEQ of the frame's sender is known from now on. -/
def ChainState.heardSeq (c : ChainState) (f : ChainFrame) : ChainState := { c with rxSeq := tset none c.rxSeq (rxKey f) (some (mbxSeq f)) }

/-- The last fragment joins what slot `n` keeps, and the command is complete. -/
def State.joinFragment (u : State) (f : ChainFrame) (n : Nat) (r : RelaySlot) : State :=
  let r' : RelaySlot := { r with cmd := r.cmd ++ f.payload, ready := true }
  ({ u with chain := ChainState.heardSeq { u.chain with slots := tset none u.chain.slots n (some r') } f } : State).slotReady n r'

/-- What a free slot keeps of a first fragment. -/
def firstSlot (f : ChainFrame) : RelaySlot :=
  { from_ := f.src, seq := mbxSeq f, cmd := f.payload, ready := mbxLast f, bcast := f.dst == uaBroadcast, waits := none }

/-- The chain's state when a first fragment has taken the first free slot. -/
def ChainState.keepFirst (c : ChainState) (f : ChainFrame) : ChainState :=
  { c with slots := tset none c.slots c.freeSlot (some (firstSlot f)) }

theorem takeCommand_eq (u : State) (f : ChainFrame) :
    u.takeCommand f =
      if tget none u.chain.rxSeq (rxKey f) = some (mbxSeq f) then (true, u)
      else
        match u.heldSlot f with
        | some (n, some r) => if mbxFrag f = 0 then (true, u) else (true, u.joinFragment f n r)
        | _ =>
          if mbxFrag f ≠ 0 then (false, u)
          else if mbxLast f then
            (true, ({ u with chain := ChainState.heardSeq (ChainState.keepFirst u.chain f) f } : State).slotReady u.chain.freeSlot (firstSlot f))
          else (true, { u with chain := ChainState.keepFirst u.chain f }) := rfl

theorem takeCommand_known {u : State} {f : ChainFrame} (h : tget none u.chain.rxSeq (rxKey f) = some (mbxSeq f)) :
    u.takeCommand f = (true, u) := if_pos h

section
variable {u : State} {f : ChainFrame} (fresh : tget none u.chain.rxSeq (rxKey f) ≠ some (mbxSeq f))
include fresh

theorem takeCommand_again {n : Nat} {r : RelaySlot} (held : u.heldSlot f = some (n, some r)) (frag : mbxFrag f = 0) :
    u.takeCommand f = (true, u) := by
  rw [takeCommand_eq, if_neg fresh, held]
  exact if_pos frag

theorem takeCommand_joined {n : Nat} {r : RelaySlot} (held : u.heldSlot f = some (n, some r)) (frag : mbxFrag f ≠ 0) :
    u.takeCommand f = (true, u.joinFragment f n r) := by
  rw [takeCommand_eq, if_neg fresh, held]
  exact if_neg frag

theorem takeCommand_tail (held : u.heldSlot f = none) (frag : mbxFrag f ≠ 0) : u.takeCommand f = (false, u) := by
  rw [takeCommand_eq, if_neg fresh, held]
  exact if_pos frag

theorem takeCommand_first (held : u.heldSlot f = none) (frag : mbxFrag f = 0) :
    u.takeCommand f =
      (true,
        if mbxLast f then
          ({ u with chain := ChainState.heardSeq (ChainState.keepFirst u.chain f) f } : State).slotReady u.chain.freeSlot (firstSlot f)
        else { u with chain := ChainState.keepFirst u.chain f }) := by
  rw [takeCommand_eq, if_neg fresh, held]
  refine (if_neg (not_not_intro frag)).trans ?_
  cases mbxLast f with
  | true => rfl
  | false => rfl

end

theorem takeResponse_unasked {u : State} {f : ChainFrame} (h : u.relayOf f false = none) :
    u.takeResponse f =
      (true,
        if tget none u.chain.rxSeq (rxKey f) = some (mbxSeq f) then u
        else ({ u with chain := ChainState.heardSeq u.chain f } : State).takeReport f) := by
  unfold State.takeResponse
  rw [h]
  rfl

section
variable {u : State} {f : ChainFrame} {r : Relay} (h : u.relayOf f false = some r)
include h

theorem takeResponse_tail (frag : mbxFrag f ≠ 0) (first : r.resp = []) : u.takeResponse f = (false, u) := by
  unfold State.takeResponse
  rw [h]
  exact if_pos ⟨frag, first⟩

theorem takeResponse_taken (taken : mbxFrag f = 0 ∨ r.resp ≠ []) :
    u.takeResponse f =
      let b := if mbxFrag f = 0 then f.payload else r.resp ++ f.payload
      (true,
        if fld b 0 2 ≠ fld r.cmd 0 2 ∨ fld b 2 2 ≠ fld r.cmd 2 2 then u.takeReport f
        else if mbxLast f then (u.dropRelay r).answer r b
        else u.setRelay r { r with resp := f.payload }) := by
  have go : ¬(mbxFrag f ≠ 0 ∧ r.resp = []) := fun k => taken.elim k.1 fun n => n k.2
  unfold State.takeResponse
  rw [h]
  exact if_neg go

end

theorem mbxAckFrame_arrives {s u : State} {f : ChainFrame} (h : s.arrives f u) (typ : f.typ = 0x33) :
    exec (.mbxAckFrame f) s =
      .next (match u.relayOf f (mbxResp f) with
        | none => u
        | some r =>
          let left := r.unacked.filter (· != mbxFrag f)
          if left.isEmpty && (r.isResp || r.owner == .none) then u.dropRelay r else u.setRelay r { r with unacked := left }) := by
  have row := chainRx_arrives h fun v =>
    match v.relayOf f (mbxResp f) with
    | none => v
    | some r =>
      let left := r.unacked.filter (· != mbxFrag f)
      if left.isEmpty && (r.isResp || r.owner == .none) then v.dropRelay r else v.setRelay r { r with unacked := left }
  rw [typ] at row
  exact congrArg _ row

/-- A fragment sent again is one frame more; the relays and the count of retries stay. -/
theorem sendFragment_keeps (s : State) (ua : BitVec 18) (seq : BitVec 8) (resp : Bool) (bs : List Byte) (i : Nat) :
    (s.sendFragment ua seq resp bs i).chain.mbxRetry = s.chain.mbxRetry ∧
      (s.sendFragment ua seq resp bs i).chain.sent.length = s.chain.sent.length + 1 ∧
      (s.sendFragment ua seq resp bs i).chain.relays = s.chain.relays := by
  unfold State.sendFragment State.send ChainState.emit
  cases s.chain.out.broken with
  | true => exact ⟨rfl, rfl, rfl⟩
  | false => exact ⟨rfl, rfl, rfl⟩

theorem foldl_sendFragment_keeps (ua : BitVec 18) (seq : BitVec 8) (resp : Bool) (bs : List Byte) (l : List Nat) (s : State) :
    let t := l.foldl (fun s k => s.sendFragment ua seq resp bs k) s
    t.chain.mbxRetry = s.chain.mbxRetry ∧ t.chain.sent.length = s.chain.sent.length + l.length ∧ t.chain.relays = s.chain.relays := by
  induction l generalizing s with
  | nil => exact ⟨rfl, rfl, rfl⟩
  | cons k l ih =>
    obtain ⟨retry, sent, relays⟩ := sendFragment_keeps s ua seq resp bs k
    obtain ⟨retry', sent', relays'⟩ := ih (s.sendFragment ua seq resp bs k)
    refine ⟨retry'.trans retry, ?_, relays'.trans relays⟩
    rw [List.foldl_cons, sent', sent, List.length_cons]
    omega

section
variable {s : State} {i : Nat} {r : Relay} (found : s.chain.relays[i]? = some r)
include found

theorem mbxRetransmit_eq :
    exec (.mbxRetransmit i) s =
      .next (if r.unacked = [] then s
        else if 9 ≤ r.tries then (s.dropRelay r).failRelay r Code.CH_RELAY_TIMEOUT
        else
          let u := s.setRelay r { r with tries := r.tries + 1 }
          r.unacked.foldl (fun s k => s.sendFragment r.ua r.seq r.isResp r.cmd k)
            { u with chain := { u.chain with mbxRetry := satAdd u.chain.mbxRetry r.unacked.length } }) := by
  rw [exec_mbxRetransmit, execMbxRetransmit]
  simp only [found]

theorem mbxRetransmit_sends (left : r.unacked ≠ []) (again : r.tries ≤ 8) :
    ∃ t, exec (.mbxRetransmit i) s = .next t ∧ t.chain.mbxRetry = satAdd s.chain.mbxRetry r.unacked.length ∧
      t.chain.sent.length = s.chain.sent.length + r.unacked.length ∧
      t.chain.relays = s.chain.relays.map fun x => if x = r then { r with tries := r.tries + 1 } else x :=
  ⟨_, (mbxRetransmit_eq found).trans (congrArg _ ((if_neg left).trans (if_neg (by omega)))), foldl_sendFragment_keeps ..⟩

end

theorem mbxRetransmit_idle {s : State} {i : Nat} (h : ∀ r, s.chain.relays[i]? = some r → r.unacked = []) :
    exec (.mbxRetransmit i) s = .next s := by
  cases found : s.chain.relays[i]? with
  | none =>
    rw [exec_mbxRetransmit, execMbxRetransmit]
    simp only [found]
  | some r => exact (mbxRetransmit_eq found).trans (congrArg _ (if_pos (h r found)))

/-! ### Chain events (R398) and breaks (R393) -/

theorem exec_chainStart (s : State) (f : ChainFrame) : exec (.chainStart f) s = execChainStart f s := rfl

theorem exec_chainStop (s : State) (f : ChainFrame) : exec (.chainStop f) s = execChainStop f s := rfl

theorem exec_chainTrigger (s : State) (f : ChainFrame) : exec (.chainTrigger f) s = execChainTrigger f s := rfl

theorem exec_siteRollback (s : State) (f : ChainFrame) : exec (.siteRollback f) s = execSiteRollback f s := rfl

section
variable {s u : State} {f : ChainFrame} (h : s.arrives f u) (typ : f.typ = 0x35)
include h typ

theorem chainStart_arrives (kind : fld f.payload 0 1 = 1) :
    exec (.chainStart f) s =
      .next (((u.namedSites (evSites f) (evImage f)).filter fun n => (u.site n).state == .armed).foldl (fun v n => v.startSite n) u) := by
  rw [exec_chainStart, execChainStart, rxEvent_arrives h typ kind]

theorem chainStop_arrives (kind : fld f.payload 0 1 = 2) :
    exec (.chainStop f) s =
      .next (((u.namedSites (evSites f) (evImage f)).filter fun n => (u.site n).img.root && (u.site n).startAt.isSome).foldl
        (fun v n => v.tellParts n 0x0305 (runPay (v.site n).img 0)) (u.stopSites (u.namedSites (evSites f) (evImage f)))) := by
  rw [exec_chainStop, execChainStop, rxEvent_arrives h typ kind]

theorem chainTrigger_arrives (kind : fld f.payload 0 1 = 3) :
    exec (.chainTrigger f) s =
      .next (((u.listeners (evId f)).foldl
        (fun v i => match v.siteOf i with | some n => v.fireExternal n i (v.trig i).slot 0x20 | none => v) u).mapFlags (evId f)) := by
  rw [exec_chainTrigger, execChainTrigger, rxEvent_arrives h typ kind] <;> rfl

theorem siteRollback_arrives (kind : fld f.payload 0 1 = 4) :
    exec (.siteRollback f) s =
      .next (match u.ownSite (evImage f) with
        | none => u
        | some n =>
          if (u.site n).state = .running ∧ (u.site n).img.depth ≠ 0 ∧ (u.site n).ra.oldest ≤ evCycle f ∧
              evCycle f ≤ (u.site n).cycle.toNat then u.actOnDiv n (evCycle f) 0 else u) := by
  rw [exec_siteRollback, execSiteRollback, rxEvent_arrives h typ kind] <;> rfl

theorem siteRollback_acts (kind : fld f.payload 0 1 = 4) {n : Nat} (own : u.ownSite (evImage f) = some n)
    (acts : (u.site n).state = .running ∧ (u.site n).img.depth ≠ 0 ∧ (u.site n).ra.oldest ≤ evCycle f ∧
      evCycle f ≤ (u.site n).cycle.toNat) : exec (.siteRollback f) s = .next (u.actOnDiv n (evCycle f) 0) := by
  rw [siteRollback_arrives h typ kind, own]
  exact congrArg _ (if_pos acts)

theorem siteRollback_idle (kind : fld f.payload 0 1 = 4)
    (idle : ∀ n, u.ownSite (evImage f) = some n → ¬((u.site n).state = .running ∧ (u.site n).img.depth ≠ 0 ∧
      (u.site n).ra.oldest ≤ evCycle f ∧ evCycle f ≤ (u.site n).cycle.toNat)) : exec (.siteRollback f) s = .next u := by
  rw [siteRollback_arrives h typ kind]
  cases own : u.ownSite (evImage f) with
  | none => rfl
  | some n => exact congrArg _ (if_neg (idle n own))

end

theorem breakFrame_arrives {s u : State} {f : ChainFrame} (h : s.arrives f u) (typ : f.typ = 0x38) :
    exec (.breakFrame f) s =
      .next (if u.chain.head then u.breakReport f.src (f.aux % 2) (fld f.payload 0 2) (bit f.aux 1) else u) := by
  have row := chainRx_arrives h fun v =>
    if v.chain.head then v.breakReport f.src (f.aux % 2) (fld f.payload 0 2) (bit f.aux 1) else v
  rw [typ] at row
  exact congrArg _ row

theorem mem_listeners (s : State) (i id : Nat) :
    i ∈ s.listeners id ↔ i < 64 ∧ (s.trig i).state = .ready ∧ (s.trig i).cfg.exten = true ∧ id ≠ 0 ∧ (s.trig i).cfg.listen.toNat = id ∧
      (s.siteOf i).isSome = true := by
  simp only [State.listeners, List.mem_filter, List.mem_range, Bool.and_eq_true, beq_iff_eq, bne_iff_ne, and_assoc]

/-! ### Tokens (R125) -/

theorem rxToken_eq (u : State) (f : ChainFrame) (good : Bool) :
    u.rxToken f good =
      match u.ownSite (fld f.payload 8 8) with
      | none => u
      | some n =>
        if fld f.payload 2 6 = (u.site n).cycle.toNat then
          u.hingeToken n (.chain (f.aux % 1024)) (fld f.payload 0 1 % 8) (BitVec.ofNat 16 (fld f.payload 2 2)) good
        else u := by
  unfold State.rxToken
  cases u.ownSite (fld f.payload 8 8) with
  | none => rfl
  | some n => exact ite_not ..

theorem linkHinge_arrives {s u : State} {f : ChainFrame} (h : s.arrives f u) (typ : f.typ = 0x36) (ok : f.crcOk = true) :
    exec (.linkHinge f) s = .next (u.rxToken f true) := by
  have row := chainRx_arrives h fun v => v.rxToken f true
  rw [typ] at row
  exact (linkHinge_kept fun lost => ne_true_of_eq_false lost.2.2.1 ok).trans (congrArg _ row)

/-- Settles O52: the shape that the rows share gives what they do with a frame that is not theirs to act on, and each row's own work is
read off at a frame that arrives. -/
theorem chainFramesAreRelayedAndActedOn : Obligations.ChainFramesAreRelayedAndActedOn := by
  unfold Obligations.ChainFramesAreRelayedAndActedOn
  refine ⟨⟨?_, ?_, ?_⟩, ?_⟩
  · intro s f back u lost r hr event kind others
    have same : others ↔ otherRow f r.2.1 r.2.2 := Iff.rfl
    exact ⟨fun h => frameRow_other hr s h, fun here b => frameRow_back hr s here b,
      fun here fwd kept => frameRow_forward hr s here fwd fun t l => kept t l⟩
  · intro c f
    exact ⟨fun sent ok => arrive_own ⟨sent, ok⟩, fun other head seen => arrive_seen other head seen,
      fun other fresh => ⟨fun good => arrive_valid other fresh good, fun bad => arrive_invalid other fresh bad⟩⟩
  · intro s f
    exact ⟨fun ok => ⟨afterCrc_of_crcOk s ok, if_pos ok⟩, fun bad => ⟨afterCrc_of_bad s bad, countCrc_of_bad s.chain bad⟩⟩
  · intro arrives
    refine ⟨?_, ?_, ?_, ?_, ?_, ?_, ?_, ?_⟩
    · exact fun s u f h typ => mbxFrame_arrives h typ
    · intro u f
      refine ⟨takeCommand_known, fun fresh => ⟨fun n r held => ⟨takeCommand_again fresh held, takeCommand_joined fresh held⟩,
          fun held => ⟨takeCommand_tail fresh held, takeCommand_first fresh held⟩⟩,
        fun none known => ?_, fun none fresh => ?_, fun r h => ⟨takeResponse_tail h, fun taken => ⟨fun other => ?_, fun same last => ?_,
          fun same last => ?_⟩⟩⟩
      · exact (takeResponse_unasked none).trans (congrArg _ (if_pos known))
      · exact (takeResponse_unasked none).trans (congrArg _ (if_neg fresh))
      · exact (takeResponse_taken h taken).trans (congrArg _ (if_pos (not_and_or.mp other)))
      · exact (takeResponse_taken h taken).trans
          (congrArg _ ((if_neg fun k => not_and_or.mpr k same).trans (if_pos last)))
      · exact (takeResponse_taken h taken).trans
          (congrArg _ ((if_neg fun k => not_and_or.mpr k same).trans (if_neg (ne_true_of_eq_false last))))
    · intro s u f h typ
      refine ⟨fun none => ?_, fun r found => ?_⟩
      · rw [mbxAckFrame_arrives h typ, mbxResp, none]
      · rw [mbxAckFrame_arrives h typ, mbxResp, found]
        simp only [List.isEmpty_iff, Bool.and_eq_true, Bool.or_eq_true, beq_iff_eq]
        rfl
    · exact fun s i => ⟨mbxRetransmit_idle, fun r found left =>
        ⟨fun often => (mbxRetransmit_eq found).trans (congrArg _ ((if_neg left).trans (if_pos often))), mbxRetransmit_sends found left⟩⟩
    · intro s u f h typ image id named tell
      exact ⟨chainStart_arrives h typ, chainStop_arrives h typ, chainTrigger_arrives h typ, fun kind =>
        ⟨fun n own acts => siteRollback_acts h typ kind own acts, fun idle => siteRollback_idle h typ kind idle⟩⟩
    · intro s u f h typ
      exact ⟨fun head => (breakFrame_arrives h typ).trans (congrArg _ (if_pos head)),
        fun other => (breakFrame_arrives h typ).trans (congrArg _ (if_neg (ne_true_of_eq_false other)))⟩
    · intro s f typ token
      have same : ∀ v good, v.rxToken f good = token v good := fun v good => rxToken_eq v f good
      refine ⟨fun u h ok => ?_, fun fwd bad addressed dst => ?_⟩
      · rw [linkHinge_arrives h typ ok, same]
      · rw [linkHinge_lost ⟨typ, fwd, bad, addressed, dst⟩, same]
    · exact mem_listeners

end Sys2Proof.Machine
end

section
set_option Elab.async false
/-! Answers in their channels, doorbells and channel resets, and what stands before a command acts. -/

namespace Sys2Proof.Machine

/-! ### An answer goes to its channel (R417, R426, R427) -/

/-- The channel with the answer in it. -/
def Channel.answered (c : Channel) (resp : List Byte) : Channel :=
  { c with state := .done, relayed := false, waits := none, resp := bytesAt resp 0 256 }

/-- A channel's interrupt is on a vector of its own: only messages, never the holdoff, follow it. -/
theorem setIrq_channel (h : HostState) (now : Nat) {n : Nat} (hn : n < 16) :
    ∃ st ms, h.setIrq now n = { h with irqStatus := st, msix := ms } ∧ getBit st n = true := by
  unfold HostState.setIrq
  extract_lets u
  split
  · next on => exact ⟨h.irqStatus, h.msix, rfl, on⟩
  have set : getBit u.irqStatus n = true := getBit_putBit_same _ _ _ (by omega)
  split
  · exact ⟨u.irqStatus, h.msix, rfl, set⟩
  · have vector : irqVector n = 1 + n := if_pos hn
    refine ⟨u.irqStatus, irqVector n :: h.msix, ?_, set⟩
    exact if_pos (by omega)

theorem setIrq_channel_chan (s : State) {n : Nat} (hn : n < 16) (j : Nat) : (s.setIrq n).chan j = s.chan j := by
  obtain ⟨st, ms, eq, -⟩ := setIrq_channel s.host s.power.ps hn
  unfold State.setIrq
  rw [eq]
  rfl

theorem channelDone_reset {s : State} {ch : Nat} (resp : List Byte) (irq : Bool) (pend : (s.chan ch).resetPend = true) :
    s.channelDone ch resp irq = s.setChan ch { s.chan ch with state := .idle, relayed := false, resetPend := false, waits := none } := by
  unfold State.channelDone
  simp only [pend, if_true, Bool.not_true, Bool.and_false, Bool.false_eq_true, if_false]

theorem channelDone_answered {s : State} {ch : Nat} (hn : ch < 16) (resp : List Byte) (irq : Bool) (kept : (s.chan ch).resetPend = false) :
    ∃ st ms, s.channelDone ch resp irq =
        { s with host := { s.host with chans := tset {} s.host.chans ch ((s.chan ch).answered resp), irqStatus := st, msix := ms } } ∧
      getBit st ch = (irq || getBit s.host.irqStatus ch) := by
  have done : s.channelDone ch resp irq =
      if irq then (s.setChan ch ((s.chan ch).answered resp)).setIrq ch else s.setChan ch ((s.chan ch).answered resp) := by
    unfold State.channelDone
    extract_lets c c' t
    have mine : c' = (s.chan ch).answered resp := if_neg (ne_true_of_eq_false kept)
    have asked : (irq && !c.resetPend) = irq := by rw [show c.resetPend = false from kept, Bool.not_false, Bool.and_true]
    rw [asked, show t = s.setChan ch ((s.chan ch).answered resp) from congrArg (s.setChan ch) mine]
  rw [done]
  cases irq with
  | false => exact ⟨s.host.irqStatus, s.host.msix, rfl, rfl⟩
  | true =>
    obtain ⟨st, ms, eq, on⟩ := setIrq_channel (s.setChan ch ((s.chan ch).answered resp)).host s.power.ps hn
    refine ⟨st, ms, ?_, on⟩
    exact congrArg (fun h => { s with host := h }) eq

/-- The answered channel, and every other one as before. -/
theorem channelDone_chan {s : State} {ch : Nat} (hn : ch < 16) (resp : List Byte) (irq : Bool) (kept : (s.chan ch).resetPend = false)
    (j : Nat) : (s.channelDone ch resp irq).chan j = if j = ch then (s.chan ch).answered resp else s.chan j := by
  obtain ⟨st, ms, eq, -⟩ := channelDone_answered hn resp irq kept
  rw [eq]
  exact tget_tset ..

theorem reply_channel (s : State) {q : Req} (hq : q.src < 16) (st : Status) (pay : List Byte) (tk : BitVec 32) :
    s.reply q st pay tk = s.channelDone q.src (respBytes q.opcode q.tag st pay tk s.chain.ua) (bit q.flags 0) := if_pos hq

theorem reply_clause (s : State) {q : Req} (hq : q.src < 16) (st : Status) (pay : List Byte) (tk : BitVec 32) :
    let t := s.reply q st pay tk
    let c := s.chan q.src
    (c.resetPend = false →
      (t.chan q.src).state = .done ∧
        (t.chan q.src).resp = bytesAt (respBytes q.opcode q.tag st pay tk s.chain.ua) 0 256 ∧
        getBit t.host.irqStatus q.src = (q.flags.testBit 0 || getBit s.host.irqStatus q.src)) ∧
      (c.resetPend = true → (t.chan q.src).state = .idle ∧ (t.chan q.src).resp = c.resp ∧ t.host.irqStatus = s.host.irqStatus) ∧
      (t.chan q.src).last = c.last ∧ (∀ j, j ≠ q.src → t.chan j = s.chan j) ∧
      t = { s with host := { s.host with chans := t.host.chans, irqStatus := t.host.irqStatus, msix := t.host.msix } } := by
  rw [reply_channel s hq]
  intro t c
  cases pend : c.resetPend with
  | true =>
    have done : t = s.setChan q.src { c with state := .idle, relayed := false, resetPend := false, waits := none } :=
      channelDone_reset _ _ pend
    have chans : ∀ j, t.chan j = if j = q.src then { c with state := .idle, relayed := false, resetPend := false, waits := none } else s.chan j :=
      fun j => (congrArg (·.chan j) done).trans (State.chan_setChan ..)
    have here := (chans q.src).trans (if_pos rfl)
    refine ⟨nofun, fun _ => ⟨by rw [here], by rw [here], by rw [done]; rfl⟩, by rw [here], fun j hj => (chans j).trans (if_neg hj), ?_⟩
    rw [done]
    rfl
  | false =>
    obtain ⟨irqs, ms, done, on⟩ :=
      channelDone_answered hq (respBytes q.opcode q.tag st pay tk s.chain.ua) (bit q.flags 0) pend
    have chans : ∀ j, t.chan j = if j = q.src then c.answered _ else s.chan j := channelDone_chan hq _ _ pend
    have status : t.host.irqStatus = irqs := congrArg (·.host.irqStatus) done
    have here := (chans q.src).trans (if_pos rfl)
    refine ⟨fun _ => ⟨by rw [here]; rfl, by rw [here]; rfl, by rw [status]; exact on⟩, nofun, by rw [here]; rfl,
      fun j hj => (chans j).trans (if_neg hj), ?_⟩
    rw [status, congrArg (·.host.msix) done, congrArg (·.host.chans) done]
    exact done

/-! ### The doorbell (R424) -/

/-- The channel that has taken its next command. -/
def Channel.accepting (c : Channel) : Channel :=
  { c with last := c.last + 1, state := .busy, copy := c.area, dbIgnored := false, relayed := false, resetPend := false, waits := none }

/-- What an IDLE or DONE channel makes of a SEQ. -/
def State.doorSeq (s : State) (ch : Nat) (seq : BitVec 16) : State :=
  if seq = (s.chan ch).last + 1 then (s.setChan ch (s.chan ch).accepting).screen ch
  else if (s.chan ch).state = .done ∧ seq = (s.chan ch).last then s.setIrq ch
  else s.wrongSeq ch

section
variable {s : State} {ch : Fin 16} {v : BitVec 32} (up : s.host.linkUp = true)
include up

theorem doorbell_ready (plain : getBit v 31 = false) (h : (s.chan ch.val).state = .idle ∨ (s.chan ch.val).state = .done) :
    exec (.mbxDoorbell ch v) s = .next (s.doorSeq ch.val (BitVec.ofNat 16 v.toNat)) := by
  have go : s.doorbell ch.val v.toNat = s.doorSeq ch.val (BitVec.ofNat 16 v.toNat) := by
    unfold State.doorbell State.doorSeq
    refine (if_neg (ne_true_of_eq_false plain)).trans ?_
    by_cases next : BitVec.ofNat 16 v.toNat = (s.chan ch.val).last + 1
    · rcases h with h | h <;> simp only [h, next, if_true, Channel.accepting]
    · rcases h with h | h <;> simp only [h, if_neg next]
  exact congrArg _ ((if_pos up).trans go)

theorem doorbell_busy (plain : getBit v 31 = false) (h : (s.chan ch.val).state = .busy) :
    exec (.mbxDoorbell ch v) s = .next (s.setChan ch.val { s.chan ch.val with dbIgnored := true }) := by
  have go : s.doorbell ch.val v.toNat = s.setChan ch.val { s.chan ch.val with dbIgnored := true } := by
    unfold State.doorbell
    refine (if_neg (ne_true_of_eq_false plain)).trans ?_
    simp only [h]
  exact congrArg _ ((if_pos up).trans go)

theorem doorbell_closed (plain : getBit v 31 = false) (h : (s.chan ch.val).state = .closed) :
    exec (.mbxDoorbell ch v) s = .next s := by
  have go : s.doorbell ch.val v.toNat = s := by
    unfold State.doorbell
    refine (if_neg (ne_true_of_eq_false plain)).trans ?_
    simp only [h]
  exact congrArg _ ((if_pos up).trans go)

theorem doorbell_reset (h : getBit v 31 = true) : exec (.mbxDoorbell ch v) s = .next (s.channelReset ch.val) :=
  congrArg _ ((if_pos up).trans (if_pos h))

end

/-- A channel that takes its next command is BUSY, or at once DONE where no row serves the command. -/
theorem doorSeq_next {s : State} {ch : Nat} (hch : ch < 16) {seq : BitVec 16} (next : seq = (s.chan ch).last + 1) :
    let t := s.doorSeq ch seq
    (∀ j, j ≠ ch → t.chan j = s.chan j) ∧ (t.chan ch).last = seq ∧ (t.chan ch).copy = (s.chan ch).area ∧
      ((parseReq ch s.chain.ua (s.chan ch).area).noRow = none → (t.chan ch).state = .busy) ∧
      ((parseReq ch s.chain.ua (s.chan ch).area).noRow ≠ none → (t.chan ch).state = .done) := by
  intro t
  have door : t = (s.setChan ch (s.chan ch).accepting).screen ch := if_pos next
  have here : (s.setChan ch (s.chan ch).accepting).chan ch = (s.chan ch).accepting := (State.chan_setChan ..).trans (if_pos rfl)
  have others : ∀ j, j ≠ ch → (s.setChan ch (s.chan ch).accepting).chan j = s.chan j :=
    fun j hj => (State.chan_setChan ..).trans (if_neg hj)
  have waiting : (s.setChan ch (s.chan ch).accepting).request ch = some (parseReq ch s.chain.ua (s.chan ch).area) := by
    refine (if_pos hch).trans ?_
    rw [here]
    exact if_pos ⟨rfl, rfl⟩
  rw [door, State.screen, waiting]
  cases row : (parseReq ch s.chain.ua (s.chan ch).area).noRow with
  | none =>
    simp only [row, here]
    exact ⟨others, next.symm, rfl, fun _ => rfl, fun h => absurd rfl h⟩
  | some st =>
    simp only [row]
    have chans := channelDone_chan (s := s.setChan ch (s.chan ch).accepting) hch
      (respBytes (parseReq ch s.chain.ua (s.chan ch).area).opcode (parseReq ch s.chain.ua (s.chan ch).area).tag st [] 0 s.chain.ua)
      (bit (parseReq ch s.chain.ua (s.chan ch).area).flags 0) (by rw [here]; rfl)
    have reply := reply_channel (s.setChan ch (s.chan ch).accepting) (q := parseReq ch s.chain.ua (s.chan ch).area) hch st [] 0
    have mine := (chans ch).trans (if_pos rfl)
    rw [here] at mine
    rw [reply]
    refine ⟨fun j hj => ((chans j).trans (if_neg hj)).trans (others j hj), ?_, ?_, nofun, fun _ => ?_⟩
    · exact (congrArg Channel.last mine).trans next.symm
    · exact congrArg Channel.copy mine
    · exact congrArg Channel.state mine

theorem doorSeq_again {s : State} {ch : Nat} {seq : BitVec 16} (h : (s.chan ch).state = .done) (same : seq = (s.chan ch).last) :
    s.doorSeq ch seq = s.setIrq ch := by
  have other : ¬seq = (s.chan ch).last + 1 := by
    rw [same]
    bv_omega
  exact (if_neg other).trans (if_pos ⟨h, same⟩)

theorem doorSeq_wrong {s : State} {ch : Nat} {seq : BitVec 16} (other : seq ≠ (s.chan ch).last + 1)
    (h : ¬((s.chan ch).state = .done ∧ seq = (s.chan ch).last)) : s.doorSeq ch seq = s.wrongSeq ch :=
  (if_neg other).trans (if_neg h)

theorem leNat_leBytes_two (x : BitVec 16) : leNat (leBytes x.toNat 2) = x.toNat := by
  rw [leNat_leBytes]
  exact Nat.mod_eq_of_lt x.isLt

/-- An answer of two payload bytes, read back from its channel. -/
theorem fld_respBytes (op tag : Nat) (st : Status) (v : BitVec 16) (tk : BitVec 32) (ua : BitVec 18) :
    fld (bytesAt (respBytes op tag st (leBytes v.toNat 2) tk ua) 0 256) 4 2 = st.toNat ∧
      fld (bytesAt (respBytes op tag st (leBytes v.toNat 2) tk ua) 0 256) 16 2 = v.toNat :=
  ⟨leNat_leBytes_two st, leNat_leBytes_two v⟩

theorem wrongSeq_others (s : State) {ch : Nat} (hch : ch < 16) {j : Nat} (hj : j ≠ ch) : (s.wrongSeq ch).chan j = s.chan j := by
  unfold State.wrongSeq
  cases pend : (s.chan ch).resetPend with
  | true =>
    rw [channelDone_reset _ _ pend]
    exact (State.chan_setChan ..).trans (if_neg hj)
  | false => exact (channelDone_chan hch _ _ pend j).trans (if_neg hj)

theorem wrongSeq_answers (s : State) {ch : Nat} (hch : ch < 16) (kept : (s.chan ch).resetPend = false) :
    ((s.wrongSeq ch).chan ch).state = .done ∧ ((s.wrongSeq ch).chan ch).last = (s.chan ch).last ∧
      fld ((s.wrongSeq ch).chan ch).resp 4 2 = Code.ST_MBX_SEQ.toNat ∧
      fld ((s.wrongSeq ch).chan ch).resp 16 2 = ((s.chan ch).last + 1).toNat := by
  have mine : (s.wrongSeq ch).chan ch = (s.chan ch).answered
      (respBytes (fld (s.chan ch).area 0 2) (fld (s.chan ch).area 2 2) Code.ST_MBX_SEQ (leBytes ((s.chan ch).last + 1).toNat 2) 0 s.chain.ua) :=
    (channelDone_chan hch _ _ kept ch).trans (if_pos rfl)
  rw [mine]
  obtain ⟨status, seq⟩ := fld_respBytes (fld (s.chan ch).area 0 2) (fld (s.chan ch).area 2 2) Code.ST_MBX_SEQ ((s.chan ch).last + 1) 0 s.chain.ua
  exact ⟨rfl, rfl, status, seq⟩

theorem doorSeq_others (s : State) {ch : Nat} (hch : ch < 16) (seq : BitVec 16) {j : Nat} (hj : j ≠ ch) :
    (s.doorSeq ch seq).chan j = s.chan j := by
  by_cases next : seq = (s.chan ch).last + 1
  · exact (doorSeq_next hch next).1 j hj
  by_cases again : (s.chan ch).state = .done ∧ seq = (s.chan ch).last
  · rw [doorSeq_again again.1 again.2]
    exact setIrq_channel_chan s hch j
  · rw [doorSeq_wrong next again]
    exact wrongSeq_others s hch hj

theorem doorbell_clause (s : State) (ch : Fin 16) (v : BitVec 32) (up : s.host.linkUp = true) (plain : getBit v 31 = false) :
    let c := s.chan ch.val
    let seq : BitVec 16 := BitVec.ofNat 16 v.toNat
    ∃ t : State, exec (.mbxDoorbell ch v) s = .next t ∧ (∀ j, j ≠ ch.val → t.chan j = s.chan j) ∧
      ((c.state = .idle ∨ c.state = .done) → seq = c.last + 1 →
        (t.chan ch.val).last = seq ∧ (t.chan ch.val).copy = c.area ∧
          ((parseReq ch.val s.chain.ua c.area).noRow = none → (t.chan ch.val).state = .busy) ∧
          ((parseReq ch.val s.chain.ua c.area).noRow ≠ none → (t.chan ch.val).state = .done)) ∧
      (c.state = .done → seq = c.last → t = { s with host := s.host.setIrq s.power.ps ch.val }) ∧
      ((c.state = .idle ∨ c.state = .done) → c.resetPend = false → seq ≠ c.last + 1 → ¬(c.state = .done ∧ seq = c.last) →
        (t.chan ch.val).state = .done ∧ (t.chan ch.val).last = c.last ∧
          fld (t.chan ch.val).resp 4 2 = Code.ST_MBX_SEQ.toNat ∧ fld (t.chan ch.val).resp 16 2 = (c.last + 1).toNat) ∧
      (c.state = .busy → t = s.setChan ch.val { c with dbIgnored := true }) ∧
      (c.state = .closed → t = s) := by
  intro c seq
  have ready (h : c.state = .idle ∨ c.state = .done) := doorbell_ready up plain h
  have nexts (next : seq = c.last + 1) := (doorSeq_next ch.isLt next).2
  have agains (h : c.state = .done) (same : seq = c.last) : s.doorSeq ch.val seq = s.setIrq ch.val := doorSeq_again h same
  have wrongs (kept : c.resetPend = false) (other : seq ≠ c.last + 1) (h : ¬(c.state = .done ∧ seq = c.last)) :
      let t := s.doorSeq ch.val seq
      (t.chan ch.val).state = .done ∧ (t.chan ch.val).last = c.last ∧
        fld (t.chan ch.val).resp 4 2 = Code.ST_MBX_SEQ.toNat ∧ fld (t.chan ch.val).resp 16 2 = (c.last + 1).toNat := by
    intro t
    have door : t = s.wrongSeq ch.val := doorSeq_wrong other h
    rw [door]
    exact wrongSeq_answers s ch.isLt kept
  cases state : c.state with
  | idle =>
    exact ⟨_, ready (.inl state), fun j => doorSeq_others s ch.isLt seq, fun _ => nexts, nofun,
      fun _ kept other h => wrongs kept other (by rw [state]; exact h), nofun, nofun⟩
  | done =>
    exact ⟨_, ready (.inr state), fun j => doorSeq_others s ch.isLt seq, fun _ => nexts, fun _ => agains state,
      fun _ kept other h => wrongs kept other (by rw [state]; exact h), nofun, nofun⟩
  | busy =>
    exact ⟨_, doorbell_busy up plain state, fun j hj => (State.chan_setChan ..).trans (if_neg hj), fun h => absurd h (by decide), nofun,
      fun h => absurd h (by decide), fun _ => by rw [← state], nofun⟩
  | closed =>
    exact ⟨_, doorbell_closed up plain state, fun j hj => rfl, fun h => absurd h (by decide), nofun, fun h => absurd h (by decide), nofun, fun _ => rfl⟩

/-! ### The channel reset (R427) -/

theorem channelReset_busy {s : State} {ch : Nat} (h : (s.chan ch).state = .busy) :
    s.channelReset ch =
      if (s.chan ch).relayed then
        ({ s with chain := { s.chain with relays := s.chain.relays.filter fun r => r.owner != RelayOwner.chan ch } } : State).setChan ch
          { s.chan ch with state := .idle, relayed := false, waits := none }
      else s.setChan ch { s.chan ch with resetPend := true } := by
  generalize reset : s.channelReset ch = t
  unfold State.channelReset at reset
  extract_lets c at reset
  split at reset
  · next closed => cases closed.symm.trans h
  · exact reset.symm
  · next other => exact absurd h other

theorem channelReset_clause (s : State) (ch : Fin 16) (up : s.host.linkUp = true) :
    let c := s.chan ch.val
    ∃ t : State, exec (.mbxChannelReset ch) s = .next t ∧
      ((c.state = .idle ∨ c.state = .done) → t = s.setChan ch.val { c with state := .idle }) ∧
      (c.state = .busy → c.relayed = false → t = s.setChan ch.val { c with resetPend := true }) ∧
      (c.state = .busy → c.relayed = true → (t.chan ch.val).state = .idle ∧ (t.chan ch.val).last = c.last ∧ (t.chan ch.val).relayed = false ∧
        t.host.tickets = s.host.tickets) ∧
      (c.state = .closed → t = s) ∧
      ∀ v : BitVec 32, getBit v 31 = true → exec (.mbxDoorbell ch v) s = .next t := by
  intro c
  refine ⟨s.channelReset ch.val, congrArg _ (if_pos up), ?_, ?_, ?_, ?_, fun v => doorbell_reset up⟩
  · unfold State.channelReset
    rintro (h | h) <;> simp only [show (s.chan ch.val).state = _ from h] <;> rfl
  · exact fun h own => (channelReset_busy h).trans (if_neg (ne_true_of_eq_false own))
  · intro h relayed
    rw [channelReset_busy h, if_pos (show (s.chan ch.val).relayed = true from relayed), State.chan_setChan, if_pos rfl]
    exact ⟨rfl, rfl, rfl, rfl⟩
  · intro h
    unfold State.channelReset
    simp only [show (s.chan ch.val).state = _ from h]

/-! ### What stands before a command acts (R425, R430, R440, R441, R444, R475, R478) -/

/-- The row is a command's row: its body behind the checks of its specification. -/
abbrev isCommandRow (e : (Nat → Instr) × CmdSpec) : Prop :=
  ∃ body : State → Req → Reply, ∀ (s : State) (src : Nat), exec (e.1 src) s = .next (s.command src e.2 body)

section
variable {s : State} {src : Nat} {sp : CmdSpec} (body : State → Req → Reply)

theorem command_none (h : s.request src = none) : s.command src sp body = s := by
  unfold State.command
  rw [h]

variable {q : Req} (h : s.request src = some q)
include h

theorem command_otherRow (other : sp.fits q = false) : s.command src sp body = s := by
  unfold State.command
  rw [h]
  exact if_neg (ne_true_of_eq_false other)

variable (row : sp.fits q = true)
include row

theorem command_early {st : Status} (early : q.early s sp.bcast = some st) : s.command src sp body = s.reply q st [] 0 := by
  unfold State.command
  rw [h]
  refine (if_pos row).trans ?_
  rw [early]

variable (routed : q.early s sp.bcast = none)
include routed

theorem command_routed :
    s.command src sp body =
      if q.here s.chain.ua then s.runLocal q sp body
      else if q.everywhere then
        (if q.pay.length < sp.need then s.reply q Code.ST_BAD_PARAM [] 0
         else if q.clean sp.cov = false then s.reply q Code.ST_RESERVED_NONZERO [] 0
         else s.broadcast q body)
      else s.relay q := by
  unfold State.command
  rw [h]
  refine (if_pos row).trans ?_
  rw [routed]

theorem command_short (acts : q.here s.chain.ua = true ∨ q.everywhere = true) (short : q.pay.length < sp.need) :
    s.command src sp body = s.reply q Code.ST_BAD_PARAM [] 0 := by
  rw [command_routed body h row routed]
  cases here : q.here s.chain.ua with
  | true => exact (if_pos rfl).trans (if_pos short)
  | false =>
    rw [here] at acts
    exact (if_neg (by decide)).trans ((if_pos (acts.resolve_left (by decide))).trans (if_pos short))

theorem command_unclean (acts : q.here s.chain.ua = true ∨ q.everywhere = true) (long : sp.need ≤ q.pay.length)
    (unclean : q.clean sp.cov = false) : s.command src sp body = s.reply q Code.ST_RESERVED_NONZERO [] 0 := by
  rw [command_routed body h row routed]
  cases here : q.here s.chain.ua with
  | true => exact (if_pos rfl).trans ((if_neg (Nat.not_lt.mpr long)).trans (if_pos unclean))
  | false =>
    rw [here] at acts
    exact (if_neg (by decide)).trans
      ((if_pos (acts.resolve_left (by decide))).trans ((if_neg (Nat.not_lt.mpr long)).trans (if_pos unclean)))

theorem command_relayed (away : q.here s.chain.ua = false) (one : q.everywhere = false) : s.command src sp body = s.relay q := by
  rw [command_routed body h row routed, if_neg (ne_true_of_eq_false away), if_neg (ne_true_of_eq_false one)]

variable (long : sp.need ≤ q.pay.length) (clean : q.clean sp.cov = true)
include long clean

theorem command_checked (here : q.here s.chain.ua = true) :
    s.command src sp body =
      match s.accessAll (sp.doms s q) with
      | (.locked, u) => u.reply q Code.PW_DOMAIN_LOCKED [] 0
      | (.wait, u) => u.setWaits q.src (((sp.doms s q).find? fun d => (u.dom d).state != .on).getD 0)
      | (.go, u) => (body u q).answer q := by
  rw [command_routed body h row routed, if_pos here]
  exact (if_neg (Nat.not_lt.mpr long)).trans (if_neg (ne_false_of_eq_true clean))

theorem command_locked (here : q.here s.chain.ua = true) {u : State} (access : s.accessAll (sp.doms s q) = (.locked, u)) :
    s.command src sp body = u.reply q Code.PW_DOMAIN_LOCKED [] 0 := by
  rw [command_checked body h row routed long clean here, access]

theorem command_waits (here : q.here s.chain.ua = true) {u : State} (access : s.accessAll (sp.doms s q) = (.wait, u)) :
    s.command src sp body = u.setWaits q.src (((sp.doms s q).find? fun d => (u.dom d).state != .on).getD 0) := by
  rw [command_checked body h row routed long clean here, access]

theorem command_broadcast (away : q.here s.chain.ua = false) (all : q.everywhere = true) :
    s.command src sp body = s.broadcast q body := by
  rw [command_routed body h row routed, if_neg (ne_true_of_eq_false away), if_pos all, if_neg (Nat.not_lt.mpr long),
    if_neg (ne_false_of_eq_true clean)]

end

/-- What the checks of a command's row make of a request, whatever the command does. -/
theorem commandRow_clause {e : (Nat → Instr) × CmdSpec} (row : isCommandRow e) (s : State) (src : Nat) :
    let c := e.1 src
    let sp := e.2
    (s.request src = none → exec c s = .next s) ∧
    ∀ q, s.request src = some q →
      (sp.fits q = false → exec c s = .next s) ∧
      (sp.fits q = true →
        (∀ st, q.early s sp.bcast = some st → exec c s = .next (s.reply q st [] 0)) ∧
        (q.early s sp.bcast = none →
          ((q.here s.chain.ua = true ∨ q.everywhere = true) →
            (q.pay.length < sp.need → exec c s = .next (s.reply q Code.ST_BAD_PARAM [] 0)) ∧
            (sp.need ≤ q.pay.length → q.clean sp.cov = false → exec c s = .next (s.reply q Code.ST_RESERVED_NONZERO [] 0))) ∧
          (q.here s.chain.ua = true → sp.need ≤ q.pay.length → q.clean sp.cov = true → ∀ u,
            (s.accessAll (sp.doms s q) = (.locked, u) → exec c s = .next (u.reply q Code.PW_DOMAIN_LOCKED [] 0)) ∧
            (s.accessAll (sp.doms s q) = (.wait, u) → exec c s =
              .next (u.setWaits q.src (((sp.doms s q).find? fun d => (u.dom d).state != .on).getD 0)))) ∧
          (q.here s.chain.ua = false → q.everywhere = false → exec c s = .next (s.relay q)))) := by
  obtain ⟨body, run⟩ := row
  intro c sp
  rw [show exec c s = .next (s.command src sp body) from run s src]
  refine ⟨fun h => congrArg _ (command_none body h), fun q h => ⟨fun other => congrArg _ (command_otherRow body h other), fun fits =>
    ⟨fun st early => congrArg _ (command_early body h fits early), fun routed => ⟨fun acts => ⟨fun short => ?_, fun long unclean => ?_⟩,
      fun here long clean u => ⟨fun access => ?_, fun access => ?_⟩, fun away one => ?_⟩⟩⟩⟩
  · exact congrArg _ (command_short body h fits routed acts short)
  · exact congrArg _ (command_unclean body h fits routed acts long unclean)
  · exact congrArg _ (command_locked body h fits routed long clean here access)
  · exact congrArg _ (command_waits body h fits routed long clean here access)
  · exact congrArg _ (command_relayed body h fits routed away one)

/-! ### Commands for every unit (R397) -/

theorem broadcast_busy {s : State} {q : Req} (body : State → Req → Reply) (h : s.accepts (.bcast q.pay) = false) :
    s.broadcast q body = s.reply q Code.ST_BUSY [] 0 := by
  unfold State.broadcast
  rw [accept_busy h]
  have refused : Code.ST_BUSY ≠ Code.ST_ACCEPTED := by decide
  exact if_neg refused

theorem broadcast_accepted {s : State} {q : Req} (body : State → Req → Reply) (h : s.accepts (.bcast q.pay) = true) :
    s.broadcast q body =
      let n := (s.issue q (.bcast q.pay) false 0).nextSeq uaBroadcast
      let u : State := { n.2 with chain := { n.2.chain with bcasts := n.2.chain.bcasts ++ [(n.1, s.host.nextTicket)] } }
      let v := u.sendMbx uaBroadcast n.1 false (relayBytes (s.chan q.src).copy q.src)
      (body v { q with src := noSource }).s.reply q Code.ST_ACCEPTED [] s.host.nextTicket := by
  unfold State.broadcast
  rw [accept_cases, if_pos h]
  exact if_pos rfl

/-- Settles O20: an answer is followed into its channel, a doorbell through the channel's four states, and a command row through the
checks that all rows share; each listed row is such a row. -/
theorem responsesAndDoorbells : Obligations.ResponsesAndDoorbells := by
  unfold Obligations.ResponsesAndDoorbells
  refine ⟨fun s q st pay tk hq => reply_clause s hq st pay tk, ⟨doorbell_clause, channelReset_clause, fun s ch v down => ?_⟩, ?_, ?_⟩
  · exact ⟨congrArg _ (if_neg (ne_true_of_eq_false down)), congrArg _ (if_neg (ne_true_of_eq_false down))⟩
  · intro rows1 rows2 rows3 rows4 rows5 rows6 rows7 rows8 rows9 rows10 rows11 rows12 rows13 rows14 rows15 e mem
    refine commandRow_clause ?_
    revert e
    simp only [rows1, rows2, rows3, rows4, rows5, rows6, rows7, rows8, rows9, rows10, rows11, rows12, rows13, rows14, rows15,
      List.forall_mem_append, List.forall_mem_cons, List.not_mem_nil, IsEmpty.forall_iff, implies_true, and_true]
    and_intros
    all_goals exact ⟨_, fun _ _ => rfl⟩
  · intro rows e mem s src q h sp fits early away all long clean
    have run : exec (e.1 src) s = .next (s.command src e.2.1 e.2.2) := by
      simp only [rows, List.mem_cons, List.not_mem_nil, or_false] at mem
      rcases mem with rfl | rfl | rfl <;> rfl
    have bcast : e.2.1.bcast = true := by
      simp only [rows, List.mem_cons, List.not_mem_nil, or_false] at mem
      rcases mem with rfl | rfl | rfl <;> rfl
    rw [run, command_broadcast e.2.2 h fits (by rw [bcast]; exact early) long clean away all]
    exact ⟨fun busy => congrArg _ (broadcast_busy _ busy), fun room => congrArg _ (broadcast_accepted _ room)⟩

end Sys2Proof.Machine
end

section
set_option Elab.async false
/-! Stream samples between link and ring: the blocks of a receive stream, the fetches of a transmit stream, and the obligation. -/

namespace Sys2Proof.Machine

/-! ### One block to the ring (R321) -/

/-- One block of 128 samples, when `p` is what reading RD has given and `a` is where the block goes. -/
def rxStored (k : Nat) (st : Stream) (a : Nat) (p : Nat × State) : State :=
  let v := p.2.setStream k (some { st with rxBuf := st.rxBuf.drop 128, idx := st.idx + 128 })
  let w := (if st.idx + 128 ≤ p.1 + st.rlen then v.memWrite a ((st.rxBuf.take 128).flatMap fun w => leBytes w.toNat 4)
    else v.streamLoss st st.idx 128).cbWrite st 0 8 (st.idx + 128)
  if (st.idx + 128) % st.blk = 0 then w.streamFlag st else w

theorem rxBlock_eq (s : State) (k : Nat) (st : Stream) :
    s.rxBlock k st = rxStored k st (casAddr st.cas st.ring + 4 * (st.idx % st.rlen)) (s.cbRead st 8 8) := by
  suffices sealed : ∀ f, State.rxBlock = f → f s k st = rxStored k st (casAddr st.cas st.ring + 4 * (st.idx % st.rlen)) (s.cbRead st 8 8)
    from sealed _ rfl
  intro f hf
  delta State.rxBlock at hf
  rw [← hf]
  beta_reduce
  generalize s.cbRead st 8 8 = p
  obtain ⟨rd, t⟩ := p
  delta rxStored State.ringWrite
  generalize casAddr st.cas st.ring = a
  rfl

/-! ### Samples on their way to the converters (R317, R323, R324) -/

theorem shape_interp (st : Stream) (i : Nat) (w : Word) : (st.shape i w).2.interp = st.interp := by
  unfold Stream.shape
  split
  · rfl
  split
  · rfl
  · dsimp only
    split <;> rfl

theorem phases_length (st : Stream) (n r m : Nat) : (st.phases n r m).1.length = m ∧ (st.phases n r m).2.interp = st.interp := by
  induction m generalizing st r with
  | zero => exact ⟨rfl, rfl⟩
  | succ m ih =>
    obtain ⟨len, interp⟩ := ih (st.shape (n * st.interp + r) (st.firOut st.hist r)).2 (r + 1)
    exact ⟨congrArg (· + 1) len, interp.trans (shape_interp ..)⟩

/-- Each input sample leaves as `interp` outputs. -/
theorem send_length (st : Stream) (n : Nat) (xs : List Word) : (st.send n xs).1.length = xs.length * st.interp := by
  induction xs generalizing st n with
  | nil => exact (Nat.zero_mul _).symm
  | cons x xs ih =>
    unfold Stream.send
    extract_lets st₁ st₂
    have kept : st₂.interp = st.interp := by
      simp only [st₂, st₁]
      split <;> rfl
    obtain ⟨len, interp⟩ := phases_length st₂ n 0 st₂.interp
    have rest := ih (st₂.phases n 0 st₂.interp).2 (n + 1)
    have both : ((st₂.phases n 0 st₂.interp).1 ++ ((st₂.phases n 0 st₂.interp).2.send (n + 1) xs).1).length = (xs.length + 1) * st.interp := by
      rw [List.length_append, rest, len, interp, kept, Nat.succ_mul, Nat.add_comm]
    exact both

/-! ### One fetch from the ring (R319, R321) -/

/-- How many of the block's samples are present. -/
abbrev txPresent (late : Bool) (st : Stream) (wr : Nat) : Nat := if late then 0 else min 128 (wr - st.idx)

/-- The block's samples, zero where none is present, when `b` is what the ring has given. -/
abbrev txSamples (m : Nat) (b : List Byte) : List Word :=
  (List.range m).map (fun j => BitVec.ofNat 32 (fld b (4 * j) 4)) ++ List.replicate (128 - m) 0

/-- The stream has sent a block of which `m` samples are present, when `r` is what reading the ring has given. -/
def txSent (k : Nat) (st : Stream) (m : Nat) (r : List Byte × Bool × State) : State :=
  let y := st.send st.idx (txSamples m r.1)
  let live := y.2.bursts.filter fun b => decide ((st.idx + 128) * st.interp < b.first + b.len)
  let out := y.1.map fun x => match r.2.2.slink st.link with | some l => l.trim x | none => x
  let v := (r.2.2.setStream k (some { y.2 with txOut := out, idx := st.idx + 128, started := true, bursts := live })).cbWrite st 8 8
    (st.idx + 128)
  if m < 128 then v.streamLoss st (st.idx + m) (128 - m) else v

/-- The stream has fetched a block and sent it, when `p` is what reading WR has given and `a` is where the block stands. -/
def txFetched (k : Nat) (late : Bool) (st : Stream) (a : Nat) (p : Nat × State) : State :=
  let m := txPresent late st p.1
  txSent k st m (p.2.memRead a (4 * m))

/-- The state that the fetch reads from: the stream starts with it where it has not. -/
def txStarted (st : Stream) (w : State) : State :=
  if st.started then w else
    (w.streamStart st).modLanes (match w.slink st.link with | some l => l.laneList | none => []) fun x =>
      { x with phy := { x.phy with lastTx := w.stamp } }

theorem txStarted_eq (st : Stream) (w : State) :
    txStarted st w =
      if st.started then w
      else (w.streamStart st).modLanes ((w.slink st.link).map (·.laneList) |>.getD []) fun x =>
        { x with phy := { x.phy with lastTx := w.stamp } } := by
  unfold txStarted
  cases w.slink st.link with
  | none => rfl
  | some l => rfl

theorem txSamples_length {m : Nat} (h : m ≤ 128) (b : List Byte) : (txSamples m b).length = 128 := by
  rw [List.length_append, List.length_map, List.length_range, List.length_replicate]
  omega

theorem txPresent_le (late : Bool) (st : Stream) (wr : Nat) : txPresent late st wr ≤ 128 := by
  cases late with
  | true => exact Nat.zero_le _
  | false => exact Nat.min_le_left ..

section
variable {s : State} {k : Fin 256} {st : Stream} (late : Bool) (found : s.stream k.val = some st) (tx : st.rx = false)
include found tx

theorem streamTxFetch_tx :
    execStreamTxFetch k late s =
      .next (if st.started = false ∧ s.time.ns < st.start then
          s.setStream k.val (some { st with txOut := List.replicate (128 * st.interp) 0 })
        else if s.streamHeld st = true then s
        else
          match s.louvreTake (s.streamStop st).1 (s.streamStop st).2 9 with
          | none => s
          | some w => txFetched k.val late st (casAddr st.cas st.ring + 4 * (st.idx % st.rlen)) ((txStarted st w).cbRead st 0 8)) := by
  obtain ⟨f, hf⟩ : ∃ f, execStreamTxFetch = f := ⟨_, rfl⟩
  obtain ⟨read, hread⟩ : ∃ g, State.cbRead = g := ⟨_, rfl⟩
  obtain ⟨address, haddress⟩ : ∃ g, casAddr = g := ⟨_, rfl⟩
  rw [hf]
  delta execStreamTxFetch at hf
  rw [hread, haddress] at hf ⊢
  rw [← hf]
  beta_reduce
  rw [found]
  refine congrArg _ ((if_neg (ne_true_of_eq_false tx)).trans ?_)
  refine ite_congr rfl (fun _ => rfl) fun _ => ite_congr rfl (fun _ => rfl) fun _ => ?_
  cases s.louvreTake (s.streamStop st).1 (s.streamStop st).2 9 with
  | none => rfl
  | some w =>
    have start := txStarted_eq st w
    dsimp only at start ⊢
    rw [← start]
    generalize read (txStarted st w) st 0 8 = p
    generalize address st.cas st.ring = a
    obtain ⟨wr, t⟩ := p
    delta txFetched txSent
    dsimp only
    generalize t.memRead (a + 4 * (st.idx % st.rlen)) (4 * txPresent late st wr) = r
    obtain ⟨b, e, t'⟩ := r
    rfl

theorem streamTxFetch_early (early : st.started = false ∧ s.time.ns < st.start) :
    exec (.streamTxFetch k late) s = .next (s.setStream k.val (some { st with txOut := List.replicate (128 * st.interp) 0 })) := by
  rw [exec_streamTxFetch, streamTxFetch_tx late found tx, if_pos early]

variable (due : ¬(st.started = false ∧ s.time.ns < st.start))
include due

theorem streamTxFetch_waits (h : s.streamHeld st = true ∨ s.louvreTake (s.streamStop st).1 true 9 = none) :
    exec (.streamTxFetch k late) s = .next s := by
  rw [exec_streamTxFetch, streamTxFetch_tx late found tx, if_neg due, streamStop_vc2, tx, Bool.not_false]
  obtain held | none_ := h
  · rw [if_pos held]
  · rw [none_]
    exact congrArg _ (ite_self s)

theorem streamTxFetch_sends {w : State} (free : s.streamHeld st = false) (tokens : s.louvreTake (s.streamStop st).1 true 9 = some w) :
    exec (.streamTxFetch k late) s =
      .next (txFetched k.val late st (casAddr st.cas st.ring + 4 * (st.idx % st.rlen)) ((txStarted st w).cbRead st 0 8)) := by
  rw [exec_streamTxFetch, streamTxFetch_tx late found tx, if_neg due, if_neg (ne_true_of_eq_false free), streamStop_vc2, tx,
    Bool.not_false, tokens]

end

theorem streamTxFetch_nothing {s : State} {k : Fin 256} (late : Bool) (h : ∀ st, s.stream k.val = some st → st.rx = true) :
    exec (.streamTxFetch k late) s = .next s := by
  rw [exec_streamTxFetch, execStreamTxFetch]
  cases found : s.stream k.val with
  | none => rfl
  | some st => exact congrArg _ (if_pos (h st found))

theorem streamTxFetch_clause (s : State) (k : Fin 256) (late : Bool) :
    ((∀ st, s.stream k.val = some st → st.rx = true) → exec (.streamTxFetch k late) s = .next s) ∧
    ∀ st, s.stream k.val = some st → st.rx = false →
      let early := st.started = false ∧ s.time.ns < st.start
      (early → exec (.streamTxFetch k late) s =
        .next (s.setStream k.val (some { st with txOut := List.replicate (128 * st.interp) 0 }))) ∧
      (¬early → s.streamHeld st = true ∨ s.louvreTake (s.streamStop st).1 true 9 = none → exec (.streamTxFetch k late) s = .next s) ∧
      ∀ w, ¬early → s.streamHeld st = false → s.louvreTake (s.streamStop st).1 true 9 = some w →
        let u := txStarted st w
        let m := txPresent late st (u.cbRead st 0 8).1
        let r := (u.cbRead st 0 8).2.memRead (casAddr st.cas st.ring + 4 * (st.idx % st.rlen)) (4 * m)
        exec (.streamTxFetch k late) s = .next (txSent k.val st m r) ∧ (st.send st.idx (txSamples m r.1)).1.length = 128 * st.interp := by
  refine ⟨streamTxFetch_nothing late, fun st found tx => ⟨streamTxFetch_early late found tx, streamTxFetch_waits late found tx,
    fun w due free tokens => ⟨streamTxFetch_sends late found tx due free tokens, ?_⟩⟩⟩
  rw [send_length, txSamples_length (txPresent_le ..)]

theorem streamRxBlock_clause (s : State) (k : Fin 256) :
    ((∀ st, s.stream k.val = some st → st.rx = false ∨ st.rxBuf.length < 128 ∨ s.streamHeld st = true) →
      exec (.streamRxBlock k) s = .next s) ∧
    ∀ st, s.stream k.val = some st → st.rx = true → 128 ≤ st.rxBuf.length → s.streamHeld st = false →
      (s.louvreTake (s.streamStop st).1 false 9 = none → exec (.streamRxBlock k) s = .next s) ∧
      ∀ u, s.louvreTake (s.streamStop st).1 false 9 = some u →
        exec (.streamRxBlock k) s =
          .next (rxStored k.val st (casAddr st.cas st.ring + 4 * (st.idx % st.rlen)) (u.cbRead st 8 8)) := by
  refine ⟨streamRxBlock_nothing, fun st found rx full free => ?_⟩
  obtain ⟨waits, goes⟩ := streamRxBlock_ready found rx full free
  exact ⟨waits, fun u tokens => (goes u tokens).trans (congrArg _ (rxBlock_eq ..))⟩

/-- A link's SYSREF edge, in the three cases of its clock. -/
theorem sysrefLink_clause (clk : Nat) (u : State) (i : Nat) :
    (u.slink i = none → u.sysrefLink clk i = u) ∧
    ∀ l, u.slink i = some l →
      (l.lemc = none → u.sysrefLink clk i = u.setSlink i (some { l with lemc := some clk })) ∧
      ∀ c, l.lemc = some c →
        ((l.monitor = false ∨ (clk - c) * 100 * l.rate % (l.e * 2112 * 15625) = 0) → u.sysrefLink clk i = u) ∧
        (l.monitor = true → (clk - c) * 100 * l.rate % (l.e * 2112 * 15625) ≠ 0 →
          u.sysrefLink clk i =
            (u.setSlink i (some { l with sysrefErr := satInc l.sysrefErr })).postLane Code.ST_OK 0xFF l.l0 4 0 0) := by
  refine ⟨sysrefLink_none clk, fun l found => ⟨sysrefLink_aligns clk found, fun c clock => ?_⟩⟩
  rw [sysrefLink_checks clk found clock]
  refine ⟨fun h => if_neg ?_, fun monitor off => if_pos ⟨monitor, onLemc_eq_false.mpr off⟩⟩
  rintro ⟨monitor, off⟩
  obtain not | on := h
  · exact ne_false_of_eq_true monitor not
  · exact onLemc_eq_false.mp off on

/-- What a stream makes of a multiblock, before its start and after (R319, R322). -/
theorem rxDeliver_clause (s : State) (l : StreamLink) (ok : Bool) (ws : List (BitVec 32)) (k : Nat) (st : Stream) :
    let starts := l.mb = 0 ∧ st.start ≤ s.time.ns
    let u := if st.started then s else s.streamStart st
    let xs := l.samplesOf st.j ws
    let put (ys : List Word) : State := u.setStream k (some { st with started := true, rxBuf := st.rxBuf ++ ys })
    let v := if l.lock then put xs else (put (xs.map fun _ => 0)).streamLoss st (st.idx + st.rxBuf.length) xs.length
    (st.started = false → ¬starts → s.rxDeliver l ok ws k st = s) ∧
    (st.started = true ∨ starts → s.rxDeliver l ok ws k st = crcChecked ok st v) ∧
    xs = ((List.range ws.length).filter fun i => i / l.s % (l.m / 2) == st.j).map fun i => l.trim (ws.getD i 0) :=
  ⟨rxDeliver_waits ok ws k, rxDeliver_starts ok ws k, rfl⟩

/-- Settles O39: each row's guard is decided, and what it then does is read off, with a control block read named once. -/
theorem streamBlocksMoveBetweenLinkAndRing : Obligations.StreamBlocksMoveBetweenLinkAndRing := by
  unfold Obligations.StreamBlocksMoveBetweenLinkAndRing
  refine ⟨⟨fun s clk => ⟨rfl, sysrefLink_clause clk⟩, fun s x ok ws => ⟨streamRxMultiblock_nothing ok, fun l => streamRxMultiblock_delivers ok⟩,
    ?_, fun s x => ⟨streamLockLoss_nothing, lockReturn_nothing, fun l found rx => ⟨streamLockLoss_loses found rx, lockReturn_resumes found rx⟩⟩⟩,
    streamRxBlock_clause, streamTxFetch_clause⟩
  intro s l ok ws k st starts u xs put v
  obtain ⟨waits, goes, samples⟩ := rxDeliver_clause s l ok ws k st
  exact ⟨waits, fun h => ⟨fun good => (goes h).trans (if_pos good), fun bad => (goes h).trans (if_neg (ne_true_of_eq_false bad))⟩, samples⟩

end Sys2Proof.Machine
end
